-- ==== Sys2Proof/Word.lean ====
section
/-! DEFINITION. The word types of the device. Registers are 32 or 64 bits (R7), memory is bytes (R26). -/

namespace Sys2Proof

/-- One byte of memory, flash or a frame. -/
abbrev Byte := BitVec 8

/-- A 64-bit register or quantity. -/
abbrev Word64 := BitVec 64

/-- A byte string. -/
abbrev Bytes := List Byte

end Sys2Proof
end

