-- ==== Sys2Proof/Machine/PrickTypes.lean ====
section
/-! DEFINITION. The shapes of a pricking's entries (R69 to R83), as read from its bytes. Each entry carries the byte offset it
was read at, for PRK_ST.FAIL_OFS. -/

namespace Sys2Proof.Machine

/-- What a package offers, from its fuses (PKG_CAP). -/
structure Caps where
  motifs : Nat
  optC : Bool
  optE : Bool
  optW : Bool
  optX : Bool
  deriving DecidableEq, Repr, Inhabited

/-- PKG_CAP[3:0]. -/
def Caps.optBits (c : Caps) : Nat :=
  (if c.optC then 1 else 0) + (if c.optE then 2 else 0) + (if c.optW then 4 else 0) + (if c.optX then 8 else 0)

/-- PKG_CAP.MAX_M: 4 with option W, 2 without. -/
def Caps.maxM (c : Caps) : Nat := if c.optW then 4 else 2

/-- A section header (R72). -/
structure Section where
  ofs : Nat
  type : Nat
  version : Nat
  len : Nat
  count : Nat
  resv : Nat
  deriving DecidableEq, Repr, Inhabited

/-- A route entry (R73). -/
structure Route where
  ofs : Nat
  motif : Nat
  pattern : Nat
  stage : Nat
  kind : Nat
  inst : Nat
  classes : Nat
  flags : Nat
  resv : Nat
  buf : Nat
  deriving DecidableEq, Repr, Inhabited

/-- A class reservation record (R75). -/
structure ClassResv where
  ofs : Nat
  cls : Nat
  r1 : Nat
  ways : Nat
  r3 : Nat
  bw : Nat
  qslots : Nat
  admitMib : Nat
  r12 : Nat
  deriving DecidableEq, Repr, Inhabited

/-- A selector entry (R75). -/
structure Selector where
  ofs : Nat
  kind : Nat
  cls : Nat
  prio : Nat
  first : Nat
  last : Nat
  resv : Nat
  deriving DecidableEq, Repr, Inhabited

/-- A schedule entry (R77). -/
structure SchedEntry where
  ofs : Nat
  slot : Nat
  action : Nat
  phase : Nat
  period : Nat
  offset : Nat
  arg : Nat
  deriving DecidableEq, Repr, Inhabited

/-- A scratchpad partition entry (R78). -/
structure PartEntry where
  ofs : Nat
  motif : Nat
  scrWays : Nat
  r2 : Nat
  owner : List Nat
  r12 : Nat
  deriving DecidableEq, Repr, Inhabited

/-- A geometry record (R79). -/
structure Geometry where
  ofs : Nat
  k : Nat
  m : Nat
  flags : Nat
  r3 : Nat
  deriving DecidableEq, Repr, Inhabited

/-- A ground entry (R79). -/
structure GroundDef where
  ofs : Nat
  ground : Nat
  twin : Bool
  chunk4k : Bool
  verify : Bool
  flagsHi : Nat
  home : Nat
  geom : Nat
  pins : Nat
  patrolDays : Nat
  resv : Nat
  deriving DecidableEq, Repr, Inhabited

/-- A lock entry (R81). -/
structure LockEntry where
  ofs : Nat
  window : Nat
  block : Nat
  resv : Nat
  first : Nat
  last : Nat
  deriving DecidableEq, Repr, Inhabited

/-- A default entry (R82). -/
structure DefaultEntry where
  ofs : Nat
  window : Nat
  block : Nat
  width : Nat
  resv : Nat
  offset : Nat
  value : Nat
  mask : Nat
  deriving DecidableEq, Repr, Inhabited

/-- The content that the pair hash covers: the CLASS, SCHED and GROUND sections (R83). -/
structure PairPart where
  resv : List ClassResv
  sels : List Selector
  sched : List SchedEntry
  geoms : List Geometry
  grounds : List GroundDef
  deriving DecidableEq, Repr, Inhabited

/-- A pricking that passed every check of R84. -/
structure Pricking where
  format : Nat
  motifs : Nat
  optReq : Nat
  sections : Nat
  keySel : Nat
  roles : Nat
  totalLen : Nat
  serial : Nat
  rootHash : Bytes
  routes : List Route
  own : PairPart
  prior : Option PairPart
  parts : List PartEntry
  locks : List LockEntry
  defaults : List DefaultEntry
  pairHash : Bytes
  acceptHash : Bytes
  deriving DecidableEq, Repr, Inhabited

end Sys2Proof.Machine
end

