-- ==== Sys2Proof/Machine/Types.lean ====
section
/-! DEFINITION. The structured data of the device: what travels on the bride link, the write buffer, the grounds' work, the
module side of the bobbin protocol, connections, queues, and what leaves the block. Used both as operands of commands and as
parts of the state. -/

namespace Sys2Proof.Machine

/-- Who makes a register access: the host through PF1 BAR0, a hart of a motif, or a DMA mover or engine of a motif. -/
inductive Who where
  | host
  | core (motif hart : Nat)
  | engine (motif : Nat)
  deriving DecidableEq, Repr

/-- A symbol of the STITCH input (R48). -/
inductive Symbol where
  | zero | one | marker | bad
  deriving DecidableEq, Repr

/-- A stitch-number frame that has ended: broken by a frame error, or its 80 bits with the local number of its marker's stitch. -/
inductive FrameEnd where
  | broken
  | bits (syms : List Symbol) (markerNum : Nat)
  deriving DecidableEq, Repr

/-- A 16-byte entry of the stitch record (R114). -/
inductive RecEntry where
  | drop (motif ground mseq : Nat)
  | claim (ground claim : Nat)
  | ground (ground state unflushedMiB : Nat)
  | conn (id next acked : Nat)
  | qpos (ground qid head tail : Nat)
  | cache (motif bitmap lines : Nat)
  | journal (motif ground pos : Nat)
  | twin (conn seq : Nat)
  deriving DecidableEq, Repr

/-- A stitch record: the fixed part and its entries (R114); as sent, a part of `parts` parts with its share of them, and as received whole. -/
structure Record where
  part : Nat
  parts : Nat
  stitch : Nat
  txPhase : Nat
  stcState : Nat
  mode : Nat
  halive : Bool
  admitting : Bool
  rethread : Bool
  named : Bool
  staging : Bool
  prior : Bool
  headId : Nat
  numOfs : Nat
  namedStitch : Nat
  mirrorLimit : Nat
  entries : List RecEntry
  deriving DecidableEq, Repr, Inhabited

/-! ## Maps and the metadata journal -/

/-- A logical-map entry (R152). -/
structure LEntry where
  handle : Nat
  tags : List Nat
  deriving DecidableEq, Repr, Inhabited

/-- A content-table entry (R153). `state` is 0 FREE, 1 PACKED, 2 DURABLE. -/
structure CEntry where
  addr : Nat
  len : Nat
  refs : Nat
  slot : Nat
  state : Nat
  enc : Bool
  chunk4k : Bool
  poison : Nat
  deriving DecidableEq, Repr, Inhabited

/-- A media-map entry (R233). `state` is 0 UNMAPPED, 1 PACKING, 2 MAPPED, 3 LOST. -/
structure MEntry where
  state : Nat
  ground : Nat
  module : Nat
  lun : Nat
  block : Nat
  page : Nat
  member : Nat
  retried : Bool
  deriving DecidableEq, Repr, Inhabited

/-- A block descriptor (R234). -/
structure BlockDesc where
  erases : Nat
  reads : Nat
  band : Nat
  use : Nat
  ground : Nat
  deriving DecidableEq, Repr, Inhabited

/-- An erase block: module, LUN and block. -/
structure BlockId where
  module : Nat
  lun : Nat
  block : Nat
  deriving DecidableEq, Repr, Inhabited

/-- A band (R235, R236). `state` is 0 FREE, 1 OPEN, 2 FULL, 3 VICTIM, 4 COPIED, 5 ERASE_PENDING, 6 ERASING. `members` are its blocks in
member position order, `units` the stream units of its pages, `next` the next stripe to gather, `torn` the stripes of R262, `olds` the retired blocks that still hold the stripes below a number at a position (R245). -/
structure Band where
  num : Nat
  ground : Nat
  motif : Nat
  gc : Bool
  k : Nat
  m : Nat
  state : Nat
  members : List BlockId
  units : List Nat
  stripes : Nat
  next : Nat
  done : Nat
  torn : List Nat
  refresh : Bool
  wear : Bool
  olds : List (Nat × Nat × BlockId)
  erased : Nat
  deriving DecidableEq, Repr, Inhabited

/-- A namespace (R374). `pi` says LBAF1, `ext` extended metadata. -/
structure Namespace where
  id : Nat
  size : Nat
  pi : Bool
  ext : Bool
  ground : Nat
  view : Option Nat
  domain : Nat
  deriving DecidableEq, Repr, Inhabited

/-- A view (R335): `state` as RPL_VIEW_ST.STATE shows it; `root` gives the directory page of each directory index. It has the ground, key
domain and size of its namespace, also once that is gone. `left` are the pages that the walker has still to release for its deletion, with their levels. -/
structure View where
  left : List (Nat × Nat)
  id : Nat
  source : Nat
  state : Nat
  intern : Bool
  cut : Nat
  root : List (Nat × Nat)
  ground : Nat
  domain : Nat
  size : Nat
  deriving DecidableEq, Repr, Inhabited

/-- A directory page (R336): SHARE and the map page of each index. -/
structure DirPage where
  share : Nat
  kids : List (Nat × Nat)
  deriving DecidableEq, Repr, Inhabited

/-- A map page (R336): SHARE and its entries by index. -/
structure MapPage where
  share : Nat
  ents : List (Nat × LEntry)
  deriving DecidableEq, Repr, Inhabited

/-- The role of a module as MODSTATE records carry it (R260). -/
structure ModState where
  role : Nat
  fd : Nat
  cause : Nat
  deriving DecidableEq, Repr, Inhabited

/-- What a REPL record holds for a target (R340). -/
structure ReplState where
  epoch : Nat
  base : Nat
  cut : Nat
  deriving DecidableEq, Repr, Inhabited

/-- A connection descriptor (R307). -/
structure ConnDesc where
  remoteQpn : Nat
  spray : Bool
  twin : Bool
  ipv6 : Bool
  active : Bool
  rqPsn : Nat
  paths : Nat
  sqPsn : Nat
  pmtu : Nat
  ground : Nat
  cls : Nat
  dscp : Nat
  ackTimeout : Nat
  retryCnt : Nat
  rnrRetry : Nat
  remoteIp : Bytes
  remoteMac : Bytes
  sportBase : Nat
  pd : Nat
  twinId : Nat
  rqId : Nat
  deriving DecidableEq, Repr, Inhabited

/-- A journal record (R238, R260, R340). A CONN record (R308) names a connection with its descriptor and what it has become: 0 destroyed, 1 alive,
2 in ERROR. A logical-map record sets an entry for views that
take one result together (R343). A move is the CTAB record of content that a relocation moves or a loss poisons (R154). -/
inductive JRec where
  | lmap (views : List Nat) (chunk : Nat) (e : LEntry)
  | ctab (handle : Nat) (e : CEntry)
  | refs (handle : Nat) (delta : Int)
  | mmap (page : Nat) (e : MEntry)
  | band (b : Band)
  | block (id : BlockId) (d : BlockDesc)
  | nonce (gen block : Nat)
  | unit (idx : Nat) (taken : Bool)
  | stripeOpen (band stripe : Nat)
  | stripeDone (band stripe : Nat)
  | member (band pos : Nat) (id : BlockId)
  | modState (module : Nat) (m : ModState)
  | conn (id : Nat) (desc : ConnDesc) (what : Nat)
  | view (v : View)
  | walk (page level : Nat)
  | repl (target : Nat) (r : ReplState)
  | ns (n : Namespace)
  | nsGone (id : Nat)
  | roots (view : Nat) (adopt : List (Nat × Nat))
  | move (handle addr poison : Nat)
  deriving DecidableEq, Repr

/-! ## The bride link -/

/-- The descriptor and data of a MIRROR or RESYNC frame (R116). `dealloc` marks a frame of a deallocate, which has no data (R163);
`data` of a JOURNAL frame holds journal records of the transaction `txn`; the frame with its TXN_END is `last`, and its `recs` are the records of the transaction. -/
structure MirrorFrame where
  motif : Nat
  mseq : Nat
  ground : Nat
  first : Bool
  last : Bool
  atomic : Bool
  pi : Bool
  host : Bool
  journal : Bool
  dealloc : Bool
  nsid : Nat
  atom : Nat
  conn : Nat
  opSeq : Nat
  ackSeq : Nat
  atoms : Nat
  writeId : Nat
  result : Nat
  data : Bytes
  appTag : Nat
  guard : Nat
  recs : List JRec
  txn : Nat
  deriving DecidableEq, Repr, Inhabited

/-- The payload of a TRAIN_ID frame (R113); the probes are fabric-clock counts. -/
structure TrainId where
  hwType : Nat
  motifs : Nat
  opts : Nat
  headId : Nat
  mode : Nat
  unitId : Nat
  pairHash : Bytes
  acceptHash : Bytes
  probeTx : Nat
  probeEcho : Nat
  deriving DecidableEq, Repr, Inhabited

/-- One HAVE entry (R132). -/
structure HaveEntry where
  ground : Nat
  conn : Nat
  seq : Nat
  deriving DecidableEq, Repr, Inhabited

/-- The part of a frame header that the sequence rules use (R112): group, SEQ and ACKSEQ. -/
structure BrideHdr where
  group : Nat
  seq : Nat
  ack : Nat
  deriving DecidableEq, Repr, Inhabited

/-- What a bride frame carries. -/
inductive BridePay where
  | train (t : TrainId)
  | record (r : Record)
  | mirror (m : MirrorFrame)
  | haves (l : List HaveEntry)
  | handover (ground step claim : Nat) (entries : List RecEntry)
  | resync (m : MirrorFrame)
  deriving DecidableEq, Repr

/-- One bride group (R110, R113): lanes, sequence numbers of both directions, frames not yet acknowledged and frames that wait, and the last PROBE_TX received. -/
structure BrideGroup where
  lanes : Nat
  txSeq : Nat
  acked : Nat
  rxSeq : Nat
  unacked : List (Nat × BridePay)
  waiting : List BridePay
  probe : Nat
  deriving DecidableEq, Repr, Inhabited

/-- Where a write came from. -/
inductive WriteSrc where
  | host (qid cid : Nat)
  | fabric (conn qid cid opSeq : Nat)
  | rdma (conn opSeq : Nat)
  | internal
  deriving DecidableEq, Repr, Inhabited

/-- The states of R147. -/
inductive AtomState where
  | reserved | landing | landed | complete | flushing
  deriving DecidableEq, Repr, Inhabited

/-- A buffered atom (R147). `placed` says that all its bytes are there; `poison` that they carry an uncorrectable DRAM error (R406); `mseq` is the MSEQ of its MIRROR frame, 0
where it has none; `staged` says that the staging journal holds it; `dealloc` marks an atom deallocated by R163; `print` is the result of the tap on its chunk, held with the
chunk's last atom to land (R150, R199). -/
structure BufAtom where
  writeId : Nat
  ns : Nat
  ground : Nat
  cls : Nat
  atom : Nat
  motif : Nat
  data : Bytes
  guard : Nat
  appTag : Nat
  dealloc : Bool
  state : AtomState
  placed : Bool
  poison : Bool
  mseq : Nat
  staged : Bool
  done : Nat
  print : Option Bytes
  deriving DecidableEq, Repr, Inhabited

/-- A write: its range, source and standing. `state` is 0 waiting, 1 admitted, 2 complete, 3 acknowledged; `met` says that it has met the rule of R91 for the mode of the
moment and waits for earlier writes alone (R92). -/
structure Write where
  id : Nat
  src : WriteSrc
  ns : Nat
  ground : Nat
  cls : Nat
  atom : Nat
  count : Nat
  motif : Nat
  fua : Bool
  dealloc : Bool
  twin : Option (Nat × Nat)
  gotHave : Bool
  met : Bool
  state : Nat
  arrival : Nat
  deriving DecidableEq, Repr, Inhabited

/-- An atom held for the partner head: a mirror copy or a twin-fed copy (R118, R142). `done` says that other atoms of its write have been dropped, which only a complete write's
are. -/
structure HeldAtom where
  frame : MirrorFrame
  done : Bool
  deriving DecidableEq, Repr, Inhabited

/-! ## The journal in progress -/

/-- What becomes of a transaction once it is durable: nothing more, the atoms it flushed are released (as write identifier and atom index),
a band's relocation ends, a band's rebuild ends, a chunk of a replicated epoch is stored, the epoch of a target has been switched to (R353), or a stripe's programs may be issued (R261). -/
inductive TxnEnd where
  | plain
  | flush (atoms : List (Nat × Nat))
  | reloc (band : Nat)
  | rebuilt (band : Nat)
  | shipped
  | epoch (target : Nat)
  | stripe (band stripe : Nat)
  deriving DecidableEq, Repr

/-- A transaction of the metadata journal (R239). `early` says that its records took effect when it was written; the others take effect when
it is durable. `stitch` is when it went into the journal, `span` the positions of its bytes there. `sent` says that it is in the journal: it waits before that for the stripes of
its records. `mirrored` says that it went in a JOURNAL frame. -/
structure Txn where
  id : Nat
  ground : Nat
  motif : Nat
  recs : List JRec
  early : Bool
  sent : Bool
  stitch : Nat
  span : Nat × Nat
  durable : Bool
  mirrored : Bool
  fin : TxnEnd
  deriving DecidableEq, Repr

/-- A metadata journal (R239): `pos` counts the bytes appended since the ground's first root, `tail` are those not yet in a page, `start` is where the newest root lets replay
start, `seq` numbers the pages. -/
structure JLog where
  ground : Nat
  motif : Nat
  pos : Nat
  start : Nat
  tail : Bytes
  seq : Nat
  deriving DecidableEq, Repr, Inhabited

/-- A system page (R246) that is written, or whose journal bytes are not freed yet: `span` are the journal positions that a page of KIND 6 holds, `copies` where its copies lie, `left` those not yet programmed. -/
structure SysPage where
  id : Nat
  kind : Nat
  count : Nat
  ground : Nat
  motif : Nat
  seq : Nat
  epoch : Nat
  span : Nat × Nat
  data : Bytes
  copies : List (Nat × BlockId × Nat)
  left : List Nat
  deriving DecidableEq, Repr, Inhabited

/-- The end of a checkpoint pass for a ground (R239): the transactions it holds, where replay starts then, and the pages now written: 0 those of the pass, 1 index pages, 2 the root. -/
structure CkptJob where
  motif : Nat
  ground : Nat
  txns : List Nat
  start : Nat
  stage : Nat
  ids : List Nat
  deriving DecidableEq, Repr, Inhabited

/-- The header of a valid system page that Winding has read (R246), with the first bytes of its data. -/
structure PageInfo where
  kind : Nat
  count : Nat
  head : Nat
  copy : Nat
  ground : Nat
  motif : Nat
  claim : Nat
  seq : Nat
  stitch : Nat
  epoch : Nat
  data : Bytes
  deriving DecidableEq, Repr, Inhabited

/-- A record packed into a stream and not yet in a programmed stripe (R160, R259), with the class of the data (R141). -/
structure PackRec where
  txn : Nat
  handle : Nat
  ground : Nat
  motif : Nat
  cls : Nat
  gc : Bool
  bytes : Bytes
  stripes : List (Nat × Nat)
  deriving DecidableEq, Repr

/-- A write stream (R237): its open band, the bytes gathered for the band's next stripe, and the stitch of their first record. -/
structure Stream where
  ground : Nat
  motif : Nat
  gc : Bool
  band : Nat
  fill : Bytes
  since : Nat
  deriving DecidableEq, Repr, Inhabited

/-- A full stripe (R261): whether its programs are issued, how many have not ended, whether one failed, and whether that closes the band. -/
structure StripeJob where
  band : Nat
  stripe : Nat
  data : Bytes
  issued : Bool
  left : Nat
  failed : Bool
  close : Bool
  deriving DecidableEq, Repr, Inhabited

/-- A band that is rebuilt (R271): its replacement blocks with their positions, the programs that have not ended, and the MEMBER transaction once it is written. -/
structure RebuildJob where
  band : Nat
  motif : Nat
  ground : Nat
  repl : List (Nat × BlockId)
  left : Nat
  txn : Option Nat
  deriving DecidableEq, Repr, Inhabited

/-- An entry of a staging log or a vault (R247) with its atom. `copies` are the copies programmed, `pages` where they lie. -/
structure StageEnt where
  ground : Nat
  seq : Nat
  first : Bool
  last : Bool
  pi : Bool
  enc : Bool
  host : Bool
  dealloc : Bool
  ackable : Bool
  nsid : Nat
  conn : Nat
  atom : Nat
  writeId : Nat
  opSeq : Nat
  ackSeq : Nat
  atoms : Nat
  appTag : Nat
  keySlot : Nat
  nonce : Bytes
  tag : Bytes
  data : Bytes
  stitch : Nat
  claim : Nat
  copies : List Nat
  pages : List (BlockId × Nat)
  obsolete : Bool
  deriving DecidableEq, Repr, Inhabited

/-- One vault area (R250, R251): what its dump wrote, whether a SEAL page matches it, and its VAULT blocks. `left` are entries, with their motifs, that wait for a lane to seal them (R214). -/
structure VaultArea where
  epoch : Nat
  head : Nat
  ents : List StageEnt
  left : List (Nat × StageEnt)
  txns : List Txn
  record : Option Record
  sealed : Bool
  erased : Bool
  blocks : List BlockId
  deriving DecidableEq, Repr

/-- A fingerprint-index entry (R155) at its position, with the tag that the filter holds there. -/
structure FpEntry where
  motif : Nat
  bucket : Nat
  slot : Nat
  tag : Nat
  fp : Bytes
  lastHit : Nat
  handle : Nat
  deriving DecidableEq, Repr, Inhabited

/-- A chunk in flush (R158, R159). `packs` says that it gave new content, which needs a stripe. -/
structure FlushJob where
  motif : Nat
  nsid : Nat
  chunk : Nat
  txn : Nat
  packs : Bool
  atoms : List (Nat × Nat)
  deriving DecidableEq, Repr, Inhabited

/-! ## Bobbin modules -/

/-- Why the head sent a module a command. -/
inductive BobWhy where
  | read (job page : Nat)
  | program (band stripe : Nat)
  | erase (band : Nat)
  | eraseFree
  | reinstate
  | staging (seq copy : Nat)
  | stagingErase
  | claimRaise
  | keepAlive
  | claimAll
  | identify
  | geometry
  | telemetry
  | feature
  | resetLun
  | system
  | page (id copy : Nat)
  | scan
  | rebuild (band : Nat)
  deriving DecidableEq, Repr, Inhabited

/-- A command to a module (R284), with the data at its DPTR. `again` says that it was issued a second time; `slot` counts the entries of its queue
before it; `since` is the stitch in which its SQ_TAIL was written; `rsvd` is what its reserved fields hold. -/
structure BobCmd where
  mod : Nat
  qid : Nat
  cid : Nat
  opcode : Nat
  flags : Nat
  ground : Nat
  lun : Nat
  count : Nat
  retry : Nat
  claim : Nat
  block : Nat
  page : Nat
  arg : Nat
  data : Bytes
  why : BobWhy
  again : Bool
  slot : Nat
  dptr : Nat
  rsvd : Nat
  since : Nat
  deriving DecidableEq, Repr, Inhabited

/-- A completion entry (R283), with the data written to DPTR. -/
structure BobCpl where
  mod : Nat
  qid : Nat
  cid : Nat
  status : Nat
  result : Nat
  data : Bytes
  deriving DecidableEq, Repr, Inhabited

/-- What a module reports of itself: MAXQ and MAXQD_LOG2 of its BAR0 (R280), IDENTIFY (R286), the GEOMETRY summary and bad blocks, TELEMETRY (R287). -/
structure ModInfo where
  maxQ : Nat
  maxQdLog2 : Nat
  serial : Bytes
  model : Bytes
  fwRev : Bytes
  unit : Bytes
  port : Nat
  fd : Nat
  ver : Nat
  luns : Nat
  pageKib : Nat
  blocks : Nat
  pages : Nat
  maxRetry : Nat
  ratedErases : Nat
  rdLimit : Nat
  planes : Nat
  readUs : Nat
  progUs : Nat
  eraseUs : Nat
  bad : List (Nat × Nat)
  failed : Bool
  degraded : Bool
  tempC : Int
  corrected : Nat
  retried : Nat
  uncorrectable : Nat
  hours : Nat
  cycles : Nat
  deriving DecidableEq, Repr, Inhabited

/-- A module as the head reaches it: its own data, its port (EN, RDY, FATAL, and of its queues QEN and SIZE_LOG2), its claim table (R288), its media by block, and features.
`posted` counts the entries written to each queue, `tails` how many of them the last SQ_TAIL covers, `freed` how many slots the reported SQHD has passed (R282), `heads` the
completion entries consumed, which is CQ_HEAD (R283). -/
structure Module where
  idx : Nat
  info : ModInfo
  en : Bool
  ready : Bool
  fatal : Bool
  seen : Bool
  claims : List (Nat × Nat)
  media : List (BlockId × List Bytes)
  powerLimit : Nat
  timestamp : Nat
  locate : Nat
  linkUp : Bool
  downAt : Nat
  timeouts : List Nat
  invalids : List Nat
  posted : List Nat
  tails : List Nat
  qen : Bool
  sizeLog2 : Nat
  freed : List Nat
  heads : List Nat
  deriving DecidableEq, Repr, Inhabited

/-- Who asked for a read of atoms. -/
inductive ReadSrc where
  | host (ctl sq cid : Nat)
  | verify (ctl sq cid : Nat)
  | rdma (conn psn ofs len va rkey : Nat)
  deriving DecidableEq, Repr, Inhabited

/-- What the surroundings answer at a module port (R277 to R280, R297): its index, whether it is a module of this protocol, what it reports, the link's speed
and width, a switch, and the claims that a module new to this head stores. -/
structure Found where
  idx : Nat
  isModule : Bool
  info : ModInfo
  speed : Nat
  width : Nat
  switch : Bool
  claims : List (Nat × Nat)
  deriving DecidableEq, Repr, Inhabited

/-- What an atom of a read is answered from (R166): data at hand, or the record of a content-table entry and the atom's place in its chunk. `fail` is the status word of an atom
that cannot be had, 0 for the others. -/
structure ReadPart where
  atom : Nat
  sub : Nat
  content : Option CEntry
  data : Bytes
  appTag : Nat
  fail : Nat
  deriving DecidableEq, Repr, Inhabited

/-- What goes wrong with what a command reads or computes (log 1): a page of a module fails, by a missing completion or not (R265); the data of a buffered atom, as write and
atom, or of a page read for a body, have an uncorrectable DRAM error (R406); a cipher lane disagrees with its checker (R213). -/
inductive Mishap where
  | page (block : BlockId) (page : Nat) (timeout : Bool)
  | atom (writeId atom : Nat)
  | body (page : Nat)
  | lane (lane : Nat)
  deriving DecidableEq, Repr

/-- The mishaps of a command, in the order in which it meets them. -/
abbrev BadPages := List Mishap

/-- A read that waits for flash pages (R166). `pages` are the pages still to arrive, `got` those that have. -/
structure ReadJob where
  id : Nat
  src : ReadSrc
  nsid : Nat
  cls : Nat
  atom : Nat
  count : Nat
  parts : List ReadPart
  pages : List Nat
  got : List (Nat × Bytes)
  deriving DecidableEq, Repr, Inhabited

/-- The records that a read opens and decompresses. -/
def ReadJob.bodies (j : ReadJob) : List CEntry := j.parts.filterMap (fun p => if p.fail = 0 then p.content else none)

/-- The key slots that a read uses. -/
def ReadJob.slots (j : ReadJob) : List Nat := ((j.bodies.filter (fun e => e.enc)).map (fun e => e.slot)).eraseDups

/-! ## Host queues -/

/-- A command of a controller: controller, submission queue and command identifier. -/
structure CmdId where
  ctl : Nat
  sq : Nat
  cid : Nat
  deriving DecidableEq, Repr, Inhabited

/-- Where a command comes from, with the fields of it that every command has: the connection of a fabrics queue or none for a PF0 queue, the submission
queue, the command identifier and the namespace identifier. -/
structure Fetch where
  conn : Option Nat
  sq : Nat
  cid : Nat
  nsid : Nat
  deriving DecidableEq, Repr, Inhabited

/-- What a fetched command is; a write or deallocate has the writes that carry it out. `shut` is no command of the host but the flush of a normal
shut-down (R369). -/
inductive CmdKind where
  | writes (ids : List Nat)
  | read
  | flush (atoms : List (Nat × Nat))
  | shut (atoms : List (Nat × Nat))
  | fw (slot : Nat)
  | aer
  | nsDelete (nsid : Nat)
  deriving DecidableEq, Repr, Inhabited

/-- A command fetched and not yet completed. -/
structure HostCmd where
  id : CmdId
  kind : CmdKind
  nsid : Nat
  deriving DecidableEq, Repr, Inhabited

/-- A completion entry with the data sent before it. -/
structure HostCpl where
  cmd : CmdId
  word : Nat
  field : Nat
  dw0 : Nat
  dw1 : Nat
  data : Bytes
  deriving DecidableEq, Repr, Inhabited

/-- A submission queue. `latched` holds a doorbell written while fetching pauses (R373); `retries` counts timed-out fetches (R396). -/
structure SubQ where
  qid : Nat
  cq : Nat
  size : Nat
  head : Nat
  tail : Nat
  latched : Option Nat
  retries : Nat
  deriving DecidableEq, Repr, Inhabited

/-- A completion queue. -/
structure CmpQ where
  qid : Nat
  size : Nat
  tail : Nat
  head : Nat
  vec : Nat
  ien : Bool
  deriving DecidableEq, Repr, Inhabited

/-- A controller (R359, R360, R369). `cstate` is coded as HQ_ST.CSTATE, `cc` is the Controller Configuration as written; `conns` are pairs of connection and
queue, `aq` the sizes of the admin submission and completion queues as last given, `gone` commands (queue, identifier) aborted before they are fetched, `sizes` the entries of each
fabrics queue (R360), `alive` the stitch from which the Keep Alive timer runs (R371), `asq` and `acq` the addresses of PF0's admin queues as written. -/
structure Ctrl where
  id : Nat
  fabrics : Bool
  ground : Nat
  cstate : Nat
  cc : Nat
  en : Bool
  rdy : Bool
  cfs : Bool
  shn : Nat
  shst : Nat
  aqOk : Bool
  aq : Nat × Nat
  gone : List (Nat × Nat)
  latched : Option Bool
  kato : Nat
  aerCfg : Nat
  events : List Nat
  sqs : List SubQ
  cqs : List CmpQ
  admin : Option Nat
  conns : List (Nat × Nat)
  unitsRead : Nat
  unitsWritten : Nat
  reads : Nat
  writes : Nat
  mediaErrs : Nat
  warn : Nat
  sizes : List (Nat × Nat)
  alive : Nat
  asq : Nat
  acq : Nat
  deriving DecidableEq, Repr, Inhabited

/-- A slot of the firmware command ring that holds a command forwarded (R361), with the addresses of the slot and of its data buffer as it was filled. -/
structure FwSlot where
  idx : Nat
  cmd : CmdId
  slot : Nat
  buf : Nat
  deriving DecidableEq, Repr, Inhabited

/-- What a read of host memory serves (R396). -/
inductive HostReadWhy where
  | atom (writeId idx : Nat)
  | fetch (sq : Nat)
  | list (cmd : CmdId)
  deriving DecidableEq, Repr, Inhabited

/-- The link as the surroundings train it: speed code, width, flit mode (R381). -/
structure HostLink where
  speed : Nat
  width : Nat
  flit : Bool
  deriving DecidableEq, Repr, Inhabited

/-! ## RDMA -/

/-- The states of R309. -/
inductive ConnState where
  | free | rts | error | timewait | shadow | resync
  deriving DecidableEq, Repr, Inhabited

/-- What an arriving request packet says beside its operation: the port it arrives on, whether it is ECN-capable and marked; `share` is the percentage of its
class's share of the ingress buffer in use (R305), `opts` says that it has IPv4 options or IPv6 extension headers (R300). -/
structure PktHdr where
  conn : Nat
  psn : Nat
  motif : Nat
  ect : Bool
  ce : Bool
  dscp : Nat
  bytes : Nat
  sub : Nat
  share : Nat
  opts : Bool
  deriving DecidableEq, Repr, Inhabited

/-- A request (R312): SEND, WRITE with the packet's own target address and its offset in the message (R321), READ, and ATOMIC compare-swap or
fetch-add. -/
inductive RdmaOp where
  | send (first last : Bool) (data : Bytes)
  | write (va rkey ofs : Nat) (first last imm : Bool) (data : Bytes)
  | read (va rkey len : Nat)
  | atomic (va rkey : Nat) (cas : Bool) (a b : Nat)
  | other
  deriving DecidableEq, Repr, Inhabited

/-- An arriving request packet. -/
structure Packet where
  hdr : PktHdr
  op : RdmaOp
  deriving DecidableEq, Repr, Inhabited

/-- A packet sent as requester and not yet acknowledged: its extended PSN, its path (R322), and its payload. -/
structure SentPkt where
  psn : Nat
  path : Nat
  data : Bytes
  deriving DecidableEq, Repr, Inhabited

/-- A connection. Extended PSNs stand 2^32 above the numbers of R310, so that one less than the first is a number too. `epsn` is the extended PSN expected next (its VPSN in spray
mode), `marks` the extended PSNs beyond it that have arrived,
`acked` the extended PSN of the last acknowledged one. `writes` are the namespace writes in progress by first extended PSN, with 0 for an atomic whose answer waits (R117), `recv`
what SENDs have put into its receive queue, `taken` how many of those have left it, `part` the message being received, `doneSeq` the OP_SEQ of the last request placed whole, `expAck` the extended
PSN of the resynchronisation, `early` packets that wait for VPSN or for earlier writes (R313), `lasts` the last PSNs of requests that have arrived there. As requester:
`held` is the largest OP_SEQ that a SHADOW copy has received in MIRROR frames (R117). `heard` and `wrote` are the stitches of the last request and the last WRITE that arrived.
`sent` packets not acknowledged, `rnr` a PSN that drew an RNR NAK, `hold` the PSN that a SACK with RESYNC makes it wait for (R327). `gapSince` is
when the gap of R324 began, `ccSince` when the period of R332 did, both in phase units. -/
structure Conn where
  id : Nat
  motif : Nat
  port : Nat
  desc : ConnDesc
  state : ConnState
  epsn : Nat
  marks : List Nat
  acked : Nat
  spsn : Nat
  sent : List SentPkt
  retries : Nat
  rnrLeft : Nat
  nextPath : Nat
  suspended : List (Nat × Nat)
  losses : List (Nat × Nat)
  rate : Rat
  alpha : Rat
  cnpAt : Option Nat
  heard : Nat
  wrote : Nat
  atomics : List (Nat × Nat)
  writes : List (Nat × Nat)
  cached : Bool
  taken : Nat
  recv : List (Nat × Bytes)
  part : Bytes
  doneSeq : Nat
  held : Nat
  expAck : Nat
  early : List Packet
  lasts : List Nat
  rnr : Option Nat
  hold : Option Nat
  pkts : Nat
  timewaitAt : Nat
  gapSince : Nat
  ccSince : Nat
  deriving DecidableEq, Repr, Inhabited

/-- A packet that waits in the miss queue of a motif (R318). -/
structure MissPkt where
  motif : Nat
  cls : Nat
  pkt : Packet
  deriving DecidableEq, Repr, Inhabited

/-! ## Views and replication -/

/-- A cut that waits for its stitch (R342): the operation, the stitch, the list (source view, clone target), and the target of an epoch. -/
structure PendingCut where
  op : Nat
  cut : Nat
  views : List (Nat × Nat)
  target : Option Nat
  deriving DecidableEq, Repr, Inhabited

/-- A QUERY entry (R355). -/
structure QueryEnt where
  chunk : Nat
  zero : Bool
  poison : Nat
  fp : Bytes
  tags : List Nat
  deriving DecidableEq, Repr, Inhabited

/-- A DATA entry (R355). -/
structure DataEnt where
  chunk : Nat
  tags : List Nat
  fp : Bytes
  body : Bytes
  deriving DecidableEq, Repr, Inhabited

/-- A replication target beside its registers (R350 to R356): the countdown of firings, the epoch and its snapshot, the base, the entries
still to ship, what was queried and shipped, at the receiver the staging entries and the epoch held, and the messages (type, count, epoch, body) that wait to be sent.
`todo` are the chunks still to query, `owed` the entries whose DATA is still to be sent. -/
structure Target where
  count : Nat
  epoch : Nat
  snap : Option Nat
  todo : List Nat
  asked : List QueryEnt
  queried : Nat
  shipped : Nat
  ended : Bool
  base : Option Nat
  ackedEpoch : Nat
  staging : List (Nat × LEntry)
  heldEpoch : Option Nat
  remoteCut : Nat
  unsent : List (Nat × Nat × Nat × Bytes)
  owed : List QueryEnt
  deriving DecidableEq, Repr, Inhabited

/-! ## Memory and engines -/

/-- A line of a map cache or of its victim cache (R409, R413): its place, the offset of the line in the motif's DRAM window over 128, and the bytes
that differ from 0 by their place in the line. -/
structure CLine where
  motif : Nat
  set : Nat
  way : Nat
  line : Nat
  dirty : Bool
  poison : Bool
  cls : Nat
  age : Nat
  data : List (Nat × Byte)
  deriving DecidableEq, Repr, Inhabited

/-- Bits of a protected word of an SRAM that are wrong (R421, R426): structure code, instance, motif, word, how many bits of data and check, and the place: the address of the line, or the
number of the entry. -/
structure Flip where
  code : Nat
  inst : Nat
  motif : Nat
  word : Nat
  count : Nat
  place : Nat
  deriving DecidableEq, Repr, Inhabited

/-- An engine whose contexts jobs use: compressor, decompressor, digest lanes, erasure unit; and the cipher lanes, for which records wait. -/
inductive EngKind where
  | cmp | dcmp | dig | cip | ecu
  deriving DecidableEq, Repr, Inhabited

/-- A job of a job ring (R186, R192, R196, R202): ring index, class and arrival. `unit` is the unit whose context it holds once it is bound, `ctl` the
CMP_CTL it started with, `done` says that it has completed and its context is still to be freed, `busy` that it found the measurement unit in use. `addr` is where its
descriptor lies and `desc` the descriptor as it was fetched. A chunk of FLUSH, a message of it, or a body of READ holds a context as a job that is done and has no descriptor. -/
structure EngJob where
  kind : EngKind
  motif : Nat
  idx : Nat
  addr : Nat
  desc : Bytes
  cls : Nat
  seq : Nat
  unit : Option Nat
  ctl : Nat
  done : Bool
  busy : Bool
  deriving DecidableEq, Repr, Inhabited

/-- A tap context (R196, R199): motif, write and chunk, the atoms still to land, the salt that its message begins with, and the atoms that have come by their index. -/
structure Tap where
  motif : Nat
  writeId : Nat
  chunk : Nat
  left : Nat
  salt : Bytes
  parts : List (Nat × Bytes)
  deriving DecidableEq, Repr, Inhabited

/-- What a request that waits for a context or for the cipher lanes does once it has it: a chunk of FLUSH is flushed, a read of atoms is finished, an atom is staged, the
messages of a replication target are sent; a stripe is encoded, a page of a read is decoded (R263). -/
inductive WaitFor where
  | flush (nsid chunk : Nat)
  | read (job : Nat)
  | stage (writeId atom : Nat)
  | message (target : Nat)
  | encode (band stripe : Nat)
  | decode (job page : Nat)
  deriving DecidableEq, Repr

/-- A request of FLUSH or READ that waits for a context of an engine (R187, R197), by class and arrival. -/
structure EngWait where
  kind : EngKind
  motif : Nat
  cls : Nat
  seq : Nat
  what : WaitFor
  deriving DecidableEq, Repr

/-- An atomic whose answer waits for its MIRROR frame (R117): motif and MSEQ of the frame, connection, extended PSN, and the value returned. -/
structure AtomicWait where
  motif : Nat
  mseq : Nat
  conn : Nat
  psn : Nat
  value : Nat
  deriving DecidableEq, Repr, Inhabited

/-- What leaves the block (log 2): frames, messages, requests and completions, in the order they are sent. -/
inductive Out where
  | bride (group : Nat) (frame : Bytes)
  | claimSet (module ground claim : Nat) (keepAlive : Bool)
  | claimGet (module ground : Nat)
  | announce (ground : Nat)
  | seqNak (conn opSeq : Nat)
  | rnrNak (conn psn timer : Nat)
  | ack (conn opSeq status : Nat)
  | nak (conn code opSeq : Nat)
  | cnp (conn : Nat)
  | notice (conn : Nat) (payload : Bytes)
  | pmbusRead (addr page cmd : Nat)
  | avsSet (motif milliVolt : Nat)
  | halive (level : Bool)
  | pen (raised : Nat)
  | msix (pf vec : Nat)
  | twinDegraded (conn seq : Nat)
  | hostData (cmd : CmdId) (data : Bytes) (poison : Bool)
  | hostRead (tag : Nat) (why : HostReadWhy)
  | cqe (cmd : CmdId) (sqHead dw0 dw1 field : Nat)
  | cfgCpl (pf : Nat) (retry : Bool) (value : Nat)
  | barData (pf : Nat) (data : Bytes)
  | barPoison (pf : Nat) (data : Bytes)
  | aer (pf kind : Nat)
  | barWrite (i ofs : Nat) (b : Bytes)
  | rdmaRead (conn psn : Nat) (data : Bytes)
  | rdmaAtomic (conn psn value : Nat)
  | sack (conn aeth : Nat) (hdr : Bytes)
  | sprayData (conn psn path : Nat) (b : Bytes)
  | packet (conn psn path : Nat) (data : Bytes)
  | readRetry (conn psn va len : Nat)
  | rdmaErr (conn code : Nat)
  | arpReply (ground : Nat)
  | frame (motif subport : Nat) (data : Bytes)
  | pfc (motif sub prio : Nat) (xoff : Bool)
  | pmbusWrite (addr page cmd value : Nat)
  | coreFault (motif hart kind addr : Nat)
  | engineStatus (motif addr status : Nat)
  | pull (conn writeId atoms : Nat)
  | coreData (motif hart addr : Nat) (data : Bytes)
  deriving DecidableEq, Repr

/-- What a motif's DIMMs report by SPD: capacity in GiB, ranks, the rate code they allow, and whether they are MRDIMMs (R403). -/
structure DimmInfo where
  gib : Nat
  ranks : Nat
  rate : Nat
  mrdimm : Bool
  deriving DecidableEq, Repr

/-- An operation on the boot flash that runs (R457): 1 ERASE, 2 PROGRAM, 3 READ, the memory address, and the data to program. -/
structure FlashOp where
  op : Nat
  ofs : Nat
  len : Nat
  mem : Nat
  data : Bytes
  deriving DecidableEq, Repr

end Sys2Proof.Machine
end

