-- ==== Sys2Proof/Syntax.lean ====
section
/-! DEFINITION. The commands of the block, one constructor for each row of spec/opcode_table.json, in the table's order. The table gives a
row no operands: the operands are the model's (log 1), what the outside says in the command. -/

namespace Sys2Proof

open Sys2Proof.Machine

/-- A command. -/
inductive Instr where
  /-- REGISTER_WRITE (R7). A write to a register that has no row of its own, applied by width, alignment, access type and pricking lock. -/
  | registerWrite (who : Who) (addr width value : Nat)
  /-- RC_READ (R10). A read of an RC field returns its value and clears exactly the bits returned as 1. -/
  | rcRead (who : Who) (addr width : Nat)
  /-- STC_NUM_READ (R65). A read of STC_NUM returns the stitch number and latches the phase into STC_PH_LATCH. -/
  | stcNumRead (who : Who) (phase : Nat)
  /-- POWER_ON_RESET (R99). Power-on reset resets every register, samples HEAD_ID and starts a cold Winding. -/
  | powerOnReset (headId us : Nat)
  /-- RESET_N_ASSERT (R99). RESET_N held low for at least 1 µs stops transmission and performs a package warm reset into Winding, and is ignored in Tied-off. -/
  | resetNAssert (lowNs us : Nat)
  /-- PKG_RST_WARM (R99). A keyed write of PKG_RST.WARM performs a package warm reset into Winding, except in Tied-off. -/
  | pkgRstWarm (value us : Nat)
  /-- PKG_RST_MOTIF_RST (R107). A keyed write of PKG_RST.MOTIF_RST resets one motif and repeats its bring-up, and is honoured only while Winding is stopped. -/
  | pkgRstMotifRst (value : Nat) (ok : Bool)
  /-- UCIE_REPLAY_LIMIT (R25). One flit fails its CRC on 16 consecutive replays, which is a package fault. -/
  | ucieReplayLimit (motif link : Nat)
  /-- UCIE_NO_PROGRESS_TIMEOUT (R25). A UCIe link makes no forward progress for 1 µs while traffic is queued, which is a package fault. -/
  | ucieNoProgressTimeout (motif link : Nat)
  /-- UCIE_LANE_FAIL (R25). A UCIe lane fails after training, which is a package fault. -/
  | ucieLaneFail (motif link : Nat)
  /-- SRAM_UNCORRECTABLE (R421). An uncorrectable SRAM error is handled by the structure's row of the protection table: refetch, poison, or fail-stop with 0x7203. -/
  | sramUncorrectable (motif code inst word at_ : Nat) (dirty : Bool)
  /-- SERVICE_POLL_MISS (R29). A service core misses its package poll, or its thermal step, for 2 stitches, which is a fail-stop with 0x7204. -/
  | servicePollMiss (motif stitches : Nat)
  /-- PLL_LOSS_OF_LOCK (R29). A PLL loses lock, which is a fail-stop with 0x7205. -/
  | pllLossOfLock
  /-- STITCH_EDGE (R51). A rising edge on STITCH_P/N is accepted or rejected against the predicted phase-0 window, and the phase is slewed towards an accepted edge. -/
  | stitchEdge (err : Int) (highNs : Nat)
  /-- STITCH_FRAME (R51). A completed stitch-number frame is judged valid, invalid or disagreeing, and validity or loss of the source follows. -/
  | stitchFrame
  /-- STITCH_EDGE_TIMEOUT (R51). No edge is accepted for 2 consecutive stitch periods, so the source is lost. -/
  | stitchEdgeTimeout
  /-- PTP_UPDATE (R52). A write of STC_PTP_ADJ delivers a PTP phase and frequency correction and counts towards lock. -/
  | ptpUpdate (value : Nat)
  /-- PTP_UPDATE_TIMEOUT (R52). No PTP update arrives for 4,096 stitches, so the PTP source is lost. -/
  | ptpUpdateTimeout
  /-- STITCH_START (R46). A new stitch begins at phase 0: the stitch number advances and any residual phase error is slewed by one unit. -/
  | stitchStart
  /-- RELOCK_COMPLETE (R54). The residual phase error comes within ±4 units, so relock is complete and RELOCK is set. -/
  | relockComplete
  /-- ACQUIRE_TIMEOUT (R56). At step 10, 100 ms pass with neither lock nor partner head, so the stitch logic free-runs in FREE. -/
  | acquireTimeout
  /-- HOLDOVER_EXPIRY (R56). One second in HOLDOVER moves the head to BRIDE_FOLLOW, BRIDE_MASTER or FREE. -/
  | holdoverExpiry
  /-- STC_RETRY (R55). A write of STC_CTL.RETRY clears MISMATCH_HOLD. -/
  | stcRetry (value : Nat)
  /-- REC_SNAP (R59). Slot 0 snapshots the stitch record at phase 0. -/
  | recSnap (overrun : Bool)
  /-- REC_SEND (R114). Slot 1 sends the stitch record as 1 to 8 RECORD parts over the up groups, and counts the record in LATE_REC if it finishes after phase 200. -/
  | recSend (endPhase : Nat)
  /-- IMON_SAMPLE (R431). Slot 2 samples every IMON channel and computes channel power, with range and stuck checks. -/
  | imonSample (overrun : Bool) (pkg : List Nat) (lpm : List (Nat × Nat)) (bytes : List Nat)
  /-- IMON_FORCED (R433). When both LPM channels of a motif have been in fault for more than 200 stitches, the motif's nodes are forced to the shut-down threshold. -/
  | imonForced (motif : Nat)
  /-- VAULT_BUDGET (R436). Slot 3 recomputes the vault budget B, updates the admission limits and may set BUDGET_HOLD. -/
  | vaultBudget (overrun : Bool)
  /-- THERMAL_STEP (R439). Slot 4 advances the four-node thermal model of each motif one millisecond and judges the thermal level. -/
  | thermalStep (overrun : Bool) (dimms : List (List Int))
  /-- THROTTLE_GRACE_EXPIRY (R442). GRACE_MS elapsed in REQUEST starts enforcement in ENFORCED. -/
  | throttleGraceExpiry
  /-- THERMAL_NOTICE (R443). Each NOTICE_MS in levels 2 and 3, a vendor congestion notice with an advised rate is sent to each active connection. -/
  | thermalNotice
  /-- INLET_STALE (R440). INLET not written for 200,000 stitches makes the model use AMB_FALLBACK and sets AMB_STALE. -/
  | inletStale
  /-- CLAIM_KEEPALIVE (R125). Slot 5 resends the current claim of each owned ground to its modules as a KEEPALIVE CLAIM_SET. -/
  | claimKeepalive (overrun : Bool)
  /-- DRAM_SCRUB (R407). A DRAM_SCRUB slot reads ARG lines per motif in offset order, correcting or poisoning them. -/
  | dramScrub (slot : Nat) (overrun : Bool) (upsets : List (Nat × Nat × Nat))
  /-- PATROL (R274). A PATROL slot runs CHECK jobs on ARG stripes of Bulk-class bands per motif. -/
  | patrol (slot : Nat) (overrun : Bool) (bad : BadPages)
  /-- PATROL_BEHIND (R274). A patrol pass not ended within PATROL_DAYS sets PATROL_BEHIND. -/
  | patrolBehind (motif : Nat)
  /-- MEDIA_SCRUB (R243). A MEDIA_SCRUB slot read-verifies ARG stream pages and refreshes failing records. -/
  | mediaScrub (slot : Nat) (overrun : Bool) (bad : BadPages)
  /-- REPL_EPOCH (R350). A REPL_EPOCH slot counts down each sending target and cuts its next epoch, or counts a skip. -/
  | replEpoch (slot : Nat) (overrun : Bool)
  /-- SAMPLER_HOUR (R460). A SAMPLER_HOUR slot increments the sampler's HOURS count. -/
  | samplerHour (slot : Nat) (overrun : Bool)
  /-- GC_QUOTA (R241). A GC_QUOTA slot starts collection of at most ARG bands per motif. -/
  | gcQuota (slot : Nat) (overrun : Bool) (bad : BadPages)
  /-- CORE_EVENT (R60). A CORE_EVENT slot raises comparator j's interrupt identity at its hart. -/
  | coreEvent (slot : Nat) (overrun : Bool)
  /-- COMPARATOR_FIRE (R63). A phase comparator reaching its target stitch and phase raises interrupt 0x100 + j and clears EN or advances its target. -/
  | comparatorFire (j : Nat)
  /-- COMPARATOR_ENABLE (R64). A comparator enabled after its target has passed fires at once and sets CMP_LATE. -/
  | comparatorEnable (j value phase : Nat)
  /-- FUSE_LOAD (R93). Winding step 2 loads PKG_ID, PKG_CAP, the unit ID, key hashes, spare rows and thermal coefficients from fuses. -/
  | fuseLoad (us : Nat)
  /-- BOOT_ROM_START (R93). Winding step 3 runs the boot ROM on motif 0's service core and brings up the host endpoint, the management port and the boot store. -/
  | bootRomStart (l : Option HostLink) (us : Nat)
  /-- IMAGE_SLOT_SELECT (R454). Winding step 4 checks the NEXT slot's image, falls back to the other slot or stops with 0x2201, and updates the control block. -/
  | imageSlotSelect (errA errB : Bool) (us : Nat)
  /-- MEASUREMENT_EXTEND (R207). Winding step 5 extends measurement registers 1 and 3, and register 0 in a cold Winding. -/
  | measurementExtend (us : Nat)
  /-- PRICKING_LOAD (R84). Winding step 6 validates the pricking, loads it with PRK_ST OPEN, or falls back or stops. -/
  | prickingLoad (readError : Bool) (us : Nat)
  /-- MOTIF_BRINGUP (R93). Winding step 7 resets motifs 1 to 7, trains UCIe and releases their service cores, or ends in Tied-off. -/
  | motifBringup (fail : Nat) (repaired : List (Nat × Nat × Nat)) (us : Nat)
  /-- DRAM_TRAINING (R404). Winding step 8 checks the DIMMs, trains the channels and initialises DRAM, or exits self-refresh in a Rethread. -/
  | dramTraining (dimms : List (Option DimmInfo)) (us : Nat)
  /-- BRIDE_TRAINING (R95). Winding step 9 trains the bride link, waiting up to 2 s for the partner head, and exchanges identity and pair hashes. -/
  | brideTraining (pass : List Nat) (clock now : Nat) (t : Option TrainId) (us : Nat)
  /-- STITCH_LOCK (R56). Winding step 10 locks to the source, adopts the partner head's count, or free-runs. -/
  | stitchLock (us : Nat)
  /-- MODULE_DISCOVERY (R297). Winding step 11, or a root-port link coming up in service, discovers each module port and sets its role. -/
  | moduleDiscovery (found : List Found) (us : Nat)
  /-- METADATA_RECOVERY (R240). Winding step 12 loads roots and checkpoints, replays journals and applies vaults and staging logs as R495 allows. -/
  | metadataRecovery (foreign : List (Nat × List JRec)) (log : List StageEnt) (vaults : List VaultArea) (unreadable : Bool) (bad : BadPages) (us : Nat)
  /-- KEYS_DONE_TIMEOUT (R224). Step 12 waits 10 s for KEYS_DONE, then proceeds and keeps grounds with EMPTY slots out of service. -/
  | keysDoneTimeout (foreign : List (Nat × List JRec)) (log : List StageEnt) (vaults : List VaultArea) (unreadable : Bool) (bad : BadPages) (us : Nat)
  /-- MIRROR_RESYNC (R135). Winding step 13 asserts head-alive and brings over the partner head's unflushed writes and metadata changes. -/
  | mirrorResync (us : Nat)
  /-- GROUND_ASSIGNMENT (R95). Winding step 14 raises claims for the grounds taken, opens admission and enters Paired or Solo. -/
  | groundAssignment (us : Nat)
  /-- PRIOR_SECTIONS_SWITCH (R88). At phase 0 of the named stitch, a head with PRIOR_ACTIVE installs its own CLASS, SCHED and GROUND sections and sets REL to 1. -/
  | priorSectionsSwitch
  /-- HU_GOOD_LOSS (R434). HU_GOOD low for 1 µs is the loss of input power, so the head enters Vault or, in Winding, powers down without a dump. -/
  | huGoodLoss (lowNs : Nat) (bad : BadPages)
  /-- VAULT_DUMP_COMPLETE (R99). A completed dump powers the rails down, or, with power back, performs a warm reset into a vault-resume Winding. -/
  | vaultDumpComplete (inputGood : Bool) (us : Nat)
  /-- HANDOVER_DRAIN_COMPLETE (R101). The partner head reports every unflushed write of the handed grounds durable, so the Rethread warm reset follows. -/
  | handoverDrainComplete (us : Nat)
  /-- RETHREAD_DRAIN_TIMEOUT (R99). A drain incomplete 500 ms after the commit takes the grounds back and fails the commit with 0x1205. -/
  | rethreadDrainTimeout (log : List StageEnt) (ctrls : List Ctrl)
  /-- RETHREAD_FETCH_TIMEOUT (R103). Step 14 not ended 2 s after the commit takes the host link down. -/
  | rethreadFetchTimeout
  /-- BRIDE_LANE_FAIL (R110). A bride lane fails at run time, so its group drops to the next narrower width and replays frames in flight. -/
  | brideLaneFail (group lane : Nat)
  /-- BRIDE_LINK_DOWN (R110). No bride group has been up for 2 µs, so the bride link is down. -/
  | brideLinkDown (log : List StageEnt) (ctrls : List Ctrl)
  /-- BRIDE_RETRAIN_TIMER (R110). Every 100 ms while the bride link is down, training is retried. -/
  | brideRetrainTimer (pass : List Nat) (clock : Nat)
  /-- BRD_RETRAIN (R110). A write of BRD_CTL.RETRAIN retrains every bride group that is down. -/
  | brdRetrain (value : Nat) (pass : List Nat) (clock : Nat)
  /-- TRAIN_ID_RECEIVE (R111). A TRAIN_ID frame is received, and the heads pair, refuse with 0x2301 or 0x2303, or stop Winding with 0x2302. -/
  | trainIdReceive (h : BrideHdr) (now : Nat) (t : TrainId)
  /-- BRIDE_FRAME_ERROR (R113). A bride frame with a bad CRC or an out-of-order SEQ is discarded and a NAK is sent. -/
  | brideFrameError (group : Nat) (frame : Bytes)
  /-- NAK_RECEIVE (R113). A received NAK makes the sender replay from ACKSEQ + 1. -/
  | nakReceive (h : BrideHdr)
  /-- ACK_STALL_TIMEOUT (R113). ACKSEQ not advancing for 2 µs with frames unacknowledged starts a replay. -/
  | ackStallTimeout (group : Nat)
  /-- IDLE_SEND (R113). An IDLE frame is sent at least every 500 ns when there is nothing else to send. -/
  | idleSend (group : Nat)
  /-- IDLE_RECEIVE (R112). A received IDLE frame advances the acknowledged sequence of the other direction. -/
  | idleReceive (h : BrideHdr)
  /-- RECORD_RECEIVE (R114). A complete stitch record is applied: partner mode, pair skew, claims, DROP, connection and cache entries. -/
  | recordReceive (frames : List (BrideHdr × Record)) (phase : Nat) (late : Bool)
  /-- RECORD_MISSING (R114). At phase 300 a record not wholly arrived counts as missing and increments MISS_RUN. -/
  | recordMissing (log : List StageEnt) (ctrls : List Ctrl)
  /-- HALIVE_IN_CHANGE (R120). The filtered level of HALIVE_IN changes. -/
  | haliveInChange (level : Bool)
  /-- MIRROR_RECEIVE (R118). A whole MIRROR frame is kept by the standby with its connection sequence state and any atomic RESULT. -/
  | mirrorReceive (h : BrideHdr) (f : MirrorFrame)
  /-- HAVE_RECEIVE (R132). A HAVE frame reports the partner head holds twin-fed writes, which lets them complete. -/
  | haveReceive (h : BrideHdr) (l : List HaveEntry)
  /-- CLM_HANDOVER_GO (R130). A write of CLM_HANDOVER.GO hands one owned ground to the partner head, or is refused with 0x2306 or 0x1307. -/
  | clmHandoverGo (value : Nat)
  /-- HANDOVER_REQUEST_SEND (R128). Once ACKSEQ covers the ground's mirror frames, the owner sends HANDOVER REQUEST with the claim and changed entries. -/
  | handoverRequestSend
  /-- HANDOVER_REQUEST_RECEIVE (R128). The receiver raises the claim, issues CLAIM_SET, activates the ground and sends CLAIMED. -/
  | handoverRequestReceive (h : BrideHdr) (g claim : Nat) (entries : List RecEntry) (ctrls : List Ctrl)
  /-- HANDOVER_CLAIMED_RECEIVE (R128). The old owner stops flash commands, discards held commands and sends DONE. -/
  | handoverClaimedReceive (h : BrideHdr) (g claim : Nat)
  /-- HANDOVER_DONE_RECEIVE (R128). The receiver notes the handover ended, and the next ground may move. -/
  | handoverDoneReceive (h : BrideHdr) (g : Nat)
  /-- HANDING_BRIDE_DOWN_TIMEOUT (R131). 10 µs after the bride link goes down during HANDING, CLAIM_GET decides between OWNER and FENCED. -/
  | handingBrideDownTimeout
  /-- RESYNC_RECEIVE (R135). A RESYNC frame brings an unflushed write or metadata change to the returning head. -/
  | resyncReceive (h : BrideHdr) (f : MirrorFrame)
  /-- RESYNC_BACKLOG_EMPTY (R135). With the backlog empty, the returning head names a stitch at least two stitches later. -/
  | resyncBacklogEmpty (us : Nat)
  /-- NAMED_STITCH_REACHED (R135). At phase 0 of the named stitch, heads in service become Paired and handback begins. -/
  | namedStitchReached (us : Nat)
  /-- WAITING_WRITE_ADMIT (R145). A waiting write is admitted, in class then arrival order, once counters or caps allow. -/
  | waitingWriteAdmit
  /-- ATOM_LAND (R147). An atom whose 4,096 bytes are placed and PI-checked becomes LANDED, or fails its whole write. -/
  | atomLand (writeId idx : Nat) (data pi : Bytes)
  /-- FLUSH_AGE_EXPIRY (R158). The oldest COMPLETE atom has waited AGE stitches, so the home motif starts flushing. -/
  | flushAgeExpiry (motif : Nat) (bad : BadPages) (disagree : List Nat)
  /-- NONCE_BLOCK_RESERVE (R218). A generator three quarters through its block reserves the next block in the sampler store and the journal. -/
  | nonceBlockReserve (motif group : Nat)
  /-- STRIPE_PROGRAM_DONE (R261). All programs of a stripe succeed, STRIPE_DONE is journaled and the records' map updates follow. -/
  | stripeProgramDone (band stripe : Nat)
  /-- STRIPE_PAD_AGE (R259). A part-filled stripe older than PAD_AGE is filled with dead zero sectors. -/
  | stripePadAge (ground motif : Nat) (gc : Bool)
  /-- MAP_UPDATE_DURABLE (R161). A transaction's journal records become durable, so its atoms become FREE and a DROP entry is queued. -/
  | mapUpdateDurable (txn : Nat) (flash : Bool)
  /-- ENGINE_CONTEXT_FREED (R187). A freed engine context is bound to the waiting request of lowest class, then earliest arrival. -/
  | engineContextFreed (kind : EngKind) (motif : Nat)
  /-- CMP_JOB_POST (R192). A write of MTF_CJQ_TAIL posts compression job descriptors for the ring. -/
  | cmpJobPost (motif value : Nat)
  /-- CMP_JOB_COMPRESS (R193). A COMPRESS job compresses a buffer from SRC to DST and writes its result in the descriptor. -/
  | cmpJobCompress (motif idx : Nat)
  /-- CMP_JOB_DECOMPRESS (R193). A DECOMPRESS job checks and restores a body from SRC to DST and writes its result in the descriptor. -/
  | cmpJobDecompress (motif idx : Nat)
  /-- DIG_JOB_POST (R202). A write of DIG_JQ_TAIL posts digest job descriptors for the ring. -/
  | digJobPost (motif value : Nat)
  /-- DIG_JOB_DIGEST (R203). A DIGEST job digests memory or boot flash, exports state or delivers a digest to memory or the result registers. -/
  | digJobDigest (motif idx : Nat)
  /-- DIG_JOB_MEASURE_DATA (R208). A MEASURE_DATA job on motif 0 digests data with SHA-384 and extends a register from 4 to 15. -/
  | digJobMeasureData (motif idx : Nat)
  /-- DIG_JOB_MEASURE_VALUE (R208). A MEASURE_VALUE job on motif 0 extends a register from 4 to 15 with 48 bytes. -/
  | digJobMeasureValue (motif idx : Nat)
  /-- DIG_RES_RELEASE (R205). Writing 1 to DIG_RES_ST.HELD releases the result registers. -/
  | digResRelease (motif : Nat)
  /-- LANE_KAT_START (R214). Writing 1 to a fenced lane's bit starts its known-answer test. -/
  | laneKatStart (motif : Nat) (high : Bool) (value : Nat)
  /-- LANE_KAT_COMPLETE (R214). A passing known-answer test clears the lane's fence bit, and a failing one leaves it set. -/
  | laneKatComplete (motif lane : Nat) (pass : Bool)
  /-- KEK_LOAD (R221). A write of CIP_KEK_CTL.LOAD takes CIP_KEK as the key-encryption key. -/
  | kekLoad (value : Nat)
  /-- KEYS_DONE (R224). A write of CIP_KEK_CTL.KEYS_DONE tells step 12 the needed slots are loaded. -/
  | keysDone (value : Nat)
  /-- KEY_SLOT_LOAD (R222). CIP_SLOT_CMD LOAD unwraps a key into an EMPTY slot on every motif and sets its KCV. -/
  | keySlotLoad (value : Nat)
  /-- KEY_SLOT_CLEAR (R222). CIP_SLOT_CMD CLEAR moves a LOADED slot to CLEARING. -/
  | keySlotClear (value : Nat)
  /-- KEY_SLOT_ZEROISE (R222). A CLEARING slot's use count reaches 0, so the key is zeroised and the slot becomes EMPTY. -/
  | keySlotZeroise (slot : Nat)
  /-- GC_COLLECT_START (R241). Free blocks below FREE_LOW_PCT start collection of a victim band without waiting for a slot. -/
  | gcCollectStart (motif : Nat) (bad : BadPages)
  /-- GC_COPY_COMPLETE (R242). A victim band's live records are copied and verified, and its relocation transaction is appended. -/
  | gcCopyComplete (band : Nat)
  /-- BAND_ERASE (R236). An ERASE_PENDING band with no read in flight is sent ERASE_BLOCK to every member. -/
  | bandErase (band : Nat)
  /-- BAND_ERASE_COMPLETE (R236). All member erases complete, so the blocks become FREE with ERASES incremented. -/
  | bandEraseComplete (band : Nat)
  /-- STAGING_APPEND (R248). An atom that completes through the Solo rule is appended as two copies to its ground's staging log. -/
  | stagingAppend (writeId atom : Nat) (disagree : List Nat)
  /-- STAGING_APPEND_DONE (R248). Both copies of a staging append are programmed, so the atom is in the staging journal. -/
  | stagingAppendDone (writeId atom : Nat)
  /-- STAGING_BLOCK_ERASE (R248). A staging block all of whose entries are obsolete is erased. -/
  | stagingBlockErase (b : BlockId)
  /-- CHECKPOINT_PASS_END (R239). A checkpoint pass of PASS stitches ends with index pages and a new root record. -/
  | checkpointPassEnd (motif : Nat)
  /-- TELEMETRY_POLL (R287). Every 12,000,000 stitches, TELEMETRY is issued to every module and the health values are updated. -/
  | telemetryPoll
  /-- MODULE_LINK_DOWN_TIMEOUT (R267). A module's root-port link down for 10 ms makes the module FAILED. -/
  | moduleLinkDownTimeout (i : Nat) (bad : BadPages)
  /-- ECU_MOD_FAIL (R267). Firmware writing ECU_MOD.FAIL makes the module FAILED. -/
  | ecuModFail (i value : Nat) (bad : BadPages)
  /-- ECU_MOD_REINSTATE (R268). Writing REINSTATE erases a FAILED module with no members and makes it SPARE, or is refused with 0x2905. -/
  | ecuModReinstate (i value : Nat)
  /-- ECU_MOD_ROLE (R258). Writing ECU_MOD.ROLE sets a memberless module to DATA or SPARE, or is refused with 0x2905. -/
  | ecuModRole (i value : Nat)
  /-- ECU_MOD_FD (R257). Writing ECU_MOD.FD sets a module's failure domain only while it holds no band member. -/
  | ecuModFd (i value : Nat)
  /-- REBUILD_BAND_DONE (R271). A band's rebuilt strips are programmed and its MEMBER transaction is made durable. -/
  | rebuildBandDone (motif : Nat) (bad : BadPages)
  /-- BOBBIN_IDENTIFY (R286). IDENTIFY returns the module's serial, model, unit ID, port and failure domain. -/
  | bobbinIdentify (i q cid : Nat) (other : Option BobCmd)
  /-- GEOMETRY (R286). GEOMETRY returns the summary or a LUN's bad-block bitmap. -/
  | geometry (i q cid : Nat) (other : Option BobCmd)
  /-- READ_PAGE (R285). READ_PAGE reads COUNT pages at a retry level after the claim check at the start of NAND work. -/
  | readPage (i q cid : Nat) (other : Option BobCmd) (outcome corrected : Nat)
  /-- PROGRAM_PAGES (R285). PROGRAM_PAGES programs COUNT pages in order after the claim check. -/
  | programPages (i q cid : Nat) (other : Option BobCmd) (outcome : Nat)
  /-- ERASE_BLOCK (R285). ERASE_BLOCK erases a block after the claim check. -/
  | eraseBlock (i q cid : Nat) (other : Option BobCmd) (outcome : Nat)
  /-- CLAIM_SET (R123). CLAIM_SET raises or keeps alive a ground's stored claim on the module, durably, within 2 µs. -/
  | claimSet (i q cid : Nat) (other : Option BobCmd)
  /-- CLAIM_GET (R285). CLAIM_GET returns the stored claim of one ground, or of all grounds. -/
  | claimGet (i q cid : Nat) (other : Option BobCmd)
  /-- TELEMETRY (R287). TELEMETRY returns the module's failure flag, temperature and error counts. -/
  | telemetry (i q cid : Nat) (other : Option BobCmd) (failed : Bool) (tempC : Int)
  /-- SET_FEATURE (R285). SET_FEATURE sets POWER_LIMIT, TIMESTAMP or LOCATE on the module. -/
  | setFeature (i q cid : Nat) (other : Option BobCmd)
  /-- RESET_LUN (R296). RESET_LUN abandons the LUN's unstarted commands from the issuing port and reports their number. -/
  | resetLun (i q cid : Nat) (other : Option BobCmd) (started : List (Nat × Nat))
  /-- MODULE_EN_WRITE (R280). A write of a module port's EN enables its queues, or aborts them under R294. -/
  | moduleEnWrite (i value : Nat) (ready : Bool) (started : List (Nat × Nat)) (bad : BadPages)
  /-- MODULE_SQ_TAIL (R282). A write of a module queue's SQ_TAIL makes the posted slots fetchable. -/
  | moduleSqTail (i q tail : Nat)
  /-- BOBBIN_COMPLETION (R283). A module completion entry arrives and is matched by CID and acted on by status. -/
  | bobbinCompletion (i q cid : Nat) (bad : BadPages)
  /-- BOBBIN_CMD_TIMEOUT (R292). A module command not completed within its limit completes internally with 0x4A0D and is acted on by type. -/
  | bobbinCmdTimeout (i q cid : Nat) (bad : BadPages)
  /-- CID_QUARANTINE_EXPIRY (R293). A timed-out command's CID leaves quarantine after 50 ms. -/
  | cidQuarantineExpiry (i q cid : Nat)
  /-- MODULE_PORT_ABORT (R294). EN falling, link down or a reset on a module port abandons its unstarted commands, and they complete with 0x1A08. -/
  | modulePortAbort (i kind : Nat) (started : List (Nat × Nat)) (bad : BadPages)
  /-- INBOUND_DMA (R279). A module memory request outside the DRAM windows is refused and counted in BAD_DMA. -/
  | inboundDma (motif addr n : Nat) (write : Bool) (data : Bytes)
  /-- ETH_LINK_CHANGE (R300). An Ethernet sub-port link goes up or down. -/
  | ethLinkChange (motif sub : Nat) (up : Bool) (speed corr uncorr : Nat)
  /-- RDMA_SEND (R316). A SEND is received into its receive queue and acknowledged once placed. -/
  | rdmaSend (hdr : PktHdr) (plain first last : Bool) (data : Bytes)
  /-- RDMA_WRITE (R314). An RDMA WRITE is placed into a memory or namespace region, charging credit atom by atom for namespace regions. -/
  | rdmaWrite (hdr : PktHdr) (va rkey ofs : Nat) (first last imm : Bool) (data : Bytes)
  /-- RDMA_READ (R313). An RDMA READ is executed after earlier namespace writes complete. -/
  | rdmaRead (hdr : PktHdr) (va rkey len : Nat) (bad : BadPages)
  /-- RDMA_ATOMIC (R312). An 8-byte compare-swap or fetch-add on a memory region is executed and mirrored with its result. -/
  | rdmaAtomic (hdr : PktHdr) (va rkey : Nat) (cas : Bool) (a b : Nat)
  /-- CONTEXT_FILL_COMPLETE (R319). A connection context fetch completes, evicting an entry, and its queued packets proceed. -/
  | contextFillComplete (conn : Nat) (late broken : Bool) (bad : BadPages)
  /-- RDMA_ACK_RECEIVE (R324). As requester, an Acknowledge with SACK drives retransmission of missing PSNs. -/
  | rdmaAckReceive (conn kind psn code base high map : Nat) (resync : Bool)
  /-- SPRAY_GAP_TIMEOUT (R324). HIGH_PSN above VPSN for GAP_NS without progress sends a SACK. -/
  | sprayGapTimeout (conn : Nat)
  /-- READ_RESPONSE_GAP (R325). A spray requester missing READ response packets for GAP_NS re-issues the READ for the missing part. -/
  | readResponseGap (conn psn va len : Nat)
  /-- LOCAL_ACK_TIMEOUT (R324). The local ACK timeout retransmits from the oldest unacknowledged PSN and counts against RETRY_CNT. -/
  | localAckTimeout (conn : Nat)
  /-- PATH_SUSPEND_EXPIRY (R322). A spray path suspended for 1 ms returns to use. -/
  | pathSuspendExpiry (conn path : Nat)
  /-- CONN_CREATE (R307). RDM_CONN_CMD CREATE builds a context and returns a connection ID, or fails with 0x6B06, 0x6B07 or 0x1406. -/
  | connCreate (motif value sub : Nat)
  /-- CONN_DESTROY (R309). RDM_CONN_CMD DESTROY moves a connection to TIMEWAIT. -/
  | connDestroy (motif value : Nat)
  /-- CONN_ERROR_CMD (R330). RDM_CONN_CMD ERROR moves a connection to ERROR with 0x4B05. -/
  | connErrorCmd (motif value : Nat)
  /-- TIMEWAIT_EXPIRY (R309). TIMEWAIT_MS elapses, so the connection is FREE with its generation incremented. -/
  | timewaitExpiry (conn : Nat)
  /-- FW_RX_FRAME (R304). A management or PTP frame is placed in the firmware receive ring, with a timestamp where needed. -/
  | fwRxFrame (motif sub : Nat) (frame : Bytes) (ts : Option (Nat × Nat × Nat)) (arpFor : Option Nat)
  /-- FW_TX_POST (R304). A write of TX_TAIL sends the frames of the firmware transmit ring, with timestamps on request. -/
  | fwTxPost (value subNs : Nat)
  /-- PFC_FRAME_RECEIVE (R305). A received PFC or PAUSE frame pauses or resumes transmission of a priority. -/
  | pfcFrameReceive (motif sub prio : Nat) (pause : Bool) (levels : List (Nat × Nat))
  /-- CNP_RECEIVE (R332). A received CNP reduces the connection's rate and raises alpha. -/
  | cnpReceive (conn : Nat) (ce : Bool)
  /-- CC_RATE_TIMER (R332). Each TIMER_US without a CNP decays alpha and increases the rate. -/
  | ccRateTimer (conn : Nat)
  /-- MR_VALIDATE (R328). RDM_MR_CMD VALIDATE makes a FREE region VALID. -/
  | mrValidate (value : Nat)
  /-- MR_REVOKE (R329). RDM_MR_CMD REVOKE raises a fence on every motif and drains the region's placements. -/
  | mrRevoke (value : Nat)
  /-- REVOKE_DRAIN_COMPLETE (R329). The region's in-flight count reaches 0 on every motif, so it becomes FREE and MR_DONE is set. -/
  | revokeDrainComplete
  /-- RPL_SNAPSHOT (R342). RPL_VIEW_CMD SNAPSHOT schedules a cut of a view group at a future stitch. -/
  | rplSnapshot (value : Nat)
  /-- CUT_STITCH_REACHED (R342). At phase 0 of the cut stitch, snapshot IDs are allocated, roots copied and VIEW PENDING journaled. -/
  | cutStitchReached
  /-- SNAPSHOT_READY (R343). No pre-cut atoms remain buffered, so the view is journaled READY. -/
  | snapshotReady (view : Nat) (bad : BadPages)
  /-- RPL_CLONE (R345). RPL_VIEW_CMD CLONE makes an unwritten namespace share a source view's map. -/
  | rplClone (value : Nat)
  /-- RPL_DELETE (R346). RPL_VIEW_CMD DELETE journals DELETING and releases the view's pages through the walker. -/
  | rplDelete (value : Nat)
  /-- WALKER_RELEASE (R347). Every PERIOD stitches each motif's walker releases one page in a WALK transaction. -/
  | walkerRelease (motif : Nat)
  /-- EPOCH_BEGIN (R356). The receiver takes EPOCH_BEGIN, preparing or discarding its staging view. -/
  | epochBegin (t : Nat)
  /-- QUERY (R352). The receiver applies QUERY entries by fingerprint hit or ZERO and answers with APPLIED. -/
  | query (t : Nat)
  /-- APPLIED (R352). The sender takes an APPLIED bitmap and sends DATA for the entries not applied. -/
  | applied (t : Nat) (bad : BadPages)
  /-- DATA (R352). The receiver decrypts and checks shipped records and stores them freshly sealed in staging. -/
  | data (t : Nat) (bad : BadPages)
  /-- EPOCH_END (R353). The receiver takes EPOCH_END and, once all is applied and durable, switches the namespace and sends EPOCH_ACK. -/
  | epochEnd (t : Nat)
  /-- EPOCH_ACK (R353). The sender takes EPOCH_ACK, journals REPL, deletes the old base and makes the epoch the base. -/
  | epochAck (t : Nat)
  /-- EPOCH_RESTART (R356). The sender takes EPOCH_RESTART and begins the epoch again. -/
  | epochRestart (t : Nat) (bad : BadPages)
  /-- REPL_LAG_ALARM (R354). The last acknowledged cut older than LAG_MAX seconds sets RPL_EVT.LAG. -/
  | replLagAlarm (t : Nat)
  /-- SQ_DOORBELL_WRITE (R373). A PF0 submission doorbell write makes entries fetchable, or is latched while fetching pauses. -/
  | sqDoorbellWrite (sq tail : Nat)
  /-- CREATE_IO_SQ (R362). Create I/O Submission Queue creates a PF0 I/O submission queue. -/
  | createIoSq (f : Fetch) (qid size cq : Nat) (contiguous : Bool)
  /-- DELETE_IO_SQ (R362). Delete I/O Submission Queue deletes a PF0 queue, aborting its commands with 0x1D06. -/
  | deleteIoSq (f : Fetch) (qid : Nat)
  /-- CREATE_IO_CQ (R362). Create I/O Completion Queue creates a PF0 completion queue with its vector. -/
  | createIoCq (f : Fetch) (qid size vec : Nat) (ien contiguous : Bool)
  /-- DELETE_IO_CQ (R362). Delete I/O Completion Queue deletes a PF0 completion queue. -/
  | deleteIoCq (f : Fetch) (qid : Nat)
  /-- GET_LOG_PAGE (R377). Get Log Page returns SMART, ANA or vendor pages from HQ, or forwards other pages to firmware. -/
  | getLogPage (f : Fetch) (page ofs len : Nat) (sqe : Bytes)
  /-- NVME_IDENTIFY (R362). Identify is forwarded to firmware, which reports the fixed fields of R359. -/
  | nvmeIdentify (f : Fetch) (sqe : Bytes)
  /-- ABORT (R368). Abort aborts its target only if no work has started, and reports the outcome in dword 0 bit 0. -/
  | abort (f : Fetch) (sq cid : Nat) (waiting : Bool)
  /-- SET_FEATURES (R362). Set Features is executed in HQ for the features it owns and forwarded otherwise. -/
  | setFeatures (f : Fetch) (fid value : Nat) (sqe data : Bytes)
  /-- GET_FEATURES (R362). Get Features is executed in HQ for the features it owns and forwarded otherwise. -/
  | getFeatures (f : Fetch) (fid : Nat) (sqe : Bytes) (out : Nat)
  /-- ASYNC_EVENT_REQUEST (R379). Asynchronous Event Request is held until an enabled event occurs. -/
  | asyncEventRequest (f : Fetch)
  /-- NS_CREATE (R374). Namespace Management create checks ground, ownership, domain, format, view and free ID, then journals the namespace. -/
  | nsCreate (f : Fetch) (data : Bytes)
  /-- NS_DELETE (R376). Namespace Management delete detaches the namespace, waits for fetched commands and deletes its live view. -/
  | nsDelete (f : Fetch)
  /-- FIRMWARE_COMMIT (R372). Firmware Commit is forwarded to firmware and carried out through FWU_COMMIT. -/
  | firmwareCommit (f : Fetch) (sqe : Bytes)
  /-- FIRMWARE_IMAGE_DOWNLOAD (R372). Firmware Image Download is forwarded to firmware, which writes a non-running slot. -/
  | firmwareImageDownload (f : Fetch) (sqe data : Bytes)
  /-- NAMESPACE_ATTACHMENT (R375). Namespace Attachment attaches or detaches a namespace to controllers, refusing twin-fed namespaces on PF0. -/
  | namespaceAttachment (f : Fetch) (attach : Bool) (ctls : List Nat)
  /-- KEEP_ALIVE (R362). Keep Alive restarts a fabrics controller's keep-alive timer. -/
  | keepAlive (f : Fetch)
  /-- KEEP_ALIVE_TIMEOUT (R371). A fabrics keep-alive timeout ends the whole controller. -/
  | keepAliveTimeout (ctl : Nat)
  /-- FABRICS_CONNECT (R360). Fabrics Connect creates a fabrics admin or I/O queue on a connection of the controller's ground. -/
  | fabricsConnect (conn cid qid size ctl kato : Nat)
  /-- PROPERTY_GET (R369). Property Get reads a fabrics controller property. -/
  | propertyGet (f : Fetch) (ofs : Nat)
  /-- PROPERTY_SET (R369). Property Set writes a fabrics controller property, driving its controller state. -/
  | propertySet (f : Fetch) (ofs value : Nat)
  /-- DISCONNECT (R369). Disconnect ends a fabrics queue, and on the admin queue acts as CC.EN 0. -/
  | disconnect (f : Fetch)
  /-- NVME_WRITE (R366). Write admits and lands its atoms and completes under the mode's rule, or after durability with FUA. -/
  | nvmeWrite (f : Fetch) (atom count len : Nat) (fua byWrite : Bool)
  /-- NVME_READ (R166). Read returns the atoms of its range, or 0x1406 for a ground not owned. -/
  | nvmeRead (f : Fetch) (atom count len : Nat) (bad : BadPages)
  /-- NVME_FLUSH (R164). Flush completes once earlier complete writes are in programmed stripes or the staging journal. -/
  | nvmeFlush (f : Fetch)
  /-- WRITE_ZEROES (R362). Write Zeroes is executed as a deallocate of whole atoms. -/
  | writeZeroes (f : Fetch) (atom count : Nat)
  /-- DATASET_MANAGEMENT (R163). Dataset Management Deallocate is admitted and mirrored like a data-less write marking atoms deallocated. -/
  | datasetManagement (f : Fetch) (ranges : List (Nat × Nat)) (dealloc : Bool)
  /-- VERIFY (R362). Verify reads its range under R166 without data transfer. -/
  | verify (f : Fetch) (atom count : Nat) (bad : BadPages)
  /-- FWC_DONE (R361). Firmware writing DONE in a firmware-ring slot sends OUT_LEN bytes and posts the completion. -/
  | fwcDone (slot : Nat)
  /-- CC_EN_SET (R369). CC.EN 1 makes the controller READY within 1 ms, or is latched until PF0_AVAIL or a reset ends. -/
  | ccEnSet (asqs acqs : Nat) (valid : Bool)
  /-- CC_EN_CLEAR (R369). CC.EN 0 stops fetching and starts a controller reset. -/
  | ccEnClear
  /-- CC_SHN_NORMAL (R369). CC.SHN 01b stops fetching, completes fetched commands and flushes attached namespaces. -/
  | ccShnNormal
  /-- CC_SHN_ABRUPT (R369). CC.SHN 10b stops fetching and completes fetched commands. -/
  | ccShnAbrupt
  /-- CONTROLLER_RESET_END (R370). No data transfer remains, so the reset ends with queues deleted and abandoned commands counted. -/
  | controllerResetEnd (ctl : Nat)
  /-- SHUTDOWN_PROCESSING_END (R369). Shut-down processing ends and SHST becomes 10b. -/
  | shutdownProcessingEnd (ctl : Nat)
  /-- PERST_ASSERT (R383). PCIE_PERST_N or a hot reset takes the link down and resets both functions and the PF0 controller. -/
  | perstAssert (hot : Bool)
  /-- PERST_DEASSERT (R382). Release of PCIE_PERST_N starts link training. -/
  | perstDeassert (l : HostLink)
  /-- CONFIG_REQUEST (R382). A configuration request is answered with Request Retry Status until step 3 ends, and served after. -/
  | configRequest (pf : Nat) (bar : Option Nat) (addr n : Nat) (write : Option Bytes)
  /-- EP_RETRAIN (R381). A write of EP_CTL.RETRAIN retrains the host link at its current settings. -/
  | epRetrain (value : Nat) (done : Option HostLink)
  /-- PF0_AVAIL (R384). A write of EP_CTL.PF0_AVAIL lets the PF0 controller become READY. -/
  | pf0Avail (value : Nat)
  /-- BME_CLEAR (R391). Clearing Bus Master Enable stops new requests of the function and holds its commands. -/
  | bmeClear (pf : Nat)
  /-- BME_SET (R392). Setting Bus Master Enable resumes the function, deferred until any drain clears. -/
  | bmeSet (pf : Nat)
  /-- D3HOT_ENTRY (R381). A function entering D3hot is treated as BME 0 while keeping all state. -/
  | d3hotEntry (pf : Nat)
  /-- FLR_PF0 (R393). A function-level reset of PF0 destroys its queues, abandons its commands and resets the controller. -/
  | flrPf0
  /-- FLR_PF1 (R394). A function-level reset of PF1 resets its configuration, MSI-X table and EP_PF1_RAISE. -/
  | flrPf1
  /-- CPL_TIMEOUT (R396). A host read that times out quarantines its tag and fails the request it served. -/
  | cplTimeout (tag : Nat) (other : Option HostReadWhy) (answered : Bool)
  /-- UNEXPECTED_COMPLETION (R397). A completion for a timed-out read is discarded and frees its tag. -/
  | unexpectedCompletion (tag : Nat)
  /-- TAG_QUARANTINE_EXPIRY (R397). A quarantined tag is freed 50 ms after its timeout. -/
  | tagQuarantineExpiry (tag : Nat)
  /-- POISONED_TLP_RECEIVE (R398). A TLP with EP set is taken with poison, failing its command or changing nothing. -/
  | poisonedTlpReceive (pf tag : Nat) (other : Option HostReadWhy)
  /-- PF1_RAISE (R390). A write to EP_PF1_RAISE sends PF1 MSI-X vectors, or sets their PBA bits. -/
  | pf1Raise (value : Nat)
  /-- MSIX_UNMASK (R390). A pending vector becoming unmasked with BME 1 is sent. -/
  | msixUnmask (pf v : Nat) (masked : Bool)
  /-- PF1_BAR2_ACCESS (R389). A host access to PF1 BAR2 reads or writes scratchpad ways of use 0x12. -/
  | pf1Bar2Access (ofs n : Nat) (data : Bytes)
  /-- CORE_UNMAPPED_ACCESS (R27). A core access to an unmapped address raises an access fault, and an engine request completes with 0x2F01. -/
  | coreUnmappedAccess (who : Who) (kind addr n cls : Nat)
  /-- CACHE_FILL (R411). A map-cache miss fills a line, choosing a victim by class ways and the replacement policy. -/
  | cacheFill (who : Who) (kind addr n cls : Nat) (stage : Option (Nat × Nat)) (data : Bytes) (upset : List (Nat × Nat))
  /-- WRITEBACK_COMPLETE (R413). A victim-cache write-back completes and the entry becomes clean. -/
  | writebackComplete (motif line : Nat)
  /-- ECC_INJECT_ARM (R426). A write of ECC_FLIP_TARGET with ARMED arms an injection while INJECT_EN is 1. -/
  | eccInjectArm (motif value : Nat)
  /-- CCH_CLEAN (R417). CCH_MAINT CLEAN writes back dirty lines of a range or set and leaves them valid. -/
  | cchClean (motif value : Nat)
  /-- CCH_INVALIDATE (R419). CCH_MAINT INVALIDATE discards lines, and is allowed only in Winding or with INJECT_EN. -/
  | cchInvalidate (motif value : Nat)
  /-- CCH_CLEAN_INVALIDATE (R417). CCH_MAINT CLEAN_INVALIDATE writes back and then discards lines. -/
  | cchCleanInvalidate (motif value : Nat)
  /-- MAINT_COMPLETE (R417). Every write-back of a maintenance operation is in DRAM, so it completes with STATUS. -/
  | maintComplete (motif : Nat)
  /-- CCH_DISABLE (R420). CCH_CTL.EN 0 stops fills and drains dirty lines. -/
  | cchDisable (motif value : Nat)
  /-- CACHE_DRAIN_COMPLETE (R420). The last dirty line is written, DRAIN clears and a held EN 1 is applied. -/
  | cacheDrainComplete (motif : Nat)
  /-- CCH_POLICY_CHANGE (R412). A change of CCH_CTL.POLICY resets ages or trees and applies from the next replacement. -/
  | cchPolicyChange (motif value : Nat)
  /-- SRAM_SCRUB_WALK (R421). The hardware walker scrubs every protected structure at least once per 200,000 stitches. -/
  | sramScrubWalk (motif : Nat) (found : List (Flip × Nat × Bool))
  /-- TV_SWEEP (R423). Each stitch, every triple-voted word is read and voted. -/
  | tvSweep (upsets : List (Nat × Nat × Nat × Nat × Nat))
  /-- REGULATOR_POLL (R430). Every REG_POLL stitches each regulator's STATUS_WORD is read, and fault bits are a fail-stop. -/
  | regulatorPoll (status : List (Nat × Bool × Bool))
  /-- SMBALERT_FALL (R430). SMBALERT_N falling with ALERT_EN starts an immediate regulator poll. -/
  | smbalertFall (status : List (Nat × Bool × Bool))
  /-- HU_ENERGY_READ_START (R435). At phase 550 every 200 stitches, a PMBus read of hold-up energy starts. -/
  | huEnergyReadStart
  /-- HU_ENERGY_READ_DONE (R435). A hold-up energy read completes, updating E or the failure count. -/
  | huEnergyReadDone (value : Option Nat)
  /-- POWER_RAILS_GOOD (R479). VDD_AON and VDD_IO good for 2 ms starts the enable sequence. -/
  | powerRailsGood (aonRemoved : Bool)
  /-- PEN_ENABLE_STEP (R479). Every 2 ms the sequencer raises the next PEN output. -/
  | penEnableStep
  /-- PGOOD_RISE (R479). PGOOD high for 100 µs starts power-on reset, Winding step 1. -/
  | pgoodRise (headId us : Nat) (huGood : Bool)
  /-- PGOOD_TIMEOUT (R479). PGOOD not high within 10 ms of PEN4 lowers all enables and holds power off. -/
  | pgoodTimeout
  /-- PGOOD_LOW (R480). PGOOD low for 1 µs after step 1 is a regulator fail-stop with 0x7206. -/
  | pgoodLow (lowNs : Nat)
  /-- FWU_ERASE (R457). FWU_CMD ERASE clears a 4 KiB-aligned range of a writable flash part. -/
  | fwuErase (value : Nat)
  /-- FWU_PROGRAM (R457). FWU_CMD PROGRAM writes and reads back up to 64 KiB of a writable flash part. -/
  | fwuProgram (value : Nat)
  /-- FWU_READ (R457). FWU_CMD READ copies up to 64 KiB of flash to memory. -/
  | fwuRead (value : Nat)
  /-- FLASH_OP_COMPLETE (R457). A flash operation ends with its status, a read-back mismatch, or 0x3008 after 5 s. -/
  | flashOpComplete (failed : Bool)
  /-- FWU_COMMIT_NO_ACTION (R458). FWU_COMMIT action 0 does nothing and reports success. -/
  | fwuCommitNoAction (value : Nat)
  /-- FWU_COMMIT_REPLACE (R458). FWU_COMMIT action 1 sets NEXT, TRIAL and PREV for the next Winding. -/
  | fwuCommitReplace (value : Nat)
  /-- FWU_COMMIT_REPLACE_ACTIVATE (R458). FWU_COMMIT action 2 sets NEXT, TRIAL and PREV to activate at the next Winding. -/
  | fwuCommitReplaceActivate (value : Nat)
  /-- FWU_COMMIT_ACTIVATE_NOW (R458). FWU_COMMIT action 3 checks the slot and R100, then commits and enters Rethread. -/
  | fwuCommitActivateNow (value : Nat)
  /-- SMP_SNAP_TAKE (R466). A write of SMP_SNAP.TAKE latches a sampler read snapshot for its context. -/
  | smpSnapTake (k value : Nat)
  /-- CPU_RELEASE (R472). A write of CPU_RELEASE.RUN starts an application core at its RESET_PC, or is refused. -/
  | cpuRelease (motif value : Nat) (byRoot : Bool)
  /-- CPU_HALT (R473). A write of CPU_HCTL.HALT returns a hart to reset after writing back its caches. -/
  | cpuHalt (motif h value : Nat) (withRun : Bool)
  /-- HPM_EVENT_WRITE (R474). A write of CPU_HPM_EVT sets a hart's mhpmevent selector. -/
  | hpmEventWrite (motif h i value : Nat)
  /-- IMSIC_SETEIPNUM (R471). A write to an interrupt file's seteipnum register sets a pending interrupt identity. -/
  | imsicSeteipnum (motif h level value : Nat) (be bar0 : Bool)
  /-- HOST_LINK_DOWN (R399). The host endpoint link goes down or retrains on its own, without PCIE_PERST_N or a hot reset, and EP_EVT.LINK_DOWN or LINK_UP is set. -/
  | hostLinkDown (up : Bool) (l : HostLink)
  /-- D0_RETURN (R381). A function returned from D3hot to D0 resumes service with its kept state. -/
  | d0Return (pf : Nat)
  /-- CQ_HEAD_DOORBELL (R387). A host write of a PF0 completion-queue head doorbell frees completion entries so that further completions can be posted. -/
  | cqHeadDoorbell (cq head : Nat)
  /-- RNR_RETRY_TIMER (R330). As requester, the RNR timer set by a received RNR NAK expires, so the request is retransmitted and counted against RNR_RETRY. -/
  | rnrRetryTimer (conn : Nat)
  /-- MODULE_READY_TIMEOUT (R297). A module port that has not reached discovery step 6 within 2 s of its link training is not ready, and becomes FAILED at step 11 or absent in service. -/
  | moduleReadyTimeout (i : Nat)
  /-- PAUSE_EXPIRY (R305). The pause time carried by a received PAUSE or PFC XOFF frame runs out, and transmission of the priority resumes with NET_SUB_ST.PAUSED cleared. -/
  | pauseExpiry (motif sub prio : Nat) (levels : List (Nat × Nat))
  deriving DecidableEq, Repr

end Sys2Proof
end

