-- ==== Sys2Proof/Decode.lean ====
section
/-! DEFINITION. The command that a table word spells. Every row of spec/opcode_table.json gives no bits, so no word spells a command. -/

namespace Sys2Proof

/-- The command that a word of `nbits` bits spells by the bits of the table: none, since no row of the table gives bits. -/
def decodeTableWord (_nbits _w : Nat) : Option Instr := none

end Sys2Proof
end

