-- ==== Sys2Proof/Machine/Bits.lean ====
section
/-! DEFINITION. Bit fields, byte order (R5) and signed readings, over natural numbers and byte strings. -/

namespace Sys2Proof.Machine

/-- Bits `hi` down to `lo` of `v`. -/
def bits (v hi lo : Nat) : Nat := (v / 2 ^ lo) % 2 ^ (hi + 1 - lo)

/-- One bit of `v`. -/
def bit (v i : Nat) : Bool := (v / 2 ^ i) % 2 == 1

/-- `v` with bits `hi` down to `lo` replaced by the low bits of `x`. -/
def setBits (v hi lo x : Nat) : Nat :=
  v - bits v hi lo * 2 ^ lo + (x % 2 ^ (hi + 1 - lo)) * 2 ^ lo

/-- A Boolean as a bit. -/
def b2n (b : Bool) : Nat := if b then 1 else 0

/-- `v` with bit `i` set to `b`. -/
def putBit (v i : Nat) (b : Bool) : Nat := setBits v i i (b2n b)

/-- The two's-complement reading of a `w`-bit number. -/
def signed (w v : Nat) : Int :=
  let u := v % 2 ^ w
  if u < 2 ^ (w - 1) then (u : Int) else (u : Int) - (2 ^ w : Nat)

/-- The `w`-bit two's-complement pattern of an integer. -/
def ofSigned (w : Nat) (i : Int) : Nat := (i % ((2 ^ w : Nat) : Int)).toNat

/-- An integer held within a signed `w`-bit field, saturating at the field's limits. -/
def satSigned (w : Nat) (i : Int) : Int :=
  let top : Int := (2 ^ (w - 1) : Nat)
  if i < -top then -top else if i ≥ top then top - 1 else i

/-- Addition that stops at `top`. -/
def satAdd (top a b : Nat) : Nat := if a + b ≤ top then a + b else top

/-- The number a little-endian byte string holds (R5). -/
def leNat : Bytes → Nat
  | [] => 0
  | b :: t => b.toNat + 256 * leNat t

/-- `n` bytes of `v`, low byte first (R5). -/
def leBytes : Nat → Nat → Bytes
  | 0, _ => []
  | n + 1, v => BitVec.ofNat 8 v :: leBytes n (v / 256)

/-- The number a big-endian byte string holds. -/
def beNat (b : Bytes) : Nat := leNat b.reverse

/-- `n` bytes of `v`, high byte first. -/
def beBytes (n v : Nat) : Bytes := (leBytes n v).reverse

/-- `len` bytes of `b` from offset `ofs`; fewer where `b` ends. -/
def slice (b : Bytes) (ofs len : Nat) : Bytes := (b.drop ofs).take len

/-- The little-endian number in `len` bytes at `ofs`. -/
def leAt (b : Bytes) (ofs len : Nat) : Nat := leNat (slice b ofs len)

/-- One byte as a number; 0 past the end. -/
def byteAt (b : Bytes) (ofs : Nat) : Nat := (b.getD ofs 0).toNat

/-- `n` zero bytes. -/
def zeros (n : Nat) : Bytes := List.replicate n 0

/-- Every byte is zero. -/
def allZero (b : Bytes) : Bool := b.all (fun x => x == 0)

/-- Bytes as numbers, for building payloads. -/
def bytesOf (l : List Nat) : Bytes := l.map (BitVec.ofNat 8)

/-- The byte string cut into pieces of `n` bytes, the last one perhaps shorter; `fuel` bounds their number. -/
def chunksAux (n : Nat) : Nat → List α → List (List α)
  | 0, _ => []
  | _ + 1, [] => []
  | f + 1, l => l.take n :: chunksAux n f (l.drop n)

/-- `l` cut into pieces of `n`. -/
def chunks (n : Nat) (l : List α) : List (List α) := chunksAux n l.length l

/-- Quotient rounded up. -/
def ceilDiv (a b : Nat) : Nat := (a + b - 1) / b

/-- Exclusive or of two byte strings, as long as the shorter. -/
def xorBytes (a b : Bytes) : Bytes := List.zipWith (fun x y => x ^^^ y) a b

/-- Keep the last element of each key in a list seen as an association. -/
def lookupD (l : List (Nat × α)) (k : Nat) (d : α) : α :=
  match l with
  | [] => d
  | (a, v) :: t => if a = k then v else lookupD t k d

/-- The list with element `i` replaced. -/
def setAt : List α → Nat → α → List α
  | [], _, _ => []
  | _ :: t, 0, v => v :: t
  | h :: t, i + 1, v => h :: setAt t i v

/-- The list with the elements that `p` holds of replaced by their image under `f`. -/
def mapWhere (p : α → Bool) (f : α → α) (l : List α) : List α := l.map (fun x => if p x then f x else x)

end Sys2Proof.Machine
end

