-- ==== Sys2Proof/Machine/Aes.lean ====
section
/-! DEFINITION. The cipher the cipher lanes compute (R209): AES-256 of FIPS 197, GCM of NIST SP 800-38D, and the AES key
wrap of NIST SP 800-38F with which a key-slot load unwraps its key (R220). -/

namespace Sys2Proof.Machine

/-- The AES S-box. -/
def aesSbox : List Byte :=
  [0x63, 0x7C, 0x77, 0x7B, 0xF2, 0x6B, 0x6F, 0xC5, 0x30, 0x01, 0x67, 0x2B, 0xFE, 0xD7, 0xAB, 0x76,
   0xCA, 0x82, 0xC9, 0x7D, 0xFA, 0x59, 0x47, 0xF0, 0xAD, 0xD4, 0xA2, 0xAF, 0x9C, 0xA4, 0x72, 0xC0,
   0xB7, 0xFD, 0x93, 0x26, 0x36, 0x3F, 0xF7, 0xCC, 0x34, 0xA5, 0xE5, 0xF1, 0x71, 0xD8, 0x31, 0x15,
   0x04, 0xC7, 0x23, 0xC3, 0x18, 0x96, 0x05, 0x9A, 0x07, 0x12, 0x80, 0xE2, 0xEB, 0x27, 0xB2, 0x75] ++
  [0x09, 0x83, 0x2C, 0x1A, 0x1B, 0x6E, 0x5A, 0xA0, 0x52, 0x3B, 0xD6, 0xB3, 0x29, 0xE3, 0x2F, 0x84,
   0x53, 0xD1, 0x00, 0xED, 0x20, 0xFC, 0xB1, 0x5B, 0x6A, 0xCB, 0xBE, 0x39, 0x4A, 0x4C, 0x58, 0xCF,
   0xD0, 0xEF, 0xAA, 0xFB, 0x43, 0x4D, 0x33, 0x85, 0x45, 0xF9, 0x02, 0x7F, 0x50, 0x3C, 0x9F, 0xA8,
   0x51, 0xA3, 0x40, 0x8F, 0x92, 0x9D, 0x38, 0xF5, 0xBC, 0xB6, 0xDA, 0x21, 0x10, 0xFF, 0xF3, 0xD2] ++
  [0xCD, 0x0C, 0x13, 0xEC, 0x5F, 0x97, 0x44, 0x17, 0xC4, 0xA7, 0x7E, 0x3D, 0x64, 0x5D, 0x19, 0x73,
   0x60, 0x81, 0x4F, 0xDC, 0x22, 0x2A, 0x90, 0x88, 0x46, 0xEE, 0xB8, 0x14, 0xDE, 0x5E, 0x0B, 0xDB,
   0xE0, 0x32, 0x3A, 0x0A, 0x49, 0x06, 0x24, 0x5C, 0xC2, 0xD3, 0xAC, 0x62, 0x91, 0x95, 0xE4, 0x79,
   0xE7, 0xC8, 0x37, 0x6D, 0x8D, 0xD5, 0x4E, 0xA9, 0x6C, 0x56, 0xF4, 0xEA, 0x65, 0x7A, 0xAE, 0x08] ++
  [0xBA, 0x78, 0x25, 0x2E, 0x1C, 0xA6, 0xB4, 0xC6, 0xE8, 0xDD, 0x74, 0x1F, 0x4B, 0xBD, 0x8B, 0x8A,
   0x70, 0x3E, 0xB5, 0x66, 0x48, 0x03, 0xF6, 0x0E, 0x61, 0x35, 0x57, 0xB9, 0x86, 0xC1, 0x1D, 0x9E,
   0xE1, 0xF8, 0x98, 0x11, 0x69, 0xD9, 0x8E, 0x94, 0x9B, 0x1E, 0x87, 0xE9, 0xCE, 0x55, 0x28, 0xDF,
   0x8C, 0xA1, 0x89, 0x0D, 0xBF, 0xE6, 0x42, 0x68, 0x41, 0x99, 0x2D, 0x0F, 0xB0, 0x54, 0xBB, 0x16]

/-- The inverse AES S-box. -/
def aesInvSbox : List Byte :=
  [0x52, 0x09, 0x6A, 0xD5, 0x30, 0x36, 0xA5, 0x38, 0xBF, 0x40, 0xA3, 0x9E, 0x81, 0xF3, 0xD7, 0xFB,
   0x7C, 0xE3, 0x39, 0x82, 0x9B, 0x2F, 0xFF, 0x87, 0x34, 0x8E, 0x43, 0x44, 0xC4, 0xDE, 0xE9, 0xCB,
   0x54, 0x7B, 0x94, 0x32, 0xA6, 0xC2, 0x23, 0x3D, 0xEE, 0x4C, 0x95, 0x0B, 0x42, 0xFA, 0xC3, 0x4E,
   0x08, 0x2E, 0xA1, 0x66, 0x28, 0xD9, 0x24, 0xB2, 0x76, 0x5B, 0xA2, 0x49, 0x6D, 0x8B, 0xD1, 0x25] ++
  [0x72, 0xF8, 0xF6, 0x64, 0x86, 0x68, 0x98, 0x16, 0xD4, 0xA4, 0x5C, 0xCC, 0x5D, 0x65, 0xB6, 0x92,
   0x6C, 0x70, 0x48, 0x50, 0xFD, 0xED, 0xB9, 0xDA, 0x5E, 0x15, 0x46, 0x57, 0xA7, 0x8D, 0x9D, 0x84,
   0x90, 0xD8, 0xAB, 0x00, 0x8C, 0xBC, 0xD3, 0x0A, 0xF7, 0xE4, 0x58, 0x05, 0xB8, 0xB3, 0x45, 0x06,
   0xD0, 0x2C, 0x1E, 0x8F, 0xCA, 0x3F, 0x0F, 0x02, 0xC1, 0xAF, 0xBD, 0x03, 0x01, 0x13, 0x8A, 0x6B] ++
  [0x3A, 0x91, 0x11, 0x41, 0x4F, 0x67, 0xDC, 0xEA, 0x97, 0xF2, 0xCF, 0xCE, 0xF0, 0xB4, 0xE6, 0x73,
   0x96, 0xAC, 0x74, 0x22, 0xE7, 0xAD, 0x35, 0x85, 0xE2, 0xF9, 0x37, 0xE8, 0x1C, 0x75, 0xDF, 0x6E,
   0x47, 0xF1, 0x1A, 0x71, 0x1D, 0x29, 0xC5, 0x89, 0x6F, 0xB7, 0x62, 0x0E, 0xAA, 0x18, 0xBE, 0x1B,
   0xFC, 0x56, 0x3E, 0x4B, 0xC6, 0xD2, 0x79, 0x20, 0x9A, 0xDB, 0xC0, 0xFE, 0x78, 0xCD, 0x5A, 0xF4] ++
  [0x1F, 0xDD, 0xA8, 0x33, 0x88, 0x07, 0xC7, 0x31, 0xB1, 0x12, 0x10, 0x59, 0x27, 0x80, 0xEC, 0x5F,
   0x60, 0x51, 0x7F, 0xA9, 0x19, 0xB5, 0x4A, 0x0D, 0x2D, 0xE5, 0x7A, 0x9F, 0x93, 0xC9, 0x9C, 0xEF,
   0xA0, 0xE0, 0x3B, 0x4D, 0xAE, 0x2A, 0xF5, 0xB0, 0xC8, 0xEB, 0xBB, 0x3C, 0x83, 0x53, 0x99, 0x61,
   0x17, 0x2B, 0x04, 0x7E, 0xBA, 0x77, 0xD6, 0x26, 0xE1, 0x69, 0x14, 0x63, 0x55, 0x21, 0x0C, 0x7D]

/-- The S-box on one byte. -/
def subByte (b : Byte) : Byte := aesSbox.getD b.toNat 0

/-- The inverse S-box on one byte. -/
def invSubByte (b : Byte) : Byte := aesInvSbox.getD b.toNat 0

/-- Multiplication by x in the field of AES. -/
def xtime (b : Byte) : Byte := if b.getLsbD 7 then (b <<< 1) ^^^ 0x1B#8 else b <<< 1

/-- Multiplication by a small constant in the field of AES. -/
def gmulAes (b : Byte) (k : Nat) : Byte :=
  let x2 := xtime b
  let x4 := xtime x2
  let x8 := xtime x4
  (if k % 2 = 1 then b else 0) ^^^ (if (k / 2) % 2 = 1 then x2 else 0) ^^^
    (if (k / 4) % 2 = 1 then x4 else 0) ^^^ (if (k / 8) % 2 = 1 then x8 else 0)

/-- The AES-256 key schedule: 60 words of four bytes, newest eight words first while it is built. -/
def aesExpandAux : Nat → Nat → Byte → List Bytes → List Bytes
  | 0, _, _, acc => acc.reverse
  | n + 1, i, rcon, acc =>
    let prev := acc.getD 0 []
    let back := acc.getD 7 []
    if i % 8 = 0 then
      let t := ((prev.drop 1) ++ prev.take 1).map subByte
      let t := xorBytes t [rcon, 0, 0, 0]
      aesExpandAux n (i + 1) (xtime rcon) (xorBytes back t :: acc)
    else if i % 8 = 4 then
      aesExpandAux n (i + 1) rcon (xorBytes back (prev.map subByte) :: acc)
    else
      aesExpandAux n (i + 1) rcon (xorBytes back prev :: acc)

/-- The fifteen round keys of a 32-byte key. -/
def aesRoundKeys (key : Bytes) : List Bytes :=
  (chunks 4 (aesExpandAux 52 8 0x01 (chunks 4 key).reverse)).map List.flatten

/-- ShiftRows: byte i of the result is byte (5 i) mod 16 of the block. -/
def shiftRows (b : Bytes) : Bytes := (List.range 16).map (fun i => b.getD (5 * i % 16) 0)

/-- The inverse of ShiftRows. -/
def invShiftRows (b : Bytes) : Bytes := (List.range 16).map (fun i => b.getD (13 * i % 16) 0)

/-- One column times a circulant matrix given by its first row. -/
def mixColumn (r : List Nat) (c : Bytes) : Bytes :=
  (List.range 4).map (fun i =>
    (List.range 4).foldl (fun a j => a ^^^ gmulAes (c.getD j 0) (r.getD ((j + 4 - i) % 4) 0)) 0)

/-- MixColumns with the given matrix. -/
def mixColumns (r : List Nat) (b : Bytes) : Bytes := (chunks 4 b).flatMap (mixColumn r)

/-- AES-256 encryption of one block under round keys. -/
def aesEncryptBlock (rk : List Bytes) (b : Bytes) : Bytes :=
  let s := (List.range 13).foldl
    (fun s i => xorBytes (mixColumns [2, 3, 1, 1] (shiftRows (s.map subByte))) (rk.getD (i + 1) []))
    (xorBytes b (rk.getD 0 []))
  xorBytes (shiftRows (s.map subByte)) (rk.getD 14 [])

/-- AES-256 decryption of one block under round keys. -/
def aesDecryptBlock (rk : List Bytes) (b : Bytes) : Bytes :=
  let s := (List.range 13).foldl
    (fun s i => mixColumns [14, 11, 13, 9] (xorBytes ((invShiftRows s).map invSubByte) (rk.getD (13 - i) [])))
    (xorBytes b (rk.getD 14 []))
  xorBytes ((invShiftRows s).map invSubByte) (rk.getD 0 [])

/-- Multiplication in the field of GHASH; bit 127 of a number is the first bit of the block. -/
def ghashMul (x y : BitVec 128) : BitVec 128 :=
  ((List.range 128).foldl
    (fun (zv : BitVec 128 × BitVec 128) i =>
      let z := if x.getLsbD (127 - i) then zv.1 ^^^ zv.2 else zv.1
      let v := if zv.2.getLsbD 0 then (zv.2 >>> 1) ^^^ (0xE1#128 <<< 120) else zv.2 >>> 1
      (z, v)) (0, y)).1

/-- Zero padding to a whole number of 16-byte blocks. -/
def pad16 (b : Bytes) : Bytes := b ++ zeros ((16 - b.length % 16) % 16)

/-- GHASH under the hash key `h`. -/
def ghash (h : BitVec 128) (data : Bytes) : BitVec 128 :=
  (chunks 16 data).foldl (fun y c => ghashMul (y ^^^ BitVec.ofNat 128 (beNat c)) h) 0

/-- The key stream of AES-GCM from counter value `ctr` on, over `n` blocks, with the 96-bit nonce `iv`. -/
def gcmStream (rk : List Bytes) (iv : Bytes) : Nat → Nat → Bytes
  | _, 0 => []
  | ctr, n + 1 => aesEncryptBlock rk (iv ++ beBytes 4 ctr) ++ gcmStream rk iv (ctr + 1) n

/-- The 16-byte tag of AES-256-GCM over additional data and ciphertext. -/
def gcmTag (rk : List Bytes) (iv aad ct : Bytes) : Bytes :=
  let h := BitVec.ofNat 128 (beNat (aesEncryptBlock rk (zeros 16)))
  let g := ghash h (pad16 aad ++ pad16 ct ++ beBytes 8 (8 * aad.length) ++ beBytes 8 (8 * ct.length))
  xorBytes (beBytes 16 g.toNat) (aesEncryptBlock rk (iv ++ beBytes 4 1))

/-- AES-256-GCM encryption: ciphertext and tag. -/
def gcmSeal (key iv aad pt : Bytes) : Bytes × Bytes :=
  let rk := aesRoundKeys key
  let ct := xorBytes pt (gcmStream rk iv 2 (ceilDiv pt.length 16))
  (ct, gcmTag rk iv aad ct)

/-- AES-256-GCM decryption: the plaintext, only where the tag agrees (R229). -/
def gcmOpen (key iv aad ct tag : Bytes) : Option Bytes :=
  let rk := aesRoundKeys key
  if gcmTag rk iv aad ct = tag then some (xorBytes ct (gcmStream rk iv 2 (ceilDiv ct.length 16))) else none

/-- One step of AES key unwrap, with step counter `t`: the register A and the n 8-byte blocks. -/
def kwStep (rk : List Bytes) (n : Nat) (st : Bytes × List Bytes) (t : Nat) : Bytes × List Bytes :=
  let i := (t - 1) % n
  let b := aesDecryptBlock rk (xorBytes st.1 (beBytes 8 t) ++ st.2.getD i [])
  (b.take 8, setAt st.2 i (b.drop 8))

/-- AES key unwrap of a wrapped key of n + 1 blocks of 8 bytes: the key, where the check value is right. -/
def aesKeyUnwrap (kek wrapped : Bytes) : Option Bytes :=
  let rk := aesRoundKeys kek
  let bl := chunks 8 wrapped
  let n := bl.length - 1
  let st := ((List.range (6 * n)).map (fun j => 6 * n - j)).foldl (kwStep rk n) (bl.getD 0 [], bl.drop 1)
  if st.1 = List.replicate 8 (0xA6 : Byte) then some st.2.flatten else none

end Sys2Proof.Machine
end

