-- ==== Sys2Proof/Machine/Gf.lean ====
section
/-! DEFINITION. The Reed–Solomon code of R255 over GF(2^8), its rows and their reconstruction, and the rotation of members (R256). -/

namespace Sys2Proof.Machine

/-- Multiplication by x in the field of R255 (0x11D). -/
def gfDouble (a : Nat) : Nat := if 128 ≤ a then (2 * a) ^^^ 0x11D else 2 * a

/-- The product in the field, over the low 8 bits of `b`. -/
def gmul (a b : Nat) : Nat :=
  ((List.range 8).foldl (fun (st : Nat × Nat) i => (if bit b i then st.1 ^^^ st.2 else st.1, gfDouble st.2)) (0, a)).1

/-- The inverse in the field: the 254th power. -/
def ginv (a : Nat) : Nat :=
  ((List.range 7).foldl (fun (st : Nat × Nat) _ => let q := gmul st.2 st.2; (gmul st.1 q, q)) (1, a)).1

/-- The Cauchy coefficient of parity byte `i` and data member `j` (R255). -/
def cauchy (i j : Nat) : Nat := ginv (i ^^^ (4 + j))

/-- A page scaled by a field element. -/
def gfScale (c : Nat) (p : Bytes) : Bytes :=
  if c = 0 then p.map (fun _ => 0)
  else
    let t := ((List.range 256).map (fun x => BitVec.ofNat 8 (gmul c x))).toArray
    p.map (fun b => t.getD b.toNat 0)

/-- The sum of pages, each scaled by its coefficient. -/
def gfCombine (len : Nat) (cs : List (Nat × Bytes)) : Bytes :=
  cs.foldl (fun a cp => xorBytes a (gfScale cp.1 cp.2)) (zeros len)

/-- Parity page `i` of a row's data pages (R255). -/
def parityPage (data : List Bytes) (i : Nat) : Bytes :=
  gfCombine (data.headD []).length ((List.range data.length).zip data |>.map (fun p => (cauchy i p.1, p.2)))

/-- ENCODE (R263): the `m` parity pages of a row. -/
def encodeRow (data : List Bytes) (m : Nat) : List Bytes := (List.range m).map (parityPage data)

/-- The coefficients over the data members of code member `e`: data for `e < k`, parity `e - k` from there on. -/
def codeRow (k e : Nat) : List Nat :=
  if e < k then (List.range k).map (fun j => if j = e then 1 else 0) else (List.range k).map (fun j => cauchy (e - k) j)

/-- Row `r` reduced by a multiple of the pivot row so that column `c` is 0. -/
def eliminate (c : Nat) (piv r : List Nat) : List Nat :=
  let f := r.getD c 0
  if f = 0 then r else List.zipWith (fun x y => x ^^^ gmul f y) r piv

/-- Gauss–Jordan elimination of column `c` of an augmented matrix. -/
def pivotStep (rows : List (List Nat)) (c : Nat) : List (List Nat) :=
  match (List.range rows.length).find? (fun i => decide (c ≤ i) && (rows.getD i []).getD c 0 != 0) with
  | none => rows
  | some i =>
    let pr := rows.getD i []
    let piv := pr.map (gmul (ginv (pr.getD c 0)))
    let swapped := setAt (setAt rows i (rows.getD c [])) c piv
    (List.range swapped.length).map (fun j => if j = c then piv else eliminate c piv (swapped.getD j []))

/-- The inverse of a `k` by `k` matrix with an inverse. -/
def gfInvert (k : Nat) (m : List (List Nat)) : List (List Nat) :=
  let aug := (List.range k).map (fun i => m.getD i [] ++ (List.range k).map (fun j => if i = j then 1 else 0))
  ((List.range k).foldl pivotStep aug).map (fun r => r.drop k)

/-- DECODE (R263, R265): the data pages of a row from its first `k` good members, each given with its code member number. -/
def decodeRow (k : Nat) (good : List (Nat × Bytes)) : List Bytes :=
  let first := good.take k
  let inv := gfInvert k (first.map (fun p => codeRow k p.1))
  inv.map (fun r => gfCombine ((first.headD (0, [])).2).length (r.zip (first.map (fun p => p.2))))

/-- The member position of code member `e` in stripe `s` of `n` members (R256). -/
def positionOf (n s e : Nat) : Nat := (e + s % n) % n

/-- The code member at a member position in stripe `s` (R256). -/
def codeMemberAt (n s pos : Nat) : Nat := (pos + n - s % n) % n

end Sys2Proof.Machine
end

