-- ==== Sys2Proof/Config.lean ====
section
/-! DEFINITION. What an implementation fixes or the spec leaves open: values nothing constrains. Each is a constant without a body, so no
proof can see a value of it; a claim that holds, holds whatever it is. -/

namespace Sys2Proof.Config

/-- A value the spec leaves open: the n-th that the machine has needed. The state holds the counter n (log 4). -/
opaque freeValue : Nat → Nat

/-- The hash by which a connection ID picks its set of the connection context cache (R317): the spec does not give it. -/
opaque ctxHash : Nat → Nat

/-- The home of a metadata page, before it is taken modulo the motifs (R347): the spec does not give it. -/
opaque pageHome : Nat → Nat

/-- The SHA-384 of the boot ROM (R207), as a number: the spec does not give the ROM. -/
opaque bootRomDigest : Nat

/-- The lengths of a Huffman code of a histogram that R179 leaves open: one hexadecimal digit for each symbol. -/
opaque huffman : List Nat → Nat

/-- The first candidate bucket of a fingerprint in the index (R155), and the other one by the first bucket and the tag: the spec gives neither function. -/
opaque fpBucket : Nat → Nat

/-- The other candidate bucket. -/
opaque fpOther : Nat → Nat → Nat

/-- Where the completion queue of a module's queue lies, as a number of 4 KiB units within its motif's DRAM (R280): the spec leaves it to the head. -/
opaque bobQueue : Nat → Nat

/-- Where the data of a command to a module lies, as a number of 4 KiB units within its motif's DRAM (R284): the spec leaves it to the head. -/
opaque bobBuffer : Nat → Nat

/-- The bytes of configuration space that the spec leaves to PCIe, by function and offset, at reset (R385, R386, log 63). -/
opaque cfgByte : Nat → Nat → Nat

end Sys2Proof.Config
end

