-- ==== Sys2Proof/Machine/Crc.lean ====
section
/-! DEFINITION. The checks by polynomial: CRC-16 of R49 and CRC-32C of R112. -/

namespace Sys2Proof.Machine

/-- One bit of the CRC-16 of R49 (polynomial 0x1021, high bit first). -/
def crc16Bit (c : BitVec 16) (b : Bool) : BitVec 16 :=
  if (c.getLsbD 15) != b then (c <<< 1) ^^^ 0x1021#16 else c <<< 1

/-- The CRC-16 of R49 over a bit string, high bit first: initial value 0xFFFF, no final exclusive or. -/
def crc16Bits (l : List Bool) : Nat := (l.foldl crc16Bit 0xFFFF#16).toNat

/-- The bits of a byte, bit 7 first. -/
def byteBits (b : Byte) : List Bool := [7, 6, 5, 4, 3, 2, 1, 0].map (fun i => b.getLsbD i)

/-- The CRC-16 of R49 over bytes. -/
def crc16 (l : Bytes) : Nat := crc16Bits (l.flatMap byteBits)

/-- One bit step of CRC-32C in its reflected form (polynomial 0x1EDC6F41, reflected 0x82F63B78). -/
def crc32cStep (c : BitVec 32) : BitVec 32 :=
  if c.getLsbD 0 then (c >>> 1) ^^^ 0x82F63B78#32 else c >>> 1

/-- One byte of CRC-32C. -/
def crc32cByte (c : BitVec 32) (b : Byte) : BitVec 32 :=
  let x := c ^^^ b.setWidth 32
  crc32cStep (crc32cStep (crc32cStep (crc32cStep (crc32cStep (crc32cStep (crc32cStep (crc32cStep x)))))))

/-- CRC-32C over bytes: initial value and final exclusive or all ones (R112). -/
def crc32c (l : Bytes) : Nat := ((l.foldl crc32cByte 0xFFFFFFFF#32) ^^^ 0xFFFFFFFF#32).toNat

/-- One bit of CRC-64 as NVMe's 64-bit guard uses it: reflected, polynomial 0xAD93D23594C93659 (log 25). -/
def crc64Step (c : BitVec 64) : BitVec 64 :=
  if c.getLsbD 0 then (c >>> 1) ^^^ 0x9A6C9329AC4BC9B5#64 else c >>> 1

/-- One byte of CRC-64. -/
def crc64Byte (c : BitVec 64) (b : Byte) : BitVec 64 := (List.range 8).foldl (fun c _ => crc64Step c) (c ^^^ b.setWidth 64)

/-- The 64-bit guard of data. -/
def crc64 (l : Bytes) : Nat := ((l.foldl crc64Byte 0xFFFFFFFFFFFFFFFF#64) ^^^ 0xFFFFFFFFFFFFFFFF#64).toNat

end Sys2Proof.Machine
end

