-- ==== Sys2Proof/Machine/RegSpec.lean ====
section
/-! DEFINITION. The shape of a register table: access types (R9), reset kinds (R13), fields and registers (R6, R14). -/

namespace Sys2Proof.Machine

/-- The access types of R9 that say what a read and a write do. -/
inductive Acc where
  | rw | ro | w1c | w1s | wo | rc
  deriving DecidableEq, Repr

/-- The access types of R9 that add to another: PL (pricking-locked) and TV (triple-voted). -/
inductive Extra where
  | none | pl | tv
  deriving DecidableEq, Repr

/-- Whether the reset value is fixed or a hardware load gives it (R14: the table shows a dash). -/
inductive ResetSrc where
  | fixed | hw
  deriving DecidableEq, Repr

/-- The letters of a Reset column (R14). P stands in every row. -/
inductive Letters where
  | p | pw | pwm | pwf | pwfc
  deriving DecidableEq, Repr

/-- The reset kinds of R13. -/
inductive ResetKind where
  | powerOn | warm | motif | flr | controller
  deriving DecidableEq, Repr

/-- Which packages and motifs hold a register (R19, R39). -/
inductive Presence where
  | always | root | optC | optE | optERoot
  deriving DecidableEq, Repr

/-- One row of a register table. -/
structure FieldSpec where
  hi : Nat
  lo : Nat
  acc : Acc
  extra : Extra
  src : ResetSrc
  reset : Nat
  letters : Letters
  deriving DecidableEq, Repr

/-- One register table: window, block position (R469), offset, the strides and counts of an array, width and rows. -/
structure RegSpec where
  pkg : Bool
  block : Nat
  off : Nat
  stride : Nat
  count : Nat
  stride2 : Nat
  count2 : Nat
  wide : Bool
  presence : Presence
  fields : List FieldSpec
  deriving DecidableEq, Repr

/-- A named field: its register and its bits. -/
structure Fld (ρ : Type) where
  reg : ρ
  hi : Nat
  lo : Nat
  deriving DecidableEq, Repr

end Sys2Proof.Machine
end

