-- ==== Sys2Proof/Machine/RegTable.lean ====
section
/-! DEFINITION. The register tables of spec/ (files 01 to 20), one constructor of `Reg` per register of a table, its
place (R6, R469), width (R7), element counts, presence (R19, R39) and fields with access type (R9), reset value and
reset letters (R13, R14). Each `spec_*` definition restates one register table; `F.*` names the fields. -/

namespace Sys2Proof.Machine

/-- PKG_ID: spec/01_architecture.md. -/
def spec_PKG_ID : RegSpec :=
  ⟨true, 0, 0x0, 0x0, 1, 0x0, 1, true, .always,
   [⟨63, 32, .ro, .none, .fixed, 0x78400001, .p⟩,
    ⟨15, 12, .ro, .none, .hw, 0, .p⟩,
    ⟨11, 8, .ro, .none, .hw, 0, .p⟩,
    ⟨0, 0, .ro, .none, .hw, 0, .p⟩]⟩

/-- PKG_CAP: spec/01_architecture.md. -/
def spec_PKG_CAP : RegSpec :=
  ⟨true, 0, 0x8, 0x0, 1, 0x0, 1, true, .always,
   [⟨39, 32, .ro, .none, .hw, 0, .p⟩,
    ⟨31, 28, .ro, .none, .hw, 0, .p⟩,
    ⟨23, 16, .ro, .none, .fixed, 0x1c, .p⟩,
    ⟨15, 12, .ro, .none, .hw, 0, .p⟩,
    ⟨3, 3, .ro, .none, .hw, 0, .p⟩,
    ⟨2, 2, .ro, .none, .hw, 0, .p⟩,
    ⟨1, 1, .ro, .none, .hw, 0, .p⟩,
    ⟨0, 0, .ro, .none, .hw, 0, .p⟩]⟩

/-- PKG_UNIT_ID_LO: spec/01_architecture.md. -/
def spec_PKG_UNIT_ID_LO : RegSpec :=
  ⟨true, 0, 0x10, 0x0, 1, 0x0, 1, true, .always,
   [⟨63, 0, .ro, .none, .hw, 0, .p⟩]⟩

/-- PKG_UNIT_ID_HI: spec/01_architecture.md. -/
def spec_PKG_UNIT_ID_HI : RegSpec :=
  ⟨true, 0, 0x18, 0x0, 1, 0x0, 1, true, .always,
   [⟨63, 0, .ro, .none, .hw, 0, .p⟩]⟩

/-- PKG_MOTIF_ST: spec/01_architecture.md. -/
def spec_PKG_MOTIF_ST : RegSpec :=
  ⟨true, 0, 0x20, 0x0, 1, 0x0, 1, true, .always,
   [⟨2, 2, .ro, .none, .fixed, 0, .pw⟩,
    ⟨1, 1, .ro, .none, .fixed, 0, .pw⟩,
    ⟨0, 0, .ro, .none, .hw, 0, .pw⟩,
    ⟨10, 10, .ro, .none, .fixed, 0, .pw⟩,
    ⟨9, 9, .ro, .none, .fixed, 0, .pw⟩,
    ⟨8, 8, .ro, .none, .hw, 0, .pw⟩,
    ⟨18, 18, .ro, .none, .fixed, 0, .pw⟩,
    ⟨17, 17, .ro, .none, .fixed, 0, .pw⟩,
    ⟨16, 16, .ro, .none, .hw, 0, .pw⟩,
    ⟨26, 26, .ro, .none, .fixed, 0, .pw⟩,
    ⟨25, 25, .ro, .none, .fixed, 0, .pw⟩,
    ⟨24, 24, .ro, .none, .hw, 0, .pw⟩,
    ⟨34, 34, .ro, .none, .fixed, 0, .pw⟩,
    ⟨33, 33, .ro, .none, .fixed, 0, .pw⟩,
    ⟨32, 32, .ro, .none, .hw, 0, .pw⟩,
    ⟨42, 42, .ro, .none, .fixed, 0, .pw⟩,
    ⟨41, 41, .ro, .none, .fixed, 0, .pw⟩,
    ⟨40, 40, .ro, .none, .hw, 0, .pw⟩,
    ⟨50, 50, .ro, .none, .fixed, 0, .pw⟩,
    ⟨49, 49, .ro, .none, .fixed, 0, .pw⟩,
    ⟨48, 48, .ro, .none, .hw, 0, .pw⟩,
    ⟨58, 58, .ro, .none, .fixed, 0, .pw⟩,
    ⟨57, 57, .ro, .none, .fixed, 0, .pw⟩,
    ⟨56, 56, .ro, .none, .hw, 0, .pw⟩]⟩

/-- PKG_MODE: spec/04_modes.md. -/
def spec_PKG_MODE : RegSpec :=
  ⟨true, 0, 0x40, 0x0, 1, 0x0, 1, true, .always,
   [⟨23, 20, .ro, .none, .fixed, 0xf, .pw⟩,
    ⟨17, 17, .ro, .none, .fixed, 0, .pw⟩,
    ⟨16, 16, .ro, .none, .fixed, 0, .pw⟩,
    ⟨14, 12, .ro, .none, .fixed, 0, .pw⟩,
    ⟨9, 8, .ro, .none, .fixed, 0, .p⟩,
    ⟨6, 4, .ro, .none, .fixed, 0, .p⟩,
    ⟨2, 0, .ro, .tv, .fixed, 0, .pw⟩]⟩

/-- PKG_MODE_AT: spec/04_modes.md. -/
def spec_PKG_MODE_AT : RegSpec :=
  ⟨true, 0, 0x48, 0x0, 1, 0x0, 1, true, .always,
   [⟨63, 0, .ro, .none, .fixed, 0, .pw⟩]⟩

/-- PKG_MODE_EV: spec/04_modes.md. -/
def spec_PKG_MODE_EV : RegSpec :=
  ⟨true, 0, 0x50, 0x0, 1, 0x0, 1, false, .always,
   [⟨8, 8, .w1c, .none, .fixed, 0, .pw⟩,
    ⟨7, 7, .w1c, .none, .fixed, 0, .pw⟩,
    ⟨6, 6, .w1c, .none, .fixed, 0, .pw⟩,
    ⟨5, 5, .w1c, .none, .fixed, 0, .pw⟩,
    ⟨4, 4, .w1c, .none, .fixed, 0, .pw⟩,
    ⟨3, 3, .w1c, .none, .fixed, 0, .pw⟩,
    ⟨2, 2, .w1c, .none, .fixed, 0, .pw⟩,
    ⟨1, 1, .w1c, .none, .fixed, 0, .pw⟩,
    ⟨0, 0, .w1c, .none, .fixed, 0, .pw⟩]⟩

/-- PKG_WIND: spec/04_modes.md. -/
def spec_PKG_WIND : RegSpec :=
  ⟨true, 0, 0x58, 0x0, 1, 0x0, 1, true, .always,
   [⟨63, 32, .ro, .none, .fixed, 0, .pw⟩,
    ⟨31, 16, .ro, .none, .fixed, 0, .pw⟩,
    ⟨8, 8, .ro, .none, .fixed, 0, .pw⟩,
    ⟨4, 0, .ro, .none, .fixed, 0, .pw⟩]⟩

/-- PKG_RST: spec/04_modes.md. -/
def spec_PKG_RST : RegSpec :=
  ⟨true, 0, 0x60, 0x0, 1, 0x0, 1, false, .always,
   [⟨31, 24, .wo, .none, .fixed, 0, .pw⟩,
    ⟨10, 8, .rw, .none, .fixed, 0, .pw⟩,
    ⟨1, 1, .w1s, .none, .fixed, 0, .pw⟩,
    ⟨0, 0, .w1s, .none, .fixed, 0, .pw⟩]⟩

/-- PKG_RST_CAUSE: spec/04_modes.md. -/
def spec_PKG_RST_CAUSE : RegSpec :=
  ⟨true, 0, 0x68, 0x0, 1, 0x0, 1, true, .always,
   [⟨63, 48, .ro, .none, .fixed, 0, .p⟩,
    ⟨31, 16, .ro, .none, .fixed, 0, .p⟩,
    ⟨3, 0, .ro, .none, .fixed, 0, .p⟩]⟩

/-- PKG_WIND_TIME: spec/04_modes.md. -/
def spec_PKG_WIND_TIME : RegSpec :=
  ⟨true, 0, 0x100, 0x8, 14, 0x0, 1, true, .always,
   [⟨31, 0, .ro, .none, .fixed, 0, .pw⟩]⟩

/-- PKG_ADMIT_USE: spec/06_data_path.md. -/
def spec_PKG_ADMIT_USE : RegSpec :=
  ⟨true, 0, 0x200, 0x0, 1, 0x0, 1, true, .always,
   [⟨63, 32, .ro, .none, .fixed, 0, .pw⟩,
    ⟨31, 0, .ro, .none, .fixed, 0, .pw⟩]⟩

/-- PKG_ADMIT_MIR: spec/06_data_path.md. -/
def spec_PKG_ADMIT_MIR : RegSpec :=
  ⟨true, 0, 0x208, 0x0, 1, 0x0, 1, true, .always,
   [⟨63, 32, .ro, .none, .fixed, 0, .pw⟩,
    ⟨31, 0, .ro, .none, .fixed, 0, .pw⟩]⟩

/-- PKG_ADMIT_LIM: spec/06_data_path.md. -/
def spec_PKG_ADMIT_LIM : RegSpec :=
  ⟨true, 0, 0x210, 0x0, 1, 0x0, 1, true, .always,
   [⟨63, 32, .ro, .none, .fixed, 0, .pw⟩,
    ⟨31, 0, .ro, .none, .fixed, 0, .pw⟩]⟩

/-- PKG_ADMIT_ST: spec/06_data_path.md. -/
def spec_PKG_ADMIT_ST : RegSpec :=
  ⟨true, 0, 0x218, 0x0, 1, 0x0, 1, false, .always,
   [⟨2, 2, .ro, .none, .fixed, 0, .pw⟩,
    ⟨1, 1, .ro, .none, .fixed, 0, .pw⟩,
    ⟨0, 0, .ro, .none, .fixed, 0, .pw⟩]⟩

/-- PKG_ADMIT_CLS: spec/06_data_path.md. -/
def spec_PKG_ADMIT_CLS : RegSpec :=
  ⟨true, 0, 0x220, 0x8, 4, 0x0, 1, true, .always,
   [⟨63, 32, .ro, .none, .fixed, 0, .pw⟩,
    ⟨31, 0, .ro, .none, .fixed, 0, .pw⟩]⟩

/-- PKG_DP_EVT: spec/06_data_path.md. -/
def spec_PKG_DP_EVT : RegSpec :=
  ⟨true, 0, 0x240, 0x0, 1, 0x0, 1, false, .always,
   [⟨3, 3, .w1c, .none, .fixed, 0, .pw⟩,
    ⟨2, 2, .w1c, .none, .fixed, 0, .pw⟩,
    ⟨1, 1, .w1c, .none, .fixed, 0, .pw⟩,
    ⟨0, 0, .w1c, .none, .fixed, 0, .pw⟩]⟩

/-- STC_CTL: spec/02_stitch_timebase.md. -/
def spec_STC_CTL : RegSpec :=
  ⟨true, 1, 0x0, 0x0, 1, 0x0, 1, true, .always,
   [⟨11, 11, .rw, .none, .fixed, 0, .pw⟩,
    ⟨10, 8, .rw, .pl, .hw, 0, .p⟩,
    ⟨7, 5, .rw, .pl, .hw, 0, .p⟩,
    ⟨4, 4, .w1s, .none, .fixed, 0, .pw⟩,
    ⟨0, 0, .rw, .pl, .hw, 0, .p⟩]⟩

/-- STC_ST: spec/02_stitch_timebase.md. -/
def spec_STC_ST : RegSpec :=
  ⟨true, 1, 0x8, 0x0, 1, 0x0, 1, true, .always,
   [⟨47, 32, .ro, .none, .fixed, 0, .pw⟩,
    ⟨31, 16, .ro, .none, .fixed, 0, .p⟩,
    ⟨8, 8, .ro, .none, .fixed, 0, .pw⟩,
    ⟨7, 7, .ro, .none, .fixed, 0, .p⟩,
    ⟨6, 6, .ro, .none, .fixed, 0, .pw⟩,
    ⟨5, 5, .ro, .none, .fixed, 0, .p⟩,
    ⟨2, 0, .ro, .none, .fixed, 0, .pw⟩]⟩

/-- STC_EVT: spec/02_stitch_timebase.md. -/
def spec_STC_EVT : RegSpec :=
  ⟨true, 1, 0x10, 0x0, 1, 0x0, 1, false, .always,
   [⟨8, 8, .w1c, .none, .fixed, 0, .pw⟩,
    ⟨7, 7, .w1c, .none, .fixed, 0, .pw⟩,
    ⟨6, 6, .w1c, .none, .fixed, 0, .pw⟩,
    ⟨5, 5, .w1c, .none, .fixed, 0, .pw⟩,
    ⟨4, 4, .w1c, .none, .fixed, 0, .pw⟩,
    ⟨3, 3, .w1c, .none, .fixed, 0, .pw⟩,
    ⟨2, 2, .w1c, .none, .fixed, 0, .pw⟩,
    ⟨1, 1, .w1c, .none, .fixed, 0, .pw⟩,
    ⟨0, 0, .w1c, .none, .fixed, 0, .pw⟩]⟩

/-- STC_NUM: spec/02_stitch_timebase.md. -/
def spec_STC_NUM : RegSpec :=
  ⟨true, 1, 0x18, 0x0, 1, 0x0, 1, true, .always,
   [⟨63, 0, .ro, .tv, .fixed, 0, .p⟩]⟩

/-- STC_PH_LATCH: spec/02_stitch_timebase.md. -/
def spec_STC_PH_LATCH : RegSpec :=
  ⟨true, 1, 0x20, 0x0, 1, 0x0, 1, false, .always,
   [⟨9, 0, .ro, .none, .fixed, 0, .p⟩]⟩

/-- STC_NUM_OFS: spec/02_stitch_timebase.md. -/
def spec_STC_NUM_OFS : RegSpec :=
  ⟨true, 1, 0x28, 0x0, 1, 0x0, 1, true, .always,
   [⟨63, 0, .ro, .none, .fixed, 0, .p⟩]⟩

/-- STC_PTP_ADJ: spec/02_stitch_timebase.md. -/
def spec_STC_PTP_ADJ : RegSpec :=
  ⟨true, 1, 0x30, 0x0, 1, 0x0, 1, true, .always,
   [⟨63, 32, .wo, .none, .fixed, 0, .pw⟩,
    ⟨31, 0, .wo, .none, .fixed, 0, .pw⟩]⟩

/-- STC_PTP_NUM: spec/02_stitch_timebase.md. -/
def spec_STC_PTP_NUM : RegSpec :=
  ⟨true, 1, 0x38, 0x0, 1, 0x0, 1, true, .always,
   [⟨63, 0, .wo, .none, .fixed, 0, .pw⟩]⟩

/-- STC_CNT: spec/02_stitch_timebase.md. -/
def spec_STC_CNT : RegSpec :=
  ⟨true, 1, 0x40, 0x0, 1, 0x0, 1, true, .always,
   [⟨63, 48, .rc, .none, .fixed, 0, .pw⟩,
    ⟨47, 32, .rc, .none, .fixed, 0, .pw⟩,
    ⟨31, 16, .rc, .none, .fixed, 0, .pw⟩,
    ⟨15, 0, .rc, .none, .fixed, 0, .pw⟩]⟩

/-- STC_SLOT_C: spec/02_stitch_timebase.md. -/
def spec_STC_SLOT_C : RegSpec :=
  ⟨true, 1, 0x1000, 0x10, 64, 0x0, 1, true, .always,
   [⟨63, 32, .rw, .pl, .hw, 0, .pw⟩,
    ⟨31, 24, .rw, .pl, .hw, 0, .pw⟩,
    ⟨15, 15, .rw, .pl, .hw, 0, .pw⟩,
    ⟨9, 0, .rw, .pl, .hw, 0, .pw⟩]⟩

/-- STC_SLOT_T: spec/02_stitch_timebase.md. -/
def spec_STC_SLOT_T : RegSpec :=
  ⟨true, 1, 0x1008, 0x10, 64, 0x0, 1, true, .always,
   [⟨63, 32, .rw, .pl, .hw, 0, .pw⟩,
    ⟨31, 0, .rw, .pl, .hw, 0, .pw⟩]⟩

/-- STC_CMP_C: spec/02_stitch_timebase.md. -/
def spec_STC_CMP_C : RegSpec :=
  ⟨true, 1, 0x2000, 0x10, 64, 0x0, 1, true, .always,
   [⟨63, 32, .rw, .none, .fixed, 0, .pw⟩,
    ⟨31, 31, .rw, .none, .fixed, 0, .pw⟩,
    ⟨23, 20, .rw, .none, .fixed, 0, .pw⟩,
    ⟨18, 16, .rw, .none, .fixed, 0, .pw⟩,
    ⟨9, 0, .rw, .none, .fixed, 0, .pw⟩]⟩

/-- STC_CMP_T: spec/02_stitch_timebase.md. -/
def spec_STC_CMP_T : RegSpec :=
  ⟨true, 1, 0x2008, 0x10, 64, 0x0, 1, true, .always,
   [⟨63, 0, .rw, .none, .fixed, 0, .pw⟩]⟩

/-- PRK_ST: spec/03_pricking.md. -/
def spec_PRK_ST : RegSpec :=
  ⟨true, 2, 0x0, 0x0, 1, 0x0, 1, true, .always,
   [⟨63, 32, .ro, .none, .fixed, 0, .pw⟩,
    ⟨31, 16, .ro, .none, .fixed, 0, .pw⟩,
    ⟨9, 9, .ro, .none, .fixed, 0, .pw⟩,
    ⟨8, 8, .ro, .none, .fixed, 0, .pw⟩,
    ⟨2, 0, .ro, .none, .fixed, 0, .pw⟩]⟩

/-- PRK_HDR: spec/03_pricking.md. -/
def spec_PRK_HDR : RegSpec :=
  ⟨true, 2, 0x8, 0x0, 1, 0x0, 1, true, .always,
   [⟨63, 48, .ro, .none, .fixed, 0, .pw⟩,
    ⟨47, 32, .ro, .none, .fixed, 0, .pw⟩,
    ⟨31, 24, .ro, .none, .fixed, 0, .pw⟩,
    ⟨23, 16, .ro, .none, .fixed, 0, .pw⟩,
    ⟨15, 8, .ro, .none, .fixed, 0, .pw⟩,
    ⟨7, 0, .ro, .none, .fixed, 0, .pw⟩]⟩

/-- PRK_SERIAL: spec/03_pricking.md. -/
def spec_PRK_SERIAL : RegSpec :=
  ⟨true, 2, 0x10, 0x0, 1, 0x0, 1, true, .always,
   [⟨63, 0, .ro, .none, .fixed, 0, .pw⟩]⟩

/-- PRK_LEN: spec/03_pricking.md. -/
def spec_PRK_LEN : RegSpec :=
  ⟨true, 2, 0x18, 0x0, 1, 0x0, 1, false, .always,
   [⟨31, 0, .ro, .none, .fixed, 0, .pw⟩]⟩

/-- PRK_ROOT: spec/03_pricking.md. -/
def spec_PRK_ROOT : RegSpec :=
  ⟨true, 2, 0x40, 0x8, 6, 0x0, 1, true, .always,
   [⟨63, 0, .ro, .tv, .fixed, 0, .pw⟩]⟩

/-- PRK_PAIR: spec/03_pricking.md. -/
def spec_PRK_PAIR : RegSpec :=
  ⟨true, 2, 0x80, 0x8, 6, 0x0, 1, true, .always,
   [⟨63, 0, .ro, .none, .fixed, 0, .pw⟩]⟩

/-- PRK_ACCEPT: spec/03_pricking.md. -/
def spec_PRK_ACCEPT : RegSpec :=
  ⟨true, 2, 0xc0, 0x8, 6, 0x0, 1, true, .always,
   [⟨63, 0, .ro, .none, .fixed, 0, .pw⟩]⟩

/-- PRK_PAIR_ST: spec/03_pricking.md. -/
def spec_PRK_PAIR_ST : RegSpec :=
  ⟨true, 2, 0x100, 0x0, 1, 0x0, 1, true, .always,
   [⟨7, 7, .ro, .none, .fixed, 0, .pw⟩,
    ⟨2, 0, .ro, .none, .fixed, 0, .pw⟩]⟩

/-- PRK_LOCK_CNT: spec/03_pricking.md. -/
def spec_PRK_LOCK_CNT : RegSpec :=
  ⟨true, 2, 0x108, 0x0, 1, 0x0, 1, true, .always,
   [⟨63, 32, .rc, .none, .fixed, 0, .pw⟩,
    ⟨27, 24, .ro, .none, .fixed, 0, .pw⟩,
    ⟨23, 20, .ro, .none, .fixed, 0, .pw⟩,
    ⟨19, 0, .ro, .none, .fixed, 0, .pw⟩]⟩

/-- PWR_CTL: spec/18_power_thermal.md. -/
def spec_PWR_CTL : RegSpec :=
  ⟨true, 3, 0x0, 0x0, 1, 0x0, 1, false, .always,
   [⟨31, 16, .rw, .none, .fixed, 0x7d0, .pw⟩,
    ⟨1, 1, .rw, .none, .fixed, 0x1, .pw⟩,
    ⟨0, 0, .rw, .pl, .fixed, 0x1, .pw⟩]⟩

/-- PWR_ST: spec/18_power_thermal.md. -/
def spec_PWR_ST : RegSpec :=
  ⟨true, 3, 0x8, 0x0, 1, 0x0, 1, true, .always,
   [⟨47, 32, .ro, .none, .fixed, 0, .pw⟩,
    ⟨31, 24, .ro, .none, .fixed, 0, .pw⟩,
    ⟨1, 1, .ro, .none, .fixed, 0, .pw⟩,
    ⟨0, 0, .ro, .none, .hw, 0, .p⟩]⟩

/-- PWR_EVT: spec/18_power_thermal.md. -/
def spec_PWR_EVT : RegSpec :=
  ⟨true, 3, 0x10, 0x0, 1, 0x0, 1, false, .always,
   [⟨4, 4, .w1c, .none, .fixed, 0, .pw⟩,
    ⟨3, 3, .w1c, .none, .fixed, 0, .pw⟩,
    ⟨2, 2, .w1c, .none, .fixed, 0, .pw⟩,
    ⟨1, 1, .w1c, .none, .fixed, 0, .pw⟩,
    ⟨0, 0, .w1c, .none, .fixed, 0, .pw⟩]⟩

/-- PWR_HU_CFG: spec/18_power_thermal.md. -/
def spec_PWR_HU_CFG : RegSpec :=
  ⟨true, 3, 0x18, 0x0, 1, 0x0, 1, true, .always,
   [⟨63, 48, .rw, .pl, .fixed, 0x12c, .pw⟩,
    ⟨47, 32, .rw, .pl, .fixed, 0x3e80, .pw⟩,
    ⟨31, 24, .rw, .pl, .fixed, 0x32, .pw⟩,
    ⟨23, 16, .rw, .pl, .fixed, 0xd0, .pw⟩,
    ⟨7, 1, .rw, .pl, .fixed, 0x30, .pw⟩]⟩

/-- PWR_HU_ST: spec/18_power_thermal.md. -/
def spec_PWR_HU_ST : RegSpec :=
  ⟨true, 3, 0x20, 0x0, 1, 0x0, 1, true, .always,
   [⟨63, 32, .ro, .none, .fixed, 0, .pw⟩,
    ⟨31, 16, .ro, .none, .fixed, 0, .pw⟩,
    ⟨15, 0, .ro, .none, .fixed, 0, .pw⟩]⟩

/-- PWR_IMON_CFG: spec/18_power_thermal.md. -/
def spec_PWR_IMON_CFG : RegSpec :=
  ⟨true, 3, 0x100, 0x8, 4, 0x0, 1, true, .always,
   [⟨63, 48, .ro, .none, .hw, 0, .p⟩,
    ⟨47, 32, .rw, .pl, .hw, 0, .pw⟩,
    ⟨31, 16, .rw, .pl, .fixed, 0, .pw⟩,
    ⟨11, 0, .rw, .pl, .fixed, 0, .pw⟩]⟩

/-- PWR_IMON_ST: spec/18_power_thermal.md. -/
def spec_PWR_IMON_ST : RegSpec :=
  ⟨true, 3, 0x140, 0x8, 4, 0x0, 1, true, .always,
   [⟨63, 32, .ro, .none, .fixed, 0, .pw⟩,
    ⟨15, 15, .ro, .none, .fixed, 0, .pw⟩,
    ⟨14, 13, .ro, .none, .fixed, 0, .pw⟩,
    ⟨11, 0, .ro, .none, .fixed, 0, .pw⟩]⟩

/-- PWR_REG: spec/18_power_thermal.md. -/
def spec_PWR_REG : RegSpec :=
  ⟨true, 3, 0x200, 0x8, 32, 0x0, 1, true, .always,
   [⟨31, 31, .rw, .pl, .fixed, 0, .pw⟩,
    ⟨30, 30, .rw, .pl, .fixed, 0, .pw⟩,
    ⟨29, 27, .rw, .pl, .fixed, 0, .pw⟩,
    ⟨26, 24, .rw, .pl, .fixed, 0, .pw⟩,
    ⟨15, 8, .rw, .pl, .fixed, 0, .pw⟩,
    ⟨6, 0, .rw, .pl, .fixed, 0, .pw⟩]⟩

/-- PWR_EMI: spec/18_power_thermal.md. -/
def spec_PWR_EMI : RegSpec :=
  ⟨true, 3, 0x300, 0x0, 1, 0x0, 1, false, .always,
   [⟨3, 3, .rw, .pl, .fixed, 0x1, .pw⟩,
    ⟨2, 0, .rw, .none, .fixed, 0, .pw⟩]⟩

/-- THM_CTL: spec/18_power_thermal.md. -/
def spec_THM_CTL : RegSpec :=
  ⟨true, 4, 0x0, 0x0, 1, 0x0, 1, false, .always,
   [⟨31, 16, .rw, .none, .fixed, 0xc8, .pw⟩,
    ⟨15, 8, .rw, .none, .fixed, 0xa, .pw⟩,
    ⟨7, 0, .rw, .none, .fixed, 0x2d, .pw⟩]⟩

/-- THM_THRESH: spec/18_power_thermal.md. -/
def spec_THM_THRESH : RegSpec :=
  ⟨true, 4, 0x8, 0x0, 1, 0x0, 1, false, .always,
   [⟨23, 16, .rw, .pl, .fixed, 0x76, .pw⟩,
    ⟨15, 8, .rw, .pl, .fixed, 0x69, .pw⟩,
    ⟨7, 0, .rw, .pl, .fixed, 0x5f, .pw⟩]⟩

/-- THM_ST: spec/18_power_thermal.md. -/
def spec_THM_ST : RegSpec :=
  ⟨true, 4, 0x10, 0x0, 1, 0x0, 1, true, .always,
   [⟨63, 48, .ro, .none, .fixed, 0, .pw⟩,
    ⟨34, 32, .ro, .none, .fixed, 0, .pw⟩,
    ⟨9, 9, .ro, .none, .fixed, 0, .pw⟩,
    ⟨8, 8, .ro, .none, .fixed, 0, .pw⟩,
    ⟨2, 0, .ro, .none, .fixed, 0, .pw⟩]⟩

/-- THM_EVT: spec/18_power_thermal.md. -/
def spec_THM_EVT : RegSpec :=
  ⟨true, 4, 0x18, 0x0, 1, 0x0, 1, false, .always,
   [⟨5, 5, .w1c, .none, .fixed, 0, .pw⟩,
    ⟨4, 4, .w1c, .none, .fixed, 0, .pw⟩,
    ⟨3, 3, .w1c, .none, .fixed, 0, .pw⟩,
    ⟨2, 2, .w1c, .none, .fixed, 0, .pw⟩,
    ⟨1, 1, .w1c, .none, .fixed, 0, .pw⟩,
    ⟨0, 0, .w1c, .none, .fixed, 0, .pw⟩]⟩

/-- THM_ENF: spec/18_power_thermal.md. -/
def spec_THM_ENF : RegSpec :=
  ⟨true, 4, 0x20, 0x0, 1, 0x0, 1, false, .always,
   [⟨31, 16, .rw, .none, .fixed, 0x640, .pw⟩,
    ⟨7, 0, .rw, .none, .fixed, 0x1e, .pw⟩]⟩

/-- THM_USER: spec/18_power_thermal.md. -/
def spec_THM_USER : RegSpec :=
  ⟨true, 4, 0x28, 0x0, 1, 0x0, 1, true, .always,
   [⟨47, 32, .rw, .none, .fixed, 0x64, .pw⟩,
    ⟨31, 16, .rw, .none, .fixed, 0x1388, .pw⟩,
    ⟨15, 0, .rw, .none, .fixed, 0x64, .pw⟩]⟩

/-- THM_AMB: spec/18_power_thermal.md. -/
def spec_THM_AMB : RegSpec :=
  ⟨true, 4, 0x30, 0x0, 1, 0x0, 1, false, .always,
   [⟨15, 0, .rw, .none, .fixed, 0, .pw⟩]⟩

/-- THM_PKG: spec/18_power_thermal.md. -/
def spec_THM_PKG : RegSpec :=
  ⟨true, 4, 0x38, 0x0, 1, 0x0, 1, true, .always,
   [⟨47, 32, .ro, .none, .hw, 0, .p⟩,
    ⟨15, 0, .ro, .none, .hw, 0, .p⟩]⟩

/-- THM_TIME: spec/18_power_thermal.md. -/
def spec_THM_TIME : RegSpec :=
  ⟨true, 4, 0x40, 0x0, 1, 0x0, 1, true, .always,
   [⟨63, 32, .ro, .none, .fixed, 0, .p⟩,
    ⟨31, 0, .ro, .none, .fixed, 0, .p⟩]⟩

/-- BRD_CTL: spec/05_pairing.md. -/
def spec_BRD_CTL : RegSpec :=
  ⟨true, 5, 0x0, 0x0, 1, 0x0, 1, false, .always,
   [⟨8, 8, .w1s, .none, .fixed, 0, .pw⟩,
    ⟨7, 0, .rw, .pl, .fixed, 0xff, .pw⟩]⟩

/-- BRD_ST: spec/05_pairing.md. -/
def spec_BRD_ST : RegSpec :=
  ⟨true, 5, 0x8, 0x0, 1, 0x0, 1, true, .always,
   [⟨63, 56, .ro, .none, .fixed, 0, .pw⟩,
    ⟨47, 40, .ro, .none, .fixed, 0, .pw⟩,
    ⟨15, 12, .ro, .none, .fixed, 0, .pw⟩,
    ⟨11, 11, .ro, .none, .fixed, 0, .pw⟩,
    ⟨10, 10, .ro, .none, .hw, 0, .p⟩,
    ⟨9, 9, .ro, .none, .fixed, 0, .pw⟩,
    ⟨8, 8, .ro, .none, .fixed, 0, .pw⟩,
    ⟨2, 0, .ro, .none, .fixed, 0, .pw⟩]⟩

/-- BRD_EVT: spec/05_pairing.md. -/
def spec_BRD_EVT : RegSpec :=
  ⟨true, 5, 0x10, 0x0, 1, 0x0, 1, false, .always,
   [⟨7, 7, .w1c, .none, .fixed, 0, .pw⟩,
    ⟨6, 6, .w1c, .none, .fixed, 0, .pw⟩,
    ⟨5, 5, .w1c, .none, .fixed, 0, .pw⟩,
    ⟨4, 4, .w1c, .none, .fixed, 0, .pw⟩,
    ⟨3, 3, .w1c, .none, .fixed, 0, .pw⟩,
    ⟨2, 2, .w1c, .none, .fixed, 0, .pw⟩,
    ⟨1, 1, .w1c, .none, .fixed, 0, .pw⟩,
    ⟨0, 0, .w1c, .none, .fixed, 0, .pw⟩]⟩

/-- BRD_PARTNER: spec/05_pairing.md. -/
def spec_BRD_PARTNER : RegSpec :=
  ⟨true, 5, 0x18, 0x0, 1, 0x0, 1, true, .always,
   [⟨63, 32, .ro, .none, .fixed, 0, .pw⟩,
    ⟨31, 24, .ro, .none, .fixed, 0, .pw⟩,
    ⟨19, 16, .ro, .none, .fixed, 0, .pw⟩,
    ⟨8, 8, .ro, .none, .fixed, 0, .pw⟩,
    ⟨0, 0, .ro, .none, .fixed, 0, .pw⟩]⟩

/-- BRD_LAT: spec/05_pairing.md. -/
def spec_BRD_LAT : RegSpec :=
  ⟨true, 5, 0x20, 0x0, 1, 0x0, 1, false, .always,
   [⟨15, 0, .ro, .none, .fixed, 0, .pw⟩]⟩

/-- BRD_CNT: spec/05_pairing.md. -/
def spec_BRD_CNT : RegSpec :=
  ⟨true, 5, 0x28, 0x0, 1, 0x0, 1, true, .always,
   [⟨63, 48, .rc, .none, .fixed, 0, .pw⟩,
    ⟨47, 32, .rc, .none, .fixed, 0, .pw⟩,
    ⟨31, 16, .rc, .none, .fixed, 0, .pw⟩,
    ⟨15, 0, .rc, .none, .fixed, 0, .pw⟩]⟩

/-- BRD_RESYNC: spec/05_pairing.md. -/
def spec_BRD_RESYNC : RegSpec :=
  ⟨true, 5, 0x30, 0x0, 1, 0x0, 1, true, .always,
   [⟨63, 32, .ro, .none, .fixed, 0, .pw⟩]⟩

/-- BRD_NAMED: spec/05_pairing.md. -/
def spec_BRD_NAMED : RegSpec :=
  ⟨true, 5, 0x38, 0x0, 1, 0x0, 1, true, .always,
   [⟨63, 0, .ro, .none, .fixed, 0, .pw⟩]⟩

/-- BRD_GRP: spec/05_pairing.md. -/
def spec_BRD_GRP : RegSpec :=
  ⟨true, 5, 0x100, 0x8, 8, 0x0, 1, true, .always,
   [⟨15, 8, .ro, .none, .fixed, 0, .pw⟩,
    ⟨1, 1, .ro, .none, .fixed, 0, .pw⟩,
    ⟨0, 0, .ro, .none, .hw, 0, .p⟩]⟩

/-- CLM_HANDOVER: spec/05_pairing.md. -/
def spec_CLM_HANDOVER : RegSpec :=
  ⟨true, 6, 0x0, 0x0, 1, 0x0, 1, false, .always,
   [⟨31, 31, .w1s, .none, .fixed, 0, .pw⟩,
    ⟨30, 30, .ro, .none, .fixed, 0, .pw⟩,
    ⟨23, 8, .ro, .none, .fixed, 0, .pw⟩,
    ⟨7, 0, .rw, .none, .fixed, 0, .pw⟩]⟩

/-- CLM_EVT: spec/05_pairing.md. -/
def spec_CLM_EVT : RegSpec :=
  ⟨true, 6, 0x8, 0x0, 1, 0x0, 1, false, .always,
   [⟨4, 4, .w1c, .none, .fixed, 0, .pw⟩,
    ⟨3, 3, .w1c, .none, .fixed, 0, .pw⟩,
    ⟨2, 2, .w1c, .none, .fixed, 0, .pw⟩,
    ⟨1, 1, .w1c, .none, .fixed, 0, .pw⟩,
    ⟨0, 0, .w1c, .none, .fixed, 0, .pw⟩]⟩

/-- CLM_STALE: spec/05_pairing.md. -/
def spec_CLM_STALE : RegSpec :=
  ⟨true, 6, 0x10, 0x0, 1, 0x0, 1, true, .always,
   [⟨63, 32, .rc, .none, .fixed, 0, .pw⟩,
    ⟨15, 8, .ro, .none, .fixed, 0, .pw⟩,
    ⟨7, 0, .ro, .none, .fixed, 0, .pw⟩]⟩

/-- CLM_CLAIM: spec/05_pairing.md. -/
def spec_CLM_CLAIM : RegSpec :=
  ⟨true, 6, 0x1000, 0x8, 256, 0x0, 1, true, .always,
   [⟨63, 8, .ro, .tv, .fixed, 0, .pw⟩,
    ⟨7, 0, .ro, .tv, .fixed, 0, .pw⟩]⟩

/-- CLM_GROUND: spec/05_pairing.md. -/
def spec_CLM_GROUND : RegSpec :=
  ⟨true, 6, 0x2000, 0x8, 256, 0x0, 1, true, .always,
   [⟨63, 32, .ro, .none, .fixed, 0, .pw⟩,
    ⟨15, 15, .ro, .none, .fixed, 0, .pw⟩,
    ⟨14, 14, .ro, .none, .fixed, 0, .pw⟩,
    ⟨13, 13, .ro, .none, .fixed, 0, .pw⟩,
    ⟨12, 12, .ro, .none, .fixed, 0, .pw⟩,
    ⟨2, 0, .ro, .none, .fixed, 0, .pw⟩]⟩

/-- SMP_ST: spec/19_firmware_sampler.md. -/
def spec_SMP_ST : RegSpec :=
  ⟨true, 7, 0x0, 0x0, 1, 0x0, 1, true, .always,
   [⟨63, 32, .ro, .none, .hw, 0, .p⟩,
    ⟨31, 9, .ro, .tv, .hw, 0, .p⟩,
    ⟨8, 2, .ro, .tv, .hw, 0, .p⟩,
    ⟨1, 1, .ro, .none, .hw, 0, .p⟩,
    ⟨0, 0, .ro, .none, .hw, 0, .p⟩]⟩

/-- SMP_CNT: spec/19_firmware_sampler.md. -/
def spec_SMP_CNT : RegSpec :=
  ⟨true, 7, 0x8, 0x0, 1, 0x0, 1, true, .always,
   [⟨63, 32, .ro, .none, .fixed, 0, .p⟩,
    ⟨31, 0, .ro, .none, .fixed, 0, .p⟩]⟩

/-- SMP_LIFE: spec/19_firmware_sampler.md. -/
def spec_SMP_LIFE : RegSpec :=
  ⟨true, 7, 0x10, 0x0, 1, 0x0, 1, true, .always,
   [⟨63, 32, .ro, .none, .hw, 0, .p⟩,
    ⟨31, 0, .ro, .none, .hw, 0, .p⟩]⟩

/-- SMP_SNAP: spec/19_firmware_sampler.md. -/
def spec_SMP_SNAP : RegSpec :=
  ⟨true, 7, 0x100, 0x20, 4, 0x0, 1, true, .always,
   [⟨63, 63, .w1s, .none, .fixed, 0, .pw⟩,
    ⟨62, 62, .ro, .none, .fixed, 0, .pw⟩,
    ⟨47, 32, .ro, .none, .fixed, 0, .pw⟩,
    ⟨31, 0, .ro, .none, .fixed, 0, .pw⟩]⟩

/-- SMP_SNAP_OFS: spec/19_firmware_sampler.md. -/
def spec_SMP_SNAP_OFS : RegSpec :=
  ⟨true, 7, 0x108, 0x20, 4, 0x0, 1, true, .always,
   [⟨63, 32, .ro, .none, .fixed, 0, .pw⟩,
    ⟨31, 0, .ro, .none, .fixed, 0, .pw⟩]⟩

/-- SMP_RD_OFS: spec/19_firmware_sampler.md. -/
def spec_SMP_RD_OFS : RegSpec :=
  ⟨true, 7, 0x110, 0x20, 4, 0x0, 1, true, .always,
   [⟨22, 3, .rw, .none, .fixed, 0, .pw⟩]⟩

/-- SMP_RD_DATA: spec/19_firmware_sampler.md. -/
def spec_SMP_RD_DATA : RegSpec :=
  ⟨true, 7, 0x1000, 0x100, 4, 0x8, 32, true, .always,
   [⟨63, 0, .ro, .none, .fixed, 0, .pw⟩]⟩

/-- FWU_ST: spec/19_firmware_sampler.md. -/
def spec_FWU_ST : RegSpec :=
  ⟨true, 8, 0x0, 0x0, 1, 0x0, 1, false, .always,
   [⟨11, 11, .ro, .none, .fixed, 0, .pw⟩,
    ⟨10, 10, .ro, .none, .fixed, 0, .pw⟩,
    ⟨9, 9, .ro, .none, .fixed, 0, .pw⟩,
    ⟨8, 8, .ro, .none, .fixed, 0, .pw⟩,
    ⟨5, 5, .ro, .none, .fixed, 0, .pw⟩,
    ⟨4, 4, .ro, .none, .fixed, 0, .pw⟩,
    ⟨0, 0, .ro, .none, .fixed, 0, .pw⟩]⟩

/-- FWU_RUN_VER: spec/19_firmware_sampler.md. -/
def spec_FWU_RUN_VER : RegSpec :=
  ⟨true, 8, 0x8, 0x0, 1, 0x0, 1, true, .always,
   [⟨63, 0, .ro, .none, .fixed, 0, .pw⟩]⟩

/-- FWU_VERIFY: spec/19_firmware_sampler.md. -/
def spec_FWU_VERIFY : RegSpec :=
  ⟨true, 8, 0x10, 0x0, 1, 0x0, 1, true, .always,
   [⟨63, 48, .ro, .none, .fixed, 0, .pw⟩,
    ⟨47, 32, .ro, .none, .fixed, 0, .pw⟩,
    ⟨1, 1, .ro, .none, .fixed, 0, .pw⟩,
    ⟨0, 0, .ro, .none, .fixed, 0, .pw⟩]⟩

/-- FWU_CMD: spec/19_firmware_sampler.md. -/
def spec_FWU_CMD : RegSpec :=
  ⟨true, 8, 0x18, 0x0, 1, 0x0, 1, true, .always,
   [⟨63, 63, .w1s, .none, .fixed, 0, .pw⟩,
    ⟨62, 62, .ro, .none, .fixed, 0, .pw⟩,
    ⟨61, 60, .rw, .none, .fixed, 0, .pw⟩,
    ⟨47, 32, .ro, .none, .fixed, 0, .pw⟩,
    ⟨31, 0, .rw, .none, .fixed, 0, .pw⟩]⟩

/-- FWU_FLASH: spec/19_firmware_sampler.md. -/
def spec_FWU_FLASH : RegSpec :=
  ⟨true, 8, 0x20, 0x0, 1, 0x0, 1, true, .always,
   [⟨31, 0, .rw, .none, .fixed, 0, .pw⟩]⟩

/-- FWU_MEM: spec/19_firmware_sampler.md. -/
def spec_FWU_MEM : RegSpec :=
  ⟨true, 8, 0x28, 0x0, 1, 0x0, 1, true, .always,
   [⟨63, 0, .rw, .none, .fixed, 0, .pw⟩]⟩

/-- FWU_COMMIT: spec/19_firmware_sampler.md. -/
def spec_FWU_COMMIT : RegSpec :=
  ⟨true, 8, 0x30, 0x0, 1, 0x0, 1, false, .always,
   [⟨31, 31, .w1s, .none, .fixed, 0, .pw⟩,
    ⟨30, 30, .ro, .none, .fixed, 0, .pw⟩,
    ⟨29, 28, .rw, .none, .fixed, 0, .pw⟩,
    ⟨27, 27, .rw, .none, .fixed, 0, .pw⟩,
    ⟨15, 0, .ro, .none, .fixed, 0, .p⟩]⟩

/-- FWU_EVT: spec/19_firmware_sampler.md. -/
def spec_FWU_EVT : RegSpec :=
  ⟨true, 8, 0x38, 0x0, 1, 0x0, 1, false, .always,
   [⟨4, 4, .w1c, .none, .fixed, 0, .pw⟩,
    ⟨3, 3, .w1c, .none, .fixed, 0, .pw⟩,
    ⟨2, 2, .w1c, .none, .fixed, 0, .pw⟩,
    ⟨1, 1, .w1c, .none, .fixed, 0, .pw⟩,
    ⟨0, 0, .w1c, .none, .fixed, 0, .pw⟩]⟩

/-- MSR_ST: spec/08_digest.md. -/
def spec_MSR_ST : RegSpec :=
  ⟨true, 9, 0x0, 0x0, 1, 0x0, 1, false, .always,
   [⟨8, 8, .ro, .none, .fixed, 0, .pw⟩,
    ⟨5, 4, .ro, .none, .fixed, 0, .pw⟩,
    ⟨3, 0, .ro, .none, .fixed, 0, .pw⟩]⟩

/-- MSR_CNT: spec/08_digest.md. -/
def spec_MSR_CNT : RegSpec :=
  ⟨true, 9, 0x100, 0x8, 16, 0x0, 1, true, .always,
   [⟨31, 0, .ro, .none, .fixed, 0, .p⟩]⟩

/-- MSR_MR: spec/08_digest.md. -/
def spec_MSR_MR : RegSpec :=
  ⟨true, 9, 0x1000, 0x40, 16, 0x8, 6, true, .always,
   [⟨63, 0, .ro, .none, .fixed, 0, .p⟩]⟩

/-- RPL_VIEW_CMD: spec/14_snapshots_replication.md. -/
def spec_RPL_VIEW_CMD : RegSpec :=
  ⟨true, 10, 0x0, 0x0, 1, 0x0, 1, true, .always,
   [⟨63, 63, .w1s, .none, .fixed, 0, .pw⟩,
    ⟨62, 62, .ro, .none, .fixed, 0, .pw⟩,
    ⟨61, 60, .rw, .none, .fixed, 0, .pw⟩,
    ⟨47, 32, .ro, .none, .fixed, 0, .pw⟩,
    ⟨7, 0, .rw, .none, .fixed, 0, .pw⟩]⟩

/-- RPL_VIEW_LIST: spec/14_snapshots_replication.md. -/
def spec_RPL_VIEW_LIST : RegSpec :=
  ⟨true, 10, 0x8, 0x0, 1, 0x0, 1, true, .always,
   [⟨63, 3, .rw, .none, .fixed, 0, .pw⟩]⟩

/-- RPL_VIEW_CUT: spec/14_snapshots_replication.md. -/
def spec_RPL_VIEW_CUT : RegSpec :=
  ⟨true, 10, 0x10, 0x0, 1, 0x0, 1, true, .always,
   [⟨63, 0, .rw, .none, .fixed, 0, .pw⟩]⟩

/-- RPL_VIEW_Q: spec/14_snapshots_replication.md. -/
def spec_RPL_VIEW_Q : RegSpec :=
  ⟨true, 10, 0x18, 0x0, 1, 0x0, 1, false, .always,
   [⟨15, 0, .rw, .none, .fixed, 0, .pw⟩]⟩

/-- RPL_VIEW_ST: spec/14_snapshots_replication.md. -/
def spec_RPL_VIEW_ST : RegSpec :=
  ⟨true, 10, 0x20, 0x0, 1, 0x0, 1, true, .always,
   [⟨63, 48, .ro, .none, .fixed, 0, .pw⟩,
    ⟨3, 3, .ro, .none, .fixed, 0, .pw⟩,
    ⟨2, 0, .ro, .none, .fixed, 0, .pw⟩]⟩

/-- RPL_VIEW_CNT: spec/14_snapshots_replication.md. -/
def spec_RPL_VIEW_CNT : RegSpec :=
  ⟨true, 10, 0x28, 0x0, 1, 0x0, 1, true, .always,
   [⟨35, 32, .ro, .none, .fixed, 0, .pw⟩,
    ⟨15, 0, .ro, .none, .fixed, 0, .pw⟩]⟩

/-- RPL_WALK_CTL: spec/14_snapshots_replication.md. -/
def spec_RPL_WALK_CTL : RegSpec :=
  ⟨true, 10, 0x100, 0x0, 1, 0x0, 1, false, .always,
   [⟨15, 0, .rw, .none, .fixed, 0x4, .pw⟩]⟩

/-- RPL_WALK_ST: spec/14_snapshots_replication.md. -/
def spec_RPL_WALK_ST : RegSpec :=
  ⟨true, 10, 0x108, 0x0, 1, 0x0, 1, true, .always,
   [⟨63, 0, .ro, .none, .fixed, 0, .pw⟩]⟩

/-- RPL_EVT: spec/14_snapshots_replication.md. -/
def spec_RPL_EVT : RegSpec :=
  ⟨true, 10, 0x200, 0x0, 1, 0x0, 1, false, .always,
   [⟨5, 5, .w1c, .none, .fixed, 0, .pw⟩,
    ⟨4, 4, .w1c, .none, .fixed, 0, .pw⟩,
    ⟨3, 3, .w1c, .none, .fixed, 0, .pw⟩,
    ⟨2, 2, .w1c, .none, .fixed, 0, .pw⟩,
    ⟨1, 1, .w1c, .none, .fixed, 0, .pw⟩,
    ⟨0, 0, .w1c, .none, .fixed, 0, .pw⟩]⟩

/-- RPL_TGT_CTL: spec/14_snapshots_replication.md. -/
def spec_RPL_TGT_CTL : RegSpec :=
  ⟨true, 10, 0x1000, 0x20, 64, 0x0, 1, true, .always,
   [⟨63, 63, .rw, .none, .fixed, 0, .pw⟩,
    ⟨62, 62, .rw, .none, .fixed, 0, .pw⟩,
    ⟨47, 40, .rw, .none, .fixed, 0, .pw⟩,
    ⟨39, 32, .rw, .none, .fixed, 0x1, .pw⟩,
    ⟨27, 16, .rw, .none, .fixed, 0, .pw⟩,
    ⟨15, 0, .rw, .none, .fixed, 0, .pw⟩]⟩

/-- RPL_TGT_CONN: spec/14_snapshots_replication.md. -/
def spec_RPL_TGT_CONN : RegSpec :=
  ⟨true, 10, 0x1008, 0x20, 64, 0x0, 1, true, .always,
   [⟨63, 32, .rw, .none, .fixed, 0, .pw⟩,
    ⟨31, 0, .rw, .none, .fixed, 0, .pw⟩]⟩

/-- RPL_TGT_ST: spec/14_snapshots_replication.md. -/
def spec_RPL_TGT_ST : RegSpec :=
  ⟨true, 10, 0x1010, 0x20, 64, 0x0, 1, true, .always,
   [⟨63, 32, .ro, .none, .fixed, 0, .pw⟩,
    ⟨31, 16, .ro, .none, .fixed, 0, .pw⟩,
    ⟨15, 8, .rc, .none, .fixed, 0, .pw⟩,
    ⟨7, 3, .rc, .none, .fixed, 0, .pw⟩,
    ⟨2, 0, .ro, .none, .fixed, 0, .pw⟩]⟩

/-- RPL_TGT_LAG: spec/14_snapshots_replication.md. -/
def spec_RPL_TGT_LAG : RegSpec :=
  ⟨true, 10, 0x1018, 0x20, 64, 0x0, 1, true, .always,
   [⟨63, 0, .ro, .none, .fixed, 0, .pw⟩]⟩

/-- MTF_ID: spec/01_architecture.md. -/
def spec_MTF_ID : RegSpec :=
  ⟨false, 0, 0x0, 0x0, 1, 0x0, 1, false, .always,
   [⟨12, 12, .ro, .none, .hw, 0, .p⟩,
    ⟨11, 10, .ro, .none, .hw, 0, .p⟩,
    ⟨9, 8, .ro, .none, .hw, 0, .p⟩,
    ⟨2, 0, .ro, .none, .hw, 0, .p⟩]⟩

/-- MTF_LINK_ST: spec/01_architecture.md. -/
def spec_MTF_LINK_ST : RegSpec :=
  ⟨false, 0, 0x100, 0x8, 3, 0x0, 1, true, .always,
   [⟨63, 32, .rc, .none, .fixed, 0, .pwm⟩,
    ⟨18, 16, .ro, .none, .hw, 0, .p⟩,
    ⟨15, 8, .ro, .none, .fixed, 0, .pwm⟩,
    ⟨1, 1, .ro, .none, .fixed, 0, .pwm⟩,
    ⟨0, 0, .ro, .none, .hw, 0, .p⟩]⟩

/-- MTF_FLUSH_CTL: spec/06_data_path.md. -/
def spec_MTF_FLUSH_CTL : RegSpec :=
  ⟨false, 0, 0x200, 0x0, 1, 0x0, 1, false, .always,
   [⟨31, 16, .rw, .none, .fixed, 0x7d0, .pwm⟩,
    ⟨15, 8, .rw, .none, .fixed, 0x4b, .pwm⟩]⟩

/-- MTF_FLUSH_ST: spec/06_data_path.md. -/
def spec_MTF_FLUSH_ST : RegSpec :=
  ⟨false, 0, 0x208, 0x0, 1, 0x0, 1, true, .always,
   [⟨63, 32, .ro, .none, .fixed, 0, .pwm⟩,
    ⟨15, 0, .ro, .none, .fixed, 0, .pwm⟩]⟩

/-- MTF_FP_ST: spec/06_data_path.md. -/
def spec_MTF_FP_ST : RegSpec :=
  ⟨false, 0, 0x210, 0x0, 1, 0x0, 1, true, .always,
   [⟨63, 32, .ro, .none, .fixed, 0, .pwm⟩,
    ⟨31, 0, .ro, .none, .fixed, 0, .pwm⟩]⟩

/-- MTF_DP_CNT0: spec/06_data_path.md. -/
def spec_MTF_DP_CNT0 : RegSpec :=
  ⟨false, 0, 0x220, 0x0, 1, 0x0, 1, true, .always,
   [⟨63, 32, .rc, .none, .fixed, 0, .pwm⟩,
    ⟨31, 0, .rc, .none, .fixed, 0, .pwm⟩]⟩

/-- MTF_DP_CNT1: spec/06_data_path.md. -/
def spec_MTF_DP_CNT1 : RegSpec :=
  ⟨false, 0, 0x228, 0x0, 1, 0x0, 1, true, .always,
   [⟨63, 48, .rc, .none, .fixed, 0, .pwm⟩,
    ⟨47, 32, .rc, .none, .fixed, 0, .pwm⟩,
    ⟨31, 0, .rc, .none, .fixed, 0, .pwm⟩]⟩

/-- MTF_DP_ERR: spec/06_data_path.md. -/
def spec_MTF_DP_ERR : RegSpec :=
  ⟨false, 0, 0x230, 0x0, 1, 0x0, 1, true, .always,
   [⟨63, 48, .ro, .none, .fixed, 0, .pwm⟩,
    ⟨47, 40, .ro, .none, .fixed, 0, .pwm⟩,
    ⟨27, 16, .ro, .none, .fixed, 0, .pwm⟩,
    ⟨0, 0, .w1c, .none, .fixed, 0, .pwm⟩]⟩

/-- MTF_DCMP_ST: spec/07_compression.md. -/
def spec_MTF_DCMP_ST : RegSpec :=
  ⟨false, 0, 0x300, 0x0, 1, 0x0, 1, true, .always,
   [⟨47, 32, .ro, .none, .fixed, 0, .pwm⟩,
    ⟨20, 16, .ro, .none, .fixed, 0, .pwm⟩,
    ⟨4, 0, .ro, .none, .fixed, 0, .pwm⟩]⟩

/-- MTF_DCMP_CNT: spec/07_compression.md. -/
def spec_MTF_DCMP_CNT : RegSpec :=
  ⟨false, 0, 0x308, 0x0, 1, 0x0, 1, true, .always,
   [⟨63, 32, .rc, .none, .fixed, 0, .pwm⟩,
    ⟨31, 0, .rc, .none, .fixed, 0, .pwm⟩]⟩

/-- MTF_DCMP_ERR: spec/07_compression.md. -/
def spec_MTF_DCMP_ERR : RegSpec :=
  ⟨false, 0, 0x310, 0x0, 1, 0x0, 1, true, .always,
   [⟨63, 48, .ro, .none, .fixed, 0, .pwm⟩,
    ⟨31, 16, .ro, .none, .fixed, 0, .pwm⟩,
    ⟨0, 0, .w1c, .none, .fixed, 0, .pwm⟩]⟩

/-- MTF_CJQ_BASE: spec/07_compression.md. -/
def spec_MTF_CJQ_BASE : RegSpec :=
  ⟨false, 0, 0x320, 0x0, 1, 0x0, 1, true, .always,
   [⟨63, 12, .rw, .none, .fixed, 0, .pwm⟩,
    ⟨3, 0, .rw, .none, .fixed, 0, .pwm⟩]⟩

/-- MTF_CJQ_CTL: spec/07_compression.md. -/
def spec_MTF_CJQ_CTL : RegSpec :=
  ⟨false, 0, 0x328, 0x0, 1, 0x0, 1, false, .always,
   [⟨8, 8, .rw, .none, .fixed, 0, .pwm⟩,
    ⟨7, 4, .rw, .none, .fixed, 0, .pwm⟩,
    ⟨0, 0, .rw, .none, .fixed, 0, .pwm⟩]⟩

/-- MTF_CJQ_TAIL: spec/07_compression.md. -/
def spec_MTF_CJQ_TAIL : RegSpec :=
  ⟨false, 0, 0x330, 0x0, 1, 0x0, 1, false, .always,
   [⟨11, 0, .rw, .none, .fixed, 0, .pwm⟩]⟩

/-- MTF_CJQ_HEAD: spec/07_compression.md. -/
def spec_MTF_CJQ_HEAD : RegSpec :=
  ⟨false, 0, 0x338, 0x0, 1, 0x0, 1, false, .always,
   [⟨11, 0, .ro, .none, .fixed, 0, .pwm⟩]⟩

/-- MTF_KD_BASE: spec/09_cipher.md. -/
def spec_MTF_KD_BASE : RegSpec :=
  ⟨false, 0, 0x400, 0x0, 1, 0x0, 1, true, .root,
   [⟨63, 18, .rw, .none, .fixed, 0, .pw⟩,
    ⟨0, 0, .rw, .none, .fixed, 0, .pw⟩]⟩

/-- CPU_RELEASE: spec/20_register_map.md. -/
def spec_CPU_RELEASE : RegSpec :=
  ⟨false, 1, 0x20000, 0x0, 1, 0x0, 1, false, .always,
   [⟨7, 0, .w1s, .none, .fixed, 0, .pwm⟩]⟩

/-- CPU_ST: spec/20_register_map.md. -/
def spec_CPU_ST : RegSpec :=
  ⟨false, 1, 0x20008, 0x0, 1, 0x0, 1, true, .always,
   [⟨40, 32, .ro, .none, .fixed, 0, .pwm⟩,
    ⟨8, 0, .ro, .none, .fixed, 0, .pwm⟩]⟩

/-- CPU_EVT: spec/20_register_map.md. -/
def spec_CPU_EVT : RegSpec :=
  ⟨false, 1, 0x20010, 0x0, 1, 0x0, 1, false, .always,
   [⟨9, 9, .w1c, .none, .fixed, 0, .pwm⟩,
    ⟨8, 0, .w1c, .none, .fixed, 0, .pwm⟩]⟩

/-- CPU_RESET_PC: spec/20_register_map.md. -/
def spec_CPU_RESET_PC : RegSpec :=
  ⟨false, 1, 0x21000, 0x20, 9, 0x0, 1, true, .always,
   [⟨63, 1, .rw, .none, .fixed, 0, .pwm⟩]⟩

/-- CPU_HCTL: spec/20_register_map.md. -/
def spec_CPU_HCTL : RegSpec :=
  ⟨false, 1, 0x21008, 0x20, 9, 0x0, 1, true, .always,
   [⟨0, 0, .w1s, .none, .fixed, 0, .pwm⟩]⟩

/-- CPU_HST: spec/20_register_map.md. -/
def spec_CPU_HST : RegSpec :=
  ⟨false, 1, 0x21010, 0x20, 9, 0x0, 1, true, .always,
   [⟨47, 32, .ro, .none, .fixed, 0, .pwm⟩,
    ⟨2, 0, .ro, .none, .fixed, 0, .pwm⟩]⟩

/-- CPU_HPM_CNT: spec/20_register_map.md. -/
def spec_CPU_HPM_CNT : RegSpec :=
  ⟨false, 1, 0x30018, 0x100, 9, 0x8, 29, true, .always,
   [⟨63, 0, .ro, .none, .fixed, 0, .pwm⟩]⟩

/-- CPU_HPM_EVT: spec/20_register_map.md. -/
def spec_CPU_HPM_EVT : RegSpec :=
  ⟨false, 1, 0x31018, 0x100, 9, 0x8, 29, true, .always,
   [⟨7, 0, .rw, .none, .fixed, 0, .pwm⟩]⟩

/-- NET_CTL: spec/13_rdma.md. -/
def spec_NET_CTL : RegSpec :=
  ⟨false, 2, 0x0, 0x0, 1, 0x0, 1, false, .always,
   [⟨16, 16, .rw, .none, .fixed, 0, .pwm⟩,
    ⟨15, 8, .rw, .pl, .fixed, 0, .pwm⟩,
    ⟨1, 0, .rw, .pl, .hw, 0, .pwm⟩]⟩

/-- NET_PFC_MAP: spec/13_rdma.md. -/
def spec_NET_PFC_MAP : RegSpec :=
  ⟨false, 2, 0x8, 0x0, 1, 0x0, 1, false, .always,
   [⟨15, 0, .rw, .pl, .fixed, 0x123, .pwm⟩]⟩

/-- NET_SUB_ST: spec/13_rdma.md. -/
def spec_NET_SUB_ST : RegSpec :=
  ⟨false, 2, 0x100, 0x8, 8, 0x0, 1, true, .always,
   [⟨63, 32, .rc, .none, .fixed, 0, .pwm⟩,
    ⟨31, 16, .rc, .none, .fixed, 0, .pwm⟩,
    ⟨10, 8, .ro, .none, .fixed, 0, .pwm⟩,
    ⟨1, 1, .ro, .none, .fixed, 0, .pwm⟩,
    ⟨0, 0, .ro, .none, .fixed, 0, .pwm⟩]⟩

/-- NET_GA_BASE: spec/13_rdma.md. -/
def spec_NET_GA_BASE : RegSpec :=
  ⟨false, 2, 0x200, 0x0, 1, 0x0, 1, true, .root,
   [⟨63, 14, .rw, .none, .fixed, 0, .pw⟩,
    ⟨0, 0, .rw, .none, .fixed, 0, .pw⟩]⟩

/-- NET_FWRX_BASE: spec/13_rdma.md. -/
def spec_NET_FWRX_BASE : RegSpec :=
  ⟨false, 2, 0x300, 0x0, 1, 0x0, 1, true, .root,
   [⟨63, 14, .rw, .none, .fixed, 0, .pw⟩,
    ⟨3, 0, .rw, .none, .fixed, 0, .pw⟩]⟩

/-- NET_FWTX_BASE: spec/13_rdma.md. -/
def spec_NET_FWTX_BASE : RegSpec :=
  ⟨false, 2, 0x308, 0x0, 1, 0x0, 1, true, .root,
   [⟨63, 14, .rw, .none, .fixed, 0, .pw⟩,
    ⟨3, 0, .rw, .none, .fixed, 0, .pw⟩]⟩

/-- NET_FWQ_PTR: spec/13_rdma.md. -/
def spec_NET_FWQ_PTR : RegSpec :=
  ⟨false, 2, 0x310, 0x0, 1, 0x0, 1, true, .root,
   [⟨59, 48, .rw, .none, .fixed, 0, .pw⟩,
    ⟨43, 32, .ro, .none, .fixed, 0, .pw⟩,
    ⟨27, 16, .ro, .none, .fixed, 0, .pw⟩,
    ⟨11, 0, .rw, .none, .fixed, 0, .pw⟩]⟩

/-- RDM_CTL: spec/13_rdma.md. -/
def spec_RDM_CTL : RegSpec :=
  ⟨false, 3, 0x0, 0x0, 1, 0x0, 1, false, .always,
   [⟨31, 16, .rw, .none, .fixed, 0x64, .pwm⟩,
    ⟨15, 11, .rw, .none, .fixed, 0x1, .pwm⟩,
    ⟨2, 0, .rw, .pl, .fixed, 0x5, .pwm⟩]⟩

/-- RDM_SPRAY: spec/13_rdma.md. -/
def spec_RDM_SPRAY : RegSpec :=
  ⟨false, 3, 0x8, 0x0, 1, 0x0, 1, false, .always,
   [⟨31, 16, .rw, .none, .fixed, 0x7d0, .pwm⟩,
    ⟨4, 4, .rw, .pl, .fixed, 0x1, .pwm⟩,
    ⟨3, 0, .rw, .none, .fixed, 0x8, .pwm⟩]⟩

/-- RDM_CC: spec/13_rdma.md. -/
def spec_RDM_CC : RegSpec :=
  ⟨false, 3, 0x10, 0x0, 1, 0x0, 1, true, .always,
   [⟨63, 48, .rw, .none, .fixed, 0x32, .pwm⟩,
    ⟨47, 32, .rw, .none, .fixed, 0x28, .pwm⟩,
    ⟨31, 16, .rw, .none, .fixed, 0x64, .pwm⟩,
    ⟨15, 8, .rw, .none, .fixed, 0x37, .pwm⟩,
    ⟨3, 0, .rw, .none, .fixed, 0x8, .pwm⟩]⟩

/-- RDM_CTX_BASE: spec/13_rdma.md. -/
def spec_RDM_CTX_BASE : RegSpec :=
  ⟨false, 3, 0x18, 0x0, 1, 0x0, 1, true, .always,
   [⟨63, 21, .rw, .none, .fixed, 0, .pwm⟩,
    ⟨0, 0, .rw, .none, .fixed, 0, .pwm⟩]⟩

/-- RDM_CONN_DESC: spec/13_rdma.md. -/
def spec_RDM_CONN_DESC : RegSpec :=
  ⟨false, 3, 0x20, 0x8, 8, 0x0, 1, true, .always,
   [⟨63, 0, .rw, .none, .fixed, 0, .pwm⟩]⟩

/-- RDM_CONN_CMD: spec/13_rdma.md. -/
def spec_RDM_CONN_CMD : RegSpec :=
  ⟨false, 3, 0x60, 0x0, 1, 0x0, 1, true, .always,
   [⟨63, 63, .w1s, .none, .fixed, 0, .pwm⟩,
    ⟨62, 62, .ro, .none, .fixed, 0, .pwm⟩,
    ⟨61, 60, .rw, .none, .fixed, 0, .pwm⟩,
    ⟨47, 32, .ro, .none, .fixed, 0, .pwm⟩,
    ⟨31, 0, .rw, .none, .fixed, 0, .pwm⟩]⟩

/-- RDM_CCH_ST: spec/13_rdma.md. -/
def spec_RDM_CCH_ST : RegSpec :=
  ⟨false, 3, 0x68, 0x0, 1, 0x0, 1, true, .always,
   [⟨48, 32, .ro, .none, .fixed, 0, .pwm⟩,
    ⟨14, 0, .ro, .none, .fixed, 0, .pwm⟩]⟩

/-- RDM_MISSQ_ST: spec/13_rdma.md. -/
def spec_RDM_MISSQ_ST : RegSpec :=
  ⟨false, 3, 0x70, 0x0, 1, 0x0, 1, true, .always,
   [⟨41, 32, .ro, .none, .fixed, 0, .pwm⟩,
    ⟨21, 0, .ro, .none, .fixed, 0, .pwm⟩]⟩

/-- RDM_CNT: spec/13_rdma.md. -/
def spec_RDM_CNT : RegSpec :=
  ⟨false, 3, 0x78, 0x0, 1, 0x0, 1, true, .always,
   [⟨63, 48, .rc, .none, .fixed, 0, .pwm⟩,
    ⟨47, 32, .rc, .none, .fixed, 0, .pwm⟩,
    ⟨31, 16, .rc, .none, .fixed, 0, .pwm⟩,
    ⟨15, 0, .rc, .none, .fixed, 0, .pwm⟩]⟩

/-- RDM_CNT2: spec/13_rdma.md. -/
def spec_RDM_CNT2 : RegSpec :=
  ⟨false, 3, 0x80, 0x0, 1, 0x0, 1, true, .always,
   [⟨63, 32, .rc, .none, .fixed, 0, .pwm⟩,
    ⟨31, 16, .rc, .none, .fixed, 0, .pwm⟩,
    ⟨15, 0, .rc, .none, .fixed, 0, .pwm⟩]⟩

/-- RDM_EVT: spec/13_rdma.md. -/
def spec_RDM_EVT : RegSpec :=
  ⟨false, 3, 0x88, 0x0, 1, 0x0, 1, false, .always,
   [⟨4, 4, .w1c, .none, .fixed, 0, .pwm⟩,
    ⟨3, 3, .w1c, .none, .fixed, 0, .pwm⟩,
    ⟨2, 2, .w1c, .none, .fixed, 0, .pwm⟩,
    ⟨1, 1, .w1c, .none, .fixed, 0, .pwm⟩,
    ⟨0, 0, .w1c, .none, .fixed, 0, .pwm⟩]⟩

/-- RDM_ERR: spec/13_rdma.md. -/
def spec_RDM_ERR : RegSpec :=
  ⟨false, 3, 0x90, 0x0, 1, 0x0, 1, true, .always,
   [⟨63, 48, .ro, .none, .fixed, 0, .pwm⟩,
    ⟨47, 16, .ro, .none, .fixed, 0, .pwm⟩,
    ⟨0, 0, .w1c, .none, .fixed, 0, .pwm⟩]⟩

/-- RDM_MR_BASE: spec/13_rdma.md. -/
def spec_RDM_MR_BASE : RegSpec :=
  ⟨false, 3, 0x100, 0x0, 1, 0x0, 1, true, .root,
   [⟨63, 26, .rw, .none, .fixed, 0, .pw⟩,
    ⟨0, 0, .rw, .none, .fixed, 0, .pw⟩]⟩

/-- RDM_MR_CMD: spec/13_rdma.md. -/
def spec_RDM_MR_CMD : RegSpec :=
  ⟨false, 3, 0x108, 0x0, 1, 0x0, 1, true, .root,
   [⟨63, 63, .w1s, .none, .fixed, 0, .pw⟩,
    ⟨62, 62, .ro, .none, .fixed, 0, .pw⟩,
    ⟨61, 60, .rw, .none, .fixed, 0, .pw⟩,
    ⟨47, 32, .ro, .none, .fixed, 0, .pw⟩,
    ⟨19, 0, .rw, .none, .fixed, 0, .pw⟩]⟩

/-- HQ_CTL: spec/15_host_queues.md. -/
def spec_HQ_CTL : RegSpec :=
  ⟨false, 4, 0x0, 0x0, 1, 0x0, 1, false, .root,
   [⟨15, 8, .rw, .none, .fixed, 0x80, .pw⟩,
    ⟨1, 1, .rw, .none, .fixed, 0, .pw⟩,
    ⟨0, 0, .rw, .none, .fixed, 0, .pw⟩]⟩

/-- HQ_ST: spec/15_host_queues.md. -/
def spec_HQ_ST : RegSpec :=
  ⟨false, 4, 0x8, 0x0, 1, 0x0, 1, true, .root,
   [⟨52, 32, .ro, .none, .fixed, 0, .pw⟩,
    ⟨24, 16, .ro, .none, .fixed, 0, .pwf⟩,
    ⟨3, 3, .ro, .none, .fixed, 0, .pw⟩,
    ⟨2, 0, .ro, .none, .fixed, 0, .pwfc⟩]⟩

/-- HQ_EVT: spec/15_host_queues.md. -/
def spec_HQ_EVT : RegSpec :=
  ⟨false, 4, 0x10, 0x0, 1, 0x0, 1, false, .root,
   [⟨4, 4, .w1c, .none, .fixed, 0, .pw⟩,
    ⟨3, 3, .w1c, .none, .fixed, 0, .pw⟩,
    ⟨2, 2, .w1c, .none, .fixed, 0, .pw⟩,
    ⟨1, 1, .w1c, .none, .fixed, 0, .pw⟩,
    ⟨0, 0, .w1c, .none, .fixed, 0, .pw⟩]⟩

/-- HQ_FQ_BASE: spec/15_host_queues.md. -/
def spec_HQ_FQ_BASE : RegSpec :=
  ⟨false, 4, 0x100, 0x0, 1, 0x0, 1, true, .root,
   [⟨63, 30, .rw, .none, .fixed, 0, .pw⟩,
    ⟨0, 0, .rw, .none, .fixed, 0, .pw⟩]⟩

/-- HQ_FWC_BASE: spec/15_host_queues.md. -/
def spec_HQ_FWC_BASE : RegSpec :=
  ⟨false, 4, 0x108, 0x0, 1, 0x0, 1, true, .root,
   [⟨63, 12, .rw, .none, .fixed, 0, .pw⟩,
    ⟨3, 0, .rw, .none, .fixed, 0, .pw⟩]⟩

/-- HQ_FWC_BUF: spec/15_host_queues.md. -/
def spec_HQ_FWC_BUF : RegSpec :=
  ⟨false, 4, 0x110, 0x0, 1, 0x0, 1, true, .root,
   [⟨63, 16, .rw, .none, .fixed, 0, .pw⟩]⟩

/-- HQ_FWC_PTR: spec/15_host_queues.md. -/
def spec_HQ_FWC_PTR : RegSpec :=
  ⟨false, 4, 0x118, 0x0, 1, 0x0, 1, true, .root,
   [⟨39, 32, .rw, .none, .fixed, 0, .pw⟩,
    ⟨7, 0, .ro, .none, .fixed, 0, .pw⟩]⟩

/-- HQ_HEALTH_FW: spec/15_host_queues.md. -/
def spec_HQ_HEALTH_FW : RegSpec :=
  ⟨false, 4, 0x200, 0x0, 1, 0x0, 1, false, .root,
   [⟨1, 1, .rw, .none, .fixed, 0, .pw⟩,
    ⟨0, 0, .rw, .none, .fixed, 0, .pw⟩]⟩

/-- HQ_CNT: spec/15_host_queues.md. -/
def spec_HQ_CNT : RegSpec :=
  ⟨false, 4, 0x208, 0x0, 1, 0x0, 1, true, .root,
   [⟨63, 48, .rc, .none, .fixed, 0, .pw⟩,
    ⟨47, 32, .rc, .none, .fixed, 0, .pw⟩,
    ⟨31, 0, .rc, .none, .fixed, 0, .pw⟩]⟩

/-- HQ_ERR: spec/15_host_queues.md. -/
def spec_HQ_ERR : RegSpec :=
  ⟨false, 4, 0x210, 0x0, 1, 0x0, 1, true, .root,
   [⟨63, 48, .ro, .none, .fixed, 0, .pw⟩,
    ⟨47, 32, .ro, .none, .fixed, 0, .pw⟩,
    ⟨31, 16, .ro, .none, .fixed, 0, .pw⟩,
    ⟨0, 0, .w1c, .none, .fixed, 0, .pw⟩]⟩

/-- EP_CTL: spec/16_host_endpoint.md. -/
def spec_EP_CTL : RegSpec :=
  ⟨false, 5, 0x0, 0x0, 1, 0x0, 1, false, .root,
   [⟨2, 2, .rw, .pl, .fixed, 0x1, .pw⟩,
    ⟨1, 1, .w1s, .none, .fixed, 0, .pw⟩,
    ⟨0, 0, .w1s, .none, .fixed, 0, .pw⟩]⟩

/-- EP_ST: spec/16_host_endpoint.md. -/
def spec_EP_ST : RegSpec :=
  ⟨false, 5, 0x8, 0x0, 1, 0x0, 1, true, .root,
   [⟨63, 48, .ro, .none, .fixed, 0x32, .pw⟩,
    ⟨41, 32, .ro, .none, .fixed, 0, .pw⟩,
    ⟨24, 24, .ro, .none, .fixed, 0, .pw⟩,
    ⟨23, 23, .ro, .none, .fixed, 0, .pw⟩,
    ⟨22, 22, .ro, .none, .fixed, 0, .pw⟩,
    ⟨21, 21, .ro, .none, .fixed, 0, .pw⟩,
    ⟨20, 20, .ro, .none, .fixed, 0, .pw⟩,
    ⟨19, 19, .ro, .none, .fixed, 0, .pw⟩,
    ⟨18, 18, .ro, .none, .fixed, 0, .pw⟩,
    ⟨17, 17, .ro, .none, .fixed, 0, .pw⟩,
    ⟨16, 16, .ro, .none, .fixed, 0, .pw⟩,
    ⟨11, 11, .ro, .none, .fixed, 0, .pw⟩,
    ⟨10, 10, .ro, .none, .fixed, 0, .pw⟩,
    ⟨9, 4, .ro, .none, .fixed, 0, .pw⟩,
    ⟨3, 0, .ro, .none, .fixed, 0, .pw⟩]⟩

/-- EP_EVT: spec/16_host_endpoint.md. -/
def spec_EP_EVT : RegSpec :=
  ⟨false, 5, 0x10, 0x0, 1, 0x0, 1, false, .root,
   [⟨9, 9, .w1c, .none, .fixed, 0, .pw⟩,
    ⟨8, 8, .w1c, .none, .fixed, 0, .pw⟩,
    ⟨7, 7, .w1c, .none, .fixed, 0, .pw⟩,
    ⟨6, 6, .w1c, .none, .fixed, 0, .pw⟩,
    ⟨5, 5, .w1c, .none, .fixed, 0, .pw⟩,
    ⟨4, 4, .w1c, .none, .fixed, 0, .pw⟩,
    ⟨3, 3, .w1c, .none, .fixed, 0, .pw⟩,
    ⟨2, 2, .w1c, .none, .fixed, 0, .pw⟩,
    ⟨1, 1, .w1c, .none, .fixed, 0, .pw⟩,
    ⟨0, 0, .w1c, .none, .fixed, 0, .pw⟩]⟩

/-- EP_CNT: spec/16_host_endpoint.md. -/
def spec_EP_CNT : RegSpec :=
  ⟨false, 5, 0x18, 0x0, 1, 0x0, 1, true, .root,
   [⟨63, 48, .rc, .none, .fixed, 0, .pw⟩,
    ⟨47, 32, .rc, .none, .fixed, 0, .pw⟩,
    ⟨31, 16, .rc, .none, .fixed, 0, .pw⟩,
    ⟨15, 0, .rc, .none, .fixed, 0, .pw⟩]⟩

/-- EP_ERR: spec/16_host_endpoint.md. -/
def spec_EP_ERR : RegSpec :=
  ⟨false, 5, 0x20, 0x0, 1, 0x0, 1, true, .root,
   [⟨63, 48, .ro, .none, .fixed, 0, .pw⟩,
    ⟨41, 32, .ro, .none, .fixed, 0, .pw⟩,
    ⟨16, 16, .ro, .none, .fixed, 0, .pw⟩,
    ⟨0, 0, .w1c, .none, .fixed, 0, .pw⟩]⟩

/-- EP_ID: spec/16_host_endpoint.md. -/
def spec_EP_ID : RegSpec :=
  ⟨false, 5, 0x28, 0x0, 1, 0x0, 1, true, .root,
   [⟨31, 16, .ro, .none, .hw, 0, .p⟩,
    ⟨15, 0, .ro, .none, .hw, 0, .p⟩]⟩

/-- EP_PF1_RAISE: spec/16_host_endpoint.md. -/
def spec_EP_PF1_RAISE : RegSpec :=
  ⟨false, 5, 0x30, 0x0, 1, 0x0, 1, false, .root,
   [⟨31, 0, .w1s, .none, .fixed, 0, .pwf⟩]⟩

/-- DIG_CTL: spec/08_digest.md. -/
def spec_DIG_CTL : RegSpec :=
  ⟨false, 6, 0x0, 0x0, 1, 0x0, 1, false, .always,
   [⟨0, 0, .rw, .none, .fixed, 0x1, .pwm⟩]⟩

/-- DIG_ST: spec/08_digest.md. -/
def spec_DIG_ST : RegSpec :=
  ⟨false, 6, 0x8, 0x0, 1, 0x0, 1, false, .always,
   [⟨31, 16, .ro, .none, .fixed, 0, .pwm⟩,
    ⟨2, 2, .ro, .none, .fixed, 0, .pwm⟩,
    ⟨1, 1, .ro, .none, .fixed, 0, .pwm⟩,
    ⟨0, 0, .ro, .none, .fixed, 0, .pwm⟩]⟩

/-- DIG_CTX_ST: spec/08_digest.md. -/
def spec_DIG_CTX_ST : RegSpec :=
  ⟨false, 6, 0x10, 0x0, 1, 0x0, 1, true, .always,
   [⟨47, 32, .ro, .none, .fixed, 0, .pwm⟩,
    ⟨24, 16, .ro, .none, .fixed, 0, .pwm⟩,
    ⟨8, 0, .ro, .none, .fixed, 0, .pwm⟩]⟩

/-- DIG_CNT: spec/08_digest.md. -/
def spec_DIG_CNT : RegSpec :=
  ⟨false, 6, 0x18, 0x0, 1, 0x0, 1, true, .always,
   [⟨63, 32, .rc, .none, .fixed, 0, .pwm⟩,
    ⟨31, 16, .rc, .none, .fixed, 0, .pwm⟩,
    ⟨15, 0, .rc, .none, .fixed, 0, .pwm⟩]⟩

/-- DIG_RES_ST: spec/08_digest.md. -/
def spec_DIG_RES_ST : RegSpec :=
  ⟨false, 6, 0x20, 0x0, 1, 0x0, 1, false, .always,
   [⟨7, 4, .ro, .none, .fixed, 0, .pwm⟩,
    ⟨0, 0, .w1c, .none, .fixed, 0, .pwm⟩]⟩

/-- DIG_RES: spec/08_digest.md. -/
def spec_DIG_RES : RegSpec :=
  ⟨false, 6, 0x40, 0x8, 8, 0x0, 1, true, .always,
   [⟨63, 0, .ro, .none, .fixed, 0, .pwm⟩]⟩

/-- DIG_JQ_BASE: spec/08_digest.md. -/
def spec_DIG_JQ_BASE : RegSpec :=
  ⟨false, 6, 0x100, 0x0, 1, 0x0, 1, true, .always,
   [⟨63, 12, .rw, .none, .fixed, 0, .pwm⟩,
    ⟨3, 0, .rw, .none, .fixed, 0, .pwm⟩]⟩

/-- DIG_JQ_CTL: spec/08_digest.md. -/
def spec_DIG_JQ_CTL : RegSpec :=
  ⟨false, 6, 0x108, 0x0, 1, 0x0, 1, false, .always,
   [⟨8, 8, .rw, .none, .fixed, 0, .pwm⟩,
    ⟨7, 4, .rw, .none, .fixed, 0, .pwm⟩,
    ⟨0, 0, .rw, .none, .fixed, 0, .pwm⟩]⟩

/-- DIG_JQ_TAIL: spec/08_digest.md. -/
def spec_DIG_JQ_TAIL : RegSpec :=
  ⟨false, 6, 0x110, 0x0, 1, 0x0, 1, false, .always,
   [⟨11, 0, .rw, .none, .fixed, 0, .pwm⟩]⟩

/-- DIG_JQ_HEAD: spec/08_digest.md. -/
def spec_DIG_JQ_HEAD : RegSpec :=
  ⟨false, 6, 0x118, 0x0, 1, 0x0, 1, false, .always,
   [⟨11, 0, .ro, .none, .fixed, 0, .pwm⟩]⟩

/-- CMP_CTL: spec/07_compression.md. -/
def spec_CMP_CTL : RegSpec :=
  ⟨false, 7, 0x0, 0x0, 1, 0x0, 1, false, .optC,
   [⟨31, 16, .rw, .none, .fixed, 0, .pwm⟩,
    ⟨10, 8, .rw, .none, .fixed, 0, .pwm⟩,
    ⟨2, 2, .rw, .none, .fixed, 0x1, .pwm⟩,
    ⟨1, 1, .rw, .none, .fixed, 0x1, .pwm⟩,
    ⟨0, 0, .rw, .none, .fixed, 0, .pwm⟩]⟩

/-- CMP_ST: spec/07_compression.md. -/
def spec_CMP_ST : RegSpec :=
  ⟨false, 7, 0x8, 0x0, 1, 0x0, 1, true, .optC,
   [⟨47, 32, .ro, .none, .fixed, 0, .pwm⟩,
    ⟨20, 16, .ro, .none, .fixed, 0, .pwm⟩,
    ⟨4, 0, .ro, .none, .fixed, 0, .pwm⟩]⟩

/-- CMP_CNT_IN: spec/07_compression.md. -/
def spec_CMP_CNT_IN : RegSpec :=
  ⟨false, 7, 0x10, 0x0, 1, 0x0, 1, true, .optC,
   [⟨63, 0, .ro, .none, .fixed, 0, .pwm⟩]⟩

/-- CMP_CNT_OUT: spec/07_compression.md. -/
def spec_CMP_CNT_OUT : RegSpec :=
  ⟨false, 7, 0x18, 0x0, 1, 0x0, 1, true, .optC,
   [⟨63, 0, .ro, .none, .fixed, 0, .pwm⟩]⟩

/-- CMP_CNT_KIND: spec/07_compression.md. -/
def spec_CMP_CNT_KIND : RegSpec :=
  ⟨false, 7, 0x20, 0x0, 1, 0x0, 1, true, .optC,
   [⟨63, 32, .rc, .none, .fixed, 0, .pwm⟩,
    ⟨31, 0, .rc, .none, .fixed, 0, .pwm⟩]⟩

/-- CMP_CNT_STORED: spec/07_compression.md. -/
def spec_CMP_CNT_STORED : RegSpec :=
  ⟨false, 7, 0x28, 0x0, 1, 0x0, 1, true, .optC,
   [⟨63, 32, .rc, .none, .fixed, 0, .pwm⟩,
    ⟨31, 0, .rc, .none, .fixed, 0, .pwm⟩]⟩

/-- CMP_ERR: spec/07_compression.md. -/
def spec_CMP_ERR : RegSpec :=
  ⟨false, 7, 0x30, 0x0, 1, 0x0, 1, true, .optC,
   [⟨63, 48, .ro, .none, .fixed, 0, .pwm⟩,
    ⟨0, 0, .w1c, .none, .fixed, 0, .pwm⟩]⟩

/-- CIP_CTL: spec/09_cipher.md. -/
def spec_CIP_CTL : RegSpec :=
  ⟨false, 8, 0x0, 0x0, 1, 0x0, 1, false, .optE,
   [⟨11, 8, .rw, .pl, .hw, 0, .pw⟩]⟩

/-- CIP_ST: spec/09_cipher.md. -/
def spec_CIP_ST : RegSpec :=
  ⟨false, 8, 0x8, 0x0, 1, 0x0, 1, true, .optE,
   [⟨47, 32, .ro, .none, .fixed, 0, .pwm⟩,
    ⟨14, 8, .ro, .none, .fixed, 0, .pwm⟩,
    ⟨7, 0, .ro, .none, .fixed, 0, .p⟩]⟩

/-- CIP_EVT: spec/09_cipher.md. -/
def spec_CIP_EVT : RegSpec :=
  ⟨false, 8, 0x10, 0x0, 1, 0x0, 1, false, .optE,
   [⟨4, 4, .w1c, .none, .fixed, 0, .pwm⟩,
    ⟨3, 3, .w1c, .none, .fixed, 0, .pwm⟩,
    ⟨2, 2, .w1c, .none, .fixed, 0, .pwm⟩,
    ⟨1, 1, .w1c, .none, .fixed, 0, .pwm⟩,
    ⟨0, 0, .w1c, .none, .fixed, 0, .pwm⟩]⟩

/-- CIP_FENCE_LO: spec/09_cipher.md. -/
def spec_CIP_FENCE_LO : RegSpec :=
  ⟨false, 8, 0x18, 0x0, 1, 0x0, 1, true, .optE,
   [⟨63, 0, .w1c, .none, .fixed, 0, .pwm⟩]⟩

/-- CIP_FENCE_HI: spec/09_cipher.md. -/
def spec_CIP_FENCE_HI : RegSpec :=
  ⟨false, 8, 0x20, 0x0, 1, 0x0, 1, true, .optE,
   [⟨31, 0, .w1c, .none, .fixed, 0, .pwm⟩]⟩

/-- CIP_CNT: spec/09_cipher.md. -/
def spec_CIP_CNT : RegSpec :=
  ⟨false, 8, 0x28, 0x0, 1, 0x0, 1, true, .optE,
   [⟨63, 32, .rc, .none, .fixed, 0, .pwm⟩,
    ⟨31, 0, .rc, .none, .fixed, 0, .pwm⟩]⟩

/-- CIP_GEN_HWM: spec/09_cipher.md. -/
def spec_CIP_GEN_HWM : RegSpec :=
  ⟨false, 8, 0x100, 0x8, 8, 0x0, 1, true, .optE,
   [⟨47, 0, .ro, .tv, .hw, 0, .p⟩]⟩

/-- CIP_KEK: spec/09_cipher.md. -/
def spec_CIP_KEK : RegSpec :=
  ⟨false, 8, 0x200, 0x8, 4, 0x0, 1, true, .optERoot,
   [⟨63, 0, .wo, .none, .fixed, 0, .pw⟩]⟩

/-- CIP_KEK_CTL: spec/09_cipher.md. -/
def spec_CIP_KEK_CTL : RegSpec :=
  ⟨false, 8, 0x220, 0x0, 1, 0x0, 1, false, .optERoot,
   [⟨31, 16, .ro, .none, .fixed, 0, .pw⟩,
    ⟨2, 2, .w1s, .none, .fixed, 0, .pw⟩,
    ⟨1, 1, .ro, .none, .fixed, 0, .pw⟩,
    ⟨0, 0, .w1s, .none, .fixed, 0, .pw⟩]⟩

/-- CIP_WRAP: spec/09_cipher.md. -/
def spec_CIP_WRAP : RegSpec :=
  ⟨false, 8, 0x240, 0x8, 5, 0x0, 1, true, .optERoot,
   [⟨63, 0, .wo, .none, .fixed, 0, .pw⟩]⟩

/-- CIP_SLOT_CMD: spec/09_cipher.md. -/
def spec_CIP_SLOT_CMD : RegSpec :=
  ⟨false, 8, 0x270, 0x0, 1, 0x0, 1, false, .optERoot,
   [⟨31, 31, .w1s, .none, .fixed, 0, .pw⟩,
    ⟨30, 30, .ro, .none, .fixed, 0, .pw⟩,
    ⟨29, 28, .rw, .none, .fixed, 0, .pw⟩,
    ⟨27, 27, .rw, .none, .fixed, 0, .pw⟩,
    ⟨26, 12, .ro, .none, .fixed, 0, .pw⟩,
    ⟨11, 0, .rw, .none, .fixed, 0, .pw⟩]⟩

/-- CIP_SLOT_ST: spec/09_cipher.md. -/
def spec_CIP_SLOT_ST : RegSpec :=
  ⟨false, 8, 0x1000, 0x8, 4096, 0x0, 1, true, .optERoot,
   [⟨63, 32, .ro, .none, .fixed, 0, .pw⟩,
    ⟨31, 16, .ro, .none, .fixed, 0, .pw⟩,
    ⟨3, 3, .ro, .none, .fixed, 0, .pw⟩,
    ⟨2, 0, .ro, .none, .fixed, 0, .pw⟩]⟩

/-- ECU_CTL: spec/11_erasure.md. -/
def spec_ECU_CTL : RegSpec :=
  ⟨false, 9, 0x0, 0x0, 1, 0x0, 1, false, .always,
   [⟨31, 16, .rw, .none, .fixed, 0x4e20, .pwm⟩,
    ⟨11, 8, .rw, .none, .fixed, 0x4, .pwm⟩,
    ⟨0, 0, .rw, .none, .fixed, 0x1, .pwm⟩]⟩

/-- ECU_ST: spec/11_erasure.md. -/
def spec_ECU_ST : RegSpec :=
  ⟨false, 9, 0x8, 0x0, 1, 0x0, 1, true, .always,
   [⟨63, 60, .ro, .none, .hw, 0, .p⟩,
    ⟨47, 32, .ro, .none, .fixed, 0, .pwm⟩,
    ⟨31, 16, .ro, .none, .fixed, 0, .pwm⟩,
    ⟨12, 8, .ro, .none, .fixed, 0, .pwm⟩,
    ⟨4, 0, .ro, .none, .fixed, 0, .pwm⟩]⟩

/-- ECU_EVT: spec/11_erasure.md. -/
def spec_ECU_EVT : RegSpec :=
  ⟨false, 9, 0x10, 0x0, 1, 0x0, 1, false, .always,
   [⟨7, 7, .w1c, .none, .fixed, 0, .pwm⟩,
    ⟨6, 6, .w1c, .none, .fixed, 0, .pwm⟩,
    ⟨5, 5, .w1c, .none, .fixed, 0, .pwm⟩,
    ⟨4, 4, .w1c, .none, .fixed, 0, .pwm⟩,
    ⟨3, 3, .w1c, .none, .fixed, 0, .pwm⟩,
    ⟨2, 2, .w1c, .none, .fixed, 0, .pwm⟩,
    ⟨1, 1, .w1c, .none, .fixed, 0, .pwm⟩,
    ⟨0, 0, .w1c, .none, .fixed, 0, .pwm⟩]⟩

/-- ECU_CNT1: spec/11_erasure.md. -/
def spec_ECU_CNT1 : RegSpec :=
  ⟨false, 9, 0x18, 0x0, 1, 0x0, 1, true, .always,
   [⟨63, 48, .rc, .none, .fixed, 0, .pwm⟩,
    ⟨47, 32, .rc, .none, .fixed, 0, .pwm⟩,
    ⟨31, 0, .rc, .none, .fixed, 0, .pwm⟩]⟩

/-- ECU_CNT2: spec/11_erasure.md. -/
def spec_ECU_CNT2 : RegSpec :=
  ⟨false, 9, 0x20, 0x0, 1, 0x0, 1, true, .always,
   [⟨63, 48, .rc, .none, .fixed, 0, .pwm⟩,
    ⟨47, 32, .rc, .none, .fixed, 0, .pwm⟩,
    ⟨31, 0, .rc, .none, .fixed, 0, .pwm⟩]⟩

/-- ECU_RB_CTL: spec/11_erasure.md. -/
def spec_ECU_RB_CTL : RegSpec :=
  ⟨false, 9, 0x100, 0x0, 1, 0x0, 1, false, .always,
   [⟨31, 16, .rw, .none, .fixed, 0x100, .pwm⟩,
    ⟨15, 12, .rw, .none, .fixed, 0x4, .pwm⟩,
    ⟨7, 0, .rw, .none, .fixed, 0xa, .pwm⟩]⟩

/-- ECU_RB_ST: spec/11_erasure.md. -/
def spec_ECU_RB_ST : RegSpec :=
  ⟨false, 9, 0x108, 0x0, 1, 0x0, 1, true, .always,
   [⟨63, 32, .ro, .none, .fixed, 0, .pwm⟩,
    ⟨31, 8, .ro, .none, .fixed, 0, .pwm⟩,
    ⟨0, 0, .ro, .none, .fixed, 0, .pwm⟩]⟩

/-- ECU_PAT_ST: spec/11_erasure.md. -/
def spec_ECU_PAT_ST : RegSpec :=
  ⟨false, 9, 0x200, 0x0, 1, 0x0, 1, true, .always,
   [⟨63, 32, .ro, .none, .fixed, 0, .pwm⟩,
    ⟨31, 0, .ro, .none, .fixed, 0, .pwm⟩]⟩

/-- ECU_PAT_START: spec/11_erasure.md. -/
def spec_ECU_PAT_START : RegSpec :=
  ⟨false, 9, 0x208, 0x0, 1, 0x0, 1, true, .always,
   [⟨63, 0, .ro, .none, .fixed, 0, .pwm⟩]⟩

/-- ECU_MOD: spec/11_erasure.md. -/
def spec_ECU_MOD : RegSpec :=
  ⟨false, 9, 0x1000, 0x8, 256, 0x0, 1, true, .root,
   [⟨63, 48, .ro, .none, .fixed, 0, .pw⟩,
    ⟨29, 24, .rw, .none, .hw, 0, .pw⟩,
    ⟨19, 16, .ro, .none, .fixed, 0, .pw⟩,
    ⟨9, 9, .w1s, .none, .fixed, 0, .pw⟩,
    ⟨8, 8, .w1s, .none, .fixed, 0, .pw⟩,
    ⟨2, 0, .rw, .none, .fixed, 0, .pw⟩]⟩

/-- MED_GC_CTL: spec/10_media.md. -/
def spec_MED_GC_CTL : RegSpec :=
  ⟨false, 10, 0x0, 0x0, 1, 0x0, 1, false, .always,
   [⟨31, 24, .rw, .none, .fixed, 0xa, .pwm⟩,
    ⟨23, 16, .rw, .none, .fixed, 0x3, .pwm⟩,
    ⟨15, 8, .rw, .none, .fixed, 0x5, .pwm⟩,
    ⟨7, 0, .rw, .none, .fixed, 0x4, .pwm⟩]⟩

/-- MED_MEDIA_CTL: spec/10_media.md. -/
def spec_MED_MEDIA_CTL : RegSpec :=
  ⟨false, 10, 0x8, 0x0, 1, 0x0, 1, true, .always,
   [⟨39, 32, .rw, .none, .fixed, 0xa, .pwm⟩,
    ⟨31, 24, .rw, .none, .fixed, 0x50, .pwm⟩,
    ⟨23, 16, .rw, .pl, .fixed, 0x3, .pwm⟩,
    ⟨15, 0, .rw, .none, .fixed, 0x1f4, .pwm⟩]⟩

/-- MED_STG_CTL: spec/10_media.md. -/
def spec_MED_STG_CTL : RegSpec :=
  ⟨false, 10, 0x10, 0x0, 1, 0x0, 1, false, .always,
   [⟨31, 16, .rw, .none, .fixed, 0x400, .pwm⟩]⟩

/-- MED_CKPT_CTL: spec/10_media.md. -/
def spec_MED_CKPT_CTL : RegSpec :=
  ⟨false, 10, 0x18, 0x0, 1, 0x0, 1, false, .always,
   [⟨31, 0, .rw, .none, .fixed, 0xb71b00, .pwm⟩]⟩

/-- MED_ST: spec/10_media.md. -/
def spec_MED_ST : RegSpec :=
  ⟨false, 10, 0x20, 0x0, 1, 0x0, 1, true, .always,
   [⟨63, 56, .ro, .none, .fixed, 0, .pwm⟩,
    ⟨55, 48, .ro, .none, .fixed, 0, .pwm⟩,
    ⟨47, 32, .ro, .none, .fixed, 0, .pwm⟩,
    ⟨31, 24, .ro, .none, .fixed, 0, .pwm⟩,
    ⟨1, 0, .ro, .none, .fixed, 0, .pwm⟩]⟩

/-- MED_EVT: spec/10_media.md. -/
def spec_MED_EVT : RegSpec :=
  ⟨false, 10, 0x28, 0x0, 1, 0x0, 1, false, .always,
   [⟨6, 6, .w1c, .none, .fixed, 0, .pwm⟩,
    ⟨5, 5, .w1c, .none, .fixed, 0, .pwm⟩,
    ⟨4, 4, .w1c, .none, .fixed, 0, .pwm⟩,
    ⟨3, 3, .w1c, .none, .fixed, 0, .pwm⟩,
    ⟨2, 2, .w1c, .none, .fixed, 0, .pwm⟩,
    ⟨1, 1, .w1c, .none, .fixed, 0, .pwm⟩,
    ⟨0, 0, .w1c, .none, .fixed, 0, .pwm⟩]⟩

/-- MED_GC_CNT: spec/10_media.md. -/
def spec_MED_GC_CNT : RegSpec :=
  ⟨false, 10, 0x30, 0x0, 1, 0x0, 1, true, .always,
   [⟨63, 32, .rc, .none, .fixed, 0, .pwm⟩,
    ⟨31, 0, .rc, .none, .fixed, 0, .pwm⟩]⟩

/-- MED_VAULT_ST: spec/10_media.md. -/
def spec_MED_VAULT_ST : RegSpec :=
  ⟨false, 10, 0x38, 0x0, 1, 0x0, 1, true, .always,
   [⟨63, 32, .ro, .none, .fixed, 0, .pw⟩,
    ⟨3, 3, .ro, .none, .fixed, 0, .pw⟩,
    ⟨2, 2, .ro, .none, .fixed, 0, .pw⟩,
    ⟨1, 1, .ro, .none, .fixed, 0, .pw⟩,
    ⟨0, 0, .ro, .none, .fixed, 0, .pw⟩]⟩

/-- MED_HSEL: spec/10_media.md. -/
def spec_MED_HSEL : RegSpec :=
  ⟨false, 10, 0x100, 0x0, 1, 0x0, 1, false, .root,
   [⟨7, 0, .rw, .none, .fixed, 0, .pw⟩]⟩

/-- MED_HEALTH: spec/10_media.md. -/
def spec_MED_HEALTH : RegSpec :=
  ⟨false, 10, 0x108, 0x0, 1, 0x0, 1, true, .root,
   [⟨63, 56, .ro, .none, .fixed, 0, .pw⟩,
    ⟨55, 48, .ro, .none, .fixed, 0, .pw⟩,
    ⟨39, 32, .ro, .none, .fixed, 0, .pw⟩,
    ⟨31, 0, .ro, .none, .fixed, 0, .pw⟩]⟩

/-- MED_HERR: spec/10_media.md. -/
def spec_MED_HERR : RegSpec :=
  ⟨false, 10, 0x110, 0x8, 3, 0x0, 1, true, .root,
   [⟨63, 0, .ro, .none, .fixed, 0, .pw⟩]⟩

/-- MED_HTEMP: spec/10_media.md. -/
def spec_MED_HTEMP : RegSpec :=
  ⟨false, 10, 0x200, 0x8, 16, 0x0, 1, true, .root,
   [⟨31, 0, .ro, .none, .fixed, 0, .pw⟩]⟩

/-- BOB_CTL: spec/12_bobbin_protocol.md. -/
def spec_BOB_CTL : RegSpec :=
  ⟨false, 11, 0x0, 0x0, 1, 0x0, 1, false, .always,
   [⟨23, 16, .rw, .none, .fixed, 0x40, .pwm⟩,
    ⟨4, 4, .rw, .none, .fixed, 0x1, .pwm⟩,
    ⟨3, 0, .rw, .pl, .fixed, 0x8, .pwm⟩]⟩

/-- BOB_TMO: spec/12_bobbin_protocol.md. -/
def spec_BOB_TMO : RegSpec :=
  ⟨false, 11, 0x8, 0x0, 1, 0x0, 1, true, .always,
   [⟨63, 48, .rw, .none, .fixed, 0x1e, .pwm⟩,
    ⟨47, 32, .rw, .none, .fixed, 0xa, .pwm⟩,
    ⟨31, 16, .rw, .none, .fixed, 0xa, .pwm⟩,
    ⟨15, 0, .ro, .none, .fixed, 0x3e8, .p⟩]⟩

/-- BOB_EVT: spec/12_bobbin_protocol.md. -/
def spec_BOB_EVT : RegSpec :=
  ⟨false, 11, 0x10, 0x0, 1, 0x0, 1, false, .always,
   [⟨5, 5, .w1c, .none, .fixed, 0, .pwm⟩,
    ⟨4, 4, .w1c, .none, .fixed, 0, .pwm⟩,
    ⟨3, 3, .w1c, .none, .fixed, 0, .pwm⟩,
    ⟨2, 2, .w1c, .none, .fixed, 0, .pwm⟩,
    ⟨1, 1, .w1c, .none, .fixed, 0, .pwm⟩,
    ⟨0, 0, .w1c, .none, .fixed, 0, .pwm⟩]⟩

/-- BOB_ERR: spec/12_bobbin_protocol.md. -/
def spec_BOB_ERR : RegSpec :=
  ⟨false, 11, 0x18, 0x0, 1, 0x0, 1, true, .always,
   [⟨63, 48, .ro, .none, .fixed, 0, .pwm⟩,
    ⟨47, 40, .ro, .none, .fixed, 0, .pwm⟩,
    ⟨39, 32, .ro, .none, .fixed, 0, .pwm⟩,
    ⟨31, 28, .ro, .none, .fixed, 0, .pwm⟩,
    ⟨0, 0, .w1c, .none, .fixed, 0, .pwm⟩]⟩

/-- BOB_CNT: spec/12_bobbin_protocol.md. -/
def spec_BOB_CNT : RegSpec :=
  ⟨false, 11, 0x20, 0x0, 1, 0x0, 1, true, .always,
   [⟨63, 48, .rc, .none, .fixed, 0, .pwm⟩,
    ⟨47, 32, .rc, .none, .fixed, 0, .pwm⟩,
    ⟨31, 16, .rc, .none, .fixed, 0, .pwm⟩,
    ⟨15, 0, .rc, .none, .fixed, 0, .pwm⟩]⟩

/-- BOB_PORT_ST: spec/12_bobbin_protocol.md. -/
def spec_BOB_PORT_ST : RegSpec :=
  ⟨false, 11, 0x100, 0x8, 4, 0x0, 1, true, .always,
   [⟨63, 56, .ro, .none, .fixed, 0, .pwm⟩,
    ⟨15, 12, .ro, .none, .fixed, 0, .pwm⟩,
    ⟨11, 8, .ro, .none, .fixed, 0, .pwm⟩,
    ⟨1, 1, .ro, .none, .fixed, 0, .pwm⟩,
    ⟨0, 0, .ro, .none, .fixed, 0, .pwm⟩]⟩

/-- BOB_MOD_ST: spec/12_bobbin_protocol.md. -/
def spec_BOB_MOD_ST : RegSpec :=
  ⟨false, 11, 0x200, 0x8, 32, 0x0, 1, true, .always,
   [⟨63, 48, .ro, .none, .fixed, 0, .pwm⟩,
    ⟨47, 32, .ro, .none, .fixed, 0, .pwm⟩,
    ⟨31, 24, .ro, .none, .hw, 0, .p⟩,
    ⟨2, 2, .ro, .none, .fixed, 0, .pwm⟩,
    ⟨1, 1, .ro, .none, .fixed, 0, .pwm⟩,
    ⟨0, 0, .ro, .none, .fixed, 0, .pwm⟩]⟩

/-- DRM_CFG: spec/17_memory_cache_ecc.md. -/
def spec_DRM_CFG : RegSpec :=
  ⟨false, 12, 0x0, 0x0, 1, 0x0, 1, false, .always,
   [⟨31, 24, .rw, .none, .fixed, 0x5f, .pwm⟩,
    ⟨23, 16, .rw, .none, .fixed, 0x40, .pwm⟩,
    ⟨3, 0, .rw, .pl, .fixed, 0x5, .pwm⟩]⟩

/-- DRM_ST: spec/17_memory_cache_ecc.md. -/
def spec_DRM_ST : RegSpec :=
  ⟨false, 12, 0x8, 0x0, 1, 0x0, 1, true, .always,
   [⟨47, 40, .ro, .none, .fixed, 0, .pwm⟩,
    ⟨39, 36, .ro, .none, .fixed, 0, .pwm⟩,
    ⟨35, 32, .ro, .none, .fixed, 0, .pwm⟩,
    ⟨8, 8, .ro, .none, .fixed, 0, .pwm⟩,
    ⟨7, 4, .ro, .none, .fixed, 0, .pwm⟩,
    ⟨3, 0, .ro, .none, .fixed, 0, .pwm⟩]⟩

/-- DRM_EVT: spec/17_memory_cache_ecc.md. -/
def spec_DRM_EVT : RegSpec :=
  ⟨false, 12, 0x10, 0x0, 1, 0x0, 1, false, .always,
   [⟨3, 3, .w1c, .none, .fixed, 0, .pwm⟩,
    ⟨2, 2, .w1c, .none, .fixed, 0, .pwm⟩,
    ⟨1, 1, .w1c, .none, .fixed, 0, .pwm⟩,
    ⟨0, 0, .w1c, .none, .fixed, 0, .pwm⟩]⟩

/-- DRM_ERR: spec/17_memory_cache_ecc.md. -/
def spec_DRM_ERR : RegSpec :=
  ⟨false, 12, 0x18, 0x0, 1, 0x0, 1, true, .always,
   [⟨63, 62, .ro, .none, .fixed, 0, .pwm⟩,
    ⟨61, 60, .ro, .none, .fixed, 0, .pwm⟩,
    ⟨59, 56, .ro, .none, .fixed, 0, .pwm⟩,
    ⟨55, 55, .ro, .none, .fixed, 0, .pwm⟩,
    ⟨54, 54, .ro, .none, .fixed, 0, .pwm⟩,
    ⟨38, 7, .ro, .none, .fixed, 0, .pwm⟩,
    ⟨0, 0, .w1c, .none, .fixed, 0, .pwm⟩]⟩

/-- DRM_CNT: spec/17_memory_cache_ecc.md. -/
def spec_DRM_CNT : RegSpec :=
  ⟨false, 12, 0x100, 0x8, 4, 0x0, 1, true, .always,
   [⟨63, 32, .rc, .none, .fixed, 0, .pwm⟩,
    ⟨31, 16, .rc, .none, .fixed, 0, .pwm⟩,
    ⟨15, 0, .rc, .none, .fixed, 0, .pwm⟩]⟩

/-- DRM_SCRUB_ST: spec/17_memory_cache_ecc.md. -/
def spec_DRM_SCRUB_ST : RegSpec :=
  ⟨false, 12, 0x200, 0x0, 1, 0x0, 1, true, .always,
   [⟨63, 48, .ro, .none, .fixed, 0, .pwm⟩,
    ⟨38, 7, .ro, .none, .fixed, 0, .pwm⟩]⟩

/-- CCH_CTL: spec/17_memory_cache_ecc.md. -/
def spec_CCH_CTL : RegSpec :=
  ⟨false, 13, 0x0, 0x0, 1, 0x0, 1, false, .always,
   [⟨5, 4, .rw, .none, .fixed, 0x1, .pwm⟩,
    ⟨1, 1, .rw, .none, .fixed, 0, .pwm⟩,
    ⟨0, 0, .rw, .none, .fixed, 0, .pwm⟩]⟩

/-- CCH_ST: spec/17_memory_cache_ecc.md. -/
def spec_CCH_ST : RegSpec :=
  ⟨false, 13, 0x8, 0x0, 1, 0x0, 1, true, .always,
   [⟨63, 32, .ro, .none, .fixed, 0, .pwm⟩,
    ⟨23, 20, .ro, .none, .fixed, 0, .pwm⟩,
    ⟨15, 9, .ro, .none, .fixed, 0, .pwm⟩,
    ⟨2, 2, .ro, .none, .fixed, 0, .pwm⟩,
    ⟨0, 0, .ro, .none, .fixed, 0, .pwm⟩]⟩

/-- CCH_EVT: spec/17_memory_cache_ecc.md. -/
def spec_CCH_EVT : RegSpec :=
  ⟨false, 13, 0x10, 0x0, 1, 0x0, 1, false, .always,
   [⟨2, 2, .w1c, .none, .fixed, 0, .pwm⟩,
    ⟨1, 1, .w1c, .none, .fixed, 0, .pwm⟩,
    ⟨0, 0, .w1c, .none, .fixed, 0, .pwm⟩]⟩

/-- CCH_MAINT: spec/17_memory_cache_ecc.md. -/
def spec_CCH_MAINT : RegSpec :=
  ⟨false, 13, 0x20, 0x0, 1, 0x0, 1, true, .always,
   [⟨63, 63, .w1s, .none, .fixed, 0, .pwm⟩,
    ⟨62, 62, .ro, .none, .fixed, 0, .pwm⟩,
    ⟨61, 60, .rw, .none, .fixed, 0, .pwm⟩,
    ⟨59, 59, .rw, .none, .fixed, 0, .pwm⟩,
    ⟨58, 58, .rw, .none, .fixed, 0, .pwm⟩,
    ⟨57, 42, .ro, .none, .fixed, 0, .pwm⟩,
    ⟨41, 18, .rw, .none, .fixed, 0, .pwm⟩,
    ⟨17, 14, .rw, .none, .fixed, 0, .pwm⟩,
    ⟨13, 0, .rw, .none, .fixed, 0, .pwm⟩]⟩

/-- CCH_MAINT_ADDR: spec/17_memory_cache_ecc.md. -/
def spec_CCH_MAINT_ADDR : RegSpec :=
  ⟨false, 13, 0x28, 0x0, 1, 0x0, 1, true, .always,
   [⟨63, 7, .rw, .none, .fixed, 0, .pwm⟩]⟩

/-- CCH_CNT: spec/17_memory_cache_ecc.md. -/
def spec_CCH_CNT : RegSpec :=
  ⟨false, 13, 0x30, 0x0, 1, 0x0, 1, true, .always,
   [⟨63, 32, .rc, .none, .fixed, 0, .pwm⟩,
    ⟨31, 16, .rc, .none, .fixed, 0, .pwm⟩,
    ⟨15, 0, .rc, .none, .fixed, 0, .pwm⟩]⟩

/-- ECC_CTL: spec/17_memory_cache_ecc.md. -/
def spec_ECC_CTL : RegSpec :=
  ⟨false, 14, 0x0, 0x0, 1, 0x0, 1, false, .always,
   [⟨15, 8, .rw, .none, .fixed, 0x10, .pwm⟩,
    ⟨0, 0, .rw, .pl, .fixed, 0, .pwm⟩]⟩

/-- ECC_ST: spec/17_memory_cache_ecc.md. -/
def spec_ECC_ST : RegSpec :=
  ⟨false, 14, 0x8, 0x0, 1, 0x0, 1, true, .always,
   [⟨63, 56, .ro, .none, .fixed, 0, .pwm⟩,
    ⟨55, 48, .ro, .none, .fixed, 0, .pwm⟩,
    ⟨47, 44, .ro, .none, .fixed, 0, .pwm⟩,
    ⟨43, 16, .ro, .none, .fixed, 0, .pwm⟩,
    ⟨0, 0, .w1c, .none, .fixed, 0, .pwm⟩]⟩

/-- ECC_CNT: spec/17_memory_cache_ecc.md. -/
def spec_ECC_CNT : RegSpec :=
  ⟨false, 14, 0x10, 0x0, 1, 0x0, 1, true, .always,
   [⟨63, 32, .rc, .none, .fixed, 0, .pwm⟩,
    ⟨31, 16, .rc, .none, .fixed, 0, .pwm⟩,
    ⟨15, 0, .ro, .none, .fixed, 0, .p⟩]⟩

/-- ECC_TV: spec/17_memory_cache_ecc.md. -/
def spec_ECC_TV : RegSpec :=
  ⟨false, 14, 0x18, 0x0, 1, 0x0, 1, true, .always,
   [⟨63, 32, .rc, .none, .fixed, 0, .pwm⟩,
    ⟨31, 24, .ro, .none, .fixed, 0, .pwm⟩]⟩

/-- ECC_FLIP_TARGET: spec/17_memory_cache_ecc.md. -/
def spec_ECC_FLIP_TARGET : RegSpec :=
  ⟨false, 14, 0x100, 0x0, 1, 0x0, 1, true, .always,
   [⟨63, 63, .rw, .none, .fixed, 0, .pwm⟩,
    ⟨62, 62, .w1c, .none, .fixed, 0, .pwm⟩,
    ⟨61, 61, .rw, .none, .fixed, 0, .pwm⟩,
    ⟨55, 48, .rw, .none, .fixed, 0, .pwm⟩,
    ⟨47, 40, .rw, .none, .fixed, 0, .pwm⟩,
    ⟨39, 32, .rw, .none, .fixed, 0, .pwm⟩,
    ⟨19, 16, .rw, .none, .fixed, 0, .pwm⟩,
    ⟨15, 0, .rw, .none, .fixed, 0, .pwm⟩]⟩

/-- ECC_FLIP_MASK: spec/17_memory_cache_ecc.md. -/
def spec_ECC_FLIP_MASK : RegSpec :=
  ⟨false, 14, 0x108, 0x0, 1, 0x0, 1, true, .always,
   [⟨63, 0, .rw, .none, .fixed, 0, .pwm⟩]⟩

/-- ECC_FLIP_ADDR: spec/17_memory_cache_ecc.md. -/
def spec_ECC_FLIP_ADDR : RegSpec :=
  ⟨false, 14, 0x110, 0x0, 1, 0x0, 1, true, .always,
   [⟨63, 7, .rw, .none, .fixed, 0, .pwm⟩]⟩

/-- LPM_IMON_CFG: spec/18_power_thermal.md. -/
def spec_LPM_IMON_CFG : RegSpec :=
  ⟨false, 15, 0x0, 0x8, 2, 0x0, 1, true, .always,
   [⟨63, 48, .ro, .none, .hw, 0, .p⟩,
    ⟨47, 32, .rw, .pl, .hw, 0, .pwm⟩,
    ⟨31, 16, .rw, .pl, .fixed, 0, .pwm⟩,
    ⟨11, 0, .rw, .pl, .fixed, 0, .pwm⟩]⟩

/-- LPM_IMON_ST: spec/18_power_thermal.md. -/
def spec_LPM_IMON_ST : RegSpec :=
  ⟨false, 15, 0x10, 0x8, 2, 0x0, 1, true, .always,
   [⟨63, 32, .ro, .none, .fixed, 0, .pwm⟩,
    ⟨15, 15, .ro, .none, .fixed, 0, .pwm⟩,
    ⟨14, 13, .ro, .none, .fixed, 0, .pwm⟩,
    ⟨11, 0, .ro, .none, .fixed, 0, .pwm⟩]⟩

/-- LPM_POWER: spec/18_power_thermal.md. -/
def spec_LPM_POWER : RegSpec :=
  ⟨false, 15, 0x20, 0x0, 1, 0x0, 1, true, .always,
   [⟨63, 48, .ro, .none, .fixed, 0, .pwm⟩,
    ⟨47, 32, .ro, .none, .fixed, 0, .pwm⟩,
    ⟨31, 16, .ro, .none, .fixed, 0, .pwm⟩,
    ⟨15, 0, .ro, .none, .fixed, 0, .pwm⟩]⟩

/-- LPM_TEMP: spec/18_power_thermal.md. -/
def spec_LPM_TEMP : RegSpec :=
  ⟨false, 15, 0x28, 0x0, 1, 0x0, 1, true, .always,
   [⟨63, 48, .ro, .none, .hw, 0, .p⟩,
    ⟨47, 32, .ro, .none, .hw, 0, .p⟩,
    ⟨31, 16, .ro, .none, .hw, 0, .p⟩,
    ⟨15, 0, .ro, .none, .hw, 0, .p⟩]⟩

/-- LPM_FACT_R: spec/18_power_thermal.md. -/
def spec_LPM_FACT_R : RegSpec :=
  ⟨false, 15, 0x30, 0x0, 1, 0x0, 1, true, .always,
   [⟨63, 48, .ro, .none, .hw, 0, .p⟩,
    ⟨47, 32, .ro, .none, .hw, 0, .p⟩,
    ⟨31, 16, .ro, .none, .hw, 0, .p⟩,
    ⟨15, 0, .ro, .none, .hw, 0, .p⟩]⟩

/-- LPM_FACT_C: spec/18_power_thermal.md. -/
def spec_LPM_FACT_C : RegSpec :=
  ⟨false, 15, 0x38, 0x0, 1, 0x0, 1, true, .always,
   [⟨63, 48, .ro, .none, .hw, 0, .p⟩,
    ⟨47, 32, .ro, .none, .hw, 0, .p⟩,
    ⟨31, 16, .ro, .none, .hw, 0, .p⟩,
    ⟨15, 0, .ro, .none, .hw, 0, .p⟩]⟩

/-- LPM_ST: spec/18_power_thermal.md. -/
def spec_LPM_ST : RegSpec :=
  ⟨false, 15, 0x40, 0x0, 1, 0x0, 1, false, .always,
   [⟨2, 2, .ro, .none, .fixed, 0, .pwm⟩,
    ⟨1, 1, .ro, .none, .fixed, 0, .pwm⟩,
    ⟨0, 0, .ro, .none, .fixed, 0, .pwm⟩]⟩

/-- The register tables of the device, one constructor each. -/
inductive Reg where
  | PKG_ID
  | PKG_CAP
  | PKG_UNIT_ID_LO
  | PKG_UNIT_ID_HI
  | PKG_MOTIF_ST
  | PKG_MODE
  | PKG_MODE_AT
  | PKG_MODE_EV
  | PKG_WIND
  | PKG_RST
  | PKG_RST_CAUSE
  | PKG_WIND_TIME
  | PKG_ADMIT_USE
  | PKG_ADMIT_MIR
  | PKG_ADMIT_LIM
  | PKG_ADMIT_ST
  | PKG_ADMIT_CLS
  | PKG_DP_EVT
  | STC_CTL
  | STC_ST
  | STC_EVT
  | STC_NUM
  | STC_PH_LATCH
  | STC_NUM_OFS
  | STC_PTP_ADJ
  | STC_PTP_NUM
  | STC_CNT
  | STC_SLOT_C
  | STC_SLOT_T
  | STC_CMP_C
  | STC_CMP_T
  | PRK_ST
  | PRK_HDR
  | PRK_SERIAL
  | PRK_LEN
  | PRK_ROOT
  | PRK_PAIR
  | PRK_ACCEPT
  | PRK_PAIR_ST
  | PRK_LOCK_CNT
  | PWR_CTL
  | PWR_ST
  | PWR_EVT
  | PWR_HU_CFG
  | PWR_HU_ST
  | PWR_IMON_CFG
  | PWR_IMON_ST
  | PWR_REG
  | PWR_EMI
  | THM_CTL
  | THM_THRESH
  | THM_ST
  | THM_EVT
  | THM_ENF
  | THM_USER
  | THM_AMB
  | THM_PKG
  | THM_TIME
  | BRD_CTL
  | BRD_ST
  | BRD_EVT
  | BRD_PARTNER
  | BRD_LAT
  | BRD_CNT
  | BRD_RESYNC
  | BRD_NAMED
  | BRD_GRP
  | CLM_HANDOVER
  | CLM_EVT
  | CLM_STALE
  | CLM_CLAIM
  | CLM_GROUND
  | SMP_ST
  | SMP_CNT
  | SMP_LIFE
  | SMP_SNAP
  | SMP_SNAP_OFS
  | SMP_RD_OFS
  | SMP_RD_DATA
  | FWU_ST
  | FWU_RUN_VER
  | FWU_VERIFY
  | FWU_CMD
  | FWU_FLASH
  | FWU_MEM
  | FWU_COMMIT
  | FWU_EVT
  | MSR_ST
  | MSR_CNT
  | MSR_MR
  | RPL_VIEW_CMD
  | RPL_VIEW_LIST
  | RPL_VIEW_CUT
  | RPL_VIEW_Q
  | RPL_VIEW_ST
  | RPL_VIEW_CNT
  | RPL_WALK_CTL
  | RPL_WALK_ST
  | RPL_EVT
  | RPL_TGT_CTL
  | RPL_TGT_CONN
  | RPL_TGT_ST
  | RPL_TGT_LAG
  | MTF_ID
  | MTF_LINK_ST
  | MTF_FLUSH_CTL
  | MTF_FLUSH_ST
  | MTF_FP_ST
  | MTF_DP_CNT0
  | MTF_DP_CNT1
  | MTF_DP_ERR
  | MTF_DCMP_ST
  | MTF_DCMP_CNT
  | MTF_DCMP_ERR
  | MTF_CJQ_BASE
  | MTF_CJQ_CTL
  | MTF_CJQ_TAIL
  | MTF_CJQ_HEAD
  | MTF_KD_BASE
  | CPU_RELEASE
  | CPU_ST
  | CPU_EVT
  | CPU_RESET_PC
  | CPU_HCTL
  | CPU_HST
  | CPU_HPM_CNT
  | CPU_HPM_EVT
  | NET_CTL
  | NET_PFC_MAP
  | NET_SUB_ST
  | NET_GA_BASE
  | NET_FWRX_BASE
  | NET_FWTX_BASE
  | NET_FWQ_PTR
  | RDM_CTL
  | RDM_SPRAY
  | RDM_CC
  | RDM_CTX_BASE
  | RDM_CONN_DESC
  | RDM_CONN_CMD
  | RDM_CCH_ST
  | RDM_MISSQ_ST
  | RDM_CNT
  | RDM_CNT2
  | RDM_EVT
  | RDM_ERR
  | RDM_MR_BASE
  | RDM_MR_CMD
  | HQ_CTL
  | HQ_ST
  | HQ_EVT
  | HQ_FQ_BASE
  | HQ_FWC_BASE
  | HQ_FWC_BUF
  | HQ_FWC_PTR
  | HQ_HEALTH_FW
  | HQ_CNT
  | HQ_ERR
  | EP_CTL
  | EP_ST
  | EP_EVT
  | EP_CNT
  | EP_ERR
  | EP_ID
  | EP_PF1_RAISE
  | DIG_CTL
  | DIG_ST
  | DIG_CTX_ST
  | DIG_CNT
  | DIG_RES_ST
  | DIG_RES
  | DIG_JQ_BASE
  | DIG_JQ_CTL
  | DIG_JQ_TAIL
  | DIG_JQ_HEAD
  | CMP_CTL
  | CMP_ST
  | CMP_CNT_IN
  | CMP_CNT_OUT
  | CMP_CNT_KIND
  | CMP_CNT_STORED
  | CMP_ERR
  | CIP_CTL
  | CIP_ST
  | CIP_EVT
  | CIP_FENCE_LO
  | CIP_FENCE_HI
  | CIP_CNT
  | CIP_GEN_HWM
  | CIP_KEK
  | CIP_KEK_CTL
  | CIP_WRAP
  | CIP_SLOT_CMD
  | CIP_SLOT_ST
  | ECU_CTL
  | ECU_ST
  | ECU_EVT
  | ECU_CNT1
  | ECU_CNT2
  | ECU_RB_CTL
  | ECU_RB_ST
  | ECU_PAT_ST
  | ECU_PAT_START
  | ECU_MOD
  | MED_GC_CTL
  | MED_MEDIA_CTL
  | MED_STG_CTL
  | MED_CKPT_CTL
  | MED_ST
  | MED_EVT
  | MED_GC_CNT
  | MED_VAULT_ST
  | MED_HSEL
  | MED_HEALTH
  | MED_HERR
  | MED_HTEMP
  | BOB_CTL
  | BOB_TMO
  | BOB_EVT
  | BOB_ERR
  | BOB_CNT
  | BOB_PORT_ST
  | BOB_MOD_ST
  | DRM_CFG
  | DRM_ST
  | DRM_EVT
  | DRM_ERR
  | DRM_CNT
  | DRM_SCRUB_ST
  | CCH_CTL
  | CCH_ST
  | CCH_EVT
  | CCH_MAINT
  | CCH_MAINT_ADDR
  | CCH_CNT
  | ECC_CTL
  | ECC_ST
  | ECC_CNT
  | ECC_TV
  | ECC_FLIP_TARGET
  | ECC_FLIP_MASK
  | ECC_FLIP_ADDR
  | LPM_IMON_CFG
  | LPM_IMON_ST
  | LPM_POWER
  | LPM_TEMP
  | LPM_FACT_R
  | LPM_FACT_C
  | LPM_ST
  deriving DecidableEq, Repr

/-- The table of each register. -/
def Reg.spec : Reg → RegSpec
  | .PKG_ID => spec_PKG_ID
  | .PKG_CAP => spec_PKG_CAP
  | .PKG_UNIT_ID_LO => spec_PKG_UNIT_ID_LO
  | .PKG_UNIT_ID_HI => spec_PKG_UNIT_ID_HI
  | .PKG_MOTIF_ST => spec_PKG_MOTIF_ST
  | .PKG_MODE => spec_PKG_MODE
  | .PKG_MODE_AT => spec_PKG_MODE_AT
  | .PKG_MODE_EV => spec_PKG_MODE_EV
  | .PKG_WIND => spec_PKG_WIND
  | .PKG_RST => spec_PKG_RST
  | .PKG_RST_CAUSE => spec_PKG_RST_CAUSE
  | .PKG_WIND_TIME => spec_PKG_WIND_TIME
  | .PKG_ADMIT_USE => spec_PKG_ADMIT_USE
  | .PKG_ADMIT_MIR => spec_PKG_ADMIT_MIR
  | .PKG_ADMIT_LIM => spec_PKG_ADMIT_LIM
  | .PKG_ADMIT_ST => spec_PKG_ADMIT_ST
  | .PKG_ADMIT_CLS => spec_PKG_ADMIT_CLS
  | .PKG_DP_EVT => spec_PKG_DP_EVT
  | .STC_CTL => spec_STC_CTL
  | .STC_ST => spec_STC_ST
  | .STC_EVT => spec_STC_EVT
  | .STC_NUM => spec_STC_NUM
  | .STC_PH_LATCH => spec_STC_PH_LATCH
  | .STC_NUM_OFS => spec_STC_NUM_OFS
  | .STC_PTP_ADJ => spec_STC_PTP_ADJ
  | .STC_PTP_NUM => spec_STC_PTP_NUM
  | .STC_CNT => spec_STC_CNT
  | .STC_SLOT_C => spec_STC_SLOT_C
  | .STC_SLOT_T => spec_STC_SLOT_T
  | .STC_CMP_C => spec_STC_CMP_C
  | .STC_CMP_T => spec_STC_CMP_T
  | .PRK_ST => spec_PRK_ST
  | .PRK_HDR => spec_PRK_HDR
  | .PRK_SERIAL => spec_PRK_SERIAL
  | .PRK_LEN => spec_PRK_LEN
  | .PRK_ROOT => spec_PRK_ROOT
  | .PRK_PAIR => spec_PRK_PAIR
  | .PRK_ACCEPT => spec_PRK_ACCEPT
  | .PRK_PAIR_ST => spec_PRK_PAIR_ST
  | .PRK_LOCK_CNT => spec_PRK_LOCK_CNT
  | .PWR_CTL => spec_PWR_CTL
  | .PWR_ST => spec_PWR_ST
  | .PWR_EVT => spec_PWR_EVT
  | .PWR_HU_CFG => spec_PWR_HU_CFG
  | .PWR_HU_ST => spec_PWR_HU_ST
  | .PWR_IMON_CFG => spec_PWR_IMON_CFG
  | .PWR_IMON_ST => spec_PWR_IMON_ST
  | .PWR_REG => spec_PWR_REG
  | .PWR_EMI => spec_PWR_EMI
  | .THM_CTL => spec_THM_CTL
  | .THM_THRESH => spec_THM_THRESH
  | .THM_ST => spec_THM_ST
  | .THM_EVT => spec_THM_EVT
  | .THM_ENF => spec_THM_ENF
  | .THM_USER => spec_THM_USER
  | .THM_AMB => spec_THM_AMB
  | .THM_PKG => spec_THM_PKG
  | .THM_TIME => spec_THM_TIME
  | .BRD_CTL => spec_BRD_CTL
  | .BRD_ST => spec_BRD_ST
  | .BRD_EVT => spec_BRD_EVT
  | .BRD_PARTNER => spec_BRD_PARTNER
  | .BRD_LAT => spec_BRD_LAT
  | .BRD_CNT => spec_BRD_CNT
  | .BRD_RESYNC => spec_BRD_RESYNC
  | .BRD_NAMED => spec_BRD_NAMED
  | .BRD_GRP => spec_BRD_GRP
  | .CLM_HANDOVER => spec_CLM_HANDOVER
  | .CLM_EVT => spec_CLM_EVT
  | .CLM_STALE => spec_CLM_STALE
  | .CLM_CLAIM => spec_CLM_CLAIM
  | .CLM_GROUND => spec_CLM_GROUND
  | .SMP_ST => spec_SMP_ST
  | .SMP_CNT => spec_SMP_CNT
  | .SMP_LIFE => spec_SMP_LIFE
  | .SMP_SNAP => spec_SMP_SNAP
  | .SMP_SNAP_OFS => spec_SMP_SNAP_OFS
  | .SMP_RD_OFS => spec_SMP_RD_OFS
  | .SMP_RD_DATA => spec_SMP_RD_DATA
  | .FWU_ST => spec_FWU_ST
  | .FWU_RUN_VER => spec_FWU_RUN_VER
  | .FWU_VERIFY => spec_FWU_VERIFY
  | .FWU_CMD => spec_FWU_CMD
  | .FWU_FLASH => spec_FWU_FLASH
  | .FWU_MEM => spec_FWU_MEM
  | .FWU_COMMIT => spec_FWU_COMMIT
  | .FWU_EVT => spec_FWU_EVT
  | .MSR_ST => spec_MSR_ST
  | .MSR_CNT => spec_MSR_CNT
  | .MSR_MR => spec_MSR_MR
  | .RPL_VIEW_CMD => spec_RPL_VIEW_CMD
  | .RPL_VIEW_LIST => spec_RPL_VIEW_LIST
  | .RPL_VIEW_CUT => spec_RPL_VIEW_CUT
  | .RPL_VIEW_Q => spec_RPL_VIEW_Q
  | .RPL_VIEW_ST => spec_RPL_VIEW_ST
  | .RPL_VIEW_CNT => spec_RPL_VIEW_CNT
  | .RPL_WALK_CTL => spec_RPL_WALK_CTL
  | .RPL_WALK_ST => spec_RPL_WALK_ST
  | .RPL_EVT => spec_RPL_EVT
  | .RPL_TGT_CTL => spec_RPL_TGT_CTL
  | .RPL_TGT_CONN => spec_RPL_TGT_CONN
  | .RPL_TGT_ST => spec_RPL_TGT_ST
  | .RPL_TGT_LAG => spec_RPL_TGT_LAG
  | .MTF_ID => spec_MTF_ID
  | .MTF_LINK_ST => spec_MTF_LINK_ST
  | .MTF_FLUSH_CTL => spec_MTF_FLUSH_CTL
  | .MTF_FLUSH_ST => spec_MTF_FLUSH_ST
  | .MTF_FP_ST => spec_MTF_FP_ST
  | .MTF_DP_CNT0 => spec_MTF_DP_CNT0
  | .MTF_DP_CNT1 => spec_MTF_DP_CNT1
  | .MTF_DP_ERR => spec_MTF_DP_ERR
  | .MTF_DCMP_ST => spec_MTF_DCMP_ST
  | .MTF_DCMP_CNT => spec_MTF_DCMP_CNT
  | .MTF_DCMP_ERR => spec_MTF_DCMP_ERR
  | .MTF_CJQ_BASE => spec_MTF_CJQ_BASE
  | .MTF_CJQ_CTL => spec_MTF_CJQ_CTL
  | .MTF_CJQ_TAIL => spec_MTF_CJQ_TAIL
  | .MTF_CJQ_HEAD => spec_MTF_CJQ_HEAD
  | .MTF_KD_BASE => spec_MTF_KD_BASE
  | .CPU_RELEASE => spec_CPU_RELEASE
  | .CPU_ST => spec_CPU_ST
  | .CPU_EVT => spec_CPU_EVT
  | .CPU_RESET_PC => spec_CPU_RESET_PC
  | .CPU_HCTL => spec_CPU_HCTL
  | .CPU_HST => spec_CPU_HST
  | .CPU_HPM_CNT => spec_CPU_HPM_CNT
  | .CPU_HPM_EVT => spec_CPU_HPM_EVT
  | .NET_CTL => spec_NET_CTL
  | .NET_PFC_MAP => spec_NET_PFC_MAP
  | .NET_SUB_ST => spec_NET_SUB_ST
  | .NET_GA_BASE => spec_NET_GA_BASE
  | .NET_FWRX_BASE => spec_NET_FWRX_BASE
  | .NET_FWTX_BASE => spec_NET_FWTX_BASE
  | .NET_FWQ_PTR => spec_NET_FWQ_PTR
  | .RDM_CTL => spec_RDM_CTL
  | .RDM_SPRAY => spec_RDM_SPRAY
  | .RDM_CC => spec_RDM_CC
  | .RDM_CTX_BASE => spec_RDM_CTX_BASE
  | .RDM_CONN_DESC => spec_RDM_CONN_DESC
  | .RDM_CONN_CMD => spec_RDM_CONN_CMD
  | .RDM_CCH_ST => spec_RDM_CCH_ST
  | .RDM_MISSQ_ST => spec_RDM_MISSQ_ST
  | .RDM_CNT => spec_RDM_CNT
  | .RDM_CNT2 => spec_RDM_CNT2
  | .RDM_EVT => spec_RDM_EVT
  | .RDM_ERR => spec_RDM_ERR
  | .RDM_MR_BASE => spec_RDM_MR_BASE
  | .RDM_MR_CMD => spec_RDM_MR_CMD
  | .HQ_CTL => spec_HQ_CTL
  | .HQ_ST => spec_HQ_ST
  | .HQ_EVT => spec_HQ_EVT
  | .HQ_FQ_BASE => spec_HQ_FQ_BASE
  | .HQ_FWC_BASE => spec_HQ_FWC_BASE
  | .HQ_FWC_BUF => spec_HQ_FWC_BUF
  | .HQ_FWC_PTR => spec_HQ_FWC_PTR
  | .HQ_HEALTH_FW => spec_HQ_HEALTH_FW
  | .HQ_CNT => spec_HQ_CNT
  | .HQ_ERR => spec_HQ_ERR
  | .EP_CTL => spec_EP_CTL
  | .EP_ST => spec_EP_ST
  | .EP_EVT => spec_EP_EVT
  | .EP_CNT => spec_EP_CNT
  | .EP_ERR => spec_EP_ERR
  | .EP_ID => spec_EP_ID
  | .EP_PF1_RAISE => spec_EP_PF1_RAISE
  | .DIG_CTL => spec_DIG_CTL
  | .DIG_ST => spec_DIG_ST
  | .DIG_CTX_ST => spec_DIG_CTX_ST
  | .DIG_CNT => spec_DIG_CNT
  | .DIG_RES_ST => spec_DIG_RES_ST
  | .DIG_RES => spec_DIG_RES
  | .DIG_JQ_BASE => spec_DIG_JQ_BASE
  | .DIG_JQ_CTL => spec_DIG_JQ_CTL
  | .DIG_JQ_TAIL => spec_DIG_JQ_TAIL
  | .DIG_JQ_HEAD => spec_DIG_JQ_HEAD
  | .CMP_CTL => spec_CMP_CTL
  | .CMP_ST => spec_CMP_ST
  | .CMP_CNT_IN => spec_CMP_CNT_IN
  | .CMP_CNT_OUT => spec_CMP_CNT_OUT
  | .CMP_CNT_KIND => spec_CMP_CNT_KIND
  | .CMP_CNT_STORED => spec_CMP_CNT_STORED
  | .CMP_ERR => spec_CMP_ERR
  | .CIP_CTL => spec_CIP_CTL
  | .CIP_ST => spec_CIP_ST
  | .CIP_EVT => spec_CIP_EVT
  | .CIP_FENCE_LO => spec_CIP_FENCE_LO
  | .CIP_FENCE_HI => spec_CIP_FENCE_HI
  | .CIP_CNT => spec_CIP_CNT
  | .CIP_GEN_HWM => spec_CIP_GEN_HWM
  | .CIP_KEK => spec_CIP_KEK
  | .CIP_KEK_CTL => spec_CIP_KEK_CTL
  | .CIP_WRAP => spec_CIP_WRAP
  | .CIP_SLOT_CMD => spec_CIP_SLOT_CMD
  | .CIP_SLOT_ST => spec_CIP_SLOT_ST
  | .ECU_CTL => spec_ECU_CTL
  | .ECU_ST => spec_ECU_ST
  | .ECU_EVT => spec_ECU_EVT
  | .ECU_CNT1 => spec_ECU_CNT1
  | .ECU_CNT2 => spec_ECU_CNT2
  | .ECU_RB_CTL => spec_ECU_RB_CTL
  | .ECU_RB_ST => spec_ECU_RB_ST
  | .ECU_PAT_ST => spec_ECU_PAT_ST
  | .ECU_PAT_START => spec_ECU_PAT_START
  | .ECU_MOD => spec_ECU_MOD
  | .MED_GC_CTL => spec_MED_GC_CTL
  | .MED_MEDIA_CTL => spec_MED_MEDIA_CTL
  | .MED_STG_CTL => spec_MED_STG_CTL
  | .MED_CKPT_CTL => spec_MED_CKPT_CTL
  | .MED_ST => spec_MED_ST
  | .MED_EVT => spec_MED_EVT
  | .MED_GC_CNT => spec_MED_GC_CNT
  | .MED_VAULT_ST => spec_MED_VAULT_ST
  | .MED_HSEL => spec_MED_HSEL
  | .MED_HEALTH => spec_MED_HEALTH
  | .MED_HERR => spec_MED_HERR
  | .MED_HTEMP => spec_MED_HTEMP
  | .BOB_CTL => spec_BOB_CTL
  | .BOB_TMO => spec_BOB_TMO
  | .BOB_EVT => spec_BOB_EVT
  | .BOB_ERR => spec_BOB_ERR
  | .BOB_CNT => spec_BOB_CNT
  | .BOB_PORT_ST => spec_BOB_PORT_ST
  | .BOB_MOD_ST => spec_BOB_MOD_ST
  | .DRM_CFG => spec_DRM_CFG
  | .DRM_ST => spec_DRM_ST
  | .DRM_EVT => spec_DRM_EVT
  | .DRM_ERR => spec_DRM_ERR
  | .DRM_CNT => spec_DRM_CNT
  | .DRM_SCRUB_ST => spec_DRM_SCRUB_ST
  | .CCH_CTL => spec_CCH_CTL
  | .CCH_ST => spec_CCH_ST
  | .CCH_EVT => spec_CCH_EVT
  | .CCH_MAINT => spec_CCH_MAINT
  | .CCH_MAINT_ADDR => spec_CCH_MAINT_ADDR
  | .CCH_CNT => spec_CCH_CNT
  | .ECC_CTL => spec_ECC_CTL
  | .ECC_ST => spec_ECC_ST
  | .ECC_CNT => spec_ECC_CNT
  | .ECC_TV => spec_ECC_TV
  | .ECC_FLIP_TARGET => spec_ECC_FLIP_TARGET
  | .ECC_FLIP_MASK => spec_ECC_FLIP_MASK
  | .ECC_FLIP_ADDR => spec_ECC_FLIP_ADDR
  | .LPM_IMON_CFG => spec_LPM_IMON_CFG
  | .LPM_IMON_ST => spec_LPM_IMON_ST
  | .LPM_POWER => spec_LPM_POWER
  | .LPM_TEMP => spec_LPM_TEMP
  | .LPM_FACT_R => spec_LPM_FACT_R
  | .LPM_FACT_C => spec_LPM_FACT_C
  | .LPM_ST => spec_LPM_ST

/-- Registers, part 0. -/
def regList0 : List Reg :=
  [.PKG_ID, .PKG_CAP, .PKG_UNIT_ID_LO, .PKG_UNIT_ID_HI, .PKG_MOTIF_ST, .PKG_MODE, .PKG_MODE_AT, .PKG_MODE_EV, .PKG_WIND, .PKG_RST, .PKG_RST_CAUSE, .PKG_WIND_TIME, .PKG_ADMIT_USE, .PKG_ADMIT_MIR, .PKG_ADMIT_LIM, .PKG_ADMIT_ST, .PKG_ADMIT_CLS, .PKG_DP_EVT, .STC_CTL, .STC_ST, .STC_EVT, .STC_NUM, .STC_PH_LATCH, .STC_NUM_OFS, .STC_PTP_ADJ]

/-- Registers, part 1. -/
def regList1 : List Reg :=
  [.STC_PTP_NUM, .STC_CNT, .STC_SLOT_C, .STC_SLOT_T, .STC_CMP_C, .STC_CMP_T, .PRK_ST, .PRK_HDR, .PRK_SERIAL, .PRK_LEN, .PRK_ROOT, .PRK_PAIR, .PRK_ACCEPT, .PRK_PAIR_ST, .PRK_LOCK_CNT, .PWR_CTL, .PWR_ST, .PWR_EVT, .PWR_HU_CFG, .PWR_HU_ST, .PWR_IMON_CFG, .PWR_IMON_ST, .PWR_REG, .PWR_EMI, .THM_CTL]

/-- Registers, part 2. -/
def regList2 : List Reg :=
  [.THM_THRESH, .THM_ST, .THM_EVT, .THM_ENF, .THM_USER, .THM_AMB, .THM_PKG, .THM_TIME, .BRD_CTL, .BRD_ST, .BRD_EVT, .BRD_PARTNER, .BRD_LAT, .BRD_CNT, .BRD_RESYNC, .BRD_NAMED, .BRD_GRP, .CLM_HANDOVER, .CLM_EVT, .CLM_STALE, .CLM_CLAIM, .CLM_GROUND, .SMP_ST, .SMP_CNT, .SMP_LIFE]

/-- Registers, part 3. -/
def regList3 : List Reg :=
  [.SMP_SNAP, .SMP_SNAP_OFS, .SMP_RD_OFS, .SMP_RD_DATA, .FWU_ST, .FWU_RUN_VER, .FWU_VERIFY, .FWU_CMD, .FWU_FLASH, .FWU_MEM, .FWU_COMMIT, .FWU_EVT, .MSR_ST, .MSR_CNT, .MSR_MR, .RPL_VIEW_CMD, .RPL_VIEW_LIST, .RPL_VIEW_CUT, .RPL_VIEW_Q, .RPL_VIEW_ST, .RPL_VIEW_CNT, .RPL_WALK_CTL, .RPL_WALK_ST, .RPL_EVT, .RPL_TGT_CTL]

/-- Registers, part 4. -/
def regList4 : List Reg :=
  [.RPL_TGT_CONN, .RPL_TGT_ST, .RPL_TGT_LAG, .MTF_ID, .MTF_LINK_ST, .MTF_FLUSH_CTL, .MTF_FLUSH_ST, .MTF_FP_ST, .MTF_DP_CNT0, .MTF_DP_CNT1, .MTF_DP_ERR, .MTF_DCMP_ST, .MTF_DCMP_CNT, .MTF_DCMP_ERR, .MTF_CJQ_BASE, .MTF_CJQ_CTL, .MTF_CJQ_TAIL, .MTF_CJQ_HEAD, .MTF_KD_BASE, .CPU_RELEASE, .CPU_ST, .CPU_EVT, .CPU_RESET_PC, .CPU_HCTL, .CPU_HST]

/-- Registers, part 5. -/
def regList5 : List Reg :=
  [.CPU_HPM_CNT, .CPU_HPM_EVT, .NET_CTL, .NET_PFC_MAP, .NET_SUB_ST, .NET_GA_BASE, .NET_FWRX_BASE, .NET_FWTX_BASE, .NET_FWQ_PTR, .RDM_CTL, .RDM_SPRAY, .RDM_CC, .RDM_CTX_BASE, .RDM_CONN_DESC, .RDM_CONN_CMD, .RDM_CCH_ST, .RDM_MISSQ_ST, .RDM_CNT, .RDM_CNT2, .RDM_EVT, .RDM_ERR, .RDM_MR_BASE, .RDM_MR_CMD, .HQ_CTL, .HQ_ST]

/-- Registers, part 6. -/
def regList6 : List Reg :=
  [.HQ_EVT, .HQ_FQ_BASE, .HQ_FWC_BASE, .HQ_FWC_BUF, .HQ_FWC_PTR, .HQ_HEALTH_FW, .HQ_CNT, .HQ_ERR, .EP_CTL, .EP_ST, .EP_EVT, .EP_CNT, .EP_ERR, .EP_ID, .EP_PF1_RAISE, .DIG_CTL, .DIG_ST, .DIG_CTX_ST, .DIG_CNT, .DIG_RES_ST, .DIG_RES, .DIG_JQ_BASE, .DIG_JQ_CTL, .DIG_JQ_TAIL, .DIG_JQ_HEAD]

/-- Registers, part 7. -/
def regList7 : List Reg :=
  [.CMP_CTL, .CMP_ST, .CMP_CNT_IN, .CMP_CNT_OUT, .CMP_CNT_KIND, .CMP_CNT_STORED, .CMP_ERR, .CIP_CTL, .CIP_ST, .CIP_EVT, .CIP_FENCE_LO, .CIP_FENCE_HI, .CIP_CNT, .CIP_GEN_HWM, .CIP_KEK, .CIP_KEK_CTL, .CIP_WRAP, .CIP_SLOT_CMD, .CIP_SLOT_ST, .ECU_CTL, .ECU_ST, .ECU_EVT, .ECU_CNT1, .ECU_CNT2, .ECU_RB_CTL]

/-- Registers, part 8. -/
def regList8 : List Reg :=
  [.ECU_RB_ST, .ECU_PAT_ST, .ECU_PAT_START, .ECU_MOD, .MED_GC_CTL, .MED_MEDIA_CTL, .MED_STG_CTL, .MED_CKPT_CTL, .MED_ST, .MED_EVT, .MED_GC_CNT, .MED_VAULT_ST, .MED_HSEL, .MED_HEALTH, .MED_HERR, .MED_HTEMP, .BOB_CTL, .BOB_TMO, .BOB_EVT, .BOB_ERR, .BOB_CNT, .BOB_PORT_ST, .BOB_MOD_ST, .DRM_CFG, .DRM_ST]

/-- Registers, part 9. -/
def regList9 : List Reg :=
  [.DRM_EVT, .DRM_ERR, .DRM_CNT, .DRM_SCRUB_ST, .CCH_CTL, .CCH_ST, .CCH_EVT, .CCH_MAINT, .CCH_MAINT_ADDR, .CCH_CNT, .ECC_CTL, .ECC_ST, .ECC_CNT, .ECC_TV, .ECC_FLIP_TARGET, .ECC_FLIP_MASK, .ECC_FLIP_ADDR, .LPM_IMON_CFG, .LPM_IMON_ST, .LPM_POWER, .LPM_TEMP, .LPM_FACT_R, .LPM_FACT_C, .LPM_ST]

/-- Every register of the register map, in address order within its window. -/
def Reg.all : List Reg :=
  regList0 ++ regList1 ++ regList2 ++ regList3 ++ regList4 ++ regList5 ++ regList6 ++ regList7 ++ regList8 ++ regList9

namespace F

/-- PKG_ID.HW_TYPE. -/
abbrev PKG_ID_HW_TYPE : Fld Reg := ⟨.PKG_ID, 63, 32⟩
/-- PKG_ID.STEP_MAJ. -/
abbrev PKG_ID_STEP_MAJ : Fld Reg := ⟨.PKG_ID, 15, 12⟩
/-- PKG_ID.STEP_MIN. -/
abbrev PKG_ID_STEP_MIN : Fld Reg := ⟨.PKG_ID, 11, 8⟩
/-- PKG_ID.HEAD_ID. -/
abbrev PKG_ID_HEAD_ID : Fld Reg := ⟨.PKG_ID, 0, 0⟩
/-- PKG_CAP.MOTIF_MASK. -/
abbrev PKG_CAP_MOTIF_MASK : Fld Reg := ⟨.PKG_CAP, 39, 32⟩
/-- PKG_CAP.MOTIFS. -/
abbrev PKG_CAP_MOTIFS : Fld Reg := ⟨.PKG_CAP, 31, 28⟩
/-- PKG_CAP.MAX_K. -/
abbrev PKG_CAP_MAX_K : Fld Reg := ⟨.PKG_CAP, 23, 16⟩
/-- PKG_CAP.MAX_M. -/
abbrev PKG_CAP_MAX_M : Fld Reg := ⟨.PKG_CAP, 15, 12⟩
/-- PKG_CAP.OPT_X. -/
abbrev PKG_CAP_OPT_X : Fld Reg := ⟨.PKG_CAP, 3, 3⟩
/-- PKG_CAP.OPT_W. -/
abbrev PKG_CAP_OPT_W : Fld Reg := ⟨.PKG_CAP, 2, 2⟩
/-- PKG_CAP.OPT_E. -/
abbrev PKG_CAP_OPT_E : Fld Reg := ⟨.PKG_CAP, 1, 1⟩
/-- PKG_CAP.OPT_C. -/
abbrev PKG_CAP_OPT_C : Fld Reg := ⟨.PKG_CAP, 0, 0⟩
/-- PKG_UNIT_ID_LO.UNIT_ID_LO. -/
abbrev PKG_UNIT_ID_LO_UNIT_ID_LO : Fld Reg := ⟨.PKG_UNIT_ID_LO, 63, 0⟩
/-- PKG_UNIT_ID_HI.UNIT_ID_HI. -/
abbrev PKG_UNIT_ID_HI_UNIT_ID_HI : Fld Reg := ⟨.PKG_UNIT_ID_HI, 63, 0⟩
/-- PKG_MOTIF_ST.LINKS_UP0. -/
abbrev PKG_MOTIF_ST_LINKS_UP0 : Fld Reg := ⟨.PKG_MOTIF_ST, 2, 2⟩
/-- PKG_MOTIF_ST.UP0. -/
abbrev PKG_MOTIF_ST_UP0 : Fld Reg := ⟨.PKG_MOTIF_ST, 1, 1⟩
/-- PKG_MOTIF_ST.PRESENT0. -/
abbrev PKG_MOTIF_ST_PRESENT0 : Fld Reg := ⟨.PKG_MOTIF_ST, 0, 0⟩
/-- PKG_MOTIF_ST.LINKS_UP1. -/
abbrev PKG_MOTIF_ST_LINKS_UP1 : Fld Reg := ⟨.PKG_MOTIF_ST, 10, 10⟩
/-- PKG_MOTIF_ST.UP1. -/
abbrev PKG_MOTIF_ST_UP1 : Fld Reg := ⟨.PKG_MOTIF_ST, 9, 9⟩
/-- PKG_MOTIF_ST.PRESENT1. -/
abbrev PKG_MOTIF_ST_PRESENT1 : Fld Reg := ⟨.PKG_MOTIF_ST, 8, 8⟩
/-- PKG_MOTIF_ST.LINKS_UP2. -/
abbrev PKG_MOTIF_ST_LINKS_UP2 : Fld Reg := ⟨.PKG_MOTIF_ST, 18, 18⟩
/-- PKG_MOTIF_ST.UP2. -/
abbrev PKG_MOTIF_ST_UP2 : Fld Reg := ⟨.PKG_MOTIF_ST, 17, 17⟩
/-- PKG_MOTIF_ST.PRESENT2. -/
abbrev PKG_MOTIF_ST_PRESENT2 : Fld Reg := ⟨.PKG_MOTIF_ST, 16, 16⟩
/-- PKG_MOTIF_ST.LINKS_UP3. -/
abbrev PKG_MOTIF_ST_LINKS_UP3 : Fld Reg := ⟨.PKG_MOTIF_ST, 26, 26⟩
/-- PKG_MOTIF_ST.UP3. -/
abbrev PKG_MOTIF_ST_UP3 : Fld Reg := ⟨.PKG_MOTIF_ST, 25, 25⟩
/-- PKG_MOTIF_ST.PRESENT3. -/
abbrev PKG_MOTIF_ST_PRESENT3 : Fld Reg := ⟨.PKG_MOTIF_ST, 24, 24⟩
/-- PKG_MOTIF_ST.LINKS_UP4. -/
abbrev PKG_MOTIF_ST_LINKS_UP4 : Fld Reg := ⟨.PKG_MOTIF_ST, 34, 34⟩
/-- PKG_MOTIF_ST.UP4. -/
abbrev PKG_MOTIF_ST_UP4 : Fld Reg := ⟨.PKG_MOTIF_ST, 33, 33⟩
/-- PKG_MOTIF_ST.PRESENT4. -/
abbrev PKG_MOTIF_ST_PRESENT4 : Fld Reg := ⟨.PKG_MOTIF_ST, 32, 32⟩
/-- PKG_MOTIF_ST.LINKS_UP5. -/
abbrev PKG_MOTIF_ST_LINKS_UP5 : Fld Reg := ⟨.PKG_MOTIF_ST, 42, 42⟩
/-- PKG_MOTIF_ST.UP5. -/
abbrev PKG_MOTIF_ST_UP5 : Fld Reg := ⟨.PKG_MOTIF_ST, 41, 41⟩
/-- PKG_MOTIF_ST.PRESENT5. -/
abbrev PKG_MOTIF_ST_PRESENT5 : Fld Reg := ⟨.PKG_MOTIF_ST, 40, 40⟩
/-- PKG_MOTIF_ST.LINKS_UP6. -/
abbrev PKG_MOTIF_ST_LINKS_UP6 : Fld Reg := ⟨.PKG_MOTIF_ST, 50, 50⟩
/-- PKG_MOTIF_ST.UP6. -/
abbrev PKG_MOTIF_ST_UP6 : Fld Reg := ⟨.PKG_MOTIF_ST, 49, 49⟩
/-- PKG_MOTIF_ST.PRESENT6. -/
abbrev PKG_MOTIF_ST_PRESENT6 : Fld Reg := ⟨.PKG_MOTIF_ST, 48, 48⟩
/-- PKG_MOTIF_ST.LINKS_UP7. -/
abbrev PKG_MOTIF_ST_LINKS_UP7 : Fld Reg := ⟨.PKG_MOTIF_ST, 58, 58⟩
/-- PKG_MOTIF_ST.UP7. -/
abbrev PKG_MOTIF_ST_UP7 : Fld Reg := ⟨.PKG_MOTIF_ST, 57, 57⟩
/-- PKG_MOTIF_ST.PRESENT7. -/
abbrev PKG_MOTIF_ST_PRESENT7 : Fld Reg := ⟨.PKG_MOTIF_ST, 56, 56⟩
/-- PKG_MODE.PARTNER_MODE. -/
abbrev PKG_MODE_PARTNER_MODE : Fld Reg := ⟨.PKG_MODE, 23, 20⟩
/-- PKG_MODE.ADMIT. -/
abbrev PKG_MODE_ADMIT : Fld Reg := ⟨.PKG_MODE, 17, 17⟩
/-- PKG_MODE.STAGING. -/
abbrev PKG_MODE_STAGING : Fld Reg := ⟨.PKG_MODE, 16, 16⟩
/-- PKG_MODE.SOLO_CAUSE. -/
abbrev PKG_MODE_SOLO_CAUSE : Fld Reg := ⟨.PKG_MODE, 14, 12⟩
/-- PKG_MODE.WIND_KIND. -/
abbrev PKG_MODE_WIND_KIND : Fld Reg := ⟨.PKG_MODE, 9, 8⟩
/-- PKG_MODE.PREV. -/
abbrev PKG_MODE_PREV : Fld Reg := ⟨.PKG_MODE, 6, 4⟩
/-- PKG_MODE.MODE. -/
abbrev PKG_MODE_MODE : Fld Reg := ⟨.PKG_MODE, 2, 0⟩
/-- PKG_MODE_AT.STITCH. -/
abbrev PKG_MODE_AT_STITCH : Fld Reg := ⟨.PKG_MODE_AT, 63, 0⟩
/-- PKG_MODE_EV.PARTNER_CHANGE. -/
abbrev PKG_MODE_EV_PARTNER_CHANGE : Fld Reg := ⟨.PKG_MODE_EV, 8, 8⟩
/-- PKG_MODE_EV.RETHREAD_CANCEL. -/
abbrev PKG_MODE_EV_RETHREAD_CANCEL : Fld Reg := ⟨.PKG_MODE_EV, 7, 7⟩
/-- PKG_MODE_EV.TAKEOVER. -/
abbrev PKG_MODE_EV_TAKEOVER : Fld Reg := ⟨.PKG_MODE_EV, 6, 6⟩
/-- PKG_MODE_EV.HANDBACK. -/
abbrev PKG_MODE_EV_HANDBACK : Fld Reg := ⟨.PKG_MODE_EV, 5, 5⟩
/-- PKG_MODE_EV.VAULT. -/
abbrev PKG_MODE_EV_VAULT : Fld Reg := ⟨.PKG_MODE_EV, 4, 4⟩
/-- PKG_MODE_EV.RETHREAD. -/
abbrev PKG_MODE_EV_RETHREAD : Fld Reg := ⟨.PKG_MODE_EV, 3, 3⟩
/-- PKG_MODE_EV.SOLO. -/
abbrev PKG_MODE_EV_SOLO : Fld Reg := ⟨.PKG_MODE_EV, 2, 2⟩
/-- PKG_MODE_EV.PAIRED. -/
abbrev PKG_MODE_EV_PAIRED : Fld Reg := ⟨.PKG_MODE_EV, 1, 1⟩
/-- PKG_MODE_EV.WIND_STOP. -/
abbrev PKG_MODE_EV_WIND_STOP : Fld Reg := ⟨.PKG_MODE_EV, 0, 0⟩
/-- PKG_WIND.ELAPSED. -/
abbrev PKG_WIND_ELAPSED : Fld Reg := ⟨.PKG_WIND, 63, 32⟩
/-- PKG_WIND.CODE. -/
abbrev PKG_WIND_CODE : Fld Reg := ⟨.PKG_WIND, 31, 16⟩
/-- PKG_WIND.STOPPED. -/
abbrev PKG_WIND_STOPPED : Fld Reg := ⟨.PKG_WIND, 8, 8⟩
/-- PKG_WIND.STEP. -/
abbrev PKG_WIND_STEP : Fld Reg := ⟨.PKG_WIND, 4, 0⟩
/-- PKG_RST.KEY. -/
abbrev PKG_RST_KEY : Fld Reg := ⟨.PKG_RST, 31, 24⟩
/-- PKG_RST.MOTIF. -/
abbrev PKG_RST_MOTIF : Fld Reg := ⟨.PKG_RST, 10, 8⟩
/-- PKG_RST.MOTIF_RST. -/
abbrev PKG_RST_MOTIF_RST : Fld Reg := ⟨.PKG_RST, 1, 1⟩
/-- PKG_RST.WARM. -/
abbrev PKG_RST_WARM : Fld Reg := ⟨.PKG_RST, 0, 0⟩
/-- PKG_RST_CAUSE.TIED_CAUSE. -/
abbrev PKG_RST_CAUSE_TIED_CAUSE : Fld Reg := ⟨.PKG_RST_CAUSE, 63, 48⟩
/-- PKG_RST_CAUSE.WARM_COUNT. -/
abbrev PKG_RST_CAUSE_WARM_COUNT : Fld Reg := ⟨.PKG_RST_CAUSE, 31, 16⟩
/-- PKG_RST_CAUSE.LAST. -/
abbrev PKG_RST_CAUSE_LAST : Fld Reg := ⟨.PKG_RST_CAUSE, 3, 0⟩
/-- PKG_WIND_TIME.TIME_US. -/
abbrev PKG_WIND_TIME_TIME_US : Fld Reg := ⟨.PKG_WIND_TIME, 31, 0⟩
/-- PKG_ADMIT_USE.DIRTY_MIB. -/
abbrev PKG_ADMIT_USE_DIRTY_MIB : Fld Reg := ⟨.PKG_ADMIT_USE, 63, 32⟩
/-- PKG_ADMIT_USE.UNACK_MIB. -/
abbrev PKG_ADMIT_USE_UNACK_MIB : Fld Reg := ⟨.PKG_ADMIT_USE, 31, 0⟩
/-- PKG_ADMIT_MIR.HELD_MIB. -/
abbrev PKG_ADMIT_MIR_HELD_MIB : Fld Reg := ⟨.PKG_ADMIT_MIR, 63, 32⟩
/-- PKG_ADMIT_MIR.PARTNER_LIMIT_MIB. -/
abbrev PKG_ADMIT_MIR_PARTNER_LIMIT_MIB : Fld Reg := ⟨.PKG_ADMIT_MIR, 31, 0⟩
/-- PKG_ADMIT_LIM.BUDGET_MIB. -/
abbrev PKG_ADMIT_LIM_BUDGET_MIB : Fld Reg := ⟨.PKG_ADMIT_LIM, 63, 32⟩
/-- PKG_ADMIT_LIM.OWN_LIMIT_MIB. -/
abbrev PKG_ADMIT_LIM_OWN_LIMIT_MIB : Fld Reg := ⟨.PKG_ADMIT_LIM, 31, 0⟩
/-- PKG_ADMIT_ST.MIRROR_HOLD. -/
abbrev PKG_ADMIT_ST_MIRROR_HOLD : Fld Reg := ⟨.PKG_ADMIT_ST, 2, 2⟩
/-- PKG_ADMIT_ST.WINDOW_HOLD. -/
abbrev PKG_ADMIT_ST_WINDOW_HOLD : Fld Reg := ⟨.PKG_ADMIT_ST, 1, 1⟩
/-- PKG_ADMIT_ST.BUDGET_HOLD. -/
abbrev PKG_ADMIT_ST_BUDGET_HOLD : Fld Reg := ⟨.PKG_ADMIT_ST, 0, 0⟩
/-- PKG_ADMIT_CLS.USED_MIB. -/
abbrev PKG_ADMIT_CLS_USED_MIB : Fld Reg := ⟨.PKG_ADMIT_CLS, 63, 32⟩
/-- PKG_ADMIT_CLS.RESV_MIB. -/
abbrev PKG_ADMIT_CLS_RESV_MIB : Fld Reg := ⟨.PKG_ADMIT_CLS, 31, 0⟩
/-- PKG_DP_EVT.INTEGRITY. -/
abbrev PKG_DP_EVT_INTEGRITY : Fld Reg := ⟨.PKG_DP_EVT, 3, 3⟩
/-- PKG_DP_EVT.MIRROR_HOLD. -/
abbrev PKG_DP_EVT_MIRROR_HOLD : Fld Reg := ⟨.PKG_DP_EVT, 2, 2⟩
/-- PKG_DP_EVT.WINDOW_HOLD. -/
abbrev PKG_DP_EVT_WINDOW_HOLD : Fld Reg := ⟨.PKG_DP_EVT, 1, 1⟩
/-- PKG_DP_EVT.BUDGET_HOLD. -/
abbrev PKG_DP_EVT_BUDGET_HOLD : Fld Reg := ⟨.PKG_DP_EVT, 0, 0⟩
/-- STC_CTL.PTP_VALID. -/
abbrev STC_CTL_PTP_VALID : Fld Reg := ⟨.STC_CTL, 11, 11⟩
/-- STC_CTL.PTP_PORT. -/
abbrev STC_CTL_PTP_PORT : Fld Reg := ⟨.STC_CTL, 10, 8⟩
/-- STC_CTL.PTP_MOTIF. -/
abbrev STC_CTL_PTP_MOTIF : Fld Reg := ⟨.STC_CTL, 7, 5⟩
/-- STC_CTL.RETRY. -/
abbrev STC_CTL_RETRY : Fld Reg := ⟨.STC_CTL, 4, 4⟩
/-- STC_CTL.SRC. -/
abbrev STC_CTL_SRC : Fld Reg := ⟨.STC_CTL, 0, 0⟩
/-- STC_ST.PAIR_SKEW. -/
abbrev STC_ST_PAIR_SKEW : Fld Reg := ⟨.STC_ST, 47, 32⟩
/-- STC_ST.PH_ERR. -/
abbrev STC_ST_PH_ERR : Fld Reg := ⟨.STC_ST, 31, 16⟩
/-- STC_ST.MISMATCH_HOLD. -/
abbrev STC_ST_MISMATCH_HOLD : Fld Reg := ⟨.STC_ST, 8, 8⟩
/-- STC_ST.PICOT_OK. -/
abbrev STC_ST_PICOT_OK : Fld Reg := ⟨.STC_ST, 7, 7⟩
/-- STC_ST.PAIR_OK. -/
abbrev STC_ST_PAIR_OK : Fld Reg := ⟨.STC_ST, 6, 6⟩
/-- STC_ST.SRC_VALID. -/
abbrev STC_ST_SRC_VALID : Fld Reg := ⟨.STC_ST, 5, 5⟩
/-- STC_ST.STATE. -/
abbrev STC_ST_STATE : Fld Reg := ⟨.STC_ST, 2, 0⟩
/-- STC_EVT.CMP_LATE. -/
abbrev STC_EVT_CMP_LATE : Fld Reg := ⟨.STC_EVT, 8, 8⟩
/-- STC_EVT.SLOT_OVR. -/
abbrev STC_EVT_SLOT_OVR : Fld Reg := ⟨.STC_EVT, 7, 7⟩
/-- STC_EVT.PAIR_MISMATCH. -/
abbrev STC_EVT_PAIR_MISMATCH : Fld Reg := ⟨.STC_EVT, 6, 6⟩
/-- STC_EVT.FRAME_ERR. -/
abbrev STC_EVT_FRAME_ERR : Fld Reg := ⟨.STC_EVT, 5, 5⟩
/-- STC_EVT.EDGE_ERR. -/
abbrev STC_EVT_EDGE_ERR : Fld Reg := ⟨.STC_EVT, 4, 4⟩
/-- STC_EVT.BRIDE. -/
abbrev STC_EVT_BRIDE : Fld Reg := ⟨.STC_EVT, 3, 3⟩
/-- STC_EVT.HOLD_EXPIRED. -/
abbrev STC_EVT_HOLD_EXPIRED : Fld Reg := ⟨.STC_EVT, 2, 2⟩
/-- STC_EVT.RELOCK. -/
abbrev STC_EVT_RELOCK : Fld Reg := ⟨.STC_EVT, 1, 1⟩
/-- STC_EVT.LOST. -/
abbrev STC_EVT_LOST : Fld Reg := ⟨.STC_EVT, 0, 0⟩
/-- STC_NUM.NUM. -/
abbrev STC_NUM_NUM : Fld Reg := ⟨.STC_NUM, 63, 0⟩
/-- STC_PH_LATCH.PHASE. -/
abbrev STC_PH_LATCH_PHASE : Fld Reg := ⟨.STC_PH_LATCH, 9, 0⟩
/-- STC_NUM_OFS.OFS. -/
abbrev STC_NUM_OFS_OFS : Fld Reg := ⟨.STC_NUM_OFS, 63, 0⟩
/-- STC_PTP_ADJ.FREQ. -/
abbrev STC_PTP_ADJ_FREQ : Fld Reg := ⟨.STC_PTP_ADJ, 63, 32⟩
/-- STC_PTP_ADJ.PH_OFS. -/
abbrev STC_PTP_ADJ_PH_OFS : Fld Reg := ⟨.STC_PTP_ADJ, 31, 0⟩
/-- STC_PTP_NUM.NUM. -/
abbrev STC_PTP_NUM_NUM : Fld Reg := ⟨.STC_PTP_NUM, 63, 0⟩
/-- STC_CNT.LATE_REC. -/
abbrev STC_CNT_LATE_REC : Fld Reg := ⟨.STC_CNT, 63, 48⟩
/-- STC_CNT.SLOT_OVR. -/
abbrev STC_CNT_SLOT_OVR : Fld Reg := ⟨.STC_CNT, 47, 32⟩
/-- STC_CNT.FRAME_ERR. -/
abbrev STC_CNT_FRAME_ERR : Fld Reg := ⟨.STC_CNT, 31, 16⟩
/-- STC_CNT.EDGE_ERR. -/
abbrev STC_CNT_EDGE_ERR : Fld Reg := ⟨.STC_CNT, 15, 0⟩
/-- STC_SLOT_C.ARG. -/
abbrev STC_SLOT_C_ARG : Fld Reg := ⟨.STC_SLOT_C, 63, 32⟩
/-- STC_SLOT_C.ACTION. -/
abbrev STC_SLOT_C_ACTION : Fld Reg := ⟨.STC_SLOT_C, 31, 24⟩
/-- STC_SLOT_C.EN. -/
abbrev STC_SLOT_C_EN : Fld Reg := ⟨.STC_SLOT_C, 15, 15⟩
/-- STC_SLOT_C.PHASE. -/
abbrev STC_SLOT_C_PHASE : Fld Reg := ⟨.STC_SLOT_C, 9, 0⟩
/-- STC_SLOT_T.PERIOD. -/
abbrev STC_SLOT_T_PERIOD : Fld Reg := ⟨.STC_SLOT_T, 63, 32⟩
/-- STC_SLOT_T.OFFSET. -/
abbrev STC_SLOT_T_OFFSET : Fld Reg := ⟨.STC_SLOT_T, 31, 0⟩
/-- STC_CMP_C.PERIOD. -/
abbrev STC_CMP_C_PERIOD : Fld Reg := ⟨.STC_CMP_C, 63, 32⟩
/-- STC_CMP_C.EN. -/
abbrev STC_CMP_C_EN : Fld Reg := ⟨.STC_CMP_C, 31, 31⟩
/-- STC_CMP_C.HART. -/
abbrev STC_CMP_C_HART : Fld Reg := ⟨.STC_CMP_C, 23, 20⟩
/-- STC_CMP_C.MOTIF. -/
abbrev STC_CMP_C_MOTIF : Fld Reg := ⟨.STC_CMP_C, 18, 16⟩
/-- STC_CMP_C.PHASE. -/
abbrev STC_CMP_C_PHASE : Fld Reg := ⟨.STC_CMP_C, 9, 0⟩
/-- STC_CMP_T.TARGET. -/
abbrev STC_CMP_T_TARGET : Fld Reg := ⟨.STC_CMP_T, 63, 0⟩
/-- PRK_ST.FAIL_OFS. -/
abbrev PRK_ST_FAIL_OFS : Fld Reg := ⟨.PRK_ST, 63, 32⟩
/-- PRK_ST.CODE. -/
abbrev PRK_ST_CODE : Fld Reg := ⟨.PRK_ST, 31, 16⟩
/-- PRK_ST.FALLBACK. -/
abbrev PRK_ST_FALLBACK : Fld Reg := ⟨.PRK_ST, 9, 9⟩
/-- PRK_ST.SLOT. -/
abbrev PRK_ST_SLOT : Fld Reg := ⟨.PRK_ST, 8, 8⟩
/-- PRK_ST.STATE. -/
abbrev PRK_ST_STATE : Fld Reg := ⟨.PRK_ST, 2, 0⟩
/-- PRK_HDR.FORMAT. -/
abbrev PRK_HDR_FORMAT : Fld Reg := ⟨.PRK_HDR, 63, 48⟩
/-- PRK_HDR.ROLES. -/
abbrev PRK_HDR_ROLES : Fld Reg := ⟨.PRK_HDR, 47, 32⟩
/-- PRK_HDR.SECTIONS. -/
abbrev PRK_HDR_SECTIONS : Fld Reg := ⟨.PRK_HDR, 31, 24⟩
/-- PRK_HDR.KEY_SEL. -/
abbrev PRK_HDR_KEY_SEL : Fld Reg := ⟨.PRK_HDR, 23, 16⟩
/-- PRK_HDR.OPT_REQ. -/
abbrev PRK_HDR_OPT_REQ : Fld Reg := ⟨.PRK_HDR, 15, 8⟩
/-- PRK_HDR.MOTIFS. -/
abbrev PRK_HDR_MOTIFS : Fld Reg := ⟨.PRK_HDR, 7, 0⟩
/-- PRK_SERIAL.SERIAL. -/
abbrev PRK_SERIAL_SERIAL : Fld Reg := ⟨.PRK_SERIAL, 63, 0⟩
/-- PRK_LEN.TOTAL_LEN. -/
abbrev PRK_LEN_TOTAL_LEN : Fld Reg := ⟨.PRK_LEN, 31, 0⟩
/-- PRK_ROOT.HASH. -/
abbrev PRK_ROOT_HASH : Fld Reg := ⟨.PRK_ROOT, 63, 0⟩
/-- PRK_PAIR.HASH. -/
abbrev PRK_PAIR_HASH : Fld Reg := ⟨.PRK_PAIR, 63, 0⟩
/-- PRK_ACCEPT.HASH. -/
abbrev PRK_ACCEPT_HASH : Fld Reg := ⟨.PRK_ACCEPT, 63, 0⟩
/-- PRK_PAIR_ST.PRIOR_ACTIVE. -/
abbrev PRK_PAIR_ST_PRIOR_ACTIVE : Fld Reg := ⟨.PRK_PAIR_ST, 7, 7⟩
/-- PRK_PAIR_ST.REL. -/
abbrev PRK_PAIR_ST_REL : Fld Reg := ⟨.PRK_PAIR_ST, 2, 0⟩
/-- PRK_LOCK_CNT.COUNT. -/
abbrev PRK_LOCK_CNT_COUNT : Fld Reg := ⟨.PRK_LOCK_CNT, 63, 32⟩
/-- PRK_LOCK_CNT.WINDOW. -/
abbrev PRK_LOCK_CNT_WINDOW : Fld Reg := ⟨.PRK_LOCK_CNT, 27, 24⟩
/-- PRK_LOCK_CNT.BLOCK. -/
abbrev PRK_LOCK_CNT_BLOCK : Fld Reg := ⟨.PRK_LOCK_CNT, 23, 20⟩
/-- PRK_LOCK_CNT.OFFSET. -/
abbrev PRK_LOCK_CNT_OFFSET : Fld Reg := ⟨.PRK_LOCK_CNT, 19, 0⟩
/-- PWR_CTL.REG_POLL. -/
abbrev PWR_CTL_REG_POLL : Fld Reg := ⟨.PWR_CTL, 31, 16⟩
/-- PWR_CTL.ALERT_EN. -/
abbrev PWR_CTL_ALERT_EN : Fld Reg := ⟨.PWR_CTL, 1, 1⟩
/-- PWR_CTL.AVS_EN. -/
abbrev PWR_CTL_AVS_EN : Fld Reg := ⟨.PWR_CTL, 0, 0⟩
/-- PWR_ST.TOTAL_W10. -/
abbrev PWR_ST_TOTAL_W10 : Fld Reg := ⟨.PWR_ST, 47, 32⟩
/-- PWR_ST.FAULT_REG. -/
abbrev PWR_ST_FAULT_REG : Fld Reg := ⟨.PWR_ST, 31, 24⟩
/-- PWR_ST.HU_TELEM_OK. -/
abbrev PWR_ST_HU_TELEM_OK : Fld Reg := ⟨.PWR_ST, 1, 1⟩
/-- PWR_ST.HU_GOOD. -/
abbrev PWR_ST_HU_GOOD : Fld Reg := ⟨.PWR_ST, 0, 0⟩
/-- PWR_EVT.REG_WARN. -/
abbrev PWR_EVT_REG_WARN : Fld Reg := ⟨.PWR_EVT, 4, 4⟩
/-- PWR_EVT.IMON_FAULT. -/
abbrev PWR_EVT_IMON_FAULT : Fld Reg := ⟨.PWR_EVT, 3, 3⟩
/-- PWR_EVT.HU_TELEM_FAIL. -/
abbrev PWR_EVT_HU_TELEM_FAIL : Fld Reg := ⟨.PWR_EVT, 2, 2⟩
/-- PWR_EVT.BUDGET_ZERO. -/
abbrev PWR_EVT_BUDGET_ZERO : Fld Reg := ⟨.PWR_EVT, 1, 1⟩
/-- PWR_EVT.HU_LOSS. -/
abbrev PWR_EVT_HU_LOSS : Fld Reg := ⟨.PWR_EVT, 0, 0⟩
/-- PWR_HU_CFG.DUMP_W. -/
abbrev PWR_HU_CFG_DUMP_W : Fld Reg := ⟨.PWR_HU_CFG, 63, 48⟩
/-- PWR_HU_CFG.RATE_MBS. -/
abbrev PWR_HU_CFG_RATE_MBS : Fld Reg := ⟨.PWR_HU_CFG, 47, 32⟩
/-- PWR_HU_CFG.T_FIX_MS. -/
abbrev PWR_HU_CFG_T_FIX_MS : Fld Reg := ⟨.PWR_HU_CFG, 31, 24⟩
/-- PWR_HU_CFG.CMD. -/
abbrev PWR_HU_CFG_CMD : Fld Reg := ⟨.PWR_HU_CFG, 23, 16⟩
/-- PWR_HU_CFG.ADDR. -/
abbrev PWR_HU_CFG_ADDR : Fld Reg := ⟨.PWR_HU_CFG, 7, 1⟩
/-- PWR_HU_ST.ENERGY_J. -/
abbrev PWR_HU_ST_ENERGY_J : Fld Reg := ⟨.PWR_HU_ST, 63, 32⟩
/-- PWR_HU_ST.AGE. -/
abbrev PWR_HU_ST_AGE : Fld Reg := ⟨.PWR_HU_ST, 31, 16⟩
/-- PWR_HU_ST.FAILS. -/
abbrev PWR_HU_ST_FAILS : Fld Reg := ⟨.PWR_HU_ST, 15, 0⟩
/-- PWR_IMON_CFG.IMAX_DA. -/
abbrev PWR_IMON_CFG_IMAX_DA : Fld Reg := ⟨.PWR_IMON_CFG, 63, 48⟩
/-- PWR_IMON_CFG.VOLT_MV. -/
abbrev PWR_IMON_CFG_VOLT_MV : Fld Reg := ⟨.PWR_IMON_CFG, 47, 32⟩
/-- PWR_IMON_CFG.GAIN_UA. -/
abbrev PWR_IMON_CFG_GAIN_UA : Fld Reg := ⟨.PWR_IMON_CFG, 31, 16⟩
/-- PWR_IMON_CFG.OFFSET. -/
abbrev PWR_IMON_CFG_OFFSET : Fld Reg := ⟨.PWR_IMON_CFG, 11, 0⟩
/-- PWR_IMON_ST.MA. -/
abbrev PWR_IMON_ST_MA : Fld Reg := ⟨.PWR_IMON_ST, 63, 32⟩
/-- PWR_IMON_ST.FAULT. -/
abbrev PWR_IMON_ST_FAULT : Fld Reg := ⟨.PWR_IMON_ST, 15, 15⟩
/-- PWR_IMON_ST.CAUSE. -/
abbrev PWR_IMON_ST_CAUSE : Fld Reg := ⟨.PWR_IMON_ST, 14, 13⟩
/-- PWR_IMON_ST.CODE. -/
abbrev PWR_IMON_ST_CODE : Fld Reg := ⟨.PWR_IMON_ST, 11, 0⟩
/-- PWR_REG.EN. -/
abbrev PWR_REG_EN : Fld Reg := ⟨.PWR_REG, 31, 31⟩
/-- PWR_REG.AVS. -/
abbrev PWR_REG_AVS : Fld Reg := ⟨.PWR_REG, 30, 30⟩
/-- PWR_REG.MOTIF. -/
abbrev PWR_REG_MOTIF : Fld Reg := ⟨.PWR_REG, 29, 27⟩
/-- PWR_REG.RAIL. -/
abbrev PWR_REG_RAIL : Fld Reg := ⟨.PWR_REG, 26, 24⟩
/-- PWR_REG.PAGE. -/
abbrev PWR_REG_PAGE : Fld Reg := ⟨.PWR_REG, 15, 8⟩
/-- PWR_REG.ADDR. -/
abbrev PWR_REG_ADDR : Fld Reg := ⟨.PWR_REG, 6, 0⟩
/-- PWR_EMI.SSC_EN. -/
abbrev PWR_EMI_SSC_EN : Fld Reg := ⟨.PWR_EMI, 3, 3⟩
/-- PWR_EMI.SLOW_EDGE. -/
abbrev PWR_EMI_SLOW_EDGE : Fld Reg := ⟨.PWR_EMI, 2, 0⟩
/-- THM_CTL.GRACE_MS. -/
abbrev THM_CTL_GRACE_MS : Fld Reg := ⟨.THM_CTL, 31, 16⟩
/-- THM_CTL.NOTICE_MS. -/
abbrev THM_CTL_NOTICE_MS : Fld Reg := ⟨.THM_CTL, 15, 8⟩
/-- THM_CTL.AMB_FALLBACK. -/
abbrev THM_CTL_AMB_FALLBACK : Fld Reg := ⟨.THM_CTL, 7, 0⟩
/-- THM_THRESH.SHUTDOWN. -/
abbrev THM_THRESH_SHUTDOWN : Fld Reg := ⟨.THM_THRESH, 23, 16⟩
/-- THM_THRESH.THROTTLE. -/
abbrev THM_THRESH_THROTTLE : Fld Reg := ⟨.THM_THRESH, 15, 8⟩
/-- THM_THRESH.WARN. -/
abbrev THM_THRESH_WARN : Fld Reg := ⟨.THM_THRESH, 7, 0⟩
/-- THM_ST.T_MAX. -/
abbrev THM_ST_T_MAX : Fld Reg := ⟨.THM_ST, 63, 48⟩
/-- THM_ST.HOT_MOTIF. -/
abbrev THM_ST_HOT_MOTIF : Fld Reg := ⟨.THM_ST, 34, 32⟩
/-- THM_ST.CAUSE_DIMM. -/
abbrev THM_ST_CAUSE_DIMM : Fld Reg := ⟨.THM_ST, 9, 9⟩
/-- THM_ST.CAUSE_MODEL. -/
abbrev THM_ST_CAUSE_MODEL : Fld Reg := ⟨.THM_ST, 8, 8⟩
/-- THM_ST.LEVEL. -/
abbrev THM_ST_LEVEL : Fld Reg := ⟨.THM_ST, 2, 0⟩
/-- THM_EVT.IMON_LOST. -/
abbrev THM_EVT_IMON_LOST : Fld Reg := ⟨.THM_EVT, 5, 5⟩
/-- THM_EVT.AMB_STALE. -/
abbrev THM_EVT_AMB_STALE : Fld Reg := ⟨.THM_EVT, 4, 4⟩
/-- THM_EVT.RELEASE. -/
abbrev THM_EVT_RELEASE : Fld Reg := ⟨.THM_EVT, 3, 3⟩
/-- THM_EVT.ENFORCE. -/
abbrev THM_EVT_ENFORCE : Fld Reg := ⟨.THM_EVT, 2, 2⟩
/-- THM_EVT.THROTTLE. -/
abbrev THM_EVT_THROTTLE : Fld Reg := ⟨.THM_EVT, 1, 1⟩
/-- THM_EVT.WARN. -/
abbrev THM_EVT_WARN : Fld Reg := ⟨.THM_EVT, 0, 0⟩
/-- THM_ENF.CLK_MHZ. -/
abbrev THM_ENF_CLK_MHZ : Fld Reg := ⟨.THM_ENF, 31, 16⟩
/-- THM_ENF.ADMIT_ATOMS. -/
abbrev THM_ENF_ADMIT_ATOMS : Fld Reg := ⟨.THM_ENF, 7, 0⟩
/-- THM_USER.AMB_OFS. -/
abbrev THM_USER_AMB_OFS : Fld Reg := ⟨.THM_USER, 47, 32⟩
/-- THM_USER.C_HS. -/
abbrev THM_USER_C_HS : Fld Reg := ⟨.THM_USER, 31, 16⟩
/-- THM_USER.R_HS. -/
abbrev THM_USER_R_HS : Fld Reg := ⟨.THM_USER, 15, 0⟩
/-- THM_AMB.INLET. -/
abbrev THM_AMB_INLET : Fld Reg := ⟨.THM_AMB, 15, 0⟩
/-- THM_PKG.C_PKG. -/
abbrev THM_PKG_C_PKG : Fld Reg := ⟨.THM_PKG, 47, 32⟩
/-- THM_PKG.T_PKG. -/
abbrev THM_PKG_T_PKG : Fld Reg := ⟨.THM_PKG, 15, 0⟩
/-- THM_TIME.THROTTLE_MIN. -/
abbrev THM_TIME_THROTTLE_MIN : Fld Reg := ⟨.THM_TIME, 63, 32⟩
/-- THM_TIME.WARN_MIN. -/
abbrev THM_TIME_WARN_MIN : Fld Reg := ⟨.THM_TIME, 31, 0⟩
/-- BRD_CTL.RETRAIN. -/
abbrev BRD_CTL_RETRAIN : Fld Reg := ⟨.BRD_CTL, 8, 8⟩
/-- BRD_CTL.GROUP_EN. -/
abbrev BRD_CTL_GROUP_EN : Fld Reg := ⟨.BRD_CTL, 7, 0⟩
/-- BRD_ST.GROUPS_UP. -/
abbrev BRD_ST_GROUPS_UP : Fld Reg := ⟨.BRD_ST, 63, 56⟩
/-- BRD_ST.LANES_UP. -/
abbrev BRD_ST_LANES_UP : Fld Reg := ⟨.BRD_ST, 47, 40⟩
/-- BRD_ST.MISS_RUN. -/
abbrev BRD_ST_MISS_RUN : Fld Reg := ⟨.BRD_ST, 15, 12⟩
/-- BRD_ST.HA_MISMATCH. -/
abbrev BRD_ST_HA_MISMATCH : Fld Reg := ⟨.BRD_ST, 11, 11⟩
/-- BRD_ST.HALIVE_IN. -/
abbrev BRD_ST_HALIVE_IN : Fld Reg := ⟨.BRD_ST, 10, 10⟩
/-- BRD_ST.HALIVE_OUT. -/
abbrev BRD_ST_HALIVE_OUT : Fld Reg := ⟨.BRD_ST, 9, 9⟩
/-- BRD_ST.LINK_UP. -/
abbrev BRD_ST_LINK_UP : Fld Reg := ⟨.BRD_ST, 8, 8⟩
/-- BRD_ST.STATE. -/
abbrev BRD_ST_STATE : Fld Reg := ⟨.BRD_ST, 2, 0⟩
/-- BRD_EVT.RESYNC_DONE. -/
abbrev BRD_EVT_RESYNC_DONE : Fld Reg := ⟨.BRD_EVT, 7, 7⟩
/-- BRD_EVT.REFUSED. -/
abbrev BRD_EVT_REFUSED : Fld Reg := ⟨.BRD_EVT, 6, 6⟩
/-- BRD_EVT.LANE_FAIL. -/
abbrev BRD_EVT_LANE_FAIL : Fld Reg := ⟨.BRD_EVT, 5, 5⟩
/-- BRD_EVT.HA_MISMATCH. -/
abbrev BRD_EVT_HA_MISMATCH : Fld Reg := ⟨.BRD_EVT, 4, 4⟩
/-- BRD_EVT.FAULT_DETECT. -/
abbrev BRD_EVT_FAULT_DETECT : Fld Reg := ⟨.BRD_EVT, 3, 3⟩
/-- BRD_EVT.REC_MISS. -/
abbrev BRD_EVT_REC_MISS : Fld Reg := ⟨.BRD_EVT, 2, 2⟩
/-- BRD_EVT.LINK_UP. -/
abbrev BRD_EVT_LINK_UP : Fld Reg := ⟨.BRD_EVT, 1, 1⟩
/-- BRD_EVT.LINK_DOWN. -/
abbrev BRD_EVT_LINK_DOWN : Fld Reg := ⟨.BRD_EVT, 0, 0⟩
/-- BRD_PARTNER.HW_TYPE. -/
abbrev BRD_PARTNER_HW_TYPE : Fld Reg := ⟨.BRD_PARTNER, 63, 32⟩
/-- BRD_PARTNER.MOTIFS. -/
abbrev BRD_PARTNER_MOTIFS : Fld Reg := ⟨.BRD_PARTNER, 31, 24⟩
/-- BRD_PARTNER.OPTS. -/
abbrev BRD_PARTNER_OPTS : Fld Reg := ⟨.BRD_PARTNER, 19, 16⟩
/-- BRD_PARTNER.HEAD_ID. -/
abbrev BRD_PARTNER_HEAD_ID : Fld Reg := ⟨.BRD_PARTNER, 8, 8⟩
/-- BRD_PARTNER.VALID. -/
abbrev BRD_PARTNER_VALID : Fld Reg := ⟨.BRD_PARTNER, 0, 0⟩
/-- BRD_LAT.LAT_NS. -/
abbrev BRD_LAT_LAT_NS : Fld Reg := ⟨.BRD_LAT, 15, 0⟩
/-- BRD_CNT.REC_MISS. -/
abbrev BRD_CNT_REC_MISS : Fld Reg := ⟨.BRD_CNT, 63, 48⟩
/-- BRD_CNT.REPLAY. -/
abbrev BRD_CNT_REPLAY : Fld Reg := ⟨.BRD_CNT, 47, 32⟩
/-- BRD_CNT.CRC_ERR. -/
abbrev BRD_CNT_CRC_ERR : Fld Reg := ⟨.BRD_CNT, 31, 16⟩
/-- BRD_CNT.LANE_FAIL. -/
abbrev BRD_CNT_LANE_FAIL : Fld Reg := ⟨.BRD_CNT, 15, 0⟩
/-- BRD_RESYNC.BACKLOG_MIB. -/
abbrev BRD_RESYNC_BACKLOG_MIB : Fld Reg := ⟨.BRD_RESYNC, 63, 32⟩
/-- BRD_NAMED.STITCH. -/
abbrev BRD_NAMED_STITCH : Fld Reg := ⟨.BRD_NAMED, 63, 0⟩
/-- BRD_GRP.LANES. -/
abbrev BRD_GRP_LANES : Fld Reg := ⟨.BRD_GRP, 15, 8⟩
/-- BRD_GRP.UP. -/
abbrev BRD_GRP_UP : Fld Reg := ⟨.BRD_GRP, 1, 1⟩
/-- BRD_GRP.PRESENT. -/
abbrev BRD_GRP_PRESENT : Fld Reg := ⟨.BRD_GRP, 0, 0⟩
/-- CLM_HANDOVER.GO. -/
abbrev CLM_HANDOVER_GO : Fld Reg := ⟨.CLM_HANDOVER, 31, 31⟩
/-- CLM_HANDOVER.BUSY. -/
abbrev CLM_HANDOVER_BUSY : Fld Reg := ⟨.CLM_HANDOVER, 30, 30⟩
/-- CLM_HANDOVER.STATUS. -/
abbrev CLM_HANDOVER_STATUS : Fld Reg := ⟨.CLM_HANDOVER, 23, 8⟩
/-- CLM_HANDOVER.GROUND. -/
abbrev CLM_HANDOVER_GROUND : Fld Reg := ⟨.CLM_HANDOVER, 7, 0⟩
/-- CLM_EVT.STALE. -/
abbrev CLM_EVT_STALE : Fld Reg := ⟨.CLM_EVT, 4, 4⟩
/-- CLM_EVT.RAISE_RETRY. -/
abbrev CLM_EVT_RAISE_RETRY : Fld Reg := ⟨.CLM_EVT, 3, 3⟩
/-- CLM_EVT.HANDBACK. -/
abbrev CLM_EVT_HANDBACK : Fld Reg := ⟨.CLM_EVT, 2, 2⟩
/-- CLM_EVT.HANDOVER. -/
abbrev CLM_EVT_HANDOVER : Fld Reg := ⟨.CLM_EVT, 1, 1⟩
/-- CLM_EVT.TAKEOVER. -/
abbrev CLM_EVT_TAKEOVER : Fld Reg := ⟨.CLM_EVT, 0, 0⟩
/-- CLM_STALE.COUNT. -/
abbrev CLM_STALE_COUNT : Fld Reg := ⟨.CLM_STALE, 63, 32⟩
/-- CLM_STALE.MODULE. -/
abbrev CLM_STALE_MODULE : Fld Reg := ⟨.CLM_STALE, 15, 8⟩
/-- CLM_STALE.GROUND. -/
abbrev CLM_STALE_GROUND : Fld Reg := ⟨.CLM_STALE, 7, 0⟩
/-- CLM_CLAIM.EPOCH. -/
abbrev CLM_CLAIM_EPOCH : Fld Reg := ⟨.CLM_CLAIM, 63, 8⟩
/-- CLM_CLAIM.HEAD. -/
abbrev CLM_CLAIM_HEAD : Fld Reg := ⟨.CLM_CLAIM, 7, 0⟩
/-- CLM_GROUND.UNFLUSHED_MIB. -/
abbrev CLM_GROUND_UNFLUSHED_MIB : Fld Reg := ⟨.CLM_GROUND, 63, 32⟩
/-- CLM_GROUND.EXISTS. -/
abbrev CLM_GROUND_EXISTS : Fld Reg := ⟨.CLM_GROUND, 15, 15⟩
/-- CLM_GROUND.TWIN. -/
abbrev CLM_GROUND_TWIN : Fld Reg := ⟨.CLM_GROUND, 14, 14⟩
/-- CLM_GROUND.HOME. -/
abbrev CLM_GROUND_HOME : Fld Reg := ⟨.CLM_GROUND, 13, 13⟩
/-- CLM_GROUND.MIRRORED. -/
abbrev CLM_GROUND_MIRRORED : Fld Reg := ⟨.CLM_GROUND, 12, 12⟩
/-- CLM_GROUND.STATE. -/
abbrev CLM_GROUND_STATE : Fld Reg := ⟨.CLM_GROUND, 2, 0⟩
/-- SMP_ST.NEXT_SEQ. -/
abbrev SMP_ST_NEXT_SEQ : Fld Reg := ⟨.SMP_ST, 63, 32⟩
/-- SMP_ST.WP. -/
abbrev SMP_ST_WP : Fld Reg := ⟨.SMP_ST, 31, 9⟩
/-- SMP_ST.WP_LO. -/
abbrev SMP_ST_WP_LO : Fld Reg := ⟨.SMP_ST, 8, 2⟩
/-- SMP_ST.NEAR_FULL. -/
abbrev SMP_ST_NEAR_FULL : Fld Reg := ⟨.SMP_ST, 1, 1⟩
/-- SMP_ST.FULL. -/
abbrev SMP_ST_FULL : Fld Reg := ⟨.SMP_ST, 0, 0⟩
/-- SMP_CNT.LOST. -/
abbrev SMP_CNT_LOST : Fld Reg := ⟨.SMP_CNT, 63, 32⟩
/-- SMP_CNT.REPEATS. -/
abbrev SMP_CNT_REPEATS : Fld Reg := ⟨.SMP_CNT, 31, 0⟩
/-- SMP_LIFE.CYCLES. -/
abbrev SMP_LIFE_CYCLES : Fld Reg := ⟨.SMP_LIFE, 63, 32⟩
/-- SMP_LIFE.HOURS. -/
abbrev SMP_LIFE_HOURS : Fld Reg := ⟨.SMP_LIFE, 31, 0⟩
/-- SMP_SNAP.TAKE. -/
abbrev SMP_SNAP_TAKE : Fld Reg := ⟨.SMP_SNAP, 63, 63⟩
/-- SMP_SNAP.VALID. -/
abbrev SMP_SNAP_VALID : Fld Reg := ⟨.SMP_SNAP, 62, 62⟩
/-- SMP_SNAP.LAST_REPEAT. -/
abbrev SMP_SNAP_LAST_REPEAT : Fld Reg := ⟨.SMP_SNAP, 47, 32⟩
/-- SMP_SNAP.END_SEQ. -/
abbrev SMP_SNAP_END_SEQ : Fld Reg := ⟨.SMP_SNAP, 31, 0⟩
/-- SMP_SNAP_OFS.LAST_OFS. -/
abbrev SMP_SNAP_OFS_LAST_OFS : Fld Reg := ⟨.SMP_SNAP_OFS, 63, 32⟩
/-- SMP_SNAP_OFS.END_OFS. -/
abbrev SMP_SNAP_OFS_END_OFS : Fld Reg := ⟨.SMP_SNAP_OFS, 31, 0⟩
/-- SMP_RD_OFS.OFS. -/
abbrev SMP_RD_OFS_OFS : Fld Reg := ⟨.SMP_RD_OFS, 22, 3⟩
/-- SMP_RD_DATA.DATA. -/
abbrev SMP_RD_DATA_DATA : Fld Reg := ⟨.SMP_RD_DATA, 63, 0⟩
/-- FWU_ST.SETTINGS_RESET. -/
abbrev FWU_ST_SETTINGS_RESET : Fld Reg := ⟨.FWU_ST, 11, 11⟩
/-- FWU_ST.FALLBACK. -/
abbrev FWU_ST_FALLBACK : Fld Reg := ⟨.FWU_ST, 10, 10⟩
/-- FWU_ST.TRIAL. -/
abbrev FWU_ST_TRIAL : Fld Reg := ⟨.FWU_ST, 9, 9⟩
/-- FWU_ST.NEXT_SLOT. -/
abbrev FWU_ST_NEXT_SLOT : Fld Reg := ⟨.FWU_ST, 8, 8⟩
/-- FWU_ST.RUNNING. -/
abbrev FWU_ST_RUNNING : Fld Reg := ⟨.FWU_ST, 5, 5⟩
/-- FWU_ST.RUN_SLOT. -/
abbrev FWU_ST_RUN_SLOT : Fld Reg := ⟨.FWU_ST, 4, 4⟩
/-- FWU_ST.BUSY. -/
abbrev FWU_ST_BUSY : Fld Reg := ⟨.FWU_ST, 0, 0⟩
/-- FWU_RUN_VER.VERSION. -/
abbrev FWU_RUN_VER_VERSION : Fld Reg := ⟨.FWU_RUN_VER, 63, 0⟩
/-- FWU_VERIFY.STATUS_B. -/
abbrev FWU_VERIFY_STATUS_B : Fld Reg := ⟨.FWU_VERIFY, 63, 48⟩
/-- FWU_VERIFY.STATUS_A. -/
abbrev FWU_VERIFY_STATUS_A : Fld Reg := ⟨.FWU_VERIFY, 47, 32⟩
/-- FWU_VERIFY.TRIED_B. -/
abbrev FWU_VERIFY_TRIED_B : Fld Reg := ⟨.FWU_VERIFY, 1, 1⟩
/-- FWU_VERIFY.TRIED_A. -/
abbrev FWU_VERIFY_TRIED_A : Fld Reg := ⟨.FWU_VERIFY, 0, 0⟩
/-- FWU_CMD.GO. -/
abbrev FWU_CMD_GO : Fld Reg := ⟨.FWU_CMD, 63, 63⟩
/-- FWU_CMD.BUSY. -/
abbrev FWU_CMD_BUSY : Fld Reg := ⟨.FWU_CMD, 62, 62⟩
/-- FWU_CMD.OP. -/
abbrev FWU_CMD_OP : Fld Reg := ⟨.FWU_CMD, 61, 60⟩
/-- FWU_CMD.STATUS. -/
abbrev FWU_CMD_STATUS : Fld Reg := ⟨.FWU_CMD, 47, 32⟩
/-- FWU_CMD.LEN. -/
abbrev FWU_CMD_LEN : Fld Reg := ⟨.FWU_CMD, 31, 0⟩
/-- FWU_FLASH.OFS. -/
abbrev FWU_FLASH_OFS : Fld Reg := ⟨.FWU_FLASH, 31, 0⟩
/-- FWU_MEM.ADDR. -/
abbrev FWU_MEM_ADDR : Fld Reg := ⟨.FWU_MEM, 63, 0⟩
/-- FWU_COMMIT.GO. -/
abbrev FWU_COMMIT_GO : Fld Reg := ⟨.FWU_COMMIT, 31, 31⟩
/-- FWU_COMMIT.BUSY. -/
abbrev FWU_COMMIT_BUSY : Fld Reg := ⟨.FWU_COMMIT, 30, 30⟩
/-- FWU_COMMIT.ACTION. -/
abbrev FWU_COMMIT_ACTION : Fld Reg := ⟨.FWU_COMMIT, 29, 28⟩
/-- FWU_COMMIT.SLOT. -/
abbrev FWU_COMMIT_SLOT : Fld Reg := ⟨.FWU_COMMIT, 27, 27⟩
/-- FWU_COMMIT.STATUS. -/
abbrev FWU_COMMIT_STATUS : Fld Reg := ⟨.FWU_COMMIT, 15, 0⟩
/-- FWU_EVT.SETTINGS_RESET. -/
abbrev FWU_EVT_SETTINGS_RESET : Fld Reg := ⟨.FWU_EVT, 4, 4⟩
/-- FWU_EVT.FALLBACK. -/
abbrev FWU_EVT_FALLBACK : Fld Reg := ⟨.FWU_EVT, 3, 3⟩
/-- FWU_EVT.COMMIT_CANCELLED. -/
abbrev FWU_EVT_COMMIT_CANCELLED : Fld Reg := ⟨.FWU_EVT, 2, 2⟩
/-- FWU_EVT.COMMIT_DONE. -/
abbrev FWU_EVT_COMMIT_DONE : Fld Reg := ⟨.FWU_EVT, 1, 1⟩
/-- FWU_EVT.CMD_DONE. -/
abbrev FWU_EVT_CMD_DONE : Fld Reg := ⟨.FWU_EVT, 0, 0⟩
/-- MSR_ST.BUSY. -/
abbrev MSR_ST_BUSY : Fld Reg := ⟨.MSR_ST, 8, 8⟩
/-- MSR_ST.SRC. -/
abbrev MSR_ST_SRC : Fld Reg := ⟨.MSR_ST, 5, 4⟩
/-- MSR_ST.CUR. -/
abbrev MSR_ST_CUR : Fld Reg := ⟨.MSR_ST, 3, 0⟩
/-- MSR_CNT.EXTENDS. -/
abbrev MSR_CNT_EXTENDS : Fld Reg := ⟨.MSR_CNT, 31, 0⟩
/-- MSR_MR.VALUE. -/
abbrev MSR_MR_VALUE : Fld Reg := ⟨.MSR_MR, 63, 0⟩
/-- RPL_VIEW_CMD.GO. -/
abbrev RPL_VIEW_CMD_GO : Fld Reg := ⟨.RPL_VIEW_CMD, 63, 63⟩
/-- RPL_VIEW_CMD.BUSY. -/
abbrev RPL_VIEW_CMD_BUSY : Fld Reg := ⟨.RPL_VIEW_CMD, 62, 62⟩
/-- RPL_VIEW_CMD.OP. -/
abbrev RPL_VIEW_CMD_OP : Fld Reg := ⟨.RPL_VIEW_CMD, 61, 60⟩
/-- RPL_VIEW_CMD.STATUS. -/
abbrev RPL_VIEW_CMD_STATUS : Fld Reg := ⟨.RPL_VIEW_CMD, 47, 32⟩
/-- RPL_VIEW_CMD.COUNT. -/
abbrev RPL_VIEW_CMD_COUNT : Fld Reg := ⟨.RPL_VIEW_CMD, 7, 0⟩
/-- RPL_VIEW_LIST.ADDR. -/
abbrev RPL_VIEW_LIST_ADDR : Fld Reg := ⟨.RPL_VIEW_LIST, 63, 3⟩
/-- RPL_VIEW_CUT.STITCH. -/
abbrev RPL_VIEW_CUT_STITCH : Fld Reg := ⟨.RPL_VIEW_CUT, 63, 0⟩
/-- RPL_VIEW_Q.ID. -/
abbrev RPL_VIEW_Q_ID : Fld Reg := ⟨.RPL_VIEW_Q, 15, 0⟩
/-- RPL_VIEW_ST.SOURCE. -/
abbrev RPL_VIEW_ST_SOURCE : Fld Reg := ⟨.RPL_VIEW_ST, 63, 48⟩
/-- RPL_VIEW_ST.INTERNAL. -/
abbrev RPL_VIEW_ST_INTERNAL : Fld Reg := ⟨.RPL_VIEW_ST, 3, 3⟩
/-- RPL_VIEW_ST.STATE. -/
abbrev RPL_VIEW_ST_STATE : Fld Reg := ⟨.RPL_VIEW_ST, 2, 0⟩
/-- RPL_VIEW_CNT.PENDING_CUTS. -/
abbrev RPL_VIEW_CNT_PENDING_CUTS : Fld Reg := ⟨.RPL_VIEW_CNT, 35, 32⟩
/-- RPL_VIEW_CNT.SNAPSHOTS. -/
abbrev RPL_VIEW_CNT_SNAPSHOTS : Fld Reg := ⟨.RPL_VIEW_CNT, 15, 0⟩
/-- RPL_WALK_CTL.PERIOD. -/
abbrev RPL_WALK_CTL_PERIOD : Fld Reg := ⟨.RPL_WALK_CTL, 15, 0⟩
/-- RPL_WALK_ST.PAGES_LEFT. -/
abbrev RPL_WALK_ST_PAGES_LEFT : Fld Reg := ⟨.RPL_WALK_ST, 63, 0⟩
/-- RPL_EVT.LAG. -/
abbrev RPL_EVT_LAG : Fld Reg := ⟨.RPL_EVT, 5, 5⟩
/-- RPL_EVT.RESTART. -/
abbrev RPL_EVT_RESTART : Fld Reg := ⟨.RPL_EVT, 4, 4⟩
/-- RPL_EVT.ACKED. -/
abbrev RPL_EVT_ACKED : Fld Reg := ⟨.RPL_EVT, 3, 3⟩
/-- RPL_EVT.WALK_DONE. -/
abbrev RPL_EVT_WALK_DONE : Fld Reg := ⟨.RPL_EVT, 2, 2⟩
/-- RPL_EVT.ABANDONED. -/
abbrev RPL_EVT_ABANDONED : Fld Reg := ⟨.RPL_EVT, 1, 1⟩
/-- RPL_EVT.READY. -/
abbrev RPL_EVT_READY : Fld Reg := ⟨.RPL_EVT, 0, 0⟩
/-- RPL_TGT_CTL.EN. -/
abbrev RPL_TGT_CTL_EN : Fld Reg := ⟨.RPL_TGT_CTL, 63, 63⟩
/-- RPL_TGT_CTL.ROLE. -/
abbrev RPL_TGT_CTL_ROLE : Fld Reg := ⟨.RPL_TGT_CTL, 62, 62⟩
/-- RPL_TGT_CTL.LAG_MAX. -/
abbrev RPL_TGT_CTL_LAG_MAX : Fld Reg := ⟨.RPL_TGT_CTL, 47, 40⟩
/-- RPL_TGT_CTL.EVERY. -/
abbrev RPL_TGT_CTL_EVERY : Fld Reg := ⟨.RPL_TGT_CTL, 39, 32⟩
/-- RPL_TGT_CTL.KEY_SLOT. -/
abbrev RPL_TGT_CTL_KEY_SLOT : Fld Reg := ⟨.RPL_TGT_CTL, 27, 16⟩
/-- RPL_TGT_CTL.NSID. -/
abbrev RPL_TGT_CTL_NSID : Fld Reg := ⟨.RPL_TGT_CTL, 15, 0⟩
/-- RPL_TGT_CONN.RATE_MBPS. -/
abbrev RPL_TGT_CONN_RATE_MBPS : Fld Reg := ⟨.RPL_TGT_CONN, 63, 32⟩
/-- RPL_TGT_CONN.CONN_ID. -/
abbrev RPL_TGT_CONN_CONN_ID : Fld Reg := ⟨.RPL_TGT_CONN, 31, 0⟩
/-- RPL_TGT_ST.EPOCH. -/
abbrev RPL_TGT_ST_EPOCH : Fld Reg := ⟨.RPL_TGT_ST, 63, 32⟩
/-- RPL_TGT_ST.STATUS. -/
abbrev RPL_TGT_ST_STATUS : Fld Reg := ⟨.RPL_TGT_ST, 31, 16⟩
/-- RPL_TGT_ST.SKIPS. -/
abbrev RPL_TGT_ST_SKIPS : Fld Reg := ⟨.RPL_TGT_ST, 15, 8⟩
/-- RPL_TGT_ST.FP_MISMATCH. -/
abbrev RPL_TGT_ST_FP_MISMATCH : Fld Reg := ⟨.RPL_TGT_ST, 7, 3⟩
/-- RPL_TGT_ST.STATE. -/
abbrev RPL_TGT_ST_STATE : Fld Reg := ⟨.RPL_TGT_ST, 2, 0⟩
/-- RPL_TGT_LAG.ACKED_CUT. -/
abbrev RPL_TGT_LAG_ACKED_CUT : Fld Reg := ⟨.RPL_TGT_LAG, 63, 0⟩
/-- MTF_ID.SITE_ROW. -/
abbrev MTF_ID_SITE_ROW : Fld Reg := ⟨.MTF_ID, 12, 12⟩
/-- MTF_ID.SITE_COL. -/
abbrev MTF_ID_SITE_COL : Fld Reg := ⟨.MTF_ID, 11, 10⟩
/-- MTF_ID.ROLE. -/
abbrev MTF_ID_ROLE : Fld Reg := ⟨.MTF_ID, 9, 8⟩
/-- MTF_ID.MOTIF. -/
abbrev MTF_ID_MOTIF : Fld Reg := ⟨.MTF_ID, 2, 0⟩
/-- MTF_LINK_ST.REPLAYS. -/
abbrev MTF_LINK_ST_REPLAYS : Fld Reg := ⟨.MTF_LINK_ST, 63, 32⟩
/-- MTF_LINK_ST.PEER. -/
abbrev MTF_LINK_ST_PEER : Fld Reg := ⟨.MTF_LINK_ST, 18, 16⟩
/-- MTF_LINK_ST.LANES_REPAIRED. -/
abbrev MTF_LINK_ST_LANES_REPAIRED : Fld Reg := ⟨.MTF_LINK_ST, 15, 8⟩
/-- MTF_LINK_ST.UP. -/
abbrev MTF_LINK_ST_UP : Fld Reg := ⟨.MTF_LINK_ST, 1, 1⟩
/-- MTF_LINK_ST.PRESENT. -/
abbrev MTF_LINK_ST_PRESENT : Fld Reg := ⟨.MTF_LINK_ST, 0, 0⟩
/-- MTF_FLUSH_CTL.AGE. -/
abbrev MTF_FLUSH_CTL_AGE : Fld Reg := ⟨.MTF_FLUSH_CTL, 31, 16⟩
/-- MTF_FLUSH_CTL.HIGH_PCT. -/
abbrev MTF_FLUSH_CTL_HIGH_PCT : Fld Reg := ⟨.MTF_FLUSH_CTL, 15, 8⟩
/-- MTF_FLUSH_ST.PENDING_MIB. -/
abbrev MTF_FLUSH_ST_PENDING_MIB : Fld Reg := ⟨.MTF_FLUSH_ST, 63, 32⟩
/-- MTF_FLUSH_ST.ACTIVE. -/
abbrev MTF_FLUSH_ST_ACTIVE : Fld Reg := ⟨.MTF_FLUSH_ST, 15, 0⟩
/-- MTF_FP_ST.CAPACITY. -/
abbrev MTF_FP_ST_CAPACITY : Fld Reg := ⟨.MTF_FP_ST, 63, 32⟩
/-- MTF_FP_ST.ENTRIES. -/
abbrev MTF_FP_ST_ENTRIES : Fld Reg := ⟨.MTF_FP_ST, 31, 0⟩
/-- MTF_DP_CNT0.DEDUP_HIT. -/
abbrev MTF_DP_CNT0_DEDUP_HIT : Fld Reg := ⟨.MTF_DP_CNT0, 63, 32⟩
/-- MTF_DP_CNT0.DEDUP_MISS. -/
abbrev MTF_DP_CNT0_DEDUP_MISS : Fld Reg := ⟨.MTF_DP_CNT0, 31, 0⟩
/-- MTF_DP_CNT1.VERIFY_MISMATCH. -/
abbrev MTF_DP_CNT1_VERIFY_MISMATCH : Fld Reg := ⟨.MTF_DP_CNT1, 63, 48⟩
/-- MTF_DP_CNT1.FP_REPLACE. -/
abbrev MTF_DP_CNT1_FP_REPLACE : Fld Reg := ⟨.MTF_DP_CNT1, 47, 32⟩
/-- MTF_DP_CNT1.MERGE. -/
abbrev MTF_DP_CNT1_MERGE : Fld Reg := ⟨.MTF_DP_CNT1, 31, 0⟩
/-- MTF_DP_ERR.STATUS. -/
abbrev MTF_DP_ERR_STATUS : Fld Reg := ⟨.MTF_DP_ERR, 63, 48⟩
/-- MTF_DP_ERR.GROUND. -/
abbrev MTF_DP_ERR_GROUND : Fld Reg := ⟨.MTF_DP_ERR, 47, 40⟩
/-- MTF_DP_ERR.NSID. -/
abbrev MTF_DP_ERR_NSID : Fld Reg := ⟨.MTF_DP_ERR, 27, 16⟩
/-- MTF_DP_ERR.VALID. -/
abbrev MTF_DP_ERR_VALID : Fld Reg := ⟨.MTF_DP_ERR, 0, 0⟩
/-- MTF_DCMP_ST.WAITING. -/
abbrev MTF_DCMP_ST_WAITING : Fld Reg := ⟨.MTF_DCMP_ST, 47, 32⟩
/-- MTF_DCMP_ST.BUSY1. -/
abbrev MTF_DCMP_ST_BUSY1 : Fld Reg := ⟨.MTF_DCMP_ST, 20, 16⟩
/-- MTF_DCMP_ST.BUSY0. -/
abbrev MTF_DCMP_ST_BUSY0 : Fld Reg := ⟨.MTF_DCMP_ST, 4, 0⟩
/-- MTF_DCMP_CNT.CHUNKS. -/
abbrev MTF_DCMP_CNT_CHUNKS : Fld Reg := ⟨.MTF_DCMP_CNT, 63, 32⟩
/-- MTF_DCMP_CNT.FAILS. -/
abbrev MTF_DCMP_CNT_FAILS : Fld Reg := ⟨.MTF_DCMP_CNT, 31, 0⟩
/-- MTF_DCMP_ERR.STATUS. -/
abbrev MTF_DCMP_ERR_STATUS : Fld Reg := ⟨.MTF_DCMP_ERR, 63, 48⟩
/-- MTF_DCMP_ERR.BODY_OFS. -/
abbrev MTF_DCMP_ERR_BODY_OFS : Fld Reg := ⟨.MTF_DCMP_ERR, 31, 16⟩
/-- MTF_DCMP_ERR.VALID. -/
abbrev MTF_DCMP_ERR_VALID : Fld Reg := ⟨.MTF_DCMP_ERR, 0, 0⟩
/-- MTF_CJQ_BASE.BASE. -/
abbrev MTF_CJQ_BASE_BASE : Fld Reg := ⟨.MTF_CJQ_BASE, 63, 12⟩
/-- MTF_CJQ_BASE.SIZE. -/
abbrev MTF_CJQ_BASE_SIZE : Fld Reg := ⟨.MTF_CJQ_BASE, 3, 0⟩
/-- MTF_CJQ_CTL.IRQ_EN. -/
abbrev MTF_CJQ_CTL_IRQ_EN : Fld Reg := ⟨.MTF_CJQ_CTL, 8, 8⟩
/-- MTF_CJQ_CTL.HART. -/
abbrev MTF_CJQ_CTL_HART : Fld Reg := ⟨.MTF_CJQ_CTL, 7, 4⟩
/-- MTF_CJQ_CTL.EN. -/
abbrev MTF_CJQ_CTL_EN : Fld Reg := ⟨.MTF_CJQ_CTL, 0, 0⟩
/-- MTF_CJQ_TAIL.TAIL. -/
abbrev MTF_CJQ_TAIL_TAIL : Fld Reg := ⟨.MTF_CJQ_TAIL, 11, 0⟩
/-- MTF_CJQ_HEAD.HEAD. -/
abbrev MTF_CJQ_HEAD_HEAD : Fld Reg := ⟨.MTF_CJQ_HEAD, 11, 0⟩
/-- MTF_KD_BASE.BASE. -/
abbrev MTF_KD_BASE_BASE : Fld Reg := ⟨.MTF_KD_BASE, 63, 18⟩
/-- MTF_KD_BASE.EN. -/
abbrev MTF_KD_BASE_EN : Fld Reg := ⟨.MTF_KD_BASE, 0, 0⟩
/-- CPU_RELEASE.RUN. -/
abbrev CPU_RELEASE_RUN : Fld Reg := ⟨.CPU_RELEASE, 7, 0⟩
/-- CPU_ST.WFI. -/
abbrev CPU_ST_WFI : Fld Reg := ⟨.CPU_ST, 40, 32⟩
/-- CPU_ST.RUNNING. -/
abbrev CPU_ST_RUNNING : Fld Reg := ⟨.CPU_ST, 8, 0⟩
/-- CPU_EVT.REL_REFUSED. -/
abbrev CPU_EVT_REL_REFUSED : Fld Reg := ⟨.CPU_EVT, 9, 9⟩
/-- CPU_EVT.HALTED. -/
abbrev CPU_EVT_HALTED : Fld Reg := ⟨.CPU_EVT, 8, 0⟩
/-- CPU_RESET_PC.PC. -/
abbrev CPU_RESET_PC_PC : Fld Reg := ⟨.CPU_RESET_PC, 63, 1⟩
/-- CPU_HCTL.HALT. -/
abbrev CPU_HCTL_HALT : Fld Reg := ⟨.CPU_HCTL, 0, 0⟩
/-- CPU_HST.LAST_MCAUSE. -/
abbrev CPU_HST_LAST_MCAUSE : Fld Reg := ⟨.CPU_HST, 47, 32⟩
/-- CPU_HST.STATE. -/
abbrev CPU_HST_STATE : Fld Reg := ⟨.CPU_HST, 2, 0⟩
/-- CPU_HPM_CNT.CNT. -/
abbrev CPU_HPM_CNT_CNT : Fld Reg := ⟨.CPU_HPM_CNT, 63, 0⟩
/-- CPU_HPM_EVT.EVENT. -/
abbrev CPU_HPM_EVT_EVENT : Fld Reg := ⟨.CPU_HPM_EVT, 7, 0⟩
/-- NET_CTL.FWQ_EN. -/
abbrev NET_CTL_FWQ_EN : Fld Reg := ⟨.NET_CTL, 16, 16⟩
/-- NET_CTL.PFC_EN. -/
abbrev NET_CTL_PFC_EN : Fld Reg := ⟨.NET_CTL, 15, 8⟩
/-- NET_CTL.SPLIT. -/
abbrev NET_CTL_SPLIT : Fld Reg := ⟨.NET_CTL, 1, 0⟩
/-- NET_PFC_MAP.PRIO. -/
abbrev NET_PFC_MAP_PRIO : Fld Reg := ⟨.NET_PFC_MAP, 15, 0⟩
/-- NET_SUB_ST.FEC_CORR. -/
abbrev NET_SUB_ST_FEC_CORR : Fld Reg := ⟨.NET_SUB_ST, 63, 32⟩
/-- NET_SUB_ST.FEC_UNCORR. -/
abbrev NET_SUB_ST_FEC_UNCORR : Fld Reg := ⟨.NET_SUB_ST, 31, 16⟩
/-- NET_SUB_ST.SPEED. -/
abbrev NET_SUB_ST_SPEED : Fld Reg := ⟨.NET_SUB_ST, 10, 8⟩
/-- NET_SUB_ST.PAUSED. -/
abbrev NET_SUB_ST_PAUSED : Fld Reg := ⟨.NET_SUB_ST, 1, 1⟩
/-- NET_SUB_ST.UP. -/
abbrev NET_SUB_ST_UP : Fld Reg := ⟨.NET_SUB_ST, 0, 0⟩
/-- NET_GA_BASE.BASE. -/
abbrev NET_GA_BASE_BASE : Fld Reg := ⟨.NET_GA_BASE, 63, 14⟩
/-- NET_GA_BASE.EN. -/
abbrev NET_GA_BASE_EN : Fld Reg := ⟨.NET_GA_BASE, 0, 0⟩
/-- NET_FWRX_BASE.BASE. -/
abbrev NET_FWRX_BASE_BASE : Fld Reg := ⟨.NET_FWRX_BASE, 63, 14⟩
/-- NET_FWRX_BASE.SIZE. -/
abbrev NET_FWRX_BASE_SIZE : Fld Reg := ⟨.NET_FWRX_BASE, 3, 0⟩
/-- NET_FWTX_BASE.BASE. -/
abbrev NET_FWTX_BASE_BASE : Fld Reg := ⟨.NET_FWTX_BASE, 63, 14⟩
/-- NET_FWTX_BASE.SIZE. -/
abbrev NET_FWTX_BASE_SIZE : Fld Reg := ⟨.NET_FWTX_BASE, 3, 0⟩
/-- NET_FWQ_PTR.TX_TAIL. -/
abbrev NET_FWQ_PTR_TX_TAIL : Fld Reg := ⟨.NET_FWQ_PTR, 59, 48⟩
/-- NET_FWQ_PTR.TX_HEAD. -/
abbrev NET_FWQ_PTR_TX_HEAD : Fld Reg := ⟨.NET_FWQ_PTR, 43, 32⟩
/-- NET_FWQ_PTR.RX_TAIL. -/
abbrev NET_FWQ_PTR_RX_TAIL : Fld Reg := ⟨.NET_FWQ_PTR, 27, 16⟩
/-- NET_FWQ_PTR.RX_HEAD. -/
abbrev NET_FWQ_PTR_RX_HEAD : Fld Reg := ⟨.NET_FWQ_PTR, 11, 0⟩
/-- RDM_CTL.TIMEWAIT_MS. -/
abbrev RDM_CTL_TIMEWAIT_MS : Fld Reg := ⟨.RDM_CTL, 31, 16⟩
/-- RDM_CTL.RNR_TIMER. -/
abbrev RDM_CTL_RNR_TIMER : Fld Reg := ⟨.RDM_CTL, 15, 11⟩
/-- RDM_CTL.PMTU_MAX. -/
abbrev RDM_CTL_PMTU_MAX : Fld Reg := ⟨.RDM_CTL, 2, 0⟩
/-- RDM_SPRAY.GAP_NS. -/
abbrev RDM_SPRAY_GAP_NS : Fld Reg := ⟨.RDM_SPRAY, 31, 16⟩
/-- RDM_SPRAY.EN. -/
abbrev RDM_SPRAY_EN : Fld Reg := ⟨.RDM_SPRAY, 4, 4⟩
/-- RDM_SPRAY.MAX_PATHS. -/
abbrev RDM_SPRAY_MAX_PATHS : Fld Reg := ⟨.RDM_SPRAY, 3, 0⟩
/-- RDM_CC.CNP_GAP_US. -/
abbrev RDM_CC_CNP_GAP_US : Fld Reg := ⟨.RDM_CC, 63, 48⟩
/-- RDM_CC.AI_MBPS. -/
abbrev RDM_CC_AI_MBPS : Fld Reg := ⟨.RDM_CC, 47, 32⟩
/-- RDM_CC.RATE_MIN_MBPS. -/
abbrev RDM_CC_RATE_MIN_MBPS : Fld Reg := ⟨.RDM_CC, 31, 16⟩
/-- RDM_CC.TIMER_US. -/
abbrev RDM_CC_TIMER_US : Fld Reg := ⟨.RDM_CC, 15, 8⟩
/-- RDM_CC.G_SHIFT. -/
abbrev RDM_CC_G_SHIFT : Fld Reg := ⟨.RDM_CC, 3, 0⟩
/-- RDM_CTX_BASE.BASE. -/
abbrev RDM_CTX_BASE_BASE : Fld Reg := ⟨.RDM_CTX_BASE, 63, 21⟩
/-- RDM_CTX_BASE.EN. -/
abbrev RDM_CTX_BASE_EN : Fld Reg := ⟨.RDM_CTX_BASE, 0, 0⟩
/-- RDM_CONN_DESC.DATA. -/
abbrev RDM_CONN_DESC_DATA : Fld Reg := ⟨.RDM_CONN_DESC, 63, 0⟩
/-- RDM_CONN_CMD.GO. -/
abbrev RDM_CONN_CMD_GO : Fld Reg := ⟨.RDM_CONN_CMD, 63, 63⟩
/-- RDM_CONN_CMD.BUSY. -/
abbrev RDM_CONN_CMD_BUSY : Fld Reg := ⟨.RDM_CONN_CMD, 62, 62⟩
/-- RDM_CONN_CMD.OP. -/
abbrev RDM_CONN_CMD_OP : Fld Reg := ⟨.RDM_CONN_CMD, 61, 60⟩
/-- RDM_CONN_CMD.STATUS. -/
abbrev RDM_CONN_CMD_STATUS : Fld Reg := ⟨.RDM_CONN_CMD, 47, 32⟩
/-- RDM_CONN_CMD.CONN_ID. -/
abbrev RDM_CONN_CMD_CONN_ID : Fld Reg := ⟨.RDM_CONN_CMD, 31, 0⟩
/-- RDM_CCH_ST.VALID. -/
abbrev RDM_CCH_ST_VALID : Fld Reg := ⟨.RDM_CCH_ST, 48, 32⟩
/-- RDM_CCH_ST.PINNED. -/
abbrev RDM_CCH_ST_PINNED : Fld Reg := ⟨.RDM_CCH_ST, 14, 0⟩
/-- RDM_MISSQ_ST.PACKETS. -/
abbrev RDM_MISSQ_ST_PACKETS : Fld Reg := ⟨.RDM_MISSQ_ST, 41, 32⟩
/-- RDM_MISSQ_ST.BYTES. -/
abbrev RDM_MISSQ_ST_BYTES : Fld Reg := ⟨.RDM_MISSQ_ST, 21, 0⟩
/-- RDM_CNT.MISS_DROP. -/
abbrev RDM_CNT_MISS_DROP : Fld Reg := ⟨.RDM_CNT, 63, 48⟩
/-- RDM_CNT.LATE_FETCH. -/
abbrev RDM_CNT_LATE_FETCH : Fld Reg := ⟨.RDM_CNT, 47, 32⟩
/-- RDM_CNT.WINDOW_DROP. -/
abbrev RDM_CNT_WINDOW_DROP : Fld Reg := ⟨.RDM_CNT, 31, 16⟩
/-- RDM_CNT.RNR_SENT. -/
abbrev RDM_CNT_RNR_SENT : Fld Reg := ⟨.RDM_CNT, 15, 0⟩
/-- RDM_CNT2.CTX_MISS. -/
abbrev RDM_CNT2_CTX_MISS : Fld Reg := ⟨.RDM_CNT2, 63, 32⟩
/-- RDM_CNT2.SACK_GAP. -/
abbrev RDM_CNT2_SACK_GAP : Fld Reg := ⟨.RDM_CNT2, 31, 16⟩
/-- RDM_CNT2.RETRANS. -/
abbrev RDM_CNT2_RETRANS : Fld Reg := ⟨.RDM_CNT2, 15, 0⟩
/-- RDM_EVT.CTX_LOST. -/
abbrev RDM_EVT_CTX_LOST : Fld Reg := ⟨.RDM_EVT, 4, 4⟩
/-- RDM_EVT.PIN_FULL. -/
abbrev RDM_EVT_PIN_FULL : Fld Reg := ⟨.RDM_EVT, 3, 3⟩
/-- RDM_EVT.MR_DONE. -/
abbrev RDM_EVT_MR_DONE : Fld Reg := ⟨.RDM_EVT, 2, 2⟩
/-- RDM_EVT.MISS_DROP. -/
abbrev RDM_EVT_MISS_DROP : Fld Reg := ⟨.RDM_EVT, 1, 1⟩
/-- RDM_EVT.CONN_ERR. -/
abbrev RDM_EVT_CONN_ERR : Fld Reg := ⟨.RDM_EVT, 0, 0⟩
/-- RDM_ERR.STATUS. -/
abbrev RDM_ERR_STATUS : Fld Reg := ⟨.RDM_ERR, 63, 48⟩
/-- RDM_ERR.CONN_ID. -/
abbrev RDM_ERR_CONN_ID : Fld Reg := ⟨.RDM_ERR, 47, 16⟩
/-- RDM_ERR.VALID. -/
abbrev RDM_ERR_VALID : Fld Reg := ⟨.RDM_ERR, 0, 0⟩
/-- RDM_MR_BASE.BASE. -/
abbrev RDM_MR_BASE_BASE : Fld Reg := ⟨.RDM_MR_BASE, 63, 26⟩
/-- RDM_MR_BASE.EN. -/
abbrev RDM_MR_BASE_EN : Fld Reg := ⟨.RDM_MR_BASE, 0, 0⟩
/-- RDM_MR_CMD.GO. -/
abbrev RDM_MR_CMD_GO : Fld Reg := ⟨.RDM_MR_CMD, 63, 63⟩
/-- RDM_MR_CMD.BUSY. -/
abbrev RDM_MR_CMD_BUSY : Fld Reg := ⟨.RDM_MR_CMD, 62, 62⟩
/-- RDM_MR_CMD.OP. -/
abbrev RDM_MR_CMD_OP : Fld Reg := ⟨.RDM_MR_CMD, 61, 60⟩
/-- RDM_MR_CMD.STATUS. -/
abbrev RDM_MR_CMD_STATUS : Fld Reg := ⟨.RDM_MR_CMD, 47, 32⟩
/-- RDM_MR_CMD.INDEX. -/
abbrev RDM_MR_CMD_INDEX : Fld Reg := ⟨.RDM_MR_CMD, 19, 0⟩
/-- HQ_CTL.FAB_MAXQ. -/
abbrev HQ_CTL_FAB_MAXQ : Fld Reg := ⟨.HQ_CTL, 15, 8⟩
/-- HQ_CTL.FWC_EN. -/
abbrev HQ_CTL_FWC_EN : Fld Reg := ⟨.HQ_CTL, 1, 1⟩
/-- HQ_CTL.FAB_EN. -/
abbrev HQ_CTL_FAB_EN : Fld Reg := ⟨.HQ_CTL, 0, 0⟩
/-- HQ_ST.FABQ. -/
abbrev HQ_ST_FABQ : Fld Reg := ⟨.HQ_ST, 52, 32⟩
/-- HQ_ST.PF0_SQ. -/
abbrev HQ_ST_PF0_SQ : Fld Reg := ⟨.HQ_ST, 24, 16⟩
/-- HQ_ST.FETCH_PAUSED. -/
abbrev HQ_ST_FETCH_PAUSED : Fld Reg := ⟨.HQ_ST, 3, 3⟩
/-- HQ_ST.CSTATE. -/
abbrev HQ_ST_CSTATE : Fld Reg := ⟨.HQ_ST, 2, 0⟩
/-- HQ_EVT.FAB_END. -/
abbrev HQ_EVT_FAB_END : Fld Reg := ⟨.HQ_EVT, 4, 4⟩
/-- HQ_EVT.ABORT. -/
abbrev HQ_EVT_ABORT : Fld Reg := ⟨.HQ_EVT, 3, 3⟩
/-- HQ_EVT.SHUTDOWN. -/
abbrev HQ_EVT_SHUTDOWN : Fld Reg := ⟨.HQ_EVT, 2, 2⟩
/-- HQ_EVT.CTRL_RESET. -/
abbrev HQ_EVT_CTRL_RESET : Fld Reg := ⟨.HQ_EVT, 1, 1⟩
/-- HQ_EVT.FWC. -/
abbrev HQ_EVT_FWC : Fld Reg := ⟨.HQ_EVT, 0, 0⟩
/-- HQ_FQ_BASE.BASE. -/
abbrev HQ_FQ_BASE_BASE : Fld Reg := ⟨.HQ_FQ_BASE, 63, 30⟩
/-- HQ_FQ_BASE.EN. -/
abbrev HQ_FQ_BASE_EN : Fld Reg := ⟨.HQ_FQ_BASE, 0, 0⟩
/-- HQ_FWC_BASE.BASE. -/
abbrev HQ_FWC_BASE_BASE : Fld Reg := ⟨.HQ_FWC_BASE, 63, 12⟩
/-- HQ_FWC_BASE.SIZE. -/
abbrev HQ_FWC_BASE_SIZE : Fld Reg := ⟨.HQ_FWC_BASE, 3, 0⟩
/-- HQ_FWC_BUF.BASE. -/
abbrev HQ_FWC_BUF_BASE : Fld Reg := ⟨.HQ_FWC_BUF, 63, 16⟩
/-- HQ_FWC_PTR.HEAD. -/
abbrev HQ_FWC_PTR_HEAD : Fld Reg := ⟨.HQ_FWC_PTR, 39, 32⟩
/-- HQ_FWC_PTR.TAIL. -/
abbrev HQ_FWC_PTR_TAIL : Fld Reg := ⟨.HQ_FWC_PTR, 7, 0⟩
/-- HQ_HEALTH_FW.DEGRADED. -/
abbrev HQ_HEALTH_FW_DEGRADED : Fld Reg := ⟨.HQ_HEALTH_FW, 1, 1⟩
/-- HQ_HEALTH_FW.PICOT_VOID. -/
abbrev HQ_HEALTH_FW_PICOT_VOID : Fld Reg := ⟨.HQ_HEALTH_FW, 0, 0⟩
/-- HQ_CNT.ABORTED. -/
abbrev HQ_CNT_ABORTED : Fld Reg := ⟨.HQ_CNT, 63, 48⟩
/-- HQ_CNT.ABORT_MISSED. -/
abbrev HQ_CNT_ABORT_MISSED : Fld Reg := ⟨.HQ_CNT, 47, 32⟩
/-- HQ_CNT.ABANDONED. -/
abbrev HQ_CNT_ABANDONED : Fld Reg := ⟨.HQ_CNT, 31, 0⟩
/-- HQ_ERR.STATUS. -/
abbrev HQ_ERR_STATUS : Fld Reg := ⟨.HQ_ERR, 63, 48⟩
/-- HQ_ERR.QID. -/
abbrev HQ_ERR_QID : Fld Reg := ⟨.HQ_ERR, 47, 32⟩
/-- HQ_ERR.CID. -/
abbrev HQ_ERR_CID : Fld Reg := ⟨.HQ_ERR, 31, 16⟩
/-- HQ_ERR.VALID. -/
abbrev HQ_ERR_VALID : Fld Reg := ⟨.HQ_ERR, 0, 0⟩
/-- EP_CTL.L1_EN. -/
abbrev EP_CTL_L1_EN : Fld Reg := ⟨.EP_CTL, 2, 2⟩
/-- EP_CTL.RETRAIN. -/
abbrev EP_CTL_RETRAIN : Fld Reg := ⟨.EP_CTL, 1, 1⟩
/-- EP_CTL.PF0_AVAIL. -/
abbrev EP_CTL_PF0_AVAIL : Fld Reg := ⟨.EP_CTL, 0, 0⟩
/-- EP_ST.CTO_MS. -/
abbrev EP_ST_CTO_MS : Fld Reg := ⟨.EP_ST, 63, 48⟩
/-- EP_ST.QUAR. -/
abbrev EP_ST_QUAR : Fld Reg := ⟨.EP_ST, 41, 32⟩
/-- EP_ST.HOLD. -/
abbrev EP_ST_HOLD : Fld Reg := ⟨.EP_ST, 24, 24⟩
/-- EP_ST.D3_1. -/
abbrev EP_ST_D3_1 : Fld Reg := ⟨.EP_ST, 23, 23⟩
/-- EP_ST.D3_0. -/
abbrev EP_ST_D3_0 : Fld Reg := ⟨.EP_ST, 22, 22⟩
/-- EP_ST.FLR1. -/
abbrev EP_ST_FLR1 : Fld Reg := ⟨.EP_ST, 21, 21⟩
/-- EP_ST.FLR0. -/
abbrev EP_ST_FLR0 : Fld Reg := ⟨.EP_ST, 20, 20⟩
/-- EP_ST.DRAIN1. -/
abbrev EP_ST_DRAIN1 : Fld Reg := ⟨.EP_ST, 19, 19⟩
/-- EP_ST.DRAIN0. -/
abbrev EP_ST_DRAIN0 : Fld Reg := ⟨.EP_ST, 18, 18⟩
/-- EP_ST.BME1. -/
abbrev EP_ST_BME1 : Fld Reg := ⟨.EP_ST, 17, 17⟩
/-- EP_ST.BME0. -/
abbrev EP_ST_BME0 : Fld Reg := ⟨.EP_ST, 16, 16⟩
/-- EP_ST.FLIT. -/
abbrev EP_ST_FLIT : Fld Reg := ⟨.EP_ST, 11, 11⟩
/-- EP_ST.UP. -/
abbrev EP_ST_UP : Fld Reg := ⟨.EP_ST, 10, 10⟩
/-- EP_ST.WIDTH. -/
abbrev EP_ST_WIDTH : Fld Reg := ⟨.EP_ST, 9, 4⟩
/-- EP_ST.SPEED. -/
abbrev EP_ST_SPEED : Fld Reg := ⟨.EP_ST, 3, 0⟩
/-- EP_EVT.PERST. -/
abbrev EP_EVT_PERST : Fld Reg := ⟨.EP_EVT, 9, 9⟩
/-- EP_EVT.POISON_OUT. -/
abbrev EP_EVT_POISON_OUT : Fld Reg := ⟨.EP_EVT, 8, 8⟩
/-- EP_EVT.POISON_IN. -/
abbrev EP_EVT_POISON_IN : Fld Reg := ⟨.EP_EVT, 7, 7⟩
/-- EP_EVT.UNEXP_CPL. -/
abbrev EP_EVT_UNEXP_CPL : Fld Reg := ⟨.EP_EVT, 6, 6⟩
/-- EP_EVT.CPL_TIMEOUT. -/
abbrev EP_EVT_CPL_TIMEOUT : Fld Reg := ⟨.EP_EVT, 5, 5⟩
/-- EP_EVT.BME_CLEAR. -/
abbrev EP_EVT_BME_CLEAR : Fld Reg := ⟨.EP_EVT, 4, 4⟩
/-- EP_EVT.FLR1. -/
abbrev EP_EVT_FLR1 : Fld Reg := ⟨.EP_EVT, 3, 3⟩
/-- EP_EVT.FLR0. -/
abbrev EP_EVT_FLR0 : Fld Reg := ⟨.EP_EVT, 2, 2⟩
/-- EP_EVT.LINK_UP. -/
abbrev EP_EVT_LINK_UP : Fld Reg := ⟨.EP_EVT, 1, 1⟩
/-- EP_EVT.LINK_DOWN. -/
abbrev EP_EVT_LINK_DOWN : Fld Reg := ⟨.EP_EVT, 0, 0⟩
/-- EP_CNT.CPL_TIMEOUT. -/
abbrev EP_CNT_CPL_TIMEOUT : Fld Reg := ⟨.EP_CNT, 63, 48⟩
/-- EP_CNT.UNEXP_CPL. -/
abbrev EP_CNT_UNEXP_CPL : Fld Reg := ⟨.EP_CNT, 47, 32⟩
/-- EP_CNT.POISON_IN. -/
abbrev EP_CNT_POISON_IN : Fld Reg := ⟨.EP_CNT, 31, 16⟩
/-- EP_CNT.POISON_OUT. -/
abbrev EP_CNT_POISON_OUT : Fld Reg := ⟨.EP_CNT, 15, 0⟩
/-- EP_ERR.STATUS. -/
abbrev EP_ERR_STATUS : Fld Reg := ⟨.EP_ERR, 63, 48⟩
/-- EP_ERR.TAG. -/
abbrev EP_ERR_TAG : Fld Reg := ⟨.EP_ERR, 41, 32⟩
/-- EP_ERR.FUNC. -/
abbrev EP_ERR_FUNC : Fld Reg := ⟨.EP_ERR, 16, 16⟩
/-- EP_ERR.VALID. -/
abbrev EP_ERR_VALID : Fld Reg := ⟨.EP_ERR, 0, 0⟩
/-- EP_ID.SUBSYS_ID. -/
abbrev EP_ID_SUBSYS_ID : Fld Reg := ⟨.EP_ID, 31, 16⟩
/-- EP_ID.SUBSYS_VID. -/
abbrev EP_ID_SUBSYS_VID : Fld Reg := ⟨.EP_ID, 15, 0⟩
/-- EP_PF1_RAISE.VEC. -/
abbrev EP_PF1_RAISE_VEC : Fld Reg := ⟨.EP_PF1_RAISE, 31, 0⟩
/-- DIG_CTL.TAP_EN. -/
abbrev DIG_CTL_TAP_EN : Fld Reg := ⟨.DIG_CTL, 0, 0⟩
/-- DIG_ST.STATUS. -/
abbrev DIG_ST_STATUS : Fld Reg := ⟨.DIG_ST, 31, 16⟩
/-- DIG_ST.SHORT. -/
abbrev DIG_ST_SHORT : Fld Reg := ⟨.DIG_ST, 2, 2⟩
/-- DIG_ST.TRUNC. -/
abbrev DIG_ST_TRUNC : Fld Reg := ⟨.DIG_ST, 1, 1⟩
/-- DIG_ST.VALID. -/
abbrev DIG_ST_VALID : Fld Reg := ⟨.DIG_ST, 0, 0⟩
/-- DIG_CTX_ST.WAITING. -/
abbrev DIG_CTX_ST_WAITING : Fld Reg := ⟨.DIG_CTX_ST, 47, 32⟩
/-- DIG_CTX_ST.TAP. -/
abbrev DIG_CTX_ST_TAP : Fld Reg := ⟨.DIG_CTX_ST, 24, 16⟩
/-- DIG_CTX_ST.BOUND. -/
abbrev DIG_CTX_ST_BOUND : Fld Reg := ⟨.DIG_CTX_ST, 8, 0⟩
/-- DIG_CNT.TAP_MISS. -/
abbrev DIG_CNT_TAP_MISS : Fld Reg := ⟨.DIG_CNT, 63, 32⟩
/-- DIG_CNT.TRUNC. -/
abbrev DIG_CNT_TRUNC : Fld Reg := ⟨.DIG_CNT, 31, 16⟩
/-- DIG_CNT.SHORT. -/
abbrev DIG_CNT_SHORT : Fld Reg := ⟨.DIG_CNT, 15, 0⟩
/-- DIG_RES_ST.LEN_W. -/
abbrev DIG_RES_ST_LEN_W : Fld Reg := ⟨.DIG_RES_ST, 7, 4⟩
/-- DIG_RES_ST.HELD. -/
abbrev DIG_RES_ST_HELD : Fld Reg := ⟨.DIG_RES_ST, 0, 0⟩
/-- DIG_RES.DATA. -/
abbrev DIG_RES_DATA : Fld Reg := ⟨.DIG_RES, 63, 0⟩
/-- DIG_JQ_BASE.BASE. -/
abbrev DIG_JQ_BASE_BASE : Fld Reg := ⟨.DIG_JQ_BASE, 63, 12⟩
/-- DIG_JQ_BASE.SIZE. -/
abbrev DIG_JQ_BASE_SIZE : Fld Reg := ⟨.DIG_JQ_BASE, 3, 0⟩
/-- DIG_JQ_CTL.IRQ_EN. -/
abbrev DIG_JQ_CTL_IRQ_EN : Fld Reg := ⟨.DIG_JQ_CTL, 8, 8⟩
/-- DIG_JQ_CTL.HART. -/
abbrev DIG_JQ_CTL_HART : Fld Reg := ⟨.DIG_JQ_CTL, 7, 4⟩
/-- DIG_JQ_CTL.EN. -/
abbrev DIG_JQ_CTL_EN : Fld Reg := ⟨.DIG_JQ_CTL, 0, 0⟩
/-- DIG_JQ_TAIL.TAIL. -/
abbrev DIG_JQ_TAIL_TAIL : Fld Reg := ⟨.DIG_JQ_TAIL, 11, 0⟩
/-- DIG_JQ_HEAD.HEAD. -/
abbrev DIG_JQ_HEAD_HEAD : Fld Reg := ⟨.DIG_JQ_HEAD, 11, 0⟩
/-- CMP_CTL.FIX_STRIDE. -/
abbrev CMP_CTL_FIX_STRIDE : Fld Reg := ⟨.CMP_CTL, 31, 16⟩
/-- CMP_CTL.FIX_PRED. -/
abbrev CMP_CTL_FIX_PRED : Fld Reg := ⟨.CMP_CTL, 10, 8⟩
/-- CMP_CTL.DYN_EN. -/
abbrev CMP_CTL_DYN_EN : Fld Reg := ⟨.CMP_CTL, 2, 2⟩
/-- CMP_CTL.STATIC_EN. -/
abbrev CMP_CTL_STATIC_EN : Fld Reg := ⟨.CMP_CTL, 1, 1⟩
/-- CMP_CTL.FORCE_STORED. -/
abbrev CMP_CTL_FORCE_STORED : Fld Reg := ⟨.CMP_CTL, 0, 0⟩
/-- CMP_ST.WAITING. -/
abbrev CMP_ST_WAITING : Fld Reg := ⟨.CMP_ST, 47, 32⟩
/-- CMP_ST.BUSY1. -/
abbrev CMP_ST_BUSY1 : Fld Reg := ⟨.CMP_ST, 20, 16⟩
/-- CMP_ST.BUSY0. -/
abbrev CMP_ST_BUSY0 : Fld Reg := ⟨.CMP_ST, 4, 0⟩
/-- CMP_CNT_IN.IN_BYTES. -/
abbrev CMP_CNT_IN_IN_BYTES : Fld Reg := ⟨.CMP_CNT_IN, 63, 0⟩
/-- CMP_CNT_OUT.OUT_BYTES. -/
abbrev CMP_CNT_OUT_OUT_BYTES : Fld Reg := ⟨.CMP_CNT_OUT, 63, 0⟩
/-- CMP_CNT_KIND.DYNAMIC. -/
abbrev CMP_CNT_KIND_DYNAMIC : Fld Reg := ⟨.CMP_CNT_KIND, 63, 32⟩
/-- CMP_CNT_KIND.STATIC. -/
abbrev CMP_CNT_KIND_STATIC : Fld Reg := ⟨.CMP_CNT_KIND, 31, 0⟩
/-- CMP_CNT_STORED.STORED. -/
abbrev CMP_CNT_STORED_STORED : Fld Reg := ⟨.CMP_CNT_STORED, 63, 32⟩
/-- CMP_CNT_STORED.CTX_WAIT. -/
abbrev CMP_CNT_STORED_CTX_WAIT : Fld Reg := ⟨.CMP_CNT_STORED, 31, 0⟩
/-- CMP_ERR.STATUS. -/
abbrev CMP_ERR_STATUS : Fld Reg := ⟨.CMP_ERR, 63, 48⟩
/-- CMP_ERR.VALID. -/
abbrev CMP_ERR_VALID : Fld Reg := ⟨.CMP_ERR, 0, 0⟩
/-- CIP_CTL.PAIR_ID. -/
abbrev CIP_CTL_PAIR_ID : Fld Reg := ⟨.CIP_CTL, 11, 8⟩
/-- CIP_ST.WAITING. -/
abbrev CIP_ST_WAITING : Fld Reg := ⟨.CIP_ST, 47, 32⟩
/-- CIP_ST.FENCED. -/
abbrev CIP_ST_FENCED : Fld Reg := ⟨.CIP_ST, 14, 8⟩
/-- CIP_ST.GEN_RETIRED. -/
abbrev CIP_ST_GEN_RETIRED : Fld Reg := ⟨.CIP_ST, 7, 0⟩
/-- CIP_EVT.UNWRAP_FAIL. -/
abbrev CIP_EVT_UNWRAP_FAIL : Fld Reg := ⟨.CIP_EVT, 4, 4⟩
/-- CIP_EVT.SLOT_EMPTY. -/
abbrev CIP_EVT_SLOT_EMPTY : Fld Reg := ⟨.CIP_EVT, 3, 3⟩
/-- CIP_EVT.ALL_FENCED. -/
abbrev CIP_EVT_ALL_FENCED : Fld Reg := ⟨.CIP_EVT, 2, 2⟩
/-- CIP_EVT.CHECK_FAIL. -/
abbrev CIP_EVT_CHECK_FAIL : Fld Reg := ⟨.CIP_EVT, 1, 1⟩
/-- CIP_EVT.TAG_FAIL. -/
abbrev CIP_EVT_TAG_FAIL : Fld Reg := ⟨.CIP_EVT, 0, 0⟩
/-- CIP_FENCE_LO.LANE. -/
abbrev CIP_FENCE_LO_LANE : Fld Reg := ⟨.CIP_FENCE_LO, 63, 0⟩
/-- CIP_FENCE_HI.LANE. -/
abbrev CIP_FENCE_HI_LANE : Fld Reg := ⟨.CIP_FENCE_HI, 31, 0⟩
/-- CIP_CNT.CHECK_FAIL. -/
abbrev CIP_CNT_CHECK_FAIL : Fld Reg := ⟨.CIP_CNT, 63, 32⟩
/-- CIP_CNT.TAG_FAIL. -/
abbrev CIP_CNT_TAG_FAIL : Fld Reg := ⟨.CIP_CNT, 31, 0⟩
/-- CIP_GEN_HWM.BLOCK. -/
abbrev CIP_GEN_HWM_BLOCK : Fld Reg := ⟨.CIP_GEN_HWM, 47, 0⟩
/-- CIP_KEK.KEY. -/
abbrev CIP_KEK_KEY : Fld Reg := ⟨.CIP_KEK, 63, 0⟩
/-- CIP_KEK_CTL.GEN. -/
abbrev CIP_KEK_CTL_GEN : Fld Reg := ⟨.CIP_KEK_CTL, 31, 16⟩
/-- CIP_KEK_CTL.KEYS_DONE. -/
abbrev CIP_KEK_CTL_KEYS_DONE : Fld Reg := ⟨.CIP_KEK_CTL, 2, 2⟩
/-- CIP_KEK_CTL.VALID. -/
abbrev CIP_KEK_CTL_VALID : Fld Reg := ⟨.CIP_KEK_CTL, 1, 1⟩
/-- CIP_KEK_CTL.LOAD. -/
abbrev CIP_KEK_CTL_LOAD : Fld Reg := ⟨.CIP_KEK_CTL, 0, 0⟩
/-- CIP_WRAP.DATA. -/
abbrev CIP_WRAP_DATA : Fld Reg := ⟨.CIP_WRAP, 63, 0⟩
/-- CIP_SLOT_CMD.GO. -/
abbrev CIP_SLOT_CMD_GO : Fld Reg := ⟨.CIP_SLOT_CMD, 31, 31⟩
/-- CIP_SLOT_CMD.BUSY. -/
abbrev CIP_SLOT_CMD_BUSY : Fld Reg := ⟨.CIP_SLOT_CMD, 30, 30⟩
/-- CIP_SLOT_CMD.OP. -/
abbrev CIP_SLOT_CMD_OP : Fld Reg := ⟨.CIP_SLOT_CMD, 29, 28⟩
/-- CIP_SLOT_CMD.KIND. -/
abbrev CIP_SLOT_CMD_KIND : Fld Reg := ⟨.CIP_SLOT_CMD, 27, 27⟩
/-- CIP_SLOT_CMD.STATUS. -/
abbrev CIP_SLOT_CMD_STATUS : Fld Reg := ⟨.CIP_SLOT_CMD, 26, 12⟩
/-- CIP_SLOT_CMD.SLOT. -/
abbrev CIP_SLOT_CMD_SLOT : Fld Reg := ⟨.CIP_SLOT_CMD, 11, 0⟩
/-- CIP_SLOT_ST.KCV. -/
abbrev CIP_SLOT_ST_KCV : Fld Reg := ⟨.CIP_SLOT_ST, 63, 32⟩
/-- CIP_SLOT_ST.USE. -/
abbrev CIP_SLOT_ST_USE : Fld Reg := ⟨.CIP_SLOT_ST, 31, 16⟩
/-- CIP_SLOT_ST.KIND. -/
abbrev CIP_SLOT_ST_KIND : Fld Reg := ⟨.CIP_SLOT_ST, 3, 3⟩
/-- CIP_SLOT_ST.STATE. -/
abbrev CIP_SLOT_ST_STATE : Fld Reg := ⟨.CIP_SLOT_ST, 2, 0⟩
/-- ECU_CTL.PAD_AGE. -/
abbrev ECU_CTL_PAD_AGE : Fld Reg := ⟨.ECU_CTL, 31, 16⟩
/-- ECU_CTL.RETRY_MAX. -/
abbrev ECU_CTL_RETRY_MAX : Fld Reg := ⟨.ECU_CTL, 11, 8⟩
/-- ECU_CTL.PATROL_EN. -/
abbrev ECU_CTL_PATROL_EN : Fld Reg := ⟨.ECU_CTL, 0, 0⟩
/-- ECU_ST.MAX_M. -/
abbrev ECU_ST_MAX_M : Fld Reg := ⟨.ECU_ST, 63, 60⟩
/-- ECU_ST.STATUS. -/
abbrev ECU_ST_STATUS : Fld Reg := ⟨.ECU_ST, 47, 32⟩
/-- ECU_ST.WAITING. -/
abbrev ECU_ST_WAITING : Fld Reg := ⟨.ECU_ST, 31, 16⟩
/-- ECU_ST.BUSY1. -/
abbrev ECU_ST_BUSY1 : Fld Reg := ⟨.ECU_ST, 12, 8⟩
/-- ECU_ST.BUSY0. -/
abbrev ECU_ST_BUSY0 : Fld Reg := ⟨.ECU_ST, 4, 0⟩
/-- ECU_EVT.NO_MEMBERS. -/
abbrev ECU_EVT_NO_MEMBERS : Fld Reg := ⟨.ECU_EVT, 7, 7⟩
/-- ECU_EVT.FD_SHORT. -/
abbrev ECU_EVT_FD_SHORT : Fld Reg := ⟨.ECU_EVT, 6, 6⟩
/-- ECU_EVT.PATROL_BEHIND. -/
abbrev ECU_EVT_PATROL_BEHIND : Fld Reg := ⟨.ECU_EVT, 5, 5⟩
/-- ECU_EVT.PATROL_MISMATCH. -/
abbrev ECU_EVT_PATROL_MISMATCH : Fld Reg := ⟨.ECU_EVT, 4, 4⟩
/-- ECU_EVT.ROW_LOST. -/
abbrev ECU_EVT_ROW_LOST : Fld Reg := ⟨.ECU_EVT, 3, 3⟩
/-- ECU_EVT.NO_SPARE. -/
abbrev ECU_EVT_NO_SPARE : Fld Reg := ⟨.ECU_EVT, 2, 2⟩
/-- ECU_EVT.REBUILD_DONE. -/
abbrev ECU_EVT_REBUILD_DONE : Fld Reg := ⟨.ECU_EVT, 1, 1⟩
/-- ECU_EVT.MEMBER_FAIL. -/
abbrev ECU_EVT_MEMBER_FAIL : Fld Reg := ⟨.ECU_EVT, 0, 0⟩
/-- ECU_CNT1.ROWS_LOST. -/
abbrev ECU_CNT1_ROWS_LOST : Fld Reg := ⟨.ECU_CNT1, 63, 48⟩
/-- ECU_CNT1.PAD_PAGES. -/
abbrev ECU_CNT1_PAD_PAGES : Fld Reg := ⟨.ECU_CNT1, 47, 32⟩
/-- ECU_CNT1.RECON. -/
abbrev ECU_CNT1_RECON : Fld Reg := ⟨.ECU_CNT1, 31, 0⟩
/-- ECU_CNT2.PARITY_BAD. -/
abbrev ECU_CNT2_PARITY_BAD : Fld Reg := ⟨.ECU_CNT2, 63, 48⟩
/-- ECU_CNT2.CORRECTED. -/
abbrev ECU_CNT2_CORRECTED : Fld Reg := ⟨.ECU_CNT2, 47, 32⟩
/-- ECU_CNT2.RETRIED. -/
abbrev ECU_CNT2_RETRIED : Fld Reg := ⟨.ECU_CNT2, 31, 0⟩
/-- ECU_RB_CTL.PACE_MIBS. -/
abbrev ECU_RB_CTL_PACE_MIBS : Fld Reg := ⟨.ECU_RB_CTL, 31, 16⟩
/-- ECU_RB_CTL.URGENT_X. -/
abbrev ECU_RB_CTL_URGENT_X : Fld Reg := ⟨.ECU_RB_CTL, 15, 12⟩
/-- ECU_RB_CTL.GC_PCT. -/
abbrev ECU_RB_CTL_GC_PCT : Fld Reg := ⟨.ECU_RB_CTL, 7, 0⟩
/-- ECU_RB_ST.BANDS_LEFT. -/
abbrev ECU_RB_ST_BANDS_LEFT : Fld Reg := ⟨.ECU_RB_ST, 63, 32⟩
/-- ECU_RB_ST.EXPOSED. -/
abbrev ECU_RB_ST_EXPOSED : Fld Reg := ⟨.ECU_RB_ST, 31, 8⟩
/-- ECU_RB_ST.ACTIVE. -/
abbrev ECU_RB_ST_ACTIVE : Fld Reg := ⟨.ECU_RB_ST, 0, 0⟩
/-- ECU_PAT_ST.CHECKED. -/
abbrev ECU_PAT_ST_CHECKED : Fld Reg := ⟨.ECU_PAT_ST, 63, 32⟩
/-- ECU_PAT_ST.TOTAL. -/
abbrev ECU_PAT_ST_TOTAL : Fld Reg := ⟨.ECU_PAT_ST, 31, 0⟩
/-- ECU_PAT_START.STITCH. -/
abbrev ECU_PAT_START_STITCH : Fld Reg := ⟨.ECU_PAT_START, 63, 0⟩
/-- ECU_MOD.STATUS. -/
abbrev ECU_MOD_STATUS : Fld Reg := ⟨.ECU_MOD, 63, 48⟩
/-- ECU_MOD.FD. -/
abbrev ECU_MOD_FD : Fld Reg := ⟨.ECU_MOD, 29, 24⟩
/-- ECU_MOD.CAUSE. -/
abbrev ECU_MOD_CAUSE : Fld Reg := ⟨.ECU_MOD, 19, 16⟩
/-- ECU_MOD.REINSTATE. -/
abbrev ECU_MOD_REINSTATE : Fld Reg := ⟨.ECU_MOD, 9, 9⟩
/-- ECU_MOD.FAIL. -/
abbrev ECU_MOD_FAIL : Fld Reg := ⟨.ECU_MOD, 8, 8⟩
/-- ECU_MOD.ROLE. -/
abbrev ECU_MOD_ROLE : Fld Reg := ⟨.ECU_MOD, 2, 0⟩
/-- MED_GC_CTL.FREE_LOW_PCT. -/
abbrev MED_GC_CTL_FREE_LOW_PCT : Fld Reg := ⟨.MED_GC_CTL, 31, 24⟩
/-- MED_GC_CTL.GC_RESV_PCT. -/
abbrev MED_GC_CTL_GC_RESV_PCT : Fld Reg := ⟨.MED_GC_CTL, 23, 16⟩
/-- MED_GC_CTL.WP_EXIT_PCT. -/
abbrev MED_GC_CTL_WP_EXIT_PCT : Fld Reg := ⟨.MED_GC_CTL, 15, 8⟩
/-- MED_GC_CTL.MAX_ACTIVE. -/
abbrev MED_GC_CTL_MAX_ACTIVE : Fld Reg := ⟨.MED_GC_CTL, 7, 0⟩
/-- MED_MEDIA_CTL.SPARE_WARN_PCT. -/
abbrev MED_MEDIA_CTL_SPARE_WARN_PCT : Fld Reg := ⟨.MED_MEDIA_CTL, 39, 32⟩
/-- MED_MEDIA_CTL.RD_PCT. -/
abbrev MED_MEDIA_CTL_RD_PCT : Fld Reg := ⟨.MED_MEDIA_CTL, 31, 24⟩
/-- MED_MEDIA_CTL.SPARE_RESV_PCT. -/
abbrev MED_MEDIA_CTL_SPARE_RESV_PCT : Fld Reg := ⟨.MED_MEDIA_CTL, 23, 16⟩
/-- MED_MEDIA_CTL.WEAR_SPREAD. -/
abbrev MED_MEDIA_CTL_WEAR_SPREAD : Fld Reg := ⟨.MED_MEDIA_CTL, 15, 0⟩
/-- MED_STG_CTL.LIMIT_MIB. -/
abbrev MED_STG_CTL_LIMIT_MIB : Fld Reg := ⟨.MED_STG_CTL, 31, 16⟩
/-- MED_CKPT_CTL.PASS. -/
abbrev MED_CKPT_CTL_PASS : Fld Reg := ⟨.MED_CKPT_CTL, 31, 0⟩
/-- MED_ST.FREE_PCT. -/
abbrev MED_ST_FREE_PCT : Fld Reg := ⟨.MED_ST, 63, 56⟩
/-- MED_ST.GC_ACTIVE. -/
abbrev MED_ST_GC_ACTIVE : Fld Reg := ⟨.MED_ST, 55, 48⟩
/-- MED_ST.OPEN_BANDS. -/
abbrev MED_ST_OPEN_BANDS : Fld Reg := ⟨.MED_ST, 47, 32⟩
/-- MED_ST.SPARE_MIN_PCT. -/
abbrev MED_ST_SPARE_MIN_PCT : Fld Reg := ⟨.MED_ST, 31, 24⟩
/-- MED_ST.CAP. -/
abbrev MED_ST_CAP : Fld Reg := ⟨.MED_ST, 1, 0⟩
/-- MED_EVT.VAULT_INCOMPLETE. -/
abbrev MED_EVT_VAULT_INCOMPLETE : Fld Reg := ⟨.MED_EVT, 6, 6⟩
/-- MED_EVT.STAGING_FULL. -/
abbrev MED_EVT_STAGING_FULL : Fld Reg := ⟨.MED_EVT, 5, 5⟩
/-- MED_EVT.REFRESH. -/
abbrev MED_EVT_REFRESH : Fld Reg := ⟨.MED_EVT, 4, 4⟩
/-- MED_EVT.RETIRED. -/
abbrev MED_EVT_RETIRED : Fld Reg := ⟨.MED_EVT, 3, 3⟩
/-- MED_EVT.SPARE_LOW. -/
abbrev MED_EVT_SPARE_LOW : Fld Reg := ⟨.MED_EVT, 2, 2⟩
/-- MED_EVT.FULL. -/
abbrev MED_EVT_FULL : Fld Reg := ⟨.MED_EVT, 1, 1⟩
/-- MED_EVT.LOW. -/
abbrev MED_EVT_LOW : Fld Reg := ⟨.MED_EVT, 0, 0⟩
/-- MED_GC_CNT.BANDS. -/
abbrev MED_GC_CNT_BANDS : Fld Reg := ⟨.MED_GC_CNT, 63, 32⟩
/-- MED_GC_CNT.COPIED_MIB. -/
abbrev MED_GC_CNT_COPIED_MIB : Fld Reg := ⟨.MED_GC_CNT, 31, 0⟩
/-- MED_VAULT_ST.CAP_MIB. -/
abbrev MED_VAULT_ST_CAP_MIB : Fld Reg := ⟨.MED_VAULT_ST, 63, 32⟩
/-- MED_VAULT_ST.INCOMPLETE. -/
abbrev MED_VAULT_ST_INCOMPLETE : Fld Reg := ⟨.MED_VAULT_ST, 3, 3⟩
/-- MED_VAULT_ST.READY_B. -/
abbrev MED_VAULT_ST_READY_B : Fld Reg := ⟨.MED_VAULT_ST, 2, 2⟩
/-- MED_VAULT_ST.READY_A. -/
abbrev MED_VAULT_ST_READY_A : Fld Reg := ⟨.MED_VAULT_ST, 1, 1⟩
/-- MED_VAULT_ST.NEXT. -/
abbrev MED_VAULT_ST_NEXT : Fld Reg := ⟨.MED_VAULT_ST, 0, 0⟩
/-- MED_HSEL.MODULE. -/
abbrev MED_HSEL_MODULE : Fld Reg := ⟨.MED_HSEL, 7, 0⟩
/-- MED_HEALTH.SPARE_PCT. -/
abbrev MED_HEALTH_SPARE_PCT : Fld Reg := ⟨.MED_HEALTH, 63, 56⟩
/-- MED_HEALTH.WEAR_PCT. -/
abbrev MED_HEALTH_WEAR_PCT : Fld Reg := ⟨.MED_HEALTH, 55, 48⟩
/-- MED_HEALTH.TEMP_C. -/
abbrev MED_HEALTH_TEMP_C : Fld Reg := ⟨.MED_HEALTH, 39, 32⟩
/-- MED_HEALTH.MAX_ERASES. -/
abbrev MED_HEALTH_MAX_ERASES : Fld Reg := ⟨.MED_HEALTH, 31, 0⟩
/-- MED_HERR.COUNT. -/
abbrev MED_HERR_COUNT : Fld Reg := ⟨.MED_HERR, 63, 0⟩
/-- MED_HTEMP.MINUTES. -/
abbrev MED_HTEMP_MINUTES : Fld Reg := ⟨.MED_HTEMP, 31, 0⟩
/-- BOB_CTL.QD_LIMIT. -/
abbrev BOB_CTL_QD_LIMIT : Fld Reg := ⟨.BOB_CTL, 23, 16⟩
/-- BOB_CTL.HOTPLUG_EN. -/
abbrev BOB_CTL_HOTPLUG_EN : Fld Reg := ⟨.BOB_CTL, 4, 4⟩
/-- BOB_CTL.QDEPTH_LOG2. -/
abbrev BOB_CTL_QDEPTH_LOG2 : Fld Reg := ⟨.BOB_CTL, 3, 0⟩
/-- BOB_TMO.ERASE_MS. -/
abbrev BOB_TMO_ERASE_MS : Fld Reg := ⟨.BOB_TMO, 63, 48⟩
/-- BOB_TMO.PROG_MS. -/
abbrev BOB_TMO_PROG_MS : Fld Reg := ⟨.BOB_TMO, 47, 32⟩
/-- BOB_TMO.ADMIN_MS. -/
abbrev BOB_TMO_ADMIN_MS : Fld Reg := ⟨.BOB_TMO, 31, 16⟩
/-- BOB_TMO.READ_US. -/
abbrev BOB_TMO_READ_US : Fld Reg := ⟨.BOB_TMO, 15, 0⟩
/-- BOB_EVT.REJECTED. -/
abbrev BOB_EVT_REJECTED : Fld Reg := ⟨.BOB_EVT, 5, 5⟩
/-- BOB_EVT.MOD_FAILED. -/
abbrev BOB_EVT_MOD_FAILED : Fld Reg := ⟨.BOB_EVT, 4, 4⟩
/-- BOB_EVT.ADDED. -/
abbrev BOB_EVT_ADDED : Fld Reg := ⟨.BOB_EVT, 3, 3⟩
/-- BOB_EVT.LINK_DOWN. -/
abbrev BOB_EVT_LINK_DOWN : Fld Reg := ⟨.BOB_EVT, 2, 2⟩
/-- BOB_EVT.LATE. -/
abbrev BOB_EVT_LATE : Fld Reg := ⟨.BOB_EVT, 1, 1⟩
/-- BOB_EVT.TIMEOUT. -/
abbrev BOB_EVT_TIMEOUT : Fld Reg := ⟨.BOB_EVT, 0, 0⟩
/-- BOB_ERR.STATUS. -/
abbrev BOB_ERR_STATUS : Fld Reg := ⟨.BOB_ERR, 63, 48⟩
/-- BOB_ERR.MODULE. -/
abbrev BOB_ERR_MODULE : Fld Reg := ⟨.BOB_ERR, 47, 40⟩
/-- BOB_ERR.OPCODE. -/
abbrev BOB_ERR_OPCODE : Fld Reg := ⟨.BOB_ERR, 39, 32⟩
/-- BOB_ERR.QID. -/
abbrev BOB_ERR_QID : Fld Reg := ⟨.BOB_ERR, 31, 28⟩
/-- BOB_ERR.VALID. -/
abbrev BOB_ERR_VALID : Fld Reg := ⟨.BOB_ERR, 0, 0⟩
/-- BOB_CNT.TIMEOUT. -/
abbrev BOB_CNT_TIMEOUT : Fld Reg := ⟨.BOB_CNT, 63, 48⟩
/-- BOB_CNT.LATE. -/
abbrev BOB_CNT_LATE : Fld Reg := ⟨.BOB_CNT, 47, 32⟩
/-- BOB_CNT.ABORTED. -/
abbrev BOB_CNT_ABORTED : Fld Reg := ⟨.BOB_CNT, 31, 16⟩
/-- BOB_CNT.BAD_DMA. -/
abbrev BOB_CNT_BAD_DMA : Fld Reg := ⟨.BOB_CNT, 15, 0⟩
/-- BOB_PORT_ST.SLOTS. -/
abbrev BOB_PORT_ST_SLOTS : Fld Reg := ⟨.BOB_PORT_ST, 63, 56⟩
/-- BOB_PORT_ST.SPEED. -/
abbrev BOB_PORT_ST_SPEED : Fld Reg := ⟨.BOB_PORT_ST, 15, 12⟩
/-- BOB_PORT_ST.WIDTH. -/
abbrev BOB_PORT_ST_WIDTH : Fld Reg := ⟨.BOB_PORT_ST, 11, 8⟩
/-- BOB_PORT_ST.SWITCH. -/
abbrev BOB_PORT_ST_SWITCH : Fld Reg := ⟨.BOB_PORT_ST, 1, 1⟩
/-- BOB_PORT_ST.UP. -/
abbrev BOB_PORT_ST_UP : Fld Reg := ⟨.BOB_PORT_ST, 0, 0⟩
/-- BOB_MOD_ST.LAST_STATUS. -/
abbrev BOB_MOD_ST_LAST_STATUS : Fld Reg := ⟨.BOB_MOD_ST, 63, 48⟩
/-- BOB_MOD_ST.OUTSTANDING. -/
abbrev BOB_MOD_ST_OUTSTANDING : Fld Reg := ⟨.BOB_MOD_ST, 47, 32⟩
/-- BOB_MOD_ST.MODULE. -/
abbrev BOB_MOD_ST_MODULE : Fld Reg := ⟨.BOB_MOD_ST, 31, 24⟩
/-- BOB_MOD_ST.QUARANTINE. -/
abbrev BOB_MOD_ST_QUARANTINE : Fld Reg := ⟨.BOB_MOD_ST, 2, 2⟩
/-- BOB_MOD_ST.READY. -/
abbrev BOB_MOD_ST_READY : Fld Reg := ⟨.BOB_MOD_ST, 1, 1⟩
/-- BOB_MOD_ST.PRESENT. -/
abbrev BOB_MOD_ST_PRESENT : Fld Reg := ⟨.BOB_MOD_ST, 0, 0⟩
/-- DRM_CFG.TEMP_CRIT. -/
abbrev DRM_CFG_TEMP_CRIT : Fld Reg := ⟨.DRM_CFG, 31, 24⟩
/-- DRM_CFG.CE_THRESH. -/
abbrev DRM_CFG_CE_THRESH : Fld Reg := ⟨.DRM_CFG, 23, 16⟩
/-- DRM_CFG.MAX_RATE. -/
abbrev DRM_CFG_MAX_RATE : Fld Reg := ⟨.DRM_CFG, 3, 0⟩
/-- DRM_ST.DIMM_GIB. -/
abbrev DRM_ST_DIMM_GIB : Fld Reg := ⟨.DRM_ST, 47, 40⟩
/-- DRM_ST.RANKS. -/
abbrev DRM_ST_RANKS : Fld Reg := ⟨.DRM_ST, 39, 36⟩
/-- DRM_ST.RATE. -/
abbrev DRM_ST_RATE : Fld Reg := ⟨.DRM_ST, 35, 32⟩
/-- DRM_ST.MRDIMM. -/
abbrev DRM_ST_MRDIMM : Fld Reg := ⟨.DRM_ST, 8, 8⟩
/-- DRM_ST.HOT. -/
abbrev DRM_ST_HOT : Fld Reg := ⟨.DRM_ST, 7, 4⟩
/-- DRM_ST.TRAINED. -/
abbrev DRM_ST_TRAINED : Fld Reg := ⟨.DRM_ST, 3, 0⟩
/-- DRM_EVT.HOT. -/
abbrev DRM_EVT_HOT : Fld Reg := ⟨.DRM_EVT, 3, 3⟩
/-- DRM_EVT.CE_STORM. -/
abbrev DRM_EVT_CE_STORM : Fld Reg := ⟨.DRM_EVT, 2, 2⟩
/-- DRM_EVT.UE. -/
abbrev DRM_EVT_UE : Fld Reg := ⟨.DRM_EVT, 1, 1⟩
/-- DRM_EVT.CE. -/
abbrev DRM_EVT_CE : Fld Reg := ⟨.DRM_EVT, 0, 0⟩
/-- DRM_ERR.KIND. -/
abbrev DRM_ERR_KIND : Fld Reg := ⟨.DRM_ERR, 63, 62⟩
/-- DRM_ERR.CH. -/
abbrev DRM_ERR_CH : Fld Reg := ⟨.DRM_ERR, 61, 60⟩
/-- DRM_ERR.DEVICE. -/
abbrev DRM_ERR_DEVICE : Fld Reg := ⟨.DRM_ERR, 59, 56⟩
/-- DRM_ERR.SUB. -/
abbrev DRM_ERR_SUB : Fld Reg := ⟨.DRM_ERR, 55, 55⟩
/-- DRM_ERR.SCRUB. -/
abbrev DRM_ERR_SCRUB : Fld Reg := ⟨.DRM_ERR, 54, 54⟩
/-- DRM_ERR.LINE. -/
abbrev DRM_ERR_LINE : Fld Reg := ⟨.DRM_ERR, 38, 7⟩
/-- DRM_ERR.VALID. -/
abbrev DRM_ERR_VALID : Fld Reg := ⟨.DRM_ERR, 0, 0⟩
/-- DRM_CNT.CE. -/
abbrev DRM_CNT_CE : Fld Reg := ⟨.DRM_CNT, 63, 32⟩
/-- DRM_CNT.UE. -/
abbrev DRM_CNT_UE : Fld Reg := ⟨.DRM_CNT, 31, 16⟩
/-- DRM_CNT.POISON_USE. -/
abbrev DRM_CNT_POISON_USE : Fld Reg := ⟨.DRM_CNT, 15, 0⟩
/-- DRM_SCRUB_ST.PASSES. -/
abbrev DRM_SCRUB_ST_PASSES : Fld Reg := ⟨.DRM_SCRUB_ST, 63, 48⟩
/-- DRM_SCRUB_ST.NEXT. -/
abbrev DRM_SCRUB_ST_NEXT : Fld Reg := ⟨.DRM_SCRUB_ST, 38, 7⟩
/-- CCH_CTL.CORE_CLASS. -/
abbrev CCH_CTL_CORE_CLASS : Fld Reg := ⟨.CCH_CTL, 5, 4⟩
/-- CCH_CTL.POLICY. -/
abbrev CCH_CTL_POLICY : Fld Reg := ⟨.CCH_CTL, 1, 1⟩
/-- CCH_CTL.EN. -/
abbrev CCH_CTL_EN : Fld Reg := ⟨.CCH_CTL, 0, 0⟩
/-- CCH_ST.DIRTY. -/
abbrev CCH_ST_DIRTY : Fld Reg := ⟨.CCH_ST, 63, 32⟩
/-- CCH_ST.SCR_WAYS. -/
abbrev CCH_ST_SCR_WAYS : Fld Reg := ⟨.CCH_ST, 23, 20⟩
/-- CCH_ST.VICTIM. -/
abbrev CCH_ST_VICTIM : Fld Reg := ⟨.CCH_ST, 15, 9⟩
/-- CCH_ST.EN_PEND. -/
abbrev CCH_ST_EN_PEND : Fld Reg := ⟨.CCH_ST, 2, 2⟩
/-- CCH_ST.DRAIN. -/
abbrev CCH_ST_DRAIN : Fld Reg := ⟨.CCH_ST, 0, 0⟩
/-- CCH_EVT.VICTIM_STALL. -/
abbrev CCH_EVT_VICTIM_STALL : Fld Reg := ⟨.CCH_EVT, 2, 2⟩
/-- CCH_EVT.DRAIN_DONE. -/
abbrev CCH_EVT_DRAIN_DONE : Fld Reg := ⟨.CCH_EVT, 1, 1⟩
/-- CCH_EVT.MAINT_DONE. -/
abbrev CCH_EVT_MAINT_DONE : Fld Reg := ⟨.CCH_EVT, 0, 0⟩
/-- CCH_MAINT.GO. -/
abbrev CCH_MAINT_GO : Fld Reg := ⟨.CCH_MAINT, 63, 63⟩
/-- CCH_MAINT.BUSY. -/
abbrev CCH_MAINT_BUSY : Fld Reg := ⟨.CCH_MAINT, 62, 62⟩
/-- CCH_MAINT.OP. -/
abbrev CCH_MAINT_OP : Fld Reg := ⟨.CCH_MAINT, 61, 60⟩
/-- CCH_MAINT.MODE. -/
abbrev CCH_MAINT_MODE : Fld Reg := ⟨.CCH_MAINT, 59, 59⟩
/-- CCH_MAINT.ALL. -/
abbrev CCH_MAINT_ALL : Fld Reg := ⟨.CCH_MAINT, 58, 58⟩
/-- CCH_MAINT.STATUS. -/
abbrev CCH_MAINT_STATUS : Fld Reg := ⟨.CCH_MAINT, 57, 42⟩
/-- CCH_MAINT.LINES. -/
abbrev CCH_MAINT_LINES : Fld Reg := ⟨.CCH_MAINT, 41, 18⟩
/-- CCH_MAINT.WAY. -/
abbrev CCH_MAINT_WAY : Fld Reg := ⟨.CCH_MAINT, 17, 14⟩
/-- CCH_MAINT.SET. -/
abbrev CCH_MAINT_SET : Fld Reg := ⟨.CCH_MAINT, 13, 0⟩
/-- CCH_MAINT_ADDR.ADDR. -/
abbrev CCH_MAINT_ADDR_ADDR : Fld Reg := ⟨.CCH_MAINT_ADDR, 63, 7⟩
/-- CCH_CNT.MISS. -/
abbrev CCH_CNT_MISS : Fld Reg := ⟨.CCH_CNT, 63, 32⟩
/-- CCH_CNT.VICTIM_RECALL. -/
abbrev CCH_CNT_VICTIM_RECALL : Fld Reg := ⟨.CCH_CNT, 31, 16⟩
/-- CCH_CNT.VICTIM_STALL. -/
abbrev CCH_CNT_VICTIM_STALL : Fld Reg := ⟨.CCH_CNT, 15, 0⟩
/-- ECC_CTL.HARD_THRESH. -/
abbrev ECC_CTL_HARD_THRESH : Fld Reg := ⟨.ECC_CTL, 15, 8⟩
/-- ECC_CTL.INJECT_EN. -/
abbrev ECC_CTL_INJECT_EN : Fld Reg := ⟨.ECC_CTL, 0, 0⟩
/-- ECC_ST.STRUCT. -/
abbrev ECC_ST_STRUCT : Fld Reg := ⟨.ECC_ST, 63, 56⟩
/-- ECC_ST.INST. -/
abbrev ECC_ST_INST : Fld Reg := ⟨.ECC_ST, 55, 48⟩
/-- ECC_ST.KIND. -/
abbrev ECC_ST_KIND : Fld Reg := ⟨.ECC_ST, 47, 44⟩
/-- ECC_ST.WORD. -/
abbrev ECC_ST_WORD : Fld Reg := ⟨.ECC_ST, 43, 16⟩
/-- ECC_ST.VALID. -/
abbrev ECC_ST_VALID : Fld Reg := ⟨.ECC_ST, 0, 0⟩
/-- ECC_CNT.CORRECTED. -/
abbrev ECC_CNT_CORRECTED : Fld Reg := ⟨.ECC_CNT, 63, 32⟩
/-- ECC_CNT.UNCORRECTABLE. -/
abbrev ECC_CNT_UNCORRECTABLE : Fld Reg := ⟨.ECC_CNT, 31, 16⟩
/-- ECC_CNT.REPAIRED. -/
abbrev ECC_CNT_REPAIRED : Fld Reg := ⟨.ECC_CNT, 15, 0⟩
/-- ECC_TV.REWRITES. -/
abbrev ECC_TV_REWRITES : Fld Reg := ⟨.ECC_TV, 63, 32⟩
/-- ECC_TV.LAST_WORD. -/
abbrev ECC_TV_LAST_WORD : Fld Reg := ⟨.ECC_TV, 31, 24⟩
/-- ECC_FLIP_TARGET.ARMED. -/
abbrev ECC_FLIP_TARGET_ARMED : Fld Reg := ⟨.ECC_FLIP_TARGET, 63, 63⟩
/-- ECC_FLIP_TARGET.FIRED. -/
abbrev ECC_FLIP_TARGET_FIRED : Fld Reg := ⟨.ECC_FLIP_TARGET, 62, 62⟩
/-- ECC_FLIP_TARGET.ADDR_MATCH. -/
abbrev ECC_FLIP_TARGET_ADDR_MATCH : Fld Reg := ⟨.ECC_FLIP_TARGET, 61, 61⟩
/-- ECC_FLIP_TARGET.CHECK. -/
abbrev ECC_FLIP_TARGET_CHECK : Fld Reg := ⟨.ECC_FLIP_TARGET, 55, 48⟩
/-- ECC_FLIP_TARGET.MEM. -/
abbrev ECC_FLIP_TARGET_MEM : Fld Reg := ⟨.ECC_FLIP_TARGET, 47, 40⟩
/-- ECC_FLIP_TARGET.INST. -/
abbrev ECC_FLIP_TARGET_INST : Fld Reg := ⟨.ECC_FLIP_TARGET, 39, 32⟩
/-- ECC_FLIP_TARGET.WORD. -/
abbrev ECC_FLIP_TARGET_WORD : Fld Reg := ⟨.ECC_FLIP_TARGET, 19, 16⟩
/-- ECC_FLIP_TARGET.INDEX. -/
abbrev ECC_FLIP_TARGET_INDEX : Fld Reg := ⟨.ECC_FLIP_TARGET, 15, 0⟩
/-- ECC_FLIP_MASK.MASK. -/
abbrev ECC_FLIP_MASK_MASK : Fld Reg := ⟨.ECC_FLIP_MASK, 63, 0⟩
/-- ECC_FLIP_ADDR.ADDR. -/
abbrev ECC_FLIP_ADDR_ADDR : Fld Reg := ⟨.ECC_FLIP_ADDR, 63, 7⟩
/-- LPM_IMON_CFG.IMAX_DA. -/
abbrev LPM_IMON_CFG_IMAX_DA : Fld Reg := ⟨.LPM_IMON_CFG, 63, 48⟩
/-- LPM_IMON_CFG.VOLT_MV. -/
abbrev LPM_IMON_CFG_VOLT_MV : Fld Reg := ⟨.LPM_IMON_CFG, 47, 32⟩
/-- LPM_IMON_CFG.GAIN_UA. -/
abbrev LPM_IMON_CFG_GAIN_UA : Fld Reg := ⟨.LPM_IMON_CFG, 31, 16⟩
/-- LPM_IMON_CFG.OFFSET. -/
abbrev LPM_IMON_CFG_OFFSET : Fld Reg := ⟨.LPM_IMON_CFG, 11, 0⟩
/-- LPM_IMON_ST.MA. -/
abbrev LPM_IMON_ST_MA : Fld Reg := ⟨.LPM_IMON_ST, 63, 32⟩
/-- LPM_IMON_ST.FAULT. -/
abbrev LPM_IMON_ST_FAULT : Fld Reg := ⟨.LPM_IMON_ST, 15, 15⟩
/-- LPM_IMON_ST.CAUSE. -/
abbrev LPM_IMON_ST_CAUSE : Fld Reg := ⟨.LPM_IMON_ST, 14, 13⟩
/-- LPM_IMON_ST.CODE. -/
abbrev LPM_IMON_ST_CODE : Fld Reg := ⟨.LPM_IMON_ST, 11, 0⟩
/-- LPM_POWER.TOTAL_W10. -/
abbrev LPM_POWER_TOTAL_W10 : Fld Reg := ⟨.LPM_POWER, 63, 48⟩
/-- LPM_POWER.P2_W10. -/
abbrev LPM_POWER_P2_W10 : Fld Reg := ⟨.LPM_POWER, 47, 32⟩
/-- LPM_POWER.P1_W10. -/
abbrev LPM_POWER_P1_W10 : Fld Reg := ⟨.LPM_POWER, 31, 16⟩
/-- LPM_POWER.P0_W10. -/
abbrev LPM_POWER_P0_W10 : Fld Reg := ⟨.LPM_POWER, 15, 0⟩
/-- LPM_TEMP.N3. -/
abbrev LPM_TEMP_N3 : Fld Reg := ⟨.LPM_TEMP, 63, 48⟩
/-- LPM_TEMP.N2. -/
abbrev LPM_TEMP_N2 : Fld Reg := ⟨.LPM_TEMP, 47, 32⟩
/-- LPM_TEMP.N1. -/
abbrev LPM_TEMP_N1 : Fld Reg := ⟨.LPM_TEMP, 31, 16⟩
/-- LPM_TEMP.N0. -/
abbrev LPM_TEMP_N0 : Fld Reg := ⟨.LPM_TEMP, 15, 0⟩
/-- LPM_FACT_R.R_3P. -/
abbrev LPM_FACT_R_R_3P : Fld Reg := ⟨.LPM_FACT_R, 63, 48⟩
/-- LPM_FACT_R.R_23. -/
abbrev LPM_FACT_R_R_23 : Fld Reg := ⟨.LPM_FACT_R, 47, 32⟩
/-- LPM_FACT_R.R_13. -/
abbrev LPM_FACT_R_R_13 : Fld Reg := ⟨.LPM_FACT_R, 31, 16⟩
/-- LPM_FACT_R.R_03. -/
abbrev LPM_FACT_R_R_03 : Fld Reg := ⟨.LPM_FACT_R, 15, 0⟩
/-- LPM_FACT_C.C3. -/
abbrev LPM_FACT_C_C3 : Fld Reg := ⟨.LPM_FACT_C, 63, 48⟩
/-- LPM_FACT_C.C2. -/
abbrev LPM_FACT_C_C2 : Fld Reg := ⟨.LPM_FACT_C, 47, 32⟩
/-- LPM_FACT_C.C1. -/
abbrev LPM_FACT_C_C1 : Fld Reg := ⟨.LPM_FACT_C, 31, 16⟩
/-- LPM_FACT_C.C0. -/
abbrev LPM_FACT_C_C0 : Fld Reg := ⟨.LPM_FACT_C, 15, 0⟩
/-- LPM_ST.CLK_CAP. -/
abbrev LPM_ST_CLK_CAP : Fld Reg := ⟨.LPM_ST, 2, 2⟩
/-- LPM_ST.FORCED. -/
abbrev LPM_ST_FORCED : Fld Reg := ⟨.LPM_ST, 1, 1⟩
/-- LPM_ST.IMON_LOST. -/
abbrev LPM_ST_IMON_LOST : Fld Reg := ⟨.LPM_ST, 0, 0⟩

end F

end Sys2Proof.Machine
end

