-- ==== Sys2Proof/Machine/RegOps.lean ====
section
/-! DEFINITION. Where a register stands (R6, R469), which motif holds it (R19, R39), what a reset leaves in it (R13, R14), and what
a write by software makes of its value (R9). -/

namespace Sys2Proof.Machine

/-- The base of a window in PF1 BAR0 (R6): the package window, or that of motif `m`. -/
def windowBase (pkg : Bool) (m : Nat) : Nat := if pkg then 0 else 0x1000000 * (m + 1)

/-- The bytes of a block position: 64 KiB in the package window, 1 MiB in a motif window (R469). -/
def blockSize (pkg : Bool) : Nat := if pkg then 0x10000 else 0x100000

/-- The offset of element `i` of a register within its block. -/
def RegSpec.elemOfs (t : RegSpec) (i : Nat) : Nat := t.off + (i / t.count2) * t.stride + (i % t.count2) * t.stride2

/-- The R6 address of element `i` of a register, in the window of motif `m` where it stands in a motif window. -/
def Reg.addr (r : Reg) (m i : Nat) : Nat :=
  windowBase r.spec.pkg m + r.spec.block * blockSize r.spec.pkg + r.spec.elemOfs i

/-- The element of a register at an offset of its block. -/
def RegSpec.elemAt (t : RegSpec) (ofs : Nat) : Option Nat :=
  if ofs < t.off then none
  else
    let d := ofs - t.off
    let i := if t.stride = 0 then 0 else d / t.stride
    let rest := if t.stride = 0 then d else d % t.stride
    let j := if t.stride2 = 0 then 0 else rest / t.stride2
    let rest2 := if t.stride2 = 0 then rest else rest % t.stride2
    if rest2 = 0 ∧ i < t.count ∧ j < t.count2 then some (i * t.count2 + j) else none

/-- The register at an offset of a block, with the element index. -/
def regAtOffset (pkg : Bool) (block ofs : Nat) : Option (Reg × Nat) :=
  Reg.all.findSome? (fun r =>
    if r.spec.pkg == pkg && r.spec.block == block then (r.spec.elemAt ofs).map (fun i => (r, i)) else none)

/-- The register at an R6 address: register, motif and element. -/
def regOfAddr (a : Nat) : Option (Reg × Nat × Nat) :=
  if a < 0x100000 then (regAtOffset true (a / 0x10000) (a % 0x10000)).map (fun p => (p.1, 0, p.2))
  else if a < 0x1000000 then none
  else
    let w := a % 0x1000000
    (regAtOffset false (w / 0x100000) (w % 0x100000)).map (fun p => (p.1, a / 0x1000000 - 1, p.2))

/-- Whether a presence rule holds on motif `n` of a package (R19, R39). -/
def presentOn (c : Caps) (p : Presence) (n : Nat) : Bool :=
  match p with
  | .always => true
  | .root => decide (n = 0)
  | .optC => c.optC
  | .optE => c.optE
  | .optERoot => c.optE && decide (n = 0)

/-- Whether a package holds a register of motif `m`. -/
def Reg.presentIn (c : Caps) (r : Reg) (m : Nat) : Bool :=
  (r.spec.pkg || decide (m < c.motifs)) && presentOn c r.spec.presence m

/-- The value a register has when every field is at its reset value. -/
def RegSpec.resetNat (t : RegSpec) : Nat := t.fields.foldl (fun a f => a + f.reset * 2 ^ f.lo) 0

/-- The value a register has when every field is at its reset value. -/
def Reg.resetVal (r : Reg) : Word64 := BitVec.ofNat 64 r.spec.resetNat

/-- Whether a field's Reset column lists a reset kind (R14). -/
def Letters.has (l : Letters) (k : ResetKind) : Bool :=
  match k, l with
  | .powerOn, _ => true
  | .warm, .p => false
  | .warm, _ => true
  | .motif, .pwm => true
  | .motif, _ => false
  | .flr, .pwf => true
  | .flr, .pwfc => true
  | .flr, _ => false
  | .controller, .pwfc => true
  | .controller, _ => false

/-- The value of a register after a reset of a kind: the fields that list it take their reset value, the others stay. -/
def RegSpec.afterReset (t : RegSpec) (k : ResetKind) (v : Nat) : Nat :=
  t.fields.foldl (fun v f => if f.letters.has k then setBits v f.hi f.lo f.reset else v) v

/-- The bits of a field row. -/
def FieldSpec.mask (f : FieldSpec) : Nat := (2 ^ (f.hi + 1 - f.lo) - 1) * 2 ^ f.lo

/-- Whether a field is pricking-locked: by its row, or, for an RW field, by the lock set (R81). -/
def FieldSpec.isPL (f : FieldSpec) (lockSet : Bool) : Bool := f.extra == .pl || (f.acc == .rw && lockSet)

/-- What a software write of `x` makes of one field holding `old` (R9); a WO field keeps what was written for the unit. -/
def FieldSpec.write (f : FieldSpec) (old x : Nat) : Nat :=
  match f.acc with
  | .rw => x
  | .wo => x
  | .w1s => old ||| x
  | .w1c => old ^^^ (old &&& x)
  | .ro => old
  | .rc => old

/-- What a software write makes of a register: each field by its type, PL fields kept while `closed` (R11). -/
def RegSpec.write (t : RegSpec) (closed lockSet : Bool) (old x : Nat) : Nat :=
  t.fields.foldl (fun v f =>
    if closed && f.isPL lockSet then v
    else setBits v f.hi f.lo (f.write (bits old f.hi f.lo) (bits x f.hi f.lo))) old

/-- A write carries for some PL field a value other than its present one (R11). -/
def RegSpec.changesPL (t : RegSpec) (lockSet : Bool) (old x : Nat) : Bool :=
  t.fields.any (fun f => f.isPL lockSet && (bits old f.hi f.lo != bits x f.hi f.lo))

/-- What software reads: WO and reserved bits read as zero (R8, R9). -/
def RegSpec.visible (t : RegSpec) (v : Nat) : Nat :=
  t.fields.foldl (fun a f => if f.acc == .wo then a else setBits a f.hi f.lo (bits v f.hi f.lo)) 0

/-- What an RC read leaves: the bits of RC fields returned as 1 are cleared (R10). -/
def RegSpec.afterRead (t : RegSpec) (v : Nat) : Nat :=
  t.fields.foldl (fun a f => if f.acc == .rc then setBits a f.hi f.lo 0 else a) v

end Sys2Proof.Machine
end

