-- ==== Sys2Proof/Machine/Sparse.lean ====
section
/-! DEFINITION. Sparse data by key: a list of (key, value) pairs, keys strictly rising, holding no entry equal to the
default that an unlisted key reads as. The one representation of registers, memory, flash and tables in the state. -/

namespace Sys2Proof.Machine

/-- A sparse map from natural numbers. -/
abbrev Sparse (β : Type) := List (Nat × β)

/-- The value at a key; `d` where the key is not listed. -/
def Sparse.get (d : β) : Sparse β → Nat → β
  | [], _ => d
  | (k, v) :: t, a => if k = a then v else Sparse.get d t a

/-- The map without key `a`. -/
def Sparse.erase (m : Sparse β) (a : Nat) : Sparse β := m.filter (fun p => p.1 ≠ a)

/-- The map with key `a` holding `v`, put in key order. -/
def Sparse.put : Sparse β → Nat → β → Sparse β
  | [], a, v => [(a, v)]
  | (k, w) :: t, a, v =>
    if a < k then (a, v) :: (k, w) :: t
    else if a = k then (a, v) :: t
    else (k, w) :: Sparse.put t a v

/-- The map with key `a` reading `v`: writing the default removes the entry. -/
def Sparse.set [DecidableEq β] (d : β) (m : Sparse β) (a : Nat) (v : β) : Sparse β :=
  if v = d then Sparse.erase m a else Sparse.put m a v

/-- Keys strictly rise. -/
def Sparse.sorted : Sparse β → Bool
  | [] => true
  | [_] => true
  | (a, _) :: (b, w) :: t => decide (a < b) && Sparse.sorted ((b, w) :: t)

/-- The canonical form: keys strictly rise and no entry equals the default. -/
def Sparse.wf [DecidableEq β] (d : β) (m : Sparse β) : Bool :=
  Sparse.sorted m && m.all (fun p => decide (p.2 ≠ d))

/-- `n` values from key `a` on. -/
def Sparse.getRange (d : β) (m : Sparse β) (a : Nat) : Nat → List β
  | 0 => []
  | n + 1 => Sparse.get d m a :: Sparse.getRange d m (a + 1) n

/-- The map with a run of values written from key `a` on. -/
def Sparse.setRange [DecidableEq β] (d : β) (m : Sparse β) (a : Nat) : List β → Sparse β
  | [] => m
  | v :: t => Sparse.setRange d (Sparse.set d m a v) (a + 1) t

/-- The map with every key from `a` to below `a + n` reading the default. -/
def Sparse.clearRange (m : Sparse β) (a n : Nat) : Sparse β :=
  m.filter (fun p => !(decide (a ≤ p.1) && decide (p.1 < a + n)))

end Sys2Proof.Machine
end

