-- ==== Sys2Proof/Machine/State.lean ====
section
/-! DEFINITION. The state of the block: registers, memories, links, queues and counters, as plain data, and the state right after reset. -/

namespace Sys2Proof.Machine

/-- The reasons a command can stop with a fault. -/
inductive Fault where
  /-- A rule of the spec gives the machine no state to go on with. Raised by nothing in this model: every failure of the part is an
  effect on the state. Safe. -/
  | stuck (what : String)
  deriving DecidableEq, Repr

/-- The reasons a command can be refused. -/
inductive Refusal where
  /-- A command whose meaning is not written yet. Raised by the dispatch alone. Safe. -/
  | notModelled (mnemonic : String)
  deriving DecidableEq, Repr

/-- What the unit's fuses hold (R93 step 2, R34, R70, R429, R438): `spareRows` the spare rows and columns switched in on each motif (R422), `subsys` Subsystem ID and Vendor ID of the host
endpoint where they are fused (R385). -/
structure Fuses where
  caps : Caps
  stepMaj : Nat
  stepMin : Nat
  unitId : Nat
  relienKey : Bytes
  customerKey : Option Bytes
  imaxLpm : List (Nat × Nat)
  imaxPkg : List Nat
  factR : List Nat
  factC : List Nat
  cPkg : Nat
  vddCoreMv : List Nat
  spareRows : List Nat
  subsys : Option (Nat × Nat)
  crcOk : Bool
  deriving DecidableEq, Repr

/-- The board side of power: the always-on rails, the PEN outputs raised, PGOOD, and whether power is held off (R479 to R481). -/
structure PowerSt where
  aonGood : Bool
  pen : Nat
  pgood : Bool
  running : Bool
  holdOff : Bool
  testMode : Bool
  deriving DecidableEq, Repr

/-- The stitch logic beside its registers (R46 to R58); `skew` is the pair skew of the last record, before PAIR_SKEW saturates, and `slots` are the schedule
slots that have fired in this stitch. -/
structure StitchSt where
  phase : Nat
  syms : List Symbol
  collecting : Bool
  markerNum : Nat
  ended : List FrameEnd
  lastErr : Int
  srcNum : Nat
  srcAt : Nat
  lastGood : Option Nat
  badRun : Nat
  disagreeRun : Nat
  outRun : Nat
  ptpRun : Nat
  ptpFreq : Int
  ptpAt : Nat
  holdoverAt : Nat
  relocking : Bool
  disagreePair : Nat
  agreePair : Nat
  skew : Int
  slots : List Nat
  deriving DecidableEq, Repr

/-- One IMON channel: last code, how long it has not changed, good samples in a row, fault and its cause (R432). -/
structure ImonCh where
  code : Nat
  same : Nat
  good : Nat
  fault : Nat
  deriving DecidableEq, Repr, Inhabited

/-- The four node temperatures of a motif, in degrees Celsius (R438). -/
structure Nodes where
  n0 : Rat
  n1 : Rat
  n2 : Rat
  n3 : Rat
  deriving DecidableEq, Repr, Inhabited

/-- The thermal model and current sensing beside their registers (R431 to R444). Powers are summed in nanowatts; `inletAt` is the stitch of the last write of INLET, `noticeAt` the
stitch from which the next notices of level 2 or 3 go out (R443). -/
structure ThermSt where
  nodes : List Nodes
  pkg : Rat
  acc : List (Rat × Rat × Rat)
  accPkg : Rat
  samples : Nat
  imonPkg : List ImonCh
  imonLpm : List (ImonCh × ImonCh)
  lostRun : List Nat
  force : List Bool
  inletAt : Option Nat
  noticeAt : Nat
  grace : Nat
  dimm : Bool
  warnMs : Nat
  throttleMs : Nat
  enfDebt : List Nat
  enfUsed : List Nat
  deriving DecidableEq, Repr

/-- The hold-up telemetry beside its registers (R435): a read that runs, the stitch in which Winding step 3 began while the read that it asks for is owed, the energy of
the last good read in joules; and the stitch of the last poll of the regulators (R430). -/
structure HoldUpSt where
  reading : Bool
  owed : Option Nat
  energy : Rat
  dumpDone : Bool
  inputGood : Bool
  polledAt : Nat
  deriving DecidableEq, Repr

/-- The bride link and pairing beside their registers (R110 to R135): the groups; the record snapped at slot 0; the last two records received and the
local stitch of the last one on time; the entries last sent and last received, by kind and number; a run of records whose HALIVE disagrees (R121);
a resynchronisation under way and the stitch named for its end; the ground being handed over with the cause (1 CLM_HANDOVER, 2 Rethread, 3 handback) and whether its REQUEST is sent, those that
follow, and those moved in this run with their OWNERSHIP kind; DROP entries owed; grounds handed over in this Rethread; whether step 12 left vault and
logs to the partner head (R495 case 1), the grounds whose vaults and logs it has applied, and whether step 14 has raised its claims; the partner head's last TRAIN_ID; MSEQ by
motif; parts received of records that are not whole (R114); CONN and CACHE entries changed and not yet sent, with the stitch
of the change (R115); answers to atomics that wait for their MIRROR frame (R117); grounds whose takeover under R125 waits for CLAIM_SET, with the staging log and
the fabrics controllers that it will take up; and the status word of the last refusal of pairing (R111). -/
structure PairSt where
  groups : List BrideGroup
  snap : Option Record
  last : Option Record
  prev : Option Record
  gotStitch : Option Nat
  sent : List RecEntry
  theirs : List RecEntry
  haRun : Nat
  rejoin : Bool
  named : Option Nat
  handing : Option Nat
  handWhy : Nat
  asked : Bool
  handQueue : List Nat
  moved : List Nat
  movedKind : Nat
  drops : List (Nat × Nat × Nat)
  gone : List Nat
  kept : Bool
  replayed : List Nat
  assigned : Bool
  partnerId : Option TrainId
  mseq : List Nat
  parts : List Record
  ages : List (RecEntry × Nat)
  answers : List AtomicWait
  taking : List Nat
  takeLog : List StageEnt
  takeCtrls : List Ctrl
  refusal : Nat
  deriving DecidableEq, Repr

/-- Admission and the write buffer (R142 to R149). -/
structure DataSt where
  dirty : Nat
  held : Nat
  unack : Nat
  unackC : List Nat
  partnerLimit : Nat
  writes : List Write
  atoms : List BufAtom
  copies : List HeldAtom
  nextWrite : Nat
  arrivals : Nat
  deriving DecidableEq, Repr

/-- The metadata that the journal and the checkpoint make durable (R151 to R157, R232 to R236, R335 to R340). `opens` are the stripes with a
STRIPE_OPEN and no STRIPE_DONE (R262). -/
structure Maps where
  namespaces : List Namespace
  views : List View
  dirs : Sparse DirPage
  pages : Sparse MapPage
  nextPage : Nat
  ctab : Sparse CEntry
  mmap : Sparse MEntry
  bands : List Band
  nextBand : Nat
  blocks : Sparse BlockDesc
  units : List Nat
  marks : Sparse Nat
  mods : Sparse ModState
  repl : Sparse ReplState
  opens : List (Nat × Nat)
  deriving DecidableEq, Repr

/-- Media management beside its registers: the maps, the last checkpoint, the journal since then, streams, stripes and flushes in progress,
the fingerprint index, the staging logs and the vault areas; the metadata journals, the system pages that are written, the next page of each system block that takes pages (the last
written last), system blocks to be erased, checkpoint passes that end, the stitch of each motif's last pass, the last root sequence number of each ground, the valid system pages
that Winding has read; bands that are rebuilt, stream pages whose packing buffer has
an uncorrectable DRAM error (R263), and the stitch of each walker's last release (R347). -/
structure MediaSt where
  maps : Maps
  ckpt : Maps
  txns : List Txn
  nextTxn : Nat
  streams : List Stream
  packed : List PackRec
  stripes : List StripeJob
  flushes : List FlushJob
  fps : List FpEntry
  staging : List StageEnt
  entrySeq : Nat
  vaultA : VaultArea
  vaultB : VaultArea
  patrol : Sparse Nat
  scrub : Nat
  rowsLost : Nat
  padPages : Sparse Nat
  logs : List JLog
  pages : List SysPage
  nextPage : Nat
  sysNext : List (BlockId × Nat)
  stale : List BlockId
  ckpts : List CkptJob
  passes : Sparse Nat
  rootSeq : Sparse Nat
  found : List PageInfo
  rebuilds : List RebuildJob
  spoiled : List Nat
  walks : Sparse Nat
  deriving DecidableEq, Repr

/-- The bobbin side: modules, commands posted and not completed, completions written and not consumed, quarantined identifiers (R293) with
the stitch of their timeout, held commands (R291), reads that wait for pages, temperature histograms by 16 × module + bin, SPARE blocks reserved at first discovery, uncorrectable
reads by block, and the last TELEMETRY data by module. -/
structure BobSt where
  modules : List Module
  cmds : List BobCmd
  cpls : List BobCpl
  quar : List (BobCmd × Nat)
  nextCid : Nat
  heldCmds : List BobCmd
  retries : List BobCmd
  jobs : List ReadJob
  nextJob : Nat
  temps : Sparse Nat
  spares : Sparse Nat
  uncorr : Sparse Nat
  tele : Sparse Bytes
  deriving DecidableEq, Repr

/-- The host queue logic beside its registers (R359 to R379). `cpls` are completions that wait to be posted, `fwc` the ring slots forwarded
with their commands, `attach` the namespaces attached to controllers, `deleting` the namespaces being deleted, `aborts` the Abort commands carried out with their targets (R368). -/
structure HqSt where
  ctrls : List Ctrl
  cmds : List HostCmd
  cpls : List HostCpl
  fwc : List FwSlot
  attach : List (Nat × Nat)
  deleting : List Nat
  unsafeOffs : Nat
  aborts : List (CmdId × CmdId)
  deriving DecidableEq, Repr

/-- The host endpoint beside its registers (R381 to R401). `bme` is the configuration register of each function, `unmasked` and `pba` its
vectors, `reads` the outstanding reads of host memory by tag, `todo` the reads not yet issued, `cfg` the bytes of configuration space that
the host wrote, `msix` the MSI-X tables as written, `dropped` the tags of reads that a function-level reset has given up (R393), `times` the stitch at which a tag's read was issued or
quarantined (R395, R397), `aerU` and `aerC` the uncorrectable and correctable error status of AER (R399). -/
structure EpSt where
  served : Bool
  perst : Bool
  bme0 : Bool
  bme1 : Bool
  unmasked0 : List Nat
  unmasked1 : List Nat
  pba0 : List Nat
  pba1 : List Nat
  reads : List (Nat × HostReadWhy)
  todo : List HostReadWhy
  quar : List Nat
  dropped : List Nat
  times : List (Nat × Nat)
  aerU0 : Nat
  aerU1 : Nat
  aerC0 : Nat
  aerC1 : Nat
  cfg0 : Sparse (Option Byte)
  cfg1 : Sparse (Option Byte)
  msix0 : Sparse Byte
  msix1 : Sparse Byte
  deriving DecidableEq, Repr

/-- The network ports and RDMA beside their registers (R299 to R333): connections, miss queues, the region being revoked with its placements in flight,
priorities sent XOFF by motif, sub-port and priority, priorities paused by the peer, connections refused credit by connection, motif and class,
HAVE tokens of writes not held here yet (R132), the generation of each context index, packets held for a ground that is HANDING (R128), packets of twin connections that wait for the next stitch, and
the stitch with the commands that each motif has accepted in it (R115). -/
structure NetSt where
  conns : List Conn
  missq : List MissPkt
  revoking : Option Nat
  xoff : List (Nat × Nat × Nat)
  paused : List (Nat × Nat × Nat)
  rnrWait : List (Nat × Nat × Nat)
  haves : List HaveEntry
  gens : Sparse Nat
  held : List (Packet × BadPages)
  late : List (Packet × BadPages)
  freshAt : Nat
  fresh : List Nat
  deriving DecidableEq, Repr

/-- Snapshots and replication beside their registers (R335 to R356): cuts that wait, and targets. -/
structure RplSt where
  cuts : List PendingCut
  targets : Sparse Target
  deriving DecidableEq, Repr

/-- The cipher engine beside its registers (R213 to R224): keys by slot, the key-encryption key, generator counters by motif and group,
how often each lane was fenced, lanes under test, and the lanes that will disagree with their checkers. -/
structure CipSt where
  keys : Sparse Bytes
  kek : Option Bytes
  gens : Sparse Nat
  fences : Sparse Nat
  tests : List Nat
  disagree : List Nat
  deriving DecidableEq, Repr

/-- The memories beside their bytes (R405 to R426): poisoned lines by address over 128, errors in DRAM lines as (word, mask), the lines of the map caches
and victim caches oldest first, evictions that wait, tree-PLRU trees by motif and set, wrong bits in SRAMs, corrected errors of DRAM by channel with
their stitch, and corrected errors of SRAM words. -/
structure MemSt where
  poison : List Nat
  errs : Sparse (List (Nat × Nat))
  lines : List CLine
  victims : List CLine
  stalled : List CLine
  trees : Sparse Nat
  flips : List Flip
  ceLog : List (Nat × Nat)
  hard : Sparse Nat
  deriving DecidableEq, Repr

/-- The job contexts of the engines (R186, R196): jobs, requests of FLUSH and READ that wait for one, ring entries completed and not yet passed by HEAD, and digest taps. -/
structure EngSt where
  jobs : List EngJob
  waits : List EngWait
  ended : List (EngKind × Nat × Nat)
  seq : Nat
  taps : List Tap
  deriving DecidableEq, Repr

/-- The state of the block. -/
structure State where
  /-- Commands waiting, first in, first out. -/
  pending : List Instr
  /-- Registers by R6 address; an unlisted register is at its reset value. -/
  regs : Sparse Word64
  /-- Memory by core address (R26). -/
  mem : Sparse Byte
  /-- The boot flash (R448). -/
  flash : Sparse Byte
  /-- The FWU_CMD operation that runs (R457). -/
  fop : Option FlashOp
  /-- The sampler's MRAM (R460). -/
  mram : Sparse Byte
  /-- The copies of triple-voted words that differ from the value that `regs` holds (R12, R423): by word, the wrong bits of each of the three. -/
  tv : Sparse (Nat × Nat × Nat)
  /-- The SHA-384 of the firmware image, taken as it streamed from the boot flash at step 4 (R207). -/
  imageDigest : Bytes
  fuses : Fuses
  power : PowerSt
  /-- Transmission is stopped (R30). -/
  txOff : Bool
  /-- Interrupt identities pending: motif, hart, level (0 machine, 1 supervisor) and identity. -/
  eip : List (Nat × Nat × Nat × Nat)
  /-- What has left the block, oldest first. -/
  outbox : List Out
  /-- How many free values have been taken. -/
  free : Nat
  /-- The pricking accepted in this Winding. -/
  prk : Option Pricking
  stc : StitchSt
  therm : ThermSt
  hu : HoldUpSt
  pair : PairSt
  dp : DataSt
  med : MediaSt
  bob : BobSt
  hq : HqSt
  ep : EpSt
  net : NetSt
  rpl : RplSt
  cip : CipSt
  ms : MemSt
  eng : EngSt
  deriving DecidableEq, Repr

/-- The unit the model starts with: an FJ7840-8-CEWX with the typical fused values of R428 and of the calibration example (log 6). -/
def Fuses.unit : Fuses :=
  { caps := ⟨8, true, true, true, true⟩, stepMaj := 1, stepMin := 0, unitId := 1, relienKey := List.replicate 48 0,
    customerKey := none, imaxLpm := List.replicate 8 (800, 280), imaxPkg := [960, 600, 960, 30],
    factR := List.replicate 8 0x012C_0384_0320_01C2, factC := List.replicate 8 0x0BB8_03E8_03E8_03E8,
    cPkg := 40000, vddCoreMv := List.replicate 8 750, spareRows := List.replicate 8 0, subsys := none, crcOk := true }

/-- The MRAM of a unit that has recorded nothing: the header of R460, WP 0 and NEXT_SEQ 1 in three copies (log 15). -/
def State.blankMram : Sparse Byte :=
  [(0x00, 0x46), (0x01, 0x4A), (0x02, 0x53), (0x03, 0x4D), (0x04, 0x01), (0x20, 0x01), (0x24, 0x01), (0x28, 0x01)]

/-- The stitch logic at power-on. -/
def StitchSt.reset : StitchSt :=
  { phase := 0, syms := [], collecting := false, markerNum := 0, ended := [], lastErr := 0, srcNum := 0, srcAt := 0, lastGood := none, badRun := 0,
    disagreeRun := 0, outRun := 0, ptpRun := 0, ptpFreq := 0, ptpAt := 0, holdoverAt := 0, relocking := false,
    disagreePair := 0, agreePair := 0, skew := 0, slots := [] }

/-- The thermal model at power-on: every node at the ambient of R440 with no inlet written, 45 + 10.0 °C (R441). -/
def ThermSt.reset : ThermSt :=
  { nodes := List.replicate 8 ⟨55, 55, 55, 55⟩, pkg := 55, acc := List.replicate 8 (0, 0, 0), accPkg := 0, samples := 0,
    imonPkg := List.replicate 4 default, imonLpm := List.replicate 8 default, lostRun := List.replicate 8 0,
    force := List.replicate 8 false, inletAt := none, noticeAt := 0, grace := 0, dimm := false, warnMs := 0, throttleMs := 0,
    enfDebt := List.replicate 8 0, enfUsed := List.replicate 8 0 }

/-- The bride link and pairing at reset: no group up, nothing received. -/
def PairSt.reset : PairSt :=
  { groups := List.replicate 8 default, snap := none, last := none, prev := none, gotStitch := none, sent := [], theirs := [], haRun := 0,
    rejoin := false, named := none, handing := none, handWhy := 0, asked := false, handQueue := [], moved := [], movedKind := 0, drops := [], gone := [],
    kept := false, replayed := [], assigned := false, partnerId := none, mseq := List.replicate 8 0,
    parts := [], ages := [], answers := [], taking := [], takeLog := [], takeCtrls := [], refusal := 0 }

/-- The write buffer at reset: empty. -/
def DataSt.reset : DataSt :=
  { dirty := 0, held := 0, unack := 0, unackC := [0, 0, 0, 0], partnerLimit := 0, writes := [], atoms := [], copies := [],
    nextWrite := 1, arrivals := 0 }

/-- Empty maps. -/
def Maps.empty : Maps :=
  { namespaces := [], views := [], dirs := [], pages := [], nextPage := 1, ctab := [], mmap := [], bands := [], nextBand := 1,
    blocks := [], units := [], marks := [], mods := [], repl := [], opens := [] }

/-- A vault area that is erased. -/
def VaultArea.blank : VaultArea :=
  { epoch := 0, head := 0, ents := [], left := [], txns := [], record := none, sealed := false, erased := true, blocks := [] }

/-- Media management at reset: nothing stored. -/
def MediaSt.reset : MediaSt :=
  { maps := Maps.empty, ckpt := Maps.empty, txns := [], nextTxn := 1, streams := [], packed := [], stripes := [], flushes := [],
    fps := [], staging := [], entrySeq := 1, vaultA := VaultArea.blank, vaultB := VaultArea.blank, patrol := [], scrub := 0, rowsLost := 0, padPages := [],
    logs := [], pages := [], nextPage := 1, sysNext := [], stale := [], ckpts := [], passes := [], rootSeq := [], found := [], rebuilds := [], spoiled := [], walks := [] }

/-- The bobbin side at reset: no module reached. -/
def BobSt.reset : BobSt :=
  { modules := [], cmds := [], cpls := [], quar := [], nextCid := 0, heldCmds := [], retries := [], jobs := [], nextJob := 1, temps := [], spares := [], uncorr := [], tele := [] }

/-- The PF0 controller after a controller reset (R359, R369). -/
def Ctrl.pf0 (id : Nat) : Ctrl :=
  { id := id, fabrics := false, ground := 0, cstate := 0, cc := 0, en := false, rdy := false, cfs := false, shn := 0, shst := 0, aqOk := false,
    aq := (0, 0), gone := [], latched := none, kato := 0, aerCfg := 0, events := [], sqs := [], cqs := [], admin := none, conns := [], unitsRead := 0,
    unitsWritten := 0, reads := 0, writes := 0, mediaErrs := 0, warn := 0, sizes := [], alive := 0, asq := 0, acq := 0 }

/-- The host queues at reset: the PF0 controller of head 0, DISABLED (R359). -/
def HqSt.reset : HqSt :=
  { ctrls := [Ctrl.pf0 1], cmds := [], cpls := [], fwc := [], attach := [], deleting := [], unsafeOffs := 0, aborts := [] }

/-- The host endpoint at reset. -/
def EpSt.reset : EpSt :=
  { served := false, perst := false, bme0 := false, bme1 := false, unmasked0 := [], unmasked1 := [], pba0 := [], pba1 := [],
    reads := [], todo := [], quar := [], dropped := [], times := [], aerU0 := 0, aerU1 := 0, aerC0 := 0, aerC1 := 0, cfg0 := [], cfg1 := [], msix0 := [], msix1 := [] }

/-- The cipher engine at reset: no key. -/
def CipSt.reset : CipSt := { keys := [], kek := none, gens := [], fences := [], tests := [], disagree := [] }

/-- The memories at power-on: no line cached, no error. -/
def MemSt.reset : MemSt :=
  { poison := [], errs := [], lines := [], victims := [], stalled := [], trees := [], flips := [], ceLog := [], hard := [] }

/-- The engines at reset: no context bound. -/
def EngSt.reset : EngSt := { jobs := [], waits := [], ended := [], seq := 0, taps := [] }

/-- The machine right after power-on: rails up, every register at the value its table gives for reset, memory with nothing listed,
waiting for the power-on reset to start Winding (log 14). -/
def State.reset : State :=
  { pending := [], regs := [], mem := [], flash := [], fop := none, mram := State.blankMram, tv := [], imageDigest := [], fuses := Fuses.unit,
    power := ⟨true, 5, true, true, false, false⟩, txOff := true, eip := [], outbox := [], free := 0, prk := none,
    stc := StitchSt.reset, therm := ThermSt.reset, hu := ⟨false, none, 0, false, true, 0⟩, pair := PairSt.reset,
    dp := DataSt.reset, med := MediaSt.reset, bob := BobSt.reset, hq := HqSt.reset, ep := EpSt.reset,
    net := ⟨[], [], none, [], [], [], [], [], [], [], 0, List.replicate 8 0⟩, rpl := ⟨[], []⟩, cip := CipSt.reset, ms := MemSt.reset, eng := EngSt.reset }

end Sys2Proof.Machine
end

