-- ==== Sys2Proof/Machine/Ops.lean ====
section
/-! DEFINITION. The shared operations: registers and fields, interrupts and events (R475), what leaves the block, memory (R26, R27), the
sampler (R460 to R464), modes (R99), fail-stop (R30) and the stop of a Winding (R98). -/

namespace Sys2Proof.Machine

/-- The outcome of a command that takes effect only while the head is powered (Off is no mode: R99). -/
def live (s : State) (f : State → State) : Host.Outcome State Fault Refusal :=
  .next (if s.power.running then f s else s)

/-- The state with its stitch logic changed. -/
def State.modStc (s : State) (f : StitchSt → StitchSt) : State := { s with stc := f s.stc }

/-- The state with its thermal model changed. -/
def State.modTherm (s : State) (f : ThermSt → ThermSt) : State := { s with therm := f s.therm }

/-- The state with its hold-up telemetry changed. -/
def State.modHu (s : State) (f : HoldUpSt → HoldUpSt) : State := { s with hu := f s.hu }

/-- The state with its pairing changed. -/
def State.modPair (s : State) (f : PairSt → PairSt) : State := { s with pair := f s.pair }

/-- The state with its write buffer changed. -/
def State.modDp (s : State) (f : DataSt → DataSt) : State := { s with dp := f s.dp }

/-- The state with its power side changed. -/
def State.modPower (s : State) (f : PowerSt → PowerSt) : State := { s with power := f s.power }

/-- The state with its media management changed. -/
def State.modMed (s : State) (f : MediaSt → MediaSt) : State := { s with med := f s.med }

/-- The state with its bobbin side changed. -/
def State.modBob (s : State) (f : BobSt → BobSt) : State := { s with bob := f s.bob }

/-- The state with its host queues changed. -/
def State.modHq (s : State) (f : HqSt → HqSt) : State := { s with hq := f s.hq }

/-- The state with its host endpoint changed. -/
def State.modEp (s : State) (f : EpSt → EpSt) : State := { s with ep := f s.ep }

/-- The state with its network side changed. -/
def State.modNet (s : State) (f : NetSt → NetSt) : State := { s with net := f s.net }

/-- The state with its snapshots and replication changed. -/
def State.modRpl (s : State) (f : RplSt → RplSt) : State := { s with rpl := f s.rpl }

/-- The state with its cipher engine changed. -/
def State.modCip (s : State) (f : CipSt → CipSt) : State := { s with cip := f s.cip }

/-- The state with its memories changed. -/
def State.modMs (s : State) (f : MemSt → MemSt) : State := { s with ms := f s.ms }

/-- The state with its engines changed. -/
def State.modEng (s : State) (f : EngSt → EngSt) : State := { s with eng := f s.eng }

/-! ## Registers -/

/-- The value of a register. -/
def State.reg (s : State) (r : Reg) (m i : Nat) : Nat := (Sparse.get r.resetVal s.regs (r.addr m i)).toNat

/-- The state with a register at a value. -/
def State.setReg (s : State) (r : Reg) (m i v : Nat) : State :=
  { s with regs := Sparse.set r.resetVal s.regs (r.addr m i) (BitVec.ofNat 64 v) }

/-- The value of a field, of motif `m` and element `i`. -/
def State.fld (s : State) (f : Fld Reg) (m : Nat := 0) (i : Nat := 0) : Nat := bits (s.reg f.reg m i) f.hi f.lo

/-- A field is not 0. -/
def State.flag (s : State) (f : Fld Reg) (m : Nat := 0) (i : Nat := 0) : Bool := s.fld f m i != 0

/-- The state with a field at a value, cut to the field's width. -/
def State.setFld (s : State) (f : Fld Reg) (x : Nat) (m : Nat := 0) (i : Nat := 0) : State :=
  s.setReg f.reg m i (setBits (s.reg f.reg m i) f.hi f.lo x)

/-- The largest value a field holds. -/
def fldMax (f : Fld Reg) : Nat := 2 ^ (f.hi + 1 - f.lo) - 1

/-- A saturating count: the field raised by `n`, stopping at its largest value. -/
def State.bump (s : State) (f : Fld Reg) (n : Nat := 1) (m : Nat := 0) (i : Nat := 0) : State :=
  s.setFld f (satAdd (fldMax f) (s.fld f m i) n) m i

/-- A field read as a signed number. -/
def State.sfld (s : State) (f : Fld Reg) (m : Nat := 0) (i : Nat := 0) : Int := signed (f.hi + 1 - f.lo) (s.fld f m i)

/-- A signed field set, saturating at its limits. -/
def State.setSfld (s : State) (f : Fld Reg) (x : Int) (m : Nat := 0) (i : Nat := 0) : State :=
  s.setFld f (ofSigned (f.hi + 1 - f.lo) (satSigned (f.hi + 1 - f.lo) x)) m i

/-- The motifs of the package. -/
def State.motifs (s : State) : List Nat := List.range s.fuses.caps.motifs

/-- A motif the package contains. -/
def State.hasMotif (s : State) (m : Nat) : Bool := decide (m < s.fuses.caps.motifs)

/-- Do something for each element of a list, in order. -/
def State.each (s : State) (l : List α) (f : State → α → State) : State := l.foldl f s

/-! ## Triple-voted words -/

/-- Where a triple-voted word stands (R423), coded as ECC_TV.LAST_WORD: 0 stitch number, 1 PKG_MODE, 2 claim `i`, 3 root hash word `i`, 4 nonce high-water
mark of generator 8 × motif + group, 5 sampler write pointer. With the bits of its register that are TV fields. -/
def tvPlace (w i : Nat) : Reg × Nat × Nat × Nat :=
  match w with
  | 0 => (.STC_NUM, 0, 0, 2 ^ 64 - 1)
  | 1 => (.PKG_MODE, 0, 0, 7)
  | 2 => (.CLM_CLAIM, 0, i, 2 ^ 64 - 1)
  | 3 => (.PRK_ROOT, 0, i, 2 ^ 64 - 1)
  | 4 => (.CIP_GEN_HWM, i / 8, i % 8, 2 ^ 48 - 1)
  | _ => (.SMP_ST, 0, 0, 0xFFFFFFFC)

/-- The triple-voted word of a register, if it holds one. -/
def tvOf (r : Reg) (m i : Nat) : Option (Nat × Nat) :=
  match r with
  | .STC_NUM => some (0, 0)
  | .PKG_MODE => some (1, 0)
  | .CLM_CLAIM => some (2, i)
  | .PRK_ROOT => some (3, i)
  | .CIP_GEN_HWM => some (4, 8 * m + i)
  | .SMP_ST => some (5, 0)
  | _ => none

/-- The number of a triple-voted word in the state. -/
def tvKey (w i : Nat) : Nat := 65536 * w + i

/-- The wrong bits that a majority of three copies shares; none where all differ. -/
def tvMajority (c : Nat × Nat × Nat) : Option Nat :=
  if c.1 = c.2.1 ∨ c.1 = c.2.2 then some c.1 else if c.2.1 = c.2.2 then some c.2.1 else none

/-- The bits of the three copies of a word turned by masks. The register holds what a majority of the copies agrees on. -/
def State.tvTurn (s : State) (w i : Nat) (x : Nat × Nat × Nat) : State :=
  let p := tvPlace w i
  let old := Sparse.get (0, 0, 0) s.tv (tvKey w i)
  let c := (old.1 ^^^ (x.1 &&& p.2.2.2), old.2.1 ^^^ (x.2.1 &&& p.2.2.2), old.2.2 ^^^ (x.2.2 &&& p.2.2.2))
  let maj := (tvMajority c).getD 0
  let s := if maj = 0 then s else s.setReg p.1 p.2.1 p.2.2.1 (s.reg p.1 p.2.1 p.2.2.1 ^^^ maj)
  { s with tv := Sparse.set (0, 0, 0) s.tv (tvKey w i) (c.1 ^^^ maj, c.2.1 ^^^ maj, c.2.2 ^^^ maj) }

/-- The motif whose armed injection picks a triple-voted word (R426): MEM 0x50, INST the copy, INDEX the word as LAST_WORD codes it. -/
def State.tvArmed (s : State) (w : Nat) : Option Nat :=
  s.motifs.find? (fun m => s.flag F.ECC_FLIP_TARGET_ARMED m && decide (s.fld F.ECC_FLIP_TARGET_MEM m = 0x50) &&
    decide (s.fld F.ECC_FLIP_TARGET_INDEX m = w) && decide (s.fld F.ECC_FLIP_TARGET_INST m < 3))

/-- An injection has taken place (R426). -/
def State.fired (s : State) (m : Nat) : State := (s.setFld F.ECC_FLIP_TARGET_ARMED 0 m).setFld F.ECC_FLIP_TARGET_FIRED 1 m

/-- A triple-voted word has been written: all three copies hold the new value (R12), but for the one that an armed injection turns (R426). -/
def State.tvWrote (s : State) (w i : Nat) : State :=
  let s := { s with tv := Sparse.set (0, 0, 0) s.tv (tvKey w i) (0, 0, 0) }
  match s.tvArmed w with
  | none => s
  | some m =>
    let x := fun j => if s.fld F.ECC_FLIP_TARGET_INST m = j then s.reg .ECC_FLIP_MASK m 0 else 0
    (s.tvTurn w i (x 0, x 1, x 2)).fired m

/-! ## Interrupts, events and what leaves the block -/

/-- Set an interrupt identity pending in the interrupt file of a hart (R471); identities outside 1 to 511 are discarded. -/
def State.raiseIrq (s : State) (m h level id : Nat) : State :=
  if 1 ≤ id ∧ id ≤ 511 ∧ h ≤ 8 ∧ s.hasMotif m ∧ ¬ s.eip.contains (m, h, level, id) then
    { s with eip := s.eip ++ [(m, h, level, id)] }
  else s

/-- The identity an EVT register sends (R475). -/
def evtIdentity (r : Reg) (m : Nat) : Nat :=
  if r = .PKG_DP_EVT then 0x2F
  else if r.spec.pkg then 0x20 + r.spec.block else 0x40 + 16 * m + r.spec.block

/-- An EVT bit is set; when it was 0, its block's identity goes to the service core of motif 0 (R475, EVT_INTERRUPT). -/
def State.setEvt (s : State) (f : Fld Reg) (m : Nat := 0) : State :=
  if s.flag f m then s else (s.setFld f 1 m).raiseIrq 0 8 0 (evtIdentity f.reg m)

/-- Something leaves the block whatever the transmission state: a pin, a regulator command. -/
def State.out (s : State) (o : Out) : State := { s with outbox := s.outbox ++ [o] }

/-- Something is transmitted; nothing is once transmission is stopped (R30). -/
def State.emit (s : State) (o : Out) : State := if s.txOff then s else s.out o

/-- The next free value (log 4). -/
def State.freeVal (s : State) : Nat := Config.freeValue s.free

/-- The counter of free values moved on. -/
def State.tookFree (s : State) : State := { s with free := s.free + 1 }

/-! ## Harts -/

/-- A hart of a motif in reset or out of it (CPU_ST, CPU_HST). -/
def State.setHart (s : State) (m h : Nat) (run : Bool) : State :=
  let s := s.setFld F.CPU_ST_RUNNING (putBit (s.fld F.CPU_ST_RUNNING m) h run) m
  (s.setFld F.CPU_ST_WFI (putBit (s.fld F.CPU_ST_WFI m) h false) m).setFld F.CPU_HST_STATE (b2n run) m h

/-- A performance event at a hart (R474): each counter whose selector names its code counts. -/
def State.hpmCount (s : State) (m h code : Nat) : State :=
  if s.hasMotif m ∧ h ≤ 8 ∧ code ≠ 0 then
    let l := (List.range 29).filter (fun i => decide (s.fld F.CPU_HPM_EVT_EVENT m (29 * h + i) = code))
    s.each l (fun s i => s.setReg .CPU_HPM_CNT m (29 * h + i) (s.reg .CPU_HPM_CNT m (29 * h + i) + 1))
  else s

/-- Performance events of a requester, where it is a hart; a request for another motif's memory or registers has crossed UCIe hops (0x07). -/
def State.hpmAccess (s : State) (who : Who) (m : Nat) (codes : List Nat) : State :=
  match who with
  | .core c h => s.each (codes ++ (if c = m then [] else [0x07])) (fun s x => s.hpmCount c h x)
  | .engine _ => s
  | .host => s

/-! ## Time -/

/-- The stitch number (R46). -/
def State.num (s : State) : Nat := s.fld F.STC_NUM_NUM

/-- The stitch phase moved forward to `p` within the stitch. -/
def State.atPhase (s : State) (p : Nat) : State :=
  if s.stc.phase < p then s.modStc (fun c => { c with phase := p }) else s

/-! ## Memory -/

/-- The value of a memory byte that nothing has written, the bytes of the boot ROM among them, of which the spec gives no contents (log 7). -/
def memDefault : Byte := 0

/-- The base of the DRAM window of a motif (R26). -/
def dramBase (m : Nat) : Nat := 0x080000000000 + m * 0x008000000000

/-! ## The boot flash -/

/-- A flash byte that was never programmed (R67). -/
def flashErased : Byte := 0xFF

/-- The bytes of the boot flash from an offset on. -/
def State.flashRead (s : State) (o n : Nat) : Bytes := Sparse.getRange flashErased s.flash o n

/-- The boot flash with a range erased. -/
def State.flashErase (s : State) (o n : Nat) : State := { s with flash := Sparse.clearRange s.flash o n }

/-- The boot flash with bytes programmed: each ends as the AND of old and new (R457). -/
def State.flashProgram (s : State) (o : Nat) (b : Bytes) : State :=
  let v := List.zipWith (fun (x y : Byte) => x &&& y) (s.flashRead o b.length) b
  { s with flash := Sparse.setRange flashErased s.flash o v }

/-- The first offset of a slot, 0 A or 1 B (R449). -/
def slotBase (slot : Nat) : Nat := if slot = 0 then 0x4000000 else 0x8000000

/-! ## The sampler -/

/-- Bytes of the MRAM. -/
def State.mramRead (s : State) (o n : Nat) : Bytes := Sparse.getRange 0 s.mram o n

/-- A number in the MRAM. -/
def State.mramNat (s : State) (o n : Nat) : Nat := leNat (s.mramRead o n)

/-- The MRAM with bytes written. -/
def State.mramWrite (s : State) (o : Nat) (b : Bytes) : State := { s with mram := Sparse.setRange 0 s.mram o b }

/-- The size of the record area (R460). -/
def recAreaSize : Nat := 8384512

/-- The MRAM offset of the record area. -/
def recArea : Nat := 0x1000

/-- The write pointer (SMP_ST.WP and WP_LO). -/
def State.smpWp (s : State) : Nat := s.fld F.SMP_ST_WP * 512 + s.fld F.SMP_ST_WP_LO * 4

/-- The space a record of payload length `n` takes (R461). -/
def recSpace (n : Nat) : Nat := 20 + (n + 3) / 4 * 4

/-- The offset of the last record before `wp`, walked from `o`; `fuel` bounds the records. -/
def State.lastRec (s : State) (wp : Nat) : Nat → Nat → Option Nat
  | 0, _ => none
  | f + 1, o =>
    if o < wp then
      let nx := o + recSpace (s.mramNat (recArea + o + 6) 2)
      if wp ≤ nx then some o else s.lastRec wp f nx
    else none

/-- The offset of the last record. -/
def State.smpLast (s : State) : Option Nat := s.lastRec s.smpWp (s.smpWp / 20 + 1) 0

/-- The bytes of a record (R461). -/
def recBytes (seq ty hours cycles : Nat) (payload : Bytes) : Bytes :=
  let pad := payload ++ zeros ((4 - payload.length % 4) % 4)
  let head := leBytes 4 seq ++ leBytes 2 ty ++ leBytes 2 payload.length ++ leBytes 4 hours ++ leBytes 4 cycles
  head ++ leBytes 2 1 ++ leBytes 2 (crc16 (head ++ pad)) ++ pad

/-- WP and NEXT_SEQ set in the MRAM, three copies each, and in SMP_ST (R463). -/
def State.setWp (s : State) (wp seq : Nat) : State :=
  let s := s.mramWrite 0x10 (leBytes 4 wp ++ leBytes 4 wp ++ leBytes 4 wp)
  let s := s.mramWrite 0x20 (leBytes 4 seq ++ leBytes 4 seq ++ leBytes 4 seq)
  (((s.setFld F.SMP_ST_WP (wp / 512)).setFld F.SMP_ST_WP_LO (wp / 4 % 128)).setFld F.SMP_ST_NEXT_SEQ seq).tvWrote 5 0

/-- A record written at WP. -/
def State.writeRec (s : State) (ty : Nat) (payload : Bytes) : State :=
  let seq := s.fld F.SMP_ST_NEXT_SEQ
  let b := recBytes seq ty (s.mramNat 0x34 4) (s.mramNat 0x30 4) payload
  (s.mramWrite (recArea + s.smpWp) b).setWp (s.smpWp + b.length) (seq + 1)

/-- A new record: written where it fits, else the area is FULL and the event is lost (R464). -/
def State.newRec (s : State) (ty : Nat) (payload : Bytes) : State :=
  if s.flag F.SMP_ST_FULL then s.bump F.SMP_CNT_LOST
  else if recAreaSize < s.smpWp + recSpace payload.length then
    ((s.setFld F.SMP_ST_FULL 1).mramWrite 0x38 [1]).bump F.SMP_CNT_LOST
  else s.writeRec ty payload

/-- The last record has this type and payload (R463 step 1). -/
def State.sameAsLast (s : State) (o ty : Nat) (payload : Bytes) : Bool :=
  decide (s.mramNat (recArea + o + 4) 2 = ty) && decide (s.mramNat (recArea + o + 6) 2 = payload.length) &&
    decide (s.mramRead (recArea + o + 20) payload.length = payload)

/-- An append, with the NEARLY_FULL record that follows the one that first leaves fewer than 65,536 free bytes (R464). -/
def State.appendNear (s : State) (ty : Nat) (payload : Bytes) : State :=
  let t := s.newRec ty payload
  if recAreaSize - t.smpWp < 65536 ∧ ¬ t.flag F.SMP_ST_NEAR_FULL then
    (t.setFld F.SMP_ST_NEAR_FULL 1).newRec 0x0010 (leBytes 4 (recAreaSize - t.smpWp))
  else t

/-- SAMPLER_APPEND (R463, R464): the last record's REPEAT is raised where the event is the same, else a record is appended. -/
def State.sample (s : State) (ty : Nat) (payload : Bytes) : State :=
  match s.smpLast with
  | some o =>
    if s.sameAsLast o ty payload then
      let a := recArea + o + 16
      if s.mramNat a 2 < 65535 then (s.mramWrite a (leBytes 2 (s.mramNat a 2 + 1))).bump F.SMP_CNT_REPEATS else s
    else s.appendNear ty payload
  | none => s.appendNear ty payload

/-! ## Modes -/

/-- PKG_MODE.MODE. -/
def State.mode (s : State) : Nat := s.fld F.PKG_MODE_MODE

/-- The head is in service: Paired, Solo or Rethread (R91). -/
def State.inService (s : State) : Bool := decide (1 ≤ s.mode) && decide (s.mode ≤ 3)

/-- The own head ID. -/
def State.headId (s : State) : Nat := s.fld F.PKG_ID_HEAD_ID

/-- Entering a mode (R99): PREV, MODE and MODE_AT; a pricking that is OPEN becomes SEALED as PKG_MODE leaves Winding (R86). -/
def State.enterMode (s : State) (m : Nat) : State :=
  let old := s.mode
  let s := (((s.setFld F.PKG_MODE_PREV old).setFld F.PKG_MODE_MODE m).setFld F.PKG_MODE_AT_STITCH s.num).tvWrote 1 0
  if old = 0 ∧ m ≠ 0 ∧ s.fld F.PRK_ST_STATE = 2 then s.setFld F.PRK_ST_STATE 3 else s

/-- Entering Paired: writes complete through the partner head's buffer. -/
def State.goPaired (s : State) : State :=
  (((s.enterMode 1).setFld F.PKG_MODE_STAGING 0).setFld F.PKG_MODE_SOLO_CAUSE 0).setEvt F.PKG_MODE_EV_PAIRED

/-- Entering Solo with a cause: writes complete through the staging journal. -/
def State.goSolo (s : State) (cause : Nat) : State :=
  (((s.enterMode 2).setFld F.PKG_MODE_STAGING 1).setFld F.PKG_MODE_SOLO_CAUSE cause).setEvt F.PKG_MODE_EV_SOLO

/-- Head-alive driven to a level (R120). -/
def State.driveHalive (s : State) (b : Bool) : State :=
  if s.flag F.BRD_ST_HALIVE_OUT = b then s else (s.setFld F.BRD_ST_HALIVE_OUT (b2n b)).out (.halive b)

/-- Transmission stopped as in steps 1 and 2 of R30: every port silent, head-alive low, every SerDes off. -/
def State.stopTransmission (s : State) : State := ({ s with txOff := true }).driveHalive false

/-- The host link is down. -/
def State.hostLinkDown (s : State) : State :=
  let was := s.flag F.EP_ST_UP
  let s := ((s.setFld F.EP_ST_SPEED 0).setFld F.EP_ST_WIDTH 0).setFld F.EP_ST_FLIT 0
  let s := s.setFld F.EP_ST_UP 0
  if was then s.setEvt F.EP_EVT_LINK_DOWN else s

/-- The SerDes of every Ethernet port, bride lane and the host endpoint are off (R30, R31, R437): no link is up. -/
def State.serdesOff (s : State) : State :=
  let s := s.hostLinkDown
  let s := s.each s.motifs (fun s m => s.each (List.range 8) (fun s i => (s.setFld F.NET_SUB_ST_UP 0 m i).setFld F.NET_SUB_ST_SPEED 0 m i))
  let down := fun (b : BrideGroup) => { b with lanes := 0 }
  let s := s.modPair (fun p => { p with groups := p.groups.map down })
  let s := s.each (List.range 8) (fun s g => (s.setFld F.BRD_GRP_LANES 0 0 g).setFld F.BRD_GRP_UP 0 0 g)
  let was := s.flag F.BRD_ST_LINK_UP
  let s := (s.setFld F.BRD_ST_GROUPS_UP 0).setFld F.BRD_ST_LANES_UP 0
  let s := (s.setFld F.BRD_ST_LINK_UP 0).setFld F.BRD_ST_STATE 0
  if was then s.setEvt F.BRD_EVT_LINK_DOWN else s

/-- The links of every root port are off (R30). -/
def State.rootPortsOff (s : State) : State :=
  let s := s.each s.motifs (fun s m => s.each (List.range 4) (fun s i => s.setFld F.BOB_PORT_ST_UP 0 m i))
  let down := fun (m : Module) => { m with linkUp := false }
  s.modBob (fun b => { b with modules := b.modules.map down })

/-- The flash as an abandoned operation leaves it: each byte of its range changed or not, which R457 leaves open (log 70). -/
def FlashOp.partial (o : FlashOp) (free : Nat) (flash : Sparse Byte) : Sparse Byte :=
  let hit := fun k => decide (o.ofs ≤ k) && decide (k < o.ofs + o.len) && bit free (k - o.ofs)
  if o.op = 1 then flash.filter (fun e => !hit e.1)
  else if o.op = 2 then
    let old := Sparse.getRange flashErased flash o.ofs o.data.length
    let v := List.zipWith (fun (x : Byte) (y : Byte × Nat) => if bit free y.2 then x &&& y.1 else x) old (o.data.zip (List.range o.data.length))
    Sparse.setRange flashErased flash o.ofs v
  else flash

/-- A flash operation that runs is abandoned without a status (R457). -/
def State.abandonFlashOp (s : State) : State :=
  match s.fop with
  | none => s
  | some o =>
    let s := { s with flash := o.partial s.freeVal s.flash, free := s.free + 1, fop := none }
    ((((s.setFld F.FWU_CMD_BUSY 0).setFld F.FWU_ST_BUSY 0).setFld F.FWU_COMMIT_BUSY 0).setFld F.FWU_CMD_STATUS 0).setFld F.FWU_CMD_GO 0

/-- The sampler's record of a dump (R462): 1 complete, 2 incomplete. -/
def State.sampleVault (s : State) (result : Nat) : State :=
  s.sample 0x0002 (leBytes 8 (s.fld F.PKG_MODE_AT_STITCH) ++ leBytes 4 (s.fld F.PKG_ADMIT_USE_DIRTY_MIB) ++ leBytes 4 (s.fld F.PKG_ADMIT_LIM_BUDGET_MIB) ++
    bytesOf [s.fld F.MED_VAULT_ST_NEXT, result, 0, 0])

/-- Every context of the engines discarded, with what waits for one and the measurement unit (R190, R206): their status registers show none. -/
def State.idleEngines (s : State) : State :=
  let s := s.modEng (fun e => { EngSt.reset with seq := e.seq })
  let zero := fun (s : State) (m : Nat) =>
    let s := if s.fuses.caps.optE then s.setFld F.CIP_ST_WAITING 0 m else s
    let s := if s.fuses.caps.optC then ((s.setFld F.CMP_ST_WAITING 0 m).setFld F.CMP_ST_BUSY0 0 m).setFld F.CMP_ST_BUSY1 0 m else s
    let s := ((s.setFld F.MTF_DCMP_ST_WAITING 0 m).setFld F.MTF_DCMP_ST_BUSY0 0 m).setFld F.MTF_DCMP_ST_BUSY1 0 m
    ((s.setFld F.DIG_CTX_ST_WAITING 0 m).setFld F.DIG_CTX_ST_TAP 0 m).setFld F.DIG_CTX_ST_BOUND 0 m
  (((s.each s.motifs zero).setFld F.MSR_ST_BUSY 0).setFld F.MSR_ST_SRC 0).setFld F.MSR_ST_CUR 0

/-- An error that a function reports through AER (R399): its bit of the Uncorrectable Error Status register, and, for an advisory one, bit 13 of the Correctable one (log 63). -/
def State.aerLog (s : State) (pf kind bit : Nat) (advisory : Bool) : State :=
  (s.emit (.aer pf kind)).modEp (fun e =>
    if pf = 0 then { e with aerU0 := e.aerU0 ||| 2 ^ bit, aerC0 := if advisory then e.aerC0 ||| 2 ^ 13 else e.aerC0 }
    else { e with aerU1 := e.aerU1 ||| 2 ^ bit, aerC1 := if advisory then e.aerC1 ||| 2 ^ 13 else e.aerC1 })

/-- FAIL_STOP (R30, R106, R399): an Internal Uncorrectable Error is reported, transmission stops, head-alive falls, the sampler records the causes, and the head is Tied-off. Once. -/
def State.failStopWith (s : State) (codes : List Nat) : State :=
  if s.mode = 5 then s
  else
    let s := if s.flag F.EP_ST_UP then s.aerLog 0 3 22 false else s
    let s := s.stopTransmission.serdesOff.rootPortsOff.abandonFlashOp.idleEngines
    let s := if s.mode = 4 ∧ ¬ s.hu.dumpDone then s.sampleVault 2 else s
    let s := s.sample 0x000F (bytesOf [codes.length, 0] ++ codes.flatMap (leBytes 2))
    let s := (s.setFld F.PKG_MODE_ADMIT 0).setFld F.PKG_RST_CAUSE_TIED_CAUSE (codes.headD 0)
    s.enterMode 5

/-- FAIL_STOP for one cause. -/
def State.failStop (s : State) (code : Nat) : State := s.failStopWith [code]

/-- A read of a triple-voted word votes (R12, R423): a copy that disagrees is rewritten from the majority and counted, three that all differ are a fail-stop. -/
def State.tvVote (s : State) (w i : Nat) : State :=
  let c := Sparse.get (0, 0, 0) s.tv (tvKey w i)
  if c = (0, 0, 0) then s
  else if tvMajority c = none then s.failStop 0x7202
  else (({ s with tv := Sparse.set (0, 0, 0) s.tv (tvKey w i) (0, 0, 0) } : State).bump F.ECC_TV_REWRITES).setFld F.ECC_TV_LAST_WORD w

/-- A read of a register votes the triple-voted word that it holds. -/
def State.tvRead (s : State) (r : Reg) (m i : Nat) : State := match tvOf r m i with | some p => s.tvVote p.1 p.2 | none => s

/-- WINDING_STOP (R98): PKG_MODE stays 0 with STOPPED and the code, head-alive low; no slot is running while it is stopped (R456). -/
def State.windStop (s : State) (code : Nat) : State :=
  ((((s.driveHalive false).setFld F.PKG_WIND_STOPPED 1).setFld F.PKG_WIND_CODE code).setFld F.FWU_ST_RUNNING 0).setEvt F.PKG_MODE_EV_WIND_STOP

/-- Winding step `n` is in progress and not stopped. -/
def State.inStep (s : State) (n : Nat) : Bool :=
  decide (s.mode = 0) && decide (s.fld F.PKG_WIND_STEP = n) && !(s.flag F.PKG_WIND_STOPPED)

/-- Winding step `n` ends after `us` microseconds: its time is noted and the next step starts (R93). -/
def State.stepDone (s : State) (n us : Nat) : State :=
  let s := s.setFld F.PKG_WIND_TIME_TIME_US (min us 0xFFFFFFFF) 0 (n - 1)
  let total := (List.range 14).foldl (fun a i => a + s.fld F.PKG_WIND_TIME_TIME_US 0 i) 0
  (s.setFld F.PKG_WIND_STEP (n + 1)).setFld F.PKG_WIND_ELAPSED (total / 1000)

end Sys2Proof.Machine
end

