-- ==== Sys2Proof/Machine/Operands.lean ====
section
/-! DEFINITION. How software reaches registers and memory: which register an access names and with which width (R6, R7), what a write does
under the pricking lock (R11, R81), what a read returns and clears (R8, R10), and which memory a core or engine reaches (R26, R27). -/

namespace Sys2Proof.Machine

/-- The bytes a register's own width has (R7). -/
def Reg.width (r : Reg) : Nat := if r.spec.wide then 8 else 4

/-- Replication registers that read zero and discard writes without option X (R357). -/
def needsX (r : Reg) : Bool :=
  r = .RPL_TGT_CTL ∨ r = .RPL_TGT_CONN ∨ r = .RPL_TGT_ST ∨ r = .RPL_TGT_LAG

/-- The register that an access of `width` bytes at an R6 address performs on: none where no register stands, where the package lacks it,
or where width or alignment are not its own (R7, R19, R39). -/
def State.regFor (s : State) (addr width : Nat) : Option (Reg × Nat × Nat) :=
  match regOfAddr addr with
  | none => none
  | some (r, m, i) =>
    if r.presentIn s.fuses.caps m && decide (width = r.width) && !(needsX r && !s.fuses.caps.optX) then some (r, m, i) else none

/-- A register of the lock set (R81). -/
def lockedBy (l : List LockEntry) (r : Reg) (m i : Nat) : Bool :=
  l.any (fun e =>
    (if r.spec.pkg then decide (e.window = 0) else decide (e.window = 0xFF) || decide (e.window = m + 1)) &&
      decide (e.block = r.spec.block) && decide (e.first ≤ r.spec.elemOfs i) && decide (r.spec.elemOfs i ≤ e.last))

/-- The lock set in force covers a register. -/
def State.inLockSet (s : State) (r : Reg) (m i : Nat) : Bool :=
  match s.prk with
  | none => false
  | some p => lockedBy p.locks r m i

/-- PL fields are closed to software: PRK_ST.STATE is not OPEN (R9, R11). -/
def State.plClosed (s : State) : Bool := s.fld F.PRK_ST_STATE != 2

/-! ## The route table -/

/-- The entries of the route table for a motif (R73). -/
def State.routesOn (s : State) (m : Nat) : List Route :=
  match s.prk with
  | none => []
  | some p => p.routes.filter (fun r => decide (r.motif = m) || decide (r.motif = 0xFF))

/-- The instances of an engine kind that receive work on a motif (R33): those that entries picked by a test name. Before a pricking is accepted there is no route
table, and every instance serves (log 75). -/
def State.instances (s : State) (m kind : Nat) (p : Route → Bool) : Nat :=
  if s.prk.isNone then 2 ^ 32 - 1
  else (((s.routesOn m).filter (fun r => decide (r.kind = kind) && p r)).map (fun r => r.inst)).foldl (fun a b => a ||| b) 0

/-- The stages of a pattern (1 INGEST, 2 FLUSH, 3 READ, 4 REBUILD, 5 REPLICATE, 6 MEASURE) that serve a class. -/
def Route.serves (pat cls : Nat) (r : Route) : Bool := decide (r.pattern = pat) && bit r.classes cls

/-- A stage of a pattern whose map-cache fills are streaming fills (FLAGS bit 1). -/
def State.streamFill (s : State) (m : Nat) (stage : Option (Nat × Nat)) : Bool :=
  match stage with
  | none => false
  | some t => (s.routesOn m).any (fun r => decide (r.pattern = t.1) && decide (r.stage = t.2) && bit r.flags 1)

/-! ## The pricking lock -/

/-- PL_WRITE_COUNTED (R11): the write is counted in PRK_LOCK_CNT with its place. -/
def State.countLocked (s : State) (r : Reg) (m i : Nat) : State :=
  let s := (s.bump F.PRK_LOCK_CNT_COUNT).setFld F.PRK_LOCK_CNT_WINDOW (if r.spec.pkg then 0 else m + 1)
  (s.setFld F.PRK_LOCK_CNT_BLOCK r.spec.block).setFld F.PRK_LOCK_CNT_OFFSET (r.spec.elemOfs i)

/-- The slots whose fields are RO (R59). -/
def roSlot (r : Reg) (i : Nat) : Bool := (r == .STC_SLOT_C || r == .STC_SLOT_T) && decide (i < 6)

/-- The bits of a register that a write does not change at the moment: the bases and sizes of what is enabled (their tables say so), the
RESET_PC of a hart that is out of reset or is the service core (R472), and the role of an enabled target. -/
def State.heldBits (s : State) (r : Reg) (m i : Nat) : List (Nat × Nat) :=
  match r with
  | .MTF_CJQ_BASE => if s.flag F.MTF_CJQ_CTL_EN m then [(63, 12), (3, 0)] else []
  | .DIG_JQ_BASE => if s.flag F.DIG_JQ_CTL_EN m then [(63, 12), (3, 0)] else []
  | .MTF_KD_BASE => if s.flag F.MTF_KD_BASE_EN m then [(63, 18)] else []
  | .NET_GA_BASE => if s.flag F.NET_GA_BASE_EN m then [(63, 14)] else []
  | .NET_FWRX_BASE => if s.flag F.NET_CTL_FWQ_EN m then [(63, 14)] else []
  | .NET_FWTX_BASE => if s.flag F.NET_CTL_FWQ_EN m then [(63, 14)] else []
  | .RDM_CTX_BASE => if s.flag F.RDM_CTX_BASE_EN m then [(63, 21)] else []
  | .RDM_MR_BASE => if s.flag F.RDM_MR_BASE_EN m then [(63, 26)] else []
  | .HQ_FQ_BASE => if s.flag F.HQ_FQ_BASE_EN m then [(63, 30)] else []
  | .HQ_FWC_BASE => if s.flag F.HQ_CTL_FWC_EN m then [(63, 12)] else []
  | .HQ_FWC_BUF => if s.flag F.HQ_CTL_FWC_EN m then [(63, 16)] else []
  | .RPL_TGT_CTL => if s.flag F.RPL_TGT_CTL_EN m i then [(62, 62)] else []
  | .CPU_RESET_PC => if i = 8 ∨ bit (s.fld F.CPU_ST_RUNNING m) i then [(63, 0)] else []
  | _ => []

/-- The value that a write carries, with the bits that it may not change as they are. -/
def State.holdBits (s : State) (r : Reg) (m i v : Nat) : Nat :=
  (s.heldBits r m i).foldl (fun v b => setBits v b.1 b.2 (bits (s.reg r m i) b.1 b.2)) v

/-- A software write of `v` to a register: each field by its type, PL fields kept and the write counted while closed (R9, R11). Whether it counts is judged
by the value as written, whatever else holds bits of the register at the moment. -/
def State.softWrite (s : State) (r : Reg) (m i v : Nat) : State :=
  if roSlot r i then s
  else
  let old := s.reg r m i
  let lk := s.inLockSet r m i
  let s := if s.plClosed && r.spec.changesPL lk old v then s.countLocked r m i else s
  s.setReg r m i (r.spec.write s.plClosed lk old (s.holdBits r m i v))

/-- What a software read of a register returns (R8, R9). -/
def State.softRead (s : State) (r : Reg) (m i : Nat) : Nat := r.spec.visible (s.reg r m i)

/-- What a software read leaves: RC bits returned as 1 are cleared (R10). -/
def State.softAfterRead (s : State) (r : Reg) (m i : Nat) : State := s.setReg r m i (r.spec.afterRead (s.reg r m i))

end Sys2Proof.Machine
end

