-- ==== Sys2Proof/Machine/MemOps.lean ====
section
/-! DEFINITION. Memory as cores and engines see it (spec/01 R26 to R28, spec/17): the address map, scratchpad ownership, map-cache lines, poison, DRAM
errors and injection, and the loads and stores of the hardware. -/

namespace Sys2Proof.Machine

/-! ## The address map -/

/-- Where an address of the core address map lies (R26). -/
inductive Region where
  | rom
  | sram (motif : Nat)
  | regs
  | scratch (motif ofs : Nat)
  | dram (motif ofs : Nat)
  | none
  deriving DecidableEq, Repr

/-- The region of an address (R26). -/
def regionOf (a : Nat) : Region :=
  if a < 0x40000 then .rom
  else if 0x10000000 ≤ a ∧ a < 0x18000000 then (if a % 0x1000000 < 0x800000 then .sram ((a - 0x10000000) / 0x1000000) else .none)
  else if 0x4000000000 ≤ a ∧ a < 0x4010000000 then .regs
  else if 0x4100000000 ≤ a ∧ a < 0x4108000000 then .scratch ((a - 0x4100000000) / 0x1000000) (a % 0x1000000)
  else if dramBase 0 ≤ a ∧ a < dramBase 8 then .dram ((a - dramBase 0) / 0x8000000000) ((a - dramBase 0) % 0x8000000000)
  else .none

/-- The populated DRAM of a motif in bytes: four DIMMs (R26, R403). -/
def State.populated (s : State) (m : Nat) : Nat := 4 * s.fld F.DRM_ST_DIMM_GIB m * 2 ^ 30

/-- The owner code of scratchpad way `i` of a motif (R78). -/
def State.scrOwner (s : State) (m i : Nat) : Nat :=
  match s.prk with
  | none => 0xFF
  | some p => match p.parts.find? (fun e => e.motif == m) with
    | none => 0xFF
    | some e => if i < s.fld F.CCH_ST_SCR_WAYS m then e.owner.getD i 0xFF else 0xFF

/-- Who asks for memory. -/
inductive Asker where
  | core
  | engine (cls : Nat)
  | fingerprint
  | bar2
  deriving DecidableEq, Repr

/-- What a scratchpad way's owner lets an asker do (R415). -/
def ownerAllows (owner : Nat) (who : Asker) (write : Bool) : Bool :=
  match who with
  | .core => decide (owner ≤ 3) || decide (owner = 0x10) || decide (owner = 0x12) || (decide (owner = 0x11) && !write)
  | .engine c => decide (owner = c % 4) || decide (owner = 0x10) || decide (owner = 0x12)
  | .fingerprint => decide (owner = 0x11) || decide (owner = 0x10) || decide (owner = 0x12)
  | .bar2 => decide (owner = 0x12)

/-- An offset of a motif's DRAM window that answers: of the boot store alone until Winding step 8 has ended, of populated DRAM then (R93). -/
def State.dramAnswers (s : State) (m o : Nat) : Bool :=
  if s.fld F.PKG_MODE_MODE = 0 ∧ s.fld F.PKG_WIND_STEP ≤ 8 then decide (3 ≤ s.fld F.PKG_WIND_STEP) && decide (m = 0) && decide (o < 0x2000000)
  else s.hasMotif m && decide (o < s.populated m)

/-- An address that an asker reaches (R26, R27, R415). -/
def State.reaches (s : State) (who : Asker) (write : Bool) (a : Nat) : Bool :=
  match regionOf a with
  | .rom => !write && decide (who ≠ .bar2)
  | .sram m => s.hasMotif m && decide (who ≠ .bar2)
  | .regs => decide (who ≠ .bar2)
  | .scratch m o => s.hasMotif m && ownerAllows (s.scrOwner m (o / 0x200000)) who write
  | .dram m o => s.dramAnswers m o && decide (who ≠ .bar2)
  | .none => false

/-- An address that instructions may be fetched from: ROM, service SRAM and DRAM are executable, the register windows and scratchpad are not (R26). -/
def executable (a : Nat) : Bool :=
  match regionOf a with
  | .rom => true
  | .sram _ => true
  | .dram _ _ => true
  | .regs => false
  | .scratch _ _ => false
  | .none => false

/-- Every byte of a range is reached: regions change only at multiples of 4 KiB. -/
def State.reachesAll (s : State) (who : Asker) (write : Bool) (a n : Nat) : Bool :=
  decide (n = 0) || (List.range ((a + n - 1) / 4096 - a / 4096 + 1)).all (fun i => s.reaches who write (max a ((a / 4096 + i) * 4096)))

/-! ## Map-cache lines -/

/-- The DRAM channel of an offset (R405). -/
def channelOf (ofs : Nat) : Nat := ofs / 256 % 4

/-- The set of a line (R409). -/
def setOf (ofs : Nat) : Nat := bits ofs 20 7 ^^^ bits ofs 34 21

/-- A cached line is the one at an address. -/
def CLine.holds (c : CLine) (a : Nat) : Bool := decide (dramBase c.motif + 128 * c.line ≤ a) && decide (a < dramBase c.motif + 128 * c.line + 128)

/-- The line that holds an address: in the ways, else among the victims and the evictions that wait. -/
def State.cached (s : State) (a : Nat) : Option CLine :=
  match s.ms.lines.find? (fun c => c.holds a) with
  | some c => some c
  | none => match s.ms.victims.find? (fun c => c.holds a) with
    | some c => some c
    | none => s.ms.stalled.find? (fun c => c.holds a)

/-- Nothing is cached anywhere. -/
def State.noLines (s : State) : Bool := s.ms.lines.isEmpty && s.ms.victims.isEmpty && s.ms.stalled.isEmpty

/-- A byte of memory as the package sees it: of the cached line, else of the memory (R28). -/
def State.memByte (s : State) (a : Nat) : Byte :=
  match s.cached a with
  | some c => Sparse.get 0 c.data (a % 128)
  | none => Sparse.get memDefault s.mem a

/-- The bytes of memory from an address on. -/
def State.load (s : State) (a n : Nat) : Bytes :=
  if s.noLines then Sparse.getRange memDefault s.mem a n else (List.range n).map (fun i => s.memByte (a + i))

/-- CCH_ST brought in step for a motif. -/
def State.syncCch (s : State) (m : Nat) : State :=
  let v := s.ms.victims.filter (fun c => c.motif == m)
  let d := ((s.ms.lines ++ s.ms.victims ++ s.ms.stalled).filter (fun c => c.motif == m && c.dirty)).length
  (s.setFld F.CCH_ST_DIRTY d m).setFld F.CCH_ST_VICTIM v.length m

/-! ## Injection and errors -/

/-- The structures of R421 that have instances. -/
def hasInst (code : Nat) : Bool := [0x01, 0x21, 0x22, 0x31, 0x50].contains code

/-- An injection armed for a structure on a motif, at an address where ADDR_MATCH asks for one (R426). -/
def State.armedFor (s : State) (m code inst : Nat) (addr : Option Nat) : Bool :=
  s.flag F.ECC_FLIP_TARGET_ARMED m && decide (s.fld F.ECC_FLIP_TARGET_MEM m = code) && (!hasInst code || decide (s.fld F.ECC_FLIP_TARGET_INST m = inst)) &&
    (!(s.flag F.ECC_FLIP_TARGET_ADDR_MATCH m) || (match addr with | some a => decide (a / 128 = s.fld F.ECC_FLIP_ADDR_ADDR m) | none => false))

/-- The bits set among the low `n` of a number. -/
def onesIn (v n : Nat) : Nat := (List.range n).foldl (fun a i => a + b2n (bit v i)) 0

/-- A write to a structure of a motif: an injection armed for it flips bits of data and check (R426). `place` says where in the structure. -/
def State.sramWroteAt (s : State) (m code inst : Nat) (addr : Option Nat) (place : Nat) : State :=
  if s.armedFor m code inst addr then
    let n := onesIn (s.reg .ECC_FLIP_MASK m 0) 64 + onesIn (s.fld F.ECC_FLIP_TARGET_CHECK m) 8
    let w := s.fld F.ECC_FLIP_TARGET_WORD m
    (s.modMs (fun d => { d with flips := d.flips ++ [⟨code, inst, m, w, n, place⟩] })).fired m
  else s

/-- A write to a structure at the line of an address, or with no place of its own. -/
def State.sramWrote (s : State) (m code inst : Nat) (addr : Option Nat) : State := s.sramWroteAt m code inst addr (addr.getD 0)

/-- A line written into DRAM itself: an armed injection inverts bits of one of its words, and an earlier error of the line is gone where the whole line
was written (R426). -/
def State.dramWrote (s : State) (m line : Nat) (whole : Bool) : State :=
  let a := dramBase m + 128 * line
  let s := if whole then s.modMs (fun d => { d with errs := Sparse.set [] d.errs (a / 128) [] }) else s
  if s.armedFor m 0x01 (channelOf (128 * line)) (some a) then
    let e := (s.fld F.ECC_FLIP_TARGET_WORD m, s.reg .ECC_FLIP_MASK m 0)
    (s.modMs (fun d => { d with errs := Sparse.set [] d.errs (a / 128) (Sparse.get [] d.errs (a / 128) ++ [e]) })).fired m
  else s

/-- The devices of a line that an error touches, as 10 × subchannel + device (R405). Words 16 and 17 of an error are check bits of subchannels 0 and 1: bits [31:0] of device 8, bits [63:32] of
device 9. -/
def errDevices (e : List (Nat × Nat)) : List Nat :=
  (List.range 20).filter (fun k => e.any (fun p =>
    let d := k % 10
    if d < 8 then decide (p.1 / 8 = k / 10) && (decide (bits p.2 (4 * d + 3) (4 * d) ≠ 0) || decide (bits p.2 (4 * d + 35) (4 * d + 32) ≠ 0))
    else decide (p.1 = 16 + k / 10) && decide (bits p.2 (32 * (d - 8) + 31) (32 * (d - 8)) ≠ 0)))

/-- An uncorrectable error goes to the sampler (R425, R462). -/
def State.sampleUe (s : State) (kind m unit inst locator : Nat) : State := s.sample 0x000E (bytesOf [kind, m, unit, inst] ++ leBytes 8 locator)

/-- The last error of a DRAM block (DRM_ERR). -/
def State.dramErr (s : State) (m line kind dev sub : Nat) (scrub : Bool) : State :=
  let s := ((s.setFld F.DRM_ERR_KIND kind m).setFld F.DRM_ERR_CH (channelOf (128 * line)) m).setFld F.DRM_ERR_DEVICE dev m
  let s := ((s.setFld F.DRM_ERR_SUB sub m).setFld F.DRM_ERR_SCRUB (b2n scrub) m).setFld F.DRM_ERR_LINE line m
  s.setFld F.DRM_ERR_VALID 1 m

/-- A corrected error of a DRAM channel (R425): counted, and CE_STORM set where more than CE_THRESH came within 200,000 stitches. -/
def State.dramCe (s : State) (m line dev : Nat) (scrub : Bool) : State :=
  let ch := channelOf (128 * line)
  let s := (s.dramErr m line 1 (dev % 10) (dev / 10) scrub).bump F.DRM_CNT_CE 1 m ch
  let s := s.setEvt F.DRM_EVT_CE m
  let k := 4 * m + ch
  let s := s.modMs (fun d => { d with ceLog := d.ceLog.filter (fun e => decide (s.num < e.2 + 200000)) ++ [(k, s.num)] })
  if s.fld F.DRM_CFG_CE_THRESH m < (s.ms.ceLog.filter (fun e => e.1 == k)).length then s.setEvt F.DRM_EVT_CE_STORM m else s

/-- An uncorrectable error of a DRAM channel counted and reported (R425). -/
def State.dramUeSeen (s : State) (m line : Nat) (scrub : Bool) : State :=
  let ch := channelOf (128 * line)
  let s := (s.dramErr m line 2 15 0 scrub).bump F.DRM_CNT_UE 1 m ch
  (s.setEvt F.DRM_EVT_UE m).sampleUe 1 m ch 0 0

/-- An uncorrectable error of a DRAM channel (R406, R425): the line is poisoned. -/
def State.dramUe (s : State) (m line : Nat) (scrub : Bool) : State :=
  (s.dramUeSeen m line scrub).modMs (fun d => { d with poison := d.poison ++ [dramBase m / 128 + line] })

/-- Free bytes in a line of memory: what the code delivers where more than two devices are wrong is not stated (log 32). -/
def State.garble (s : State) (a : Nat) : State :=
  { s with mem := Sparse.setRange memDefault s.mem a (leBytes 128 s.freeVal), free := s.free + 1 }

/-- A read of a DRAM line itself (R405, R406): an error within one device is corrected and written back, within two it poisons the line, and
beyond that the code's outcome is open: poisoned or delivered wrong (log 32). -/
def State.readDram (s : State) (m line : Nat) (scrub : Bool) : State :=
  let k := dramBase m / 128 + line
  let e := Sparse.get [] s.ms.errs k
  if e = [] ∨ s.ms.poison.contains k then s
  else
    let dv := errDevices e
    let clear := fun (s : State) => s.modMs (fun d => { d with errs := Sparse.set [] d.errs k [] })
    match dv with
    | [] => clear s
    | [d] => clear (s.dramCe m line d scrub)
    | [_, _] => clear (s.dramUe m line scrub)
    | _ => if s.freeVal % 2 = 0 then clear (s.tookFree.dramUe m line scrub) else clear (s.tookFree.garble (128 * k))

/-- A DRAM line that the map cache holds dirty is read by the scrub and not written back (R407): its error is seen and stays. -/
def State.peekDram (s : State) (m line : Nat) : State :=
  match errDevices (Sparse.get [] s.ms.errs (dramBase m / 128 + line)) with
  | [] => s
  | [d] => s.dramCe m line d true
  | [_, _] => s.dramUeSeen m line true
  | _ => if s.freeVal % 2 = 0 then s.tookFree.dramUeSeen m line true else s.tookFree

/-! ## Errors in the SRAMs that hold data -/

/-- The last SRAM event of a motif (ECC_ST). -/
def State.eccEvent (s : State) (m code inst kind word : Nat) : State :=
  let s := ((s.setFld F.ECC_ST_STRUCT code m).setFld F.ECC_ST_INST inst m).setFld F.ECC_ST_KIND kind m
  (s.setFld F.ECC_ST_WORD word m).setFld F.ECC_ST_VALID 1 m

/-- The key of an SRAM word. -/
def hardKey (m code inst word : Nat) : Nat := ((m * 256 + code) * 256 + inst) * 2 ^ 28 + word % 2 ^ 28

/-- An SRAM error corrected (R422, R425): counted, and KIND 3 where its word has reached HARD_THRESH. -/
def State.sramCorrected (s : State) (m code inst word : Nat) : State :=
  let k := hardKey m code inst word
  let n := Sparse.get 0 s.ms.hard k + 1
  let s := (s.modMs (fun d => { d with hard := Sparse.set 0 d.hard k n })).bump F.ECC_CNT_CORRECTED 1 m
  s.eccEvent m code inst (if s.fld F.ECC_CTL_HARD_THRESH m ≤ n then 3 else 1) word

/-- The cached line that holds an address is poisoned, in the ways or in the victim cache. -/
def State.poisonCached (s : State) (a : Nat) : State :=
  let f := fun (c : CLine) => { c with poison := true }
  s.modMs (fun d =>
    { d with
      lines := mapWhere (fun c => c.holds a) f d.lines
      victims := mapWhere (fun c => c.holds a) f d.victims
      stalled := mapWhere (fun c => c.holds a) f d.stalled })

/-- A line of memory is poisoned. -/
def State.poisonLine (s : State) (a : Nat) : State :=
  if s.ms.poison.contains (a / 128) then s else s.modMs (fun d => { d with poison := d.poison ++ [a / 128] })

/-- A clean line is refetched from DRAM: what was wrong in it is gone (R421). -/
def State.dataError (s : State) (a : Nat) : State :=
  match s.ms.lines.find? (fun c => c.holds a) with
  | some c => if c.dirty then s.poisonCached a else s
  | none => match regionOf a with
    | .scratch _ _ => s.poisonLine a
    | _ => s

/-- The structures that hold memory's data: map-cache data and scratchpad, the victim cache, the service SRAM. -/
def isDataCode (c : Nat) : Bool := c == 0x10 || c == 0x12 || c == 0x20

/-- What an uncorrectable error of one of them does at a line (R421). -/
def State.dataEffect (s : State) (code a : Nat) : State := if code = 0x10 then s.dataError a else if code = 0x12 then s.poisonCached a else s.poisonLine a

/-- An uncorrectable SRAM error counted and sampled (R425). -/
def State.sramUeSeen (s : State) (m code inst word : Nat) : State :=
  ((s.bump F.ECC_CNT_UNCORRECTABLE 1 m).eccEvent m code inst 2 word).sampleUe 2 m code inst word

/-- A wrong word of one of them as it is read: one bit is corrected, two are not, and of more the code tells nothing (log 58). -/
def State.dataFlip (s : State) (f : Flip) : State :=
  let ue := fun (s : State) => (s.sramUeSeen f.motif f.code f.inst f.word).dataEffect f.code f.place
  if f.count = 0 then s
  else if f.count = 1 then s.sramCorrected f.motif f.code f.inst f.word
  else if f.count = 2 then ue s
  else
    match s.freeVal % 3 with
    | 0 => s.tookFree.sramCorrected f.motif f.code f.inst f.word
    | 1 => ue s.tookFree
    | _ => s.tookFree

/-- The wrong words of these structures that a read meets are found and are no more (R421). -/
def State.meetFlips (s : State) (p : Flip → Bool) : State :=
  let hit := fun (f : Flip) => isDataCode f.code && p f
  if s.ms.flips.any hit then
    let l := s.ms.flips.filter hit
    (s.modMs (fun d => { d with flips := d.flips.filter (fun f => !hit f) })).each l (fun s f => s.dataFlip f)
  else s

/-- A read of a range meets the wrong words of its lines. -/
def State.readFlips (s : State) (a n : Nat) : State := s.meetFlips (fun f => decide (a / 128 ≤ f.place / 128) && decide (f.place / 128 ≤ (a + n - 1) / 128))

/-- The wrong words that a write of a range replaces are gone. -/
def State.dropFlips (s : State) (a n : Nat) : State :=
  let gone := fun (f : Flip) => isDataCode f.code && decide (a ≤ f.place / 128 * 128 + 8 * f.word) && decide (f.place / 128 * 128 + 8 * f.word + 8 ≤ a + n)
  if s.ms.flips.any gone then s.modMs (fun d => { d with flips := d.flips.filter (fun f => !gone f) }) else s

/-! ## Loads and stores -/

/-- The lines of a range, as addresses over 128. -/
def linesOf (a n : Nat) : List Nat := if n = 0 then [] else (List.range ((a + n - 1) / 128 - a / 128 + 1)).map (fun i => a / 128 + i)

/-- One byte put into a cached line. -/
def CLine.setByte (c : CLine) (o : Nat) (b : Byte) : CLine := { c with dirty := true, data := Sparse.set 0 c.data o b }

/-- One byte stored: in the cached line, which becomes dirty, else in memory. -/
def State.storeByte (s : State) (a : Nat) (b : Byte) : State :=
  if s.ms.lines.any (fun c => c.holds a) then
    s.modMs (fun d => { d with lines := mapWhere (fun c => c.holds a) (fun c => c.setByte (a % 128) b) d.lines })
  else if s.ms.victims.any (fun c => c.holds a) then
    s.modMs (fun d => { d with victims := mapWhere (fun c => c.holds a) (fun c => c.setByte (a % 128) b) d.victims })
  else if s.ms.stalled.any (fun c => c.holds a) then
    s.modMs (fun d => { d with stalled := mapWhere (fun c => c.holds a) (fun c => c.setByte (a % 128) b) d.stalled })
  else { s with mem := Sparse.set memDefault s.mem a b }

/-- Bytes stored one by one from an address on. -/
def State.storeBytes (s : State) (a : Nat) : Bytes → State
  | [] => s
  | b :: t => (s.storeByte a b).storeBytes (a + 1) t

/-- The writes of a range that reach a memory itself, for an armed injection: DRAM lines that are not cached, cached lines, scratchpad, service SRAM. -/
def State.noteWrites (s : State) (a n : Nat) : State :=
  (s.dropFlips a n).each (linesOf a n) (fun s k =>
    let whole := decide (a ≤ 128 * k) && decide (128 * k + 128 ≤ a + n)
    match regionOf (128 * k) with
    | .dram m o => if (s.cached (128 * k)).isSome then s.sramWrote m 0x10 0 (some (128 * k)) else s.dramWrote m (o / 128) whole
    | .scratch m _ => s.sramWrote m 0x10 0 (some (128 * k))
    | .sram m => s.sramWrote m 0x20 0 (some (128 * k))
    | .rom => s
    | .regs => s
    | .none => s)

/-- Poison cleared from the lines that a write of a DMA mover or engine covers whole (R406). -/
def State.clearPoison (s : State) (a n : Nat) : State :=
  let whole := fun k => decide (a ≤ 128 * k) && decide (128 * k + 128 ≤ a + n)
  let clear := mapWhere (fun (c : CLine) => whole (dramBase c.motif / 128 + c.line)) (fun c => { c with poison := false })
  s.modMs (fun d => { d with
    poison := d.poison.filter (fun k => !whole k), lines := clear d.lines, victims := clear d.victims, stalled := clear d.stalled })

/-- Bytes written to memory by the hardware: a DMA mover or an engine. -/
def State.store (s : State) (a : Nat) (b : Bytes) : State :=
  let s := if s.noLines then { s with mem := Sparse.setRange memDefault s.mem a b } else s.storeBytes a b
  (s.noteWrites a b.length).clearPoison a b.length

/-- A line of a range is poisoned. -/
def State.poisoned (s : State) (a n : Nat) : Bool :=
  (linesOf a n).any (fun k => match s.cached (128 * k) with | some c => c.poison | none => s.ms.poison.contains k)

/-- The delivery of a poisoned line (R424): counted for DRAM. -/
def State.countPoison (s : State) (a n : Nat) : State :=
  s.each (linesOf a n) (fun s k =>
    match regionOf (128 * k) with
    | .dram m o => if s.poisoned (128 * k) 1 then s.bump F.DRM_CNT_POISON_USE 1 m (channelOf o) else s
    | _ => s)

/-- A range is read: the wrong words of the SRAMs that hold it are met, and every DRAM line of it that is not cached is read from DRAM itself. -/
def State.touchDram (s : State) (a n : Nat) : State :=
  if s.ms.errs.isEmpty then s.readFlips a n
  else (s.readFlips a n).each (linesOf a n) (fun s k =>
    match regionOf (128 * k) with
    | .dram m o => if (s.cached (128 * k)).isSome then s else s.readDram m (o / 128) false
    | _ => s)

/-- A read of memory by an engine or DMA mover (R27, R424): the bytes, 0x2F01 for an address it does not reach, 0x5405 for poison. In the register window it
is an access of a width that is not the register's own, and reads all ones (R7, R27). -/
def State.engineRead (s : State) (cls a n : Nat) : State × Except Nat Bytes :=
  if !s.reachesAll (.engine cls) false a n then (s, .error 0x2F01)
  else if regionOf a = .regs then (s, .ok (List.replicate n 0xFF))
  else
    let s := s.touchDram a n
    if s.poisoned a n then (s.countPoison a n, .error 0x5405) else (s, .ok (s.load a n))

/-- A write of memory by an engine or DMA mover, or 0x2F01. In the register window it is an access of a width that is not the register's own, and is discarded (R7, R27). -/
def State.engineWrite (s : State) (cls a : Nat) (b : Bytes) : State × Nat :=
  if !s.reachesAll (.engine cls) true a b.length then (s, 0x2F01)
  else if regionOf a = .regs then (s, 0)
  else (s.store a b, 0)

end Sys2Proof.Machine
end

