-- ==== Sys2Proof/Machine/Flags.lean ====
section
/-! DEFINITION. Status fields that the device derives from its own counts: admission limits and holds (R142 to R146), PICOT_OK (R57). -/

namespace Sys2Proof.Machine

/-- MiB of a number of atoms, rounded up. -/
def mibUp (atoms : Nat) : Nat := (atoms + 255) / 256

/-- The vault budget B, in MiB. -/
def State.budget (s : State) : Nat := s.fld F.PKG_ADMIT_LIM_BUDGET_MIB

/-- MIRROR_LIMIT, in MiB, that this head advertises (R143). -/
def State.mirrorLimit (s : State) : Nat := if s.mode = 1 ∨ s.mode = 3 then s.budget / 2 else 0

/-- OWN_LIMIT in atoms (R143). -/
def State.ownLimit (s : State) : Nat :=
  if s.mode = 1 ∨ s.mode = 3 then min (s.budget - s.budget / 2) s.dp.partnerLimit * 256
  else if s.mode = 2 then s.budget * 256 - s.dp.held
  else 0

/-- The class reservations in MiB from PKG_ADMIT_CLS. -/
def State.resvMiB (s : State) (c : Nat) : Nat := s.fld F.PKG_ADMIT_CLS_RESV_MIB 0 c

/-- A class's excess over its reservation, in atoms (R144). -/
def State.excess (s : State) (c used : Nat) : Nat := used - s.resvMiB c * 256

/-- Condition 1 of R144. -/
def State.cond1 (s : State) (n : Nat) : Bool := decide (s.dp.dirty + n ≤ s.ownLimit)

/-- Condition 2 of R144. -/
def State.cond2 (s : State) (n : Nat) : Bool := decide (s.dp.unack + n ≤ 1048576)

/-- Condition 3 of R144. -/
def State.cond3 (s : State) (c n : Nat) : Bool :=
  let used := fun k => s.dp.unackC.getD k 0 + if k = c then n else 0
  let resv := (List.range 4).foldl (fun a k => a + s.resvMiB k) 0
  decide (used c ≤ s.resvMiB c * 256) ||
    decide ((List.range 4).foldl (fun a k => a + s.excess k (used k)) 0 ≤ (4096 - resv) * 256)

/-- One vault area is erased (R250). -/
def State.vaultReady (s : State) : Bool := s.flag F.MED_VAULT_ST_READY_A || s.flag F.MED_VAULT_ST_READY_B

/-- The head admits at all: ADMIT is 1, no budget hold (R144, R146), and a vault area is erased (R250). -/
def State.admitOpen (s : State) : Bool := s.flag F.PKG_MODE_ADMIT && !(s.flag F.PKG_ADMIT_ST_BUDGET_HOLD) && s.vaultReady

/-- A write of `n` atoms of class `c` may be admitted (R144). -/
def State.mayAdmit (s : State) (c n : Nat) : Bool := s.admitOpen && s.cond1 n && s.cond2 n && s.cond3 c n

/-- A hold bit of PKG_ADMIT_ST set to a value; PKG_DP_EVT records each rise (R145). -/
def State.setHold (s : State) (f ev : Fld Reg) (b : Bool) : State :=
  if b then (if s.flag f then s else (s.setFld f 1).setEvt ev) else s.setFld f 0

/-- Some write waits for a reason. -/
def State.someWaits (s : State) (p : Write → Bool) : Bool := s.dp.writes.any (fun w => decide (w.state = 0) && p w)

/-- The admission registers brought in step with the counters: uses, limits and holds (R142 to R146). BUDGET_HOLD is set at a recomputation
of B only (`atBudget`), and clears as soon as its condition ends. -/
def State.syncAdmit (s : State) (atBudget : Bool := false) : State :=
  let s := (s.setFld F.PKG_ADMIT_USE_DIRTY_MIB (mibUp s.dp.dirty)).setFld F.PKG_ADMIT_USE_UNACK_MIB (mibUp s.dp.unack)
  let s := (s.setFld F.PKG_ADMIT_MIR_HELD_MIB (mibUp s.dp.held)).setFld F.PKG_ADMIT_MIR_PARTNER_LIMIT_MIB s.dp.partnerLimit
  let s := s.setFld F.PKG_ADMIT_LIM_OWN_LIMIT_MIB (s.ownLimit / 256)
  let s := s.each (List.range 4) (fun s c => s.setFld F.PKG_ADMIT_CLS_USED_MIB (mibUp (s.dp.unackC.getD c 0)) 0 c)
  let excessNow := decide (s.ownLimit < s.dp.dirty) || decide (s.budget * 256 < s.dp.dirty + s.dp.held)
  let s := if excessNow then (if atBudget then s.setHold F.PKG_ADMIT_ST_BUDGET_HOLD F.PKG_DP_EVT_BUDGET_HOLD true else s)
    else s.setFld F.PKG_ADMIT_ST_BUDGET_HOLD 0
  let window := s.someWaits (fun w => !(s.cond2 w.count) || !(s.cond3 w.cls w.count))
  let mirror := s.someWaits (fun w => !(s.cond1 w.count)) && (decide (s.mode = 1) || decide (s.mode = 3)) &&
    decide (s.dp.partnerLimit < s.budget - s.budget / 2)
  (s.setHold F.PKG_ADMIT_ST_WINDOW_HOLD F.PKG_DP_EVT_WINDOW_HOLD window).setHold
    F.PKG_ADMIT_ST_MIRROR_HOLD F.PKG_DP_EVT_MIRROR_HOLD mirror

/-- STC_ST.PICOT_OK brought in step with R57. -/
def State.syncPicot (s : State) : State :=
  let ok := decide (s.fld F.STC_ST_STATE = 1) && !s.stc.relocking && decide (2 ≤ s.stc.agreePair) &&
    (match s.pair.last with | some r => decide (r.stcState = 1) | none => false)
  s.setFld F.STC_ST_PICOT_OK (b2n ok)

end Sys2Proof.Machine
end

