-- ==== Sys2Proof/Machine/HostOps.lean ====
section
/-! DEFINITION. What every family shares of the host side: the ground map in force, namespaces and classes (R139), controllers, status (R365),
connections (R307, R322), MSI-X (R390) and reads of host memory (R391, R395). -/

namespace Sys2Proof.Machine

/-! ## The pricking in force -/

/-- The CLASS, SCHED and GROUND sections in force: the own ones, or the prior ones while PRIOR_ACTIVE is 1 (R88). -/
def State.activePart (s : State) : PairPart :=
  match s.prk with
  | none => default
  | some p => if s.flag F.PRK_PAIR_ST_PRIOR_ACTIVE then p.prior.getD p.own else p.own

/-- The entry of a ground in the ground map in force. -/
def State.groundDef (s : State) (g : Nat) : Option GroundDef := s.activePart.grounds.find? (fun e => e.ground == g)

/-- A ground is twin-fed. -/
def State.isTwin (s : State) (g : Nat) : Bool := match s.groundDef g with | some e => e.twin | none => false

/-- A ground has 4 KiB chunks. -/
def State.isChunk4k (s : State) (g : Nat) : Bool := match s.groundDef g with | some e => e.chunk4k | none => false

/-- k and m of a ground (R79, R254). -/
def State.geometryOf (s : State) (g : Nat) : Nat × Nat :=
  match s.groundDef g with
  | some e => let t := s.activePart.geoms.getD e.geom default; (t.k, t.m)
  | none => (0, 0)

/-- CLM_GROUND[g].STATE. -/
def State.groundState (s : State) (g : Nat) : Nat := s.fld F.CLM_GROUND_STATE 0 g

/-- This head owns the ground: OWNER, or HANDING until the partner head has claimed it (R119, R128). -/
def State.owns (s : State) (g : Nat) : Bool := decide (g < 256) && (decide (s.groundState g = 1) || decide (s.groundState g = 3))

/-- This head serves the ground as its owner: OWNER, or HANDING where the ground is twin-fed, whose handover leaves no gap (R128, R129). -/
def State.serves (s : State) (g : Nat) : Bool := s.owns g && (decide (s.groundState g = 1) || s.isTwin g)

/-- The grounds that this head owns. -/
def State.ownedGrounds (s : State) : List Nat := (List.range 256).filter (fun g => s.owns g)

/-- CLM_CLAIM[g] as a claim number (R122): EPOCH × 256 + HEAD. -/
def State.claimOf (s : State) (g : Nat) : Nat := s.fld F.CLM_CLAIM_EPOCH 0 g * 256 + s.fld F.CLM_CLAIM_HEAD 0 g

/-! ## Namespaces and classes -/

/-- The namespace with an identifier. -/
def State.ns (s : State) (n : Nat) : Option Namespace := s.med.maps.namespaces.find? (fun e => e.id == n)

/-- A namespace that is defined and not being deleted. -/
def State.liveNs (s : State) (n : Nat) : Option Namespace := if s.hq.deleting.contains n then none else s.ns n

/-- A selector matches (R75): by namespace, ground, DSCP or PCIe queue. -/
def selMatches (e : Selector) (nsid ground : Nat) (dscp queue : Option Nat) : Bool :=
  match e.kind with
  | 1 => decide (e.first ≤ nsid) && decide (nsid ≤ e.last)
  | 2 => decide (e.first % 256 = ground)
  | 3 => decide (dscp = some (e.first % 256))
  | _ => match queue with | some q => decide (e.first ≤ q) && decide (q ≤ e.last) | none => false

/-- The better of two selectors: lower PRIO, and on a tie the earlier one. -/
def betterSel (a : Option Selector) (b : Selector) : Option Selector :=
  match a with | none => some b | some x => if b.prio < x.prio then some b else some x

/-- The class of a command (R75, R139): the selector that matches first; class 1 where none does. -/
def State.classOf (s : State) (nsid ground : Nat) (dscp queue : Option Nat) : Nat :=
  match (s.activePart.sels.filter (fun e => selMatches e nsid ground dscp queue)).foldl betterSel none with
  | some e => e.cls
  | none => 1

/-! ## Status -/

/-- Status Code Type and Status Code of a status word (R365, R380) for a read (1), a write (2), a Firmware Commit (3) or another command
(0); `moving` says that the ground is HANDING or RECEIVING. -/
def statusCode (op word : Nat) (fabrics moving fromHost : Bool) : Nat × Nat :=
  let cls := word / 0x1000
  if word = 0x1406 then (3, if moving then 3 else 2)
  else if word = 0x2401 then (0, 0x0B)
  else if word = 0x5402 then (2, 0x82)
  else if word = 0x5403 then (2, 0x84)
  else if word = 0x5405 ∧ fromHost then (0, 0x04)
  else if op = 1 ∧ (word = 0x3404 ∨ word = 0x5405 ∨ (0x5501 ≤ word ∧ word ≤ 0x5505) ∨ word = 0x5701) then (2, 0x81)
  else if word = 0x6801 then (0, 0x81)
  else if word = 0x2703 ∨ word = 0x2707 ∨ word = 0x1C02 then (0, 0x82)
  else if word = 0x2C06 ∧ op = 2 then (0, 0x20)
  else if op = 3 ∧ (word = 0x2203 ∨ word = 0x2204 ∨ word = 0x1205 ∨ word = 0x4206) then (1, 0x13)
  else if word = 0x2F00 ∨ word = 0x2D02 ∨ word = 0x2D0B then (0, 0x02)
  else if word = 0x2D01 then (0, 0x01)
  else if word = 0x2D03 then (0, 0x0F)
  else if word = 0x2D04 then (0, 0x80)
  else if word = 0x1D05 then (0, 0x07)
  else if word = 0x1D06 then (0, 0x08)
  else if word = 0x2D08 then (0, 0x20)
  else if word = 0x6D0A then (1, 0x16)
  else if word = 0x2D0C then (0, 0x0B)
  else if cls = 3 then (2, if op = 2 then 0x80 else 0x81)
  else if cls = 4 then (0, if fabrics then 0x22 else 0x04)
  else if cls = 7 then (0, 0x06)
  else (7, 0xC0 + cls)

/-- DNR of a status word's class (R365), at its place in the Status field. -/
def dnrOf (word : Nat) : Nat := let c := word / 0x1000; if c = 2 ∨ c = 3 ∨ c = 5 ∨ c = 7 then 0x4000 else 0

/-- The Status field of a status word, completion dword 3 bits [31:17]: Status Code [7:0], Status Code Type [10:8], DNR [14] (R365). -/
def statusField (op word : Nat) (fabrics moving fromHost : Bool) : Nat :=
  if word = 0 then 0
  else
    let c := statusCode op word fabrics moving fromHost
    c.2 + 256 * c.1 + dnrOf word

/-! ## Connections -/

/-- A connection by its identifier. -/
def State.conn (s : State) (id : Nat) : Option Conn := s.net.conns.find? (fun c => c.id == id)

/-- The state with a connection changed. -/
def State.modConn (s : State) (id : Nat) (f : Conn → Conn) : State :=
  s.modNet (fun n => { n with conns := mapWhere (fun c => c.id == id) f n.conns })

/-- The path MTU of a connection in bytes (R307). -/
def Conn.pmtu (c : Conn) : Nat := 2 ^ (c.desc.pmtu + 7)

/-- The paths of a connection that are not suspended, from a path on (R322); all of them where every one is suspended (log 57). -/
def Conn.openPaths (c : Conn) : List Nat :=
  let all := (List.range (max 1 c.desc.paths)).map (fun i => (c.nextPath + i) % max 1 c.desc.paths)
  match all.filter (fun p => !(c.suspended.any (fun x => x.1 == p))) with
  | [] => all
  | l => l

/-- One packet sent as requester, on the next path (R322); held back while a resynchronisation holds the connection (R327). -/
def State.sendPacket (s : State) (id : Nat) (data : Bytes) : State :=
  match s.conn id with
  | none => s
  | some c =>
    let p := c.openPaths.headD 0
    let s := s.modConn id (fun c => { c with spsn := c.spsn + 1, nextPath := p + 1, sent := c.sent ++ [⟨c.spsn, p, data⟩] })
    if c.hold.isSome then s else s.emit (.packet id (c.spsn % 2 ^ 24) p data)

/-- A message sent as requester, one packet per path MTU (R310). -/
def State.sendMsg (s : State) (id : Nat) (data : Bytes) : State :=
  match s.conn id with
  | none => s
  | some c =>
    if c.state = .rts ∨ c.state = .resync then
      (if data.isEmpty then [[]] else chunks c.pmtu data).foldl (fun s d => s.sendPacket id d) s
    else s

/-! ## Controllers -/

/-- The controller with an identifier. -/
def State.ctrl (s : State) (id : Nat) : Option Ctrl := s.hq.ctrls.find? (fun c => c.id == id)

/-- The controller identifier of PF0: head ID + 1 (R359). -/
def State.pf0Id (s : State) : Nat := s.headId + 1

/-- The state with a controller changed. -/
def State.modCtrl (s : State) (id : Nat) (f : Ctrl → Ctrl) : State :=
  s.modHq (fun h => { h with ctrls := mapWhere (fun c => c.id == id) f h.ctrls })

/-- HQ_ST brought in step with the controllers: CSTATE and PF0_SQ of PF0, FABQ of the fabrics queues. -/
def State.syncHq (s : State) : State :=
  let fab := (s.hq.ctrls.filter (fun c => c.fabrics)).foldl (fun a c => a + c.conns.length) 0
  let s := s.setFld F.HQ_ST_FABQ fab
  match s.ctrl s.pf0Id with
  | none => s
  | some c => (s.setFld F.HQ_ST_CSTATE c.cstate).setFld F.HQ_ST_PF0_SQ ((c.sqs.filter (fun q => q.qid != 0)).length)

/-! ## Requests of the host endpoint -/

/-- Doorbells latched while fetching paused are taken up (R373). -/
def State.ringLatched (s : State) : State :=
  let ring := fun (q : SubQ) => { q with tail := q.latched.getD q.tail, latched := none }
  s.modCtrl s.pf0Id (fun k => { k with sqs := k.sqs.map ring })

/-- The endpoint issues no request while the warm reset of a Rethread holds it, until step 3 ends (R400). -/
def State.epHeld (s : State) : Bool := decide (s.mode = 0) && s.flag F.EP_ST_HOLD && decide (s.fld F.PKG_WIND_STEP ≤ 3)

/-- The host reaches PF1 BAR0 and BAR2: the link is up, the function answers (R382) and is in D0, and no warm reset of a Rethread holds the endpoint (R400). -/
def State.bar0Open (s : State) : Bool := s.flag F.EP_ST_UP && s.ep.served && !s.epHeld && !(s.flag F.EP_ST_D3_1)

/-- A function may issue requests: the link is up, Bus Master Enable is honoured and it is not in D3hot or under reset (R391, R393). -/
def State.mayIssue (s : State) (pf : Nat) : Bool :=
  s.flag F.EP_ST_UP && !s.epHeld &&
    (if pf = 0 then s.flag F.EP_ST_BME0 && !(s.flag F.EP_ST_D3_0) && !(s.flag F.EP_ST_FLR0) && !(s.flag F.EP_ST_DRAIN0)
     else s.flag F.EP_ST_BME1 && !(s.flag F.EP_ST_D3_1) && !(s.flag F.EP_ST_FLR1) && !(s.flag F.EP_ST_DRAIN1))

/-- The vectors of a function that are not masked. -/
def State.unmasked (s : State) (pf : Nat) : List Nat := if pf = 0 then s.ep.unmasked0 else s.ep.unmasked1

/-- The vectors of a function whose PBA bit is set. -/
def State.pba (s : State) (pf : Nat) : List Nat := if pf = 0 then s.ep.pba0 else s.ep.pba1

/-- The state with the PBA of a function changed. -/
def State.setPba (s : State) (pf : Nat) (l : List Nat) : State :=
  s.modEp (fun e => if pf = 0 then { e with pba0 := l } else { e with pba1 := l })

/-- A vector is raised (R390): sent, or its PBA bit set where it is masked or the function may issue nothing. -/
def State.raiseVec (s : State) (pf v : Nat) : State :=
  if s.mayIssue pf && (s.unmasked pf).contains v then s.emit (.msix pf v)
  else if (s.pba pf).contains v then s else s.setPba pf (s.pba pf ++ [v])

/-- Every pending vector that may now be sent is sent, and its PBA bit cleared (R390). -/
def State.sendPending (s : State) (pf : Nat) : State :=
  if s.mayIssue pf then
    let go := (s.pba pf).filter (fun v => (s.unmasked pf).contains v)
    (s.each go (fun s v => s.emit (.msix pf v))).setPba pf ((s.pba pf).filter (fun v => !go.contains v))
  else s

/-- The lowest tag that no outstanding read uses, none given up by a function-level reset (R393), and that is not quarantined (R397); at most 768 reads are outstanding (R381). -/
def State.freeTag (s : State) : Option Nat :=
  if 768 ≤ s.ep.reads.length then none
  else (List.range 1024).find? (fun t => !(s.ep.reads.any (fun r => r.1 == t)) && !s.ep.quar.contains t && !s.ep.dropped.contains t)

/-- The time of a tag counts from this stitch. -/
def State.stampTag (s : State) (t : Nat) : State :=
  let n := s.num
  s.modEp (fun e => { e with times := e.times.filter (fun x => x.1 != t) ++ [(t, n)] })

/-- So many milliseconds, of 200 stitches, have passed since a tag's time (R395, R397). -/
def State.tagPast (s : State) (t ms : Nat) : Bool := (s.ep.times.find? (fun x => x.1 == t)).elim true (fun x => decide (x.2 + 200 * ms ≤ s.num))

/-- The waiting reads of host memory issued while the function may issue and a tag is free; `fuel` bounds them. -/
def State.issueReads (s : State) : Nat → State
  | 0 => s
  | f + 1 =>
    match s.ep.todo, s.freeTag, s.mayIssue 0 with
    | w :: rest, some t, true =>
      let s := (s.modEp (fun e => { e with todo := rest, reads := e.reads ++ [(t, w)] })).stampTag t
      (s.emit (.hostRead t w)).issueReads f
    | _, _, _ => s

/-- Reads of host memory asked for, and issued as far as they may be. -/
def State.readHost (s : State) (l : List HostReadWhy) : State :=
  let s := s.modEp (fun e => { e with todo := e.todo ++ l })
  s.issueReads s.ep.todo.length

/-- DRAIN clears with the last read that was issued before Bus Master Enable was cleared, and a Bus Master Enable written meanwhile is honoured then
(R391, R392). Only PF0 reads host memory. -/
def State.syncDrain (s : State) : State :=
  if s.flag F.EP_ST_DRAIN0 ∧ s.ep.reads.isEmpty then (s.setFld F.EP_ST_DRAIN0 0).setFld F.EP_ST_BME0 (b2n s.ep.bme0) else s

/-- EP_ST.QUAR brought in step. -/
def State.syncQuar (s : State) : State := s.setFld F.EP_ST_QUAR s.ep.quar.length

end Sys2Proof.Machine
end

