-- ==== Sys2Proof/Machine/Maps.lean ====
section
/-! DEFINITION. The maps (R151 to R154, R232 to R236, R335 to R339): lookup, the update of a logical map through shared pages, references, bands
and their stream pages, and what a journal record does to them (R239). -/

namespace Sys2Proof.Machine

/-- A list of pairs with the value of a key set. -/
def putKey (l : List (Nat × α)) (k : Nat) (v : α) : List (Nat × α) :=
  if l.any (fun p => p.1 == k) then l.map (fun p => if p.1 = k then (k, v) else p) else l ++ [(k, v)]

/-- The value of a key in a list of pairs. -/
def getKey (l : List (Nat × α)) (k : Nat) : Option α := (l.find? (fun p => p.1 == k)).map (fun p => p.2)

/-- The number of an erase block, for keyed tables. -/
def blockKey (b : BlockId) : Nat := (b.module * 32 + b.lun) * 262144 + b.block

/-- The erase block of a number. -/
def blockOf (k : Nat) : BlockId := ⟨k / 262144 / 32, k / 262144 % 32, k % 262144⟩

/-! ## Handles and content -/

/-- The ground of a content handle (R151). -/
def handleGround (h : Nat) : Nat := bits h 63 56

/-- The motif whose content table holds a handle. -/
def handleMotif (h : Nat) : Nat := bits h 55 53

/-- The handle of a ground, motif and entry index. -/
def makeHandle (g m i : Nat) : Nat := g * 2 ^ 56 + m * 2 ^ 53 + i

/-- The content-table entry of a handle. -/
def Maps.content (m : Maps) (h : Nat) : CEntry := Sparse.get default m.ctab h

/-- The lowest entry index that a ground has free on a motif; index 0 is never allocated. -/
def Maps.freeIndex (m : Maps) (taken : List Nat) (g mo : Nat) : Nat :=
  let used := (m.ctab.map (fun p => p.1) ++ taken).filter (fun h => handleGround h == g && handleMotif h == mo)
  (((List.range (used.length + 1)).map (fun i => i + 1)).find? (fun i => !used.contains (makeHandle g mo i))).getD (used.length + 1)

/-- REFS of a handle changed (R154, R339): a pinned count stays, and at 0 the entry is FREE. -/
def Maps.addRefs (m : Maps) (h : Nat) (d : Int) : Maps :=
  let e := m.content h
  if h = 0 ∨ e.state = 0 ∨ e.refs = 0xFFFFFFFF then m
  else
    let r := ((e.refs : Int) + d).toNat
    if r = 0 then { m with ctab := Sparse.erase m.ctab h } else { m with ctab := Sparse.set default m.ctab h { e with refs := r } }

/-! ## Views -/

/-- A view by its identifier. -/
def Maps.view (m : Maps) (v : Nat) : Option View := m.views.find? (fun x => x.id == v)

/-- Entries of a map page and of a directory page (R336). -/
def pageEntries : Nat := 1024

/-- Pointers of a directory page. -/
def dirEntries : Nat := 2048

/-- The directory page of a chunk in a view, and the chunk's index within it. -/
def Maps.dirOf (m : Maps) (v : View) (chunk : Nat) : Option Nat :=
  (getKey v.root (chunk / (pageEntries * dirEntries))).filter (fun d => (Sparse.get default m.dirs d).share != 0)

/-- The map page of a chunk in a view. -/
def Maps.pageOf (m : Maps) (v : View) (chunk : Nat) : Option Nat :=
  match m.dirOf v chunk with
  | none => none
  | some d => getKey (Sparse.get default m.dirs d).kids (chunk / pageEntries % dirEntries)

/-- The logical-map entry of a chunk in a view. -/
def Maps.entry (m : Maps) (view chunk : Nat) : LEntry :=
  match m.view view with
  | none => default
  | some v => match m.pageOf v chunk with
    | none => default
    | some p => (getKey (Sparse.get default m.pages p).ents (chunk % pageEntries)).getD default

/-- A view's directory page made its own (R338): a new page, or a copy of a shared one, whose children gain a SHARE each. -/
def Maps.ownDir (m : Maps) (view idx : Nat) : Maps × Nat :=
  let root := (m.view view).getD default |>.root
  let place := fun (m : Maps) (d : Nat) => { m with views := mapWhere (fun x => x.id == view) (fun x => { x with root := putKey x.root idx d }) m.views }
  match getKey root idx with
  | none =>
    let d := m.nextPage
    (place { m with nextPage := d + 1, dirs := Sparse.set default m.dirs d ⟨1, []⟩ } d, d)
  | some d =>
    let old := Sparse.get default m.dirs d
    if old.share ≤ 1 then (m, d)
    else
      let n := m.nextPage
      let dirs := Sparse.set default (Sparse.set default m.dirs d { old with share := old.share - 1 }) n ⟨1, old.kids⟩
      let pages := old.kids.foldl (fun pg k =>
        let q := Sparse.get default pg k.2
        Sparse.set default pg k.2 { q with share := q.share + 1 }) m.pages
      (place { m with nextPage := n + 1, dirs := dirs, pages := pages } n, n)

/-- A directory's map page made its own (R338): a new page, or a copy of a shared one, whose handles gain a reference each. -/
def Maps.ownPage (m : Maps) (dir idx : Nat) : Maps × Nat :=
  let dp := Sparse.get default m.dirs dir
  let place := fun (m : Maps) (p : Nat) => { m with dirs := Sparse.set default m.dirs dir { dp with kids := putKey dp.kids idx p } }
  match getKey dp.kids idx with
  | none =>
    let p := m.nextPage
    (place { m with nextPage := p + 1, pages := Sparse.set default m.pages p ⟨1, []⟩ } p, p)
  | some p =>
    let old := Sparse.get default m.pages p
    if old.share ≤ 1 then (m, p)
    else
      let n := m.nextPage
      let pages := Sparse.set default (Sparse.set default m.pages p { old with share := old.share - 1 }) n ⟨1, old.ents⟩
      let m := old.ents.foldl (fun m e => m.addRefs e.2.handle 1) { m with nextPage := n + 1, pages := pages }
      (place m n, n)

/-- COPY_ON_WRITE (R338): the entry of a chunk in a view set, with the shared pages on its path copied first. -/
def Maps.setEntry (m : Maps) (view chunk : Nat) (e : LEntry) : Maps :=
  let md := m.ownDir view (chunk / (pageEntries * dirEntries))
  let mp := md.1.ownPage md.2 (chunk / pageEntries % dirEntries)
  let pg := Sparse.get default mp.1.pages mp.2
  { mp.1 with pages := Sparse.set default mp.1.pages mp.2 { pg with ents := putKey pg.ents (chunk % pageEntries) e } }

/-- The pages that setting the entry of a chunk in a view copies (R338, R340): level, old page and new page, the directory page first. -/
def Maps.cows (m : Maps) (view chunk : Nat) : List (Nat × Nat × Nat) :=
  let i := chunk / (pageEntries * dirEntries)
  let j := chunk / pageEntries % dirEntries
  let d : List (Nat × Nat × Nat) := match getKey ((m.view view).getD default).root i with
    | some d => if (Sparse.get default m.dirs d).share ≤ 1 then [] else [(1, d, m.nextPage)]
    | none => []
  let o := m.ownDir view i
  let p : List (Nat × Nat × Nat) := match getKey (Sparse.get default o.1.dirs o.2).kids j with
    | some p => if (Sparse.get default o.1.pages p).share ≤ 1 then [] else [(0, p, o.1.nextPage)]
    | none => []
  d ++ p

/-- References given back that no map page holds (R337): what only a staging view that is gone had taken. -/
def Maps.countRefs (m : Maps) (g : Nat) : Maps :=
  let held := fun (h : Nat) => m.pages.foldl (fun a p => a + (p.2.ents.filter (fun e => e.2.handle == h)).length) 0
  { m with ctab := m.ctab.filterMap (fun p =>
      if handleGround p.1 ≠ g ∨ p.2.refs = 0xFFFFFFFF then some p else if held p.1 = 0 then none else some (p.1, { p.2 with refs := held p.1 })) }

/-- The views, those being deleted apart, that reach a map page for a chunk. -/
def Maps.sharers (m : Maps) (chunk page : Nat) : List Nat :=
  (m.views.filter (fun v => v.state != 3 && m.pageOf v chunk == some page)).map (fun v => v.id)

/-- The entry of a chunk set in a view beyond the first one of a map update, with the references that it takes and gives. -/
def Maps.setFurther (m : Maps) (view chunk : Nat) (e : LEntry) : Maps :=
  let old := (m.entry view chunk).handle
  ((m.setEntry view chunk e).addRefs e.handle 1).addRefs old (-1)

/-- The entry of a chunk set for views that take one result (R343): once in the page that they and no other view reach, else in each view by itself. -/
def Maps.setEntries (m : Maps) (vs : List Nat) (chunk : Nat) (e : LEntry) : Maps :=
  match vs with
  | [] => m
  | v :: t =>
    let apart := fun (m : Maps) => t.foldl (fun m w => m.setFurther w chunk e) (m.setEntry v chunk e)
    match (m.view v).bind (fun x => m.pageOf x chunk) with
    | some p =>
      if t ≠ [] ∧ (m.sharers chunk p).all vs.contains ∧ vs.all (m.sharers chunk p).contains then
        let pg := Sparse.get default m.pages p
        { m with pages := Sparse.set default m.pages p { pg with ents := putKey pg.ents (chunk % pageEntries) e } }
      else apart m
    | none => apart m

/-- A view recorded (R340): removed as FREE; as DELETING its directory pages lose a SHARE each (R346), those that no view
reaches go to the walker, and its root is let go. -/
def Maps.putView (m : Maps) (v : View) : Maps :=
  if v.state = 0 then { m with views := m.views.filter (fun x => x.id != v.id) }
  else if v.state = 3 then
    let root := ((m.view v.id).getD default).root
    let dirs := root.foldl (fun ds p =>
      let d := Sparse.get default ds p.2
      Sparse.set default ds p.2 { d with share := d.share - 1 }) m.dirs
    let gone := (root.filter (fun p => decide ((Sparse.get default m.dirs p.2).share ≤ 1))).map (fun p => (p.2, 1))
    { m with dirs := dirs, views := m.views.map (fun x => if x.id = v.id then { v with root := [], left := gone } else x) }
  else if m.views.any (fun x => x.id == v.id) then { m with views := m.views.map (fun x => if x.id = v.id then v else x) }
  else { m with views := m.views ++ [v] }

/-- A release of a page by the walker (R346): a directory page (level 1) takes a SHARE from each child, a map page (level 0) a reference from
each handle, and the page is freed. -/
def Maps.release (m : Maps) (page level : Nat) : Maps :=
  if level = 1 then
    let d := Sparse.get default m.dirs page
    let pages := d.kids.foldl (fun pg k =>
      let q := Sparse.get default pg k.2
      Sparse.set default pg k.2 { q with share := q.share - 1 }) m.pages
    let gone := (d.kids.filter (fun k => decide ((Sparse.get default m.pages k.2).share ≤ 1))).map (fun k => (k.2, 0))
    { m with pages := pages, dirs := Sparse.erase m.dirs page,
             views := mapWhere (fun x => x.left.contains (page, 1)) (fun x => { x with left := x.left.erase (page, 1) ++ gone }) m.views }
  else
    let p := Sparse.get default m.pages page
    let m := p.ents.foldl (fun m e => m.addRefs e.2.handle (-1)) m
    { m with pages := Sparse.erase m.pages page, views := mapWhere (fun x => x.left.contains (page, 0)) (fun x => { x with left := x.left.erase (page, 0) }) m.views }

/-! ## Bands, blocks and stream pages -/

/-- A band by its number. -/
def Maps.band (m : Maps) (n : Nat) : Option Band := m.bands.find? (fun b => b.num == n)

/-- A band put in place of the one with its number. -/
def Maps.putBand (m : Maps) (b : Band) : Maps :=
  if m.bands.any (fun x => x.num == b.num) then { m with bands := m.bands.map (fun x => if x.num = b.num then b else x) }
  else { m with bands := m.bands ++ [b] }

/-- The `i`th stream page number of a band, which takes them from its units in order (R235). -/
def Band.pageAt (b : Band) (i : Nat) : Nat := b.units.getD (i / 1024) 0 * 1024 + i % 1024

/-- How many data pages a band has. -/
def Band.dataPages (b : Band) : Nat := 4 * b.k * b.stripes

/-- The position of a stream page in a band. -/
def Band.indexOf (b : Band) (page : Nat) : Option Nat :=
  ((List.range b.units.length).find? (fun i => b.units.getD i 0 == page / 1024)).map (fun i => i * 1024 + page % 1024)

/-- The stripe, code member and row of the `i`th data page of a band (R235). -/
def Band.place (b : Band) (i : Nat) : Nat × Nat × Nat := (i / (4 * b.k), i / 4 % b.k, i % 4)

/-- The block descriptor of a block. -/
def Maps.block (m : Maps) (b : BlockId) : BlockDesc := Sparse.get default m.blocks (blockKey b)

/-- The state with a block descriptor set. -/
def Maps.setBlock (m : Maps) (b : BlockId) (d : BlockDesc) : Maps := { m with blocks := Sparse.set default m.blocks (blockKey b) d }

/-- The media-map entry of a stream page. -/
def Maps.media (m : Maps) (p : Nat) : MEntry := Sparse.get default m.mmap p

/-- The media-map entry that the `i`th data page of a band has once its stripe is programmed. -/
def Band.entryAt (b : Band) (i : Nat) : MEntry :=
  let p := b.place i
  let pos := positionOf (b.k + b.m) p.1 p.2.1
  let id := b.members.getD pos default
  { state := 2, ground := b.ground, module := id.module, lun := id.lun, block := id.block, page := 4 * p.1 + p.2.2, member := pos, retried := false }

/-- A member position of a band replaced, in the band and in every media-map entry that names it (R271). -/
def Maps.setMember (m : Maps) (band pos : Nat) (id : BlockId) : Maps :=
  match m.band band with
  | none => m
  | some b =>
    let pages := (List.range b.dataPages).map b.pageAt
    let mmap := pages.foldl (fun mm p =>
      let e := Sparse.get default mm p
      if e.state ≠ 0 ∧ e.member = pos then
        Sparse.set default mm p { e with module := id.module, lun := id.lun, block := id.block } else mm) m.mmap
    { m.putBand { b with members := setAt b.members pos id, olds := b.olds.filter (fun o => o.1 != pos) } with mmap := mmap }

/-- Sectors of a record (R160). -/
def recSectors (len : Nat) : Nat := (len + 255) / 256

/-- The live sectors of a band: those of DURABLE content with an address in it (R236). -/
def Maps.liveSectors (m : Maps) (b : Band) : Nat :=
  (m.ctab.filter (fun p => p.2.state == 2 && handleGround p.1 == b.ground && (b.indexOf (p.2.addr / 64)).isSome)).foldl
    (fun a p => a + recSectors p.2.len) 0

/-- The content handles whose records lie in a band. -/
def Maps.handlesIn (m : Maps) (b : Band) : List Nat :=
  (m.ctab.filter (fun p => p.2.state == 2 && handleGround p.1 == b.ground && (b.indexOf (p.2.addr / 64)).isSome)).map (fun p => p.1)

/-- The stream pages that a record touches. -/
def CEntry.pages (e : CEntry) : List Nat :=
  let last := (e.addr + recSectors e.len - 1) / 64
  (List.range (last + 1 - e.addr / 64)).map (fun i => e.addr / 64 + i)

/-- A stripe of a band issued: torn until it is done (R262). -/
def Band.openStripe (b : Band) (st : Nat) : Band := { b with next := max b.next (st + 1), done := max b.done (st + 1), torn := b.torn ++ [st] }

/-- A stripe of a band programmed with success. -/
def Band.closeStripe (b : Band) (st : Nat) : Band := { b with torn := b.torn.filter (fun t => t != st) }

/-! ## Journal records -/

/-- What a journal record does to the maps. -/
def Maps.applyRec (m : Maps) (r : JRec) : Maps :=
  match r with
  | .lmap vs c e => m.setEntries vs c e
  | .ctab h e => { m with ctab := Sparse.set default m.ctab h e }
  | .refs h d => m.addRefs h d
  | .mmap p e => { m with mmap := Sparse.set default m.mmap p e }
  | .band b =>
    let m := if b.state = 0 then { m with bands := m.bands.filter (fun x => x.num != b.num) } else m.putBand b
    { m with nextBand := max m.nextBand (b.num + 1) }
  | .block id d => m.setBlock id d
  | .nonce g b => { m with marks := Sparse.set 0 m.marks g (max b (Sparse.get 0 m.marks g)) }
  | .unit i taken => { m with units := if taken then (if m.units.contains i then m.units else m.units ++ [i]) else m.units.filter (fun u => u != i) }
  | .stripeOpen b st =>
    { m with opens := m.opens ++ [(b, st)], bands := mapWhere (fun x => x.num == b) (fun x => x.openStripe st) m.bands }
  | .stripeDone b st =>
    { m with opens := m.opens.filter (fun o => o != (b, st)), bands := mapWhere (fun x => x.num == b) (fun x => x.closeStripe st) m.bands }
  | .member b p id => m.setMember b p id
  | .modState i ms => { m with mods := Sparse.set default m.mods i ms }
  | .conn _ _ _ => m
  | .view v => m.putView v
  | .walk p l => m.release p l
  | .repl t x => { m with repl := Sparse.set default m.repl t x }
  | .ns n => { m with namespaces := m.namespaces.filter (fun x => x.id != n.id) ++ [n] }
  | .nsGone i => { m with namespaces := m.namespaces.filter (fun x => x.id != i) }
  | .move h a p =>
    let e := m.content h
    if e.state = 0 then m else { m with ctab := Sparse.set default m.ctab h { e with addr := a, poison := p } }
  | .roots _ l => { m with dirs := l.foldl (fun ds p =>
      let d := Sparse.get default ds p.2
      Sparse.set default ds p.2 { d with share := d.share + 1 }) m.dirs }

/-- A whole transaction applied (R239). -/
def Maps.applyTxn (m : Maps) (l : List JRec) : Maps := l.foldl Maps.applyRec m

/-! ## The maps of the state -/

/-- The state with its maps changed. -/
def State.modMaps (s : State) (f : Maps → Maps) : State := s.modMed (fun d => { d with maps := f d.maps })

/-- The live view of a namespace: the snapshot that a read-only namespace names, else the view of its own number (R335, R375). -/
def Namespace.viewId (n : Namespace) : Nat := n.view.getD n.id

/-- The chunk of an atom (R137). -/
def State.chunkOf (s : State) (n : Namespace) (atom : Nat) : Nat := if s.isChunk4k n.ground then atom else atom / 4

/-- Atoms of a chunk. -/
def State.chunkAtoms (s : State) (g : Nat) : Nat := if s.isChunk4k g then 1 else 4

/-- The home motif of a chunk address (R138). -/
def State.homeMotif (s : State) (chunk : Nat) : Nat := chunk / 16 % s.fuses.caps.motifs

/-- Fingerprint entries whose content is still there; R154 removes the others as their REFS reach 0. -/
def State.pruneFps (s : State) : State :=
  s.modMed (fun d => { d with fps := d.fps.filter (fun e => (d.maps.content e.handle).state != 0 ||
    d.txns.any (fun t => t.recs.any (fun r => match r with | .ctab h _ => h == e.handle | _ => false))) })

/-- MTF_FP_ST.ENTRIES brought in step for every motif. -/
def State.syncFp (s : State) : State :=
  s.each s.motifs (fun s m => s.setFld F.MTF_FP_ST_ENTRIES ((s.med.fps.filter (fun e => e.motif == m)).length) m)

end Sys2Proof.Machine
end

