-- ==== Sys2Proof/Machine/Wire.lean ====
section
/-! DEFINITION. The bytes of what travels and of what is journaled, little-endian under R5: bride frames (R112 to R116, R128, R132), bobbin commands and completion entries
(R283, R284), map entries and block descriptors (R152, R153, R233, R234), and the records of the metadata journal (R238, R260, R308, R340). -/

namespace Sys2Proof.Machine

/-! ## Entries of the maps -/

/-- A logical-map entry (R152): HANDLE and four application tags. -/
def LEntry.bytes (e : LEntry) : Bytes := leBytes 8 e.handle ++ (List.range 4).flatMap (fun i => leBytes 2 (e.tags.getD i 0))

/-- A content-table entry (R153). -/
def CEntry.bytes (e : CEntry) : Bytes :=
  leBytes 6 e.addr ++ leBytes 2 e.len ++ leBytes 4 e.refs ++ leBytes 2 (e.slot % 4096) ++
    bytesOf [e.state % 4 + 4 * b2n e.enc + 8 * b2n e.chunk4k + 16 * (e.poison % 16), 0]

/-- A media-map entry (R233): STATE [63:62], GROUND [61:54], MODULE [53:46], LUN [45:41], BLOCK [40:23], PAGE [22:11], MEMBER [10:6], RETRIED [5]. -/
def MEntry.word (e : MEntry) : Nat :=
  e.state % 4 * 2 ^ 62 + e.ground % 256 * 2 ^ 54 + e.module % 256 * 2 ^ 46 + e.lun % 32 * 2 ^ 41 + e.block % 2 ^ 18 * 2 ^ 23 + e.page % 4096 * 2 ^ 11 +
    e.member % 32 * 2 ^ 6 + b2n e.retried * 2 ^ 5

/-- The 8 bytes of a media-map entry. -/
def MEntry.bytes (e : MEntry) : Bytes := leBytes 8 e.word

/-- The 16 bytes of a block descriptor (R234). -/
def BlockDesc.bytes (d : BlockDesc) : Bytes :=
  leBytes 4 d.erases ++ leBytes 4 d.reads ++ leBytes 6 d.band ++ bytesOf [d.use % 16, d.ground]

/-- A connection descriptor (R307). -/
def ConnDesc.bytes (d : ConnDesc) : Bytes :=
  let flags := b2n d.spray + 2 * b2n d.twin + 4 * b2n d.ipv6 + 8 * b2n d.active
  leBytes 3 d.remoteQpn ++ bytesOf [flags] ++ leBytes 3 d.rqPsn ++ bytesOf [d.paths % 16] ++ leBytes 3 d.sqPsn ++ bytesOf [d.pmtu % 8, d.ground] ++
    bytesOf [d.cls % 4 + 4 * (d.dscp % 64), d.ackTimeout % 32 + 32 * (d.retryCnt % 8), d.rnrRetry % 8] ++
    (zeros 16 ++ d.remoteIp).drop d.remoteIp.length ++ (d.remoteMac ++ zeros 6).take 6 ++ leBytes 2 d.sportBase ++ leBytes 3 d.pd ++ zeros 1 ++
    leBytes 4 d.twinId ++ leBytes 4 d.rqId ++ zeros 12

/-! ## Journal records -/

/-- A journal record (R238): its header, with the total length in units of 8 bytes, and its payload. -/
def journalRec (ty txn : Nat) (payload : Bytes) : Bytes :=
  bytesOf [ty, (16 + payload.length) / 8, 0, 0] ++ leBytes 4 txn ++ zeros 8 ++ payload

/-- The records that a change is written as, with the values that the entry has in the maps where the change names only a part of it (R238, R260, R308, R340). The spec has no
record for a namespace, nor for roots that a view adopts: types 0xF0 to 0xF2 (log 29). Before an
entry comes a COW record for each page on its path that is copied (R338). -/
def JRec.bytes (m : Maps) (txn : Nat) (r : JRec) : List Bytes :=
  match r with
  | .lmap vs c e =>
    (vs.foldl (fun (a : List Bytes × Maps) v =>
      (a.1 ++ (a.2.cows v c).map (fun x => journalRec 0x12 txn (leBytes 2 v ++ bytesOf [x.1, 0, 0, 0, 0, 0] ++ leBytes 8 x.2.1 ++ leBytes 8 x.2.2)) ++
        [journalRec 0x01 txn (leBytes 2 v ++ zeros 6 ++ leBytes 8 c ++ e.bytes)], a.2.setEntry v c e)) ([], m)).1
  | .ctab h e => [journalRec 0x02 txn (leBytes 8 h ++ e.bytes)]
  | .refs h d => [journalRec 0x03 txn (leBytes 8 h ++ leBytes 4 (ofSigned 32 d) ++ zeros 4)]
  | .mmap p e => [journalRec 0x04 txn (leBytes 8 p ++ e.bytes)]
  | .band b => [journalRec 0x05 txn (leBytes 8 b.num ++ bytesOf [b.state, 0, 0, 0] ++ leBytes 4 (m.liveSectors b))]
  | .block i d => [journalRec 0x06 txn (bytesOf [i.module, i.lun, 0, 0] ++ leBytes 4 i.block ++ bytesOf [d.use, 0, 0, 0] ++ leBytes 4 d.erases)]
  | .nonce g b => [journalRec 0x07 txn (leBytes 2 g ++ zeros 6 ++ leBytes 8 b)]
  | .unit i _ => [journalRec 0x08 txn (leBytes 8 i)]
  | .stripeOpen b st => [journalRec 0x09 txn (leBytes 8 b ++ leBytes 4 st ++ zeros 4)]
  | .stripeDone b st => [journalRec 0x0A txn (leBytes 8 b ++ leBytes 4 st ++ zeros 4)]
  | .member b p i => [journalRec 0x0B txn (leBytes 8 b ++ bytesOf [p, i.module, i.lun, 0] ++ leBytes 4 i.block)]
  | .modState i x => [journalRec 0x0C txn (bytesOf [i, x.role, x.fd, x.cause, 0, 0, 0, 0])]
  | .conn id d w => [journalRec 0x10 txn (leBytes 4 id ++ bytesOf [w, 0, 0, 0] ++ d.bytes ++ zeros 40)]
  | .view v =>
    let root := match v.root with | p :: _ => p.2 | [] => 0
    [journalRec 0x11 txn (leBytes 2 v.id ++ leBytes 2 v.source ++ bytesOf [v.state, b2n v.intern, 0, 0] ++ leBytes 8 v.cut ++ leBytes 8 root ++ zeros 8)]
  | .walk p l => [journalRec 0x13 txn (leBytes 8 p ++ bytesOf [l] ++ zeros 7)]
  | .repl t x => [journalRec 0x14 txn (bytesOf [t] ++ zeros 7 ++ leBytes 8 x.epoch ++ leBytes 2 x.base ++ zeros 6 ++ leBytes 8 x.cut)]
  | .ns n => [journalRec 0xF0 txn (leBytes 2 n.id ++ bytesOf [b2n n.pi + 2 * b2n n.ext, n.ground] ++ leBytes 4 n.domain ++ leBytes 8 n.size)]
  | .nsGone i => [journalRec 0xF1 txn (leBytes 8 i)]
  | .roots v l => l.map (fun p => journalRec 0xF2 txn (leBytes 8 v ++ leBytes 8 p.1 ++ leBytes 8 p.2))
  | .move h a p => [journalRec 0x02 txn (leBytes 8 h ++ ({ m.content h with addr := a, poison := p } : CEntry).bytes)]

/-- A transaction as the journal holds it: its records, and TXN_END with how many there are, itself included (R239). -/
def txnBytes (m : Maps) (txn : Nat) (recs : List JRec) : List Bytes :=
  let l := (recs.foldl (fun (a : List Bytes × Maps) r => (a.1 ++ r.bytes a.2 txn, a.2.applyRec r)) ([], m)).1
  l ++ [journalRec 0x0F txn (leBytes 4 (l.length + 1) ++ zeros 4)]

/-- Records gathered whole into pieces of at most `n` bytes, in their order. -/
def gatherBytes (n : Nat) (l : List Bytes) : List Bytes :=
  (l.foldl (fun (a : List Bytes × Bytes) r => if a.2.length + r.length ≤ n then (a.1, a.2 ++ r) else (a.1 ++ [a.2], r)) ([], [])) |> fun a => a.1 ++ [a.2]

/-! ## The bobbin protocol -/

/-- A command of a module's queue (R284). -/
def BobCmd.bytes (c : BobCmd) : Bytes :=
  bytesOf [c.opcode, c.flags] ++ leBytes 2 c.cid ++ bytesOf [c.ground, c.lun, c.count, c.retry] ++ leBytes 8 c.claim ++ leBytes 4 c.block ++ leBytes 4 c.page ++
    leBytes 8 c.dptr ++ leBytes 8 c.arg ++ zeros 24

/-- A completion entry (R283), with the SQHD and PHASE that its place in the queue gives it. -/
def BobCpl.bytes (x : BobCpl) (sqhd phase : Nat) : Bytes :=
  leBytes 8 x.result ++ leBytes 2 x.status ++ leBytes 2 (sqhd % 4096 + 4096 * (x.qid % 16)) ++ leBytes 2 x.cid ++ leBytes 2 (phase % 2)

/-! ## Headers in network byte order -/

/-- The placement header of a spray packet (R321). -/
def placementHeader (va rkey ofs : Nat) : Bytes := beBytes 8 va ++ beBytes 4 rkey ++ beBytes 4 ofs

/-- The SACK header of an Acknowledge (R324). -/
def sackHeader (base high map : Nat) (resync : Bool) : Bytes := beBytes 3 base ++ bytesOf [b2n resync] ++ beBytes 3 high ++ zeros 1 ++ beBytes 8 map

/-- The payload of a vendor congestion notice (R333). -/
def noticeBytes (level rate : Nat) : Bytes := bytesOf [0x46, 0x4A, level, 0] ++ beBytes 4 rate ++ zeros 8

/-! ## Bride frames -/

/-- A 16-byte entry of the stitch record (R114). -/
def RecEntry.bytes (e : RecEntry) : Bytes :=
  match e with
  | .drop m g q => bytesOf [1, m, g, 0] ++ leBytes 8 q ++ zeros 4
  | .claim g c => bytesOf [2, 0, g, 0] ++ leBytes 8 c ++ zeros 4
  | .ground g st u => bytesOf [3, 0, g, 0, st, 0, 0, 0] ++ leBytes 4 u ++ zeros 4
  | .conn i n a => bytesOf [4, 0, 0, 0] ++ leBytes 4 i ++ leBytes 4 n ++ leBytes 4 a
  | .qpos g q h t => bytesOf [5, 0, g, 0] ++ leBytes 2 q ++ zeros 2 ++ leBytes 4 h ++ leBytes 4 t
  | .cache m b n => bytesOf [6, m, 0, 0] ++ leBytes 8 b ++ leBytes 4 n
  | .journal m g p => bytesOf [7, m, g, 0] ++ leBytes 8 p ++ zeros 4
  | .twin c q => bytesOf [8, 0, 0, 0] ++ leBytes 4 c ++ leBytes 4 q ++ zeros 4

/-- A RECORD part (R114): the fixed part and its entries. -/
def Record.bytes (r : Record) : Bytes :=
  let flags := b2n r.halive + 2 * b2n r.admitting + 4 * b2n r.rethread + 8 * b2n r.named + 16 * b2n r.staging + 32 * b2n r.prior
  leBytes 8 r.stitch ++ leBytes 2 r.txPhase ++ bytesOf [r.stcState, r.mode, flags, r.headId] ++ leBytes 2 r.entries.length ++ leBytes 8 r.numOfs ++
    leBytes 8 r.namedStitch ++ leBytes 4 r.mirrorLimit ++ bytesOf [r.part, r.parts] ++ zeros 26 ++ r.entries.flatMap RecEntry.bytes

/-- A MIRROR or RESYNC payload (R116): the descriptor, and 4,096 bytes but for an ATOMIC or a deallocate (R163). -/
def MirrorFrame.bytes (f : MirrorFrame) : Bytes :=
  let flags := b2n f.first + 2 * b2n f.last + 4 * b2n f.atomic + 8 * b2n f.pi + 16 * b2n f.host + 32 * b2n f.journal
  leBytes 8 f.mseq ++ bytesOf [f.ground, flags] ++ leBytes 2 f.nsid ++ zeros 4 ++ leBytes 8 f.atom ++ leBytes 4 f.conn ++ leBytes 4 f.opSeq ++ leBytes 4 f.ackSeq ++
    leBytes 4 f.atoms ++ leBytes 8 f.writeId ++ leBytes 8 f.result ++ zeros 8 ++ (if f.atomic ∨ f.dealloc then [] else (f.data ++ zeros 4096).take 4096)

/-- A TRAIN_ID payload (R113). Hashes keep the byte order of R68. -/
def TrainId.bytes (t : TrainId) : Bytes :=
  leBytes 4 t.hwType ++ bytesOf [t.motifs, t.opts, t.headId, t.mode] ++ leBytes 16 t.unitId ++ (t.pairHash ++ zeros 48).take 48 ++
    (t.acceptHash ++ zeros 48).take 48 ++ leBytes 4 t.probeTx ++ leBytes 4 t.probeEcho

/-- A HAVE entry (R132). -/
def HaveEntry.bytes (e : HaveEntry) : Bytes := bytesOf [e.ground, 0, 0, 0] ++ leBytes 4 e.conn ++ leBytes 4 e.seq ++ zeros 4

/-- TYPE of a frame (R112). -/
def BridePay.type (p : BridePay) : Nat :=
  match p with
  | .train _ => 1
  | .record _ => 2
  | .mirror _ => 3
  | .haves _ => 4
  | .handover _ _ _ _ => 5
  | .resync _ => 6

/-- The virtual channel of a frame (R112). -/
def BridePay.vc (p : BridePay) : Nat :=
  match p with
  | .train _ => 0
  | .record _ => 0
  | .handover _ _ _ _ => 0
  | .haves _ => 1
  | .mirror _ => 2
  | .resync _ => 3

/-- The payload of a frame (R112). -/
def BridePay.payload (p : BridePay) : Bytes :=
  match p with
  | .train t => t.bytes
  | .record r => r.bytes
  | .mirror f => f.bytes
  | .haves l => l.flatMap HaveEntry.bytes
  | .handover g st c l => bytesOf [g, st] ++ leBytes 2 l.length ++ zeros 4 ++ leBytes 8 c ++ l.flatMap RecEntry.bytes
  | .resync f => f.bytes

/-- The sending motif of a frame that a group carries (R112): a MIRROR or RESYNC frame's own, else the group's. -/
def BridePay.motif (p : BridePay) (group : Nat) : Nat :=
  match p with
  | .train _ => group
  | .record _ => group
  | .mirror f => f.motif
  | .haves _ => group
  | .handover _ _ _ _ => group
  | .resync f => f.motif

/-- A frame (R112): the 16-byte header, the payload, and the trailer with the CRC-32C over both. -/
def brideFrame (type vc seq ack motif head : Nat) (payload : Bytes) : Bytes :=
  let b := bytesOf [type, vc] ++ leBytes 2 payload.length ++ leBytes 4 seq ++ leBytes 4 ack ++ bytesOf [motif % 8 + 128 * (head % 2), 0, 0, 0] ++ payload
  b ++ leBytes 4 (crc32c b) ++ zeros 4

/-- The trailer of a frame agrees with its header and payload (R112, R113). -/
def frameCrcOk (b : Bytes) : Bool :=
  decide (24 ≤ b.length) && decide (leNat (slice b (b.length - 8) 4) = crc32c (b.take (b.length - 8)))

/-- SEQ of a frame. -/
def frameSeq (b : Bytes) : Nat := leNat (slice b 4 4)

end Sys2Proof.Machine
end

