-- ==== Sys2Proof/Machine/Link.lean ====
section
/-! DEFINITION. Sending over the bride link (R110 to R113, R116) and writing the metadata journal (R239). -/

namespace Sys2Proof.Machine

/-- A bride group. -/
def State.group (s : State) (g : Nat) : BrideGroup := s.pair.groups.getD g default

/-- A group is up while it has a lane up. -/
def State.groupUp (s : State) (g : Nat) : Bool := s.hasMotif g && decide (0 < (s.group g).lanes)

/-- The groups that are up, lowest first. -/
def State.upGroups (s : State) : List Nat := s.motifs.filter s.groupUp

/-- The state with a group changed. -/
def State.modGroup (s : State) (g : Nat) (f : BrideGroup → BrideGroup) : State :=
  s.modPair (fun p => { p with groups := setAt p.groups g (f (p.groups.getD g default)) })

/-- The group that carries a motif's traffic: its own, or the lowest-numbered group that is up (R110). -/
def State.groupFor (s : State) (m : Nat) : Option Nat := if s.groupUp m then some m else s.upGroups.head?

/-- The bride link is down and the partner head is alive (R133). -/
def State.bothAlive (s : State) : Bool := s.upGroups.isEmpty && s.flag F.BRD_ST_HALIVE_IN

/-- The bytes a frame takes on the link: header, payload and trailer (R112). -/
def BridePay.bytes (p : BridePay) : Nat :=
  match p with
  | .train _ => 24 + 128
  | .record r => 24 + 64 + 16 * r.entries.length
  | .mirror m => 24 + (if m.atomic ∨ m.dealloc then 64 else 4160)
  | .haves l => 24 + 16 * l.length
  | .handover _ _ _ e => 24 + 16 + 16 * e.length
  | .resync m => 24 + (if m.atomic ∨ m.dealloc then 64 else 4160)

/-- The bytes of a group's replay buffer in use (R113). -/
def BrideGroup.buffered (g : BrideGroup) : Nat := g.unacked.foldl (fun a f => a + f.2.bytes) 0

/-- A frame may be sent now: channel 0 always, the others while the 256 KiB replay buffer has room and none of their kind waits (R113). -/
def BrideGroup.mayCarry (g : BrideGroup) (p : BridePay) : Bool :=
  p.vc == 0 || (decide (g.buffered + p.bytes ≤ 262144) && g.waiting.all (fun w => decide (p.vc < w.vc)))

/-- A frame of a group as it goes on the link, with the ACKSEQ of the moment (R112). -/
def State.wire (s : State) (g seq : Nat) (p : BridePay) : Bytes := brideFrame p.type p.vc seq (s.group g).rxSeq (p.motif g) s.headId p.payload

/-- A NAK (7) or IDLE (8) frame of a group: it carries the last SEQ sent (R112). -/
def State.bareFrame (s : State) (g type : Nat) : Bytes := brideFrame type 0 (s.group g).txSeq (s.group g).rxSeq g s.headId []

/-- The SEQ after another (R112). -/
def nextSeq (n : Nat) : Nat := (n + 1) % 2 ^ 32

/-- An ACKSEQ covers a SEQ, in serial arithmetic over 32 bits. -/
def seqCovers (ack seq : Nat) : Bool := decide ((ack + 2 ^ 32 - seq % 2 ^ 32) % 2 ^ 32 < 2 ^ 31)

/-- A frame goes out on a group with the group's next SEQ. -/
def State.transmit (s : State) (g : Nat) (p : BridePay) : State :=
  let seq := nextSeq (s.group g).txSeq
  (s.modGroup g (fun b => { b with txSeq := seq, unacked := b.unacked ++ [(seq, p)] })).emit (.bride g (s.wire g seq p))

/-- A frame is sent on a group, or waits where the replay buffer is full or the group is down (R113). -/
def State.sendOn (s : State) (g : Nat) (p : BridePay) : State :=
  if s.groupUp g && (s.group g).mayCarry p then s.transmit g p else s.modGroup g (fun b => { b with waiting := b.waiting ++ [p] })

/-- The waiting frames of a group that may now go, lowest channel first; `fuel` bounds them. -/
def State.drainGroup (s : State) (g : Nat) : Nat → State
  | 0 => s
  | f + 1 =>
    let w := (s.group g).waiting
    match [1, 2, 3].findSome? (fun vc => (List.range w.length).find? (fun i => ((w[i]?).map BridePay.vc) == some vc)) with
    | none => s
    | some i =>
      match w[i]? with
      | none => s
      | some p =>
        if (s.group g).buffered + p.bytes ≤ 262144 then
          ((s.modGroup g (fun b => { b with waiting := b.waiting.take i ++ b.waiting.drop (i + 1) })).transmit g p).drainGroup g f
        else s

/-- Writes go to the partner head: Paired and Rethread, or a resynchronisation under way (R116, R135). -/
def State.mirrors (s : State) : Bool := decide (s.mode = 1) || decide (s.mode = 3) || s.pair.rejoin

/-- The next MSEQ of a motif (R116). -/
def State.nextMseq (s : State) (m : Nat) : Nat := s.pair.mseq.getD m 0 + 1

/-- A frame from a motif in the mirror's order, as `kind` makes it of its descriptor: its MSEQ is taken, and it goes on the group that carries the motif's traffic; with no
group up it waits on the motif's own (R110, R116). -/
def State.sendSequenced (s : State) (kind : MirrorFrame → BridePay) (f : MirrorFrame) : State × Nat :=
  let n := s.nextMseq f.motif
  let s := s.modPair (fun p => { p with mseq := setAt p.mseq f.motif n })
  (s.sendOn ((s.groupFor f.motif).getD f.motif) (kind { f with mseq := n }), n)

/-- A MIRROR frame (R116), with the MSEQ that it gets. -/
def State.sendMirror (s : State) (f : MirrorFrame) : State × Nat := s.sendSequenced .mirror f

/-- A blank frame of a motif and ground. -/
def MirrorFrame.of (motif ground : Nat) : MirrorFrame := { (default : MirrorFrame) with motif := motif, ground := ground, conn := 0xFFFFFFFF }

/-! ## The metadata journal -/

/-- The state with a transaction changed. -/
def State.modTxn (s : State) (id : Nat) (f : Txn → Txn) : State := s.modMed (fun d => { d with txns := mapWhere (fun t => t.id == id) f d.txns })

/-- A transaction by its number. -/
def State.txn (s : State) (id : Nat) : Option Txn := s.med.txns.find? (fun t => t.id == id)

/-- The maps as they will be when the transactions in the journals are durable, as far as the pages of the logical maps go (R338). -/
def State.mapsAhead (s : State) (txn : Nat) : Maps :=
  let isMap := fun (r : JRec) => match r with | .lmap _ _ _ => true | _ => false
  (s.med.txns.filter (fun t => t.sent && !t.durable && !t.early && t.id != txn)).foldl (fun m t => m.applyTxn (t.recs.filter isMap)) s.med.maps

/-- The JOURNAL frames of a transaction (R116, R239): its records in pieces of at most 4,096 bytes, the last one with its TXN_END. -/
def State.journalFrames (s : State) (motif ground txn : Nat) (recs : List JRec) : List MirrorFrame :=
  let l := gatherBytes 4096 (txnBytes (s.mapsAhead txn) txn recs)
  (List.range l.length).map (fun i =>
    let end_ := decide (i + 1 = l.length)
    { MirrorFrame.of motif ground with
      first := decide (i = 0), last := end_, journal := true, data := l.getD i [], recs := if end_ then recs else [], txn := txn })

/-- The position that the partner head's last JOURNAL entry gives a journal (R114). -/
def State.theirPos (s : State) (g m : Nat) : Nat :=
  (s.pair.theirs.findSome? (fun e => match e with | .journal x y p => if x = m ∧ y = g then some p else none | _ => none)).getD 0

/-- The metadata journal of a ground and motif (R239); one that this head begins goes on where the partner head's stands. -/
def State.log (s : State) (g m : Nat) : JLog :=
  (s.med.logs.find? (fun l => l.ground == g && l.motif == m)).getD { (default : JLog) with ground := g, motif := m, pos := s.theirPos g m, start := s.theirPos g m }

/-- The state with a metadata journal put in place. -/
def State.putLog (s : State) (l : JLog) : State :=
  s.modMed (fun d => { d with logs := d.logs.filter (fun x => !(x.ground == l.ground && x.motif == l.motif)) ++ [l] })

/-- Bytes appended to a metadata journal. -/
def State.appendLog (s : State) (g m : Nat) (b : Bytes) : State :=
  let l := s.log g m
  s.putLog { l with pos := l.pos + b.length, tail := l.tail ++ b }

/-- A transaction goes into the journal of its ground and motif: mirrored as JOURNAL frames where the head mirrors (R116, R239). -/
def State.sendTxn (s : State) (id : Nat) : State :=
  match s.txn id with
  | none => s
  | some t =>
    let now := s.num
    let start := (s.log t.ground t.motif).pos
    let s := s.appendLog t.ground t.motif (txnBytes (s.mapsAhead id) id t.recs).flatten
    let stop := (s.log t.ground t.motif).pos
    let s := s.modTxn id (fun t => { t with sent := true, stitch := now, span := (start, stop) })
    if s.mirrors then
      (s.each (s.journalFrames t.motif t.ground id t.recs) (fun s f => (s.sendMirror f).1)).modTxn id (fun t => { t with mirrored := true })
    else s

/-- A new transaction, not yet in the journal. -/
def State.addTxn (s : State) (ground motif : Nat) (recs : List JRec) (early : Bool) (fin : TxnEnd) : State × Nat :=
  let id := s.med.nextTxn
  let t : Txn := { id := id, ground := ground, motif := motif, recs := recs, early := early, sent := false, stitch := s.num, span := (0, 0), durable := false, mirrored := false, fin := fin }
  let s := s.modMed (fun d => { d with txns := d.txns ++ [t], nextTxn := id + 1 })
  (if early then s.modMaps (fun m => m.applyTxn recs) else s, id)

/-- A transaction whose records take effect at once, written to the journal. -/
def State.journal (s : State) (ground motif : Nat) (recs : List JRec) : State :=
  let r := s.addTxn ground motif recs true .plain
  r.1.sendTxn r.2

/-- A record written into every journal that a motif keeps: one for each ground that the head owns (R239, R260). -/
def State.journalAll (s : State) (motif : Nat) (r : JRec) : State :=
  if s.ownedGrounds.isEmpty then s.modMed (fun d => { d with maps := d.maps.applyRec r, ckpt := d.ckpt.applyRec r })
  else s.each s.ownedGrounds (fun s g => s.journal g motif [r])

end Sys2Proof.Machine
end

