-- ==== Sys2Proof/Machine/Cipher.lean ====
section
/-! DEFINITION. The cipher engine and keys (spec/09): key domains, nonces, sealing and opening with checker lanes, key slots, and their commands. -/

namespace Sys2Proof.Machine

/-! ## Key domains -/

/-- A key domain (R225). -/
structure Domain where
  salt : Bytes
  slot : Nat
  enc : Bool
  deriving DecidableEq, Repr, Inhabited

/-- The key domain with a number, where it is VALID (R225, R230): the table is in use, VALID is 1, encryption is possible on this package, and its
slot is not of KIND REPL. -/
def State.domain (s : State) (d : Nat) : Option Domain :=
  let b := s.load (s.fld F.MTF_KD_BASE_BASE * 2 ^ 18 + 64 * d) 64
  let enc := bit (byteAt b 0x22) 1
  let slot := leAt b 0x20 2 % 4096
  if s.flag F.MTF_KD_BASE_EN && decide (d < 4096) && bit (byteAt b 0x22) 0 && !(enc && !s.fuses.caps.optE) &&
      !(enc && s.flag F.CIP_SLOT_ST_KIND 0 slot) then
    some ⟨slice b 0 32, slot, enc⟩
  else none

/-! ## Generators -/

/-- The generator ID of a motif's group (R215). -/
def State.genId (s : State) (m g : Nat) : Nat := s.fld F.CIP_CTL_PAIR_ID m * 4096 + s.headId * 2048 + m * 256 + g * 32

/-- The key of a generator in the tables of the state: 8 × motif + group, as in the sampler's HWM area (R460). -/
def genKey (m g : Nat) : Nat := 8 * m + g

/-- The counter of a generator. -/
def State.genCounter (s : State) (m g : Nat) : Nat := Sparse.get 0 s.cip.gens (genKey m g)

/-- The next counter value of a generator may be used (R216, R218): it is not retired, and the block's reservation is in the sampler store and durable in the
journal. -/
def State.genReady (s : State) (m g : Nat) : Bool :=
  let blk := s.genCounter m g / 2 ^ 32
  !(bit (s.fld F.CIP_ST_GEN_RETIRED m) g) && decide (blk < s.fld F.CIP_GEN_HWM_BLOCK m g) &&
    decide (blk < Sparse.get 0 s.med.maps.marks (s.genId m g))

/-- The fenced lanes of a motif, as one number (R214). -/
def State.fenced (s : State) (m : Nat) : Nat := s.fld F.CIP_FENCE_LO_LANE m + s.fld F.CIP_FENCE_HI_LANE m * 2 ^ 64

/-- A group has a lane that is not fenced (R210). -/
def State.groupHasLane (s : State) (m g : Nat) : Bool := (List.range 12).any (fun i => !(bit (s.fenced m) (12 * g + i)))

/-- The groups that may work and have a lane that is not fenced: those that the route table names (R33, R73), but for one that a retry leaves out (R213). -/
def State.laneGroups (s : State) (m : Nat) (skip : Option Nat) : List Nat :=
  (List.range 8).filter (fun g => some g != skip && bit (s.instances m 0x08 (fun _ => true)) g && s.groupHasLane m g)

/-- The groups that can lead an encryption. -/
def State.leadGroups (s : State) (m : Nat) (skip : Option Nat) : List Nat := (s.laneGroups m skip).filter (s.genReady m)

/-- A nonce (R215): generator ID and counter, most significant byte first. -/
def nonceBytes (gen ctr : Nat) : Bytes := beBytes 2 gen ++ beBytes 10 ctr

/-- The nonce that a group's generator hands out, and the counter moved on; past the last value the generator retires (R216). -/
def State.takeNonce (s : State) (m g : Nat) : State × Bytes :=
  let c := s.genCounter m g
  let n := nonceBytes (s.genId m g) c
  if c = 2 ^ 80 - 1 then (s.setFld F.CIP_ST_GEN_RETIRED (putBit (s.fld F.CIP_ST_GEN_RETIRED m) g true) m, n)
  else (s.modCip (fun k => { k with gens := Sparse.set 0 k.gens (genKey m g) (c + 1) }), n)

/-! ## Lanes and checkers -/

/-- The number of set bits among the low `n`. -/
def popCount (v n : Nat) : Nat := (List.range n).foldl (fun a i => a + b2n (bit v i)) 0

/-- The fence bits of a motif set to a value, with CIP_ST.FENCED. -/
def State.setFenced (s : State) (m v : Nat) : State :=
  ((s.setFld F.CIP_FENCE_LO_LANE (v % 2 ^ 64) m).setFld F.CIP_FENCE_HI_LANE (v / 2 ^ 64) m).setFld F.CIP_ST_FENCED (popCount v 96) m

/-- CHECKER_DISAGREE (R213, R214): a lane of a motif disagrees with its checker, is counted and fenced. -/
def State.fenceLane (s : State) (m lane : Nat) : State :=
  let s := (s.bump F.CIP_CNT_CHECK_FAIL 1 m).setEvt F.CIP_EVT_CHECK_FAIL m
  let s := s.modCip (fun k => { k with fences := Sparse.set 0 k.fences (96 * m + lane) (Sparse.get 0 k.fences (96 * m + lane) + 1) })
  let s := s.setFenced m (putBit (s.fenced m) lane true)
  if popCount (s.fenced m) 96 = 96 then s.setEvt F.CIP_EVT_ALL_FENCED m else s

/-- The next disagreement that the surroundings give on a motif, if one is to come (log 13): a fenced lane has no work and cannot disagree. -/
def State.nextDisagree (s : State) (m : Nat) (skip : Option Nat) : Option Nat :=
  s.cip.disagree.find? (fun l => !(bit (s.fenced m) (l % 96)) && (s.laneGroups m skip).contains (l % 96 / 12))

/-- A disagreement used up: its lane is fenced. -/
def State.disagreeOn (s : State) (m lane : Nat) : State := (s.modCip (fun k => { k with disagree := k.disagree.erase lane })).fenceLane m (lane % 96)

/-- A slot is LOADED (R222). -/
def State.slotLoaded (s : State) (slot : Nat) : Bool := decide (s.fld F.CIP_SLOT_ST_STATE 0 slot = 1)

/-- The key of a slot. -/
def State.slotKey (s : State) (slot : Nat) : Bytes := Sparse.get [] s.cip.keys slot

/-- A request that names an EMPTY or CLEARING slot (R229). -/
def State.slotEmpty (s : State) (m : Nat) : State := s.setEvt F.CIP_EVT_SLOT_EMPTY m

/-- What sealing gives: the nonce, the ciphertext and the tag. -/
structure Sealed where
  nonce : Bytes
  text : Bytes
  tag : Bytes
  deriving DecidableEq, Repr, Inhabited

/-- One encryption under the key of a slot, led by a free choice among the groups that can lead (R211, R216); `aad` is formed with the nonce. -/
def State.sealOnce (s : State) (m slot : Nat) (skip : Option Nat) (aad : Bytes → Bytes) (pt : Bytes) : State × Option Sealed :=
  let gs := s.leadGroups m skip
  match gs[s.freeVal % gs.length]? with
  | none => (s, none)
  | some g =>
    let r := s.tookFree.takeNonce m g
    let c := gcmSeal (s.slotKey slot) r.2 (aad r.2) pt
    (r.1, some ⟨r.2, c.1, c.2⟩)

/-- What sealing and opening answer for a request that waits for a lane or a nonce (R214, R218): no status word has this value. -/
def cipWaits : Nat := 0x10000

/-- RECORD_ENCRYPT (R211, R213): sealed, or a status word: 0x2703 for a slot that is not LOADED, 0x7702 where lane and checker disagree twice, `cipWaits` where no
group can lead. The retry runs on groups other than that of the lane that disagreed. -/
def State.sealUp (s : State) (m slot : Nat) (aad : Bytes → Bytes) (pt : Bytes) : State × Except Nat Sealed :=
  if !s.slotLoaded slot then (s.slotEmpty m, .error 0x2703)
  else
    match s.sealOnce m slot none aad pt with
    | (s, none) => (s, .error cipWaits)
    | (s, some c) =>
      match s.nextDisagree m none with
      | none => (s, .ok c)
      | some lane =>
        let skip := some (lane % 96 / 12)
        match (s.disagreeOn m lane).sealOnce m slot skip aad pt with
        | (s, none) => (s, .error cipWaits)
        | (s, some c) =>
          match s.nextDisagree m skip with
          | none => (s, .ok c)
          | some lane => (s.disagreeOn m lane, .error 0x7702)

/-- RECORD_DECRYPT (R213, R229): the plaintext, or a status word: 0x5701 for a wrong tag, and as for sealing. `held` says that the request has held its slot since it was
LOADED, so that CLEARING does not stop it (R222). -/
def State.openUp (s : State) (m slot : Nat) (held : Bool) (nonce aad ct tag : Bytes) : State × Except Nat Bytes :=
  let judge := fun (s : State) =>
    match gcmOpen (s.slotKey slot) nonce aad ct tag with
    | some p => (s, (.ok p : Except Nat Bytes))
    | none => ((s.bump F.CIP_CNT_TAG_FAIL 1 m).setEvt F.CIP_EVT_TAG_FAIL m, .error 0x5701)
  if !(s.slotLoaded slot || (held && decide (s.fld F.CIP_SLOT_ST_STATE 0 slot = 2))) then (s.slotEmpty m, .error 0x2703)
  else if (s.laneGroups m none).isEmpty then (s, .error cipWaits)
  else
    match s.nextDisagree m none with
    | none => judge s
    | some lane =>
      let skip := some (lane % 96 / 12)
      let s := s.disagreeOn m lane
      if (s.laneGroups m skip).isEmpty then (s, .error cipWaits)
      else
        match s.nextDisagree m skip with
        | none => judge s
        | some lane => (s.disagreeOn m lane, .error 0x7702)

/-! ## What goes wrong while a command runs -/

/-- A command runs with the mishaps that the surroundings give it (log 1): buffered atoms and packing
buffers with uncorrectable errors, and lanes that will disagree. -/
def State.under (s : State) (bad : BadPages) (f : State → State) : State :=
  let atoms := bad.filterMap (fun x => match x with | .atom w a => some (w, a) | _ => none)
  let lanes := bad.filterMap (fun x => match x with | .lane l => some l | _ => none)
  let pages := bad.filterMap (fun x => match x with | .body p => if (s.med.maps.media p).state = 1 then some p else none | _ => none)
  let s := if pages.isEmpty then s else s.modMed (fun d => { d with spoiled := (d.spoiled ++ pages).eraseDups })
  let s := if atoms.isEmpty then s else s.modDp (fun d => { d with atoms := mapWhere (fun a => atoms.contains (a.writeId, a.atom)) (fun a => { a with poison := true }) d.atoms })
  if lanes.isEmpty then f s
  else (f (s.modCip (fun c => { c with disagree := lanes }))).modCip (fun c => { c with disagree := [] })

/-! ## Commands -/

/-- A known-answer test starts for each lane named that is fenced and was fenced fewer than three times (R214). -/
def State.startTests (s : State) (m v : Nat) : State :=
  let l := (List.range 96).filter (fun n => bit v n && bit (s.fenced m) n && decide (Sparse.get 0 s.cip.fences (96 * m + n) < 3) &&
    !(s.cip.tests.contains (96 * m + n)))
  s.modCip (fun k => { k with tests := k.tests ++ l.map (fun n => 96 * m + n) })

/-- LANE_KAT_START (R214): a write of CIP_FENCE_LO or CIP_FENCE_HI of a motif. -/
def execLaneKatStart (motif : Nat) (high : Bool) (value : Nat) (s : State) : Host.Outcome State Fault Refusal :=
  live s (fun s => if s.fuses.caps.optE && s.hasMotif motif then s.startTests motif (if high then value % 2 ^ 32 * 2 ^ 64 else value % 2 ^ 64) else s)

/-- The key-encryption key taken from CIP_KEK (R221). -/
def State.loadKek (s : State) : State :=
  let k := (List.range 4).flatMap (fun i => leBytes 8 (s.fld F.CIP_KEK_KEY 0 i))
  let s := s.modCip (fun c => { c with kek := some k })
  let s := s.each (List.range 4) (fun s i => s.setFld F.CIP_KEK_KEY 0 0 i)
  ((s.setFld F.CIP_KEK_CTL_VALID 1).bump F.CIP_KEK_CTL_GEN).setFld F.CIP_KEK_CTL_LOAD 0

/-- A command on a slot ends: STATUS written, BUSY and GO cleared, the wrapped key zeroed, and a LOAD of the key-encryption key that waited is done
(R221, R222). -/
def State.endSlotCmd (s : State) (status : Nat) : State :=
  let s := ((s.setFld F.CIP_SLOT_CMD_STATUS (status % 0x8000)).setFld F.CIP_SLOT_CMD_BUSY 0).setFld F.CIP_SLOT_CMD_GO 0
  let s := s.each (List.range 5) (fun s i => s.setFld F.CIP_WRAP_DATA 0 0 i)
  if s.flag F.CIP_KEK_CTL_LOAD then s.loadKek else s

/-- OP LOAD on a slot (R222, R223). -/
def State.loadSlot (s : State) (slot : Nat) : State :=
  if s.fld F.CIP_SLOT_ST_STATE 0 slot ≠ 0 then s.endSlotCmd 0x2705
  else
    match s.cip.kek with
    | none => s.endSlotCmd 0x2706
    | some kek =>
      match aesKeyUnwrap kek ((List.range 5).flatMap (fun i => leBytes 8 (s.fld F.CIP_WRAP_DATA 0 i))) with
      | none => (s.setEvt F.CIP_EVT_UNWRAP_FAIL).endSlotCmd 0x5704
      | some key =>
        let s := (s.modCip (fun c => { c with keys := Sparse.set [] c.keys slot key })).sramWroteAt 0 0x43 0 none slot
        let kcv := leNat ((aesEncryptBlock (aesRoundKeys key) (zeros 16)).take 4)
        let s := (s.setFld F.CIP_SLOT_ST_STATE 1 0 slot).setFld F.CIP_SLOT_ST_KCV kcv 0 slot
        (s.setFld F.CIP_SLOT_ST_KIND (s.fld F.CIP_SLOT_CMD_KIND) 0 slot).endSlotCmd 0

/-- OP CLEAR on a slot (R222): a LOADED slot becomes CLEARING and the command runs until the key is zeroised. On another slot the spec states no
STATUS: it is free. -/
def State.clearSlot (s : State) (slot : Nat) : State :=
  if s.fld F.CIP_SLOT_ST_STATE 0 slot = 1 then (s.setFld F.CIP_SLOT_ST_STATE 2 0 slot).setFld F.CIP_SLOT_CMD_BUSY 1
  else s.tookFree.endSlotCmd s.freeVal

/-- A write of CIP_SLOT_CMD. -/
def State.writeSlotCmd (s : State) (value : Nat) : State :=
  if s.flag F.CIP_SLOT_CMD_BUSY then (if s.inLockSet .CIP_SLOT_CMD 0 0 then s.countLocked .CIP_SLOT_CMD 0 0 else s)
  else
    let s := s.softWrite .CIP_SLOT_CMD 0 0 value
    if s.flag F.CIP_SLOT_CMD_GO then
      let slot := s.fld F.CIP_SLOT_CMD_SLOT
      match s.fld F.CIP_SLOT_CMD_OP with
      | 1 => s.loadSlot slot
      | 2 => s.clearSlot slot
      | _ => s.tookFree.endSlotCmd s.freeVal
    else s

/-- KEY_SLOT_LOAD (R222): a write of CIP_SLOT_CMD with OP LOAD. -/
def execKeySlotLoad (value : Nat) (s : State) : Host.Outcome State Fault Refusal :=
  live s (fun s => if s.fuses.caps.optE then s.writeSlotCmd value else s)

/-- KEY_SLOT_CLEAR (R222): a write of CIP_SLOT_CMD with OP CLEAR. -/
def execKeySlotClear (value : Nat) (s : State) : Host.Outcome State Fault Refusal :=
  live s (fun s => if s.fuses.caps.optE then s.writeSlotCmd value else s)

/-- A slot's key zeroised on every motif (R222). -/
def State.zeroiseSlot (s : State) (slot : Nat) : State :=
  let s := s.modCip (fun c => { c with keys := Sparse.erase c.keys slot })
  ((s.setFld F.CIP_SLOT_ST_STATE 0 0 slot).setFld F.CIP_SLOT_ST_KCV 0 0 slot).setFld F.CIP_SLOT_ST_KIND 0 0 slot

/-- Every key zeroised, at power-down after Vault (R222). -/
def State.zeroiseAll (s : State) : State := s.each (s.cip.keys.map (fun k => k.1)) State.zeroiseSlot

/-- KEY_SLOT_ZEROISE (R222): the use count of a CLEARING slot has reached 0. -/
def execKeySlotZeroise (slot : Nat) (s : State) : Host.Outcome State Fault Refusal :=
  live s (fun s =>
    if slot < 4096 ∧ s.fld F.CIP_SLOT_ST_STATE 0 slot = 2 ∧ s.fld F.CIP_SLOT_ST_USE 0 slot = 0 then
      let s := s.zeroiseSlot slot
      if s.flag F.CIP_SLOT_CMD_BUSY ∧ s.fld F.CIP_SLOT_CMD_SLOT = slot then s.endSlotCmd 0 else s
    else s)

/-- A write of CIP_KEK_CTL: LOAD waits while a slot command runs (R221); KEYS_DONE stays set (R224). -/
def State.writeKekCtl (s : State) (value : Nat) : State :=
  let s := s.softWrite .CIP_KEK_CTL 0 0 value
  if s.flag F.CIP_KEK_CTL_LOAD ∧ ¬ s.flag F.CIP_SLOT_CMD_BUSY then s.loadKek else s

/-- KEK_LOAD (R221): a write of CIP_KEK_CTL with LOAD. -/
def execKekLoad (value : Nat) (s : State) : Host.Outcome State Fault Refusal :=
  live s (fun s => if s.fuses.caps.optE then s.writeKekCtl value else s)

/-- KEYS_DONE (R224): a write of CIP_KEK_CTL with KEYS_DONE. -/
def execKeysDone (value : Nat) (s : State) : Host.Outcome State Fault Refusal :=
  live s (fun s => if s.fuses.caps.optE then s.writeKekCtl value else s)

/-- The next block of a generator reserved (R218): the sampler store, the triple-voted word, and a NONCE record in every journal of the motif,
which counts once it is durable. -/
def State.reserveBlock (s : State) (m g : Nat) : State :=
  let b := s.fld F.CIP_GEN_HWM_BLOCK m g + 1
  let s := ((s.setFld F.CIP_GEN_HWM_BLOCK b m g).tvWrote 4 (8 * m + g)).mramWrite (0x100 + 8 * genKey m g) (leBytes 8 b)
  s.each s.ownedGrounds (fun s gr =>
    let r := s.addTxn gr m [.nonce (s.genId m g) b] false .plain
    r.1.sendTxn r.2)

/-- NONCE_BLOCK_RESERVE (R218): a generator is three quarters through the last block it has reserved. -/
def execNonceBlockReserve (motif group : Nat) (s : State) : Host.Outcome State Fault Refusal :=
  live s (fun s =>
    let c := s.genCounter motif group
    if s.fuses.caps.optE ∧ s.hasMotif motif ∧ group < 8 ∧ 0xC0000000 ≤ c % 2 ^ 32 ∧
        c / 2 ^ 32 + 1 = s.fld F.CIP_GEN_HWM_BLOCK motif group then
      s.reserveBlock motif group
    else s)

end Sys2Proof.Machine
end

