-- ==== Sys2Proof/Machine/ViewOps.lean ====
section
/-! DEFINITION. What the end of a namespace shares with the view commands: the pages that wait for the walker, the view registers, and the deletion of a view
(R346). -/

namespace Sys2Proof.Machine

/-! ## Registers -/

/-- The pages that wait for the walker (R346): directory pages (level 1) and map pages (level 0) whose SHARE has reached 0. -/
def Maps.toRelease (m : Maps) : List (Nat × Nat) :=
  (m.dirs.filter (fun d => d.2.share == 0)).map (fun d => (d.1, 1)) ++ (m.pages.filter (fun p => p.2.share == 0)).map (fun p => (p.1, 0))

/-- Snapshot IDs (R335). -/
def isSnapshotId (v : Nat) : Bool := decide (4097 ≤ v) && decide (v ≤ 65535)

/-- The snapshots of the pair. -/
def State.snapshots (s : State) : List View := s.med.maps.views.filter (fun v => isSnapshotId v.id)

/-- RPL_VIEW_ST, RPL_VIEW_CNT and RPL_WALK_ST brought in step. -/
def State.syncViews (s : State) : State :=
  let v := (s.med.maps.view (s.fld F.RPL_VIEW_Q_ID)).getD default
  let s := (s.setFld F.RPL_VIEW_ST_STATE v.state).setFld F.RPL_VIEW_ST_SOURCE v.source
  let s := s.setFld F.RPL_VIEW_ST_INTERNAL (b2n v.intern)
  let s := (s.setFld F.RPL_VIEW_CNT_PENDING_CUTS s.rpl.cuts.length).setFld F.RPL_VIEW_CNT_SNAPSHOTS s.snapshots.length
  s.setFld F.RPL_WALK_ST_PAGES_LEFT s.med.maps.toRelease.length

/-- VIEW DELETING journaled; the pages go to the walker, and with none to release the ID is FREE at once (R346). -/
def State.deleteView (s : State) (v : View) : State :=
  let ground := v.ground
  let s := s.journal ground 0 [.view { v with state := 3 }]
  if (s.med.maps.view v.id).any (fun x => x.left.isEmpty) then ((s.journal ground 0 [.view { v with state := 0 }]).setEvt F.RPL_EVT_WALK_DONE).syncViews else s.syncViews

end Sys2Proof.Machine
end

