-- ==== Sys2Proof/Machine/Cpl.lean ====
section
/-! DEFINITION. Completions and their posting (R361, R365, R370, R390), the end of namespaces being deleted (R376), asynchronous events (R379), and the state of
grounds as hosts see it (R364). -/

namespace Sys2Proof.Machine

/-! ## Completions -/

/-- The completion of an Abort whose target's completion is still waiting: the target's is posted first (R368). -/
def State.abortWaits (s : State) (waiting : List HostCpl) (c : HostCpl) : Bool :=
  s.hq.aborts.any (fun p => p.1 == c.cmd && waiting.any (fun w => w.cmd == p.2))

/-- A completion can be posted now: the fabrics queue of its command exists, or PF0 may issue and its completion queue has room. -/
def State.canPost (s : State) (c : HostCpl) : Bool :=
  match s.ctrl c.cmd.ctl with
  | none => false
  | some k =>
    if k.fabrics then true
    else s.mayIssue 0 &&
      (match k.sqs.find? (fun q => q.qid == c.cmd.sq) with
       | none => true
       | some q => match k.cqs.find? (fun x => x.qid == q.cq) with
         | none => true
         | some x => decide ((x.tail + 1) % x.size ≠ x.head))

/-- Data of a completion sent before it; poisoned data travels with EP set and is counted (R398). -/
def State.sendData (s : State) (c : HostCpl) (poison : Bool) : State :=
  if c.data.isEmpty then s
  else
    let s := s.emit (.hostData c.cmd c.data poison)
    if poison then (s.bump F.EP_CNT_POISON_OUT).setEvt F.EP_EVT_POISON_OUT else s

/-- The 16 bytes of a completion entry (R370): dwords 0 and 1, SQ head and SQ identifier, command identifier and Status. -/
def cqeBytes (c : HostCpl) (sqHead : Nat) : Bytes :=
  leBytes 4 c.dw0 ++ leBytes 4 c.dw1 ++ leBytes 2 sqHead ++ leBytes 2 c.cmd.sq ++ leBytes 2 c.cmd.cid ++ leBytes 2 (2 * c.field)

/-- The connection that carries a fabrics queue. -/
def Ctrl.connOf (k : Ctrl) (qid : Nat) : Option Nat := (k.conns.find? (fun q => q.2 == qid)).map (fun q => q.1)

/-- The entries of a fabrics queue. -/
def Ctrl.sizeOf (k : Ctrl) (qid : Nat) : Nat := max 1 ((getKey k.sizes qid).getD 1)

/-- A completion entry of a fabrics queue: a SEND on the queue's connection (R360), with the position up to which its capsules are taken. -/
def State.sendCqe (s : State) (k : Ctrl) (c : HostCpl) : State :=
  let head := match (k.connOf c.cmd.sq).bind (fun id => s.conn id) with | some x => x.taken % k.sizeOf c.cmd.sq | none => 0
  let s := s.emit (.cqe c.cmd head c.dw0 c.dw1 c.field)
  match (k.connOf c.cmd.sq).bind (fun id => s.conn id) with
  | some x => s.sendMsg x.id (cqeBytes c head)
  | none => s

/-- A completion posted: data, completion entry, and the vector of its queue (R390). -/
def State.post (s : State) (c : HostCpl) : State :=
  match s.ctrl c.cmd.ctl with
  | none => s
  | some k =>
    let poison := !k.fabrics && !c.data.isEmpty && decide (c.word ≠ 0)
    let s := s.sendData c poison
    if k.fabrics then s.sendCqe k c
    else
      match k.sqs.find? (fun q => q.qid == c.cmd.sq) with
      | none => s
      | some q =>
        let s := s.emit (.cqe c.cmd q.head c.dw0 c.dw1 c.field)
        let s := s.modCtrl k.id (fun k =>
          { k with cqs := mapWhere (fun x => x.qid == q.cq) (fun x => { x with tail := (x.tail + 1) % x.size }) k.cqs })
        match k.cqs.find? (fun x => x.qid == q.cq) with
        | some x => if x.ien then s.raiseVec 0 x.vec else s
        | none => s

/-- The submission queue of PF0 whose completion queue a completion uses, for keeping order. -/
def State.cqOf (s : State) (c : HostCpl) : Nat × Nat :=
  match s.ctrl c.cmd.ctl with
  | none => (c.cmd.ctl, 0)
  | some k => match k.sqs.find? (fun q => q.qid == c.cmd.sq) with | some q => (k.id, q.cq) | none => (k.id, c.cmd.sq)

/-- Waiting completions posted in order; one that cannot be posted holds back the later ones of its queue, and the Abort of its command. -/
def State.postAll (s : State) : State :=
  let st := s.hq.cpls.foldl (fun (a : State × List (Nat × Nat) × List HostCpl) c =>
    let q := a.1.cqOf c
    if a.2.1.contains q then (a.1, a.2.1, a.2.2 ++ [c])
    else if a.1.canPost c && !a.1.abortWaits a.2.2 c then (a.1.post c, a.2.1, a.2.2)
    else (a.1, a.2.1 ++ [q], a.2.2 ++ [c])) (s, [], [])
  st.1.modHq (fun h => { h with cpls := st.2.2, aborts := h.aborts.filter (fun p => st.2.2.any (fun c => c.cmd == p.1)) })

/-- PF0 may issue again: reads, completions and vectors that waited go on (R391). -/
def State.resumePf0 (s : State) : State := ((s.issueReads s.ep.todo.length).postAll).sendPending 0

/-! ## Atoms that leave the buffer -/

/-- DROP entries (R114, R147): what a ground and motif no longer need of the partner head's copies, up to the MSEQ before the oldest atom left. -/
def State.queueDrop (s : State) (ground motif : Nat) : State :=
  let live := (s.dp.atoms.filter (fun a => a.ground == ground && a.motif == motif && a.mseq != 0)).map (fun a => a.mseq)
  let upTo := match live with | [] => s.pair.mseq.getD motif 0 | a :: t => t.foldl min a - 1
  if upTo = 0 then s
  else s.modPair (fun p => { p with drops := p.drops.filter (fun d => !(d.1 == motif && d.2.1 == ground)) ++ [(motif, ground, upTo)] })

/-- CLM_GROUND.UNFLUSHED_MIB of every ground of the map brought in step: its buffered atoms and the copies held for the partner head. -/
def State.syncUnflushed (s : State) : State :=
  s.each (s.activePart.grounds.map (fun e => e.ground)) (fun s g =>
    let n := (s.dp.atoms.filter (fun a => a.ground == g)).length + (s.dp.copies.filter (fun c => c.frame.ground == g)).length
    s.setFld F.CLM_GROUND_UNFLUSHED_MIB (mibUp n) 0 g)

/-- DIRTY and HELD counted anew (R142): atoms of grounds that this head owns, and copies with the twin-fed atoms of the other grounds. -/
def State.recount (s : State) : State :=
  let own := (s.dp.atoms.filter (fun a => s.owns a.ground)).length
  (s.modDp (fun d => { d with dirty := own, held := d.copies.length + (d.atoms.length - own) })).syncUnflushed

/-- Atoms leave the buffer: DIRTY released, DROP entries queued. -/
def State.freeAtoms (s : State) (l : List (Nat × Nat)) : State :=
  let goes := fun (a : BufAtom) => l.contains (a.writeId, a.atom)
  let gone := s.dp.atoms.filter goes
  let s := (s.modDp (fun d => { d with atoms := d.atoms.filter (fun a => !goes a) })).recount
  let s := s.modDp (fun d => { d with writes := d.writes.filter (fun w => decide (w.state ≠ 3) || d.atoms.any (fun a => a.writeId == w.id)) })
  let s := s.modMed (fun d => { d with staging := d.staging.map (fun e => if l.contains (e.writeId, e.atom) then { e with obsolete := true } else e) })
  s.each (gone.map (fun a => (a.ground, a.motif))) (fun s p => s.queueDrop p.1 p.2)

/-! ## The end of commands and of namespaces -/

/-- A command ends: it leaves the commands in progress and its completion is queued; a failure shows in HQ_ERR. -/
def State.endCmd (s : State) (c : HostCpl) : State :=
  let s := s.modHq (fun h => { h with cmds := h.cmds.filter (fun k => k.id != c.cmd), cpls := h.cpls ++ [c] })
  let s := if c.field = 0 then s
    else (((s.setFld F.HQ_ERR_STATUS c.word).setFld F.HQ_ERR_QID c.cmd.sq).setFld F.HQ_ERR_CID c.cmd.cid).setFld F.HQ_ERR_VALID 1
  if bits c.field 10 8 = 2 then s.modCtrl c.cmd.ctl (fun k => { k with mediaErrs := k.mediaErrs + 1 }) else s

/-- A namespace is gone (R376): what it buffered is released, its definition leaves the journal, and its live view is deleted. -/
def State.deleteNs (s : State) (n : Namespace) : State :=
  let s := s.freeAtoms ((s.dp.atoms.filter (fun a => a.ns == n.id)).map (fun a => (a.writeId, a.atom)))
  let s := s.modHq (fun h => { h with deleting := h.deleting.filter (fun x => x != n.id) })
  let s := s.journal n.ground 0 [.nsGone n.id]
  match (if n.view.isSome then none else s.med.maps.view n.id) with
  | some v => s.deleteView v
  | none => s

/-- A deletion that no other command on its namespace holds back. -/
def State.deleteDue (s : State) : Option (HostCmd × Nat) :=
  s.hq.cmds.findSome? (fun k => match k.kind with
    | .nsDelete n => if s.hq.cmds.any (fun x => x.nsid == n && x.id != k.id) then none else some (k, n)
    | _ => none)

/-- Deletions of namespaces end once the commands fetched on them have completed (R376); `fuel` bounds them. -/
def State.settleDeletes (s : State) : Nat → State
  | 0 => s
  | f + 1 =>
    match s.deleteDue with
    | none => s
    | some (k, n) =>
      let s := match s.ns n with | some x => s.deleteNs x | none => s
      (s.endCmd ⟨k.id, 0, 0, 0, 0, []⟩).settleDeletes f

/-- A command completes, and what its end lets happen. -/
def State.finish (s : State) (c : HostCpl) : State :=
  let s := s.endCmd c
  (s.settleDeletes s.hq.cmds.length).postAll

/-- A controller is a fabrics controller. -/
def State.isFabrics (s : State) (id : Nat) : Bool := match s.ctrl id with | some c => c.fabrics | none => false

/-- A ground is HANDING or RECEIVING. -/
def State.isMoving (s : State) (g : Nat) : Bool := decide (s.groundState g = 3) || decide (s.groundState g = 4)

/-- A command completes with a status word (R365); `op` as in `statusCode`. Poison in anything but read data came from the host (R398). -/
def State.completeWith (s : State) (cmd : CmdId) (op word ground : Nat) (data : Bytes) : State :=
  let field := statusField op word (s.isFabrics cmd.ctl) (s.isMoving ground) (decide (op ≠ 1))
  s.finish ⟨cmd, word, field, word, 0, data⟩

/-- A command completes with success. -/
def State.succeed (s : State) (cmd : CmdId) (dw0 : Nat) (data : Bytes) : State := s.finish ⟨cmd, 0, 0, dw0, 0, data⟩

/-- A command completes with a status that the spec names by its NVMe name alone: the code is NVMe's (log 25), the status word is free, and DNR goes with its class (R365). -/
def State.completeNamed (s : State) (cmd : CmdId) (sct sc : Nat) : State :=
  let w := s.freeVal % 0x10000
  s.tookFree.finish ⟨cmd, w, sc + 256 * sct + dnrOf w, w, 0, []⟩

/-! ## Asynchronous events -/

/-- The bit of Asynchronous Event Configuration that enables an event: Critical Warning bits 0 to 4 by themselves, Namespace changes 8, Firmware Activation
Starting 9, ANA Change 11 (log 25). -/
def State.reportEvents (s : State) (id : Nat) : State :=
  match s.ctrl id with
  | none => s
  | some c =>
    match c.events, s.hq.cmds.find? (fun k => k.id.ctl == id && decide (k.kind = CmdKind.aer)) with
    | e :: rest, some k => (s.modCtrl id (fun c => { c with events := rest })).succeed k.id e []
    | _, _ => s

/-- An asynchronous event for a controller, reported only where Asynchronous Event Configuration enables its bit (R379). -/
def State.raiseEvent (s : State) (id cfgBit dw0 : Nat) : State :=
  match s.ctrl id with
  | none => s
  | some c =>
    if bit c.aerCfg cfgBit then (s.modCtrl id (fun c => { c with events := c.events ++ [dw0] })).reportEvents id else s

/-- An asynchronous event for every controller. -/
def State.raiseEventAll (s : State) (cfgBit dw0 : Nat) : State := s.each (s.hq.ctrls.map (fun c => c.id)) (fun s id => s.raiseEvent id cfgBit dw0)

/-- The controllers that have a namespace of a ground attached. -/
def State.ctrlsOfGround (s : State) (g : Nat) : List Nat :=
  (s.hq.ctrls.map (fun c => c.id)).filter (fun id => s.hq.attach.any (fun a => a.2 == id &&
    (match s.ns a.1 with | some n => n.ground == g | none => false)))

/-- A ground's state changes; every controller with its namespaces attached hears of it (R364). -/
def State.setGroundState (s : State) (g st : Nat) : State :=
  if s.groundState g = st then s
  else (s.setFld F.CLM_GROUND_STATE st 0 g).each (s.ctrlsOfGround g) (fun s id => s.raiseEvent id 11 0x0C0302)

/-- Critical Warning bits 0, 3 and 4 from the media registers, bit 1 from the thermal level, bit 2 from the grounds and HQ_HEALTH_FW (R377). -/
def State.criticalWarning (s : State) : Nat :=
  let b0 := decide (s.bob.modules ≠ []) && decide (s.fld F.MED_ST_SPARE_MIN_PCT < s.fld F.MED_MEDIA_CTL_SPARE_WARN_PCT)
  let b1 := decide ((s.fld F.THM_THRESH_WARN : Int) * 10 ≤ s.sfld F.THM_ST_T_MAX)
  let b2 := (List.range 256).any (fun g => decide (s.groundState g = 6)) || s.flag F.HQ_HEALTH_FW_DEGRADED ||
    decide (0 < s.med.rowsLost)
  let b3 := decide (s.fld F.MED_ST_CAP = 2)
  let b4 := decide (s.budget = 0) || (!(s.flag F.MED_VAULT_ST_READY_A) && !(s.flag F.MED_VAULT_ST_READY_B))
  b2n b0 + 2 * b2n b1 + 4 * b2n b2 + 8 * b2n b3 + 16 * b2n b4

/-- Controllers hear of a change of Critical Warning bits, once per change (R379). -/
def State.syncWarn (s : State) : State :=
  let w := s.criticalWarning
  s.each s.hq.ctrls (fun s c =>
    if c.warn = w then s
    else
      let s := s.modCtrl c.id (fun k => { k with warn := w })
      if (List.range 5).any (fun i => (bit w i != bit c.warn i) && bit c.aerCfg i) then
        (s.modCtrl c.id (fun k => { k with events := k.events ++ [0x020001] })).reportEvents c.id
      else s)

end Sys2Proof.Machine
end

