-- ==== Sys2Proof/Machine/Compress.lean ====
section
/-! DEFINITION. Predictive compression (spec/07): residues, stride and predictor choice, code tables, the compressed chunk, and the
decompressor with its five checks. -/

namespace Sys2Proof.Machine

/-- The predictors of R172. -/
inductive Pred where
  | left | up | gradient | median
  deriving DecidableEq, Repr, Inhabited

/-- The number a predictor has in a chunk header (R180). -/
def Pred.code : Pred → Nat
  | .left => 0
  | .up => 1
  | .gradient => 2
  | .median => 3

/-- The predictor of a header's number. -/
def predOf (n : Nat) : Pred := if n = 0 then .left else if n = 1 then .up else if n = 2 then .gradient else .median

/-- The predicted value of a byte from its left, up and upper-left neighbours (R172). -/
def Pred.value (p : Pred) (a b c : Nat) : Nat :=
  match p with
  | .left => a
  | .up => b
  | .gradient => min (a + b - c) 255
  | .median => max (min a b) (min (max a b) c)

/-- The prediction for byte `i` of `x` under stride `s` (R172). -/
def predictAt (p : Pred) (s : Nat) (x : Array Nat) (i : Nat) : Nat :=
  let a := if 1 ≤ i then x.getD (i - 1) 0 else 0
  let b := if 2 ≤ s ∧ s ≤ i then x.getD (i - s) 0 else 0
  let c := if 2 ≤ s ∧ s + 1 ≤ i then x.getD (i - s - 1) 0 else 0
  p.value a b c

/-- The zigzag symbol of a residue (R172). -/
def zigzag (r : Nat) : Nat := if r < 128 then 2 * r else 2 * (256 - r) - 1

/-- The residue of a zigzag symbol (R172). -/
def unzigzag (z : Nat) : Nat := if z % 2 = 0 then z / 2 else 256 - (z + 1) / 2

/-- The residue symbols of the first `n` bytes of a chunk (R172). -/
def residues (p : Pred) (s : Nat) (x : Array Nat) (n : Nat) : List Nat :=
  (List.range n).map (fun i => zigzag ((x.getD i 0 + 256 - predictAt p s x i) % 256))

/-- The bytes that residue symbols restore (R172). -/
def restore (p : Pred) (s : Nat) (zs : List Nat) : Array Nat :=
  zs.foldl (fun x z => x.push ((predictAt p s x x.size + unzigzag z) % 256)) #[]

/-- E[s] of R173: mismatches at distance `s` in the first 1,024 bytes. -/
def mismatches (x : Array Nat) (s : Nat) : Nat :=
  ((List.range (1024 - s)).filter (fun i => x.getD (i + s) 0 != x.getD i 0)).length

/-- The stride that R173 chooses. -/
def chooseStride (x : Array Nat) : Nat :=
  let best := ((List.range 510).map (fun s => s + 3)).foldl (fun (b : Nat × Nat) s =>
    let e := mismatches x s
    if e * (1024 - b.1) < b.2 * (1024 - s) then (s, e) else b) (2, mismatches x 2)
  if 4 * best.2 * 1023 < 3 * mismatches x 1 * (1024 - best.1) then best.1 else 0

/-- The cost of a predictor over the first 1,024 bytes (R174). -/
def predCost (p : Pred) (s : Nat) (x : Array Nat) : Nat := (residues p s x 1024).sum

/-- The predictor that R174 chooses. -/
def choosePred (s : Nat) (x : Array Nat) : Pred :=
  if s = 0 then .left
  else
    ([Pred.up, .gradient, .median].foldl (fun (b : Pred × Nat) p =>
      let c := predCost p s x
      if c < b.2 then (p, c) else b) (.left, predCost .left s x)).1

/-- Runs of code lengths as a table row lists them: (first symbol past the run, length). -/
def lenRuns (l : List (Nat × Nat)) : List Nat :=
  (l.foldl (fun (a : List Nat × Nat) r => (a.1 ++ List.replicate (r.1 - a.2) r.2, r.1)) ([], 0)).1

/-- The lengths of a static table (R176). -/
def staticTable (t : Nat) : List Nat :=
  match t with
  | 0 => lenRuns [(1, 1), (3, 3), (7, 5), (11, 7), (150, 11), (256, 12)]
  | 1 => lenRuns [(1, 2), (3, 3), (5, 4), (9, 5), (13, 6), (21, 8), (106, 10), (256, 11)]
  | 2 => lenRuns [(2, 3), (6, 4), (14, 5), (30, 7), (60, 10), (256, 11)]
  | 3 => lenRuns [(4, 4), (12, 5), (28, 6), (60, 8), (120, 10), (256, 11)]
  | 4 => lenRuns [(8, 5), (40, 6), (72, 8), (144, 10), (256, 11)]
  | 5 => lenRuns [(32, 6), (64, 7), (128, 9), (256, 10)]
  | 6 => lenRuns [(64, 7), (128, 8), (256, 9)]
  | _ => lenRuns [(256, 8)]

/-- The first code of each length 0 to 12 (R177). -/
def firstCodes (lens : List Nat) : List Nat :=
  let cnt := fun l => if l = 0 then 0 else (lens.filter (fun x => x == l)).length
  ((List.range 12).foldl (fun (a : List Nat × Nat) i =>
    let c := (a.2 + cnt i) * 2
    (a.1 ++ [c], c)) ([0], 0)).1

/-- The canonical code of each symbol with its length; length 0 where it has none (R177). -/
def canonicalCodes (lens : List Nat) : List (Nat × Nat) :=
  (lens.foldl (fun (a : List (Nat × Nat) × List Nat) l =>
    if l = 0 then (a.1 ++ [(0, 0)], a.2)
    else (a.1 ++ [(l, a.2.getD l 0)], setAt a.2 l (a.2.getD l 0 + 1))) ([], firstCodes lens)).1

/-- A table is valid (R178): 256 lengths of at most 12, some not 0, and no more codes than a prefix code has. -/
def tableValid (lens : List Nat) : Bool :=
  decide (lens.length = 256) && lens.all (fun l => decide (l ≤ 12)) && lens.any (fun l => l != 0) &&
    decide (lens.foldl (fun a l => if l = 0 then a else a + 2 ^ (12 - l)) 0 ≤ 4096)

/-- The histogram of residue symbols. -/
def histogram (zs : List Nat) : Array Nat := zs.foldl (fun h z => h.modify z (fun c => c + 1)) (Array.replicate 256 0)

/-- The coded size in bits under a table, where every symbol that occurs has a code. -/
def codedBits (h : Array Nat) (lens : List Nat) : Option Nat :=
  let ps := h.toList.zip lens
  if ps.all (fun p => p.1 == 0 || p.2 != 0) then some (ps.foldl (fun a p => a + p.1 * p.2) 0) else none

/-- A weighted package of symbols. -/
abbrev Package := Nat × List Nat

/-- Two lists in order of weight merged in order of weight; `fuel` bounds their lengths together. -/
def mergePk : Nat → List Package → List Package → List Package
  | 0, _, _ => []
  | _ + 1, [], b => b
  | _ + 1, a, [] => a
  | f + 1, x :: a, y :: b => if x.1 ≤ y.1 then x :: mergePk f a (y :: b) else y :: mergePk f (x :: a) b

/-- Neighbours packed in pairs; an odd last one is left out. -/
def pairPk : List Package → List Package
  | x :: y :: t => (x.1 + y.1, x.2 ++ y.2) :: pairPk t
  | _ => []

/-- A package put into a list in order of weight. -/
def insertPk (x : Package) : List Package → List Package
  | [] => [x]
  | y :: t => if x.1 ≤ y.1 then x :: y :: t else y :: insertPk x t

/-- A length table of least coded size among prefix codes of at most 12 bits (R179): lengths by package merging, the shorter ones to the
symbols of larger count and, among equal counts, of lower number. -/
def leastTable (h : Array Nat) : List Nat :=
  let syms := (List.range 256).filter (fun z => h.getD z 0 != 0)
  if syms.length ≤ 1 then (List.range 256).map (fun z => if syms.contains z then 1 else 0)
  else
    let items := syms.foldr (fun z l => insertPk (h.getD z 0, [z]) l) []
    let level := (List.range 11).foldl (fun l _ => mergePk 1024 items (pairPk l)) items
    let chosen := (level.take (2 * syms.length - 2)).flatMap (fun p => p.2)
    let lens := (syms.map (fun z => (chosen.filter (fun y => y == z)).length))
    let rising := (List.range 13).flatMap (fun l => lens.filter (fun x => x == l))
    let order := (syms.foldr (fun z l => insertPk ((16384 - h.getD z 0) * 256 + z, [z]) l) ([] : List Package)).flatMap (fun p => p.2)
    let given := order.zip rising
    (List.range 256).map (fun z => lookupD given z 0)

/-- The length table that a free value proposes: one hexadecimal digit for each symbol. -/
def proposedTable (free : Nat) : List Nat := (List.range 256).map (fun z => free / 16 ^ z % 16)

/-- A proposed table is one that R179 allows: valid, length 0 exactly for the symbols that do not occur, the shorter length to the lower of
two symbols of equal count, and no larger than the least. -/
def tableAllowed (h : Array Nat) (lens : List Nat) : Bool :=
  let syms := (List.range 256).filter (fun z => h.getD z 0 != 0)
  tableValid lens && (List.range 256).all (fun z => (h.getD z 0 == 0) == (lens.getD z 0 == 0)) &&
    syms.all (fun y => syms.all (fun z => !(decide (y < z) && h.getD y 0 == h.getD z 0) || decide (lens.getD y 0 ≤ lens.getD z 0))) &&
    codedBits h lens == codedBits h (leastTable h)

/-- The dynamic table of a histogram (R179). The rule fixes a Huffman construction and not every length; what it leaves is free, and the same for the same histogram (R183;
log 24). -/
def dynamicTable (h : Array Nat) : List Nat :=
  let p := proposedTable (Config.huffman h.toList)
  if tableAllowed h p then p else leastTable h

/-- The bits of a code, most significant first. -/
def codeBits (len code : Nat) : List Bool := (List.range len).map (fun i => bit code (len - 1 - i))

/-- Eight bits as a byte, the first highest. -/
def bitsByte (l : List Bool) : Byte := BitVec.ofNat 8 ((l ++ List.replicate (8 - l.length) false).foldl (fun a b => 2 * a + b2n b) 0)

/-- The code stream of residue symbols: its bytes and PAD_BITS (R177). -/
def codeStream (lens zs : List Nat) : Bytes × Nat :=
  let codes := (canonicalCodes lens).toArray
  let bs := zs.flatMap (fun z => let c := codes.getD z (0, 0); codeBits c.1 c.2)
  ((chunks 8 bs).map bitsByte, (8 - bs.length % 8) % 8)

/-- A dynamic table as bytes (R178). -/
def tableBytes (lens : List Nat) : Bytes :=
  (List.range 128).map (fun j => BitVec.ofNat 8 (lens.getD (2 * j) 0 + 16 * lens.getD (2 * j + 1) 0))

/-- The lengths that table bytes spell (R178). -/
def tableOfBytes (b : Bytes) : List Nat := b.flatMap (fun x => [x.toNat % 16, x.toNat / 16])

/-- The kinds of a compressed chunk (R180). -/
inductive ChunkKind where
  | stored | static | dynamic
  deriving DecidableEq, Repr, Inhabited

/-- A stored chunk (R181). -/
def storedChunk (raw : Bytes) : Bytes :=
  bytesOf [1, 0, 0, 0] ++ leBytes 2 raw.length ++ zeros 6 ++ leBytes 4 (crc32c raw) ++ raw

/-- A coded chunk (R180, R181). -/
def codedChunk (raw : Bytes) (kind : ChunkKind) (p : Pred) (s table : Nat) (lens zs : List Nat) : Bytes :=
  let st := codeStream lens zs
  let dyn := decide (kind = .dynamic)
  let b1 := (if dyn then 2 else 1) + 4 * (if s = 0 then 0 else p.code) + 16 * table
  bytesOf [1, b1] ++ leBytes 2 s ++ leBytes 2 raw.length ++ leBytes 2 (if dyn then 128 else 0) ++ leBytes 2 st.1.length ++
    bytesOf [st.2, 0] ++ zeros 4 ++ (if dyn then tableBytes lens else []) ++ st.1 ++ leBytes 4 (crc32c raw)

/-- The settings a compressor works under: CMP_CTL, with a job's own stride and predictor in place of it (R175, R193). -/
structure CmpSettings where
  fixStride : Option Nat
  fixPred : Nat
  dynEn : Bool
  staticEn : Bool
  forceStored : Bool
  deriving DecidableEq, Repr

/-- Stride and predictor of a chunk under its settings (R173 to R175). -/
def strideAndPred (c : CmpSettings) (x : Array Nat) (n : Nat) : Nat × Pred :=
  let s := match c.fixStride with
    | some f => if n ≤ f then 0 else f
    | none => chooseStride x
  (s, if s = 0 then .left else if c.fixPred = 0 then choosePred s x else predOf (c.fixPred - 1))

/-- The size in bytes of a coded chunk with so many stream bits. -/
def codedSize (extra streamBits : Nat) : Nat := 20 + extra + (streamBits + 7) / 8

/-- CHUNK_COMPRESS (R182): the compressed chunk and its kind. -/
def compressChunk (c : CmpSettings) (raw : Bytes) : Bytes × ChunkKind :=
  let x := (raw.map (fun b => b.toNat)).toArray
  let sp := strideAndPred c x raw.length
  let zs := residues sp.2 sp.1 x raw.length
  let h := histogram zs
  let best := (List.range 8).foldl (fun (b : Option (Nat × Nat)) t =>
    match codedBits h (staticTable t), b with
    | some n, some m => if codedSize 0 n < m.2 then some (t, codedSize 0 n) else some m
    | some n, none => some (t, codedSize 0 n)
    | none, m => m) none
  let best := if c.staticEn then best else none
  let dt := dynamicTable h
  let dyn := if c.dynEn then (codedBits h dt).map (codedSize 128) else none
  let limit := raw.length + 16
  if c.forceStored then (storedChunk raw, .stored)
  else
    match best, dyn with
    | some (t, n), some d =>
      if d < n then (if d ≤ limit then (codedChunk raw .dynamic sp.2 sp.1 0 dt zs, .dynamic) else (storedChunk raw, .stored))
      else if n ≤ limit then (codedChunk raw .static sp.2 sp.1 t (staticTable t) zs, .static) else (storedChunk raw, .stored)
    | some (t, n), none =>
      if n ≤ limit then (codedChunk raw .static sp.2 sp.1 t (staticTable t) zs, .static) else (storedChunk raw, .stored)
    | none, some d => if d ≤ limit then (codedChunk raw .dynamic sp.2 sp.1 0 dt zs, .dynamic) else (storedChunk raw, .stored)
    | none, none => (storedChunk raw, .stored)

/-! ## Decompression -/

/-- The symbol that a code of a given length spells, if any. -/
def symbolOf (codes : List (Nat × Nat × Nat)) (len code : Nat) : Option Nat :=
  (codes.find? (fun c => c.1 == len && c.2.1 == code)).map (fun c => c.2.2)

/-- One symbol read from the stream: bits are taken until they spell a code, at most 12 of them. -/
def readSymbol (codes : List (Nat × Nat × Nat)) : Nat → Nat → Nat → List Bool → Option (Nat × List Bool)
  | 0, _, _, _ => none
  | _ + 1, _, _, [] => none
  | f + 1, len, code, b :: t =>
    let c := 2 * code + b2n b
    match symbolOf codes (len + 1) c with
    | some z => some (z, t)
    | none => readSymbol codes f (len + 1) c t

/-- `n` symbols read from the stream, with the bits left. -/
def readSymbols (codes : List (Nat × Nat × Nat)) : Nat → List Bool → Option (List Nat × List Bool)
  | 0, l => some ([], l)
  | n + 1, l =>
    match readSymbol codes 12 0 0 l with
    | none => none
    | some (z, t) => (readSymbols codes n t).map (fun r => (z :: r.1, r.2))

/-- The codes of a table as (length, code, symbol). -/
def codeList (lens : List Nat) : List (Nat × Nat × Nat) :=
  ((canonicalCodes lens).zip (List.range 256)).filterMap (fun p => if p.1.1 = 0 then none else some (p.1.1, p.1.2, p.2))

/-- Check 1 of R184: the header. -/
def headerOk (b : Bytes) : Bool :=
  let k := bits (byteAt b 1) 1 0
  let pr := bits (byteAt b 1) 3 2
  let tb := bits (byteAt b 1) 6 4
  let st := leAt b 2 2
  let raw := leAt b 4 2
  let tl := leAt b 6 2
  let sl := leAt b 8 2
  decide (16 ≤ b.length) && decide (byteAt b 0 = 1) && decide (k ≠ 3) && !(bit (byteAt b 1) 7) && decide (byteAt b 0xA < 8) &&
    decide (byteAt b 0xB = 0) && (decide (st = 0) || (decide (2 ≤ st) && decide (st ≤ 4096) && decide (st < raw))) &&
    (decide (st ≠ 0) || decide (pr = 0)) &&
    (match k with
     | 0 => decide (pr = 0) && decide (tb = 0) && decide (st = 0) && decide (tl = 0) && decide (sl = 0) && decide (byteAt b 0xA = 0)
     | 1 => decide (tl = 0) && decide (leAt b 0xC 4 = 0)
     | _ => decide (tb = 0) && decide (leAt b 0xC 4 = 0))

/-- BODY_DECOMPRESS (R184): the chunk, or the status word of the first check that fails. -/
def decompressBody (b : Bytes) (expected : Nat) : Except Nat Bytes :=
  if !headerOk b then .error 0x5501
  else
    let k := bits (byteAt b 1) 1 0
    let raw := leAt b 4 2
    let tl := leAt b 6 2
    let sl := leAt b 8 2
    let pad := byteAt b 0xA
    if raw ≠ expected ∨ b.length ≠ (if k = 0 then raw + 16 else 20 + tl + sl) then .error 0x5502
    else if k = 0 then
      let d := b.drop 16
      if crc32c d = leAt b 0xC 4 then .ok d else .error 0x5505
    else
      let lens := if k = 2 then tableOfBytes (slice b 16 128) else staticTable (bits (byteAt b 1) 6 4)
      if !tableValid lens ∨ (k = 2 ∧ tl ≠ 128) then .error 0x5503
      else
        let bs := (slice b (16 + tl) sl).flatMap byteBits
        match readSymbols (codeList lens) raw bs with
        | none => .error 0x5504
        | some (zs, rest) =>
          if rest.length ≠ pad ∨ rest.any (fun x => x) then .error 0x5504
          else
            let d := ((restore (predOf (bits (byteAt b 1) 3 2)) (leAt b 2 2) zs).toList).map (BitVec.ofNat 8)
            if crc32c d = leAt b (16 + tl + sl) 4 then .ok d else .error 0x5505

end Sys2Proof.Machine
end

