-- ==== Sys2Proof/Machine/Sha.lean ====
section
/-! DEFINITION. The digests the digest lanes compute (R194): SHA-256, SHA-384 and SHA-512 of FIPS 180-4, in a form that
can be stopped and resumed at a block boundary (R204). -/

namespace Sys2Proof.Machine

/-- The round constants of SHA-256. -/
def sha256K : List (BitVec 32) :=
  [0x428A2F98, 0x71374491, 0xB5C0FBCF, 0xE9B5DBA5, 0x3956C25B, 0x59F111F1, 0x923F82A4, 0xAB1C5ED5,
   0xD807AA98, 0x12835B01, 0x243185BE, 0x550C7DC3, 0x72BE5D74, 0x80DEB1FE, 0x9BDC06A7, 0xC19BF174,
   0xE49B69C1, 0xEFBE4786, 0x0FC19DC6, 0x240CA1CC, 0x2DE92C6F, 0x4A7484AA, 0x5CB0A9DC, 0x76F988DA,
   0x983E5152, 0xA831C66D, 0xB00327C8, 0xBF597FC7, 0xC6E00BF3, 0xD5A79147, 0x06CA6351, 0x14292967] ++
  [0x27B70A85, 0x2E1B2138, 0x4D2C6DFC, 0x53380D13, 0x650A7354, 0x766A0ABB, 0x81C2C92E, 0x92722C85,
   0xA2BFE8A1, 0xA81A664B, 0xC24B8B70, 0xC76C51A3, 0xD192E819, 0xD6990624, 0xF40E3585, 0x106AA070,
   0x19A4C116, 0x1E376C08, 0x2748774C, 0x34B0BCB5, 0x391C0CB3, 0x4ED8AA4A, 0x5B9CCA4F, 0x682E6FF3,
   0x748F82EE, 0x78A5636F, 0x84C87814, 0x8CC70208, 0x90BEFFFA, 0xA4506CEB, 0xBEF9A3F7, 0xC67178F2]

/-- The round constants of SHA-384 and SHA-512. -/
def sha512K : List (BitVec 64) :=
  [0x428A2F98D728AE22, 0x7137449123EF65CD, 0xB5C0FBCFEC4D3B2F, 0xE9B5DBA58189DBBC,
   0x3956C25BF348B538, 0x59F111F1B605D019, 0x923F82A4AF194F9B, 0xAB1C5ED5DA6D8118,
   0xD807AA98A3030242, 0x12835B0145706FBE, 0x243185BE4EE4B28C, 0x550C7DC3D5FFB4E2,
   0x72BE5D74F27B896F, 0x80DEB1FE3B1696B1, 0x9BDC06A725C71235, 0xC19BF174CF692694] ++
  [0xE49B69C19EF14AD2, 0xEFBE4786384F25E3, 0x0FC19DC68B8CD5B5, 0x240CA1CC77AC9C65,
   0x2DE92C6F592B0275, 0x4A7484AA6EA6E483, 0x5CB0A9DCBD41FBD4, 0x76F988DA831153B5,
   0x983E5152EE66DFAB, 0xA831C66D2DB43210, 0xB00327C898FB213F, 0xBF597FC7BEEF0EE4,
   0xC6E00BF33DA88FC2, 0xD5A79147930AA725, 0x06CA6351E003826F, 0x142929670A0E6E70] ++
  [0x27B70A8546D22FFC, 0x2E1B21385C26C926, 0x4D2C6DFC5AC42AED, 0x53380D139D95B3DF,
   0x650A73548BAF63DE, 0x766A0ABB3C77B2A8, 0x81C2C92E47EDAEE6, 0x92722C851482353B,
   0xA2BFE8A14CF10364, 0xA81A664BBC423001, 0xC24B8B70D0F89791, 0xC76C51A30654BE30,
   0xD192E819D6EF5218, 0xD69906245565A910, 0xF40E35855771202A, 0x106AA07032BBD1B8] ++
  [0x19A4C116B8D2D0C8, 0x1E376C085141AB53, 0x2748774CDF8EEB99, 0x34B0BCB5E19B48A8,
   0x391C0CB3C5C95A63, 0x4ED8AA4AE3418ACB, 0x5B9CCA4F7763E373, 0x682E6FF3D6B2B8A3,
   0x748F82EE5DEFB2FC, 0x78A5636F43172F60, 0x84C87814A1F0AB72, 0x8CC702081A6439EC,
   0x90BEFFFA23631E28, 0xA4506CEBDE82BDE9, 0xBEF9A3F7B2C67915, 0xC67178F2E372532B] ++
  [0xCA273ECEEA26619C, 0xD186B8C721C0C207, 0xEADA7DD6CDE0EB1E, 0xF57D4F7FEE6ED178,
   0x06F067AA72176FBA, 0x0A637DC5A2C898A6, 0x113F9804BEF90DAE, 0x1B710B35131C471B,
   0x28DB77F523047D84, 0x32CAAB7B40C72493, 0x3C9EBE0A15C9BEBC, 0x431D67C49C100D4C,
   0x4CC5D4BECB3E42B6, 0x597F299CFC657E2A, 0x5FCB6FAB3AD6FAEC, 0x6C44198C4A475817]

/-- The initial hash value of SHA-256. -/
def sha256Init : List (BitVec 32) :=
  [0x6A09E667, 0xBB67AE85, 0x3C6EF372, 0xA54FF53A, 0x510E527F, 0x9B05688C, 0x1F83D9AB, 0x5BE0CD19]

/-- The initial hash value of SHA-512. -/
def sha512Init : List (BitVec 64) :=
  [0x6A09E667F3BCC908, 0xBB67AE8584CAA73B, 0x3C6EF372FE94F82B, 0xA54FF53A5F1D36F1,
   0x510E527FADE682D1, 0x9B05688C2B3E6C1F, 0x1F83D9ABFB41BD6B, 0x5BE0CD19137E2179]

/-- The initial hash value of SHA-384. -/
def sha384Init : List (BitVec 64) :=
  [0xCBBB9D5DC1059ED8, 0x629A292A367CD507, 0x9159015A3070DD17, 0x152FECD8F70E5939,
   0x67332667FFC00B31, 0x8EB44A8768581511, 0xDB0C2E0D64F98FA7, 0x47B5481DBEFA4FA4]

/-- The constants in which SHA-256 and SHA-512 differ beside the word length. -/
structure ShaRot where
  a1 : Nat
  a2 : Nat
  a3 : Nat
  e1 : Nat
  e2 : Nat
  e3 : Nat
  s1 : Nat
  s2 : Nat
  s3 : Nat
  t1 : Nat
  t2 : Nat
  t3 : Nat
  deriving DecidableEq, Repr

/-- The rotations of SHA-256. -/
def rot256 : ShaRot := ⟨2, 13, 22, 6, 11, 25, 7, 18, 3, 17, 19, 10⟩

/-- The rotations of SHA-384 and SHA-512. -/
def rot512 : ShaRot := ⟨28, 34, 39, 14, 18, 41, 1, 8, 7, 19, 61, 6⟩

/-- The message schedule, kept as the sixteen latest words, newest first; the answer is all words, oldest first. -/
def shaSchedule {w : Nat} (r : ShaRot) : Nat → List (BitVec w) → List (BitVec w) → List (BitVec w)
  | 0, _, acc => acc.reverse
  | n + 1, win, acc =>
    let g := fun i => win.getD i 0
    let x1 := g 1
    let x15 := g 14
    let s0 := (x15.rotateRight r.s1) ^^^ (x15.rotateRight r.s2) ^^^ (x15 >>> r.s3)
    let s1 := (x1.rotateRight r.t1) ^^^ (x1.rotateRight r.t2) ^^^ (x1 >>> r.t3)
    let v := g 15 + s0 + g 6 + s1
    shaSchedule r n (v :: win.take 15) (v :: acc)

/-- The eight working variables. -/
structure ShaVars (w : Nat) where
  a : BitVec w
  b : BitVec w
  c : BitVec w
  d : BitVec w
  e : BitVec w
  f : BitVec w
  g : BitVec w
  h : BitVec w
  deriving DecidableEq, Repr

/-- One round. -/
def shaRound {w : Nat} (r : ShaRot) (v : ShaVars w) (kw : BitVec w × BitVec w) : ShaVars w :=
  let s1 := (v.e.rotateRight r.e1) ^^^ (v.e.rotateRight r.e2) ^^^ (v.e.rotateRight r.e3)
  let ch := (v.e &&& v.f) ^^^ ((~~~ v.e) &&& v.g)
  let t1 := v.h + s1 + ch + kw.1 + kw.2
  let s0 := (v.a.rotateRight r.a1) ^^^ (v.a.rotateRight r.a2) ^^^ (v.a.rotateRight r.a3)
  let mj := (v.a &&& v.b) ^^^ (v.a &&& v.c) ^^^ (v.b &&& v.c)
  ⟨t1 + (s0 + mj), v.a, v.b, v.c, v.d + t1, v.e, v.f, v.g⟩

/-- One block: the hash value after it. -/
def shaBlock {w : Nat} (r : ShaRot) (k : List (BitVec w)) (rounds : Nat) (h : List (BitVec w)) (block : Bytes) :
    List (BitVec w) :=
  let ws := (chunks (w / 8) block).map (fun c => BitVec.ofNat w (beNat c))
  let sched := shaSchedule r (rounds - 16) ws.reverse ws.reverse
  let g := fun i => h.getD i 0
  let v := (k.zip sched).foldl (shaRound r) ⟨g 0, g 1, g 2, g 3, g 4, g 5, g 6, g 7⟩
  [g 0 + v.a, g 1 + v.b, g 2 + v.c, g 3 + v.d, g 4 + v.e, g 5 + v.f, g 6 + v.g, g 7 + v.h]

/-- The padding of FIPS 180-4 after `len` message bytes, for blocks of `bs` bytes and a length field of `lf` bytes. -/
def shaPad (bs lf len : Nat) : Bytes :=
  let z := (2 * bs - 1 - lf - len % bs) % bs
  0x80 :: zeros z ++ beBytes lf (8 * len)

/-- SHA-256 blocks run from a chaining value. -/
def sha256Run (h : List (BitVec 32)) (data : Bytes) : List (BitVec 32) :=
  (chunks 64 data).foldl (shaBlock rot256 sha256K 64) h

/-- SHA-384 and SHA-512 blocks run from a chaining value. -/
def sha512Run (h : List (BitVec 64)) (data : Bytes) : List (BitVec 64) :=
  (chunks 128 data).foldl (shaBlock rot512 sha512K 80) h

/-- The bytes of a chaining value, high byte of each word first. -/
def shaOut {w : Nat} (h : List (BitVec w)) : Bytes := h.flatMap (fun x => beBytes (w / 8) x.toNat)

/-- The chaining value that bytes spell. -/
def shaIn (w : Nat) (b : Bytes) : List (BitVec w) := (chunks (w / 8) b).map (fun c => BitVec.ofNat w (beNat c))

/-- SHA-256. -/
def sha256 (m : Bytes) : Bytes := shaOut (sha256Run sha256Init (m ++ shaPad 64 8 m.length))

/-- SHA-384. -/
def sha384 (m : Bytes) : Bytes := (shaOut (sha512Run sha384Init (m ++ shaPad 128 16 m.length))).take 48

/-- SHA-512. -/
def sha512 (m : Bytes) : Bytes := shaOut (sha512Run sha512Init (m ++ shaPad 128 16 m.length))

end Sys2Proof.Machine
end

