-- ==== Sys2Proof/Machine/Engines.lean ====
section
/-! DEFINITION. The compressors, decompressors and digest lanes as job rings reach them (R186 to R193, R196 to R208): contexts, ring service,
job descriptors, result and measurement registers. -/

namespace Sys2Proof.Machine

/-! ## Rings and contexts -/

/-- The jobs of an engine on a motif. -/
def State.jobsOf (s : State) (k : EngKind) (m : Nat) : List EngJob := s.eng.jobs.filter (fun j => j.kind == k && j.motif == m)

/-- Contexts of each unit of an engine: 16 on each of two compressors, decompressors or erasure units, 256 in the digest lanes (R186, R196, R263). -/
def EngKind.contexts : EngKind → Nat
  | .cmp => 16
  | .dcmp => 16
  | .dig => 256
  | .cip => 0
  | .ecu => 16

/-- The instance of structure 0x31 that an engine's contexts are (R421). -/
def EngKind.instOf : EngKind → Nat
  | .dig => 0
  | .cmp => 1
  | .dcmp => 2
  | .cip => 3
  | .ecu => 4

/-- The contexts bound on a unit. -/
def State.boundOn (s : State) (k : EngKind) (m u : Nat) : Nat :=
  ((s.jobsOf k m).filter (fun j => j.unit == some u)).length + (if k = .dig then (s.eng.taps.filter (fun t => t.motif == m)).length else 0)

/-- The instances of an engine that the route table gives work under stages that a test picks (R33, R73): compressors, decompressors, and digest lanes of either kind as one. -/
def State.engineMask (s : State) (k : EngKind) (m : Nat) (p : Route → Bool) : Nat :=
  match k with
  | .cmp => s.instances m 0x06 p
  | .dcmp => s.instances m 0x07 p
  | .dig => b2n (decide (s.instances m 0x04 p ≠ 0) || decide (s.instances m 0x05 p ≠ 0))
  | .cip => s.instances m 0x08 p
  | .ecu => s.instances m 0x09 p

/-- The units of an engine that may be given work and have a free context. -/
def State.freeUnits (s : State) (k : EngKind) (m : Nat) (p : Route → Bool) : List Nat :=
  (if k = .dig then [0] else [0, 1]).filter (fun u => decide (s.boundOn k m u < k.contexts) && bit (s.engineMask k m p) u)

/-- The jobs that wait for a context. -/
def State.waitingOn (s : State) (k : EngKind) (m : Nat) : List EngJob := (s.jobsOf k m).filter (fun j => decide (j.unit = none))

/-- The requests of FLUSH and READ that wait for a context. -/
def State.waitsOn (s : State) (k : EngKind) (m : Nat) : List EngWait := s.eng.waits.filter (fun w => w.kind == k && w.motif == m)

/-- How many requests wait for a context (R187, R197). -/
def State.waitCount (s : State) (k : EngKind) (m : Nat) : Nat := (s.waitingOn k m).length + (s.waitsOn k m).length

/-- CMP_ST, MTF_DCMP_ST, DIG_CTX_ST, ECU_ST and CIP_ST.WAITING brought in step for a motif. -/
def State.syncEng (s : State) (m : Nat) : State :=
  let s := ((s.setFld F.ECU_ST_WAITING (s.waitCount .ecu m) m).setFld F.ECU_ST_BUSY0 (s.boundOn .ecu m 0) m).setFld F.ECU_ST_BUSY1 (s.boundOn .ecu m 1) m
  let s := if s.fuses.caps.optE then s.setFld F.CIP_ST_WAITING (s.waitsOn .cip m).length m else s
  let s := if s.fuses.caps.optC then
      ((s.setFld F.CMP_ST_WAITING (s.waitCount .cmp m) m).setFld F.CMP_ST_BUSY0 (s.boundOn .cmp m 0) m).setFld F.CMP_ST_BUSY1 (s.boundOn .cmp m 1) m
    else s
  let s := ((s.setFld F.MTF_DCMP_ST_WAITING (s.waitCount .dcmp m) m).setFld F.MTF_DCMP_ST_BUSY0 (s.boundOn .dcmp m 0) m).setFld
    F.MTF_DCMP_ST_BUSY1 (s.boundOn .dcmp m 1) m
  let taps := (s.eng.taps.filter (fun t => t.motif == m)).length
  ((s.setFld F.DIG_CTX_ST_WAITING (s.waitCount .dig m) m).setFld F.DIG_CTX_ST_TAP taps m).setFld F.DIG_CTX_ST_BOUND (s.boundOn .dig m 0) m

/-- One of the two job rings of a motif. -/
def isDigRing (k : EngKind) : Bool := decide (k = .dig)

/-- The base of a job ring. -/
def State.ringBase (s : State) (dig : Bool) (m : Nat) : Nat :=
  if dig then s.fld F.DIG_JQ_BASE_BASE m * 4096 else s.fld F.MTF_CJQ_BASE_BASE m * 4096

/-- Descriptors of a job ring (R192, R202). DESIGN CHOICE (log 61): the reserved codes 9 to 15 of SIZE give rings of that size too. -/
def State.ringSize (s : State) (dig : Bool) (m : Nat) : Nat :=
  2 ^ ((if dig then s.fld F.DIG_JQ_BASE_SIZE m else s.fld F.MTF_CJQ_BASE_SIZE m) + 4)

/-- HEAD, TAIL and EN of a job ring. -/
def State.ringHead (s : State) (dig : Bool) (m : Nat) : Nat := if dig then s.fld F.DIG_JQ_HEAD_HEAD m else s.fld F.MTF_CJQ_HEAD_HEAD m

/-- TAIL of a job ring. -/
def State.ringTail (s : State) (dig : Bool) (m : Nat) : Nat := if dig then s.fld F.DIG_JQ_TAIL_TAIL m else s.fld F.MTF_CJQ_TAIL_TAIL m

/-- EN of a job ring. -/
def State.ringEn (s : State) (dig : Bool) (m : Nat) : Bool := if dig then s.flag F.DIG_JQ_CTL_EN m else s.flag F.MTF_CJQ_CTL_EN m

/-- The address of the descriptor that a ring index names now. -/
def State.descAddr (s : State) (dig : Bool) (m idx : Nat) : Nat := s.ringBase dig m + (if dig then 64 else 32) * idx

/-- A ring entry that is already taken, running or completed. -/
def State.ringKnown (s : State) (dig : Bool) (m idx : Nat) : Bool :=
  s.eng.jobs.any (fun j => isDigRing j.kind == dig && j.motif == m && j.idx == idx && !j.done) ||
    s.eng.ended.any (fun e => isDigRing e.1 == dig && e.2.1 == m && e.2.2 == idx)

/-- An engine's class bits in a descriptor. -/
def descClass (dig : Bool) (d : Bytes) : Nat := if dig then bits (byteAt d 1) 3 2 else bits (byteAt d 1) 1 0

/-- The engine that runs a descriptor. -/
def descKind (dig : Bool) (d : Bytes) : EngKind := if dig then .dig else if byteAt d 0 = 2 then .dcmp else .cmp

/-- Block size of a function (R203): ALG 1 SHA-256, 2 SHA-384, 3 SHA-512. -/
def algBlock (alg : Nat) : Nat := if alg = 1 then 64 else 128

/-- The descriptor of a digest job keeps its table and the rules beside it (R203). -/
def digDescOk (motif : Nat) (d : Bytes) : Bool :=
  let op := byteAt d 0
  let b1 := byteAt d 1
  let b2 := byteAt d 2
  let b3 := byteAt d 3
  let alg := bits b1 1 0
  let decl := leAt d 8 8
  decide (1 ≤ op) && decide (op ≤ 3) && decide (1 ≤ alg) && (decide (op = 1) || decide (alg = 2)) &&
    (decide (op = 1) || (!bit b1 4 && !bit b1 5)) && !bit b1 7 && decide (b2 < 2) && (decide (b2 = 0) || (decide (op = 1) && bit b1 5)) &&
    decide (b3 < 16) && decide (leAt d 4 4 = 0) && decide (byteAt d 0x34 < 2) && allZero (slice d 0x35 3) && decide (decl < 2 ^ 48) && decide (leAt d 0x10 8 < 2 ^ 48) &&
    (decide (op ≠ 3) || decide (decl = 48)) &&
    !(decide (op = 1) && !bit b1 5 && decide (decl % algBlock alg ≠ 0)) &&
    !(bit b1 6 && decide (motif ≠ 0)) && !(decide (2 ≤ op) && decide (motif ≠ 0))

/-- A SHA-384 extension of a register that a descriptor asks for and its table allows (R203, R208). -/
def measures (motif : Nat) (d : Bytes) : Bool := decide (2 ≤ byteAt d 0) && decide (byteAt d 0 ≤ 3) && digDescOk motif d && decide (4 ≤ byteAt d 3)

/-- The state with a job changed. -/
def State.modJob (s : State) (seq : Nat) (f : EngJob → EngJob) : State :=
  s.modEng (fun e => { e with jobs := mapWhere (fun x => x.seq == seq) f e.jobs })

/-- A job bound to a context; a MEASURE job that its table allows takes the measurement unit, or finds it in use (R208). -/
def State.bindJob (s : State) (j : EngJob) (u : Nat) : State :=
  let meas := decide (j.kind = .dig) && measures j.motif j.desc
  let busy := meas && s.flag F.MSR_ST_BUSY
  let s := s.sramWroteAt j.motif 0x31 j.kind.instOf none j.idx
  let s := s.modJob j.seq (fun x => { x with unit := some u, ctl := s.reg .CMP_CTL j.motif 0, busy := busy })
  if meas ∧ ¬ busy then ((s.setFld F.MSR_ST_BUSY 1).setFld F.MSR_ST_SRC 2).setFld F.MSR_ST_CUR (byteAt j.desc 3 % 16) else s

/-- The stages that may give a job its unit: a measurement request after step 6 goes by the MEASURE pattern of the route table alone (R74). -/
def EngJob.stages (j : EngJob) (r : Route) : Bool := !(decide (j.kind = .dig) && decide (2 ≤ byteAt j.desc 0) && decide (byteAt j.desc 0 ≤ 3)) || decide (r.pattern = 6)

/-- A job bound where a context is free for it, on a unit of free choice; the flag says whether it was. -/
def State.tryBind (s : State) (j : EngJob) : State × Bool :=
  let us := s.freeUnits j.kind j.motif j.stages
  match us[s.freeVal % us.length]? with
  | some u => ((if us.length = 2 then s.tookFree else s).bindJob j u, true)
  | none => (s, false)

/-- A context held for a chunk of FLUSH or a body of READ until ENGINE_CONTEXT_FREED: it is bound on a unit that the stages picked by `p` name. None where no context is free. -/
def State.holdContext (s : State) (k : EngKind) (m cls : Nat) (p : Route → Bool) : State × Bool :=
  let us := s.freeUnits k m p
  match us[s.freeVal % us.length]? with
  | none => (s, false)
  | some u =>
    let s := if us.length = 2 then s.tookFree else s
    let s := s.sramWrote m 0x31 k.instOf none
    let j : EngJob := { kind := k, motif := m, idx := 0, addr := 0, desc := [], cls := cls, seq := s.eng.seq, unit := some u, ctl := 0, done := true, busy := false }
    ((s.modEng (fun e => { e with jobs := e.jobs ++ [j], seq := e.seq + 1 })).syncEng m, true)

/-- A request of FLUSH or READ that finds no context waits (R187, R197, R211); one that waits already keeps its place. -/
def State.waitOn (s : State) (k : EngKind) (m cls : Nat) (what : WaitFor) : State :=
  if s.eng.waits.any (fun w => w.kind == k && w.motif == m && w.what == what) then s
  else
    let s := if k = .cmp ∧ s.fuses.caps.optC then s.bump F.CMP_CNT_STORED_CTX_WAIT 1 m else s
    (s.modEng (fun e => { e with waits := e.waits ++ [⟨k, m, cls, e.seq, what⟩], seq := e.seq + 1 })).syncEng m

/-- HEAD advanced over completed entries; `fuel` bounds them. -/
def State.advanceHead (s : State) (dig : Bool) (m : Nat) : Nat → State
  | 0 => s
  | f + 1 =>
    let h := s.ringHead dig m
    let here := fun (e : EngKind × Nat × Nat) => isDigRing e.1 == dig && e.2.1 == m && e.2.2 == h
    if s.eng.ended.any here then
      let s := s.modEng (fun e => { e with ended := e.ended.filter (fun x => !here x) })
      let n := (h + 1) % s.ringSize dig m
      (if dig then s.setFld F.DIG_JQ_HEAD_HEAD n m else s.setFld F.MTF_CJQ_HEAD_HEAD n m).advanceHead dig m f
    else s

/-- A job has completed: its context waits to be freed, HEAD advances over completed entries, and the interrupt goes out (R192, R202). -/
def State.endJob (s : State) (j : EngJob) : State :=
  let dig := isDigRing j.kind
  let s := s.modJob j.seq (fun x => { x with done := true })
  let s := s.modEng (fun e => { e with ended := e.ended ++ [(j.kind, j.motif, j.idx)] })
  let s := s.advanceHead dig j.motif s.eng.ended.length
  if dig then (if s.flag F.DIG_JQ_CTL_IRQ_EN j.motif then s.raiseIrq j.motif (s.fld F.DIG_JQ_CTL_HART j.motif) 0 0x0C1 else s)
  else if s.flag F.MTF_CJQ_CTL_IRQ_EN j.motif then s.raiseIrq j.motif (s.fld F.MTF_CJQ_CTL_HART j.motif) 0 0x0C0
  else s

/-- A ring entry whose descriptor cannot be fetched (R27): the fetch ends with its status word, nothing is written, and HEAD passes the entry. -/
def State.badEntry (s : State) (dig : Bool) (m i status : Nat) : State :=
  let k := if dig then EngKind.dig else .cmp
  let j : EngJob := { kind := k, motif := m, idx := i, addr := 0, desc := [], cls := 0, seq := s.eng.seq, unit := none, ctl := 0, done := true, busy := false }
  ((s.modEng (fun e => { e with seq := e.seq + 1 })).out (.engineStatus m (s.descAddr dig m i) status)).endJob j

/-- The entries from index `i` up to TAIL started in ring order while EN is 1 (R192, R202): each is fetched, and bound where a context is free; `fuel` bounds them. -/
def State.takeEntries (s : State) (dig : Bool) (m i : Nat) : Nat → State
  | 0 => s
  | f + 1 =>
    if i = s.ringTail dig m then s
    else
      let n := (i + 1) % s.ringSize dig m
      if s.ringKnown dig m i then s.takeEntries dig m n f
      else
        match s.engineRead 0 (s.descAddr dig m i) (if dig then 64 else 32) with
        | (s, .error e) => (s.badEntry dig m i e).takeEntries dig m n f
        | (s, .ok d) =>
          let j : EngJob :=
            { kind := descKind dig d, motif := m, idx := i, addr := s.descAddr dig m i, desc := d, cls := descClass dig d, seq := s.eng.seq, unit := none, ctl := 0,
              done := false, busy := false }
          let s := s.modEng (fun e => { e with jobs := e.jobs ++ [j], seq := e.seq + 1 })
          let r := s.tryBind j
          (if r.2 then r.1 else if s.fuses.caps.optC ∧ j.kind = .cmp then r.1.bump F.CMP_CNT_STORED_CTX_WAIT 1 m else r.1).takeEntries dig m n f

/-- The waiting job of lowest class, then earliest arrival (R187, R197); those of a ring whose EN is 0 do not start. -/
def State.firstWaiting (s : State) (k : EngKind) (m : Nat) : Option EngJob :=
  ((s.waitingOn k m).filter (fun j => s.ringEn (isDigRing j.kind) m)).foldl (fun (b : Option EngJob) j =>
    match b with
    | none => some j
    | some x => if j.cls < x.cls ∨ (j.cls = x.cls ∧ j.seq < x.seq) then some j else some x) none

/-- The waiting request of FLUSH or READ of lowest class, then earliest arrival. -/
def State.firstWait (s : State) (k : EngKind) (m : Nat) : Option EngWait :=
  (s.waitsOn k m).foldl (fun (b : Option EngWait) j =>
    match b with
    | none => some j
    | some x => if j.cls < x.cls ∨ (j.cls = x.cls ∧ j.seq < x.seq) then some j else some x) none

/-- Waiting jobs bound while contexts are free; `fuel` bounds them. -/
def State.bindJobs (s : State) (k : EngKind) (m : Nat) : Nat → State
  | 0 => s
  | f + 1 =>
    match s.firstWaiting k m with
    | none => s
    | some j => match s.tryBind j with
      | (s, true) => s.bindJobs k m f
      | (s, false) => s

/-- A ring served: the jobs that waited go first, then entries up to TAIL are started while EN is 1. -/
def State.serveRing (s : State) (dig : Bool) (m : Nat) : State :=
  if !s.ringEn dig m then s
  else
    let n := s.eng.jobs.length
    let s := if dig then s.bindJobs .dig m n else (s.bindJobs .cmp m n).bindJobs .dcmp m n
    (s.takeEntries dig m (s.ringHead dig m) (s.ringSize dig m)).syncEng m

/-- The job that runs for a ring entry. -/
def State.runningJob (s : State) (dig : Bool) (m idx : Nat) : Option EngJob :=
  s.eng.jobs.find? (fun j => isDigRing j.kind == dig && j.motif == m && j.idx == idx && !j.done && j.unit.isSome)

/-- The context of a completed job of an engine freed; none where no completed job holds one. -/
def State.freeContext (s : State) (kind : EngKind) (m : Nat) : Option State :=
  ((s.jobsOf kind m).find? (fun j => j.done && j.unit.isSome)).map (fun j => s.modEng (fun e => { e with jobs := e.jobs.filter (fun x => x.seq != j.seq) }))

/-! ## Compression jobs -/

/-- CMP_JOB_POST (R192): a write of MTF_CJQ_TAIL. -/
def State.postCmp (s : State) (m value : Nat) : State := (s.softWrite .MTF_CJQ_TAIL m 0 value).serveRing false m

/-- Write of MTF_CJQ_TAIL on a motif. -/
def execCmpJobPost (motif value : Nat) (s : State) : Host.Outcome State Fault Refusal :=
  live s (fun s => if s.hasMotif motif then s.postCmp motif value else s)

/-- A compression job ends: bytes 0x18 to 0x1F of its descriptor in one write (R192, R193). -/
def State.endCmp (s : State) (j : EngJob) (status out : Nat) : State :=
  let d := leBytes 2 status ++ bytesOf [1, 0] ++ leBytes 4 out
  ((s.engineWrite j.cls (j.addr + 0x18) d).1.endJob j).syncEng j.motif

/-- The settings that CMP_CTL gives (R175). DESIGN CHOICE (log 32): a reserved FIX_STRIDE or FIX_PRED is used as it stands, a predictor above 4 as MEDIAN. -/
def cmpSettings (ctl : Nat) : CmpSettings :=
  let f := bits ctl 31 16
  ⟨if f = 0 then none else some f, bits ctl 10 8, bit ctl 2, bit ctl 1, bit ctl 0⟩

/-- The descriptor of a compression job keeps its table (R193). -/
def cmpDescOk (d : Bytes) : Bool :=
  let op := byteAt d 0
  let b1 := byteAt d 1
  let stride := leAt d 2 2
  let raw := leAt d 4 2
  let body := leAt d 6 2
  (decide (op = 1) || decide (op = 2)) && decide (bits b1 5 3 ≤ 4) && decide (bits b1 7 6 = 0) && !(bit b1 2 && decide (op = 2)) &&
    decide (byteAt d 0x1A < 2) && decide (byteAt d 0x1B = 0) && decide (stride ≠ 1) && decide (stride ≤ 4096) && (decide (raw = 4096) || decide (raw = 16384)) &&
    (if op = 1 then decide (body = 0) else decide (16 ≤ body) && decide (body ≤ raw + 16))

/-- The counters of a chunk that a compressor emits (CMP_CNT_IN, CMP_CNT_OUT, CMP_CNT_KIND, CMP_CNT_STORED). -/
def State.countChunk (s : State) (m raw out : Nat) (k : ChunkKind) : State :=
  let s := (s.setFld F.CMP_CNT_IN_IN_BYTES (s.fld F.CMP_CNT_IN_IN_BYTES m + raw) m).setFld F.CMP_CNT_OUT_OUT_BYTES (s.fld F.CMP_CNT_OUT_OUT_BYTES m + out) m
  match k with
  | .stored => s.bump F.CMP_CNT_STORED_STORED 1 m
  | .static => s.bump F.CMP_CNT_KIND_STATIC 1 m
  | .dynamic => s.bump F.CMP_CNT_KIND_DYNAMIC 1 m

/-- A chunk abandoned for poison in a compressor (R189): CMP_ERR, on packages that have it. -/
def State.cmpPoison (s : State) (m : Nat) : State :=
  if s.fuses.caps.optC then (s.setFld F.CMP_ERR_STATUS 0x5405 m).setFld F.CMP_ERR_VALID 1 m else s

/-- A COMPRESS job runs (R193). DESIGN CHOICE (log 32): the codes are judged in the order of the rule's text, the descriptor before option C, that before DST, DST before SRC; with
FIX a STRIDE of 0 is stride 0, which R175 codes with LEFT. -/
def State.runCompress (s : State) (j : EngJob) : State :=
  let m := j.motif
  let d := j.desc
  let raw := leAt d 4 2
  let dst := leAt d 0x10 8
  if !cmpDescOk d then s.endCmp j 0x2506 0
  else if !s.fuses.caps.optC then s.endCmp j 0x2F00 0
  else if !s.reachesAll (.engine j.cls) true dst (raw + 16) then s.endCmp j 0x2F01 0
  else
    match s.engineRead j.cls (leAt d 8 8) raw with
    | (s, .error e) =>
      (if e = 0x5405 then s.cmpPoison m else s).endCmp j e 0
    | (s, .ok x) =>
      let c := cmpSettings j.ctl
      let c := if bit (byteAt d 1) 2 then { c with fixStride := some (leAt d 2 2), fixPred := bits (byteAt d 1) 5 3 } else c
      let r := compressChunk c x
      ((s.countChunk m raw r.1.length r.2).store dst r.1).endCmp j 0 r.1.length

/-- CMP_JOB_COMPRESS (R193): the job at a ring entry runs; a descriptor whose OP is neither operation completes here too. -/
def execCmpJobCompress (motif idx : Nat) (s : State) : Host.Outcome State Fault Refusal :=
  live s (fun s => match s.runningJob false motif idx with
    | some j => if j.kind = .cmp then s.runCompress j else s
    | none => s)

/-- A chunk that a decompressor releases nothing of: counted, with the offset of the decision free (R184, R189). -/
def State.dcmpFail (s : State) (m status : Nat) : State :=
  let s := (s.bump F.MTF_DCMP_CNT_FAILS 1 m).setFld F.MTF_DCMP_ERR_STATUS status m
  ((s.setFld F.MTF_DCMP_ERR_BODY_OFS s.freeVal m).setFld F.MTF_DCMP_ERR_VALID 1 m).tookFree

/-- A DECOMPRESS job runs. -/
def State.runDecompress (s : State) (j : EngJob) : State :=
  let m := j.motif
  let d := j.desc
  let raw := leAt d 4 2
  let dst := leAt d 0x10 8
  if !cmpDescOk d then s.endCmp j 0x2506 0
  else if !s.reachesAll (.engine j.cls) true dst (raw + 16) then s.endCmp j 0x2F01 0
  else
    match s.engineRead j.cls (leAt d 8 8) (leAt d 6 2) with
    | (s, .error e) => (if e = 0x5405 then s.dcmpFail m e else s).endCmp j e 0
    | (s, .ok b) =>
      match decompressBody b raw with
      | .error e => (s.dcmpFail m e).endCmp j e 0
      | .ok x => ((s.bump F.MTF_DCMP_CNT_CHUNKS 1 m).store dst x).endCmp j 0 x.length

/-- CMP_JOB_DECOMPRESS (R193). -/
def execCmpJobDecompress (motif idx : Nat) (s : State) : Host.Outcome State Fault Refusal :=
  live s (fun s => match s.runningJob false motif idx with
    | some j => if j.kind = .dcmp then s.runDecompress j else s
    | none => s)

/-! ## Digests -/

/-- Digest length of a function. -/
def algLen (alg : Nat) : Nat := if alg = 1 then 32 else if alg = 2 then 48 else 64

/-- The bytes of the initial chaining value of a function. -/
def algInit (alg : Nat) : Bytes := if alg = 1 then shaOut sha256Init else if alg = 2 then shaOut sha384Init else shaOut sha512Init

/-- Whole blocks run from a chaining value given in bytes. -/
def algRun (alg : Nat) (h data : Bytes) : Bytes :=
  if alg = 1 then shaOut (sha256Run (shaIn 32 h) data) else shaOut (sha512Run (shaIn 64 h) data)

/-- The FIPS 180-4 padding for a message of `len` bytes in all. -/
def algPad (alg len : Nat) : Bytes := if alg = 1 then shaPad 64 8 len else shaPad 128 16 len

/-- The value of a measurement register (R206). -/
def State.mrValue (s : State) (r : Nat) : Bytes := (List.range 6).flatMap (fun i => leBytes 8 (s.fld F.MSR_MR_VALUE 0 (6 * r + i)))

/-- Extension of a measurement register (R206), with its count. -/
def State.extendMr (s : State) (r : Nat) (v : Bytes) : State :=
  let h := sha384 (s.mrValue r ++ v)
  (s.each (List.range 6) (fun s i => s.setFld F.MSR_MR_VALUE (leAt h (8 * i) 8) 0 (6 * r + i))).bump F.MSR_CNT_EXTENDS 1 0 r

/-- DIG_JOB_POST (R202): a write of DIG_JQ_TAIL. -/
def State.postDig (s : State) (m value : Nat) : State := (s.softWrite .DIG_JQ_TAIL m 0 value).serveRing true m

/-- Write of DIG_JQ_TAIL on a motif. -/
def execDigJobPost (motif value : Nat) (s : State) : Host.Outcome State Fault Refusal :=
  live s (fun s => if s.hasMotif motif then s.postDig motif value else s)

/-- A digest job ends with its result word; the measurement unit it held is released. -/
def State.endDig (s : State) (j : EngJob) (word bytesDone : Nat) : State :=
  let s := (s.engineWrite j.cls (j.addr + 0x38) (leBytes 8 (bytesDone % 2 ^ 48))).1
  let s := (s.engineWrite j.cls (j.addr + 0x30) (leBytes 4 word ++ bytesOf [1, 0, 0, 0])).1
  let s := if measures j.motif j.desc ∧ ¬ j.busy then ((s.setFld F.MSR_ST_BUSY 0).setFld F.MSR_ST_SRC 0).setFld F.MSR_ST_CUR 0 else s
  let s := ((s.setFld F.DIG_ST_STATUS (word / 65536) j.motif).setFld F.DIG_ST_SHORT (bits word 2 2) j.motif).setFld F.DIG_ST_TRUNC (bits word 1 1) j.motif
  ((s.setFld F.DIG_ST_VALID (bits word 0 0) j.motif).endJob j).syncEng j.motif

/-- A digest job refused before a byte of it is digested: BYTES is 0. -/
def State.refuseDig (s : State) (j : EngJob) (status : Nat) : State := s.endDig j (status * 65536) 0

/-- A digest job fails with a status word; the count of bytes digested is not stated, and is free (log 33). -/
def State.failDig (s : State) (j : EngJob) (status flags : Nat) : State := s.tookFree.endDig j (status * 65536 + flags) s.freeVal

/-- The size of the boot flash: the least that R448 allows (log 34). -/
def flashSize : Nat := 2 ^ 28

/-- The source of a digest job: memory, or the boot flash (R203). -/
def State.digSource (s : State) (j : EngJob) (d : Bytes) (n : Nat) : State × Except Nat Bytes :=
  let src := leAt d 0x18 8
  if bit (byteAt d 1) 6 then (if src + n ≤ flashSize then (s, .ok (s.flashRead src n)) else (s, .error 0x2F01))
  else s.engineRead j.cls src n

/-- The state record that a job imports (R204): COUNT and chaining value, or a status word. -/
def State.importState (s : State) (j : EngJob) (d : Bytes) (alg : Nat) : State × Except Nat (Nat × Bytes) :=
  if !bit (byteAt d 1) 4 then (s, .ok (0, algInit alg))
  else
    match s.engineRead j.cls (leAt d 0x28 8) 96 with
    | (s, .error e) => (s, .error e)
    | (s, .ok r) =>
      let ok := decide (byteAt r 0 = alg) && allZero (slice r 1 7) && decide (leAt r 8 8 % algBlock alg = 0) && allZero (slice r 0x50 16) &&
        (decide (alg ≠ 1) || allZero (slice r 0x30 32))
      (s, if ok then .ok (leAt r 8 8, slice r 0x10 (if alg = 1 then 32 else 64)) else .error 0x2603)

/-- A digest delivered: to the result registers while none is held (R205), or to memory. -/
def State.deliverDigest (s : State) (j : EngJob) (d h : Bytes) (word n : Nat) : State :=
  let m := j.motif
  if byteAt d 2 = 1 then
    if s.flag F.DIG_RES_ST_HELD m then s.failDig j 0x1601 0
    else
      let s := s.each (List.range 8) (fun s i => s.setFld F.DIG_RES_DATA (leAt h (8 * i) 8) m i)
      ((s.setFld F.DIG_RES_ST_LEN_W (h.length / 8) m).setFld F.DIG_RES_ST_HELD 1 m).endDig j word n
  else
    match s.engineWrite j.cls (leAt d 0x20 8) h with
    | (s, 0) => s.endDig j word n
    | (s, e) => s.failDig j e 0

/-- A message of a job under R200 and R201: `k` takes the state and the declared bytes with the flags of TRUNC; otherwise the job ends. -/
def State.message (s : State) (j : EngJob) (d : Bytes) (k : State → Bytes → Nat → State) : State :=
  let decl := leAt d 8 8
  let len := leAt d 0x10 8
  match s.digSource j d (min decl len) with
  | (s, .error e) => s.failDig j e 0
  | (s, .ok x) =>
    if len < decl then (s.bump F.DIG_CNT_SHORT 1 j.motif).failDig j 0x5602 4
    else if decl < len then k (s.bump F.DIG_CNT_TRUNC 1 j.motif) x 2
    else k s x 0

/-- A DIGEST job runs. -/
def State.runDigest (s : State) (j : EngJob) (d : Bytes) : State :=
  let b1 := byteAt d 1
  let alg := bits b1 1 0
  let decl := leAt d 8 8
  if !digDescOk j.motif d then s.refuseDig j 0x2603
  else
    match s.importState j d alg with
    | (s, .error e) => s.failDig j e 0
    | (s, .ok (count, h)) =>
      s.message j d (fun s x fl =>
        if bit b1 5 then
          let dg := (algRun alg h (x ++ algPad alg (count + decl))).take (algLen alg)
          s.deliverDigest j d dg (1 + fl) decl
        else
          let hv := algRun alg h x
          let rec_ := bytesOf [alg] ++ zeros 7 ++ leBytes 8 (count + decl) ++ hv ++ zeros (64 - hv.length) ++ zeros 16
          match s.engineWrite j.cls (leAt d 0x20 8) rec_ with
          | (s, 0) => s.endDig j (1 + fl) decl
          | (s, e) => s.failDig j e 0)

/-- The digest job at a ring entry, with its descriptor, where a test on it holds. -/
def State.onDigJob (s : State) (m idx : Nat) (p : Nat → Bool) (f : State → EngJob → Bytes → State) : State :=
  match s.runningJob true m idx with
  | none => s
  | some j => if p (byteAt j.desc 0) then f s j j.desc else s

/-- DIG_JOB_DIGEST (R203): a DIGEST job runs; a descriptor whose OP is no operation completes here too. -/
def execDigJobDigest (motif idx : Nat) (s : State) : Host.Outcome State Fault Refusal :=
  live s (fun s => s.onDigJob motif idx (fun op => op ≠ 2 && op ≠ 3) State.runDigest)

/-- The checks that both MEASURE operations share (R203, R208). DESIGN CHOICE (log 33): where several codes apply, 0x2603 comes before 0x2604 and that before 0x1601. -/
def State.measureWith (s : State) (j : EngJob) (d : Bytes) (value : Bytes → Bytes) : State :=
  if !digDescOk j.motif d then s.refuseDig j 0x2603
  else if byteAt d 3 < 4 then s.refuseDig j 0x2604
  else if j.busy then s.refuseDig j 0x1601
  else s.message j d (fun s x fl => (s.extendMr (byteAt d 3) (value x)).endDig j (1 + fl) (leAt d 8 8))

/-- DIG_JOB_MEASURE_DATA (R208): the register is extended with the SHA-384 of the data. -/
def execDigJobMeasureData (motif idx : Nat) (s : State) : Host.Outcome State Fault Refusal :=
  live s (fun s => s.onDigJob motif idx (fun op => op == 2) (fun s j d => s.measureWith j d sha384))

/-- DIG_JOB_MEASURE_VALUE (R208): the register is extended with the 48 bytes themselves. -/
def execDigJobMeasureValue (motif idx : Nat) (s : State) : Host.Outcome State Fault Refusal :=
  live s (fun s => s.onDigJob motif idx (fun op => op == 3) (fun s j d => s.measureWith j d (fun x => x)))

/-- DIG_RES_RELEASE (R205): writing 1 to DIG_RES_ST.HELD. -/
def execDigResRelease (motif : Nat) (s : State) : Host.Outcome State Fault Refusal :=
  live s (fun s => if s.hasMotif motif then s.softWrite .DIG_RES_ST motif 0 1 else s)

end Sys2Proof.Machine
end

