-- ==== Sys2Proof/Machine/Ingest.lean ====
section
/-! DEFINITION. Admission and the write buffer (R142 to R149, R163, R164, R248): waiting writes and their order, atoms from RESERVED to COMPLETE,
acknowledgement, discard, durability for FUA and Flush, and the ends of connections and fabrics queues that discard writes (R331, R370, R371). -/

namespace Sys2Proof.Machine

/-! ## Lookup -/

/-- A write by its identifier. -/
def State.write? (s : State) (id : Nat) : Option Write := s.dp.writes.find? (fun w => w.id == id)

/-- The state with a write changed. -/
def State.modWrite (s : State) (id : Nat) (f : Write → Write) : State :=
  s.modDp (fun d => { d with writes := mapWhere (fun w => w.id == id) f d.writes })

/-- The atoms of a write. -/
def State.atomsOf (s : State) (id : Nat) : List BufAtom := s.dp.atoms.filter (fun a => a.writeId == id)

/-- The state with an atom of a write changed. -/
def State.modAtom (s : State) (id atom : Nat) (f : BufAtom → BufAtom) : State :=
  s.modDp (fun d => { d with atoms := mapWhere (fun a => a.writeId == id && a.atom == atom) f d.atoms })

/-- The command that a write carries out. -/
def State.cmdOfWrite (s : State) (id : Nat) : Option HostCmd := s.hq.cmds.find? (fun k => match k.kind with | .writes l => l.contains id | _ => false)

/-- The earliest stitch of the flush queue on a motif: MTF_FLUSH_ST brought in step. -/
def State.syncFlush (s : State) : State :=
  s.each s.motifs (fun s m =>
    let mine := s.dp.atoms.filter (fun a => match s.ns a.ns with | some n => s.homeMotif (s.chunkOf n a.atom) == m | none => a.motif == m)
    let s := s.setFld F.MTF_FLUSH_ST_PENDING_MIB (mibUp (mine.filter (fun a => decide (a.state = AtomState.complete))).length) m
    s.setFld F.MTF_FLUSH_ST_ACTIVE (s.med.flushes.filter (fun f => f.motif == m)).length m)

/-! ## Drops and discards -/

/-- UNACK and UNACK[c] released for so many atoms. -/
def State.releaseUnack (s : State) (c n : Nat) : State :=
  s.modDp (fun d => { d with unack := d.unack - n, unackC := setAt d.unackC c (d.unackC.getD c 0 - n) })

/-- Taps abandoned: their contexts are freed, and the jobs that waited behind them bound (R197, R199). -/
def State.dropTaps (s : State) (p : Tap → Bool) : State :=
  let ms := (s.eng.taps.filter p).map (fun t => t.motif)
  let s := s.modEng (fun e => { e with taps := e.taps.filter (fun t => !p t) })
  s.each ms.eraseDups (fun s m => (s.bindJobs .dig m s.eng.jobs.length).syncEng m)

/-- A write discarded whole (R147): its atoms are FREE, its charges released, its taps abandoned (R199). -/
def State.discardWrite (s : State) (id : Nat) : State :=
  match s.write? id with
  | none => s
  | some w =>
    let l := (s.atomsOf id).map (fun a => (id, a.atom))
    let s := if w.state = 1 ∨ w.state = 2 then s.releaseUnack w.cls l.length else s
    let s := s.modDp (fun d => { d with writes := d.writes.filter (fun x => x.id != id) })
    let s := (s.dropTaps (fun t => t.writeId == id)).modEng (fun e => { e with waits := e.waits.filter (fun x => match x.what with | .stage v _ => v != id | _ => true) })
    let s := s.modEp (fun e => { e with todo := e.todo.filter (fun r => match r with | .atom w _ => w != id | _ => true) })
    (s.freeAtoms l).syncAdmit

/-! ## Ends of connections and queues -/

/-- A write of an abandoned command is discarded while it waits or any of its atoms is not LANDED (R370); a function-level or controller reset discards it while it is not
complete (R147). -/
def State.dropUnlanded (s : State) (reset : Bool) (id : Nat) : State :=
  if (s.atomsOf id).any (fun a => a.state == AtomState.reserved || a.state == AtomState.landing) ||
      (match s.write? id with | some w => decide (w.state = 0) || (reset && decide (w.state < 2)) | none => false) then s.discardWrite id else s

/-- The reads of atoms in progress have changed: CIP_SLOT_ST.USE of slots counts those that use them (R222), and no read waits that is gone. -/
def State.syncUse (s : State) (l : List Nat) : State :=
  let s := s.modEng (fun e => { e with waits := e.waits.filter (fun w => match w.what with | .read id => s.bob.jobs.any (fun j => j.id == id) | _ => true) })
  if s.fuses.caps.optE then s.each l (fun s k => s.setFld F.CIP_SLOT_ST_USE ((s.bob.jobs.filter (fun j => j.slots.contains k)).length) 0 k) else s

/-- A command of the host, and not the flush of a shut-down. -/
def HostCmd.isHosts (k : HostCmd) : Bool := match k.kind with | .shut _ => false | _ => true

/-- Commands of a queue or controller abandoned (R370), those whose completion still waits among them: no completion is posted; a write is discarded while any of its atoms is not
LANDED, by a reset while it is not complete; a namespace being deleted stays, detached (log 61). -/
def State.abandonCmds (s : State) (reset : Bool) (p : CmdId → Bool) : State :=
  let l := s.hq.cmds.filter (fun k => p k.id)
  let n := (l.filter HostCmd.isHosts).length + (s.hq.cpls.filter (fun c => p c.cmd)).length
  let s := s.modHq (fun h => { h with
    cmds := h.cmds.filter (fun k => !p k.id), cpls := h.cpls.filter (fun c => !p c.cmd), fwc := h.fwc.filter (fun e => !p e.cmd),
    deleting := h.deleting.filter (fun d => !(l.any (fun k => decide (k.kind = CmdKind.nsDelete d)))) })
  let slots := s.bob.jobs.flatMap (fun j => j.slots)
  let s := (s.modBob (fun b => { b with jobs := b.jobs.filter (fun j => match j.src with
    | .host c q i => !p ⟨c, q, i⟩ | .verify c q i => !p ⟨c, q, i⟩ | .rdma _ _ _ _ _ _ => true) })).syncUse slots
  (s.each l (fun s k => match k.kind with
    | .writes ids => s.each ids (fun s id => s.dropUnlanded reset id)
    | _ => s)).bump F.HQ_CNT_ABANDONED n

/-- A fabrics queue ends (R371): an I/O queue alone, the admin queue with its whole controller. -/
def State.endFabricsQueue (s : State) (ctl qid : Nat) : State :=
  let s := s.setEvt F.HQ_EVT_FAB_END
  if qid = 0 then
    let s := s.abandonCmds false (fun k => k.ctl == ctl)
    (s.modHq (fun h => { h with ctrls := h.ctrls.filter (fun c => c.id != ctl), attach := h.attach.filter (fun a => a.2 != ctl) })).syncHq
  else
    let s := s.abandonCmds false (fun k => k.ctl == ctl && k.sq == qid)
    (s.modCtrl ctl (fun c => { c with conns := c.conns.filter (fun q => q.2 != qid) })).syncHq

/-- The new commands of fabrics queues and twin connections that a motif has accepted in this stitch (R115). -/
def State.accepted (s : State) (m : Nat) : Nat := if s.net.freshAt = s.num then s.net.fresh.getD m 0 else 0

/-- A motif accepts another command in this stitch. -/
def State.mayAccept (s : State) (m : Nat) : Bool := decide (s.accepted m < 1024)

/-- A command accepted on a motif. -/
def State.accept (s : State) (m : Nat) : State :=
  let l := if s.net.freshAt = s.num then s.net.fresh else List.replicate 8 0
  let now := s.num
  s.modNet (fun n => { n with freshAt := now, fresh := setAt l m (l.getD m 0 + 1) })

/-- The fabrics queues that a connection carries, as controller and queue; a controller's `conns` are pairs of connection and queue. -/
def State.queuesOf (s : State) (conn : Nat) : List (Nat × Nat) :=
  s.hq.ctrls.flatMap (fun c => (c.conns.filter (fun q => q.1 == conn)).map (fun q => (c.id, q.2)))

/-- A connection's work flushed (R331): its outstanding requests and posted receives end with 0x4B05, its writes that are not complete are discarded, and its
fabrics queues end (R371). -/
def State.flushConn (s : State) (c : Conn) : State :=
  let id := c.id
  let s := if c.sent.isEmpty ∧ c.recv.isEmpty then s else s.emit (.rdmaErr id 0x4B05)
  let s := s.modConn id (fun c => { c with sent := [], recv := [], part := [], writes := [], early := [], rnr := none, hold := none })
  let s := s.modNet (fun n => { n with rnrWait := n.rnrWait.filter (fun w => w.1 != id), late := n.late.filter (fun p => p.1.hdr.conn != id) })
  let s := s.modPair (fun p => { p with answers := p.answers.filter (fun a => a.conn != id) })
  let mine := s.dp.writes.filter (fun w => match w.src with
    | .rdma k _ => k == id && decide (w.state < 2) | _ => false)
  let s := s.each mine (fun s w => s.discardWrite w.id)
  s.each (s.queuesOf id) (fun s q => s.endFabricsQueue q.1 q.2)

/-- The CONN record of a connection of a ground that is not twin-fed and is served here (R308). -/
def State.journalConn (s : State) (c : Conn) (what : Nat) : State :=
  if s.isTwin c.desc.ground ∨ ¬ s.owns c.desc.ground then s else s.journal c.desc.ground c.motif [.conn c.id c.desc what]

/-- A connection enters ERROR (R330, R331): the NAK that its cause calls for, RDM_ERR and RDM_EVT, and its work flushed. NAK 0 sends none. -/
def State.connError (s : State) (id nak status : Nat) : State :=
  match s.conn id with
  | none => s
  | some c =>
    if c.state = .error ∨ c.state = .timewait ∨ c.state = .free ∨ c.state = .shadow then s
    else
      let m := c.motif
      let s := if nak = 0 then s else s.emit (.nak id nak status)
      let s := ((s.setFld F.RDM_ERR_STATUS status m).setFld F.RDM_ERR_CONN_ID id m).setFld F.RDM_ERR_VALID 1 m
      let s := (s.setEvt F.RDM_EVT_CONN_ERR m).journalConn c 2
      (s.modConn id (fun c => { c with state := .error })).flushConn c

/-! ## Answers -/

/-- The OP_SEQ up to which a connection's requests can be acknowledged (R316): the last one placed, short of the first write that is not complete. -/
def Conn.ackable (c : Conn) : Nat := c.writes.foldl (fun a w => min a (w.1 - 1)) c.doneSeq

/-- The highest extended PSN that a connection has received. -/
def Conn.high (c : Conn) : Nat := c.marks.foldl max (c.epsn - 1)

/-- The MAP of a SACK (R324). -/
def Conn.sackMap (c : Conn) : Nat := (List.range 64).foldl (fun a i => if c.marks.contains (c.epsn + 1 + i) then a + 2 ^ i else a) 0

/-- An Acknowledge sent on a connection: with a SACK header in spray mode (R324). -/
def State.sendAck (s : State) (c : Conn) (resync : Bool) : State :=
  if c.desc.spray then s.emit (.sack c.id (c.acked % 2 ^ 24) (sackHeader (c.epsn % 2 ^ 24) (c.high % 2 ^ 24) c.sackMap resync)) else s.emit (.ack c.id (c.acked % 2 ^ 32) 0)

/-- A READ answered from a PSN on; in spray mode each of its packets goes on the next path and carries the placement header (R321, R322). -/
def State.readResponse (s : State) (id psn va rkey : Nat) (data : Bytes) : State :=
  let s := s.emit (.rdmaRead id psn data)
  match s.conn id with
  | none => s
  | some c =>
    if !c.desc.spray then s
    else s.each (List.range (max 1 (ceilDiv data.length c.pmtu))) (fun s i =>
      let path := ((s.conn id).map (fun c => c.openPaths.headD 0)).getD 0
      (s.modConn id (fun c => { c with nextPath := path + 1 })).emit
        (.sprayData id ((psn + i) % 2 ^ 24) path (placementHeader (va + c.pmtu * i) rkey (c.pmtu * i) ++ slice data (c.pmtu * i) c.pmtu)))

/-- An acknowledgement sent where it covers more than the last one (R316). -/
def State.ackConn (s : State) (id : Nat) : State :=
  match s.conn id with
  | none => s
  | some c =>
    if c.acked < c.ackable then (s.modConn id (fun c => { c with acked := c.ackable })).sendAck { c with acked := c.ackable } false else s

/-- A write that carries out a command is acknowledged: counted, and the command completes with its last one. -/
def State.doneWrite (s : State) (k : HostCmd) (w : Write) : State :=
  let rest := match k.kind with | .writes l => l.filter (fun x => x != w.id) | _ => []
  let s := s.modCtrl k.id.ctl (fun c => { c with unitsWritten := c.unitsWritten + (if w.dealloc then 0 else 8 * w.count) })
  if rest.isEmpty then (s.modCtrl k.id.ctl (fun c => { c with writes := c.writes + b2n (!w.dealloc) })).succeed k.id 0 []
  else s.modHq (fun h => { h with cmds := mapWhere (fun x => x.id == k.id) (fun x => { x with kind := .writes rest }) h.cmds })

/-- The command of a write is answered with a status word. -/
def State.answerCmd (s : State) (w : Write) (word : Nat) : State :=
  match s.cmdOfWrite w.id with
  | some k => if word = 0 then s.doneWrite k w else s.completeWith k.id 2 word w.ground []
  | none => s

/-- The source of a write is answered with a status word; 0 is success. -/
def State.answerWrite (s : State) (w : Write) (word : Nat) : State :=
  match w.src with
  | .rdma conn _ => if word = 0 then (s.modConn conn (fun c => { c with writes := c.writes.filter (fun x => x.2 != w.id) })).ackConn conn
    else s.connError conn 3 word
  | .internal => s
  | .host _ _ => s.answerCmd w word
  | .fabric _ _ _ _ => s.answerCmd w word

/-- A write fails whole (R147): discarded, and its source answered. -/
def State.failWrite (s : State) (id word : Nat) : State :=
  match s.write? id with
  | none => s
  | some w =>
    let s := s.discardWrite id
    s.answerWrite w word

/-- A write is acknowledged: UNACK released, its source answered; it leaves the list once no atom of it is left. -/
def State.ackWrite (s : State) (w : Write) : State :=
  let s := (s.releaseUnack w.cls w.count).modWrite w.id (fun x => { x with state := 3 })
  let s := s.modDp (fun d => { d with writes := d.writes.filter (fun x => x.id != w.id || d.atoms.any (fun a => a.writeId == w.id)) })
  (s.answerWrite w 0).syncAdmit

/-! ## Durability for Flush and FUA -/

/-- An atom is on flash (R164): in the staging journal, or in a chunk whose stripes are programmed; a chunk that needed no stripe counts once its map update is durable. -/
def State.atomOnFlash (s : State) (id atom : Nat) : Bool :=
  match s.dp.atoms.find? (fun a => a.writeId == id && a.atom == atom) with
  | none => true
  | some a => a.staged || (s.med.flushes.any (fun f => f.atoms.contains (id, atom) &&
      (match s.txn f.txn with | some t => if f.packs then t.sent else t.durable | none => true)))

/-- Writes with FUA and Flush commands that are now covered are answered (R164, R366). -/
def State.settleDurable (s : State) : State :=
  let fua := s.dp.writes.filter (fun w => decide (w.state = 2) && (s.atomsOf w.id).all (fun a => s.atomOnFlash w.id a.atom))
  let s := s.each fua State.ackWrite
  let covered := fun (l : List (Nat × Nat)) => l.all (fun p => s.atomOnFlash p.1 p.2)
  let fl := s.hq.cmds.filter (fun k => match k.kind with | .flush l => covered l | _ => false)
  let shut := s.hq.cmds.filter (fun k => match k.kind with | .shut l => covered l | _ => false)
  let s := s.modHq (fun h => { h with cmds := h.cmds.filter (fun k => !shut.contains k) })
  s.each fl (fun s k => s.succeed k.id 0 [])

/-- An atom whose staging a Flush command or a write with FUA asks for (R164, R366). -/
def State.stagingAsked (s : State) (id atom : Nat) : Bool :=
  (match s.write? id with | some w => w.fua && decide (w.state = 2) | none => false) ||
    s.hq.cmds.any (fun k => match k.kind with | .flush l => l.contains (id, atom) | .shut l => l.contains (id, atom) | _ => false)

/-! ## Completion -/

/-- A MIRROR frame of a motif by its MSEQ. -/
def isMirrorOf (m mseq : Nat) (p : BridePay) : Bool :=
  match p with
  | .mirror f => f.motif == m && f.mseq == mseq
  | .resync f => f.motif == m && f.mseq == mseq
  | _ => false

/-- ACKSEQ covers the frame: it is neither waiting nor unacknowledged on any group (R113, R147). -/
def State.frameAcked (s : State) (m mseq : Nat) : Bool :=
  decide (mseq ≠ 0) && !(s.pair.groups.any (fun g => g.unacked.any (fun f => isMirrorOf m mseq f.2) || g.waiting.any (isMirrorOf m mseq)))

/-- An atom meets the rule of R91 for the mode: mirrored, held twin-fed by the partner head, or in the staging journal. -/
def State.atomSafe (s : State) (w : Write) (a : BufAtom) : Bool :=
  if s.mode = 2 then a.staged
  else if s.mode = 1 ∨ s.mode = 3 then (if w.twin.isSome then w.gotHave else s.frameAcked a.motif a.mseq)
  else false

/-- Every earlier write on the same RDMA connection is complete (R147, R148), and in spray mode every earlier PSN has arrived, so that the write is visible (R132, R323); sequence
numbers compare in serial arithmetic (R310). -/
def State.orderOk (s : State) (w : Write) : Bool :=
  match w.src with
  | .rdma conn seq => (match s.conn conn with | some c => !c.desc.spray || decide (seq < c.epsn) | none => true) && s.dp.writes.all (fun x => match x.src with
    | .rdma c q => c != conn || decide (2 ≤ x.state) || x.id == w.id || decide ((seq + 2 ^ 32 - q) % 2 ^ 32 = 0) ||
        decide (2 ^ 31 ≤ (seq + 2 ^ 32 - q) % 2 ^ 32)
    | _ => true)
  | _ => true

/-- Every atom of an admitted write has landed and meets the rule of R91 for the mode. -/
def State.meetsRule (s : State) (w : Write) : Bool :=
  let l := s.atomsOf w.id
  decide (w.state = 1) && decide (0 < w.count) && decide (l.length = w.count) && l.all (fun a => a.state == AtomState.landed && s.atomSafe w a)

/-- A write can be completed now (R147): it meets the rule, or has met that of an earlier mode (R92), and no earlier write holds it. -/
def State.canComplete (s : State) (w : Write) : Bool := (s.meetsRule w || (decide (w.state = 1) && w.met)) && s.orderOk w

/-- The writes that meet the rule of their mode now need nothing more after a change of mode (R92). -/
def State.noteMet (s : State) : State :=
  s.modDp (fun d => { d with writes := mapWhere (fun w => !w.met && s.meetsRule w) (fun w => { w with met := true }) d.writes })

/-- WRITE_COMPLETE (R147): the atoms are COMPLETE and visible; the write is acknowledged, with FUA only once it is on flash. -/
def State.completeWrite (s : State) (w : Write) : State :=
  let s := s.modDp (fun d => { d with atoms := mapWhere (fun a => a.writeId == w.id) (fun a => { a with state := .complete, done := s.num }) d.atoms })
  let s := s.modWrite w.id (fun x => { x with state := 2 })
  if w.fua then s.settleDurable else s.ackWrite w

/-- Every write that can be completed now is, in arrival order; `fuel` bounds them. -/
def State.completeAll (s : State) : Nat → State
  | 0 => s
  | f + 1 => match s.dp.writes.find? s.canComplete with
    | none => s
    | some w => (s.completeWrite w).completeAll f

/-- The answers to atomics whose MIRROR frame the partner head has acknowledged go out (R117). -/
def State.releaseAnswers (s : State) : State :=
  let go := s.pair.answers.filter (fun a => s.frameAcked a.motif a.mseq)
  let s := s.modPair (fun p => { p with answers := p.answers.filter (fun a => !go.contains a) })
  s.each go (fun s a =>
    let s := s.modConn a.conn (fun c => { c with writes := c.writes.filter (fun w => w != (a.psn, 0)) })
    (s.emit (.rdmaAtomic a.conn (a.psn % 2 ^ 24) a.value)).modConn a.conn (fun c => { c with acked := max c.acked c.ackable }))

/-- An atom that is placed has landed: in Solo once it is in the staging journal, in the other modes at once (R147). -/
def State.landPlaced (s : State) : State :=
  let now := fun (a : BufAtom) => a.placed && a.state == AtomState.landing && (a.staged || decide (s.mode ≠ 2))
  s.modDp (fun d => { d with atoms := mapWhere now (fun a => { a with state := AtomState.landed }) d.atoms })

/-- Atoms landed, writes completed, atomics answered, and the flush registers brought in step. -/
def State.settleWrites (s : State) : State :=
  let s := s.landPlaced.noteMet
  (((s.completeAll s.dp.writes.length).settleDurable).releaseAnswers).syncFlush

/-! ## Vault areas -/

/-- READY_A, READY_B and NEXT of MED_VAULT_ST brought in step: which areas are erased, and where the next dump goes (log 67). -/
def State.syncVault (s : State) : State :=
  let a := s.med.vaultA.erased
  let b := s.med.vaultB.erased
  s.each s.motifs (fun s m =>
    ((s.setFld F.MED_VAULT_ST_READY_A (b2n a) m).setFld F.MED_VAULT_ST_READY_B (b2n b) m).setFld F.MED_VAULT_ST_NEXT (b2n (!a && b)) m)

/-- An area that R105 releases: each atom of it that is still in the buffer is in the staging journal or held by the partner head, and no ground of it is kept out
of service (R224). -/
def State.areaDone (s : State) (v : VaultArea) : Bool :=
  !v.erased && v.ents.all (fun e => decide (s.groundState e.ground ≠ 6) && s.dp.atoms.all (fun a => a.ns != e.nsid || a.atom != e.atom || a.staged || s.frameAcked a.motif a.mseq))

/-- An area erased; the number of its dump stays. -/
def VaultArea.release (v : VaultArea) : VaultArea := { VaultArea.blank with epoch := v.epoch }

/-- Areas released, and their blocks erased (R250), once the head is in service and R105 no longer keeps them (log 67). -/
def State.settleVault (s : State) : State :=
  if s.inService ∧ (s.areaDone s.med.vaultA ∨ s.areaDone s.med.vaultB) then
    let a := s.areaDone s.med.vaultA
    let b := s.areaDone s.med.vaultB
    (s.modMed (fun d => { d with
      vaultA := if a then d.vaultA.release else d.vaultA, vaultB := if b then d.vaultB.release else d.vaultB,
      stale := d.stale ++ (if a then d.vaultA.blocks else []) ++ (if b then d.vaultB.blocks else []) })).syncVault
  else s

/-! ## Landing -/

/-- The MIRROR frame of an atom of a write (R116). -/
def State.frameOf (s : State) (w : Write) (a : BufAtom) : MirrorFrame :=
  let l := (s.atomsOf w.id).map (fun x => x.atom)
  let conn := match w.src with | .rdma c _ => c | .fabric c _ _ _ => c | _ => 0xFFFFFFFF
  let seq := match w.src with | .rdma _ q => q % 2 ^ 32 | .fabric _ _ _ q => q | _ => 0
  let base := MirrorFrame.of a.motif a.ground
  let f := { base with first := decide (a.atom = l.foldl min a.atom), last := decide (a.atom = l.foldl max a.atom), pi := decide (a.guard ≠ 0) }
  let f := { f with dealloc := a.dealloc, host := decide (conn = 0xFFFFFFFF), nsid := a.ns, atom := a.atom, conn := conn, opSeq := seq }
  let ackSeq := match s.conn conn with | some c => c.acked % 2 ^ 32 | none => 0
  { f with atoms := w.count, writeId := w.id, data := a.data, appTag := a.appTag, guard := a.guard, ackSeq := ackSeq, mseq := a.mseq }

/-- MIRROR_SEND (R116): the MIRROR frame of a landed atom of a ground that is not twin-fed, while the head mirrors; a HAVE token of a twin-fed write goes
once the write is held whole. -/
def State.mirrorAtom (s : State) (w : Write) (a : BufAtom) : State :=
  if !s.mirrors || w.twin.isSome then s
  else
    let r := s.sendMirror (s.frameOf w a)
    r.1.modAtom w.id a.atom (fun x => { x with mseq := r.2 })

/-- A HAVE token for a twin-fed write that is held whole (R132). -/
def State.sendHave (s : State) (w : Write) : State :=
  match w.twin with
  | none => s
  | some (tc, ts) =>
    if (s.atomsOf w.id).length = w.count ∧ (s.atomsOf w.id).all (fun a => a.placed) then
      s.sendOn ((s.groupFor w.motif).getD w.motif) (.haves [⟨w.ground, tc, ts⟩])
    else s

/-- The salt of a namespace's key domain (R198, R225). -/
def State.saltOf (s : State) (n : Namespace) : Bytes := s.load (s.fld F.MTF_KD_BASE_BASE * 2 ^ 18 + 64 * n.domain) 32

/-- INGEST taps chunks of a class on a motif: TAP_EN is 1, and the route table names SHA-256 lanes as a tap (R33, R73, R199). -/
def State.tapsOn (s : State) (m cls : Nat) : Bool :=
  s.flag F.DIG_CTL_TAP_EN m && decide (s.instances m 0x04 (fun r => r.serves 1 cls && bit r.flags 0) ≠ 0)

/-- An atom enters the tap of its chunk (R199); with the last one the fingerprint of R198 is held with the chunk's index entry, and the context is freed. -/
def State.feedTap (s : State) (t : Tap) (atom : Nat) (data : Bytes) : State :=
  let parts := t.parts.filter (fun x => x.1 != atom) ++ [(atom, data)]
  if t.left ≤ 1 then
    let first := parts.foldl (fun a x => min a x.1) atom
    let msg := ((List.range parts.length).map (fun i => (getKey parts (first + i)).getD [])).flatten
    (s.modAtom t.writeId atom (fun a => { a with print := some (sha256 (t.salt ++ msg)) })).dropTaps (fun x => x == t)
  else (s.modEng (fun e => { e with taps := mapWhere (fun x => x == t) (fun x => { x with left := x.left - 1, parts := parts }) e.taps })).syncEng t.motif

/-- A digest tap follows an atom that completes LANDING (R150, R199): bound at the first atom of an aligned chunk that lies in one write, as far as its length is known; a tap
whose TAP_EN has been cleared ends without a result. The spec does not say what a cleared TAP_EN does to a tap that runs (DESIGN CHOICE, log 35). -/
def State.tapAtom (s : State) (w : Write) (n : Namespace) (atom : Nat) (data : Bytes) : State :=
  let c := s.chunkAtoms n.ground
  let first := atom / c * c
  let m := w.motif
  let mine := fun (t : Tap) => t.writeId == w.id && t.chunk == atom / c
  if ¬ s.tapsOn m w.cls then (if s.eng.taps.any mine then s.dropTaps mine else s)
  else if w.dealloc ∨ first < w.atom ∨ (w.count ≠ 0 ∧ w.atom + w.count < first + c) then s
  else
    match s.eng.taps.find? mine with
    | some t => s.feedTap t atom data
    | none =>
      if (s.atomsOf w.id).any (fun a => a.atom / c == atom / c && a.atom != atom && a.placed) then s
      else if s.boundOn .dig m 0 < 256 then
        let t : Tap := { motif := m, writeId := w.id, chunk := atom / c, left := c, salt := s.saltOf n, parts := [] }
        (s.modEng (fun e => { e with taps := e.taps ++ [t] })).feedTap t atom data
      else s.bump F.DIG_CNT_TAP_MISS 1 m

/-- The length of a write has become known: the taps of chunks that it does not fill end SHORT and are not used (R200). -/
def State.endTaps (s : State) (w : Write) (n : Namespace) (count : Nat) : State :=
  let c := s.chunkAtoms n.ground
  let short := fun (t : Tap) => t.writeId == w.id && decide (w.atom + count < (t.chunk + 1) * c)
  (s.bump F.DIG_CNT_SHORT ((s.eng.taps.filter short).length) w.motif).dropTaps short

/-- The protection information of an atom: guard, application tag and reference tag, high byte first (log 25). -/
def piOf (b : Bytes) : Nat × Nat × Nat := (beNat (slice b 0 8), beNat (slice b 8 2), beNat (slice b 10 6))

/-- The 16 bytes of protection information that go with an atom's data on a read (R166). -/
def piBytes (data : Bytes) (appTag atom : Nat) : Bytes := beBytes 8 (crc64 data) ++ beBytes 2 appTag ++ beBytes 6 atom

/-- An atom is placed whole (R147): it is mirrored, and has landed, in Solo once it is staged; the write completes where it can. -/
def State.landed (s : State) (w : Write) (atom : Nat) : State :=
  let s := s.modAtom w.id atom (fun a => { a with state := .landing, placed := true })
  let s := match s.dp.atoms.find? (fun a => a.writeId == w.id && a.atom == atom) with
    | some a => s.mirrorAtom w a
    | none => s
  (s.sendHave w).settleWrites

/-- An atom placed whole: its protection information is checked where the namespace has it, and it lands, or the whole write fails (R147). -/
def State.placeAtom (s : State) (id atom : Nat) (data pi : Bytes) : State :=
  match s.write? id with
  | none => s
  | some w =>
    match s.ns w.ns with
    | none => s.failWrite id 0x2D01
    | some n =>
      let g := piOf pi
      if n.pi ∧ g.1 ≠ crc64 data then s.failWrite id 0x5402
      else if n.pi ∧ g.2.2 ≠ atom % 2 ^ 48 then s.failWrite id 0x5403
      else
        let s := s.modAtom id atom (fun a => { a with data := data, guard := if n.pi then g.1 else 0, appTag := if n.pi then g.2.1 else 0 })
        (s.tapAtom w n atom data).landed w atom

/-- ATOM_LAND (R147): the 4,096 bytes of an atom of a host's or a fabrics write have come, with its protection information. The read of host memory that
brought them is over, also where its write has been discarded since. -/
def execAtomLand (writeId idx : Nat) (data pi : Bytes) (s : State) : Host.Outcome State Fault Refusal :=
  live s (fun s =>
    let here := fun (a : BufAtom) => a.writeId == writeId && a.atom == idx && !a.placed && (a.state == AtomState.reserved || a.state == AtomState.landing)
    if data.length = 4096 then
      let s := s.modEp (fun e => { e with reads := e.reads.filter (fun r => r.2 != HostReadWhy.atom writeId idx) })
      let s := s.modEp (fun e => { e with todo := e.todo.filter (fun r => r != HostReadWhy.atom writeId idx) })
      (if s.dp.atoms.any here then s.placeAtom writeId idx data pi else s).syncDrain.resumePf0
    else s)

/-! ## Admission -/

/-- The staging log's atoms of a ground, counted at admission (R248). -/
def State.stagingUse (s : State) (g : Nat) : Nat :=
  (s.dp.atoms.filter (fun a => a.ground == g && (a.staged || a.state == AtomState.reserved || a.state == AtomState.landing || a.state == AtomState.landed))).length

/-- A write may enter the staging log of its ground (R248): asked in Solo alone. -/
def State.stagingRoom (s : State) (w : Write) : Bool :=
  decide (s.mode ≠ 2) || decide (s.stagingUse w.ground + w.count ≤ s.fld F.MED_STG_CTL_LIMIT_MIB * 256) || decide (s.stagingUse w.ground = 0)

/-- The cap of R444 lets a write of a class in: in ENFORCED, classes 1 and 2 of a motif take at most ADMIT_ATOMS in a stitch, a larger write only first. -/
def State.capRoom (s : State) (w : Write) : Bool :=
  let used := s.therm.enfUsed.getD w.motif 0
  decide (s.fld F.THM_ST_LEVEL ≠ 3) || decide (w.cls = 0) || decide (3 ≤ w.cls) || decide (used + w.count ≤ max 1 (s.fld F.THM_ENF_ADMIT_ATOMS)) ||
    decide (used = 0)

/-- What an admission uses of the cap of R444: what is beyond it counts against the following stitches. -/
def State.useCap (s : State) (w : Write) : State :=
  if s.fld F.THM_ST_LEVEL = 3 ∧ (w.cls = 1 ∨ w.cls = 2) then
    let cap := max 1 (s.fld F.THM_ENF_ADMIT_ATOMS)
    let u := s.therm.enfUsed.getD w.motif 0 + w.count
    let s := s.modTherm (fun t => { t with enfUsed := setAt t.enfUsed w.motif (min u cap) })
    s.modTherm (fun t => { t with enfDebt := setAt t.enfDebt w.motif (t.enfDebt.getD w.motif 0 + (u - cap)) })
  else s

/-- A waiting write can be admitted (R144, R248, R444). -/
def State.canAdmit (s : State) (w : Write) : Bool := s.mayAdmit w.cls w.count && s.stagingRoom w && s.capRoom w

/-- UNACK and UNACK[c] charged for so many atoms of a class (R144); DIRTY follows as the slots are reserved. -/
def State.charge (s : State) (c n : Nat) : State :=
  s.modDp (fun d => { d with unack := d.unack + n, unackC := setAt d.unackC c (d.unackC.getD c 0 + n) })

/-- A buffer slot reserved for an atom of a write (R147). -/
def State.reserveAtom (s : State) (w : Write) (atom : Nat) : State :=
  let a : BufAtom :=
    { writeId := w.id, ns := w.ns, ground := w.ground, cls := w.cls, atom := atom, motif := w.motif, data := zeros 4096, guard := 0,
      appTag := 0, dealloc := w.dealloc, state := .reserved, placed := false, poison := false, mseq := 0, staged := false, done := 0, print := none }
  (s.modDp (fun d => { d with atoms := d.atoms ++ [a] })).recount

/-- A write admitted (R144, R147): charged, its slots reserved, and its data asked for; a deallocate has no data and lands at once (R163). -/
def State.admitWrite (s : State) (w : Write) : State :=
  let l := (List.range w.count).map (fun i => w.atom + i)
  let s := ((s.charge w.cls w.count).useCap w).modWrite w.id (fun x => { x with state := 1 })
  let s := s.each l (fun s a => s.reserveAtom w a)
  if w.dealloc then s.each l (fun s a => s.landed { w with state := 1 } a)
  else
    match w.src with
    | .host _ _ => s.readHost (l.map (fun a => HostReadWhy.atom w.id a))
    | .fabric conn _ _ _ => s.emit (.pull conn w.id w.count)
    | .rdma _ _ => s
    | .internal => s

/-- The waiting write that comes first: class order, then arrival order (R145). -/
def State.firstWaitingWrite (s : State) : Option Write :=
  (s.dp.writes.filter (fun w => w.state == 0)).foldl (fun (b : Option Write) w =>
    match b with
    | none => some w
    | some x => if w.cls < x.cls ∨ (w.cls = x.cls ∧ w.arrival < x.arrival) then some w else some x) none

/-- Waiting writes admitted in order until one cannot be; `fuel` bounds them. A write that waits for the staging log shows in MED_EVT (R248). -/
def State.admitAll (s : State) : Nat → State
  | 0 => s
  | f + 1 => match s.firstWaitingWrite with
    | none => s
    | some w =>
      if s.canAdmit w then (s.admitWrite w).admitAll f
      else if s.stagingRoom w then s else s.setEvt F.MED_EVT_STAGING_FULL

/-- Waiting writes admitted as far as they may be, and the admission registers brought in step. -/
def State.admitWaiting (s : State) : State := (s.admitAll s.dp.writes.length).syncAdmit

/-- A new write: it waits behind the earlier waiting writes of its class and of those before it, and is admitted as soon as it may be. -/
def State.submitWrite (s : State) (w : Write) : State :=
  let w := { w with id := s.dp.nextWrite, state := 0, arrival := s.dp.arrivals }
  (s.modDp (fun d => { d with writes := d.writes ++ [w], nextWrite := d.nextWrite + 1, arrivals := d.arrivals + 1 })).admitWaiting

/-- WAITING_WRITE_ADMIT (R145): counters or caps allow a waiting write. -/
def execWaitingWriteAdmit (s : State) : Host.Outcome State Fault Refusal := live s State.admitWaiting

end Sys2Proof.Machine
end

