-- ==== Sys2Proof/Machine/BobOps.lean ====
section
/-! DEFINITION. The head's side of the bobbin protocol (R277 to R298) that media management uses: modules and their roles, posting commands, what losing a
claim does to a ground (R119), the retirement of blocks (R245), the failure of modules (R267), capacity (R252). -/

namespace Sys2Proof.Machine

/-! ## Modules -/

/-- A module by its index (R277). -/
def State.module (s : State) (i : Nat) : Option Module := s.bob.modules.find? (fun m => m.idx == i)

/-- The state with a module changed. -/
def State.modModule (s : State) (i : Nat) (f : Module → Module) : State :=
  s.modBob (fun b => { b with modules := mapWhere (fun m => m.idx == i) f b.modules })

/-- ECU_MOD[i].ROLE: 0 ABSENT, 1 DATA, 2 SPARE, 3 FAILED (R258). -/
def State.role (s : State) (i : Nat) : Nat := s.fld F.ECU_MOD_ROLE 0 i

/-- ECU_MOD[i].FD. -/
def State.fdOf (s : State) (i : Nat) : Nat := s.fld F.ECU_MOD_FD 0 i

/-- A module has passed discovery, its link is up and it has not failed by itself: it serves queues. -/
def State.modReady (s : State) (i : Nat) : Bool :=
  match s.module i with
  | some m => m.en && m.ready && m.linkUp && !m.fatal
  | none => false

/-- A module can be sent commands for bands: it is ready and not FAILED (R268). -/
def State.modUsable (s : State) (i : Nat) : Bool := s.modReady i && decide (s.role i = 1 ∨ s.role i = 2)

/-- BOB_MOD_ST brought in step with a module. -/
def State.syncMod (s : State) (i : Nat) : State :=
  let m := i / 32
  let e := i % 32
  let s := s.setFld F.BOB_MOD_ST_OUTSTANDING ((s.bob.cmds.filter (fun c => c.mod == i)).length) m e
  let s := s.setFld F.BOB_MOD_ST_QUARANTINE (b2n (s.bob.quar.any (fun q => q.1.mod == i))) m e
  (s.setFld F.BOB_MOD_ST_MODULE i m e).setFld F.BOB_MOD_ST_READY (b2n (s.modReady i)) m e

/-- A module's role, domain and cause set in ECU_MOD and journaled as MODSTATE in every journal of its motif (R258, R260). -/
def State.setModState (s : State) (i : Nat) (r : ModState) : State :=
  let s := s.journalAll (i / 32 % 8) (.modState i r)
  let s := s.modMaps (fun m => { m with mods := Sparse.set default m.mods i r })
  ((s.setFld F.ECU_MOD_ROLE r.role 0 i).setFld F.ECU_MOD_FD r.fd 0 i).setFld F.ECU_MOD_CAUSE r.cause 0 i

/-- The data modules of the pool (R252), by index. -/
def State.dataModules (s : State) : List Module := s.bob.modules.filter (fun m => s.role m.idx == 1)

/-- Some band holds a member on a module (R258). -/
def State.holdsMembers (s : State) (i : Nat) : Bool :=
  s.med.maps.bands.any (fun b => decide (b.state ≠ 0) && b.members.any (fun x => x.module == i))

/-- What a block holds on a module: its pages in order from 0. -/
def Module.pagesOf (m : Module) (b : BlockId) : List Bytes := ((m.media.find? (fun p => p.1 == b)).map (fun p => p.2)).getD []

/-- The module with a block's pages set. -/
def Module.setPages (m : Module) (b : BlockId) (l : List Bytes) : Module :=
  { m with media := m.media.filter (fun p => p.1 != b) ++ (if l.isEmpty then [] else [(b, l)]) }

/-- The claim a module stores for a ground (R288). -/
def Module.claim (m : Module) (g : Nat) : Nat := Sparse.get 0 m.claims g

/-! ## Capacity -/

/-- The blocks of a module that its bitmap does not name bad. -/
def Module.goodBlocks (m : Module) : Nat := m.info.luns * m.info.blocks - m.info.bad.length

/-- Descriptors of a module's blocks that are listed, that is in some use or erased before. -/
def State.descsOf (s : State) (i : Nat) : List BlockDesc :=
  (s.med.maps.blocks.filter (fun p => p.1 / 262144 / 32 == i)).map (fun p => p.2)

/-- Data blocks of a module: those neither SPARE nor RETIRED. -/
def State.dataBlocks (s : State) (m : Module) : Nat :=
  m.info.luns * m.info.blocks - ((s.descsOf m.idx).filter (fun d => d.use == 2 || d.use == 8)).length

/-- Free data blocks of a module. -/
def State.freeBlocks (s : State) (m : Module) : Nat :=
  m.info.luns * m.info.blocks - ((s.descsOf m.idx).filter (fun d => d.use != 0)).length

/-- Blocks that a number of buffered atoms needs (R252), rounded up, at the pages per block of the first data module (log 42). -/
def State.blocksFor (s : State) (atoms : Nat) : Nat :=
  match s.dataModules with
  | m :: _ => ceilDiv (atoms * 4096) (m.info.pages * 16384)
  | [] => 0

/-- The blocks that both heads' DIRTY and HELD need: what the partner head holds is what this head mirrors to it, and the reverse (log 42). -/
def State.bufferBlocks (s : State) : Nat := s.blocksFor (s.dp.dirty + s.dp.held)

/-- SPARE_PCT of a module: what is left of the blocks reserved at first discovery. -/
def State.sparePct (s : State) (i : Nat) : Nat :=
  let resv := Sparse.get 0 s.bob.spares i
  if resv = 0 then 100 else 100 * ((s.descsOf i).filter (fun d => d.use == 2)).length / resv

/-- The capacity state after one look at the pool (R252): coded as MED_ST.CAP. -/
def State.capNext (s : State) (total free : Nat) : Nat :=
  let low := s.fld F.MED_GC_CTL_FREE_LOW_PCT
  let resv := s.fld F.MED_GC_CTL_GC_RESV_PCT
  match s.fld F.MED_ST_CAP with
  | 0 => if free * 100 < low * total then 1 else 0
  | 1 => if free * 100 ≤ resv * total + 100 * s.bufferBlocks then 2 else if (low + 2) * total ≤ free * 100 then 0 else 1
  | c => if (resv + s.fld F.MED_GC_CTL_WP_EXIT_PCT) * total ≤ free * 100 then 1 else c

/-- MED_ST of every motif brought in step with the pool and the bands, and CAPACITY_STATE_CHANGE (R252) with its events; the warnings follow. -/
def State.syncMedia (s : State) : State :=
  let mods := s.dataModules
  let total := (mods.map s.dataBlocks).foldl (· + ·) 0
  let free := (mods.map s.freeBlocks).foldl (· + ·) 0
  let old := s.fld F.MED_ST_CAP
  let cap := if total = 0 then old else s.capNext total free
  let spare := (mods.map (fun m => s.sparePct m.idx)).foldl min 100
  let wasLow := decide (s.fld F.MED_ST_SPARE_MIN_PCT < s.fld F.MED_MEDIA_CTL_SPARE_WARN_PCT)
  let s := s.each s.motifs (fun s m =>
    let s := (s.setFld F.MED_ST_CAP cap m).setFld F.MED_ST_FREE_PCT (if total = 0 then 0 else 100 * free / total) m
    let s := s.setFld F.MED_ST_SPARE_MIN_PCT (if mods.isEmpty then 0 else min spare 255) m
    let mine := s.med.maps.bands.filter (fun b => b.motif == m)
    let s := s.setFld F.MED_ST_OPEN_BANDS ((mine.filter (fun b => b.state == 1)).length) m
    s.setFld F.MED_ST_GC_ACTIVE ((mine.filter (fun b => decide (3 ≤ b.state))).length) m)
  let s := if old = 0 ∧ cap = 1 then s.setEvt F.MED_EVT_LOW else s
  let s := if old = 1 ∧ cap = 2 then s.setEvt F.MED_EVT_FULL else s
  let s := if !mods.isEmpty && !wasLow && decide (spare < s.fld F.MED_MEDIA_CTL_SPARE_WARN_PCT) then s.setEvt F.MED_EVT_SPARE_LOW else s
  s.syncWarn

/-! ## Losing a ground -/

/-- Unacknowledged work of a ground that is not twin-fed is abandoned (R119): commands through a queue complete with 0x1406, writes of connections are dropped for the taking head's
NAKs to recover. -/
def State.abandonGround (s : State) (g : Nat) : State :=
  if s.isTwin g then s else s.each (s.dp.writes.filter (fun w => w.ground == g && decide (w.state < 3))) (fun s w =>
    if w.state = 2 then (s.modWrite w.id (fun x => { x with state := 3 })).answerWrite w 0x1406
    else match w.src with
      | .host _ _ => s.failWrite w.id 0x1406
      | .fabric _ _ _ _ => s.failWrite w.id 0x1406
      | _ => s.discardWrite w.id)

/-- What is buffered of a ground that this head no longer owns is held for the owner, until a DROP entry covers it (R128). -/
def State.yieldAtoms (s : State) (g : Nat) : State :=
  let l := s.dp.atoms.filter (fun a => a.ground == g && !(s.isTwin g))
  let frames := l.filterMap (fun a => (s.write? a.writeId).map (fun w => (⟨s.frameOf w a, decide (2 ≤ w.state)⟩ : HeldAtom)))
  let s := s.modDp (fun d => { d with atoms := d.atoms.filter (fun a => !(a.ground == g) || s.isTwin g), copies := d.copies ++ frames })
  let s := s.modDp (fun d => { d with writes := d.writes.filter (fun w => w.ground != g || s.isTwin g) })
  s.recount

/-- A record of a map update that never went into a journal undone (R154): the reference of a hit is given back, new content is FREE again. -/
def Maps.undoRec (k : Maps) (r : JRec) : Maps :=
  match r with
  | .refs h d => if d = 1 then k.addRefs h (-1) else k
  | .ctab h _ => if (k.content h).state = 1 then { k with ctab := Sparse.erase k.ctab h } else k
  | _ => k

/-- Flushes, packing and relocations of a ground that are not in a journal are dropped: the owner does them again (R154, R237, R242). -/
def State.dropMediaWork (s : State) (g : Nat) : State :=
  let undone := (s.med.txns.filter (fun t => t.ground == g && !t.sent && (match t.fin with | .flush _ => true | .shipped => true | _ => false))).flatMap (fun t => t.recs)
  s.modMed (fun d =>
    { d with
      maps := undone.foldl Maps.undoRec d.maps
      txns := d.txns.filter (fun t => t.ground != g || t.sent)
      streams := d.streams.filter (fun x => x.ground != g)
      logs := mapWhere (fun l => l.ground == g) (fun l => { l with tail := [] }) d.logs
      pages := d.pages.filter (fun p => p.ground != g)
      ckpts := d.ckpts.filter (fun j => j.ground != g)
      rebuilds := d.rebuilds.filter (fun j => j.ground != g)
      stripes := d.stripes.filter (fun j => j.issued || (match d.maps.bands.find? (fun b => b.num == j.band) with | some b => b.ground != g | none => true))
      packed := d.packed.filter (fun x => x.ground != g)
      flushes := d.flushes.filter (fun f => match d.maps.namespaces.find? (fun n => n.id == f.nsid) with | some n => n.ground != g | none => true) })

/-- A connection becomes SHADOW (R309): its unacknowledged work is abandoned and its context kept. -/
def Conn.toShadow (c : Conn) : Conn :=
  { c with state := .shadow, held := c.doneSeq % 2 ^ 32, sent := [], recv := [], part := [], early := [], writes := [], marks := [], lasts := [], rnr := none, hold := none }

/-- The connections of a ground that is handed over or FENCED become SHADOW; their packets in the miss queue and those held are dropped.
Those of twin-fed grounds stay. -/
def State.shadowConns (s : State) (g : Nat) : State :=
  let goes := fun (c : Conn) => decide (c.desc.ground = g) && !(s.isTwin g) && (c.state == ConnState.rts || c.state == ConnState.error || c.state == ConnState.resync)
  let ids := (s.net.conns.filter goes).map (fun c => c.id)
  (s.modPair (fun p => { p with answers := p.answers.filter (fun a => !ids.contains a.conn) })).modNet (fun n => { n with
    conns := mapWhere goes Conn.toShadow n.conns,
    missq := n.missq.filter (fun p => !ids.contains p.pkt.hdr.conn),
    held := n.held.filter (fun p => !ids.contains p.1.hdr.conn), late := n.late.filter (fun p => !ids.contains p.1.hdr.conn),
    rnrWait := n.rnrWait.filter (fun w => !ids.contains w.1) })

/-- The fabrics controllers of a ground that is not twin-fed go on at the head that takes it (R360, R371): they leave this one without an answer. -/
def State.dropFabrics (s : State) (g : Nat) : State :=
  if s.isTwin g then s
  else
    let ids := (s.hq.ctrls.filter (fun c => c.fabrics && c.ground == g)).map (fun c => c.id)
    if ids.isEmpty then s
    else (s.modHq (fun h => { h with
      ctrls := h.ctrls.filter (fun c => !ids.contains c.id), cmds := h.cmds.filter (fun c => !ids.contains c.id.ctl), fwc := h.fwc.filter (fun e => !ids.contains e.cmd.ctl),
      cpls := h.cpls.filter (fun c => !ids.contains c.cmd.ctl), attach := h.attach.filter (fun a => !ids.contains a.2) })).syncHq

/-- The targets of a ground leave with it: a staging view is discarded, and the epoch in progress goes on at the head that takes the ground (R356). -/
def State.leaveTargets (s : State) (g : Nat) : State :=
  let l := (s.rpl.targets.filter (fun x => s.med.maps.namespaces.any (fun n => n.id == s.fld F.RPL_TGT_CTL_NSID 0 x.1 && n.ground == g))).map (fun x => x.1)
  (s.modRpl (fun r => { r with targets := r.targets.filter (fun x => !l.contains x.1) })).each l (fun s t => s.setFld F.RPL_TGT_ST_STATE 0 0 t)

/-- The ground leaves this head for a state (R119). -/
def State.leaveGround (s : State) (g st : Nat) : State :=
  let s := (((s.abandonGround g).setGroundState g st).shadowConns g).dropFabrics g
  (((s.dropMediaWork g).yieldAtoms g).leaveTargets g).syncAdmit.syncFlush

/-- CLAIM_STALE_RESPONSE (R119, R123): a command or keep-alive of a ground drew CLAIM_STALE from a module; an owner stops serving the ground. -/
def State.claimStale (s : State) (g i : Nat) : State :=
  let s := ((s.bump F.CLM_STALE_COUNT).setFld F.CLM_STALE_MODULE i).setFld F.CLM_STALE_GROUND g
  let s := s.setEvt F.CLM_EVT_STALE
  if s.groundState g = 1 then s.leaveGround g (if s.upGroups.isEmpty then 5 else 2) else s

/-! ## Posting -/

/-- A write to a register or slot of a module's BAR0 (R280). The modules are reached in Vault too, when the links to the outside are off (R251). -/
def State.bar (s : State) (i ofs : Nat) (b : Bytes) : State := if s.mode = 4 then s.out (.barWrite i ofs b) else s.emit (.barWrite i ofs b)

/-- BOB_CTL.QDEPTH_LOG2 as it acts (R281): 8 for values outside 8 to 12. -/
def State.depthLog2 (s : State) (m : Nat) : Nat :=
  let d := s.fld F.BOB_CTL_QDEPTH_LOG2 m
  if 8 ≤ d ∧ d ≤ 12 then d else 8

/-- A DRAM address of a motif, 4 KiB aligned, by a number the spec leaves open (log 81). -/
def pageOf (motif n : Nat) : Nat := dramBase motif + 4096 * (n % 2 ^ 27)

/-- A module whose queues are as EN at 0 leaves them (R294). -/
def Module.freshQueues (m : Module) : Module :=
  { m with posted := [0, 0, 0, 0, 0], tails := [0, 0, 0, 0, 0], freed := [0, 0, 0, 0, 0], heads := [0, 0, 0, 0, 0], qen := false, sizeLog2 := 0 }

/-- Queues 0 to 4 of a module configured and enabled (R280, R281, R297 step 2), each of the depth that BOB_CTL gives, and of no more than the module's largest (log 81). -/
def State.setQueues (s : State) (i : Nat) : State :=
  match s.module i with
  | none => s
  | some m =>
    let d := min (s.depthLog2 (i / 32)) (max 8 m.info.maxQdLog2)
    let s := s.modModule i (fun m => { m.freshQueues with qen := true, sizeLog2 := d })
    s.each (List.range 5) (fun s q => (s.bar i (0x100 + 0x10 * q) (leBytes 8 (pageOf (i / 32) (Config.bobQueue (8 * i + q))))).bar i (0x108 + 0x10 * q) (leBytes 4 (d + 2 ^ 31)))

/-- The depth of a module's queues. -/
def Module.depth (m : Module) : Nat := 2 ^ m.sizeLog2

/-- Opcodes of queues 1 to 4 (R281). -/
def isMediaOp (o : Nat) : Bool := o == 0x10 || o == 0x11 || o == 0x12

/-- A queue of a module has a free slot (R282): one whose command a completion reported as passed, and one slot stays empty. -/
def State.slotFree (s : State) (i q : Nat) : Bool :=
  match s.module i with
  | some m => m.qen && decide (m.posted.getD q 0 + 1 < m.freed.getD q 0 + m.depth)
  | none => false

/-- The limit of outstanding commands on a queue of a module: QD_LIMIT on queues 1 to 4 (R281), where 0 acts as 1; on queue 0 the slots alone. -/
def State.underLimit (s : State) (i q : Nat) : Bool :=
  decide (q = 0) || decide ((s.bob.cmds.filter (fun x => x.mod == i && x.qid == q)).length < max 1 (s.fld F.BOB_CTL_QD_LIMIT (i / 32)))

/-- A command's identifier is in use on a queue of a module: outstanding or quarantined (R284, R293). -/
def State.cidUsed (s : State) (i q cid : Nat) : Bool :=
  s.bob.cmds.any (fun c => c.mod == i && c.qid == q && c.cid == cid) || s.bob.quar.any (fun c => c.1.mod == i && c.1.qid == q && c.1.cid == cid)

/-- Commands that go under the ground and claim of the lowest-numbered owned ground (R291). -/
def anyGround (w : BobWhy) : Bool :=
  match w with
  | .eraseFree => true
  | .reinstate => true
  | .feature => true
  | .resetLun => true
  | _ => false

/-- A command may be posted now: its queue has room, no CLAIM_SET that raises its ground is outstanding on the module (R126), and where it needs a ground of
this head the head owns one (R281, R291). -/
def State.mayPost (s : State) (c : BobCmd) : Bool :=
  !(isMediaOp c.opcode && s.bob.cmds.any (fun x => x.mod == c.mod && x.ground == c.ground && decide (x.why = BobWhy.claimRaise))) && s.slotFree c.mod c.qid && s.underLimit c.mod c.qid &&
    (!(anyGround c.why) || !(s.ownedGrounds.isEmpty))

/-- The command with its ground and claim: R291's for commands outside bands, the claim it was given for a read of Winding (R497), the ground's present claim for the others. -/
def State.withClaim (s : State) (c : BobCmd) : BobCmd :=
  if anyGround c.why then
    let g := s.ownedGrounds.headD 0
    { c with ground := g, claim := s.claimOf g }
  else if c.opcode = 0x01 ∨ c.opcode = 0x02 ∨ c.opcode = 0x21 ∨ c.opcode = 0x30 ∨ c.why = BobWhy.scan then c
  else { c with claim := s.claimOf c.ground }

/-- The opcodes with data at DPTR (R285). -/
def hasData (c : BobCmd) : Bool :=
  c.opcode == 0x01 || c.opcode == 0x02 || c.opcode == 0x10 || c.opcode == 0x11 || (c.opcode == 0x21 && c.flags == 1) || c.opcode == 0x30

/-- A command posted (R282): its 64 bytes go into the next slot of its queue, then the new SQ_TAIL is written. -/
def State.postCmd (s : State) (c : BobCmd) : State :=
  let n := ((List.range 65536).find? (fun n => !(s.cidUsed c.mod c.qid ((s.bob.nextCid + n) % 65536)))).getD 0
  let cid := (s.bob.nextCid + n) % 65536
  let posted := (s.module c.mod).elim 0 (fun m => m.posted.getD c.qid 0)
  let depth := (s.module c.mod).elim 1 Module.depth
  let dptr := if hasData c then pageOf (c.mod / 32) (Config.bobBuffer (65536 * (8 * c.mod + c.qid) + cid)) else 0
  let c := { s.withClaim c with cid := cid, slot := posted, dptr := dptr, since := s.num }
  let s := s.modBob (fun b => { b with cmds := b.cmds ++ [c], nextCid := (c.cid + 1) % 65536 })
  let s := s.modModule c.mod (fun m => { m with posted := setAt m.posted c.qid (posted + 1) })
  ((s.bar c.mod (0x10000 + 0x40000 * c.qid + 64 * (posted % depth)) c.bytes).bar c.mod (0x1000 + 8 * c.qid) (leBytes 4 ((posted + 1) % depth))).syncMod c.mod

/-- The held commands that may now go are posted, in order; `fuel` bounds them. -/
def State.releaseHeld (s : State) : Nat → State
  | 0 => s
  | f + 1 =>
    match s.bob.heldCmds.find? (fun c => s.mayPost c && s.modReady c.mod) with
    | none => s
    | some c => ((s.modBob (fun b => { b with heldCmds := b.heldCmds.erase c })).postCmd c).releaseHeld f

/-- A command is internally completed because its module is FAILED or not ready (R268): a program fails its stripe, an erase on a FAILED module counts as
done with, one on a module that is away waits for it. -/
def State.notIssued (s : State) (c : BobCmd) : State :=
  match c.why with
  | .program b st => s.modMed (fun d => { d with stripes := mapWhere (fun j => j.band == b && j.stripe == st) (fun j => { j with failed := true, close := true, left := j.left - 1 }) d.stripes })
  | .erase b =>
    if s.role c.mod = 3 then s.modMaps (fun m => { m with bands := mapWhere (fun x => x.num == b) (fun x => { x with erased := x.erased + 1 }) m.bands })
    else s.modBob (fun k => { k with heldCmds := k.heldCmds ++ [c] })
  | .eraseFree => s.modBob (fun k => { k with heldCmds := k.heldCmds ++ [c] })
  | .rebuild n => s.modMed (fun d => { d with
      stale := d.stale ++ (d.rebuilds.filter (fun j => j.band == n)).flatMap (fun j => j.repl.map (fun r => r.2)), rebuilds := d.rebuilds.filter (fun j => j.band != n) })
  | .staging q _ => s.modMed (fun d => { d with staging := mapWhere (fun e => e.seq == q) (fun e => { e with obsolete := true }) d.staging })
  | .page id copy => s.modMed (fun d => { d with pages := mapWhere (fun p => p.id == id) (fun p => { p with copies := p.copies.filter (fun x => x.1 != copy) }) d.pages })
  | _ => s

/-- A command sent to a module: posted, held, or completed internally (R268, R281, R291). The erases of a reinstatement and discovery reach a FAILED module. -/
def State.sendCmd (s : State) (c : BobCmd) : State :=
  let excepted := decide (c.why = BobWhy.reinstate ∨ c.why = BobWhy.identify ∨ c.why = BobWhy.geometry ∨ c.why = BobWhy.claimAll)
  if s.role c.mod = 3 ∧ ¬ excepted then s.notIssued c
  else if !s.modReady c.mod then s.notIssued c
  else (s.modBob (fun b => { b with heldCmds := b.heldCmds ++ [c] })).releaseHeld 1

/-- A command's queue: 0 for the administrative opcodes, its class + 1 for the media opcodes (R281). -/
def queueOf (opcode cls : Nat) : Nat := if isMediaOp opcode then cls + 1 else 0

/-- A blank command to a module. -/
def BobCmd.to (i opcode cls ground : Nat) (why : BobWhy) : BobCmd :=
  { mod := i, qid := queueOf opcode cls, cid := 0, opcode := opcode, flags := 0, ground := ground, lun := 0, count := 0, retry := 0, claim := 0, block := 0,
    page := 0, arg := 0, data := [], why := why, again := false, slot := 0, dptr := 0, rsvd := 0, since := 0 }

/-- A command on a block. -/
def BobCmd.onBlock (opcode cls ground : Nat) (b : BlockId) (why : BobWhy) : BobCmd :=
  { BobCmd.to b.module opcode cls ground why with lun := b.lun, block := b.block }

/-- PROGRAM_PAGES of consecutive pages (R285). -/
def BobCmd.program (cls ground : Nat) (b : BlockId) (page : Nat) (data : Bytes) (why : BobWhy) : BobCmd :=
  { BobCmd.onBlock 0x11 cls ground b why with page := page, count := ceilDiv data.length 16384, data := data }

/-! ## Blocks -/

/-- The head may take blocks and units of a parity (R232, R496): its own, and in Solo with cause 1, 5 or 6 the other too. -/
def State.mayTake (s : State) (idx : Nat) : Bool :=
  decide (idx % 2 = s.headId) || (decide (s.mode = 2) &&
    (let c := s.fld F.PKG_MODE_SOLO_CAUSE; decide (c = 1) || decide (c = 5) || decide (c = 6)))

/-- The descriptor of a block, RETIRED where its module names it bad. -/
def State.descOf (s : State) (b : BlockId) : BlockDesc := s.med.maps.block b

/-- The blocks of a module whose first erase has not completed (R234). -/
def State.unerased (s : State) (i : Nat) : List BlockId :=
  ((s.bob.cmds ++ s.bob.heldCmds).filter (fun c => decide (c.mod = i) && decide (c.why = BobWhy.eraseFree))).map (fun c => (⟨i, c.lun, c.block⟩ : BlockId))

/-- The erased blocks of a LUN in a use that the head may take. -/
def State.takeable (s : State) (m : Module) (use lun : Nat) : List BlockId :=
  let dirty := s.unerased m.idx
  ((List.range m.info.blocks).map (fun b => (⟨m.idx, lun, b⟩ : BlockId))).filter (fun b =>
    s.mayTake b.block && decide ((s.descOf b).use = use) && !(dirty.contains b))

/-- The block that R244 takes on a module: of the FREE blocks the head may take, one of the least-used LUN with the lowest ERASES; the least-used LUN is the
one with the most of them (log 43). -/
def State.chooseBlock (s : State) (m : Module) (use : Nat) : Option BlockId :=
  let luns := (List.range m.info.luns).map (fun l => s.takeable m use l)
  let best := luns.foldl (fun (a : List BlockId) l => if a.length < l.length then l else a) []
  best.foldl (fun (a : Option BlockId) b => match a with
    | none => some b
    | some x => if (s.descOf b).erases < (s.descOf x).erases then some b else some x) none

/-- The FREE blocks of a module that the head may take. -/
def State.takeableCount (s : State) (m : Module) : Nat := ((List.range m.info.luns).map (fun l => (s.takeable m 0 l).length)).foldl (· + ·) 0

/-- A band queued for refresh (R243); one in collection is not queued again. -/
def State.queueRefresh (s : State) (band : Nat) : State :=
  match s.med.maps.band band with
  | none => s
  | some b =>
    if 3 ≤ b.state ∨ b.refresh then s
    else (s.modMaps (fun m => m.putBand { b with refresh := true })).setEvt F.MED_EVT_REFRESH b.motif

/-- A read of a page counted in its block (R243): the band is queued for refresh where the scaled limit is reached. -/
def State.countRead (s : State) (b : BlockId) : State :=
  let d := s.descOf b
  let d := { d with reads := satAdd 0xFFFFFFFF d.reads 1 }
  let s := s.modMaps (fun m => m.setBlock b d)
  match s.module b.module with
  | none => s
  | some m => if m.info.rdLimit * s.fld F.MED_MEDIA_CTL_RD_PCT (b.module / 32) ≤ d.reads * 100 then s.queueRefresh d.band else s

/-- Every stream page of a member strip programmed with zero filler, so that a replacement block is programmed in page order (R271; log 44). -/
def State.fillBlock (s : State) (g : Nat) (b : BlockId) (stripes : Nat) : State :=
  s.each (List.range stripes) (fun s i => s.sendCmd (BobCmd.program 3 g b (4 * i) (zeros 65536) .system))

/-- BLOCK_RETIRE (R245): a block is RETIRED, and replaced in its band by a SPARE block of its module, or by a FREE one where no SPARE is left; the stripes programmed before are
read from it still, and the band is queued for refresh. A band that is being erased goes without. -/
def State.retireBlock (s : State) (b : BlockId) : State :=
  let d := s.descOf b
  if d.use = 8 then s
  else
    let motif := b.module / 32
    let s := s.journal d.ground (motif % 8) [.block b { d with use := 8 }]
    let s := s.setEvt F.MED_EVT_RETIRED motif
    match s.med.maps.bands.find? (fun x => decide (x.state ≠ 0) && x.members.contains b), s.module b.module with
    | some x, some m =>
      match (match s.chooseBlock m 2 with | some r => some r | none => s.chooseBlock m 0) with
      | none => (s.queueRefresh x.num).syncMedia
      | some r =>
        if 5 ≤ x.state then s.syncMedia
        else
          let pos := (x.members.findIdx? (fun y => y == b)).getD 0
          let nb := { x with members := setAt x.members pos r, olds := x.olds ++ [(pos, if x.state = 1 then x.next else x.stripes, b)] }
          let s := s.journal x.ground x.motif [.block r { s.descOf r with use := 1, band := x.num, ground := x.ground }, .band nb]
          let s := if x.state = 1 then s.fillBlock x.ground r x.next else s
          (s.queueRefresh x.num).syncMedia
    | _, _ => s.syncMedia

/-! ## Member failure -/

/-- A command with BOB_ERR and LAST_STATUS (R298): a status other than success; BOB_ERR is not for CLAIM_STALE. -/
def State.noteCmdError (s : State) (c : BobCmd) (status : Nat) : State :=
  let m := c.mod / 32
  let s := s.setFld F.BOB_MOD_ST_LAST_STATUS status m (c.mod % 32)
  if status = 0x2304 then s
  else
    let s := ((s.setFld F.BOB_ERR_STATUS status m).setFld F.BOB_ERR_MODULE c.mod m).setFld F.BOB_ERR_OPCODE c.opcode m
    (s.setFld F.BOB_ERR_QID c.qid m).setFld F.BOB_ERR_VALID 1 m

/-- A program of a stripe has ended (R261): whether it failed, and whether the failure closes the band. -/
def State.endProgram (s : State) (band stripe : Nat) (failed close : Bool) : State :=
  let f := fun (j : StripeJob) => { j with failed := j.failed || failed, close := j.close || close, left := j.left - 1 }
  s.modMed (fun d => { d with stripes := mapWhere (fun j => j.band == band && j.stripe == stripe) f d.stripes })

/-- REBUILD_DONE (R273): no band holds a member on a failed module any more. -/
def State.rebuildDone (s : State) (i : Nat) : State :=
  if s.role i = 3 ∧ ¬ s.holdsMembers i then
    (s.setEvt F.ECU_EVT_REBUILD_DONE (i / 32)).sample 0x000A (bytesOf [i] ++ zeros 7 ++ leBytes 8 s.num)
  else s

/-! ## Claims -/

/-- The claim of a ground by the partner head's last CLAIM entry. -/
def State.theirClaim (s : State) (g : Nat) : Nat :=
  (s.pair.theirs.findSome? (fun e => match e with | .claim x c => if x = g then some c else none | _ => none)).getD 0

/-- CLM_GROUND.STATE of a ground at the partner head by its last GROUND entry. -/
def State.theirState (s : State) (g : Nat) : Nat :=
  (s.pair.theirs.findSome? (fun e => match e with | .ground x st _ => if x = g then some st else none | _ => none)).getD 0

/-- CLM_CLAIM[g] set. -/
def State.setClaimOf (s : State) (g c : Nat) : State :=
  (((s.setFld F.CLM_CLAIM_EPOCH (c / 256) 0 g).setFld F.CLM_CLAIM_HEAD (c % 256) 0 g).tvWrote 2 g).sramWroteAt 0 0x42 0 none g

/-- CLAIM_SET with a ground's claim to every module that can be reached (R126, R288). -/
def State.sendClaims (s : State) (g : Nat) (again : Bool) : State :=
  s.each (s.bob.modules.map (fun m => m.idx)) (fun s i =>
    let c := { BobCmd.to i 0x20 0 g .claimRaise with claim := s.claimOf g, again := again }
    if s.modUsable i then (s.emit (.claimSet i g (s.claimOf g) false)).sendCmd c else s)

/-- CLAIM_RAISE (R124): one epoch above the highest known, under the own head ID; recorded in the sampler (R122). -/
def State.raiseNumber (s : State) (g known : Nat) : State :=
  let c := (known / 256 + 1) % 2 ^ 56 * 256 + s.headId
  (s.setClaimOf g c).sample 0x0008 (bytesOf [g] ++ zeros 7 ++ leBytes 8 c)

/-- A claim raised and sent to the modules. -/
def State.raiseAbove (s : State) (g known : Nat) (again : Bool) : State := (s.raiseNumber g known).sendClaims g again

/-- The highest claim of a ground known without asking: the own one and the partner head's CLAIM entry. -/
def State.knownClaim (s : State) (g : Nat) : Nat := max (s.claimOf g) (s.theirClaim g)

/-- The highest claim of a ground that CLAIM_GET finds on a module. -/
def State.moduleClaim (s : State) (g : Nat) : Nat := (s.bob.modules.filter (fun m => m.ready && m.linkUp)).foldl (fun a m => max a (m.claim g)) 0

/-- A raise that a module refuses (R124): raised once more above the claim it returned; a second refusal fences the ground. -/
def State.raiseRefused (s : State) (c : BobCmd) (stored : Nat) : State :=
  if c.claim ≠ s.claimOf c.ground then s
  else if c.again then s.leaveGround c.ground 5
  else (s.setEvt F.CLM_EVT_RAISE_RETRY).raiseAbove c.ground (max stored (s.knownClaim c.ground)) true

end Sys2Proof.Machine
end

