-- ==== Sys2Proof/Machine/ReadPath.lean ====
section
/-! DEFINITION. The read path (R166 to R169): pages of flash and their reconstruction (R264 to R266), the checks of a record, and reads of atoms from start to
answer. -/

namespace Sys2Proof.Machine

/-! ## Pages and rows -/

/-- The block that holds a member position of a stripe: the member, or the retired block that still holds it (R245). -/
def Band.blockAt (b : Band) (stripe pos : Nat) : BlockId :=
  match b.olds.find? (fun o => o.1 == pos && decide (stripe < o.2.1)) with
  | some o => o.2.2
  | none => b.members.getD pos default

/-- A stripe was programmed with success: issued, and not torn (R262). -/
def Band.programmed (b : Band) (stripe : Nat) : Bool := decide (stripe < b.done) && !(b.torn.contains stripe)

/-- The surroundings say that a page fails (R265); the answer is whether by a missing completion. -/
def badPage (bad : BadPages) (b : BlockId) (page : Nat) : Option Bool :=
  bad.findSome? (fun x => match x with | .page k p timeout => if k = b ∧ p = page then some timeout else none | _ => none)

/-- The bytes of a page read for a body carry an uncorrectable DRAM error (R406), as they come or in the packing buffer. -/
def State.badBody (s : State) (bad : BadPages) (pages : List Nat) : Bool :=
  bad.any (fun x => match x with | .body p => pages.contains p | _ => false) || pages.any (fun p => s.med.spoiled.contains p && decide ((s.med.maps.media p).state = 1))

/-- A module rejects the head's claim of a ground (R123). -/
def State.staleAt (s : State) (g i : Nat) : Bool :=
  match s.module i with
  | some m => s.modUsable i && decide (m.claim g ≠ s.claimOf g)
  | none => false

/-- A page of a member: its bytes, or none where the member is lost for the row (R265). -/
def State.memberPage (s : State) (bad : BadPages) (b : BlockId) (page : Nat) : Option Bytes :=
  if !s.modUsable b.module || (badPage bad b page).isSome then none
  else match s.module b.module with
    | some m => (m.pagesOf b)[page]?
    | none => none

/-- The member blocks of a stripe by code member. -/
def Band.stripeBlocks (b : Band) (stripe : Nat) : List (Nat × BlockId) :=
  (List.range (b.k + b.m)).map (fun e => (e, b.blockAt stripe (positionOf (b.k + b.m) stripe e)))

/-- The code members of a row that are good, with their pages. -/
def State.goodMembers (s : State) (b : Band) (stripe row : Nat) (bad : BadPages) : List (Nat × Bytes) :=
  (b.stripeBlocks stripe).filterMap (fun p => (s.memberPage bad p.2 (4 * stripe + row)).map (fun d => (p.1, d)))

/-- The code members of a row that are lost. -/
def State.lostMembers (s : State) (b : Band) (stripe row : Nat) (bad : BadPages) : List Nat :=
  ((b.stripeBlocks stripe).filter (fun p => (s.memberPage bad p.2 (4 * stripe + row)).isNone)).map (fun p => p.1)

/-- ROW_RECONSTRUCT (R265): the data pages of a row, or 0x2304 where a module rejects the claim, 0x1906, or 0x3901. -/
def State.decodeAt (s : State) (b : Band) (stripe row : Nat) (bad : BadPages) : Except Nat (List Bytes) :=
  let blocks := b.stripeBlocks stripe
  let lost := s.lostMembers b stripe row bad
  if blocks.any (fun p => s.staleAt b.ground p.2.module) then .error 0x2304
  else if lost.length ≤ b.m then .ok (decodeRow b.k (s.goodMembers b stripe row bad))
  else if blocks.any (fun p => badPage bad p.2 (4 * stripe + row) == some true) then .error 0x1906
  else .error 0x3901

/-- The band, and the place in it, of a stream page. -/
def Maps.bandOf (m : Maps) (p : Nat) : Option (Band × Nat) :=
  m.bands.findSome? (fun b => if b.state = 0 then none else (b.indexOf p).map (fun i => (b, i)))

/-- The pages of members of a row counted as read (R243). -/
def State.countRow (s : State) (b : Band) (stripe : Nat) (l : List Nat) : State :=
  s.each ((b.stripeBlocks stripe).filter (fun p => l.contains p.1)) (fun s p => s.countRead p.2)

/-- The members of a row that a reconstruction reads: as many good ones as there are data members. -/
def State.decodedFrom (s : State) (b : Band) (stripe row : Nat) (bad : BadPages) : List Nat := ((s.goodMembers b stripe row bad).map (fun p => p.1)).take b.k

/-- An event of R257 or R265 shown in ECU_ST of a motif. -/
def State.ecuStatus (s : State) (m status : Nat) : State := s.setFld F.ECU_ST_STATUS status m

/-- All four atoms of a chunk, or its one, as POISON bits (R153). -/
def poisonAll (e : CEntry) : Nat := if e.chunk4k then 1 else 15

/-- ROW_LOST (R266): one transaction makes the lost data pages LOST and poisons every record with a sector in them; the band is queued for refresh. -/
def State.rowLost (s : State) (b : Band) (stripe row : Nat) (lost : List Nat) : State :=
  let pages := (lost.filter (fun e => decide (e < b.k))).map (fun e => b.pageAt (4 * b.k * stripe + 4 * e + row))
  let marks := pages.map (fun p => JRec.mmap p { s.med.maps.media p with state := 3 })
  let hit := s.med.maps.ctab.filter (fun c => c.2.state == 2 && handleGround c.1 == b.ground && c.2.pages.any (fun p => pages.contains p))
  let s := s.journal b.ground b.motif (marks ++ hit.map (fun c => JRec.move c.1 c.2.addr (poisonAll c.2)))
  let s := (s.queueRefresh b.num).setEvt F.ECU_EVT_ROW_LOST b.motif
  let s := (s.bump F.ECU_CNT1_ROWS_LOST 1 b.motif).sampleUe 3 b.motif 0 0 b.num
  (s.modMed (fun d => { d with rowsLost := d.rowsLost + 1 })).syncWarn

/-- What a DECODE that finds no context of an erasure unit free answers (R263). -/
def ecuWaits : Nat := 0x10001

/-- A page whose member is lost, from the rest of its row (R265), by a DECODE job (R263): the page, or 0x1406, 0x1906 or 0x3404. A lost row is handled under R266. -/
def State.rebuildPage (s : State) (p : Nat) (bad : BadPages) : State × Except Nat Bytes :=
  match s.med.maps.bandOf p with
  | none => (s, .error 0x3404)
  | some (b, i) =>
    let at_ := b.place i
    if s.freeUnits .ecu b.motif (fun _ => true) = [] then (s, .error ecuWaits)
    else
    let s := (s.holdContext .ecu b.motif 3 (fun _ => true)).1
    match s.decodeAt b at_.1 at_.2.2 bad with
    | .ok l => ((s.countRow b at_.1 (s.decodedFrom b at_.1 at_.2.2 bad)).bump F.ECU_CNT1_RECON 1 b.motif, .ok (l.getD at_.2.1 []))
    | .error w =>
      if w = 0x2304 then (s.claimStale b.ground ((b.stripeBlocks at_.1).findSome? (fun x => if s.staleAt b.ground x.2.module then some x.2.module else none) |>.getD 0), .error 0x1406)
      else if w = 0x1906 then (s.ecuStatus b.motif w, .error w)
      else ((s.ecuStatus b.motif w).rowLost b at_.1 at_.2.2 (s.lostMembers b at_.1 at_.2.2 bad), .error 0x3404)

/-- A PACKING stream page in the packing buffer (R166): of a stripe whose programs run, or of the stripe being gathered, zero beyond what is gathered. -/
def State.packingPage (s : State) (p : Nat) : Option Bytes :=
  if (s.med.maps.media p).state ≠ 1 then none
  else
    (s.med.maps.bandOf p).bind (fun x =>
      let st := x.2 / (4 * x.1.k)
      let cut := fun (d : Bytes) => (slice d (x.2 % (4 * x.1.k) * 16384) 16384 ++ zeros 16384).take 16384
      match s.med.stripes.find? (fun j => j.band == x.1.num && j.stripe == st) with
      | some j => some (cut j.data)
      | none => if x.1.next = st then (s.med.streams.find? (fun y => y.band == x.1.num)).map (fun y => cut y.fill) else none)

/-- Where a stream page lies: as the media map says, and for a PACKING page whose stripe is programmed where its band has it. -/
def State.placeOf (s : State) (p : Nat) : MEntry :=
  let e := s.med.maps.media p
  if e.state ≠ 1 then e
  else match s.med.maps.bandOf p with
    | some (b, i) => if b.programmed (b.place i).1 then b.entryAt i else e
    | none => e

/-- A page read at once, for work of the head's own: its bytes, or 0x1406, 0x1906 or 0x3404 (R265, R266). -/
def State.readPage (s : State) (p : Nat) (bad : BadPages) : State × Except Nat Bytes :=
  let e := s.placeOf p
  match s.packingPage p with
  | some d => (s, .ok d)
  | none =>
  if e.state ≠ 2 then (s, .error 0x3404)
  else
    let blk : BlockId := ⟨e.module, e.lun, e.block⟩
    if s.staleAt e.ground e.module then (s.claimStale e.ground e.module, .error 0x1406)
    else
      match s.memberPage bad blk e.page with
      | some d => (s.countRead blk, .ok d)
      | none => s.rebuildPage p bad

/-! ## Records -/

/-- The chunk's length in bytes. -/
def CEntry.rawLen (e : CEntry) : Nat := if e.chunk4k then 4096 else 16384

/-- The bytes of a record in its stream pages. -/
def CEntry.cut (e : CEntry) (pages : List Bytes) : Bytes := slice pages.flatten (e.addr % 64 * 256) e.len

/-- A record's checks (R166), for a request that holds its slot or not: the tag before any plaintext is used, then the decompression; the chunk, or the status of the check that fails. -/
def State.checkRecord (s : State) (m : Nat) (held : Bool) (e : CEntry) (r : Bytes) : State × Except Nat Bytes :=
  let body := slice r 48 (leAt r 0x14 2)
  let o := if e.enc then s.openUp m e.slot held (slice r 8 12) (r.take 0x18) body (slice r 0x18 16) else (s, .ok body)
  match o with
  | (s, .error w) => (s, .error w)
  | (s, .ok b) =>
    match decompressBody b e.rawLen with
    | .ok x => (s.bump F.MTF_DCMP_CNT_CHUNKS 1 m, .ok x)
    | .error w => (s.dcmpFail m w, .error w)

/-- Pages read one after another; the first failure ends it. -/
def State.readPages (s : State) (bad : BadPages) : List Nat → State × Except Nat (List Bytes)
  | [] => (s, .ok [])
  | p :: t =>
    match s.readPage p bad with
    | (s, .error w) => (s, .error w)
    | (s, .ok d) =>
      match s.readPages bad t with
      | (s, .error w) => (s, .error w)
      | (s, .ok l) => (s, .ok (d :: l))

/-- Pages reconstructed from parity one after another (R167). -/
def State.rebuildPages (s : State) (bad : BadPages) : List Nat → State × Except Nat (List Bytes)
  | [] => (s, .ok [])
  | p :: t =>
    let e := s.placeOf p
    match s.rebuildPage p (bad ++ [.page ⟨e.module, e.lun, e.block⟩ e.page false]) with
    | (s, .error w) => (s, .error w)
    | (s, .ok d) =>
      match s.rebuildPages bad t with
      | (s, .error w) => (s, .error w)
      | (s, .ok l) => (s, .ok (d :: l))

/-- A failing record is refreshed (R167, R243): its bands are queued for refresh (log 45). -/
def State.refreshRecord (s : State) (e : CEntry) : State :=
  s.each e.pages (fun s p => match s.med.maps.bandOf p with | some (b, _) => s.queueRefresh b.num | none => s)

/-- The status words of record checks that R167 reconstructs for. -/
def isCheckFail (w : Nat) : Bool := w == 0x5701 || (decide (0x5501 ≤ w) && decide (w ≤ 0x5505))

/-- Status words after which content is there still, and the work that met them can be done later; the others say that it cannot be had (R167, R229, R265). -/
def isPassing (w : Nat) : Bool := !(w == 0x3404 || w == 0x5405 || isCheckFail w)

/-- A record checked, and where a check fails its pages reconstructed once and checked again; passing then, it is relocated as a refresh (R167). The record and
the chunk. An uncorrectable DRAM error in what was read ends it with 0x5405 (R189). -/
def State.checkOrRebuild (s : State) (m : Nat) (held : Bool) (e : CEntry) (bad : BadPages) (r : Bytes) : State × Except Nat (Bytes × Bytes) :=
  if s.badBody bad e.pages then (s.dcmpFail m 0x5405, .error 0x5405)
  else
    match s.checkRecord m held e r with
    | (s, .ok x) => (s, .ok (r, x))
    | (s, .error w) =>
      if !isCheckFail w then (s, .error w)
      else
        match s.rebuildPages bad e.pages with
        | (s, .error _) => (s, .error w)
        | (s, .ok l) =>
          let r := e.cut l
          match s.checkRecord m held e r with
          | (s, .ok x) => (s.refreshRecord e, .ok (r, x))
          | (s, .error v) => (s, .error v)

/-- The record and chunk of content, read at once. -/
def State.readRecord (s : State) (m : Nat) (e : CEntry) (bad : BadPages) : State × Except Nat (Bytes × Bytes) :=
  match s.readPages bad e.pages with
  | (s, .error w) => (s, .error w)
  | (s, .ok l) => s.checkOrRebuild m false e bad (e.cut l)

/-! ## Errors of the data path -/

/-- The last integrity or media error of a read or flush on a motif (R159, R167), with its event. -/
def State.dpError (s : State) (m status ground nsid : Nat) : State :=
  let s := ((s.setFld F.MTF_DP_ERR_STATUS status m).setFld F.MTF_DP_ERR_GROUND ground m).setFld F.MTF_DP_ERR_NSID (nsid % 4096) m
  (s.setFld F.MTF_DP_ERR_VALID 1 m).setEvt F.PKG_DP_EVT_INTEGRITY

/-! ## Reads of atoms -/

/-- The newest COMPLETE write of an atom in the buffer (R149, R166). DESIGN CHOICE (log 76): of two that became COMPLETE in one stitch it is the one reserved later; the spec
names no order of theirs. -/
def State.buffered (s : State) (ns atom : Nat) : Option BufAtom :=
  (s.dp.atoms.filter (fun a => a.ns == ns && a.atom == atom && (a.state == AtomState.complete || a.state == AtomState.flushing))).foldl
    (fun (b : Option BufAtom) a => match b with
      | none => some a
      | some x => if x.done ≤ a.done then some a else some x) none

/-- What an atom is read from (R166): the buffer, zeros, or content. A poisoned atom fails with 0x3404, one with an uncorrectable DRAM error with 0x5405, and one whose key slot
is not LOADED with 0x2703 (R229). -/
def State.partOf (s : State) (n : Namespace) (atom : Nat) : ReadPart :=
  let zero : ReadPart := { atom := atom, sub := 0, content := none, data := zeros 4096, appTag := 0, fail := 0 }
  let fromMap :=
    let c := s.chunkOf n atom
    let sub := atom - c * s.chunkAtoms n.ground
    let e := s.med.maps.entry n.viewId c
    if e.handle = 0 then { zero with appTag := e.tags.getD sub 0 }
    else
      let k := s.med.maps.content e.handle
      { zero with
        sub := sub, content := some k, appTag := e.tags.getD sub 0,
        fail := if bit k.poison sub then 0x3404 else if k.enc && !s.slotLoaded k.slot then 0x2703 else 0 }
  match n.view, s.buffered n.id atom with
  | none, some a => if a.dealloc then zero else { zero with data := a.data, appTag := a.appTag, fail := if a.poison then 0x5405 else 0 }
  | _, _ => fromMap

/-- The stream pages that parts of a read need. -/
def pagesNeeded (l : List ReadPart) : List Nat :=
  (l.flatMap (fun p => match p.content with | some e => if p.fail = 0 then e.pages else [] | none => [])).eraseDups

/-- Bodies already opened and decompressed, each with what came of it. -/
abbrev Bodies := List (CEntry × Except Nat Bytes)

/-- The chunk of a record once its pages are there, opened and decompressed once for all its atoms. -/
def State.bodyOf (s : State) (m : Nat) (bad : BadPages) (got : List (Nat × Bytes)) (seen : Bodies) (e : CEntry) : State × Except Nat Bytes :=
  match seen.find? (fun x => x.1 == e) with
  | some x => (s, x.2)
  | none =>
    match s.checkOrRebuild m true e bad (e.cut (e.pages.map (fun q => (getKey got q).getD []))) with
    | (s, .ok x) => (s, .ok x.2)
    | (s, .error w) => (s, .error w)

/-- The data of a part once its pages are there, or the status word that the read completes with. -/
def State.partData (s : State) (m : Nat) (bad : BadPages) (got : List (Nat × Bytes)) (seen : Bodies) (p : ReadPart) : State × Bodies × Except Nat Bytes :=
  if p.fail ≠ 0 then (s, seen, .error p.fail)
  else
    match p.content with
    | none => (s, seen, .ok p.data)
    | some e =>
      let r := s.bodyOf m bad got seen e
      (r.1, seen ++ [(e, r.2)], r.2.map (fun x => slice x (4096 * p.sub) 4096))

/-- The parts of a read put together: the data of each, and the first status word that is not success. -/
def State.gather (s : State) (m : Nat) (bad : BadPages) (got : List (Nat × Bytes)) (seen : Bodies) : List ReadPart → State × Nat × List (ReadPart × Bytes)
  | [] => (s, 0, [])
  | p :: t =>
    let r := s.partData m bad got seen p
    let d := match r.2.2 with | .ok b => b | .error _ => zeros 4096
    let w := match r.2.2 with | .ok _ => 0 | .error w => w
    let q := r.1.gather m bad got r.2.1 t
    (q.1, (if w = 0 then q.2.1 else w), (p, d) :: q.2.2)

/-- The bytes that a read sends: the data, with regenerated protection information where the namespace has it (R166), after each block in the
extended layout and after all blocks else (log 46). -/
def readBytes (n : Namespace) (l : List (ReadPart × Bytes)) : Bytes :=
  let pi := fun (x : ReadPart × Bytes) => if n.pi then piBytes x.2 x.1.appTag x.1.atom else []
  if n.ext then l.flatMap (fun x => x.2 ++ pi x) else l.flatMap (fun x => x.2) ++ l.flatMap pi

/-- The namespace as a read's source sees it: a region carries protection information interleaved after each atom (R314). -/
def Namespace.seenBy (n : Namespace) (j : ReadJob) : Namespace :=
  match j.src with
  | .rdma _ _ _ _ _ _ => { n with ext := true }
  | _ => n

/-- A read's source is answered: a status word and the data. -/
def State.answerRead (s : State) (j : ReadJob) (n : Namespace) (word : Nat) (data : Bytes) : State :=
  match j.src with
  | .host ctl sq cid =>
    if word = 0 then
      let s := s.modCtrl ctl (fun c => { c with reads := c.reads + 1, unitsRead := c.unitsRead + 8 * j.count })
      s.succeed ⟨ctl, sq, cid⟩ 0 data
    else s.completeWith ⟨ctl, sq, cid⟩ 1 word n.ground (if word = 0x1406 ∨ word = 0x1906 ∨ word = 0x2703 then [] else data)
  | .verify ctl sq cid => if word = 0 then s.succeed ⟨ctl, sq, cid⟩ 0 [] else s.completeWith ⟨ctl, sq, cid⟩ 1 word n.ground []
  | .rdma conn psn ofs len va rkey => if word = 0 then s.readResponse conn psn va rkey (slice data ofs len) else s.connError conn 3 word

/-- A read leaves the list: its key slots are in use by one read less (R222). -/
def State.dropRead (s : State) (j : ReadJob) : State := (s.modBob (fun b => { b with jobs := b.jobs.filter (fun x => x.id != j.id) })).syncUse j.slots

/-- A read in the list, its slots in use. -/
def State.keepRead (s : State) (j : ReadJob) : State :=
  (s.modBob (fun b => { b with jobs := b.jobs.filter (fun x => x.id != j.id) ++ [j] })).syncUse j.slots

/-- Contexts held for so many bodies of a read, as far as any are free (R186). -/
def State.holdBodies (s : State) (m cls n : Nat) : State := (List.range n).foldl (fun s _ => (s.holdContext .dcmp m cls (fun _ => true)).1) s

/-- A read whose pages are all there: checked, and answered (R166, R167). It waits while no decompressor context is free for its bodies (R187) or no lane can open them (R214). -/
def State.finishRead (s : State) (j : ReadJob) (bad : BadPages) : State :=
  match s.ns j.nsid with
  | none => s.dropRead j
  | some n =>
    let m := s.homeMotif (s.chunkOf n j.atom)
    let bodies := j.bodies.eraseDups.length
    if bodies ≠ 0 ∧ s.freeUnits .dcmp m (fun _ => true) = [] then (s.keepRead j).waitOn .dcmp m j.cls (.read j.id)
    else
      let r := s.gather m bad j.got [] j.parts
      if r.2.1 = cipWaits then (r.1.keepRead j).waitOn .cip m j.cls (.read j.id)
      else
        let s := (r.1.holdBodies m j.cls bodies).dropRead j
        let s := if r.2.1 = 0 then s else if r.2.1 = 0x2703 then s.slotEmpty m else s.dpError m r.2.1 n.ground n.id
        s.answerRead j n r.2.1 (readBytes (n.seenBy j) r.2.2)

/-- A read ends with a status word before its pages are there. -/
def State.failRead (s : State) (j : ReadJob) (word : Nat) : State :=
  let s := s.dropRead j
  match s.ns j.nsid with
  | none => s
  | some n =>
    let s := if word = 0x3404 then s.dpError (s.homeMotif (s.chunkOf n j.atom)) word n.ground n.id else s
    s.answerRead j n word (readBytes (n.seenBy j) (j.parts.map (fun p => (p, zeros 4096))))

/-- A read job by its number. -/
def State.job (s : State) (id : Nat) : Option ReadJob := s.bob.jobs.find? (fun j => j.id == id)

/-- A page of a read has come; with the last one the read is finished. -/
def State.gotPage (s : State) (id page : Nat) (data : Bytes) (bad : BadPages) : State :=
  match s.job id with
  | none => s
  | some j =>
    let j := { j with pages := j.pages.filter (fun p => p != page), got := putKey j.got page data }
    if j.pages.isEmpty then s.finishRead j bad
    else s.modBob (fun b => { b with jobs := mapWhere (fun x => x.id == id) (fun _ => j) b.jobs })

/-- A page of a read whose member is lost is reconstructed (R265), or the read ends; it waits while no erasure unit has a context (R263). -/
def State.reconstructFor (s : State) (id page : Nat) (bad : BadPages) : State :=
  match s.rebuildPage page bad, s.job id with
  | (s, .ok d), _ => s.gotPage id page d bad
  | (s, .error w), some j => if w = ecuWaits then s.waitOn .ecu (match s.med.maps.bandOf page with | some x => x.1.motif | none => 0) j.cls (.decode id page) else s.failRead j w
  | (s, .error _), none => s

/-- READ_PAGE issued for a page of a read (R264), or its reconstruction where the member is lost at once; a PACKING page comes from the packing buffer, a LOST page ends the
read. -/
def State.fetchPage (s : State) (id page cls : Nat) (bad : BadPages) : State :=
  match s.job id with
  | none => s
  | some j =>
    let e := s.placeOf page
    let blk : BlockId := ⟨e.module, e.lun, e.block⟩
    match s.packingPage page with
    | some d => s.gotPage id page d bad
    | none =>
      if e.state ≠ 2 then s.failRead j 0x3404
      else if s.modUsable e.module then
        (s.countRead blk).sendCmd
          { BobCmd.onBlock 0x10 cls e.ground blk (.read id page) with page := e.page, count := 1, retry := b2n e.retried }
      else s.reconstructFor id page bad

/-- A read of atoms starts (R166): answered at once where no page of flash is needed, else a job waits for its pages. -/
def State.startRead (s : State) (src : ReadSrc) (n : Namespace) (atom count cls : Nat) (bad : BadPages) : State :=
  let parts := (List.range count).map (fun i => s.partOf n (atom + i))
  let pages := pagesNeeded parts
  let j : ReadJob :=
    { id := s.bob.nextJob, src := src, nsid := n.id, cls := cls, atom := atom, count := count, parts := parts, pages := pages, got := [] }
  let s := s.modBob (fun b => { b with nextJob := b.nextJob + 1 })
  if pages.isEmpty then s.finishRead j bad
  else (s.keepRead j).each pages (fun s p => s.fetchPage j.id p cls bad)

end Sys2Proof.Machine
end

