-- ==== Sys2Proof/Machine/ReplMsg.lean ====
section
/-! DEFINITION. Replication messages (R355): their bytes, sealing and opening, and the fields of a target. -/

namespace Sys2Proof.Machine

/-- A target's state beside its registers; one that nothing was kept for counts down from EVERY. -/
def State.target (s : State) (t : Nat) : Target := Sparse.get default s.rpl.targets t

/-- The state with a target changed. -/
def State.modTarget (s : State) (t : Nat) (f : Target → Target) : State :=
  s.modRpl (fun r => { r with targets := Sparse.set default r.targets t (f (Sparse.get default r.targets t)) })

/-- Replication works on packages with option X (R357), for an enabled target. -/
def State.targetOn (s : State) (t : Nat) (receive : Bool) : Bool :=
  s.fuses.caps.optX && decide (t < 64) && s.flag F.RPL_TGT_CTL_EN 0 t && (s.flag F.RPL_TGT_CTL_ROLE 0 t == receive)

/-- A host write to a receiving namespace is refused (R349). -/
def State.isReceiver (s : State) (nsid : Nat) : Bool := (List.range 64).any (fun t => s.targetOn t true && decide (s.fld F.RPL_TGT_CTL_NSID 0 t = nsid))

/-- The connection belongs to a replication target (R349). -/
def State.isReplConn (s : State) (id : Nat) : Bool :=
  (List.range 64).any (fun t => s.flag F.RPL_TGT_CTL_EN 0 t && decide (s.fld F.RPL_TGT_CONN_CONN_ID 0 t = id))

/-- The class of a connection: 3 for a replication target's, whatever its descriptor says (R349). -/
def State.connClass (s : State) (c : Conn) : Nat := if s.isReplConn c.id then 3 else c.desc.cls

/-- The connection of a target. -/
def State.targetConn (s : State) (t : Nat) : Option Conn := s.conn (s.fld F.RPL_TGT_CONN_CONN_ID 0 t)

/-- The 32-byte header of a message (R355). -/
def replHeader (type count len epoch : Nat) (nonce : Bytes) : Bytes :=
  bytesOf [type, 1] ++ leBytes 2 count ++ leBytes 4 len ++ leBytes 8 epoch ++ nonce ++ zeros 4

/-- The status word of a target's last error. -/
def State.targetStatus (s : State) (t status : Nat) : State := s.setFld F.RPL_TGT_ST_STATUS status 0 t

/-- The messages of a target that wait to be sent, in order: each is sealed under the target's session slot and sent as one SEND (R355); one that finds no lane waits (R214). -/
def State.flushRepl (s : State) (t : Nat) : Nat → State
  | 0 => s
  | f + 1 =>
    match (s.target t).unsent, s.targetConn t with
    | [], _ => s
    | _, none => s.modTarget t (fun x => { x with unsent := [] })
    | (type, count, epoch, body) :: _, some c =>
      let hd := replHeader type count body.length epoch
      match s.sealUp c.motif (s.fld F.RPL_TGT_CTL_KEY_SLOT 0 t) hd body with
      | (s, .error w) =>
        if w = cipWaits then s.waitOn .cip c.motif 3 (.message t)
        else ((s.targetStatus t w).modTarget t (fun x => { x with unsent := x.unsent.drop 1 })).flushRepl t f
      | (s, .ok x) => ((s.sendMsg c.id (hd x.nonce ++ x.text ++ x.tag)).modTarget t (fun x => { x with unsent := x.unsent.drop 1 })).flushRepl t f

/-- A message of a target, sent behind those that wait. -/
def State.sendRepl (s : State) (t type count epoch : Nat) (body : Bytes) : State :=
  (s.modTarget t (fun x => { x with unsent := x.unsent ++ [(type, count, epoch, body)] })).flushRepl t ((s.target t).unsent.length + 1)

/-- A message taken from the receive queue: its count, epoch and opened body. -/
structure ReplMsg where
  count : Nat
  epoch : Nat
  body : Bytes
  deriving DecidableEq, Repr, Inhabited

/-- The first message of a target's connection, where it is of a type. -/
def State.replHead (s : State) (t type : Nat) : Option Bytes :=
  match s.targetConn t with
  | none => none
  | some c => match c.recv.head? with
    | some m => if byteAt m.2 0 = type then some m.2 else none
    | none => none

/-- The first message leaves the receive queue. -/
def State.replPop (s : State) (t : Nat) : State :=
  s.modConn (s.fld F.RPL_TGT_CONN_CONN_ID 0 t) (fun c => { c with recv := c.recv.drop 1, taken := c.taken + 1 })

/-- A message of a type is taken and opened, and something is done with it; one whose session tag fails is discarded and counted, and at the receiver its
connection goes to ERROR (R355, log 60). One that cannot be opened for want of a lane or a key stays in the queue (R214, R229). -/
def State.onRepl (s : State) (t type : Nat) (receive : Bool) (f : State → ReplMsg → State) : State :=
  if !s.targetOn t receive then s
  else
    match s.replHead t type with
    | none => s
    | some m =>
      let id := s.fld F.RPL_TGT_CONN_CONN_ID 0 t
      let mo := match s.conn id with | some c => c.motif | none => 0
      let len := leAt m 4 4
      match s.openUp mo (s.fld F.RPL_TGT_CTL_KEY_SLOT 0 t) false (slice m 0x10 12) (m.take 32) (slice m 32 len) (slice m (32 + len) 16) with
      | (s, .ok b) => f (s.replPop t) ⟨leAt m 2 2, leAt m 8 8, b⟩
      | (s, .error w) =>
        if w = 0x5701 then
          let s := (s.replPop t).targetStatus t 0x5C07
          if receive then s.connError id 0 0x5C07 else s
        else if w = cipWaits then s
        else if w = 0x2703 then s.targetStatus t w
        else (s.replPop t).targetStatus t w

end Sys2Proof.Machine
end

