-- ==== Sys2Proof/Machine/SysLog.lean ====
section
/-! DEFINITION. System pages (R246): where they go, the metadata journal on flash (R239), the checkpoint and its roots (R239), the system pages that Winding
reads and the root that it chooses (R240, R497). -/

namespace Sys2Proof.Machine

/-! ## Choosing modules -/

/-- Insertion by a strict order, for small selections. -/
def insertBy (lt : α → α → Bool) (x : α) : List α → List α
  | [] => [x]
  | y :: t => if lt x y then x :: y :: t else y :: insertBy lt x t

/-- A list sorted by a strict order. -/
def sortBy (lt : α → α → Bool) (l : List α) : List α := l.foldl (fun a x => insertBy lt x a) []

/-- The modules that qualify for a new band (R257): DATA, usable, with a FREE block; most FREE blocks first, the lower index on ties. -/
def State.qualified (s : State) : List Module :=
  let l := s.dataModules.filter (fun m => s.modUsable m.idx && decide (0 < s.takeableCount m))
  sortBy (fun a b => decide (s.takeableCount b < s.takeableCount a) ||
    (decide (s.takeableCount a = s.takeableCount b) && decide (a.idx < b.idx))) l

/-- Modules taken in order with at most `cap` of one failure domain. -/
def State.takeWithin (s : State) (cap n : Nat) (l : List Module) : List Module :=
  (l.foldl (fun (a : List Module) m =>
    if a.length < n ∧ (a.filter (fun x => s.fdOf x.idx == s.fdOf m.idx)).length < cap then a ++ [m] else a) [])

/-! ## The bytes of a system page -/

/-- A system page (R246): its header with the CRC over the rest, and its data from offset 0x40. -/
def systemPage (kind count head copy ground motif claim seq stitch epoch : Nat) (data : Bytes) : Bytes :=
  let hd := leBytes 4 0x50534A46 ++ bytesOf [kind, count, head, copy, ground, motif] ++ zeros 6 ++ leBytes 8 claim ++ leBytes 8 seq ++ leBytes 8 stitch ++
    leBytes 8 epoch ++ zeros 12
  let body := data ++ zeros (16384 - 64 - data.length)
  hd ++ leBytes 4 (crc32c (hd ++ body)) ++ body

/-- A page read from a system block (R246): its header, or none where MAGIC or CRC is wrong, which makes it unwritten. -/
def parsePage (b : Bytes) : Option PageInfo :=
  if b.length = 16384 ∧ leAt b 0 4 = 0x50534A46 ∧ leAt b 0x3C 4 = crc32c (b.take 0x3C ++ b.drop 0x40) then
    some { kind := byteAt b 4, count := byteAt b 5, head := byteAt b 6 % 2, copy := byteAt b 7 % 4, ground := byteAt b 8, motif := byteAt b 9 % 8,
           claim := leAt b 0x10 8, seq := leAt b 0x18 8, stitch := leAt b 0x20 8, epoch := leAt b 0x28 8, data := slice b 0x40 12 }
  else none

/-- The data bytes of a page of KIND 6 or 7. -/
def pageRoom : Nat := 16320

/-! ## Where a system page goes -/

/-- A change to the maps in DRAM and to the checkpoint alike: what discovery finds of blocks, and the VAULT blocks of a dump, outlive the recovery that follows (R234; log 49). -/
def State.bothMaps (s : State) (f : Maps → Maps) : State := s.modMed (fun d => { d with maps := f d.maps, ckpt := f d.ckpt })

/-- The use of the block that holds a page of a KIND (R234, R246). -/
def blockUse (kind : Nat) : Nat := if kind = 1 then 3 else if kind ≤ 5 then 4 else kind - 1

/-- The blocks of a module that take pages of a use and ground, with the next page of each, the one written last at the end. -/
def State.sysBlocks (s : State) (use g : Nat) (m : Module) : List (BlockId × Nat) :=
  s.med.sysNext.filter (fun p => p.1.module == m.idx && (s.descOf p.1).use == use && (s.descOf p.1).ground == g)

/-- The next page of a system block set; the block is the one written last. -/
def State.setNext (s : State) (b : BlockId) (n : Nat) : State := s.modMed (fun d => { d with sysNext := d.sysNext.filter (fun p => p.1 != b) ++ [(b, n)] })

/-- The block of a use and ground that the next page of a module goes to: the one with room, and of the two ROOT blocks the one not written last (R239). -/
def State.sysOpen (s : State) (use g : Nat) (m : Module) : Option (BlockId × Nat) :=
  let l := s.sysBlocks use g m
  if use = 7 then (if l.length < 2 then none else l.head?.filter (fun p => decide (p.2 < m.info.pages))) else l.find? (fun p => decide (p.2 < m.info.pages))

/-- A place for a system page on a module: a page of a block that takes them, or page 0 of a FREE block taken now, by a BLOCK record (R239, R248, R496); of a VAULT block the
descriptor alone is set, since no journal follows the dump (log 79). A ROOT block that is full is erased for the new one. -/
def State.sysPlace (s : State) (use g motif : Nat) (m : Module) : State × Option (BlockId × Nat) :=
  match s.sysOpen use g m with
  | some p => (s.setNext p.1 (p.2 + 1), some p)
  | none =>
    match s.chooseBlock m 0 with
    | none => (s, none)
    | some b =>
      let d := { s.descOf b with use := use, ground := g }
      let full := if use = 7 ∧ 2 ≤ (s.sysBlocks 7 g m).length then ((s.sysBlocks 7 g m).take 1).map (fun p => p.1) else []
      let s := if use = 4 then s.bothMaps (fun k => k.setBlock b d) else s.journal g motif [.block b d]
      let s := s.modMed (fun k => { k with sysNext := k.sysNext.filter (fun p => !full.contains p.1), stale := k.stale ++ full })
      (s.setNext b 1, some (b, 0))

/-- How many copies of the pages now written lie on a module: what spreads a dump (R250). -/
def State.pageLoad (s : State) (i : Nat) : Nat := ((s.med.pages.flatMap (fun p => p.copies)).filter (fun c => c.2.1.module == i)).length

/-- The modules for a page of a use, in order: those that have a block for it, then those that qualify; for the pages of a dump the least loaded first. -/
def State.pageModules (s : State) (use g : Nat) : List Module :=
  if use = 4 then sortBy (fun a b => decide (s.pageLoad a.idx < s.pageLoad b.idx)) s.qualified
  else s.bob.modules.filter (fun m => s.modUsable m.idx && (s.sysOpen use g m).isSome) ++ s.qualified

/-! ## Pages being written -/

/-- The state with a page changed. -/
def State.modPage (s : State) (id : Nat) (f : SysPage → SysPage) : State := s.modMed (fun d => { d with pages := mapWhere (fun p => p.id == id) f d.pages })

/-- A page by its number. -/
def State.page (s : State) (id : Nat) : Option SysPage := s.med.pages.find? (fun p => p.id == id)

/-- A copy of a page placed on a module of a failure domain that holds no other copy, and programmed; where there is none it waits (R239). -/
def State.placeCopy (s : State) (p : SysPage) (copy : Nat) : State :=
  let use := blockUse p.kind
  let taken := p.copies.map (fun c => s.fdOf c.2.1.module)
  match (s.pageModules use p.ground).find? (fun m => !taken.contains (s.fdOf m.idx)) with
  | none => s
  | some m =>
    match s.sysPlace use p.ground p.motif m with
    | (s, none) => s
    | (s, some (b, n)) =>
      let data := systemPage p.kind p.count s.headId copy p.ground p.motif (s.claimOf p.ground) p.seq s.num p.epoch p.data
      (s.modPage p.id (fun x => { x with copies := x.copies ++ [(copy, b, n)] })).sendCmd (BobCmd.program 0 p.ground b n data (.page p.id copy))

/-- The copies of a page that have no place yet placed. -/
def State.placePage (s : State) (id : Nat) : State :=
  s.each [0, 1, 2] (fun s copy => match s.page id with
    | some p => if p.left.contains copy && !(p.copies.any (fun c => c.1 == copy)) then s.placeCopy p copy else s
    | none => s)

/-- A page to be written in `n` copies, with the number that it gets. -/
def State.addPage (s : State) (p : SysPage) (n : Nat) : State × Nat :=
  let id := s.med.nextPage
  let s := s.modMed (fun d => { d with pages := d.pages ++ [{ p with id := id, left := List.range n, copies := [] }], nextPage := id + 1 })
  (s.placePage id, id)

/-- Several pages to be written in `n` copies. -/
def State.addPages (s : State) (n : Nat) : List SysPage → State × List Nat
  | [] => (s, [])
  | p :: t =>
    let a := s.addPage p n
    let b := a.1.addPages n t
    (b.1, a.2 :: b.2)

/-- Every copy of a page is programmed. -/
def State.pageDone (s : State) (id : Nat) : Bool := match s.page id with | some p => p.left.isEmpty | none => false

/-- A copy of a page is programmed. -/
def State.copyDone (s : State) (id copy : Nat) : State := s.modPage id (fun p => { p with left := p.left.filter (fun c => c != copy) })

/-- A copy of a page could not be programmed: it needs another place. -/
def State.copyLost (s : State) (id copy : Nat) : State := s.modPage id (fun p => { p with copies := p.copies.filter (fun c => c.1 != copy) })

/-! ## The metadata journal on flash -/

/-- The position up to which a journal is on flash in two copies (R239). -/
def State.flushed (s : State) (g m : Nat) : Nat :=
  let l := s.log g m
  (s.med.pages.filter (fun p => p.kind == 6 && p.ground == g && p.motif == m && !p.left.isEmpty)).foldl (fun a p => min a p.span.1) (l.pos - l.tail.length)

/-- The bytes of a journal that are not on flash in two copies. -/
def State.unflushed (s : State) (l : JLog) : Bytes :=
  (s.med.pages.filter (fun p => p.kind == 6 && p.ground == l.ground && p.motif == l.motif && !p.left.isEmpty)).flatMap (fun p => p.data) ++ l.tail

/-- A journal's tail written as pages of KIND 6, full ones while the head mirrors (log 79); `fuel` bounds them. -/
def State.flushLog (s : State) (g m : Nat) : Nat → State
  | 0 => s
  | f + 1 =>
    let l := s.log g m
    if l.tail.isEmpty || (decide (l.tail.length < pageRoom) && s.mirrors) then s
    else
      let at_ := l.pos - l.tail.length
      let data := l.tail.take pageRoom
      let s := s.putLog { l with tail := l.tail.drop pageRoom, seq := l.seq + 1 }
      let p : SysPage := { (default : SysPage) with kind := 6, ground := g, motif := m, seq := l.seq, span := (at_, at_ + data.length), data := data }
      (s.addPage p 2).1.flushLog g m f

/-! ## Checkpoint passes and roots -/

/-- The physical locations of the copies of pages: module, LUN, page, block (log 79). -/
def locations (l : List SysPage) : Bytes :=
  l.flatMap (fun p => p.copies.flatMap (fun c => bytesOf [c.2.1.module, c.2.1.lun] ++ leBytes 2 c.2.2 ++ leBytes 4 c.2.1.block))

/-- Bytes cut into the data of pages. -/
def cutPages (b : Bytes) : List Bytes := (List.range (ceilDiv b.length pageRoom)).map (fun i => slice b (pageRoom * i) pageRoom)

/-- A page of a checkpoint job. -/
def CkptJob.page (j : CkptJob) (kind seq : Nat) (data : Bytes) : SysPage :=
  { (default : SysPage) with kind := kind, ground := j.ground, motif := j.motif, seq := seq, data := data }

/-- The end of a pass of a motif for a ground begins (R239): what the pass changed goes out as pages of KIND 7, here the records of its durable transactions (log 79). -/
def State.startCkpt (s : State) (motif g : Nat) : State :=
  if s.med.ckpts.any (fun j => j.motif == motif && j.ground == g) then s
  else
    let mine := s.med.txns.filter (fun t => t.ground == g && t.motif == motif)
    let start := match mine.find? (fun t => t.sent && !t.durable) with | some t => t.span.1 | none => (s.log g motif).pos
    let l := mine.filter (fun t => t.durable)
    let j : CkptJob := { motif := motif, ground := g, txns := l.map (fun t => t.id), start := start, stage := 0, ids := [] }
    let recs := l.flatMap (fun t => txnBytes s.med.maps t.id t.recs)
    let data := (gatherBytes pageRoom recs).filter (fun b => !b.isEmpty)
    let r := s.addPages 2 (((List.range data.length).zip data).map (fun x => j.page 7 x.1 x.2))
    r.1.modMed (fun d => { d with ckpts := d.ckpts ++ [{ j with ids := r.2 }] })

/-- What a root names (R239): the claim, its sequence number, where the index pages lie, the position of each motif's journal, and the highest block of every generator ID (log 79). -/
def State.rootData (s : State) (j : CkptJob) (seq : Nat) (index : List SysPage) : Bytes :=
  let starts := (List.range 8).flatMap (fun m => leBytes 8 (if m = j.motif then j.start else (s.log j.ground m).start))
  let marks := s.med.maps.marks.flatMap (fun p => leBytes 8 p.1 ++ leBytes 8 p.2)
  leBytes 8 (s.claimOf j.ground) ++ leBytes 8 seq ++ leBytes 4 (locations index).length ++ leBytes 4 marks.length ++ starts ++ locations index ++ marks

/-- A root is durable (R239): the checkpoint holds the pass, the journal bytes before the positions that it names are freed, and the JOURNAL blocks left without a page are erased. -/
def State.endCkpt (s : State) (j : CkptJob) : State :=
  let gone := s.med.txns.filter (fun t => j.txns.contains t.id)
  let s := s.putLog { s.log j.ground j.motif with start := j.start }
  let s := s.modMed (fun d => { d with
    ckpt := gone.foldl (fun m t => m.applyTxn t.recs) d.ckpt, txns := d.txns.filter (fun t => !j.txns.contains t.id),
    pages := d.pages.filter (fun p => !(p.kind == 6 && p.ground == j.ground && p.motif == j.motif && decide (p.span.2 ≤ j.start))),
    ckpts := d.ckpts.filter (fun x => !(x.motif == j.motif && x.ground == j.ground)) })
  let used := s.med.pages.flatMap (fun p => p.copies.map (fun c => c.2.1))
  let free := ((s.med.maps.blocks.filter (fun p => p.2.use == 5 && p.2.ground == j.ground)).map (fun p => blockOf p.1)).filter (fun b => !used.contains b)
  s.modMed (fun d => { d with stale := (d.stale ++ free).eraseDups, sysNext := d.sysNext.filter (fun p => !free.contains p.1) })

/-- A checkpoint job whose pages are programmed goes on: index pages after those of the pass, the root on three modules after them, and then the end (R239). -/
def State.advanceCkpt (s : State) (j : CkptJob) : State :=
  if j.ids.any (fun i => !s.pageDone i) then s
  else
    let l := j.ids.filterMap s.page
    let s := s.modMed (fun d => { d with pages := d.pages.filter (fun p => !j.ids.contains p.id) })
    let next := fun (s : State) (ids : List Nat) => s.modMed (fun d => { d with
      ckpts := mapWhere (fun x => x.motif == j.motif && x.ground == j.ground) (fun x => { x with stage := x.stage + 1, ids := ids }) d.ckpts })
    if j.stage = 0 then
      let data := cutPages (locations l)
      let r := s.addPages 2 (((List.range data.length).zip data).map (fun x => j.page 7 x.1 x.2))
      next r.1 r.2
    else if j.stage = 1 then
      let seq := Sparse.get 0 s.med.rootSeq j.ground + 1
      let s := s.modMed (fun d => { d with rootSeq := Sparse.set 0 d.rootSeq j.ground seq })
      let r := s.addPage (j.page 8 seq (s.rootData j seq l)) 3
      next r.1 [r.2]
    else s.endCkpt j

/-- System blocks and replacement blocks that hold nothing any more erased, under their ground's claim; in class 3, behind the programs of a rebuild (log 79). -/
def State.eraseStale (s : State) : State :=
  let l := s.med.stale.filter (fun b => s.owns (s.descOf b).ground)
  (s.modMed (fun d => { d with stale := d.stale.filter (fun b => !l.contains b) })).each l
    (fun s b => s.sendCmd (BobCmd.onBlock 0x12 3 (s.descOf b).ground b .stagingErase))

/-! ## The pages of a dump -/

/-- A page of a dump, numbered after those of its KIND that it has. -/
def State.vaultPage (s : State) (epoch kind copies g m count : Nat) (data : Bytes) : State :=
  let n := (s.med.pages.filter (fun p => p.epoch == epoch && p.kind == kind)).length
  (s.addPage { (default : SysPage) with kind := kind, count := count, ground := g, motif := m, seq := n, epoch := epoch, data := data } copies).1

/-- The ground of the pages of KIND 4 and 5: the lowest of which the dump holds atoms or journal bytes (R251). -/
def State.dumpGround (s : State) (epoch : Nat) : Nat :=
  let l := (s.med.pages.filter (fun p => p.epoch == epoch && p.kind < 4)).map (fun p => p.ground)
  l.foldl min (l.headD 0)

/-- The number of the dump that is made, or was made last. -/
def State.dumpEpoch (s : State) : Nat := max s.med.vaultA.epoch s.med.vaultB.epoch

/-- The pages of a dump. -/
def State.epochPages (s : State) (epoch : Nat) : List SysPage := s.med.pages.filter (fun p => decide (2 ≤ p.kind) && decide (p.kind ≤ 5) && p.epoch == epoch)

/-- The SEAL page follows once every other page of the dump is programmed and none is left to seal: its data are the page counts of kinds 2 to 4 (R251; log 79). -/
def State.sealVault (s : State) : State :=
  let n := s.dumpEpoch
  let l := s.epochPages n
  let of := fun (k : Nat) => leBytes 4 (l.filter (fun p => p.kind == k)).length
  let ready := !l.isEmpty && l.all (fun p => p.left.isEmpty && p.kind != 5) && s.med.vaultA.left.isEmpty && s.med.vaultB.left.isEmpty
  if s.mode = 4 ∧ ready then s.vaultPage n 5 2 (s.dumpGround n) 0 0 (of 2 ++ of 3 ++ of 4) else s

/-- The pages of a dump brought on as their programs complete. -/
def State.settleDump (s : State) : State :=
  if s.mode ≠ 4 ∨ s.hu.dumpDone then s
  else (s.each ((s.med.pages.filter (fun p => !p.left.isEmpty)).map (fun p => p.id)) State.placePage).sealVault

/-- The system pages brought on: those of a dump in Vault; of a head in service journals, copies without a place, checkpoints, erases. -/
def State.settleSystem (s : State) : State :=
  if s.mode = 4 then s.settleDump
  else if !s.inService then s
  else
    let s := s.each (s.med.logs.filter (fun l => s.owns l.ground)) (fun s l => s.flushLog l.ground l.motif (l.tail.length / pageRoom + 2))
    let s := s.each ((s.med.pages.filter (fun p => !p.left.isEmpty)).map (fun p => p.id)) State.placePage
    (s.each s.med.ckpts State.advanceCkpt).eraseStale

/-! ## What Winding reads -/

/-- READ_PAGE of a page of a system block, under the claim that CLAIM_GET with ALL returned from its module (R497). -/
def State.scanPage (s : State) (b : BlockId) (page ground claim : Nat) (again : Bool) : State :=
  s.sendCmd { BobCmd.onBlock 0x10 0 ground b .scan with page := page, count := 1, claim := claim, again := again }

/-- The system blocks of every ground read from their first page on, as Winding step 11 ends (R240, R249, R251; log 79). -/
def State.startScan (s : State) : State :=
  let l := s.med.maps.blocks.filter (fun p => decide (3 ≤ p.2.use) && decide (p.2.use ≤ 7))
  (s.modMed (fun d => { d with found := [] })).each l (fun s p =>
    let b := blockOf p.1
    match s.module b.module with
    | some m => s.scanPage b 0 p.2.ground (m.claim p.2.ground) false
    | none => s)

/-- A page of a system block has been read (R246, R497): a valid one is kept and the next one read; one that drew CLAIM_STALE is read once more with the claim returned. -/
def State.scanCpl (s : State) (c : BobCmd) (status result : Nat) (data : Bytes) : State :=
  let b : BlockId := ⟨c.mod, c.lun, c.block⟩
  if status = 0x2304 ∧ ¬ c.again then s.scanPage b c.page c.ground result true
  else if status ≠ 0 then s
  else match parsePage data with
    | none => s.countRead b
    | some p =>
      let s := (s.countRead b).modMed (fun d => { d with found := d.found ++ [p] })
      match s.module c.mod with
      | some m => if c.page + 1 < m.info.pages then s.scanPage b (c.page + 1) c.ground c.claim false else s
      | none => s

/-- Winding still reads system pages. -/
def State.scanning (s : State) : Bool := (s.bob.cmds ++ s.bob.heldCmds).any (fun c => decide (c.why = BobWhy.scan))

/-- One root comes before another: a higher claim, and under one claim a higher root sequence number (R240). -/
def PageInfo.newer (a b : PageInfo) : Bool := decide (b.claim < a.claim) || (decide (a.claim = b.claim) && decide (b.seq < a.seq))

/-- ROOT_CHOICE (R240): of the valid roots of a ground that were read, the one with the highest claim and, under it, the highest root sequence number. -/
def State.chosenRoot (s : State) (g : Nat) : Option PageInfo :=
  let l := s.med.found.filter (fun p => p.kind == 8 && p.ground == g)
  l.find? (fun p => l.all (fun q => !q.newer p))

/-- The grounds that have ROOT blocks. -/
def State.rootGrounds (s : State) : List Nat := ((s.med.maps.blocks.filter (fun p => p.2.use == 7)).map (fun p => p.2.ground)).eraseDups

/-- A ground for which no root has a readable copy (R240). -/
def State.rootLost (s : State) : Bool := s.rootGrounds.any (fun g => (s.chosenRoot g).isNone)

/-- The roots go on from the ones chosen. -/
def State.takeRoots (s : State) : State :=
  s.each s.rootGrounds (fun s g => match s.chosenRoot g with
    | some p => s.modMed (fun d => { d with rootSeq := Sparse.set 0 d.rootSeq g p.seq })
    | none => s)

/-- The valid pages of a KIND and EPOCH that were read, each counted once with its copies. -/
def State.foundPages (s : State) (kind epoch : Nat) : Nat :=
  ((s.med.found.filter (fun p => p.kind == kind && p.epoch == epoch)).map (fun p => (p.ground, p.motif, p.seq))).eraseDups.length

/-- A SEAL page was read whose counts match the valid pages of its EPOCH (R251). -/
def State.sealMatches (s : State) (epoch : Nat) : Bool :=
  s.med.found.any (fun p => p.kind == 5 && p.epoch == epoch &&
    (List.range 3).all (fun i => decide (leAt p.data (4 * i) 4 = s.foundPages (2 + i) epoch)))

end Sys2Proof.Machine
end

