-- ==== Sys2Proof/Machine/Streams.lean ====
section
/-! DEFINITION. Write streams (R237): opening bands (R235, R244, R257), packing records (R160, R259), programming stripes (R261), and what becomes of the
records of a stripe. -/

namespace Sys2Proof.Machine

/-! ## Opening a band -/

/-- The members' modules (R257): within the domain limit `m`, or with the smallest largest-domain count that can be reached. The answer is the modules and
the count. -/
def State.chooseModules (s : State) (n m : Nat) : Option (List Module × Nat) :=
  let l := s.qualified
  if l.length < n then none
  else (List.range (n + 1 - m)).findSome? (fun i =>
    let t := s.takeWithin (m + i) n l
    if t.length = n then some (t, m + i) else none)

/-- How many units the stream page space has (R232). -/
def State.unitSpace (s : State) : Nat := ((s.dataModules.map (fun m => m.info.luns * m.info.blocks * m.info.pages)).foldl (· + ·) 0) / 1024

/-- Free units that the head may take, lowest first (R232). -/
def State.freeUnits' (s : State) : List Nat := (List.range s.unitSpace).filter (fun u => s.mayTake u && !(s.med.maps.units.contains u))

/-- BAND_OPEN (R257): a new band for a stream, with its blocks, units and BAND record journaled; none where fewer than n modules qualify. -/
def State.openBand (s : State) (g motif : Nat) (gc : Bool) : State × Option Band :=
  let km := s.geometryOf g
  let n := km.1 + km.2
  match s.chooseModules n km.2 with
  | none => ((s.setEvt F.ECU_EVT_NO_MEMBERS motif).ecuStatus motif 0x6902, none)
  | some (mods, cap) =>
    let members := mods.filterMap (fun m => s.chooseBlock m 0)
    let pages := (mods.map (fun m => m.info.pages)).foldl min (mods.headD default).info.pages
    let stripes := pages / 4
    let units := s.freeUnits'.take (ceilDiv (4 * km.1 * stripes) 1024)
    if members.length ≠ n ∨ units.length * 1024 < 4 * km.1 * stripes ∨ stripes = 0 ∨ km.1 = 0 then
      ((s.setEvt F.ECU_EVT_NO_MEMBERS motif).ecuStatus motif 0x6902, none)
    else
      let num := if s.med.maps.nextBand % 2 = s.headId then s.med.maps.nextBand else s.med.maps.nextBand + 1
      let b : Band :=
        { num := num, ground := g, motif := motif, gc := gc, k := km.1, m := km.2, state := 1, members := members, units := units, stripes := stripes,
          next := 0, done := 0, torn := [], refresh := false, wear := false, olds := [], erased := 0 }
      let s := if km.2 < cap then s.setEvt F.ECU_EVT_FD_SHORT motif else s
      let blocks := members.map (fun x => JRec.block x { s.descOf x with use := 1, band := num, ground := g })
      let s := s.journal g motif (blocks ++ units.map (fun u => JRec.unit u true) ++ [JRec.band b])
      (s.syncMedia, some b)

/-! ## Streams -/

/-- The stream of a ground, motif and kind (R237). -/
def State.stream (s : State) (g motif : Nat) (gc : Bool) : Option Stream := s.med.streams.find? (fun x => x.ground == g && x.motif == motif && x.gc == gc)

/-- The state with a stream put in place. -/
def State.putStream (s : State) (x : Stream) : State :=
  s.modMed (fun d => { d with streams := d.streams.filter (fun y => !(y.ground == x.ground && y.motif == x.motif && y.gc == x.gc)) ++ [x] })

/-- The data bytes of a stripe. -/
def Band.stripeBytes (b : Band) : Nat := 4 * b.k * 16384

/-- Every member of a band can be programmed. -/
def State.bandIntact (s : State) (b : Band) : Bool := b.members.all (fun x => s.modUsable x.module)

/-- A band closed (R261): it takes no further stripe. -/
def State.closeBand (s : State) (num : Nat) : State :=
  let s := s.modMaps (fun m => { m with bands := mapWhere (fun b => b.num == num) (fun b => { b with next := b.stripes }) m.bands })
  s.modMed (fun d => { d with streams := d.streams.filter (fun x => x.band != num) })

/-- The open band of a stream, opened anew where there is none. -/
def State.streamBand (s : State) (g motif : Nat) (gc : Bool) : State × Option (Stream × Band) :=
  let here := match s.stream g motif gc with
    | some x => (s.med.maps.band x.band).bind (fun b => if b.state = 1 ∧ b.next < b.stripes then some (x, b) else none)
    | none => none
  match here with
  | some p => (s, some p)
  | none =>
    match s.openBand g motif gc with
    | (s, none) => (s, none)
    | (s, some b) =>
      let x : Stream := { ground := g, motif := motif, gc := gc, band := b.num, fill := [], since := s.num }
      (s.putStream x, some (x, b))

/-! ## Stripes -/

/-- The strips of a stripe by code member: data as packed, then parity row by row (R255, R263). -/
def Band.strips (b : Band) (data : Bytes) : List Bytes :=
  let strip := fun (j : Nat) => slice data (65536 * j) 65536
  let parity := (List.range 4).map (fun q => encodeRow ((List.range b.k).map (fun j => slice (strip j) (16384 * q) 16384)) b.m)
  (List.range b.k).map strip ++ (List.range b.m).map (fun i => (parity.map (fun row => row.getD i [])).flatten)

/-- The stream pages of a stripe that never counts are UNMAPPED again. -/
def State.unpackStripe (s : State) (b : Band) (stripe : Nat) : State :=
  let pages := (List.range (4 * b.k)).map (fun i => b.pageAt (4 * b.k * stripe + i))
  s.modMaps (fun m => { m with mmap := pages.foldl (fun mm p => if (Sparse.get default mm p).state = 1 then Sparse.erase mm p else mm) m.mmap })

/-- The class of a stripe's programs: the lowest of the records in it, class 3 for what garbage collection moves (R141; log 47). -/
def State.stripeClass (s : State) (num st : Nat) : Nat :=
  ((s.med.packed.filter (fun r => r.stripes.contains (num, st))).map (fun r => if r.gc then 3 else r.cls)).foldl min 3

/-- PROGRAM_PAGES issued to every member of a stripe whose STRIPE_OPEN is durable (R261 step 3). -/
def State.issueStripe (s : State) (num st : Nat) : State :=
  match s.med.maps.band num, s.med.stripes.find? (fun j => j.band == num && j.stripe == st && !j.issued) with
  | some b, some j =>
    let n := b.k + b.m
    let cls := s.stripeClass num st
    let s := s.modMed (fun d => { d with stripes := mapWhere (fun x => x == j) (fun x => { x with issued := true }) d.stripes })
    s.each ((List.range n).zip (b.strips j.data)) (fun s p =>
      s.sendCmd (BobCmd.program cls b.ground (b.members.getD (positionOf n st p.1) default) (4 * st) p.2 (.program num st)))
  | _, _ => s

/-- A flush whose record is lost with its stripe: its transaction is undone and its atoms are buffered as before, with 0x5405 in MTF_DP_ERR (R263). -/
def State.undoFlush (s : State) (t : Txn) : State :=
  match s.med.flushes.find? (fun f => f.txn == t.id) with
  | none => s
  | some f =>
    let s := s.modMed (fun d => { d with
      maps := t.recs.foldl Maps.undoRec d.maps, txns := d.txns.filter (fun x => x.id != t.id), packed := d.packed.filter (fun r => r.txn != t.id),
      flushes := d.flushes.filter (fun x => x.txn != t.id) })
    let back := fun (a : BufAtom) => f.atoms.contains (a.writeId, a.atom) && a.state == AtomState.flushing
    let s := s.modDp (fun d => { d with atoms := mapWhere back (fun a => { a with state := AtomState.complete }) d.atoms })
    let s := ((s.setFld F.MTF_DP_ERR_STATUS 0x5405 f.motif).setFld F.MTF_DP_ERR_GROUND t.ground f.motif).setFld F.MTF_DP_ERR_NSID (f.nsid % 4096) f.motif
    ((s.setFld F.MTF_DP_ERR_VALID 1 f.motif).setEvt F.PKG_DP_EVT_INTEGRITY).recount

/-- An ENCODE that reads poison is abandoned (R263): the flushes with a record in the stripe are undone, the records that a collection moved there are left for another try, and the
stripe's place holds zero filler (log 80). -/
def State.spoilStripe (s : State) (b : Band) (st : Nat) : State :=
  let lost := s.med.packed.filter (fun r => r.stripes.contains (b.num, st))
  let s := s.modMed (fun d => { d with
    packed := d.packed.filter (fun r => !(r.stripes.contains (b.num, st))), stripes := mapWhere (fun j => j.band == b.num && j.stripe == st) (fun j => { j with data := zeros b.stripeBytes }) d.stripes })
  (s.each lost (fun s r => match s.txn r.txn with
    | some t => (s.undoFlush t).modTxn r.txn (fun t => { t with recs := t.recs.filter (fun x => match x with | .move h _ _ => h != r.handle | _ => true) })
    | none => s)).unpackStripe b st

/-- ENCODE of a full stripe by an erasure unit (R261 step 1, R263), and then its STRIPE_OPEN; it waits while no unit has a context. -/
def State.encodeStripe (s : State) (num st : Nat) : State :=
  match s.med.maps.band num with
  | none => s
  | some b =>
    let pages := (List.range (4 * b.k)).map (fun i => b.pageAt (4 * b.k * st + i))
    if s.freeUnits .ecu b.motif (fun _ => true) = [] then s.waitOn .ecu b.motif (s.stripeClass num st) (.encode num st)
    else
      let s := (s.holdContext .ecu b.motif (s.stripeClass num st) (fun _ => true)).1
      let s := if pages.any s.med.spoiled.contains then s.spoilStripe b st else s
      let s := s.modMed (fun d => { d with spoiled := d.spoiled.filter (fun p => !pages.contains p) })
      let r := s.addTxn b.ground b.motif [.stripeOpen num st] true (.stripe num st)
      r.1.sendTxn r.2

/-- STRIPE_PROGRAM (R261): the next stripe of a band is full and goes to its erasure unit. -/
def State.programStripe (s : State) (num : Nat) (data : Bytes) : State :=
  match s.med.maps.band num with
  | none => s
  | some b =>
    let s := s.modMaps (fun m => m.putBand { b with next := b.next + 1 })
    let j : StripeJob := { band := num, stripe := b.next, data := data, issued := false, left := b.k + b.m, failed := false, close := false }
    (s.modMed (fun d => { d with stripes := d.stripes ++ [j] })).encodeStripe num b.next

/-- Full stripes of a stream's fill programmed; `fuel` bounds them. -/
def State.emitStripes (s : State) (g motif : Nat) (gc : Bool) : Nat → State
  | 0 => s
  | f + 1 =>
    match s.stream g motif gc with
    | none => s
    | some x =>
      match s.med.maps.band x.band with
      | none => s
      | some b =>
        if x.fill.length < b.stripeBytes then s
        else ((s.putStream { x with fill := x.fill.drop b.stripeBytes, since := s.num }).programStripe b.num (x.fill.take b.stripeBytes)).emitStripes g motif gc f

/-- PADDED pages counted in units of 64 (R259). -/
def State.countPad (s : State) (motif pages : Nat) : State :=
  let n := Sparse.get 0 s.med.padPages motif + pages
  (s.modMed (fun d => { d with padPages := Sparse.set 0 d.padPages motif (n % 64) })).bump F.ECU_CNT1_PAD_PAGES (n / 64) motif

/-! ## Packing -/

/-- The stream address that a transaction gives a handle. -/
def setAddr (h a : Nat) (r : JRec) : JRec :=
  match r with
  | .ctab x e => if x = h then .ctab x { e with addr := a } else r
  | .move x _ p => if x = h then .move x a p else r
  | _ => r

/-- The address that a transaction gives a handle, with the record's length where it is new content. -/
def addrIn (h : Nat) (r : JRec) : Option Nat :=
  match r with
  | .ctab x e => if x = h then some e.addr else none
  | .move x a _ => if x = h then some a else none
  | _ => none

/-- Where the next record of `len` bytes starts in a band whose next byte is `pos`: at `pos`, or at the next unit where the record would cross one, since its
stream pages are consecutive (R160; log 48). -/
def recordStart (pos len : Nat) : Nat :=
  let unit := 1024 * 16384
  if pos / unit = (pos + len - 1) / unit then pos else (pos / unit + 1) * unit

/-- Stream pages PACKING (R237). -/
def State.markPacking (s : State) (g : Nat) (pages : List Nat) : State :=
  s.modMaps (fun m => { m with mmap := pages.foldl (fun mm p =>
    if (Sparse.get default mm p).state = 0 then Sparse.set default mm p { (default : MEntry) with state := 1, ground := g } else mm) m.mmap })

/-- A record placed in a band at a byte position: padding before it, its bytes, its stream address in its transaction. -/
def State.placeAt (s : State) (x : Stream) (b : Band) (r : PackRec) (pos : Nat) : State :=
  let base := b.next * b.stripeBytes + x.fill.length
  let sb := b.stripeBytes
  let stripes := (List.range ((pos + r.bytes.length - 1) / sb + 1 - pos / sb)).map (fun i => (b.num, pos / sb + i))
  let addr := b.pageAt (pos / 16384) * 64 + pos % 16384 / 256
  let since := if x.fill.isEmpty then s.num else x.since
  let s := s.putStream { x with fill := x.fill ++ zeros (pos - base) ++ r.bytes, since := since }
  let s := s.modTxn r.txn (fun t => { t with recs := t.recs.map (setAddr r.handle addr) })
  let s := s.modMaps (fun m => let e := m.content r.handle; if e.state = 1 then { m with ctab := Sparse.set default m.ctab r.handle { e with addr := addr } } else m)
  let s := s.modMed (fun d => { d with packed := d.packed ++ [{ r with stripes := stripes }] })
  let first := pos / 16384
  let last := (pos + r.bytes.length - 1) / 16384
  (s.markPacking b.ground ((List.range (last + 1 - first)).map (fun i => b.pageAt (first + i)))).emitStripes b.ground b.motif b.gc 2

/-- A band takes no further stripe (R261, R270); the records gathered for its next one are to be packed again. -/
def State.shutBand (s : State) (b : Band) : State × List PackRec :=
  let again := fun (r : PackRec) => r.stripes.any (fun p => p.1 == b.num && decide (b.next ≤ p.2))
  let l := s.med.packed.filter again
  (((s.modMed (fun d => { d with packed := d.packed.filter (fun r => !again r) })).unpackStripe b b.next).closeBand b.num, l)

/-- The open band of a stream that has a member which cannot be programmed is closed before another one opens (R237, R261); the records that it was gathering. -/
def State.shutBroken (s : State) (g motif : Nat) (gc : Bool) : State × List PackRec :=
  match (s.stream g motif gc).bind (fun x => s.med.maps.band x.band) with
  | some b => if b.state = 1 && !s.bandIntact b then s.shutBand b else (s, [])
  | none => (s, [])

/-- A record packed into its ground's stream (R160, R259). Where the band's rest does not hold it, the rest is zero filler and a new band takes it; where no
band can open it waits. -/
def State.packOne (s : State) (r : PackRec) : State :=
  let len := r.bytes.length
  match s.streamBand r.ground r.motif r.gc with
  | (s, none) => s.modMed (fun d => { d with packed := d.packed ++ [{ r with stripes := [] }] })
  | (s, some (x, b)) =>
    let pos := recordStart (b.next * b.stripeBytes + x.fill.length) len
    if pos + len ≤ b.stripes * b.stripeBytes then s.placeAt x b r pos
    else
      let s := (s.putStream { x with fill := x.fill ++ zeros ((b.stripes - b.next) * b.stripeBytes - x.fill.length) }).emitStripes r.ground r.motif r.gc b.stripes
      match s.closeBand b.num |>.streamBand r.ground r.motif r.gc with
      | (s, none) => s.modMed (fun d => { d with packed := d.packed ++ [{ r with stripes := [] }] })
      | (s, some (x, b)) => s.placeAt x b r (recordStart (b.next * b.stripeBytes + x.fill.length) len)

/-- A record packed, after those of a band that had to be closed. -/
def State.packRecord (s : State) (r : PackRec) : State :=
  let x := s.shutBroken r.ground r.motif r.gc
  x.1.each (x.2 ++ [r]) State.packOne

/-- Records that wait for a band are tried again. -/
def State.retryPacking (s : State) : State :=
  let l := s.med.packed.filter (fun r => r.stripes.isEmpty)
  (s.modMed (fun d => { d with packed := d.packed.filter (fun r => !r.stripes.isEmpty) })).each l State.packRecord

/-- A record whose stripes are all programmed: its media-map entries join its transaction, and a flush's transaction goes into the journal once it waits for no
record (R161). -/
def State.recordProgrammed (s : State) (r : PackRec) : State :=
  let s := s.modMed (fun d => { d with packed := d.packed.filter (fun x => !(x.txn == r.txn && x.handle == r.handle)) })
  match s.txn r.txn with
  | none => s
  | some t =>
    let addr := (t.recs.findSome? (addrIn r.handle)).getD 0
    let e : CEntry := { (default : CEntry) with addr := addr, len := r.bytes.length }
    let maps := e.pages.filterMap (fun p => (s.med.maps.bandOf p).map (fun b => JRec.mmap p (b.1.entryAt b.2)))
    let s := s.modTxn r.txn (fun t => { t with recs := t.recs ++ maps })
    match t.fin with
    | .flush _ => if s.med.packed.any (fun x => x.txn == r.txn) then s else s.sendTxn r.txn
    | .shipped => if s.med.packed.any (fun x => x.txn == r.txn) then s else s.sendTxn r.txn
    | _ => s

/-- Records of a stripe that was programmed: those with no other stripe to wait for are done with. -/
def State.stripeProgrammed (s : State) (band stripe : Nat) : State :=
  let strip := fun (r : PackRec) => { r with stripes := r.stripes.filter (fun p => p != (band, stripe)) }
  let hit := s.med.packed.filter (fun r => r.stripes.contains (band, stripe))
  let doneNow := (hit.map strip).filter (fun r => r.stripes.isEmpty)
  let s := s.modMed (fun d => { d with packed := mapWhere (fun r => r.stripes.contains (band, stripe)) strip d.packed })
  s.each doneNow State.recordProgrammed

/-- A stripe whose programs have ended with a failure (R245, R261): its records are packed again, into the band's next stripe, or into a new band where a
member's module failed or the commands were aborted. -/
def State.repackStripe (s : State) (j : StripeJob) : State :=
  match s.med.maps.band j.band with
  | none => s.modMed (fun d => { d with stripes := d.stripes.filter (fun x => x != j) })
  | some b =>
    let again := fun (r : PackRec) => r.stripes.any (fun p => p.1 == j.band && (p.2 == j.stripe || (j.close && decide (b.next ≤ p.2))))
    let l := s.med.packed.filter again
    let s := s.modMed (fun d => { d with stripes := d.stripes.filter (fun x => x != j), packed := d.packed.filter (fun r => !again r) })
    let s := s.unpackStripe b j.stripe
    let s := if j.close then s.closeBand j.band else s
    s.each l State.packRecord

/-- Every stripe that has failed is repacked; `fuel` bounds them. -/
def State.repackFailed (s : State) : Nat → State
  | 0 => s
  | f + 1 => match s.med.stripes.find? (fun j => j.failed && j.left == 0) with
    | none => s
    | some j => (s.repackStripe j).repackFailed f

/-- Bands that have become FULL (R236, R261): every stripe issued or the band closed, no program running, no record of it waiting for its map update. -/
def State.fullBands (s : State) : List Band :=
  s.med.maps.bands.filter (fun b => decide (b.state = 1) && decide (b.stripes ≤ b.next) && !(s.med.stripes.any (fun j => j.band == b.num)) &&
    !(s.med.packed.any (fun r => r.stripes.any (fun p => p.1 == b.num))) &&
    !(s.med.txns.any (fun t => !t.durable && !t.early && t.recs.any (fun r => match r with
      | .ctab _ e => (b.indexOf (e.addr / 64)).isSome | .move _ a _ => (b.indexOf (a / 64)).isSome | _ => false))))

/-- A band's transition journaled as a BAND record (R236). -/
def State.setBandState (s : State) (b : Band) (st : Nat) : State := s.journal b.ground b.motif [.band { b with state := st }]

/-- Streams and bands brought in step: failed stripes repacked, closed bands FULL, system pages brought on. -/
def State.settleBands (s : State) : State :=
  let s := s.repackFailed 8
  (s.each s.fullBands (fun s b => s.setBandState b 2)).settleSystem.syncMedia

/-- STRIPE_PROGRAM_DONE (R261): every program of a stripe has succeeded; STRIPE_DONE is journaled ahead of the map updates of its records. -/
def execStripeProgramDone (band stripe : Nat) (s : State) : Host.Outcome State Fault Refusal :=
  live s (fun s =>
    match s.med.stripes.find? (fun j => j.band == band && j.stripe == stripe), s.med.maps.band band with
    | some j, some b =>
      if j.left = 0 ∧ ¬ j.failed then
        let s := s.modMed (fun d => { d with stripes := d.stripes.filter (fun x => x != j) })
        let s := s.journal b.ground b.motif [.stripeDone band stripe]
        (s.stripeProgrammed band stripe).settleBands
      else s
    | _, _ => s)

/-- STRIPE_PAD_AGE (R259): a part-filled stripe whose first record is PAD_AGE stitches old is filled with zero sectors and programmed. -/
def execStripePadAge (ground motif : Nat) (gc : Bool) (s : State) : Host.Outcome State Fault Refusal :=
  live s (fun s =>
    match s.stream ground motif gc with
    | none => s
    | some x =>
      match s.med.maps.band x.band with
      | none => s
      | some b =>
        if x.fill.isEmpty ∨ s.num < x.since + max 1 (s.fld F.ECU_CTL_PAD_AGE motif) then s
        else
          let pad := b.stripeBytes - x.fill.length
          let s := s.countPad motif (ceilDiv pad 16384)
          ((s.putStream { x with fill := x.fill ++ zeros pad }).emitStripes ground motif gc 1).settleBands)

end Sys2Proof.Machine
end

