-- ==== Sys2Proof/Machine/Flush.lean ====
section
/-! DEFINITION. Flush (R158 to R162): chunks formed, fingerprinted, deduplicated or compressed, sealed and packed, and their map updates made durable
(R161, R239); the staging journal (R246 to R248) and the checkpoint (R239). -/

namespace Sys2Proof.Machine

/-! ## The fingerprint index -/

/-- The home motif of a fingerprint (R155). -/
def State.fpMotif (s : State) (fp : Bytes) : Nat := (byteAt fp 0 + 256 * byteAt fp 1) % s.fuses.caps.motifs

/-- How many buckets the index of a motif has (R155): 262,144 for each filter way. -/
def State.fpBuckets (s : State) (m : Nat) : Nat := s.fld F.MTF_FP_ST_CAPACITY m / 996147 * 262144

/-- The tag of a fingerprint in the filter (R155). -/
def fpTag (fp : Bytes) : Nat := let t := leAt fp 20 2; if t = 0 then 1 else t

/-- The two candidate buckets of an entry among `n`; which they are the spec leaves to the index (log 31). -/
def FpEntry.candidates (e : FpEntry) (n : Nat) : Nat × Nat :=
  let b := Config.fpBucket (leNat e.fp) % n
  (b, Config.fpOther b e.tag % n)

/-- The entry of a fingerprint for a handle, not yet in a bucket. -/
def State.fpEntry (s : State) (fp : Bytes) (h : Nat) : FpEntry :=
  { motif := s.fpMotif fp, bucket := 0, slot := 0, tag := fpTag fp, fp := fp.take 20, lastHit := bits s.num 47 16, handle := h }

/-- A fingerprint looked up (R156, R226): an entry of one of its candidate buckets with its tag, its first 20 bytes, the ground, content that is DURABLE (R154), and sealed as the
domain asks. -/
def State.fpLookup (s : State) (fp : Bytes) (g : Nat) (d : Domain) : Option FpEntry :=
  let m := s.fpMotif fp
  let x := s.fpEntry fp 0
  let b := x.candidates (s.fpBuckets m)
  s.med.fps.find? (fun e => e.motif == m && (e.bucket == b.1 || e.bucket == b.2) && e.tag == x.tag && e.fp == x.fp && handleGround e.handle == g &&
    (let c := s.med.maps.content e.handle
     c.state == 2 && c.enc == d.enc && (!d.enc || c.slot == d.slot)))

/-- Bits [47:16] of the stitch number, as LAST_HIT keeps them. -/
def State.hitTime (s : State) : Nat := bits s.num 47 16

/-- The entry at a position of the index. -/
def fpAt (l : List FpEntry) (m b k : Nat) : Option FpEntry := l.find? (fun e => e.motif == m && e.bucket == b && e.slot == k)

/-- A free position of a bucket. -/
def fpFree (l : List FpEntry) (m b : Nat) : Option Nat := (List.range 4).find? (fun k => (fpAt l m b k).isNone)

/-- An entry put into the bucket that it names: into a free position, or in place of another one that goes to its own other bucket. The number bounds the relocations; which entry
goes is free. None where no position is found. -/
def fpSettle (n free : Nat) : Nat → List FpEntry → FpEntry → Option (List FpEntry)
  | f, l, e =>
    match fpFree l e.motif e.bucket with
    | some k => some (l ++ [{ e with slot := k }])
    | none =>
      match f with
      | 0 => none
      | f + 1 =>
        match fpAt l e.motif e.bucket (Config.freeValue (free + f) % 4) with
        | none => none
        | some v =>
          let c := v.candidates n
          fpSettle n free f (l.erase v ++ [{ e with slot := v.slot }]) { v with bucket := if v.bucket = c.1 then c.2 else c.1 }

/-- A fingerprint inserted (R156): into a free position of a candidate bucket, if need be after relocations, 500 at the most; where that fails, or the index is filled to its
CAPACITY, in place of the entry of its two candidate buckets whose LAST_HIT is oldest. -/
def State.fpInsert (s : State) (fp : Bytes) (h : Nat) : State :=
  let m := s.fpMotif fp
  let e := s.fpEntry fp h
  let n := s.fpBuckets m
  let c := e.candidates n
  if n = 0 then s
  else
    let room := decide ((s.med.fps.filter (fun x => x.motif == m)).length < s.fld F.MTF_FP_ST_CAPACITY m)
    let at1 := { e with bucket := c.1 }
    let put := if (fpFree s.med.fps m c.1).isSome then fpSettle n s.free 0 s.med.fps at1 else fpSettle n s.free 500 s.med.fps { e with bucket := c.2 }
    match (if room then put else none) with
    | some l => ({ s with free := s.free + 500 }).modMed (fun d => { d with fps := l })
    | none =>
      let near := s.med.fps.filter (fun x => x.motif == m && (x.bucket == c.1 || x.bucket == c.2))
      match near with
      | [] => s
      | x :: t =>
        let gone := t.foldl (fun a y => if y.lastHit < a.lastHit then y else a) x
        (s.modMed (fun d => { d with fps := d.fps.erase gone ++ [{ e with bucket := gone.bucket, slot := gone.slot }] })).bump F.MTF_DP_CNT1_FP_REPLACE 1 m

/-! ## Forming a chunk -/

/-- The buffered COMPLETE atoms of a chunk, in the order they became so. -/
def State.chunkBuffer (s : State) (n : Namespace) (chunk : Nat) : List BufAtom :=
  s.dp.atoms.filter (fun a => a.ns == n.id && a.state == AtomState.complete && s.chunkOf n a.atom == chunk)

/-- The newest of a chunk's atoms for one place. -/
def newestAt (l : List BufAtom) (atom : Nat) : Option BufAtom :=
  (l.filter (fun a => a.atom == atom)).foldl (fun (b : Option BufAtom) a => match b with
    | none => some a
    | some x => if x.done ≤ a.done then some a else some x) none

/-- A chunk formed (R159 step 1): its bytes, the application tags, POISON bits, whether it is a merge, and the fingerprint that a tap has left for it. -/
structure Formed where
  print : Option Bytes
  data : Bytes
  tags : List Nat
  poison : Nat
  merge : Bool
  zero : Bool
  deriving DecidableEq, Repr, Inhabited

/-- The current content of a chunk for a merge: its bytes and POISON bits; unreadable content reads as zeros, poisoned whole; none where what stops it passes (R229, R265). -/
def State.oldChunk (s : State) (m cls chunk : Nat) (n : Namespace) (e : LEntry) (bad : BadPages) : State × Option (Bytes × Nat) :=
  let len := 4096 * s.chunkAtoms n.ground
  if e.handle = 0 then (s, some (zeros len, 0))
  else
    let k := s.med.maps.content e.handle
    match s.readRecord m k bad with
    | (s, .ok x) => (s, some (x.2, k.poison))
    | (s, .error w) => if isPassing w then ((if w = cipWaits then s.waitOn .cip m cls (.flush n.id chunk) else s), none) else ((s.dpError m w n.ground n.id).sampleUe 4 m 0 0 e.handle, some (zeros len, poisonAll k))

/-- The result of the tap on a chunk (R199), where every atom of it came from one write. -/
def heldPrint (atoms : List BufAtom) (count : Nat) : Option Bytes :=
  match atoms with
  | [] => none
  | a :: t => if atoms.length = count ∧ t.all (fun x => x.writeId == a.writeId) then atoms.findSome? (fun x => x.print) else none

/-- The chunk put together from the buffer and the current content. -/
def formChunk (atoms : List BufAtom) (first count : Nat) (old : Bytes) (oldTags : List Nat) (poison : Nat) : Formed :=
  let parts := (List.range count).map (fun i =>
    match newestAt atoms (first + i) with
    | some a => if a.dealloc then (zeros 4096, 0, false, true) else (a.data, a.appTag, false, true)
    | none => if bit poison i then (zeros 4096, oldTags.getD i 0, true, false) else (slice old (4096 * i) 4096, oldTags.getD i 0, false, false))
  let data := (parts.map (fun p => p.1)).flatten
  { print := heldPrint atoms count, data := data, tags := parts.map (fun p => p.2.1), poison := ((List.range count).zip parts).foldl (fun a p => a + b2n p.2.2.2.1 * 2 ^ p.1) 0,
    merge := parts.any (fun p => !p.2.2.2), zero := allZero data && parts.all (fun p => !p.2.2.1) }

/-- The guard of every atom taken from the buffer still matches its data (R159 step 2). -/
def guardsHold (n : Namespace) (atoms : List BufAtom) : Bool := !n.pi || atoms.all (fun a => a.dealloc || crc64 a.data == a.guard)

/-! ## Flushing a chunk -/

/-- The chunk's atoms are FLUSHING under a transaction (R147); nothing of it waits any more. -/
def State.beginFlush (s : State) (n : Namespace) (m chunk txn : Nat) (packs : Bool) (atoms : List BufAtom) : State :=
  let l := atoms.map (fun a => (a.writeId, a.atom))
  let job : FlushJob := { motif := m, nsid := n.id, chunk := chunk, txn := txn, packs := packs, atoms := l }
  let s := s.modMed (fun d => { d with flushes := d.flushes ++ [job] })
  let s := (s.modEng (fun e => { e with waits := e.waits.filter (fun w => w.what != .flush n.id chunk) })).syncEng m
  s.modDp (fun d => { d with atoms := mapWhere (fun a => l.contains (a.writeId, a.atom)) (fun a => { a with state := .flushing }) d.atoms })

/-- The references that a map update takes from the old handle and gives to the new one. -/
def refRecs (old new : Nat) (bump : Bool) : List JRec :=
  (if bump ∧ new ≠ 0 then [JRec.refs new 1] else []) ++ (if old = 0 then [] else [JRec.refs old (-1)])

/-- The record of a chunk (R160): the header with the sealed or plain body, in whole sectors; and its entry. -/
def recordOf (h len : Nat) (enc small : Bool) (nonce body tag : Bytes) : Bytes :=
  let hd := leBytes 8 h ++ nonce ++ leBytes 2 len ++ bytesOf [b2n enc + 2 * b2n small, 0]
  let r := hd ++ tag ++ zeros 8 ++ body
  r ++ zeros ((256 - r.length % 256) % 256)

/-- A map update being prepared (R161): its records, the records to pack, the fingerprints to insert, and the handles it takes. -/
structure Update where
  recs : List JRec
  packs : List PackRec
  fps : List (Bytes × Nat)
  deriving DecidableEq, Repr, Inhabited

/-- Two updates of one transaction. -/
def Update.join (a b : Update) : Update := ⟨a.recs ++ b.recs, a.packs ++ b.packs, a.fps ++ b.fps⟩

/-- Handles that transactions in preparation take. -/
def State.takenHandles (s : State) : List Nat :=
  s.med.txns.flatMap (fun t => t.recs.filterMap (fun r => match r with | .ctab h _ => some h | _ => none))

/-- New content sealed for its handle where the domain is encrypted: its record and content-table entry, or what stops it. -/
def State.makeRecord (s : State) (n : Namespace) (d : Domain) (m h poison : Nat) (small : Bool) (body : Bytes) : State × Except Nat (CEntry × Bytes) :=
  let aad := fun (nonce : Bytes) => leBytes 8 h ++ nonce ++ leBytes 2 body.length ++ bytesOf [1 + 2 * b2n small, 0]
  let out := if d.enc then s.sealUp m d.slot aad body else (s, .ok ⟨zeros 12, body, zeros 16⟩)
  match out with
  | (s, .error w) => (if w = cipWaits ∨ w = 0x2703 then s else s.dpError m w n.ground n.id, .error w)
  | (s, .ok c) =>
    let e : CEntry :=
      { addr := 0, len := 48 + body.length, refs := 1, slot := if d.enc then d.slot else 0, state := 2, enc := d.enc, chunk4k := small, poison := poison }
    (s, .ok (e, recordOf h body.length d.enc small c.nonce c.text c.tag))

/-- FLUSH compresses a class on a motif: option C is there and the FLUSH pattern has a compressor stage for the class (R33, R191). -/
def State.compresses (s : State) (m cls : Nat) : Bool := s.fuses.caps.optC && decide (s.engineMask .cmp m (Route.serves 2 cls) % 4 ≠ 0)

/-- New content (R159 step 5): compressed or stored, sealed where the domain is encrypted, to be packed; none where its slot is not LOADED or the lanes fail. -/
def State.flushNew (s : State) (n : Namespace) (d : Domain) (m cls chunk : Nat) (vs : List Nat) (f : Formed) (fp : Bytes) (old : Nat) (acc : Update) :
    State × Option Update :=
  let small := decide (f.data.length = 4096)
  let cz := if s.compresses m cls then
      let r := compressChunk (cmpSettings (s.reg .CMP_CTL m 0)) f.data
      (((s.holdContext .cmp m cls (Route.serves 2 cls)).1).countChunk m f.data.length r.1.length r.2, r.1)
    else (s, storedChunk f.data)
  let fm := s.fpMotif fp
  let taken := s.takenHandles ++ acc.packs.map (fun p => p.handle)
  let h := makeHandle n.ground fm (s.med.maps.freeIndex taken n.ground fm)
  match cz.1.makeRecord n d m h f.poison small cz.2 with
  | (s, .error w) => (if w = cipWaits then s.waitOn .cip m cls (.flush n.id chunk) else s, none)
  | (s, .ok (e, r)) =>
    let p : PackRec := { txn := 0, handle := h, ground := n.ground, motif := m, cls := cls, gc := false, bytes := r, stripes := [] }
    (s, some ⟨[.ctab h e, .lmap vs chunk ⟨h, f.tags⟩] ++ refRecs old h false, [p], [(fp, h)]⟩)

/-- The content of a hit equals the chunk (R159 step 4). -/
def State.verifyHit (s : State) (m h : Nat) (data : Bytes) (bad : BadPages) : State × Bool :=
  match s.readRecord m (s.med.maps.content h) bad with
  | (s, .ok x) => (s, x.2 == data)
  | (s, .error _) => (s, false)

/-- The hit that a formed chunk has (R156): a poisoned chunk takes none, nor does one whose hit has no room for a reference (R159 step 4). -/
def State.hitFor (s : State) (n : Namespace) (d : Domain) (f : Formed) (fp : Bytes) : Option FpEntry :=
  if f.poison = 0 then (s.fpLookup fp n.ground d).filter (fun e => decide ((s.med.maps.content e.handle).refs ≠ 0xFFFFFFFF)) else none

/-- A hit goes on: REFS incremented at once, in order on the handle's motif (R154), and verified where the ground asks for it; a mismatch makes the chunk new. -/
def State.flushHit (s : State) (n : Namespace) (d : Domain) (m cls chunk : Nat) (vs : List Nat) (f : Formed) (fp : Bytes) (old : Nat) (e : FpEntry) (bad : BadPages)
    (acc : Update) : State × Option Update :=
  let s := s.bump F.MTF_DP_CNT0_DEDUP_HIT 1 e.motif
  let verify := match s.groundDef n.ground with | some g => g.verify | none => false
  let v := if verify then s.verifyHit m e.handle f.data bad else (s, true)
  if v.2 then
    let s := v.1.modMed (fun x => { x with fps := x.fps.map (fun y => if y = e then { y with lastHit := s.hitTime } else y) })
    (s.modMaps (fun k => k.addRefs e.handle 1), some ⟨JRec.lmap vs chunk ⟨e.handle, f.tags⟩ :: refRecs old e.handle true, [], []⟩)
  else (v.1.bump F.MTF_DP_CNT1_VERIFY_MISMATCH 1 m).flushNew n d m cls chunk vs f fp old acc

/-- A formed chunk goes on (R159 steps 3 to 6), for the views that take it. It waits where the message of its fingerprint finds no digest context (R197), or new content no
compressor context (R187). -/
def State.flushFormed (s : State) (n : Namespace) (d : Domain) (m cls chunk : Nat) (vs : List Nat) (f : Formed) (old : Nat) (bad : BadPages) (acc : Update) :
    State × Option Update :=
  let merged := fun (s : State) => if f.merge then s.bump F.MTF_DP_CNT1_MERGE 1 m else s
  if f.zero then (merged s, some ⟨JRec.lmap vs chunk ⟨0, f.tags⟩ :: refRecs old 0 false, [], []⟩)
  else
    let fp := f.print.getD (sha256 (d.salt ++ f.data))
    let hit := s.hitFor n d f fp
    if f.print.isNone ∧ s.freeUnits .dig m (fun _ => true) = [] then (s.waitOn .dig m cls (.flush n.id chunk), none)
    else if hit.isNone ∧ s.compresses m cls ∧ s.freeUnits .cmp m (Route.serves 2 cls) = [] then (s.waitOn .cmp m cls (.flush n.id chunk), none)
    else
      let s := merged s
      let s := if f.print.isNone then (s.holdContext .dig m cls (fun _ => true)).1 else s
      match hit with
      | some e => s.flushHit n d m cls chunk vs f fp old e bad acc
      | none => (s.bump F.MTF_DP_CNT0_DEDUP_MISS 1 (s.fpMotif fp)).flushNew n d m cls chunk vs f fp old acc

/-- New content has its entry at once, PACKED until its transaction is durable (R154). -/
def Maps.packEntry (k : Maps) (r : JRec) : Maps :=
  match r with
  | .ctab h e => { k with ctab := Sparse.set default k.ctab h { e with state := 1 } }
  | _ => k

/-- A prepared map update becomes a transaction: its records are packed, or it goes into the journal at once (R161). -/
def State.commitUpdate (s : State) (n : Namespace) (m : Nat) (u : Update) (fin : TxnEnd) : State × Nat :=
  let r := s.addTxn n.ground m u.recs false fin
  let s := r.1.modMaps (fun k => u.recs.foldl Maps.packEntry k)
  let s := s.each u.fps (fun s p => s.fpInsert p.1 p.2)
  let s := s.each u.packs (fun s p => s.packRecord { p with txn := r.2 })
  (if u.packs.isEmpty then s.sendTxn r.2 else s, r.2)

/-- Views that take one result of a flush: their number, the atoms they take, and what they now hold for the chunk. -/
structure ViewGroup where
  views : List Nat
  atoms : List BufAtom
  entry : LEntry
  deriving DecidableEq, Repr, Inhabited

/-- The newest atoms of a chunk, one for each place. -/
def newestOf (l : List BufAtom) (first count : Nat) : List BufAtom := (List.range count).filterMap (fun i => newestAt l (first + i))

/-- The views that a flush of a chunk affects (R343): the live view, with the newest atoms, and the PENDING views cut from it, with the newest that completed
before their cut; views with the same atoms and the same entry take one result. -/
def State.viewGroups (s : State) (n : Namespace) (chunk : Nat) (atoms : List BufAtom) : List ViewGroup :=
  let count := s.chunkAtoms n.ground
  let cuts := s.med.maps.views.filter (fun v => v.state == 1 && v.source == n.id)
  let want := (n.id, newestOf atoms (chunk * count) count) ::
    cuts.map (fun v => (v.id, newestOf (atoms.filter (fun a => decide (a.done < v.cut))) (chunk * count) count))
  (want.filter (fun w => !w.2.isEmpty)).foldl (fun (gs : List ViewGroup) w =>
    let e := s.med.maps.entry w.1 chunk
    if gs.any (fun g => g.atoms == w.2 && g.entry == e) then mapWhere (fun g => g.atoms == w.2 && g.entry == e) (fun g => { g with views := g.views ++ [w.1] }) gs
    else gs ++ [⟨[w.1], w.2, e⟩]) []

/-- An atom of a chunk carries an uncorrectable DRAM error (R189, R201): its fingerprint's message is abandoned, or its compression, and the atoms stay buffered. -/
def State.flushPoisoned (s : State) (m : Nat) (n : Namespace) (print : Option Bytes) : State :=
  let s := if print.isNone then (s.setFld F.DIG_ST_VALID 0 m).setFld F.DIG_ST_STATUS 0x5405 m else s.cmpPoison m
  s.dpError m 0x5405 n.ground n.id

/-- One result of a flush: the chunk formed from the group's atoms and its current content, and flushed. -/
def State.flushGroup (s : State) (n : Namespace) (d : Domain) (m cls chunk : Nat) (g : ViewGroup) (bad : BadPages) (acc : Update) : State × Option Update :=
  let count := s.chunkAtoms n.ground
  if g.atoms.any (fun a => a.poison) then (s.flushPoisoned m n (heldPrint g.atoms count), none)
  else
    let old := if g.atoms.length = count then (s, some (zeros (4096 * count), 0)) else s.oldChunk m cls chunk n g.entry bad
    match old with
    | (s, none) => (s, none)
    | (s, some (b, p)) => s.flushFormed n d m cls chunk g.views (formChunk g.atoms (chunk * count) count b g.entry.tags p) g.entry.handle bad acc

/-- The results of every group; none where one is left buffered, and then the references taken for the hits of the others are given back. -/
def State.flushGroups (s : State) (n : Namespace) (d : Domain) (m cls chunk : Nat) (bad : BadPages) : List ViewGroup → Update → State × Option Update
  | [], acc => (s, some acc)
  | g :: t, acc =>
    match s.flushGroup n d m cls chunk g bad acc with
    | (s, none) => (s.modMaps (fun k => acc.recs.foldl Maps.undoRec k), none)
    | (s, some u) => s.flushGroups n d m cls chunk bad t (acc.join u)

/-- The class of a chunk: the lowest of its atoms. -/
def chunkClass (atoms : List BufAtom) : Nat := atoms.foldl (fun c a => min c a.cls) 3

/-- CHUNK_FLUSH (R159): a chunk with COMPLETE atoms is flushed, or left buffered where a check fails or something is missing. -/
def State.flushChunk (s : State) (m : Nat) (n : Namespace) (chunk : Nat) (bad : BadPages) : State :=
  if s.med.flushes.any (fun f => f.nsid == n.id && f.chunk == chunk) then s
  else
    let atoms := s.chunkBuffer n chunk
    match s.domain n.domain with
    | none => s
    | some d =>
      if atoms.isEmpty then s
      else if d.enc && !s.slotLoaded d.slot then s.slotEmpty m
      else if !guardsHold n (atoms.filter (fun a => !a.poison)) then s.dpError m 0x5402 n.ground n.id
      else
        match s.flushGroups n d m (chunkClass atoms) chunk bad (s.viewGroups n chunk atoms) ⟨[], [], []⟩ with
        | (s, none) => s
        | (s, some u) =>
          let l := atoms.map (fun a => (a.writeId, a.atom))
          let r := s.beginFlush n m chunk s.med.nextTxn (!u.packs.isEmpty) atoms |>.commitUpdate n m u (.flush l)
          r.1

/-! ## When a motif flushes -/

/-- The chunks of a ground that wait on a motif, in the order in which their first atom became COMPLETE (R158). -/
def State.waitingChunks (s : State) (m g : Nat) : List (Nat × Nat) :=
  let l := s.dp.atoms.filter (fun a => a.ground == g && a.state == AtomState.complete)
  let keyed := l.filterMap (fun a => match s.ns a.ns with
    | some n => if s.homeMotif (s.chunkOf n a.atom) = m then some (a.done, n.id, s.chunkOf n a.atom) else none
    | none => none)
  ((sortBy (fun a b => decide (a.1 < b.1)) keyed).map (fun k => k.2)).eraseDups

/-- A ground's flush is due on a motif (R158, R343): age, a stripe's worth of chunks, R146, a cut, or a Flush command. -/
def State.flushDue (s : State) (m g : Nat) : Bool :=
  let cs := s.waitingChunks m g
  let l := s.dp.atoms.filter (fun a => a.ground == g && a.state == AtomState.complete && cs.any (fun c => match s.ns a.ns with
    | some n => c == (n.id, s.chunkOf n a.atom) | none => false))
  let aged := l.any (fun a => decide (a.done + max 1 (s.fld F.MTF_FLUSH_CTL_AGE m) ≤ s.num))
  let high := decide (min 100 (s.fld F.MTF_FLUSH_CTL_HIGH_PCT m) * s.ownLimit < 100 * s.dp.dirty)
  let cut := l.any (fun a => s.med.maps.views.any (fun v => v.state == 1 && v.source == a.ns && decide (a.done < v.cut)))
  let named := s.hq.cmds.any (fun k => match k.kind with | .flush x => l.any (fun a => x.contains (a.writeId, a.atom)) | _ => false)
  aged || decide ((s.geometryOf g).1 * 65536 ≤ cs.length * 4096 * s.chunkAtoms g) || high || cut || named || s.flag F.PKG_ADMIT_ST_BUDGET_HOLD

/-- FLUSH_AGE_EXPIRY (R158): the home motif flushes the chunks of every ground whose flush is due; `bad` are the pages that merges cannot read. -/
def execFlushAgeExpiry (motif : Nat) (bad : BadPages) (disagree : List Nat) (s : State) : Host.Outcome State Fault Refusal :=
  live s (fun s => s.under (bad ++ disagree.map (fun l => Mishap.lane l)) (fun s =>
    let s := s.retryPacking
    let due := s.ownedGrounds.filter (fun g => s.flushDue motif g)
    let s := s.each due (fun s g => s.each (s.waitingChunks motif g) (fun s c => match s.ns c.1 with
      | some n => s.flushChunk motif n c.2 bad
      | none => s))
    s.settleBands.syncFp.syncFlush))


/-! ## Durability -/

/-- The JOURNAL frame of a transaction is acknowledged. -/
def State.journalAcked (s : State) (id : Nat) : Bool :=
  let isIt := fun (p : BridePay) => match p with | .mirror f => f.journal && f.txn == id | .resync f => f.journal && f.txn == id | _ => false
  !(s.pair.groups.any (fun g => g.unacked.any (fun f => isIt f.2) || g.waiting.any isIt))

/-- The first transaction of its journal that is written and not durable (R239). -/
def State.firstUndurable (s : State) (t : Txn) : Bool :=
  match s.med.txns.find? (fun x => x.ground == t.ground && x.motif == t.motif && x.sent && !x.durable) with
  | some x => x.id == t.id
  | none => false

/-- The switch of a receiving namespace is durable (R353): EPOCH_ACK. -/
def State.epochSwitched (s : State) (t : Nat) : State :=
  match (s.target t).heldEpoch with
  | none => s
  | some e =>
    let s := (s.modTarget t (fun x => { x with staging := [], heldEpoch := none, ackedEpoch := e })).setFld F.RPL_TGT_ST_STATE 0 0 t
    s.sendRepl t 6 0 e []

/-- What follows a transaction's durability (R161, R236, R261, R353). -/
def State.txnEnded (s : State) (t : Txn) : State :=
  match t.fin with
  | .flush l =>
    let s := s.modMed (fun d => { d with flushes := d.flushes.filter (fun f => f.txn != t.id) })
    ((s.freeAtoms l).settleDurable.admitWaiting).syncFlush
  | .epoch t => s.epochSwitched t
  | .stripe b st => s.issueStripe b st
  | _ => s

/-- The records of a transaction that take effect when it is durable: the references of a flush's hits did at the hit (R154). -/
def Txn.late (t : Txn) : List JRec :=
  match t.fin with
  | .flush _ => t.recs.filter (fun r => match r with | .refs _ d => decide (d ≠ 1) | _ => true)
  | _ => t.recs

/-- A transaction durable: its records take effect, unless they did when it was written. -/
def State.makeDurable (s : State) (t : Txn) : State :=
  let s := if t.early then s else s.modMaps (fun m => m.applyTxn t.late)
  ((s.modTxn t.id (fun t => { t with durable := true })).txnEnded t).pruneFps.syncFp

/-- CHECKPOINT_PASS_END (R239): a pass of MED_CKPT_CTL.PASS stitches of a motif ends, and for each ground of the head the checkpoint and then the root go out. -/
def execCheckpointPassEnd (motif : Nat) (s : State) : Host.Outcome State Fault Refusal :=
  live s (fun s =>
    if s.inService ∧ s.hasMotif motif ∧ Sparse.get 0 s.med.passes motif + max 200000 (s.fld F.MED_CKPT_CTL_PASS motif) ≤ s.num then
      let now := s.num
      let s := s.modMed (fun d => { d with passes := Sparse.set 0 d.passes motif now })
      (s.each s.ownedGrounds (fun s g => s.startCkpt motif g)).settleSystem.syncMedia
    else s)

/-! ## The staging journal -/

/-- Two modules of different failure domains for the copies of a staging page of a ground (R248). -/
def State.twoModules (s : State) (g : Nat) : Option (Module × Module) :=
  match s.takeWithin 1 2 (s.pageModules 3 g) with
  | [a, b] => some (a, b)
  | _ => none

/-- The 96-byte header of a staging or vault entry (R247). -/
def StageEnt.header (e : StageEnt) : Bytes :=
  let flags := b2n e.first + 2 * b2n e.last + 4 * b2n e.pi + 8 * b2n e.enc + 16 * b2n e.host + 32 * b2n e.dealloc + 64 * b2n e.ackable
  bytesOf [flags, 0] ++ leBytes 2 e.nsid ++ leBytes 4 e.conn ++ leBytes 8 e.atom ++ leBytes 8 e.writeId ++ leBytes 4 e.opSeq ++ leBytes 4 e.ackSeq ++
    leBytes 4 e.atoms ++ leBytes 2 e.appTag ++ leBytes 2 e.keySlot ++ leBytes 8 e.seq ++ e.nonce ++ zeros 4 ++ e.tag ++ zeros 16

/-- The data of a page of KIND 1 or 2 that carries entries (R247). -/
def entryPage (l : List StageEnt) : Bytes :=
  let heads := (l.map StageEnt.header).flatten
  heads ++ zeros (4096 - 64 - heads.length) ++ (l.map (fun e => if e.dealloc then zeros 4096 else e.data)).flatten

/-- The entry of a buffered atom, sealed where its namespace is encrypted (R228, R247), or what stops the sealing. -/
def State.entryOf (s : State) (w : Write) (a : BufAtom) (seq : Nat) (ackable : Bool) : State × Except Nat StageEnt :=
  let f := s.frameOf w a
  let d := (s.ns a.ns).bind (fun n => s.domain n.domain)
  let enc := match d with | some d => d.enc | none => false
  let slot := match d with | some d => d.slot | none => 0
  let e : StageEnt :=
    { ground := a.ground, seq := seq, first := f.first, last := f.last, pi := f.pi, enc := enc, host := f.host, dealloc := a.dealloc, ackable := ackable,
      nsid := a.ns, conn := f.conn, atom := a.atom, writeId := w.id, opSeq := f.opSeq, ackSeq := f.ackSeq, atoms := w.count, appTag := a.appTag,
      keySlot := if enc then slot else 0, nonce := zeros 12, tag := zeros 16, data := a.data, stitch := s.num, claim := s.claimOf a.ground, copies := [],
      pages := [], obsolete := false }
  if !enc || a.dealloc then (s, .ok { e with enc := false, keySlot := 0 })
  else
    match s.sealUp a.motif slot (fun _ => e.header.take 0x30) a.data with
    | (s, .ok c) => (s, .ok { e with nonce := c.nonce, tag := c.tag, data := c.text })
    | (s, .error w) => (s, .error w)

/-- An atom may go into the staging journal: in Solo one that is placed and not yet flushed, else one that a Flush command or a write with FUA asks for (R164, R248). -/
def State.stageable (s : State) (id atom : Nat) (a : BufAtom) : Bool :=
  a.placed && !a.staged && (s.mode == 2 || s.stagingAsked id atom) && !(s.atomOnFlash id atom) &&
    !(s.med.staging.any (fun e => e.writeId == id && e.atom == atom && !e.obsolete))

/-- The two copies of a staging entry sent to modules of different failure domains; where no such pair has a place nothing is appended. -/
def State.appendEntry (s : State) (a : BufAtom) (e : StageEnt) : State :=
  match s.twoModules a.ground with
  | none => s
  | some (x, y) =>
    match s.sysPlace 3 a.ground a.motif x with
    | (s, none) => s
    | (s, some p) => match s.sysPlace 3 a.ground a.motif y with
      | (s, none) => s
      | (s, some q) =>
        let s := s.modMed (fun d => { d with staging := d.staging ++ [{ e with pages := [p, q] }], entrySeq := d.entrySeq + 1 })
        let page := fun (copy : Nat) => systemPage 1 1 s.headId copy a.ground a.motif (s.claimOf a.ground) e.seq s.num 0 (entryPage [e])
        let s := s.sendCmd (BobCmd.program 0 a.ground p.1 p.2 (page 0) (.staging e.seq 0))
        s.sendCmd (BobCmd.program 0 a.ground q.1 q.2 (page 1) (.staging e.seq 1))

/-- An atom appended to the staging journal (R248), or waiting for a lane that seals it (R214). -/
def State.stageAtom (s : State) (id atom : Nat) : State :=
  match s.write? id, (s.atomsOf id).find? (fun a => a.atom == atom) with
  | some w, some a =>
    if !s.stageable id atom a then s
    else match s.entryOf w a s.med.entrySeq false with
      | (s, .ok e) => s.appendEntry a e
      | (s, .error x) => if x = cipWaits then s.waitOn .cip a.motif a.cls (.stage id atom) else s
  | _, _ => s

/-- STAGING_APPEND (R248): an atom that completes through the Solo rule, or that a Flush or FUA asks for, is appended as two copies. -/
def execStagingAppend (writeId atom : Nat) (disagree : List Nat) (s : State) : Host.Outcome State Fault Refusal :=
  live s (fun s => s.under (disagree.map (fun l => Mishap.lane l)) (fun s => s.stageAtom writeId atom))

/-- The entries whose pages lie in a block. -/
def State.entriesIn (s : State) (b : BlockId) : List StageEnt := s.med.staging.filter (fun e => e.pages.any (fun p => p.1 == b))

/-- STAGING_BLOCK_ERASE (R248): a staging block all of whose entries are obsolete is erased. -/
def execStagingBlockErase (b : BlockId) (s : State) : Host.Outcome State Fault Refusal :=
  live s (fun s =>
    let d := s.descOf b
    if d.use = 3 ∧ (s.entriesIn b).all (fun e => e.obsolete) ∧ s.owns d.ground then
      (s.modMed (fun k => { k with sysNext := k.sysNext.filter (fun p => p.1 != b) })).sendCmd (BobCmd.onBlock 0x12 3 d.ground b .stagingErase)
    else s)

/-! ## What waited goes on -/

/-- A request of FLUSH or READ that waited goes on (R187, R197, R214). -/
def State.runWait (s : State) (w : EngWait) : State :=
  let s := (s.modEng (fun e => { e with waits := e.waits.erase w })).syncEng w.motif
  match w.what with
  | .flush nsid chunk => match s.ns nsid with | some n => s.flushChunk w.motif n chunk [] | none => s
  | .read id => match s.job id with | some j => s.finishRead j [] | none => s
  | .stage id atom => s.stageAtom id atom
  | .message t => s.flushRepl t (s.target t).unsent.length
  | .encode b st => s.encodeStripe b st
  | .decode id page => s.reconstructFor id page []

/-- A waiting job comes before a waiting request: class order, then arrival order. -/
def EngJob.before (j : EngJob) (w : EngWait) : Bool := decide (j.cls < w.cls) || (decide (j.cls = w.cls) && decide (j.seq < w.seq))

/-- Free contexts given to what waits for them, jobs and requests together in class and arrival order (R187, R197); `fuel` bounds them. -/
def State.serveContexts (s : State) (k : EngKind) (m : Nat) : Nat → State
  | 0 => s
  | f + 1 =>
    if (s.freeUnits k m (fun _ => true)).isEmpty then s
    else match s.firstWaiting k m, s.firstWait k m with
      | none, none => s
      | some j, none => (s.tryBind j).1.serveContexts k m f
      | none, some w => (s.runWait w).serveContexts k m f
      | some j, some w => (if j.before w then (s.tryBind j).1 else s.runWait w).serveContexts k m f

/-- The requests that wait for the cipher lanes of a motif tried once each, in class and arrival order (R211, R214); `fuel` bounds them. -/
def State.serveCip (s : State) (m : Nat) : Nat → State
  | 0 => s
  | f + 1 =>
    match s.firstWait .cip m with
    | none => s
    | some w => if (s.laneGroups m none).isEmpty then s else (s.runWait w).serveCip m f

/-- What waits for the lanes of every motif is tried. -/
def State.serveLanes (s : State) : State := s.each s.motifs (fun s m => s.serveCip m (s.waitsOn .cip m).length)

/-- MAP_UPDATE_DURABLE (R161, R239): the journal bytes of a transaction are on flash in two copies (`flash`), or its JOURNAL frame is acknowledged. -/
def execMapUpdateDurable (txn : Nat) (flash : Bool) (s : State) : Host.Outcome State Fault Refusal :=
  live s (fun s =>
    match s.txn txn with
    | none => s
    | some t =>
      if t.sent ∧ ¬ t.durable ∧ s.firstUndurable t ∧ ((flash ∧ t.span.2 ≤ s.flushed t.ground t.motif) ∨ (t.mirrored ∧ s.journalAcked txn)) then (s.makeDurable t).serveLanes.settleBands.settleWrites
      else s)

end Sys2Proof.Machine
end

