-- ==== Sys2Proof/Machine/Sched.lean ====
section
/-! DEFINITION. The stitch schedule (R58 to R62): when a slot fires, in which modes, and what a skipped firing counts; slots SAMPLER_HOUR and
CORE_EVENT. -/

namespace Sys2Proof.Machine

/-- Phase, period and offset of slots 0 to 5 (R59). -/
def fixedSlot (i : Nat) : Nat × Nat × Nat :=
  match i with
  | 0 => (0, 1, 0)
  | 1 => (20, 1, 0)
  | 2 => (500, 1, 0)
  | 3 => (600, 1, 0)
  | 4 => (700, 200, 0)
  | _ => (300, 2000, 1000)

/-- Slots 0 to 5 in their registers (R59). -/
def State.fixSlots (s : State) : State :=
  s.each (List.range 6) (fun s i =>
    let f := fixedSlot i
    let s := ((s.setFld F.STC_SLOT_C_EN 1 0 i).setFld F.STC_SLOT_C_ACTION (i + 1) 0 i).setFld F.STC_SLOT_C_PHASE f.1 0 i
    (s.setFld F.STC_SLOT_T_PERIOD f.2.1 0 i).setFld F.STC_SLOT_T_OFFSET f.2.2 0 i)

/-- Phase, period, offset and action of a slot. -/
def State.slotPlan (s : State) (i : Nat) : Nat × Nat × Nat × Nat :=
  if i < 6 then let f := fixedSlot i; (f.1, f.2.1, f.2.2, i + 1)
  else (s.fld F.STC_SLOT_C_PHASE 0 i, s.fld F.STC_SLOT_T_PERIOD 0 i, s.fld F.STC_SLOT_T_OFFSET 0 i,
    if s.flag F.STC_SLOT_C_EN 0 i then s.fld F.STC_SLOT_C_ACTION 0 i else 0)

/-- The slots that fire in the present mode (R62). -/
def State.slotAllowed (s : State) (i : Nat) : Bool :=
  if s.mode = 4 then decide (2 ≤ i) && decide (i ≤ 4) else decide (s.mode ≠ 5)

/-- A slot fires in this stitch and has not yet: enabled, in its stitch, allowed in this mode, not fired before (R58, R62). -/
def State.slotOpen (s : State) (i : Nat) : Bool :=
  let p := s.slotPlan i
  decide (p.2.2.2 ≠ 0) && decide (0 < p.2.1) && decide (s.num % p.2.1 = p.2.2.1) && s.slotAllowed i && !(s.stc.slots.contains i)

/-- A slot of an action is due: it fires in this stitch, its phase is not passed, and every slot of a lower index at the same phase has fired (R58). No slot fires at a phase
above 999 (R4). -/
def State.slotDue (s : State) (i action : Nat) : Bool :=
  let p := s.slotPlan i
  decide (i < 64) && decide (p.2.2.2 = action) && s.slotOpen i && decide (s.stc.phase ≤ p.1) && decide (p.1 < 1000) &&
    (List.range i).all (fun j => !(s.slotOpen j) || decide ((s.slotPlan j).1 ≠ p.1))

/-- A slot fires at its phase: its action runs with ARG, or the firing is skipped and counted where the previous action has not finished (R61). -/
def State.slotFire (s : State) (i action : Nat) (overrun : Bool) (f : State → Nat → State) : State :=
  if s.slotDue i action then
    let s := (s.atPhase (s.slotPlan i).1).modStc (fun c => { c with slots := c.slots ++ [i] })
    if overrun then (s.bump F.STC_CNT_SLOT_OVR).setEvt F.STC_EVT_SLOT_OVR
    else f s (s.fld F.STC_SLOT_C_ARG 0 i)
  else s

/-- The MRAM's HOURS count, and SMP_LIFE.HOURS with it, up by one (R460). -/
def State.hourTick (s : State) : State :=
  let h := (s.mramNat 0x34 4 + 1) % 2 ^ 32
  (s.mramWrite 0x34 (leBytes 4 h)).setFld F.SMP_LIFE_HOURS h

/-- SAMPLER_HOUR (R460): an hour is counted. -/
def execSamplerHour (slot : Nat) (overrun : Bool) (s : State) : Host.Outcome State Fault Refusal :=
  live s (fun s => s.slotFire slot 0x14 overrun (fun s _ => s.hourTick))

/-- CORE_EVENT (R60): comparator ARG's interrupt at the hart that it names, its own state unaffected. -/
def execCoreEvent (slot : Nat) (overrun : Bool) (s : State) : Host.Outcome State Fault Refusal :=
  live s (fun s => s.slotFire slot 0x20 overrun (fun s arg =>
    let j := arg % 64
    s.raiseIrq (s.fld F.STC_CMP_C_MOTIF 0 j) (s.fld F.STC_CMP_C_HART 0 j) 0 (0x100 + j)))

end Sys2Proof.Machine
end

