-- ==== Sys2Proof/Machine/Gc.lean ====
section
/-! DEFINITION. Garbage collection (R241, R242), the erase of bands (R168, R236), wear (R244) and media scrub (R243). -/

namespace Sys2Proof.Machine

/-! ## Victims -/

/-- The live fraction of a band, as live sectors over all: compared by cross products. -/
def Maps.liveLess (m : Maps) (a b : Band) : Bool :=
  decide (m.liveSectors a * (64 * b.dataPages) < m.liveSectors b * (64 * a.dataPages)) ||
    (decide (m.liveSectors a * (64 * b.dataPages) = m.liveSectors b * (64 * a.dataPages)) && decide (a.num < b.num))

/-- The victims of a motif in order (R241): bands queued for refresh, for wear, then FULL bands of the lowest live fraction, the oldest first. -/
def State.victims (s : State) (motif : Nat) : List Band :=
  let l := s.med.maps.bands.filter (fun b => b.motif == motif && b.state == 2 && s.owns b.ground)
  let a := l.filter (fun b => b.refresh)
  let w := l.filter (fun b => !b.refresh && b.wear)
  a ++ w ++ sortBy s.med.maps.liveLess (l.filter (fun b => !b.refresh && !b.wear))

/-- Bands in VICTIM to ERASE_PENDING on a motif. -/
def State.gcActive (s : State) (motif : Nat) : Nat :=
  (s.med.maps.bands.filter (fun b => b.motif == motif && decide (3 ≤ b.state) && decide (b.state ≤ 5))).length

/-- MiB of records copied by collection, counted per band (MED_GC_CNT). -/
def mibOf (bytes : Nat) : Nat := bytes / 1048576

/-- A live record read through its stream pages and copied into the ground's GC stream, byte for byte (R242 step 1; log 45); one that cannot be reconstructed is poisoned in the
relocation transaction, one that cannot be read at the moment is left for another try. -/
def State.copyRecord (s : State) (b : Band) (txn h : Nat) (bad : BadPages) : State :=
  let e := s.med.maps.content h
  match s.readRecord b.motif e bad with
  | (s, .ok x) =>
    let r := x.1 ++ zeros ((256 - x.1.length % 256) % 256)
    let s := s.modTxn txn (fun t => { t with recs := t.recs ++ [JRec.move h e.addr e.poison] })
    s.packRecord { txn := txn, handle := h, ground := b.ground, motif := b.motif, cls := 3, gc := true, bytes := r, stripes := [] }
  | (s, .error w) => if isPassing w then s else s.modTxn txn (fun t => { t with recs := t.recs ++ [JRec.move h e.addr (poisonAll e)] })

/-- Collection of a band starts (R242): VICTIM journaled, and its live records read, checked and packed. -/
def State.collectBand (s : State) (b : Band) (bad : BadPages) : State :=
  let s := s.setBandState b 3
  let r := s.addTxn b.ground b.motif [] false (.reloc b.num)
  let hs := s.med.maps.handlesIn b
  let bytes := (hs.map (fun h => (s.med.maps.content h).len)).foldl (· + ·) 0
  (r.1.each hs (fun s h => s.copyRecord b r.2 h bad)).bump F.MED_GC_CNT_COPIED_MIB (mibOf bytes) b.motif

/-- Up to `n` bands of a motif go into collection, never more than MAX_ACTIVE at once (R241). -/
def State.collect (s : State) (motif n : Nat) (bad : BadPages) : State :=
  let room := max 1 (s.fld F.MED_GC_CTL_MAX_ACTIVE motif) - s.gcActive motif
  ((s.each ((s.victims motif).take (min n room)) (fun s b => match s.med.maps.band b.num with
    | some x => if x.state = 2 then s.collectBand x bad else s
    | none => s)).settleBands)

/-- Free data blocks are below FREE_LOW_PCT (R241). -/
def State.poolLow (s : State) (motif : Nat) : Bool :=
  let total := (s.dataModules.map s.dataBlocks).foldl (· + ·) 0
  let free := (s.dataModules.map s.freeBlocks).foldl (· + ·) 0
  decide (free * 100 < s.fld F.MED_GC_CTL_FREE_LOW_PCT motif * total)

/-- GC_QUOTA (R60, R241): a slot lets each motif start at most ARG bands. -/
def execGcQuota (slot : Nat) (overrun : Bool) (bad : BadPages) (s : State) : Host.Outcome State Fault Refusal :=
  live s (fun s => s.slotFire slot 0x15 overrun (fun s arg => s.under bad (fun s => s.each s.motifs (fun s m => s.collect m arg bad))))

/-- GC_COLLECT_START (R241): the pool is low, so a motif collects without waiting for a slot. -/
def execGcCollectStart (motif : Nat) (bad : BadPages) (s : State) : Host.Outcome State Fault Refusal :=
  live s (fun s => if s.inService && s.poolLow motif then s.under bad (fun s => s.collect motif (s.victims motif).length bad) else s)

/-- The relocation transaction of a band. -/
def State.relocOf (s : State) (band : Nat) : Option Txn := s.med.txns.find? (fun t => decide (t.fin = TxnEnd.reloc band) && !t.sent)

/-- The records that end a relocation (R242 step 3): the band's pages unmapped, its units freed, the band ERASE_PENDING. -/
def endRecs (b : Band) : List JRec :=
  (List.range b.dataPages).map (fun i => JRec.mmap (b.pageAt i) default) ++ b.units.map (fun u => JRec.unit u false) ++ [JRec.band { b with state := 5 }]

/-- The live records of a band that its relocation does not hold yet. -/
def State.uncopied (s : State) (b : Band) (t : Txn) : List Nat :=
  (s.med.maps.handlesIn b).filter (fun h => !(t.recs.any (fun r => match r with | .move x _ _ => x == h | _ => false)))

/-- GC_COPY_COMPLETE (R242): records left by an earlier try are copied first; then every copy of a victim's live records is verified and programmed; COPIED is journaled and the relocation transaction appended. -/
def execGcCopyComplete (band : Nat) (s : State) : Host.Outcome State Fault Refusal :=
  live s (fun s =>
    match s.med.maps.band band, s.relocOf band with
    | some b, some t =>
      if b.state = 3 ∧ s.uncopied b t ≠ [] then (s.each (s.uncopied b t) (fun s h => s.copyRecord b t.id h [])).settleBands
      else if b.state = 3 ∧ ¬ s.med.packed.any (fun r => r.txn == t.id) then
        let s := s.setBandState b 4
        let s := s.modTxn t.id (fun t => { t with recs := t.recs ++ endRecs { b with state := 4 } })
        (s.sendTxn t.id).syncMedia
      else s
    | _, _ => s)

/-! ## Erase -/

/-- A read in flight uses a band (R168). -/
def State.bandRead (s : State) (b : Band) : Bool :=
  s.bob.jobs.any (fun j => (j.pages ++ j.got.map (fun p => p.1)).any (fun p => (b.indexOf p).isSome))

/-- An erase of a band is outstanding or held. -/
def State.erasing (s : State) (n : Nat) : Bool := (s.bob.cmds ++ s.bob.heldCmds).any (fun c => decide (c.why = BobWhy.erase n))

/-- BAND_ERASE (R168, R236, R242, R497): an ERASE_PENDING band with no read in flight is erased; one that was ERASING when its head lost it is erased again. -/
def execBandErase (band : Nat) (s : State) : Host.Outcome State Fault Refusal :=
  live s (fun s =>
    match s.med.maps.band band with
    | some b =>
      let again := decide (b.state = 6) && decide (b.erased < b.members.length) && !(s.erasing band)
      if (b.state = 5 ∨ again) ∧ s.inService ∧ s.owns b.ground ∧ ¬ s.bandRead b then
        let s := s.setBandState { b with erased := 0 } 6
        (s.each b.members (fun s x => s.sendCmd (BobCmd.onBlock 0x12 3 b.ground x (.erase band)))).syncMedia
      else s
    | none => s)

/-- The good blocks of a module with the least and the most erases: the two counts. -/
def State.eraseSpread (s : State) (m : Module) : Nat × Nat :=
  let l := (s.descsOf m.idx).filter (fun d => d.use != 8)
  let listed := l.map (fun d => d.erases)
  let least := if l.length < m.goodBlocks then 0 else listed.foldl min (listed.headD 0)
  (least, listed.foldl max 0)

/-- WEAR_QUEUE (R244): where the spread of a module passes WEAR_SPREAD, the FULL band that holds its least-erased block is queued. -/
def State.wearQueue (s : State) (i : Nat) : State :=
  match s.module i with
  | none => s
  | some m =>
    let sp := s.eraseSpread m
    if sp.2 - sp.1 ≤ s.fld F.MED_MEDIA_CTL_WEAR_SPREAD (i / 32) then s
    else
      match s.med.maps.bands.find? (fun b => b.state == 2 && b.members.any (fun x => x.module == i && decide ((s.descOf x).erases = sp.1))) with
      | some b => s.modMaps (fun k => k.putBand { b with wear := true })
      | none => s

/-- A block freed after its erase: ERASES + 1, READS 0, FREE; a RETIRED block stays so. -/
def State.freedDesc (s : State) (b : BlockId) : BlockDesc :=
  let d := s.descOf b
  { d with erases := d.erases + 1, reads := 0, band := 0, use := if d.use = 8 then 8 else 0, ground := 0 }

/-- BAND_ERASE_COMPLETE (R236): every erase of a band has completed; its blocks are FREE. -/
def execBandEraseComplete (band : Nat) (s : State) : Host.Outcome State Fault Refusal :=
  live s (fun s =>
    match s.med.maps.band band with
    | some b =>
      if b.state = 6 ∧ b.members.length ≤ b.erased then
        let recs := b.members.map (fun x => JRec.block x (s.freedDesc x))
        let s := s.journal b.ground b.motif (recs ++ [JRec.band { b with state := 0 }])
        let s := s.bump F.MED_GC_CNT_BANDS 1 b.motif
        let s := (s.each (b.members.map (fun x => x.module)) State.wearQueue).each (b.members.map (fun x => x.module)) State.rebuildDone
        (s.retryPacking.settleBands).admitWaiting
      else s
    | none => s)

/-! ## Scrub -/

/-- The stream pages of the head's bands that are programmed, in order: what scrub goes through. -/
def State.scrubPages (s : State) : List Nat :=
  (s.med.maps.bands.filter (fun b => b.state == 2 && s.owns b.ground)).flatMap (fun b =>
    ((List.range b.dataPages).filter (fun i => b.programmed (b.place i).1)).map b.pageAt)

/-- A stream page read and its records checked as on a read (R243): failing records are refreshed. -/
def State.scrubPage (s : State) (p : Nat) (bad : BadPages) : State :=
  let r := s.readPage p bad
  let hit := r.1.med.maps.ctab.filter (fun c => c.2.state == 2 && c.2.pages.contains p)
  r.1.each hit (fun s c => match s.readRecord (handleMotif c.1) c.2 bad with
    | (s, .ok _) => s
    | (s, .error w) => if isCheckFail w then s.refreshRecord c.2 else s)

/-- MEDIA_SCRUB (R60, R243): a slot reads ARG stream pages, going on where the last firing stopped. -/
def execMediaScrub (slot : Nat) (overrun : Bool) (bad : BadPages) (s : State) : Host.Outcome State Fault Refusal :=
  live s (fun s => s.slotFire slot 0x12 overrun (fun s arg => s.under bad (fun s =>
    let l := s.scrubPages
    let now := (List.range (min arg l.length)).filterMap (fun i => l[(s.med.scrub + i) % l.length]?)
    let s := s.modMed (fun d => { d with scrub := if l.isEmpty then 0 else (d.scrub + now.length) % l.length })
    (s.each now (fun s p => s.scrubPage p bad)).syncMedia)))

end Sys2Proof.Machine
end

