-- ==== Sys2Proof/Machine/Redundancy.lean ====
section
/-! DEFINITION. Redundancy across modules: member failure (R267, R268), rebuild (R269 to R273), patrol (R274, R275), roles and domains (R257, R258), and the
health that TELEMETRY gives. -/

namespace Sys2Proof.Machine

/-! ## Failure of a module -/

/-- A band takes no further stripe, and the records gathered for its next one are packed again (R261, R270). -/
def State.closeAndRepack (s : State) (b : Band) : State :=
  let x := s.shutBand b
  x.1.each x.2 State.packRecord

/-- The positions of a band whose module is FAILED. -/
def State.missing (s : State) (b : Band) : List Nat :=
  (List.range b.members.length).filter (fun p => decide (s.role (b.members.getD p default).module = 3))

/-- A band that misses members enough to be exposed (R270). -/
def State.exposed (s : State) (b : Band) : Bool := decide (max (b.m - 1) 1 ≤ (s.missing b).length)

/-- The bands of a motif that rebuild has still to do (R270): OPEN and FULL bands with a missing member. -/
def State.toRebuild (s : State) (motif : Nat) : List Band :=
  s.med.maps.bands.filter (fun b => b.motif == motif && (b.state == 1 || b.state == 2) && s.owns b.ground && !(s.missing b).isEmpty && !b.refresh)

/-- ECU_RB_ST brought in step. -/
def State.syncRebuild (s : State) : State :=
  s.each s.motifs (fun s m =>
    let l := s.toRebuild m
    let s := (s.setFld F.ECU_RB_ST_BANDS_LEFT l.length m).setFld F.ECU_RB_ST_EXPOSED ((l.filter s.exposed).length) m
    s.setFld F.ECU_RB_ST_ACTIVE (b2n (!l.isEmpty)) m)

/-- How many members of a band lie in a domain, a position left out. -/
def State.inDomain (s : State) (b : Band) (fd : Nat) (skip : List Nat) : Nat :=
  ((List.range b.members.length).filter (fun p => !(skip.contains p) && s.fdOf (b.members.getD p default).module == fd)).length

/-- The SPARE module that R269 chooses for a failed module of a domain: of that domain, else of the domain with the fewest DATA modules, lowest index. -/
def State.spareFor (s : State) (fd : Nat) : Option Module :=
  let l := sortBy (fun a b => decide (a.idx < b.idx)) (s.bob.modules.filter (fun m => s.role m.idx == 2 && s.modUsable m.idx))
  match l.find? (fun m => s.fdOf m.idx == fd) with
  | some m => some m
  | none =>
    let load := fun (m : Module) => (s.dataModules.filter (fun x => s.fdOf x.idx == s.fdOf m.idx)).length
    l.foldl (fun (a : Option Module) m => match a with
      | none => some m
      | some x => if load m < load x then some m else some x) none

/-- The replacement block for a missing position of a band (R269); `used` are modules already chosen for other positions. -/
def State.replacement (s : State) (b : Band) (pos : Nat) (used : List Nat) : Option BlockId :=
  let miss := s.missing b
  let fd := s.fdOf (b.members.getD pos default).module
  let fits := fun (m : Module) => !(used.contains m.idx) && !(b.members.any (fun x => x.module == m.idx)) &&
    decide (s.inDomain b (s.fdOf m.idx) miss + (used.filter (fun u => s.fdOf u == s.fdOf m.idx)).length < b.m)
  let spare := (s.spareFor fd).bind (fun m => if fits m then s.chooseBlock m 0 else none)
  match spare with
  | some x => some x
  | none => (s.qualified.find? fits).bind (fun m => s.chooseBlock m 0)

/-- Replacements for every missing position of a band; none while some position has no replacement. -/
def State.replacements (s : State) (b : Band) : Option (List (Nat × BlockId)) :=
  (s.missing b).foldl (fun (a : Option (List (Nat × BlockId))) p =>
    a.bind (fun l => (s.replacement b p (l.map (fun x => x.2.module))).map (fun x => l ++ [(p, x)]))) (some [])

/-- A selector of a class names a ground, itself or through a namespace (R270, R274). -/
def State.groundNamed (s : State) (c g : Nat) : Bool :=
  s.activePart.sels.any (fun e => e.cls == c && ((e.kind == 2 && e.first % 256 == g) ||
    (e.kind == 1 && s.med.maps.namespaces.any (fun n => n.ground == g && decide (e.first ≤ n.id) && decide (n.id ≤ e.last)))))

/-- A ground's rank in rebuild (R270). -/
def State.groundRank (s : State) (g : Nat) : Nat := if s.groundNamed 0 g then 0 else if s.groundNamed 1 g then 1 else 2

/-- The order in which bands are rebuilt (R270). -/
def State.rebuildBefore (s : State) (a b : Band) : Bool :=
  let key := fun (x : Band) => (b2n (!(s.exposed x)), 32 - (s.missing x).length, s.groundRank x.ground, x.num)
  let x := key a
  let y := key b
  decide (x.1 < y.1) || (decide (x.1 = y.1) && (decide (x.2.1 < y.2.1) || (decide (x.2.1 = y.2.1) &&
    (decide (x.2.2.1 < y.2.2.1) || (decide (x.2.2.1 = y.2.2.1) && decide (x.2.2.2 < y.2.2.2))))))

/-- The pages of one row for missing positions: decoded, or zero filler for rows that are torn, not programmed or lost (R271). -/
def rowPages (b : Band) (stripe : Nat) (positions : List Nat) (data : Option (List Bytes)) : List Bytes :=
  positions.map (fun p =>
    match data with
    | none => zeros 16384
    | some l => let e := codeMemberAt (b.k + b.m) stripe p; if e < b.k then l.getD e [] else parityPage l (e - b.k))

/-- The rows of a band rebuilt in order, each answer one page per missing position; none where a timeout or a stale claim ends it (R265, R271, R272). -/
def State.rebuildRows (s : State) (b : Band) (positions : List Nat) (bad : BadPages) : List Nat → State × Option (List (List Bytes))
  | [] => (s, some [])
  | i :: t =>
    let stripe := i / 4
    let row := i % 4
    let rest := fun (s : State) (d : Option (List Bytes)) =>
      match s.rebuildRows b positions bad t with
      | (s, none) => (s, none)
      | (s, some l) => (s, some (rowPages b stripe positions d :: l))
    if !b.programmed stripe then rest s none
    else
      match s.decodeAt b stripe row bad with
      | .ok l =>
        let lost := s.lostMembers b stripe row bad
        let s := s.countRow b stripe (s.decodedFrom b stripe row bad)
        rest (if positions.length < lost.length then s.queueRefresh b.num else s) (some l)
      | .error w => if w = 0x3901 then rest (s.rowLost b stripe row (s.lostMembers b stripe row bad)) none else (s, none)

/-- The bands of a motif that rebuild can begin with: FULL ones, in order. -/
def State.rebuildOrder (s : State) (motif : Nat) : List Band := sortBy s.rebuildBefore ((s.toRebuild motif).filter (fun b => b.state == 2))

/-- A rebuild is abandoned (R272): its replacement blocks are erased and freed; its band begins again from stripe 0. -/
def State.abandonRebuild (s : State) (j : RebuildJob) : State :=
  let s := s.modBob (fun b => { b with heldCmds := b.heldCmds.filter (fun c => decide (c.why ≠ BobWhy.rebuild j.band)) })
  s.modMed (fun d => { d with rebuilds := d.rebuilds.filter (fun x => x.band != j.band), stale := d.stale ++ j.repl.map (fun r => r.2) })

/-- The rebuild of a band abandoned, where one runs. -/
def State.abandonBand (s : State) (num : Nat) : State :=
  match s.med.rebuilds.find? (fun j => j.band == num) with | some j => s.abandonRebuild j | none => s

/-- The programs of a rebuild (R271 step 2): the rows of each stripe at the pages of each replacement block, in page order. -/
def State.programRows (s : State) (b : Band) (repl : List (Nat × BlockId)) (rows : List (List Bytes)) : State :=
  s.each (List.range b.stripes) (fun s st => s.each ((List.range repl.length).zip repl) (fun s p =>
    let data := ((rows.drop (4 * st)).take 4).flatMap (fun r => r.getD p.1 [])
    s.sendCmd (BobCmd.program 3 b.ground p.2.2 (4 * st) data (.rebuild b.num))))

/-- The rebuild of a band begins (R271 steps 1 and 2): BLOCK records of its replacement blocks, a spare that receives its first member becomes DATA (R269), its rows are decoded and
their programs issued. Where a read times out or the claim is stale it is left for another try. -/
def State.rebuildBand (s : State) (b : Band) (repl : List (Nat × BlockId)) (bad : BadPages) : State :=
  let positions := repl.map (fun r => r.1)
  match s.rebuildRows b positions bad (List.range (4 * b.stripes)) with
  | (s, none) => s
  | (s, some rows) =>
    let s := s.journal b.ground b.motif (repl.map (fun r => JRec.block r.2 { s.descOf r.2 with use := 1, band := b.num, ground := b.ground }))
    let s := s.each repl (fun s r => if s.role r.2.module = 2 then s.setModState r.2.module ⟨1, s.fdOf r.2.module, 0⟩ else s)
    let j : RebuildJob := { band := b.num, motif := b.motif, ground := b.ground, repl := repl, left := b.stripes * repl.length, txn := none }
    (s.modMed (fun d => { d with rebuilds := d.rebuilds ++ [j] })).programRows b repl rows

/-- A motif that rebuilds no band begins with the first one in order that has its replacements, in a context of an erasure unit (R263, R270). -/
def State.beginRebuild (s : State) (motif : Nat) (bad : BadPages) : State :=
  if s.med.rebuilds.any (fun j => j.motif == motif) || (s.freeUnits .ecu motif (fun _ => true)).isEmpty then s
  else
    match (s.rebuildOrder motif).findSome? (fun b => (s.replacements b).map (fun r => (b, r))) with
    | some (b, r) => (s.holdContext .ecu motif 3 (fun _ => true)).1.rebuildBand b r bad
    | none => s

/-- The MEMBER transaction of a rebuild whose programs have all completed (R271 step 3): a MEMBER record per replaced position, the old blocks RETIRED. -/
def State.memberTxn (s : State) (j : RebuildJob) : State :=
  match s.med.maps.band j.band with
  | none => s
  | some b =>
    let gone := j.repl.map (fun r => b.members.getD r.1 default)
    let recs := j.repl.map (fun r => JRec.member b.num r.1 r.2) ++ gone.map (fun x => JRec.block x { s.descOf x with use := 8 })
    let r := s.addTxn b.ground b.motif recs false (.rebuilt b.num)
    (r.1.sendTxn r.2).modMed (fun d => { d with rebuilds := mapWhere (fun x => x.band == j.band) (fun x => { x with txn := some r.2 }) d.rebuilds })

/-- A program of a rebuild has succeeded; after the last one the MEMBER transaction is written. -/
def State.rebuildProgrammed (s : State) (num : Nat) : State :=
  let s := s.modMed (fun d => { d with rebuilds := mapWhere (fun j => j.band == num) (fun j => { j with left := j.left - 1 }) d.rebuilds })
  match s.med.rebuilds.find? (fun j => j.band == num && j.left == 0 && j.txn.isNone) with
  | some j => s.memberTxn j
  | none => s

/-- A rebuild that still programs misses a further member, or a replacement block (R272). -/
def State.rebuildBroken (s : State) (j : RebuildJob) : Bool :=
  j.txn.isNone && (j.repl.any (fun r => decide (s.role r.2.module = 3)) ||
    (match s.med.maps.band j.band with | some b => decide (s.missing b ≠ j.repl.map (fun r => r.1)) | none => true))

/-- REBUILD_START (R269, R270, R272): rebuilds that lost a further member are abandoned, bands of little live content are queued for collection instead, open bands are closed, a band
without a replacement shows in NO_SPARE, and each motif begins with its first band. -/
def State.startRebuild (s : State) (bad : BadPages) : State :=
  let s := s.each (s.med.rebuilds.filter s.rebuildBroken) State.abandonRebuild
  let l := s.med.maps.bands.filter (fun b => (b.state == 1 || b.state == 2) && s.owns b.ground && !(s.missing b).isEmpty)
  let s := s.each l (fun s b =>
    if b.state = 1 then (if b.next < b.stripes then s.closeAndRepack b else s)
    else if s.med.rebuilds.any (fun j => j.band == b.num) then s
    else if s.med.maps.liveSectors b * 100 < s.fld F.ECU_RB_CTL_GC_PCT b.motif * (64 * b.dataPages) then
      s.modMaps (fun m => m.putBand { b with refresh := true })
    else if (s.replacements b).isNone then s.setEvt F.ECU_EVT_NO_SPARE b.motif
    else s)
  let s := s.settleBands
  ((s.each s.motifs (fun s m => s.beginRebuild m bad)).settleBands).syncRebuild

/-- A command outstanding on a module that fails ends (R265, R267): a read is reconstructed, a program fails its stripe, an erase counts as done with. -/
def State.orphanCmd (s : State) (c : BobCmd) (bad : BadPages) : State :=
  match c.why with
  | .read job page => s.reconstructFor job page bad
  | .program b st => s.endProgram b st true true
  | .erase b => s.modMaps (fun m => { m with bands := mapWhere (fun x => x.num == b) (fun x => { x with erased := x.erased + 1 }) m.bands })
  | .staging q _ => s.modMed (fun d => { d with staging := mapWhere (fun e => e.seq == q) (fun e => { e with obsolete := true }) d.staging })
  | .page id copy => s.copyLost id copy
  | .rebuild b => s.abandonBand b
  | _ => s

/-- The commands of a module are gone, and end as `f` says. -/
def State.dropCmds (s : State) (p : BobCmd → Bool) (f : State → BobCmd → State) : State :=
  let l := s.bob.cmds.filter p
  (s.modBob (fun b => { b with cmds := b.cmds.filter (fun c => !p c) })).each l f

/-- MODULE_FAIL (R267): the module is FAILED with a cause, MODSTATE is journaled, and rebuild starts. -/
def State.moduleFail (s : State) (i cause : Nat) (bad : BadPages) : State :=
  if s.role i = 3 then s.setFld F.ECU_MOD_FAIL 0 0 i
  else
    let s := (s.setModState i ⟨3, s.fdOf i, cause⟩).setFld F.ECU_MOD_FAIL 0 0 i
    let s := (s.setEvt F.ECU_EVT_MEMBER_FAIL (i / 32)).sample 0x0009 (bytesOf [i, cause] ++ zeros 6 ++ leBytes 8 s.num)
    let held := s.bob.heldCmds.filter (fun c => c.mod == i)
    let s := s.modBob (fun b => { b with heldCmds := b.heldCmds.filter (fun c => c.mod != i) })
    let s := (s.dropCmds (fun c => c.mod == i) (fun s c => s.orphanCmd c bad)).each held (fun s c => s.orphanCmd c bad)
    ((s.startRebuild bad).rebuildDone i).syncMod i

/-- A module whose link has been down for 2,000 stitches is FAILED (R267). -/
def State.linkDownLong (s : State) (i : Nat) (bad : BadPages) : State :=
  match s.module i with
  | some m => if ¬ m.linkUp ∧ m.downAt + 2000 ≤ s.num then s.moduleFail i 1 bad else s
  | none => s

/-- MODULE_READY_TIMEOUT (R267, R297): a port has not reached step 6 of discovery within 2 s: FAILED at Winding step 11, absent in service. -/
def execModuleReadyTimeout (i : Nat) (s : State) : Host.Outcome State Fault Refusal :=
  live s (fun s =>
    if s.modReady i then s
    else if s.inStep 11 then s.moduleFail i 4 []
    else (s.setFld F.BOB_MOD_ST_PRESENT 0 (i / 32) (i % 32)).syncMod i)

/-! ## ECU_MOD -/

/-- A refused write of ECU_MOD. -/
def State.refuseMod (s : State) (i : Nat) : State := s.setFld F.ECU_MOD_STATUS 0x2905 0 i

/-- Erases of a reinstatement end (R268): with the last one the module is SPARE. -/
def State.endReinstate (s : State) (i : Nat) : State :=
  let mine := fun (c : BobCmd) => c.mod == i && decide (c.why = BobWhy.reinstate)
  if s.flag F.ECU_MOD_REINSTATE 0 i && decide (s.role i = 3) && !(s.bob.cmds.any mine) && !(s.bob.heldCmds.any mine) then
    (((s.setModState i ⟨2, s.fdOf i, 0⟩).setFld F.ECU_MOD_REINSTATE 0 0 i).startRebuild []).syncMedia
  else s

/-- A reinstatement that may begin erases every block of the module (R268, R291). -/
def State.beginReinstate (s : State) (i : Nat) : State :=
  match s.module i with
  | none => s
  | some m =>
    if s.flag F.ECU_MOD_REINSTATE 0 i && decide (s.role i = 3) && !(s.holdsMembers i) && s.modReady i then
      let blocks := (List.range m.info.luns).flatMap (fun l => (List.range m.info.blocks).map (fun b => (⟨i, l, b⟩ : BlockId)))
      let good := blocks.filter (fun b => !(m.info.bad.contains (b.lun, b.block)))
      (s.each good (fun s b => s.sendCmd (BobCmd.onBlock 0x12 3 0 b .reinstate))).endReinstate i
    else s

/-- A write of ECU_MOD[i] (R257, R258, R267, R268): domain, role, FAIL and REINSTATE in that order. -/
def State.writeEcuMod (s : State) (i value : Nat) (bad : BadPages) : State :=
  if 256 ≤ i then s
  else
    let fd := bits value 29 24
    let role := bits value 2 0
    let s := if fd ≠ s.fdOf i ∧ ¬ s.holdsMembers i then s.setModState i ⟨s.role i, fd, s.fld F.ECU_MOD_CAUSE 0 i⟩ else s
    let s :=
      if (role = 1 ∨ role = 2) ∧ role ≠ s.role i then
        if s.holdsMembers i ∨ s.role i = 3 ∨ s.role i = 0 then s.refuseMod i
        else
          let s := s.setModState i ⟨role, s.fdOf i, 0⟩
          (if role = 2 then s.startRebuild bad else s).syncMedia
      else s
    let s := if bit value 8 then s.moduleFail i 6 bad else s
    if bit value 9 then
      if s.role i ≠ 3 ∨ s.holdsMembers i then s.refuseMod i
      else if s.flag F.ECU_MOD_REINSTATE 0 i then s
      else (s.setFld F.ECU_MOD_REINSTATE 1 0 i).beginReinstate i
    else s

/-- ECU_MOD_REINSTATE (R268): firmware writes ECU_MOD[i].REINSTATE. -/
def execEcuModReinstate (i value : Nat) (s : State) : Host.Outcome State Fault Refusal := live s (fun s => s.writeEcuMod i value [])

/-- ECU_MOD_ROLE (R258): firmware writes ECU_MOD[i].ROLE. -/
def execEcuModRole (i value : Nat) (s : State) : Host.Outcome State Fault Refusal := live s (fun s => s.writeEcuMod i value [])

/-- ECU_MOD_FD (R257): firmware writes ECU_MOD[i].FD. -/
def execEcuModFd (i value : Nat) (s : State) : Host.Outcome State Fault Refusal := live s (fun s => s.writeEcuMod i value [])

/-! ## Rebuild -/

/-- The MEMBER transaction of a rebuild is durable, or can be now: its journal bytes are on flash in two copies, or acknowledged. -/
def State.memberDurable (s : State) (id : Nat) : State × Bool :=
  match s.txn id with
  | none => (s, true)
  | some t =>
    if t.durable then (s, true)
    else if s.firstUndurable t && (decide (t.span.2 ≤ s.flushed t.ground t.motif) || (t.mirrored && s.journalAcked id)) then (s.makeDurable t, true)
    else (s, false)

/-- A rebuild whose MEMBER transaction is durable ends (R271, R273). -/
def State.endRebuild (s : State) (j : RebuildJob) (bad : BadPages) : State :=
  let s := s.modMed (fun d => { d with rebuilds := d.rebuilds.filter (fun x => x.band != j.band) })
  let failed := (s.bob.modules.filter (fun m => s.role m.idx == 3)).map (fun m => m.idx)
  ((s.each failed State.rebuildDone).beginRebuild j.motif bad).syncMedia.syncRebuild

/-- REBUILD_BAND_DONE (R271): the strips of the band that a motif rebuilds are programmed and its MEMBER transaction is durable, and the next band in order follows; a motif that
rebuilds none begins one. -/
def execRebuildBandDone (motif : Nat) (bad : BadPages) (s : State) : Host.Outcome State Fault Refusal :=
  live s (fun s => s.under bad (fun s =>
    match s.med.rebuilds.find? (fun j => j.motif == motif) with
    | none => (s.beginRebuild motif bad).settleBands.syncRebuild
    | some j =>
      match j.txn with
      | none => s
      | some id =>
        let r := s.memberDurable id
        if r.2 then (r.1.endRebuild j bad).settleBands else r.1))

/-! ## Patrol -/

/-- The stripes that patrol of a motif covers, in band and stripe order (R274). -/
def State.patrolStripes (s : State) (motif : Nat) : List (Nat × Nat) :=
  let l := s.med.maps.bands.filter (fun b => b.motif == motif && b.state == 2 && s.owns b.ground && s.groundNamed 2 b.ground)
  (sortBy (fun a b => decide (a.num < b.num)) l).flatMap (fun b => ((List.range b.done).filter b.programmed).map (fun st => (b.num, st)))

/-- Live content with a sector in a stream page. -/
def State.contentAt (s : State) (pages : List Nat) : List (Nat × CEntry) :=
  s.med.maps.ctab.filter (fun c => c.2.state == 2 && c.2.pages.any (fun p => pages.contains p))

/-- A record checked with some of its pages given. -/
def State.recordHolds (s : State) (c : Nat × CEntry) (given : List (Nat × Bytes)) (bad : BadPages) : State × Bool :=
  let r := c.2.pages.foldl (fun (a : State × List Bytes × Bool) p =>
    match getKey given p with
    | some d => (a.1, a.2.1 ++ [d], a.2.2)
    | none => match a.1.readPage p bad with
      | (s, .ok d) => (s, a.2.1 ++ [d], a.2.2)
      | (s, .error _) => (s, a.2.1 ++ [[]], false)) (s, [], true)
  if !r.2.2 then (r.1, false)
  else match r.1.checkRecord (handleMotif c.1) false c.2 (c.2.cut r.2.1) with
    | (s, .ok _) => (s, true)
    | (s, .error _) => (s, false)

/-- Records that do not hold, in order. -/
def State.failingOf (s : State) (l : List (Nat × CEntry)) (given : List (Nat × Bytes)) (bad : BadPages) : State × List (Nat × CEntry) :=
  l.foldl (fun (a : State × List (Nat × CEntry)) c =>
    let r := a.1.recordHolds c given bad
    (r.1, if r.2 then a.2 else a.2 ++ [c])) (s, [])

/-- A row whose parity does not match (R275). -/
def State.patrolMismatch (s : State) (b : Band) (stripe row : Nat) (data : List Bytes) (good : List (Nat × Bytes)) (bad : BadPages) : State :=
  let page := fun (e : Nat) => b.pageAt (4 * b.k * stripe + 4 * e + row)
  let s := (s.setEvt F.ECU_EVT_PATROL_MISMATCH b.motif).ecuStatus b.motif 0x5904
  let given := (List.range b.k).map (fun e => (page e, data.getD e []))
  let f := s.failingOf (s.contentAt ((List.range b.k).map page)) given bad
  if f.2.isEmpty then (f.1.queueRefresh b.num).bump F.ECU_CNT2_PARITY_BAD 1 b.motif
  else
    let members := (List.range b.k).filter (fun e => f.2.any (fun c => c.2.pages.contains (page e)))
    let fixed := decodeRow b.k (good.filter (fun g => !(members.contains g.1)))
    let again := f.1.failingOf f.2 ((List.range b.k).map (fun e => (page e, fixed.getD e []))) bad
    if members.length ≤ b.m ∧ again.2.isEmpty then
      (again.1.each f.2 (fun s c => s.refreshRecord c.2)).bump F.ECU_CNT2_CORRECTED 1 b.motif
    else (again.1.ecuStatus b.motif 0x3901).rowLost b stripe row members

/-- One row under patrol (R274): compared where every member is there, else reconstructed. -/
def State.patrolRow (s : State) (b : Band) (stripe row : Nat) (bad : BadPages) : State :=
  let good := s.goodMembers b stripe row bad
  if good.length < b.k + b.m then
    match s.decodeAt b stripe row bad with
    | .ok _ => s.countRow b stripe (s.decodedFrom b stripe row bad)
    | .error w => if w = 0x3901 then (s.ecuStatus b.motif w).rowLost b stripe row (s.lostMembers b stripe row bad) else s
  else
    let s := s.countRow b stripe (good.map (fun g => g.1))
    let data := (good.filter (fun g => decide (g.1 < b.k))).map (fun g => g.2)
    let parity := (good.filter (fun g => decide (b.k ≤ g.1))).map (fun g => g.2)
    if encodeRow data b.m = parity then s else s.patrolMismatch b stripe row data good bad

/-- A motif's patrol starts a pass. -/
def State.newPass (s : State) (m : Nat) : State :=
  let s := (s.setFld F.ECU_PAT_ST_CHECKED 0 m).setFld F.ECU_PAT_ST_TOTAL (s.patrolStripes m).length m
  s.setFld F.ECU_PAT_START_STITCH s.num m

/-- A motif patrols ARG stripes, with CHECK jobs one after another in one context (R263); with no context free it waits for the next slot (log 80). -/
def State.patrolMotif (s : State) (m arg : Nat) (bad : BadPages) : State :=
  if !(s.flag F.ECU_CTL_PATROL_EN m) || (s.freeUnits .ecu m (fun _ => true)).isEmpty then s
  else
    let s := (s.holdContext .ecu m 3 (fun _ => true)).1
    let s := if s.fld F.ECU_PAT_ST_TOTAL m ≤ s.fld F.ECU_PAT_ST_CHECKED m then s.newPass m else s
    let l := ((s.patrolStripes m).drop (s.fld F.ECU_PAT_ST_CHECKED m)).take arg
    let s := s.each l (fun s p => match s.med.maps.band p.1 with
      | some b => s.each (List.range 4) (fun s row => s.patrolRow b p.2 row bad)
      | none => s)
    s.setFld F.ECU_PAT_ST_CHECKED (s.fld F.ECU_PAT_ST_CHECKED m + l.length) m

/-- PATROL (R60, R274): a slot lets each motif check ARG stripes. -/
def execPatrol (slot : Nat) (overrun : Bool) (bad : BadPages) (s : State) : Host.Outcome State Fault Refusal :=
  live s (fun s => s.slotFire slot 0x11 overrun (fun s arg => s.under bad (fun s => s.each s.motifs (fun s m => s.patrolMotif m arg bad))))

/-- PATROL_BEHIND (R274): a pass has not ended within PATROL_DAYS of its start. -/
def execPatrolBehind (motif : Nat) (s : State) : Host.Outcome State Fault Refusal :=
  live s (fun s =>
    let days := (s.activePart.grounds.filter (fun g => s.owns g.ground && s.groundNamed 2 g.ground)).map (fun g => g.patrolDays)
    let late := days.any (fun d => decide (s.fld F.ECU_PAT_START_STITCH motif + (if d = 0 then 14 else d) * 17280000000 ≤ s.num))
    if s.hasMotif motif ∧ late ∧ s.fld F.ECU_PAT_ST_CHECKED motif < s.fld F.ECU_PAT_ST_TOTAL motif then s.setEvt F.ECU_EVT_PATROL_BEHIND motif else s)

/-! ## Health -/

/-- WEAR_PCT of a module. -/
def State.wearPct (s : State) (m : Module) : Nat :=
  let total := ((s.descsOf m.idx).map (fun d => d.erases)).foldl (· + ·) 0
  let blocks := m.info.luns * m.info.blocks
  if blocks * m.info.ratedErases = 0 then 0 else min 255 (100 * total / (blocks * m.info.ratedErases))

/-- The health registers show the module that MED_HSEL selects. -/
def State.syncHealth (s : State) : State :=
  let i := s.fld F.MED_HSEL_MODULE
  let t := Sparse.get [] s.bob.tele i
  let s := match s.module i with
    | none => s
    | some m =>
      let s := (s.setFld F.MED_HEALTH_SPARE_PCT (min 255 (s.sparePct i))).setFld F.MED_HEALTH_WEAR_PCT (s.wearPct m)
      s.setFld F.MED_HEALTH_MAX_ERASES (((s.descsOf i).map BlockDesc.erases).foldl max 0)
  let s := s.setFld F.MED_HEALTH_TEMP_C (leAt t 2 2 % 256)
  let s := s.each (List.range 3) (fun s k => s.setFld F.MED_HERR_COUNT (leAt t (8 + 8 * k) 8) 0 k)
  s.each (List.range 16) (fun s k => s.setFld F.MED_HTEMP_MINUTES (Sparse.get 0 s.bob.temps (16 * i + k)) 0 k)

/-- The histogram bin of a module temperature. -/
def tempBin (t : Int) : Nat := if t < 20 then 0 else if 90 ≤ t then 15 else ((t - 20) / 5).toNat + 1

/-- TELEMETRY data of a module kept (R287): counts, temperature and its histogram. -/
def State.keepTelemetry (s : State) (i : Nat) (data : Bytes) : State :=
  let k := 16 * i + tempBin (signed 16 (leAt data 2 2))
  let t := data.take 0x28
  let s := s.modBob (fun b => { b with tele := Sparse.set [] b.tele i t, temps := Sparse.set 0 b.temps k (satAdd 0xFFFFFFFF (Sparse.get 0 b.temps k) 1) })
  s.syncHealth.syncMedia

/-- TELEMETRY_POLL (R287): every 12,000,000 stitches TELEMETRY goes to every module. -/
def execTelemetryPoll (s : State) : Host.Outcome State Fault Refusal :=
  live s (fun s =>
    if s.inService ∧ s.num % 12000000 = 0 then
      s.each (s.bob.modules.map (fun m => m.idx)) (fun s i => s.sendCmd (BobCmd.to i 0x30 0 0 .telemetry))
    else s)

end Sys2Proof.Machine
end

