-- ==== Sys2Proof/Machine/Bobbin.lean ====
section
/-! DEFINITION. The bobbin protocol's commands: what a module does (R123, R284 to R290, R296), its ports (R280 to R282, R294), and what the head makes of
completions, timeouts and aborts (R264, R292 to R298). -/

namespace Sys2Proof.Machine

/-! ## The module's side -/

/-- The command that a module works on: one of this head's that a written SQ_TAIL covers and that has no completion yet, or one of the other head's given
whole. The flag says that it is this head's. -/
def State.moduleCmd (s : State) (i q cid : Nat) (other : Option BobCmd) : Option (BobCmd × Bool) :=
  match other with
  | some c => some ({ c with mod := i, qid := q, cid := cid }, false)
  | none =>
    match (s.bob.cmds ++ s.bob.quar.map (fun x => x.1)).find? (fun c => c.mod == i && c.qid == q && c.cid == cid) with
    | none => none
    | some c =>
      match s.module i with
      | none => none
      | some m =>
        if c.slot < m.tails.getD q 0 ∧ ¬ s.bob.cpls.any (fun x => x.mod == i && x.qid == q && x.cid == cid) then some (c, true) else none

/-- The bytes of a completion entry that waits in its queue (R283): SQHD is the head after its command was fetched, PHASE inverts with each pass through the queue. -/
def State.cplBytes (s : State) (x : BobCpl) : Bytes :=
  match s.module x.mod, (s.bob.cmds ++ s.bob.quar.map (fun y => y.1)).find? (fun c => c.mod == x.mod && c.qid == x.qid && c.cid == x.cid) with
  | some m, some c =>
    let n := m.heads.getD x.qid 0 + ((s.bob.cpls.filter (fun y => y.mod == x.mod && y.qid == x.qid)).findIdx? (fun y => y == x)).getD 0
    x.bytes ((c.slot + 1) % m.depth) (1 - n / m.depth % 2)
  | _, _ => x.bytes 0 0

/-- A module completes a command: the entry of this head's goes to its completion queue, the other head's to the other port. -/
def State.moduleCpl (s : State) (c : BobCmd) (own : Bool) (status result : Nat) (data : Bytes) : State :=
  if own then s.modBob (fun b => { b with cpls := b.cpls ++ [⟨c.mod, c.qid, c.cid, status, result, data⟩] }) else s

/-- The opcode's queue is the one the command came on (R281, R284). -/
def rightQueue (c : BobCmd) : Bool := if isMediaOp c.opcode then decide (1 ≤ c.qid) && decide (c.qid ≤ 4) else decide (c.qid = 0)

/-- The used fields of a command are in range and its reserved fields are 0 (R284, R285). -/
def fieldsOk (m : Module) (c : BobCmd) : Bool :=
  let o := c.opcode
  let lunOk := decide (c.lun < m.info.luns)
  let blockOk := lunOk && decide (c.block < m.info.blocks)
  let pagesOk := decide (1 ≤ c.count) && decide (c.count ≤ 4) && decide (c.page + c.count ≤ m.info.pages)
  let g := decide (c.ground < 256)
  decide (c.rsvd = 0) && (!(hasData c) || decide (c.dptr % 4096 = 0)) &&
    (if o = 0x10 then blockOk && g && pagesOk && decide (c.retry ≤ m.info.maxRetry) && decide (c.flags = 0)
    else if o = 0x11 then blockOk && g && pagesOk && decide (c.flags = 0)
    else if o = 0x12 then blockOk && g && decide (c.flags = 0)
    else if o = 0x20 then g && decide (c.flags ≤ 1)
    else if o = 0x21 then g && decide (c.flags ≤ 1)
    else if o = 0x31 then g && decide (1 ≤ c.flags) && decide (c.flags ≤ 3) && decide (c.flags ≠ 3 ∨ c.arg ≤ 1)
    else if o = 0x32 then g && lunOk && decide (c.flags = 0)
    else if o = 0x02 then decide (c.arg ≤ 1) && (decide (c.arg = 0) || lunOk) && decide (c.flags = 0)
    else decide (c.flags = 0))

/-- A module's work on a command (R284, R290): refused with 0x7A09 where the module has failed, 0x2A01 where its opcode is not the one or the queue is wrong,
0x2A02 where a field is out of range, 0x2304 where its claim is not the stored one; else `work`. -/
def State.onModule (s : State) (i q cid opcode : Nat) (other : Option BobCmd) (claimed : Bool)
    (work : State → Module → BobCmd → Bool → State) : State :=
  match s.moduleCmd i q cid other, s.module i with
  | some (c, own), some m =>
    if c.opcode ≠ opcode then s
    else if m.fatal then s.moduleCpl c own 0x7A09 0 []
    else if !rightQueue c then s.moduleCpl c own 0x2A01 0 []
    else if !fieldsOk m c then s.moduleCpl c own 0x2A02 0 []
    else if claimed && decide (c.claim ≠ m.claim c.ground) then s.moduleCpl c own 0x2304 (m.claim c.ground) []
    else work s m c own
  | _, _ => s

/-- Text padded with spaces to a width (R286). -/
def padText (n : Nat) (b : Bytes) : Bytes := b.take n ++ List.replicate (n - b.length) 0x20

/-- IDENTIFY data (R286). -/
def identifyData (m : Module) : Bytes :=
  let b := padText 32 m.info.serial ++ padText 40 m.info.model ++ padText 8 m.info.fwRev ++ m.info.unit.take 16 ++ zeros (16 - m.info.unit.length) ++
    bytesOf [m.info.port, m.info.fd] ++ leBytes 2 m.info.ver
  b ++ zeros (4096 - b.length)

/-- BOBBIN_IDENTIFY (R286). -/
def execBobbinIdentify (i q cid : Nat) (other : Option BobCmd) (s : State) : Host.Outcome State Fault Refusal :=
  .next (s.onModule i q cid 0x01 other false (fun s m c own => s.moduleCpl c own 0 0 (identifyData m)))

/-- GEOMETRY data (R286): the summary, or the bad-block bitmap of a LUN. -/
def geometryData (m : Module) (c : BobCmd) : Bytes :=
  if c.arg = 1 then
    let n := ceilDiv m.info.blocks 32768 * 4096
    let v := (m.info.bad.filter (fun x => x.1 == c.lun)).foldl (fun a x => a ||| 2 ^ x.2) 0
    leBytes n v
  else
    let b := bytesOf [m.info.luns, m.info.planes] ++ leBytes 2 m.info.pageKib ++ leBytes 4 m.info.blocks ++ leBytes 2 m.info.pages ++ bytesOf [m.info.maxRetry, 0] ++
      leBytes 4 m.info.ratedErases ++ leBytes 4 m.info.rdLimit ++ leBytes 2 m.info.readUs ++ leBytes 2 m.info.progUs ++ leBytes 4 m.info.eraseUs
    b ++ zeros (4096 - b.length)

/-- GEOMETRY (R286). -/
def execGeometry (i q cid : Nat) (other : Option BobCmd) (s : State) : Host.Outcome State Fault Refusal :=
  .next (s.onModule i q cid 0x02 other false (fun s m c own => s.moduleCpl c own 0 0 (geometryData m c)))

/-- READ_PAGE (R285): after the claim check the pages are read at the level asked; `outcome` is the status that the NAND gives, `corrected` the most bit errors
in any 1 KiB. -/
def execReadPage (i q cid : Nat) (other : Option BobCmd) (outcome corrected : Nat) (s : State) : Host.Outcome State Fault Refusal :=
  .next (s.onModule i q cid 0x10 other true (fun s m c own =>
    let l := m.pagesOf ⟨i, c.lun, c.block⟩
    if outcome = 0x3A03 ∨ outcome = 0x3A06 ∨ outcome = 0x4A07 ∨ outcome = 0x7A09 then
      let s := if outcome = 0x3A03 then s.modModule i (fun m => { m with info := { m.info with uncorrectable := m.info.uncorrectable + 1 } }) else s
      s.moduleCpl c own outcome 0 []
    else if l.length < c.page + c.count then s.moduleCpl c own 0x2A0B 0 []
    else
      let s := s.modModule i (fun m =>
        if 0 < c.retry then { m with info := { m.info with retried := m.info.retried + 1 } }
        else if 0 < corrected then { m with info := { m.info with corrected := m.info.corrected + 1 } } else m)
      s.moduleCpl c own 0 (c.retry + 256 * (corrected % 256)) ((l.drop c.page).take c.count).flatten))

/-- PROGRAM_PAGES (R285): the pages follow the last one programmed of the block. -/
def execProgramPages (i q cid : Nat) (other : Option BobCmd) (outcome : Nat) (s : State) : Host.Outcome State Fault Refusal :=
  .next (s.onModule i q cid 0x11 other true (fun s m c own =>
    let b : BlockId := ⟨i, c.lun, c.block⟩
    let l := m.pagesOf b
    if l.length ≠ c.page then s.moduleCpl c own 0x2A0A 0 []
    else if outcome = 0x3A04 ∨ outcome = 0x3A06 ∨ outcome = 0x4A07 ∨ outcome = 0x7A09 then s.moduleCpl c own outcome 0 []
    else
      let pages := (List.range c.count).map (fun k => slice c.data (16384 * k) 16384)
      (s.modModule i (fun m => m.setPages b (l ++ pages))).moduleCpl c own 0 0 []))

/-- ERASE_BLOCK (R285). -/
def execEraseBlock (i q cid : Nat) (other : Option BobCmd) (outcome : Nat) (s : State) : Host.Outcome State Fault Refusal :=
  .next (s.onModule i q cid 0x12 other true (fun s _ c own =>
    if outcome = 0x3A05 ∨ outcome = 0x3A06 ∨ outcome = 0x7A09 then s.moduleCpl c own outcome 0 []
    else (s.modModule i (fun m => m.setPages ⟨i, c.lun, c.block⟩ [])).moduleCpl c own 0 0 []))

/-- A claim stored by a module (R288). -/
def Module.setClaim (m : Module) (g v : Nat) : Module := { m with claims := Sparse.set 0 m.claims g v }

/-- CLAIM_SET (R123, R288, R289): a raise is accepted when its claim is strictly higher, a keep-alive when it is equal. -/
def execClaimSet (i q cid : Nat) (other : Option BobCmd) (s : State) : Host.Outcome State Fault Refusal :=
  .next (s.onModule i q cid 0x20 other false (fun s m c own =>
    let old := m.claim c.ground
    if c.flags = 1 then (if c.claim = old then s.moduleCpl c own 0 old [] else s.moduleCpl c own 0x2304 old [])
    else if old < c.claim then (s.modModule i (fun m => m.setClaim c.ground c.claim)).moduleCpl c own 0 c.claim []
    else s.moduleCpl c own 0x2304 old []))

/-- CLAIM_GET (R285). -/
def execClaimGet (i q cid : Nat) (other : Option BobCmd) (s : State) : Host.Outcome State Fault Refusal :=
  .next (s.onModule i q cid 0x21 other false (fun s m c own =>
    if c.flags = 1 then s.moduleCpl c own 0 0 ((List.range 256).flatMap (fun g => leBytes 8 (m.claim g)))
    else s.moduleCpl c own 0 (m.claim c.ground) []))

/-- TELEMETRY data (R287). -/
def telemetryData (m : Module) : Bytes :=
  let b := bytesOf [1, b2n m.info.failed + 2 * b2n m.info.degraded] ++ leBytes 2 (ofSigned 16 m.info.tempC) ++ zeros 4 ++ leBytes 8 m.info.corrected ++ leBytes 8 m.info.retried ++
    leBytes 8 m.info.uncorrectable ++ leBytes 4 m.info.hours ++ leBytes 4 m.info.cycles
  b ++ zeros (4096 - b.length)

/-- TELEMETRY (R287): the module reports its failure flag, temperature and counts as they are at this moment. -/
def execTelemetry (i q cid : Nat) (other : Option BobCmd) (failed : Bool) (tempC : Int) (s : State) : Host.Outcome State Fault Refusal :=
  .next (s.onModule i q cid 0x30 other false (fun s m c own =>
    let m := { m with info := { m.info with failed := failed, tempC := tempC } }
    (s.modModule i (fun _ => m)).moduleCpl c own 0 0 (telemetryData m)))

/-- SET_FEATURE (R285). -/
def execSetFeature (i q cid : Nat) (other : Option BobCmd) (s : State) : Host.Outcome State Fault Refusal :=
  .next (s.onModule i q cid 0x31 other true (fun s _ c own =>
    let s := s.modModule i (fun m =>
      if c.flags = 1 then { m with powerLimit := c.arg } else if c.flags = 2 then { m with timestamp := c.arg } else { m with locate := c.arg })
    s.moduleCpl c own 0 0 []))

/-- RESET_LUN (R296): the LUN's commands from the issuing port that have not started complete with 0x1A08, and then RESET_LUN with their number. `started` are
the queue and identifier of those that have. -/
def execResetLun (i q cid : Nat) (other : Option BobCmd) (started : List (Nat × Nat)) (s : State) : Host.Outcome State Fault Refusal :=
  .next (s.onModule i q cid 0x32 other true (fun s _ c own =>
    if !own then s.moduleCpl c own 0 0 []
    else
      let l := s.bob.cmds.filter (fun x => x.mod == i && isMediaOp x.opcode && x.lun == c.lun && !(started.contains (x.qid, x.cid)) &&
        (s.moduleCmd i x.qid x.cid none).isSome)
      (s.each l (fun s x => s.moduleCpl x true 0x1A08 0 [])).moduleCpl c own 0 l.length []))

/-! ## Ports -/

/-- The media effect of a NAND operation that had started when its port was lost (R290, R294). -/
def State.runsOn (s : State) (c : BobCmd) : State :=
  s.modModule c.mod (fun m =>
    let b : BlockId := ⟨c.mod, c.lun, c.block⟩
    if c.opcode = 0x12 then m.setPages b []
    else if c.opcode = 0x11 ∧ (m.pagesOf b).length = c.page then
      m.setPages b (m.pagesOf b ++ (List.range c.count).map (fun k => slice c.data (16384 * k) 16384))
    else m)

/-- A command of this head ends with 0x1A08 (R295, R296): reads are reconstructed, or reissued where a LUN reset abandoned them; a program's stripe is packed
again in a new band; an erase waits for the module or is issued again. -/
def State.abortedCmd (s : State) (c : BobCmd) (reissue : Bool) (bad : BadPages) : State :=
  let s := (s.bump F.BOB_CNT_ABORTED 1 (c.mod / 32)).noteCmdError c 0x1A08
  match c.why with
  | .read job page => if reissue then s.sendCmd { c with again := true } else s.reconstructFor job page bad
  | .program b st => s.endProgram b st true true
  | .erase _ => if reissue then s.sendCmd c else s.modBob (fun b => { b with heldCmds := b.heldCmds ++ [c] })
  | .eraseFree => s.modBob (fun b => { b with heldCmds := b.heldCmds ++ [c] })
  | .reinstate => s.modBob (fun b => { b with heldCmds := b.heldCmds ++ [c] })
  | .stagingErase => s.modBob (fun b => { b with heldCmds := b.heldCmds ++ [c] })
  | .staging n _ => s.modMed (fun d => { d with staging := mapWhere (fun e => e.seq == n) (fun e => { e with obsolete := true }) d.staging })
  | .page id copy => s.copyLost id copy
  | .scan => if reissue then s.sendCmd c else s
  | .rebuild b => s.abandonBand b
  | _ => s

/-- The port of a module is lost to its commands (R294, R295): the operations that have started run to their end on the media without a completion, and every
command outstanding completes internally with 0x1A08. -/
def State.abortPort (s : State) (i : Nat) (started : List (Nat × Nat)) (bad : BadPages) : State :=
  let s := s.each (s.bob.cmds.filter (fun c => c.mod == i && started.contains (c.qid, c.cid))) State.runsOn
  let s := s.modBob (fun b => { b with cpls := b.cpls.filter (fun c => c.mod != i), quar := b.quar.filter (fun q => q.1.mod != i) })
  let s := s.modModule i (fun m => { m.freshQueues with ready := false })
  (s.dropCmds (fun c => c.mod == i) (fun s c => s.abortedCmd c false bad)).settleBands.syncMod i

/-- EN of a module port is written (R280, R294, R297): 1 lets it serve (`ready`: RDY followed), and its queues are configured; 0 aborts. -/
def State.writeEn (s : State) (i value : Nat) (ready : Bool) (started : List (Nat × Nat)) (bad : BadPages) : State :=
  match s.module i with
  | none => s
  | some m =>
    if value % 2 = 1 then
      let s := s.modModule i (fun m => { m with en := true, ready := m.ready || ready })
      let s := if (m.ready || ready) && !m.qen then s.setQueues i else s
      (s.releaseHeld s.bob.heldCmds.length).syncMod i
    else if m.en then (s.modModule i (fun m => { m with en := false })).abortPort i started bad
    else s

/-- MODULE_SQ_TAIL (R282): the tail of a queue is written; the slots before it that were posted can be fetched. -/
def execModuleSqTail (i q tail : Nat) (s : State) : Host.Outcome State Fault Refusal :=
  live s (fun s =>
    match s.module i with
    | none => s
    | some m =>
      let seen := m.tails.getD q 0
      let posted := m.posted.getD q 0
      let upTo := ((List.range (posted + 1 - seen)).map (fun k => seen + k)).find? (fun a => decide (a % m.depth = tail % m.depth) && decide (seen < a))
      match upTo with
      | some a => if m.en ∧ m.qen ∧ q < 5 then s.modModule i (fun m => { m with tails := setAt m.tails q a }) else s
      | none => s)

/-- The link of a port goes down (`kind` 0) or the port is reset (1): its commands complete with 0x1A08 (R294). -/
def State.portDown (s : State) (i kind : Nat) (started : List (Nat × Nat)) (bad : BadPages) : State :=
  match s.module i with
  | none => s
  | some m =>
    let s :=
      if kind = 0 ∧ m.linkUp then
        let s := s.modModule i (fun m => { m with linkUp := false, downAt := s.num })
        let s := s.setEvt F.BOB_EVT_LINK_DOWN (i / 32)
        let p := i % 32 / 8
        let s := s.setFld F.BOB_PORT_ST_SLOTS (putBit (s.fld F.BOB_PORT_ST_SLOTS (i / 32) p) (i % 8) false) (i / 32) p
        if s.bob.modules.any (fun x => x.idx / 8 == i / 8 && x.linkUp) then s else s.setFld F.BOB_PORT_ST_UP 0 (i / 32) p
      else s
    s.abortPort i started bad

/-- INBOUND_DMA (R279): a module's memory request; outside the DRAM windows it is refused and counted. Inside, data goes where the commands' completions put
it. -/
def execInboundDma (motif addr n : Nat) (write : Bool) (data : Bytes) (s : State) : Host.Outcome State Fault Refusal :=
  live s (fun s =>
    let inside := (List.range 8).any (fun m => s.hasMotif m && decide (dramBase m ≤ addr) && decide (addr + n ≤ dramBase m + s.populated m))
    if !s.hasMotif motif then s
    else if !inside then s.bump F.BOB_CNT_BAD_DMA 1 motif
    else if write then s.store addr (data.take n)
    else s.touchDram addr n)

/-! ## Completions -/

/-- The status words that a module may report (R298); any other counts as 0x7A09. -/
def moduleStatus (w : Nat) : Nat :=
  if [0, 0x2304, 0x2A01, 0x2A02, 0x3A03, 0x3A04, 0x3A05, 0x3A06, 0x4A07, 0x1A08, 0x7A09, 0x2A0A, 0x2A0B].contains w then w else 0x7A09

/-- A read page has come with success (R264): RETRIED follows the level. -/
def State.readOk (s : State) (c : BobCmd) (job page : Nat) (data : Bytes) (bad : BadPages) : State :=
  let s := s.modMaps (fun m => { m with mmap := Sparse.set default m.mmap page { m.media page with retried := decide (0 < c.retry) } })
  let s := if 0 < c.retry then s.bump F.ECU_CNT2_RETRIED 1 (c.mod / 32) else s
  s.gotPage job page data bad

/-- A page failed at a level (R264): the next level, a read of its own (R243), or reconstruction after the last; a block with two such pages is RETIRED (R245). -/
def State.readBad (s : State) (c : BobCmd) (job page : Nat) (bad : BadPages) : State :=
  let top := match s.module c.mod with | some m => min (s.fld F.ECU_CTL_RETRY_MAX (c.mod / 32)) m.info.maxRetry | none => 0
  let b : BlockId := ⟨c.mod, c.lun, c.block⟩
  if c.retry < top then (s.countRead b).sendCmd { c with retry := c.retry + 1 }
  else
    let n := Sparse.get 0 s.bob.uncorr (blockKey b) + 1
    let s := s.modBob (fun k => { k with uncorr := Sparse.set 0 k.uncorr (blockKey b) n })
    let s := s.dpError (c.mod / 32) 0x3803 c.ground 0
    let s := if 2 ≤ n then s.retireBlock b else s
    s.reconstructFor job page (bad ++ [.page b c.page false])

/-- A completion of a read (R264, R265, R298). -/
def State.readCpl (s : State) (c : BobCmd) (job page status : Nat) (data : Bytes) (bad : BadPages) : State :=
  let b : BlockId := ⟨c.mod, c.lun, c.block⟩
  if status = 0 then s.readOk c job page data bad
  else if status = 0x3A03 then s.readBad c job page bad
  else if status = 0x2304 then (match s.job job with | some j => s.failRead j 0x1406 | none => s)
  else if status = 0x1A08 then s
  else
    let s := if status = 0x3A06 then s.retireBlock b else s
    s.reconstructFor job page (bad ++ [.page b c.page false])

/-- PROGRAM_FAIL (R298): a failed program or erase is shown with 0x3802, and its block is RETIRED. -/
def State.blockFailed (s : State) (c : BobCmd) : State := (s.dpError (c.mod / 32) 0x3802 c.ground 0).retireBlock ⟨c.mod, c.lun, c.block⟩

/-- A stripe that holds a page with an uncorrectable error in the packing buffer (R263). -/
def State.stripeSpoiled (s : State) (b : Band) (st : Nat) : Bool := (List.range (4 * b.k)).any (fun i => s.med.spoiled.contains (b.pageAt (4 * b.k * st + i)))

/-- A completion of a program of a stripe (R245, R261, R298): TRANSFER is tried once more, a failed program retires its block. Where the module read poison, the encode is
abandoned (R263) and nothing is retired. -/
def State.programCpl (s : State) (c : BobCmd) (band stripe status : Nat) : State :=
  let poisoned : Bool := match s.med.maps.band band with | some b => s.stripeSpoiled b stripe | none => false
  if status = 0 then s.endProgram band stripe false false
  else if status = 0x4A07 ∧ poisoned then
    (match s.med.maps.band band with | some b => (s.spoilStripe b stripe).endProgram band stripe true false | none => s)
  else if status = 0x4A07 ∧ ¬ c.again then s.sendCmd { c with again := true }
  else if status = 0x2304 ∨ status = 0x7A09 then s.endProgram band stripe true true
  else if status = 0x3A06 then (s.endProgram band stripe true false).retireBlock ⟨c.mod, c.lun, c.block⟩
  else (s.endProgram band stripe true false).blockFailed c

/-- A program outside bands that failed retires its block; one that drew CLAIM_STALE does not. -/
def State.systemFailed (s : State) (c : BobCmd) (status : Nat) : State :=
  if status = 0x2304 then s else if status = 0x3A06 then s.retireBlock ⟨c.mod, c.lun, c.block⟩ else s.blockFailed c

/-- A completion of a program outside bands (R245, R248). -/
def State.systemCpl (s : State) (c : BobCmd) (status : Nat) : State :=
  match c.why with
  | .staging n copy =>
    if status = 0 then s.modMed (fun d => { d with staging := mapWhere (fun e => e.seq == n) (fun e => { e with copies := e.copies ++ [copy] }) d.staging })
    else if status = 0x4A07 ∧ ¬ c.again then s.sendCmd { c with again := true }
    else
      (s.modMed (fun d => { d with staging := mapWhere (fun e => e.seq == n) (fun e => { e with obsolete := true }) d.staging })).systemFailed c status
  | .page id copy =>
    if status = 0 then s.copyDone id copy
    else if status = 0x4A07 ∧ ¬ c.again then s.sendCmd { c with again := true }
    else (s.copyLost id copy).systemFailed c status
  | _ => if status = 0 ∨ status = 0x2304 then s else if status = 0x4A07 ∧ ¬ c.again then s.sendCmd { c with again := true } else s.systemFailed c status

/-- A completion of an erase (R236, R244, R245, R268): one that drew CLAIM_STALE has not erased. Every erase is journaled as a BLOCK record, and the spread of its module judged. -/
def State.eraseCpl (s : State) (c : BobCmd) (status : Nat) : State :=
  let b : BlockId := ⟨c.mod, c.lun, c.block⟩
  let d := s.descOf b
  let ok := decide (status = 0)
  let s := if ok ∨ status = 0x2304 ∨ status = 0x7A09 then s else s.systemFailed c status
  match c.why with
  | .erase n =>
    if status = 0x2304 then s else s.modMaps (fun m => { m with bands := mapWhere (fun x => x.num == n) (fun x => { x with erased := x.erased + 1 }) m.bands })
  | .stagingErase =>
    if !ok then s
    else
      let s := s.modMed (fun k => { k with staging := k.staging.filter (fun e => !(e.pages.any (fun p => p.1 == b))) })
      ((s.journal d.ground (c.mod / 32 % 8) [.block b (s.freedDesc b)]).wearQueue c.mod).syncMedia
  | .reinstate =>
    let s := if ok then (s.journal c.ground (c.mod / 32 % 8) [.block b { s.freedDesc b with use := if d.use = 2 then 2 else 0 }]).wearQueue c.mod else s
    s.endReinstate c.mod
  | _ =>
    if ok then (s.journal c.ground (c.mod / 32 % 8) [.block b { s.freedDesc b with use := if d.use = 2 then 2 else (s.freedDesc b).use }]).wearQueue c.mod else s

/-- What the module says counts towards its failure (R267): 0x2A01 and 0x2A02 together, three within 20,000 stitches; 0x7A09 at once. -/
def State.judgeModule (s : State) (c : BobCmd) (status : Nat) (bad : BadPages) : State :=
  let now := s.num
  if status = 0x2A01 ∨ status = 0x2A02 then
    let s := s.modModule c.mod (fun m => { m with invalids := m.invalids.filter (fun t => decide (now < t + 20000)) ++ [now] })
    match s.module c.mod with
    | some m => if 3 ≤ m.invalids.length then s.moduleFail c.mod 3 bad else s
    | none => s
  else if status = 0x7A09 then (s.setEvt F.BOB_EVT_MOD_FAILED (c.mod / 32)).moduleFail c.mod 3 bad
  else s

/-- What a completion means for the work it served. -/
def State.serveCpl (s : State) (c : BobCmd) (x : BobCpl) (status : Nat) (bad : BadPages) : State :=
  match c.why with
  | .read job page => s.readCpl c job page status x.data bad
  | .program b st => s.programCpl c b st status
  | .erase _ => s.eraseCpl c status
  | .eraseFree => s.eraseCpl c status
  | .stagingErase => s.eraseCpl c status
  | .reinstate => s.eraseCpl c status
  | .staging _ _ => s.systemCpl c status
  | .system => s.systemCpl c status
  | .page _ _ => s.systemCpl c status
  | .rebuild n =>
    if status = 0 then s.rebuildProgrammed n
    else if status = 0x4A07 ∧ ¬ c.again then s.sendCmd { c with again := true }
    else if status = 0x2304 then s
    else ((s.abandonBand n).systemFailed c status).startRebuild bad
  | .scan => s.scanCpl c status x.result x.data
  | .telemetry =>
    if status ≠ 0 then s
    else
      let s := s.keepTelemetry c.mod x.data
      if bit (byteAt x.data 1) 0 then (s.setEvt F.BOB_EVT_MOD_FAILED (c.mod / 32)).moduleFail c.mod 3 bad else s
  | _ => s

/-- An entry of a completion queue consumed (R282, R283): CQ_HEAD is written, and the slots up to its SQHD are free. -/
def State.consumeEntry (s : State) (x : BobCpl) : State :=
  let past := ((s.bob.cmds ++ s.bob.quar.map (fun y => y.1)).find? (fun c => c.mod == x.mod && c.qid == x.qid && c.cid == x.cid)).elim 0 (fun c => c.slot + 1)
  let head := (s.module x.mod).elim 0 (fun m => m.heads.getD x.qid 0) + 1
  let depth := (s.module x.mod).elim 1 Module.depth
  let s := s.modBob (fun b => { b with cpls := b.cpls.erase x })
  let s := s.modModule x.mod (fun m => { m with heads := setAt m.heads x.qid head, freed := setAt m.freed x.qid (max past (m.freed.getD x.qid 0)) })
  s.bar x.mod (0x1004 + 8 * x.qid) (leBytes 4 (head % depth))

/-- A completion entry (R283), the oldest of its queue, matched by CID and acted on by status; one for a timed-out command is discarded (R293). -/
def State.takeCompletion (s : State) (i q cid : Nat) (bad : BadPages) : State :=
  match (s.bob.cpls.find? (fun x => x.mod == i && x.qid == q)).filter (fun x => x.cid == cid) with
  | none => s
  | some x =>
    let s := s.consumeEntry x
    if s.bob.quar.any (fun c => c.1.mod == i && c.1.qid == q && c.1.cid == cid) then
      let s := s.modBob (fun b => { b with quar := b.quar.filter (fun c => !(c.1.mod == i && c.1.qid == q && c.1.cid == cid)) })
      ((s.bump F.BOB_CNT_LATE 1 (i / 32)).setEvt F.BOB_EVT_LATE (i / 32)).syncMod i
    else
      match s.bob.cmds.find? (fun c => c.mod == i && c.qid == q && c.cid == cid) with
      | none => s
      | some c =>
        let status := moduleStatus x.status
        let s := s.modBob (fun b => { b with cmds := b.cmds.filter (fun y => y != c) })
        let s := if status = 0 ∨ status = 0x1A08 then s else s.noteCmdError c status
        let s := if status ≠ 0x2304 then s else if c.why = BobWhy.claimRaise then s.raiseRefused c x.result else s.claimStale c.ground i
        let s := if status = 0x1A08 then s.abortedCmd c true bad else s.serveCpl c x status bad
        let s := s.judgeModule c status bad
        ((s.releaseHeld s.bob.heldCmds.length).settleBands.settleWrites).syncMod i

/-- The limit of a command in stitches (R292, BOB_TMO): 1 ms for READ_PAGE; 2 µs, that is less than a stitch, for the claim commands. A limit of 0 acts as 1. -/
def State.cmdLimit (s : State) (c : BobCmd) : Nat :=
  let m := c.mod / 32
  if c.opcode = 0x10 then 200
  else if c.opcode = 0x11 then 200 * max 1 (s.fld F.BOB_TMO_PROG_MS m)
  else if c.opcode = 0x12 then 200 * max 1 (s.fld F.BOB_TMO_ERASE_MS m)
  else if c.opcode = 0x20 ∨ c.opcode = 0x21 then 0
  else 200 * max 1 (s.fld F.BOB_TMO_ADMIN_MS m)

/-- What a timeout does by command (R292). -/
def State.timedOut (s : State) (c : BobCmd) (bad : BadPages) : State :=
  let b : BlockId := ⟨c.mod, c.lun, c.block⟩
  match c.why with
  | .read job page =>
    let s := s.sendCmd { BobCmd.to c.mod 0x32 0 0 .resetLun with lun := c.lun }
    s.reconstructFor job page (bad ++ [.page b c.page true])
  | .program n st => (s.endProgram n st true false).retireBlock b
  | .staging n _ => (s.modMed (fun d => { d with staging := mapWhere (fun e => e.seq == n) (fun e => { e with obsolete := true }) d.staging })).retireBlock b
  | .system => s.retireBlock b
  | .page id copy => (s.copyLost id copy).retireBlock b
  | .rebuild n => ((s.abandonBand n).retireBlock b).startRebuild bad
  | .erase n => (s.modMaps (fun m => { m with bands := mapWhere (fun x => x.num == n) (fun x => { x with erased := x.erased + 1 }) m.bands })).retireBlock b
  | .eraseFree => s.retireBlock b
  | .stagingErase => s.retireBlock b
  | .reinstate => (s.retireBlock b).endReinstate c.mod
  | .claimRaise => s.moduleFail c.mod 5 bad
  | .keepAlive => if c.again then s else s.sendCmd { c with again := true }
  | .claimAll => if c.again then s else s.sendCmd { c with again := true }
  | .scan => s
  | _ => if c.again then s else s.modBob (fun k => { k with retries := k.retries ++ [{ c with again := true }] })

/-- Three timeouts of a module within 20,000 stitches make it FAILED (R267). -/
def State.countTimeout (s : State) (i : Nat) (bad : BadPages) : State :=
  let now := s.num
  let s := s.modModule i (fun m => { m with timeouts := m.timeouts.filter (fun t => decide (now < t + 20000)) ++ [now] })
  match s.module i with
  | some m => if 3 ≤ m.timeouts.length then s.moduleFail i 2 bad else s
  | none => s

/-- A command that times out (R292, R293), its limit having passed, completes internally with 0x4A0D, its identifier is quarantined, and the action of its kind follows. -/
def State.timeoutCmd (s : State) (i q cid : Nat) (bad : BadPages) : State :=
  match s.bob.cmds.find? (fun c => c.mod == i && c.qid == q && c.cid == cid && decide (c.since + s.cmdLimit c ≤ s.num)) with
  | none => s
  | some c =>
    let s := s.modBob (fun b => { b with cmds := b.cmds.filter (fun y => y != c), quar := b.quar ++ [(c, s.num)] })
    let s := ((s.bump F.BOB_CNT_TIMEOUT 1 (i / 32)).setEvt F.BOB_EVT_TIMEOUT (i / 32)).noteCmdError c 0x4A0D
    let s := (s.timedOut c bad).countTimeout i bad
    ((s.releaseHeld s.bob.heldCmds.length).settleBands).syncMod i

/-- CID_QUARANTINE_EXPIRY (R293): 50 ms have passed since the timeout. -/
def execCidQuarantineExpiry (i q cid : Nat) (s : State) : Host.Outcome State Fault Refusal :=
  live s (fun s =>
    let gone := fun (c : BobCmd × Nat) => c.1.mod == i && c.1.qid == q && c.1.cid == cid && decide (c.2 + 10000 ≤ s.num)
    (s.modBob (fun b => { b with quar := b.quar.filter (fun c => !gone c) })).syncMod i)

/-! ## Discovery -/

/-- The limits of R286 that discovery checks. -/
def geometryOk (g : ModInfo) : Bool :=
  decide (g.pageKib = 16) && decide (1 ≤ g.luns) && decide (g.luns ≤ 32) && decide (1 ≤ g.blocks) && decide (g.blocks ≤ 262144) &&
    decide (g.pages % 4 = 0) && decide (4 ≤ g.pages) && decide (g.pages ≤ 4096)

/-- A module left ABSENT at discovery (R297): its journaled role, if it has one, stays for the next. -/
def State.rejectModule (s : State) (i status present : Nat) : State :=
  let m := i / 32
  let s := ((s.setFld F.BOB_MOD_ST_LAST_STATUS status m (i % 32)).setFld F.BOB_MOD_ST_PRESENT present m (i % 32)).setFld F.ECU_MOD_ROLE 0 0 i
  let s := s.modModule i (fun m => { m with ready := false })
  (s.setEvt F.BOB_EVT_REJECTED m).setFld F.BOB_MOD_ST_READY 0 m (i % 32)

/-- The good blocks of a module, last block first, LUN by LUN: those that become SPARE come from its front (log 50). -/
def spareOrder (i : Nat) (g : ModInfo) : List BlockId :=
  ((List.range g.blocks).reverse.flatMap (fun b => (List.range g.luns).map (fun l => (⟨i, l, b⟩ : BlockId)))).filter
    (fun b => !(g.bad.contains (b.lun, b.block)))

/-- A module's first discovery (R234, R245, R291): its bad blocks are RETIRED, SPARE_RESV_PCT of its good blocks become SPARE, and every good block is erased as
soon as the head owns a ground. -/
def State.firstDiscovery (s : State) (i : Nat) (g : ModInfo) : State :=
  let good := spareOrder i g
  let n := good.length * s.fld F.MED_MEDIA_CTL_SPARE_RESV_PCT (i / 32) / 100
  let s := s.bothMaps (fun m => g.bad.foldl (fun m b => m.setBlock ⟨i, b.1, b.2⟩ { (default : BlockDesc) with use := 8 }) m)
  let s := s.bothMaps (fun m => (good.take n).foldl (fun m b => m.setBlock b { (default : BlockDesc) with use := 2 }) m)
  let s := s.modBob (fun b => { b with spares := Sparse.set 0 b.spares i n })
  s.each good (fun s b => s.sendCmd (BobCmd.onBlock 0x12 3 0 b .eraseFree))

/-- The port registers of a module that was found. -/
def State.foundPort (s : State) (f : Found) : State :=
  let m := f.idx / 32
  let p := f.idx % 32 / 8
  let s := (s.setFld F.BOB_PORT_ST_SPEED f.speed m p).setFld F.BOB_PORT_ST_WIDTH f.width m p
  let s := (s.setFld F.BOB_PORT_ST_SWITCH (b2n f.switch) m p).setFld F.BOB_PORT_ST_UP 1 m p
  s.setFld F.BOB_PORT_ST_SLOTS (putBit (s.fld F.BOB_PORT_ST_SLOTS m p) (f.idx % 8) true) m p

/-- A module as it is when it is first found. -/
def Found.fresh (f : Found) : Module :=
  { idx := f.idx, info := f.info, en := true, ready := true, fatal := false, seen := true, claims := f.claims, media := [], powerLimit := 0, timestamp := 0,
    locate := 0, linkUp := true, downAt := 0, timeouts := [], invalids := [], posted := [0, 0, 0, 0, 0], tails := [0, 0, 0, 0, 0],
    qen := false, sizeLog2 := 0, freed := [0, 0, 0, 0, 0], heads := [0, 0, 0, 0, 0] }

/-- A known module found again (R297): the bad-block bitmaps are read at its first discovery only; in a Rethread the GEOMETRY is not read. -/
def Module.rejoin (m : Module) (f : Found) (keep : Bool) : Module :=
  let x := if keep then { f.info with maxQ := m.info.maxQ, maxQdLog2 := m.info.maxQdLog2, luns := m.info.luns, planes := m.info.planes, pageKib := m.info.pageKib,
                                       blocks := m.info.blocks, pages := m.info.pages, maxRetry := m.info.maxRetry, ratedErases := m.info.ratedErases,
                                       rdLimit := m.info.rdLimit, readUs := m.info.readUs, progUs := m.info.progUs, eraseUs := m.info.eraseUs }
    else f.info
  { m with info := { x with bad := m.info.bad }, en := true, ready := true, linkUp := true }

/-- The module of a port that was found: taken in, or brought back; its queues are set up unless they are kept (R107). -/
def State.takeModule (s : State) (f : Found) (keep : Bool) : State :=
  match s.module f.idx with
  | none => (((s.modBob (fun b => { b with modules := b.modules ++ [f.fresh] })).bar f.idx 0x10 (leBytes 4 1))).setQueues f.idx
  | some _ =>
    let s := s.modModule f.idx (fun m => m.rejoin f keep)
    if keep then s else (s.bar f.idx 0x10 (leBytes 4 1)).setQueues f.idx

/-- The role of a module that was found: DATA with the domain of IDENTIFY, or the journaled role. -/
def State.roleFound (s : State) (f : Found) : State :=
  let r := Sparse.get default s.med.maps.mods f.idx
  if r.role = 0 then s.setModState f.idx ⟨1, f.info.fd, 0⟩
  else ((s.setFld F.ECU_MOD_ROLE r.role 0 f.idx).setFld F.ECU_MOD_FD r.fd 0 f.idx).setFld F.ECU_MOD_CAUSE r.cause 0 f.idx

/-- A module that passed the checks of discovery (R297, steps 2 to 6). -/
def State.admitModule (s : State) (f : Found) (keep : Bool) : State :=
  let i := f.idx
  let new := (s.module i).isNone
  let s := (s.takeModule f keep).foundPort f
  let s := (s.setFld F.BOB_MOD_ST_PRESENT 1 (i / 32) (i % 32)).setEvt F.BOB_EVT_ADDED (i / 32)
  let s := (s.roleFound f).syncMod i
  let s := if new then s.firstDiscovery i f.info else s
  let s := match s.module i with | some m => s.keepTelemetry i (telemetryData m) | none => s
  let s := if f.info.failed then (s.setEvt F.BOB_EVT_MOD_FAILED (i / 32)).moduleFail i 3 [] else s
  (s.beginReinstate i).releaseHeld s.bob.heldCmds.length

/-- A module port discovered (R297, steps 1 to 6; with `keep`, as in a Rethread, only steps 3, 5 and 6 for a module whose queues were kept): its class code and MAGIC, and that
its protocol's major version is 1; its PORT; its GEOMETRY. -/
def State.discover (s : State) (keep : Bool) (f : Found) : State :=
  let keep := keep && s.modReady f.idx
  if 256 ≤ f.idx ∨ ¬ s.hasMotif (f.idx / 32) then s
  else if !keep && (!f.isModule || f.info.ver / 256 != 1) then s.rejectModule f.idx 0x2A0F 0
  else if f.info.port ≠ s.headId then s.rejectModule f.idx 0x2A0C 1
  else if !keep && !geometryOk f.info then s.rejectModule f.idx 0x2A0E 1
  else s.admitModule f keep

/-- The commands that timed out before are tried once more in this discovery pass (R292). -/
def State.retryPass (s : State) : State :=
  let l := s.bob.retries
  (s.modBob (fun b => { b with retries := [] })).each l State.sendCmd

/-- MODULE_DISCOVERY (R297): at Winding step 11 every port, which ends the step; in service a port whose link comes up, where HOTPLUG_EN allows it. -/
def execModuleDiscovery (found : List Found) (us : Nat) (s : State) : Host.Outcome State Fault Refusal :=
  live s (fun s =>
    if s.inStep 11 then
      let keep := s.fld F.PKG_MODE_WIND_KIND = 2
      (((s.each found (fun s f => s.discover keep f)).retryPass.syncMedia).startScan).stepDone 11 us
    else if s.inService then
      (s.each (found.filter (fun f => s.flag F.BOB_CTL_HOTPLUG_EN (f.idx / 32))) (fun s f => s.discover false f)).retryPass.settleBands.syncRebuild
    else s)

end Sys2Proof.Machine
end

