-- ==== Sys2Proof/Machine/P384.lean ====
section
/-! DEFINITION. ECDSA P-384 signature verification of FIPS 186-5 (R70, R451), over natural numbers. -/

namespace Sys2Proof.Machine

/-- The field prime of P-384. -/
def p384P : Nat :=
  0xFFFFFFFFFFFFFFFFFFFFFFFFFFFFFFFFFFFFFFFFFFFFFFFFFFFFFFFFFFFFFFFEFFFFFFFF0000000000000000FFFFFFFF

/-- The order of the base point. -/
def p384N : Nat :=
  0xFFFFFFFFFFFFFFFFFFFFFFFFFFFFFFFFFFFFFFFFFFFFFFFFC7634D81F4372DDF581A0DB248B0A77AECEC196ACCC52973

/-- The coefficient b of the curve. -/
def p384B : Nat :=
  0xB3312FA7E23EE7E4988E056BE3F82D19181D9C6EFE8141120314088F5013875AC656398D8A2ED19D2A85C8EDD3EC2AEF

/-- The base point. -/
def p384G : Nat × Nat :=
  (0xAA87CA22BE8B05378EB1C71EF320AD746E1D3B628BA79B9859F741E082542A385502F25DBF55296C3A545E3872760AB7,
   0x3617DE4A96262C6F5D9E98BF9292DC29F8F41DBD289A147CE9DA3113B5F0B8C00A60B1CE1D7E819D7A431D7C90EA0E5F)

/-- `b` to the power `e` modulo `m`; `fuel` bounds the bits of `e`. -/
def powModAux (m : Nat) : Nat → Nat → Nat → Nat → Nat
  | 0, _, _, acc => acc
  | f + 1, b, e, acc => powModAux m f (b * b % m) (e / 2) (if e % 2 = 1 then acc * b % m else acc)

/-- The inverse modulo a prime below 2^384. -/
def invMod (m a : Nat) : Nat := powModAux m 384 (a % m) (m - 2) 1

/-- A point in Jacobian coordinates; `z = 0` is the point at infinity. -/
structure JPoint where
  x : Nat
  y : Nat
  z : Nat
  deriving DecidableEq, Repr

/-- The point at infinity. -/
def jInf : JPoint := ⟨1, 1, 0⟩

/-- `a - b` modulo the field prime. -/
def fsub (a b : Nat) : Nat := (a + p384P - b % p384P) % p384P

/-- Doubling, with curve coefficient a = -3. -/
def jDouble (q : JPoint) : JPoint :=
  if q.z = 0 ∨ q.y = 0 then jInf
  else
    let p := p384P
    let yy := q.y * q.y % p
    let s := 4 * q.x * yy % p
    let zz := q.z * q.z % p
    let m := 3 * fsub q.x zz * ((q.x + zz) % p) % p
    let x := fsub (m * m % p) (2 * s)
    let y := fsub (m * fsub s x % p) (8 * yy * yy)
    ⟨x, y, 2 * q.y * q.z % p⟩

/-- Addition. -/
def jAdd (q r : JPoint) : JPoint :=
  if q.z = 0 then r
  else if r.z = 0 then q
  else
    let p := p384P
    let z1 := q.z * q.z % p
    let z2 := r.z * r.z % p
    let u1 := q.x * z2 % p
    let u2 := r.x * z1 % p
    let s1 := q.y * z2 * r.z % p
    let s2 := r.y * z1 * q.z % p
    if u1 = u2 then (if s1 = s2 then jDouble q else jInf)
    else
      let h := fsub u2 u1
      let rr := fsub s2 s1
      let hh := h * h % p
      let hhh := h * hh % p
      let v := u1 * hh % p
      let x := fsub (fsub (rr * rr % p) hhh) (2 * v)
      let y := fsub (rr * fsub v x % p) (s1 * hhh)
      ⟨x, y, q.z * r.z * h % p⟩

/-- Multiplication by a scalar of at most `fuel` bits, high bit first. -/
def jMul (q : JPoint) (k : Nat) : Nat → JPoint
  | 0 => jInf
  | n + 1 =>
    let acc := jDouble (jMul q (k / 2) n)
    if k % 2 = 1 then jAdd acc q else acc

/-- Whether a pair of coordinates is a point of the curve. -/
def onP384 (x y : Nat) : Bool :=
  decide (x < p384P) && decide (y < p384P) &&
    decide (y * y % p384P = (x * x * x + (p384P - 3) * x + p384B) % p384P)

/-- ECDSA P-384 verification: public key (x, y), digest of 48 bytes, signature (r, s). -/
def ecdsaP384Verify (x y : Nat) (digest : Bytes) (r s : Nat) : Bool :=
  if decide (0 < r) && decide (r < p384N) && decide (0 < s) && decide (s < p384N) && onP384 x y then
    let w := invMod p384N s
    let u1 := beNat digest * w % p384N
    let u2 := r * w % p384N
    let pt := jAdd (jMul ⟨p384G.1, p384G.2, 1⟩ u1 384) (jMul ⟨x, y, 1⟩ u2 384)
    if pt.z = 0 then false
    else
      let zi := invMod p384P pt.z
      decide (pt.x * (zi * zi % p384P) % p384P % p384N = r)
  else false

end Sys2Proof.Machine
end

