-- ==== Sys2Proof/Machine/Pricking.lean ====
section
/-! DEFINITION. The pricking: its parsing and the validation of R84 with its status words and failing offsets
(R67 to R85, R494), over the bytes of the boot flash. -/

namespace Sys2Proof.Machine

/-- The result of a validation step: a value, or a status word with the offset of the failing entry, none where no single entry fails (log 12). -/
abbrev Check (α : Type) := Except (Nat × Option Nat) α

/-- A condition of R84 that must hold, else the status word and offset. -/
def need (c : Bool) (code ofs : Nat) : Check Unit := if c then .ok () else .error (code, some ofs)

/-- A condition of R84 over several entries, or over entries that are not there. -/
def needAll (c : Bool) (code : Nat) : Check Unit := if c then .ok () else .error (code, none)

/-- Run a check over a list, in order, stopping at the first failure. -/
def forAll (l : List α) (f : α → Check Unit) : Check Unit :=
  match l with
  | [] => .ok ()
  | x :: t => match f x with
    | .ok _ => forAll t f
    | .error e => .error e

/-- No entry repeats an earlier one's key; the later entry fails (log 12). -/
def needNew (code : Nat) (seen : List Nat) : List (Nat × Nat) → Check Unit
  | [] => .ok ()
  | (k, ofs) :: t => if seen.contains k then .error (code, some ofs) else needNew code (k :: seen) t

/-- The expected ROLES word of a package: Root for motif 0, Peer for the others present (R21, R69). -/
def expectedRoles (motifs : Nat) : Nat :=
  (List.range motifs).foldl (fun a n => a + (if n = 0 then 1 else 2) * 4 ^ n) 0

/-- The hash of a public key (R70). -/
def keyHashOk (relien : Bytes) (customer : Option Bytes) (keySel : Nat) (x y : Bytes) : Bool :=
  let h := sha384 (x ++ y)
  if keySel = 0 then h == relien
  else if keySel = 1 then (match customer with | none => false | some c => h == c)
  else false

/-- The signature block at `ofs` verifies over the bytes before it (R70). -/
def sigOk (b : Bytes) (ofs : Nat) : Bool :=
  ecdsaP384Verify (beNat (slice b ofs 48)) (beNat (slice b (ofs + 48) 48)) (sha384 (b.take ofs))
    (beNat (slice b (ofs + 96) 48)) (beNat (slice b (ofs + 144) 48))

/-- The instances an engine kind has on a motif, as a mask (R73). -/
def kindMask (k : Nat) : Nat :=
  if k = 3 ∨ k = 4 ∨ k = 5 ∨ k = 8 then 0xFF
  else if k = 6 ∨ k = 7 ∨ k = 9 then 0x3
  else if k = 11 then 0xF
  else 0x1

/-- One route entry of 16 bytes. -/
def parseRoute (b : Bytes) (o : Nat) : Route :=
  { ofs := o, motif := byteAt b o, pattern := byteAt b (o + 1), stage := byteAt b (o + 2), kind := byteAt b (o + 3),
    inst := leAt b (o + 4) 4, classes := byteAt b (o + 8), flags := byteAt b (o + 9),
    resv := leAt b (o + 10) 2, buf := leAt b (o + 12) 4 }

/-- One class reservation record. -/
def parseResv (b : Bytes) (o : Nat) : ClassResv :=
  { ofs := o, cls := byteAt b o, r1 := byteAt b (o + 1), ways := byteAt b (o + 2), r3 := byteAt b (o + 3),
    bw := leAt b (o + 4) 2, qslots := leAt b (o + 6) 2, admitMib := leAt b (o + 8) 4, r12 := leAt b (o + 12) 4 }

/-- One selector entry. -/
def parseSel (b : Bytes) (o : Nat) : Selector :=
  { ofs := o, kind := byteAt b o, cls := byteAt b (o + 1), prio := leAt b (o + 2) 2, first := leAt b (o + 4) 2,
    last := leAt b (o + 6) 2, resv := leAt b (o + 8) 8 }

/-- One schedule entry. -/
def parseSlot (b : Bytes) (o : Nat) : SchedEntry :=
  { ofs := o, slot := byteAt b o, action := byteAt b (o + 1), phase := leAt b (o + 2) 2, period := leAt b (o + 4) 4,
    offset := leAt b (o + 8) 4, arg := leAt b (o + 12) 4 }

/-- One partition entry. -/
def parsePart (b : Bytes) (o : Nat) : PartEntry :=
  { ofs := o, motif := byteAt b o, scrWays := byteAt b (o + 1), r2 := leAt b (o + 2) 2,
    owner := (List.range 8).map (fun i => byteAt b (o + 4 + i)), r12 := leAt b (o + 12) 4 }

/-- One geometry record. -/
def parseGeom (b : Bytes) (o : Nat) : Geometry :=
  { ofs := o, k := byteAt b o, m := byteAt b (o + 1), flags := byteAt b (o + 2), r3 := byteAt b (o + 3) }

/-- One ground entry. -/
def parseGround (b : Bytes) (o : Nat) : GroundDef :=
  { ofs := o, ground := byteAt b o, twin := bit (byteAt b (o + 1)) 0, chunk4k := bit (byteAt b (o + 1)) 1,
    verify := bit (byteAt b (o + 1)) 2, flagsHi := byteAt b (o + 1) / 8, home := byteAt b (o + 2),
    geom := byteAt b (o + 3), pins := leAt b (o + 4) 2, patrolDays := leAt b (o + 6) 2, resv := leAt b (o + 8) 8 }

/-- One lock entry. -/
def parseLock (b : Bytes) (o : Nat) : LockEntry :=
  { ofs := o, window := byteAt b o, block := byteAt b (o + 1), resv := leAt b (o + 2) 2, first := leAt b (o + 4) 4,
    last := leAt b (o + 8) 4 }

/-- One default entry. -/
def parseDefault (b : Bytes) (o : Nat) : DefaultEntry :=
  { ofs := o, window := byteAt b o, block := byteAt b (o + 1), width := byteAt b (o + 2), resv := byteAt b (o + 3),
    offset := leAt b (o + 4) 4, value := leAt b (o + 8) 8, mask := leAt b (o + 16) 8 }

/-- `n` entries of `sz` bytes from `o` on. -/
def entries (f : Nat → α) (o sz n : Nat) : List α := (List.range n).map (fun i => f (o + sz * i))

/-- The section header at `o`. -/
def parseSec (b : Bytes) (o : Nat) : Section :=
  { ofs := o, type := leAt b o 2, version := leAt b (o + 2) 2, len := leAt b (o + 4) 4, count := leAt b (o + 8) 4,
    resv := leAt b (o + 12) 4 }

/-- The sections of a pricking from `o` to `stop`, walked by LEN; `fuel` bounds their number. -/
def walkSecs (b : Bytes) (stop : Nat) : Nat → Nat → Check (List Section)
  | 0, o => if o = stop then .ok [] else .error (0x210B, some o)
  | f + 1, o =>
    if o = stop then .ok []
    else
      let s := parseSec b o
      if s.len < 16 ∨ s.len % 8 ≠ 0 ∨ o + s.len > stop then .error (0x210B, some o)
      else match walkSecs b stop f (o + s.len) with
        | .ok l => .ok (s :: l)
        | .error e => .error e

/-- The body length that a section of types 1 to 7 has for its COUNT (R72 to R82). -/
def plainLen (s : Section) : Option Nat :=
  if s.type = 1 then some (16 * s.count)
  else if s.type = 2 then some (64 + 16 * s.count)
  else if s.type = 3 then some (16 * s.count)
  else if s.type = 4 then some (16 * s.count)
  else if s.type = 5 then some (32 + 16 * s.count)
  else if s.type = 6 then some (12 * s.count)
  else if s.type = 7 then some (24 * s.count)
  else none

/-- R72 for a section whose body has `n` bytes: version, reserved bytes, length and padding. -/
def secFormOk (b : Bytes) (s : Section) (n : Nat) : Bool :=
  decide (s.version = 1) && decide (s.resv = 0) && decide (s.len = (16 + n + 7) / 8 * 8) && allZero (slice b (s.ofs + 16 + n) (s.len - 16 - n))

/-- A prior section of a type in its form. -/
def priorOk (b : Bytes) (ty : Nat) (s : Section) : Bool :=
  decide (s.type = ty) && (match plainLen s with | some n => secFormOk b s n | none => false)

/-- The three prior sections behind a PAIR body (R83), where their types, headers and lengths stand as R72 says; where they do not, check 11 fails (log 76). -/
def priorSecs (b : Bytes) (o stop : Nat) : Option (Section × Section × Section) :=
  let c := parseSec b o
  let d := parseSec b (o + c.len)
  let g := parseSec b (o + c.len + d.len)
  if priorOk b 2 c && priorOk b 3 d && priorOk b 5 g && decide (o + c.len + d.len + g.len = stop) then some (c, d, g) else none

/-- The body length R72 and the section rules give a section for its COUNT; none where COUNT gives none. -/
def bodyLen (b : Bytes) (s : Section) : Option Nat :=
  if s.type = 8 then
    (if s.count = 0 then some 96
     else if s.count = 3 then
       (match priorSecs b (s.ofs + 112) (s.ofs + s.len) with
        | some (c, d, g) => some (96 + c.len + d.len + g.len)
        | none => none)
     else some (s.len - 16))
  else plainLen s

/-- R72 for one section; the bodies of informational sections are not checked. -/
def secOk (b : Bytes) (s : Section) : Bool :=
  if 0x8000 ≤ s.type then true
  else match bodyLen b s with
    | none => false
    | some n => secFormOk b s n

/-- R72 for the place of a section in the set: types 1 to 8 in order, informational sections after them. -/
def secPlaceOk (i : Nat) (s : Section) : Bool := if i < 8 then decide (s.type = i + 1) else decide (0x8000 ≤ s.type) && decide (s.type ≤ 0xFFFF)

/-- R74 for one route entry. -/
def routeEntryOk (c : Caps) (r : Route) : Check Unit :=
  let engine := (r.kind = 6 ∧ ¬ c.optC) ∨ (r.kind = 8 ∧ ¬ c.optE) ∨ (r.kind = 13 ∧ ¬ c.optX) ∨ (r.pattern = 5 ∧ ¬ c.optX)
  if engine then .error (0x210D, some r.ofs)
  else
    let rootOnly := r.kind = 2 ∨ r.kind = 14 ∨ r.kind = 15
    need (decide (r.resv = 0) && decide (r.classes < 16) && decide (r.flags < 8) &&
      (decide (r.motif = 0xFF) || decide (r.motif < c.motifs)) &&
      decide (1 ≤ r.pattern) && decide (r.pattern ≤ 6) && decide (r.stage ≤ 7) &&
      decide (1 ≤ r.kind) && decide (r.kind ≤ 15) &&
      decide (r.inst ≠ 0) && decide (r.inst ≤ kindMask r.kind) &&
      decide (1 ≤ r.buf) && decide (r.buf ≤ 64) &&
      (!(bit r.flags 0) || decide (r.kind = 4) || decide (r.kind = 5)) &&
      (!(bit r.flags 2) || decide (r.kind = 3)) &&
      (!(decide rootOnly) || decide (r.motif = 0)) &&
      (!(decide (r.kind = 14 ∨ r.kind = 15)) || decide (r.pattern = 6)) &&
      (!(decide (r.pattern = 6)) || decide (r.motif = 0))) 0x210C r.ofs

/-- The entries that give motif `n` its pattern `p`: all of motif 0xFF, or all its own. -/
def routesOf (l : List Route) (n p : Nat) : List Route :=
  l.filter (fun r => decide (r.pattern = p) && (decide (r.motif = 0xFF) || decide (r.motif = n)))

/-- Stages run from 0 without gaps. -/
def stagesOk (l : List Route) : Bool :=
  let st := l.map (fun r => r.stage)
  (List.range 8).all (fun i => decide (st.all (fun x => decide (x < i))) || st.contains i)

/-- R74 over the whole route table. -/
def routeSetOk (c : Caps) (l : List Route) : Bool :=
  (List.range c.motifs).all (fun n =>
    [1, 2, 3, 4].all (fun p => !(routesOf l n p).isEmpty) &&
    [1, 2, 3, 4, 5, 6].all (fun p =>
      let e := routesOf l n p
      stagesOk e && (e.all (fun r => decide (r.motif = 0xFF)) || e.all (fun r => decide (r.motif = n))))) &&
  (let m := l.filter (fun r => decide (r.pattern = 6))
   m.isEmpty || (decide ((List.range 3).all (fun i =>
     let k := [14, 5, 15].getD i 0
     (m.filter (fun r => decide (r.stage = i))).all (fun r => decide (r.kind = k)) &&
     !(m.filter (fun r => decide (r.stage = i))).isEmpty)) && m.all (fun r => decide (r.stage < 3))))

/-- The sums of the four class reservations (R76): BW, QSLOTS and ADMIT. -/
def classLimitsOk (rs : List ClassResv) : Bool :=
  decide ((rs.map (fun r => r.bw)).sum ≤ 1000) && decide ((rs.map (fun r => r.qslots)).sum ≤ 512) &&
    decide ((rs.map (fun r => r.admitMib)).sum ≤ 4096)

/-- The reserved fields of a reservation record are 0 (R75, R494). -/
def ClassResv.clean (r : ClassResv) : Bool := decide (r.r1 = 0) && decide (r.r3 = 0) && decide (r.r12 = 0)

/-- The reserved fields of a geometry record are 0 (R79, R494). -/
def Geometry.clean (g : Geometry) : Bool := decide (g.flags < 2) && decide (g.r3 = 0)

/-- The reserved fields of a ground entry are 0 (R79, R494). -/
def GroundDef.clean (g : GroundDef) : Bool := decide (g.flagsHi = 0) && decide (g.resv = 0)

/-- R75 for one reservation record. -/
def resvOk (i : Nat) (r : ClassResv) : Bool := decide (r.cls = i) && r.clean && decide (r.ways ≤ 16)

/-- R75 and R76 for one selector, with the grounds of the pricking. The spec names bits [7:0] of FIRST for kinds 2 and 3; the model asks that the others are 0 (log 76). -/
def selOk (gs : List GroundDef) (e : Selector) : Bool :=
  decide (1 ≤ e.kind) && decide (e.kind ≤ 4) && decide (e.cls ≤ 2) && decide (e.resv = 0) &&
    (!(decide (e.kind = 2 ∨ e.kind = 3)) || (decide (e.last = 0) && decide (e.first < 256))) &&
    (!(decide (e.cls = 0)) || (decide (e.kind = 2) && gs.any (fun g => decide (g.ground = e.first) && g.twin)))

/-- Every twin-fed ground is named by a class-0 selector (R76). -/
def twinNamed (gs : List GroundDef) (l : List Selector) : Bool :=
  gs.all (fun g => !g.twin || l.any (fun e => decide (e.kind = 2) && decide (e.cls = 0) && decide (e.first = g.ground)))

/-- Action codes that slots 6 to 63 may hold (R60). -/
def actionOk (a : Nat) : Bool := [0, 0x10, 0x11, 0x12, 0x13, 0x14, 0x15, 0x20].contains a

/-- R77 for one schedule entry. -/
def schedOk (e : SchedEntry) : Bool :=
  decide (6 ≤ e.slot) && decide (e.slot ≤ 63) && actionOk e.action && decide (e.phase ≤ 999) &&
    decide (1 ≤ e.period) && decide (e.offset < e.period) && (!(decide (e.action = 0x20)) || decide (e.arg < 64))

/-- Owner codes of a scratchpad way (R78). -/
def ownerOk (o : Nat) : Bool := decide (o ≤ 3) || decide (o = 0x10) || decide (o = 0x11) || decide (o = 0x12)

/-- R78 for one partition entry. -/
def partOk (c : Caps) (p : PartEntry) : Bool :=
  decide (p.motif < c.motifs) && decide (p.scrWays ≤ 8) && decide (p.r2 = 0) && decide (p.r12 = 0) &&
    ((p.owner.take p.scrWays).all ownerOk) && ((p.owner.drop p.scrWays).all (fun o => decide (o = 0xFF))) &&
    ((p.owner.take p.scrWays).contains 0x11)

/-- A block that a package holds in a window of R81: window 0 the package, n + 1 motif n, 0xFF every motif. A window of every motif that names a block which only motif 0
holds names an absent one (log 76). -/
def blockPresent (c : Caps) (window block : Nat) : Bool :=
  let inMotif := fun n => decide (block < 16) && (!(decide (block = 4 ∨ block = 5)) || decide (n = 0)) &&
    (!(decide (block = 7)) || c.optC) && (!(decide (block = 8)) || c.optE)
  if window = 0 then decide (block < 11)
  else if window = 0xFF then (List.range c.motifs).all inMotif
  else decide (window ≤ c.motifs) && inMotif (window - 1)

/-- R81 for one lock entry. -/
def lockOk (c : Caps) (e : LockEntry) : Bool :=
  blockPresent c e.window e.block && decide (e.resv = 0) && decide (e.first ≤ e.last) &&
    decide (e.last < if e.window = 0 then 0x10000 else 0x100000)

/-- The bits of an element of a register that DEFAULTS may select: those of RW and PL fields (R82); slots 0 to 5 are RO (R59). -/
def defaultMask (r : Reg) (i : Nat) : Nat :=
  if (r = .STC_SLOT_C ∨ r = .STC_SLOT_T) ∧ i < 6 then 0
  else (r.spec.fields.filter (fun f => f.acc == .rw || f.extra == .pl)).foldl (fun a f => a + f.mask) 0

/-- The motifs a window of R81 names; the package window stands for motif 0. -/
def windowMotifs (c : Caps) (window : Nat) : List Nat :=
  if window = 0 then [0] else if window = 0xFF then List.range c.motifs else [window - 1]

/-- R82 for one default entry. -/
def defaultOk (c : Caps) (e : DefaultEntry) : Bool :=
  blockPresent c e.window e.block && !(decide (e.window ≠ 0 ∧ e.block = 1)) && decide (e.resv = 0) &&
    (match regAtOffset (decide (e.window = 0)) e.block e.offset with
     | none => false
     | some (r, i) =>
       (windowMotifs c e.window).all (fun n => presentOn c r.spec.presence n) &&
       decide (e.width = if r.spec.wide then 8 else 4) && decide (e.mask &&& defaultMask r i = e.mask) &&
       (r.spec.wide || decide (e.mask < 2 ^ 32)))

/-- The value a field of a register of motif `n` has after all DEFAULTS, and the bits they cover. -/
def defaultResult (c : Caps) (l : List DefaultEntry) (f : Fld Reg) (n : Nat) (old : Nat) : Nat × Nat :=
  l.foldl (fun (vm : Nat × Nat) e =>
    if decide (e.window = 0) = f.reg.spec.pkg ∧ e.block = f.reg.spec.block ∧ (windowMotifs c e.window).contains n ∧
       e.offset = f.reg.spec.off then
      ((vm.1 ^^^ (vm.1 &&& e.mask)) ||| (e.value &&& e.mask), vm.2 ||| e.mask)
    else vm) (old, 0)

/-- The bits of a field. -/
def fldMask (f : Fld Reg) : Nat := (2 ^ (f.hi + 1 - f.lo) - 1) * 2 ^ f.lo

/-- The masks cover a field on motif `n`. -/
def covered (c : Caps) (l : List DefaultEntry) (f : Fld Reg) (n : Nat) : Bool :=
  let m := (defaultResult c l f n 0).2
  decide (m &&& fldMask f = fldMask f)

/-- THM_THRESH thresholds in an order its table accepts: WARN + 5 at most THROTTLE, THROTTLE + 5 at most SHUTDOWN. -/
def threshOk (v : Nat) : Bool :=
  decide (bits v 7 0 + 5 ≤ bits v 15 8) && decide (bits v 15 8 + 5 ≤ bits v 23 16)

/-- R82 over all defaults: the mandatory fields, one PAIR_ID, and values judged together. -/
def defaultsOk (c : Caps) (l : List DefaultEntry) : Bool :=
  covered c l F.STC_CTL_SRC 0 && covered c l F.STC_CTL_PTP_MOTIF 0 && covered c l F.STC_CTL_PTP_PORT 0 &&
    (List.range c.motifs).all (fun n => covered c l F.NET_CTL_SPLIT n) &&
    (!c.optE || ((List.range c.motifs).all (fun n => covered c l F.CIP_CTL_PAIR_ID n &&
      decide (bits (defaultResult c l F.CIP_CTL_PAIR_ID n 0).1 11 8 =
        bits (defaultResult c l F.CIP_CTL_PAIR_ID 0 0).1 11 8)))) &&
    threshOk (defaultResult c l F.THM_THRESH_WARN 0 0x76695F).1

/-- R79 for the geometry records. -/
def geomOk (c : Caps) (g : Geometry) : Bool :=
  !(bit g.flags 0) || (decide (4 ≤ g.k) && decide (g.k ≤ 28) && decide (1 ≤ g.m) && decide (g.m ≤ c.maxM) &&
    decide (g.k + g.m ≤ 32))

/-- The sum of the pins a motif must hold (R80). -/
def pinSum (gs : List GroundDef) : Nat := (gs.map (fun g => g.pins)).sum

/-- The CLASS section read at `o`. -/
def readClass (b : Bytes) (o count : Nat) : List ClassResv × List Selector :=
  (entries (parseResv b) (o + 16) 16 4, entries (parseSel b) (o + 80) 16 count)

/-- The GROUND section read at `o`. -/
def readGround (b : Bytes) (o count : Nat) : List Geometry × List GroundDef :=
  (entries (parseGeom b) (o + 16) 4 8, entries (parseGround b) (o + 48) 16 count)

/-- The pair-covered content: CLASS, SCHED and GROUND sections at their offsets. -/
def readPairPart (b : Bytes) (cl sc gr : Section) : PairPart :=
  { resv := (readClass b cl.ofs cl.count).1, sels := (readClass b cl.ofs cl.count).2,
    sched := entries (parseSlot b) (sc.ofs + 16) 16 sc.count,
    geoms := (readGround b gr.ofs gr.count).1, grounds := (readGround b gr.ofs gr.count).2 }

/-- The reserved fields of prior sections (R494), each with the field code of its section. -/
def PairPart.checkClean (q : PairPart) : Check Unit := do
  forAll q.resv (fun r => need r.clean 0x210C r.ofs)
  forAll q.sels (fun e => need (decide (e.resv = 0)) 0x210C e.ofs)
  forAll q.sched (fun e => need (decide (e.action ≠ 0x20) || decide (e.arg < 64)) 0x2110 e.ofs)
  forAll q.geoms (fun g => need g.clean 0x210C g.ofs)
  forAll q.grounds (fun g => need g.clean 0x210C g.ofs)

/-- Checks 1 to 10 of R84 over the header and the whole pricking. -/
def checkHeader (c : Caps) (relien : Bytes) (customer : Option Bytes) (b : Bytes) (total : Nat) : Check Unit := do
  need (leAt b 0 4 == 0x4B504A46) 0x2101 0
  need (leAt b 4 2 == 1 && leAt b 0x12 2 == 0 && allZero (slice b 0x50 0x30) && decide (byteAt b 0xD < 16)) 0x2102 0
  need (leAt b 6 2 == 128 && decide (total % 8 = 0) && decide (320 ≤ total) && decide (total ≤ 0x100000)) 0x2103 0
  need (leAt b 8 4 == 0x78400001) 0x2104 0
  need (keyHashOk relien customer (byteAt b 0xF) (slice b (total - 192) 48) (slice b (total - 144) 48)) 0x5106 0
  need (sigOk b (total - 192)) 0x5105 0
  need (sha384 (slice b 0x80 (total - 320)) == slice b 0x20 48) 0x5107 0
  need (byteAt b 0xC == c.motifs) 0x2108 0
  need (leAt b 0x10 2 == expectedRoles c.motifs) 0x2109 0
  need (byteAt b 0xD &&& (15 - c.optBits) == 0) 0x210A 0

/-- The whole validation of R84 over the bytes of a pricking; on success the pricking as read. A GEOM that names no defined record and a HOME above 1 are field errors,
0x210C: 0x210E is for a defined geometry out of range (log 76). -/
def validatePricking (c : Caps) (relien : Bytes) (customer : Option Bytes) (b : Bytes) : Check Pricking := do
  let total := leAt b 0x14 4
  checkHeader c relien customer b total
  -- check 11
  let secs ← walkSecs b (total - 192) 256 0x80
  forAll ((List.range secs.length).zip secs) (fun p => need (secPlaceOk p.1 p.2 && secOk b p.2) 0x210B p.2.ofs)
  needAll (decide (secs.length = byteAt b 0xE) && decide (8 ≤ secs.length)) 0x210B
  let sec := fun i => secs.getD i default
  -- check 12
  let rts := entries (parseRoute b) ((sec 0).ofs + 16) 16 (sec 0).count
  needAll (decide (1 ≤ (sec 0).count) && decide ((sec 0).count ≤ 512)) 0x210C
  forAll rts (routeEntryOk c)
  needAll (routeSetOk c rts) 0x210C
  -- check 13
  let own := readPairPart b (sec 1) (sec 2) (sec 4)
  needAll (decide ((sec 1).count ≤ 1024)) 0x210C
  forAll ((List.range 4).zip own.resv) (fun p => need (resvOk p.1 p.2) 0x210C p.2.ofs)
  need (decide ((own.resv.getD 0 default).bw ≤ 100)) 0x210F (own.resv.getD 0 default).ofs
  need (decide (10 ≤ (own.resv.getD 3 default).bw)) 0x210F (own.resv.getD 3 default).ofs
  needAll (classLimitsOk own.resv) 0x210F
  forAll own.sels (fun e => need (selOk own.grounds e) 0x210C e.ofs)
  needAll (twinNamed own.grounds own.sels) 0x210C
  -- check 14
  needAll (decide ((sec 2).count ≤ 58)) 0x2110
  forAll own.sched (fun e => need (schedOk e) 0x2110 e.ofs)
  needNew 0x2110 [] (own.sched.map (fun e => (e.slot, e.ofs)))
  -- check 15
  let parts := entries (parsePart b) ((sec 3).ofs + 16) 16 (sec 3).count
  forAll parts (fun p => need (partOk c p) 0x210C p.ofs)
  needNew 0x210C [] (parts.map (fun p => (p.motif, p.ofs)))
  needAll (decide (parts.length = c.motifs)) 0x210C
  forAll parts (fun p => need (decide ((own.resv.map (fun r => r.ways)).sum + p.scrWays ≤ 16)) 0x210F p.ofs)
  -- check 16
  forAll own.geoms (fun g => do
    need g.clean 0x210C g.ofs
    need (geomOk c g) 0x210E g.ofs)
  needAll (decide (1 ≤ (sec 4).count) && decide ((sec 4).count ≤ 256)) 0x210C
  forAll own.grounds (fun g => do
    need (g.clean && decide (g.home ≤ 1) && decide (g.geom < 8) &&
      bit (own.geoms.getD g.geom default).flags 0) 0x210C g.ofs
    need (g.twin || decide (g.pins = 0)) 0x2112 g.ofs)
  needNew 0x210C [] (own.grounds.map (fun g => (g.ground, g.ofs)))
  needAll (decide (pinSum own.grounds ≤ 16384)) 0x2112
  -- check 17
  let locks := entries (parseLock b) ((sec 5).ofs + 16) 12 (sec 5).count
  needAll (decide ((sec 5).count ≤ 256)) 0x2111
  forAll locks (fun e => need (lockOk c e) 0x2111 e.ofs)
  -- check 18
  let defs := entries (parseDefault b) ((sec 6).ofs + 16) 24 (sec 6).count
  needAll (decide (1 ≤ (sec 6).count) && decide ((sec 6).count ≤ 2048)) 0x210C
  forAll defs (fun e => need (defaultOk c e) 0x210C e.ofs)
  needAll (defaultsOk c defs) 0x210C
  -- check 19
  let p := sec 7
  let pairHash := slice b (p.ofs + 16) 48
  let accept := slice b (p.ofs + 64) 48
  let whole := fun (s : Section) => slice b s.ofs s.len
  need (sha384 (slice b 0xC 2 ++ whole (sec 1) ++ whole (sec 2) ++ whole (sec 4)) == pairHash) 0x2113 p.ofs
  let prior ← (if allZero accept then
      (if p.count = 0 then Except.ok none else Except.error (0x2113, some p.ofs))
    else if p.count = 3 then
      (match priorSecs b (p.ofs + 112) (p.ofs + p.len) with
       | none => Except.error (0x2113, some p.ofs)
       | some (cl, sc, gr) =>
         if sha384 (slice b 0xC 2 ++ slice b (p.ofs + 112) (p.len - 112)) == accept
         then (let q := readPairPart b cl sc gr; (q.checkClean).map (fun _ => some q)) else Except.error (0x2113, some p.ofs))
    else Except.error (0x2113, some p.ofs) : Check (Option PairPart))
  pure { format := leAt b 4 2, motifs := byteAt b 0xC, optReq := byteAt b 0xD, sections := byteAt b 0xE,
         keySel := byteAt b 0xF, roles := leAt b 0x10 2, totalLen := total, serial := leAt b 0x18 8,
         rootHash := slice b 0x20 48, routes := rts, own := own, prior := prior, parts := parts, locks := locks,
         defaults := defs, pairHash := pairHash, acceptHash := accept }

end Sys2Proof.Machine
end

