-- ==== Sys2Proof/Machine/BootOps.lean ====
section
/-! DEFINITION. The boot flash: images (R450 to R452), the boot control block (R453), the settings store (R459), and what ends a Rethread's
commit (R458). -/

namespace Sys2Proof.Machine

/-! ## The boot control block -/

/-- A boot control block (R453). -/
structure BootBlock where
  seq : Nat
  next : Nat
  trial : Bool
  prev : Nat
  lastSlot : Nat
  lastValid : Bool
  deriving DecidableEq, Repr

/-- Bytes 0x00 to 0x17 of a block. -/
def BootBlock.head (b : BootBlock) : Bytes :=
  leBytes 4 0x43424A46 ++ leBytes 2 1 ++ zeros 2 ++ leBytes 8 b.seq ++ bytesOf [b.next, b2n b.trial, b.prev, b.lastSlot + 2 * b2n b.lastValid] ++ zeros 4

/-- The bytes of a block that are not 0 from 0x1C on: with its CRC. -/
def BootBlock.bytes (b : BootBlock) : Bytes := b.head ++ leBytes 4 (crc32c b.head)

/-- A copy of the block, where it is valid: MAGIC, FORMAT and CRC are correct. -/
def readBlock (b : Bytes) : Option BootBlock :=
  if leAt b 0 4 = 0x43424A46 ∧ leAt b 4 2 = 1 ∧ leAt b 0x18 4 = crc32c (b.take 0x18) then
    some { seq := leAt b 8 8, next := byteAt b 0x10 % 2, trial := bit (byteAt b 0x11) 0, prev := byteAt b 0x12 % 2, lastSlot := byteAt b 0x13 % 2,
           lastValid := bit (byteAt b 0x13) 1 }
  else none

/-- The copy that is current and the current block: the valid copy with the higher SEQ, copy 0 where they are equal. -/
def State.currentBlock (s : State) : Option (Nat × BootBlock) :=
  match readBlock (s.flashRead 0 28), readBlock (s.flashRead 0x1000 28) with
  | some a, some b => if a.seq < b.seq then some (1, b) else some (0, a)
  | some a, none => some (0, a)
  | none, some b => some (1, b)
  | none, none => none

/-- The block that holds where no copy is valid. -/
def BootBlock.first : BootBlock := { seq := 1, next := 0, trial := false, prev := 0, lastSlot := 0, lastValid := false }

/-- The block in force. -/
def State.bootBlock (s : State) : BootBlock := match s.currentBlock with | some b => b.2 | none => .first

/-- FWU_ST.TRIAL and NEXT_SLOT brought in step with the block. -/
def State.syncBlock (s : State) : State :=
  (s.setFld F.FWU_ST_TRIAL (b2n s.bootBlock.trial)).setFld F.FWU_ST_NEXT_SLOT s.bootBlock.next

/-- A 4 KiB copy erased and programmed. -/
def State.putBlock (s : State) (copy : Nat) (b : BootBlock) : State :=
  (s.flashErase (0x1000 * copy) 0x1000).flashProgram (0x1000 * copy) (b.bytes ++ zeros 4068)

/-- CONTROL_BLOCK_WRITE (R453): the copy that is not current takes the block with the next SEQ; with none current, copy 0 takes it with SEQ 1. -/
def State.writeBlock (s : State) (b : BootBlock) : State :=
  match s.currentBlock with
  | some c => (s.putBlock (1 - c.1) { b with seq := c.2.seq + 1 }).syncBlock
  | none => (s.putBlock 0 { b with seq := 1 }).syncBlock

/-- The running slot, where one is running (R456). -/
def State.runningSlot (s : State) : Option Nat := if s.flag F.FWU_ST_RUNNING then some (s.fld F.FWU_ST_RUN_SLOT) else none

/-- A Rethread's commit has failed with a status (R458): NEXT is the running slot again, TRIAL 0; fetching goes on at the latched tails. -/
def State.failRethread (s : State) (status : Nat) : State :=
  let b := s.bootBlock
  let s := s.writeBlock { b with next := s.fld F.FWU_ST_RUN_SLOT, trial := false }
  let s := (s.setFld F.FWU_COMMIT_STATUS status).setEvt F.FWU_EVT_COMMIT_DONE
  let s := ((s.setFld F.HQ_ST_FETCH_PAUSED 0).setFld F.EP_ST_HOLD 0).ringLatched
  if status = 0x1205 ∨ status = 0x4206 then s.setEvt F.PKG_MODE_EV_RETHREAD_CANCEL else s

/-! ## Images -/

/-- The image header of a slot. -/
def State.imageHeader (s : State) (slot : Nat) : Bytes := s.flashRead (slotBase slot) 256

/-- Check 1 of R452 on a header. -/
def imageHeaderOk (h : Bytes) : Bool :=
  let total := leAt h 0x28 4
  decide (leAt h 0 4 = 0x49464A46) && decide (leAt h 4 2 = 1) && decide (leAt h 6 2 = 256) && decide (byteAt h 0xC < 2) && allZero (slice h 0xD 3) &&
    allZero (slice h 0x36 202) && decide (total % 8 = 0) && decide (448 ≤ total) && decide (total ≤ 0x2000000) && decide (leAt h 0x2C 4 % 4 = 0) &&
    decide (leAt h 0x2C 4 < total - 192) && decide (leAt h 0x30 4 % 4096 = 0) && decide (total ≤ leAt h 0x30 4) && decide (leAt h 0x30 4 ≤ 0x3F00000) &&
    decide (leAt h 0x34 2 ≤ 0xFFFE)

/-- IMAGE_CHECK (R452): the status of a slot's image. -/
def State.imageCheck (s : State) (slot : Nat) (readError : Bool) : Nat :=
  let h := s.imageHeader slot
  let n := leAt h 0x28 4
  let bind := leAt h 0x10 16
  if readError then 0x3008
  else if ¬ imageHeaderOk h then 0x2001
  else if leAt h 8 4 ≠ 0x78400001 then 0x2002
  else if bind ≠ 0 ∧ bind ≠ s.fuses.unitId then 0x2003
  else
    let b := s.flashRead (slotBase slot) n
    if ¬ keyHashOk s.fuses.relienKey s.fuses.customerKey (byteAt h 0xC) (slice b (n - 192) 48) (slice b (n - 144) 48) then 0x5004
    else if ¬ sigOk b (n - 192) then 0x5005
    else 0

/-- VERSION of a slot's image. -/
def State.imageVersion (s : State) (slot : Nat) : Nat := leAt (s.imageHeader slot) 0x20 8

/-- The flash offset of a slot's pricking. -/
def State.prickingOfs (s : State) (slot : Nat) : Nat := slotBase slot + leAt (s.imageHeader slot) 0x30 4

/-- The signed span of a slot's image (R451). -/
def State.imageSpan (s : State) (slot : Nat) : Bytes := s.flashRead (slotBase slot) (leAt (s.imageHeader slot) 0x28 4 - 192)

/-! ## The settings store -/

/-- The offset of a half of the settings store. -/
def halfBase (h : Nat) : Nat := 0x10000 + 0x8000 * h

/-- FORMAT and SEQ of a half of the settings store, where it is valid (log 66). -/
def State.settingsHalf (s : State) (h : Nat) : Option (Nat × Nat) :=
  let b := s.flashRead (halfBase h) 32
  let n := leAt b 0x10 4
  if leAt b 0 4 = 0x54534A46 ∧ n ≤ 32736 ∧ leAt b 0x18 4 = crc32c (b.take 0x18) ∧ leAt b 0x14 4 = crc32c (s.flashRead (halfBase h + 0x20) n) then
    some (leAt b 4 2, leAt b 8 8)
  else none

/-- FORMAT and SEQ of the current half. -/
def State.settings (s : State) : Option (Nat × Nat) :=
  match s.settingsHalf 0, s.settingsHalf 1 with
  | some a, some b => if a.2 < b.2 then some b else some a
  | some a, none => some a
  | none, some b => some b
  | none, none => none

/-- SETTINGS_RESET (R459): both halves erased, half 0 written with LEN 0. -/
def State.resetSettings (s : State) (fmt : Nat) : State :=
  let old := s.settings
  let seq := match old with | some o => o.2 + 1 | none => 1
  let head := leBytes 4 0x54534A46 ++ leBytes 2 fmt ++ zeros 2 ++ leBytes 8 seq ++ leBytes 4 0 ++ leBytes 4 (crc32c [])
  let s := (s.flashErase (halfBase 0) 0x10000).flashProgram (halfBase 0) (head ++ leBytes 4 (crc32c head) ++ zeros 4)
  let s := (s.setFld F.FWU_ST_SETTINGS_RESET 1).setEvt F.FWU_EVT_SETTINGS_RESET
  s.sample 0x000D (leBytes 2 (match old with | some o => o.1 | none => 0xFFFF) ++ leBytes 2 fmt ++ bytesOf [if old.isSome then 1 else 2, 0, 0, 0])

/-- The settings looked at as step 4 ends (R459). -/
def State.checkSettings (s : State) (fmt : Nat) : State :=
  match s.settings with
  | some o => if o.1 = fmt then s else s.resetSettings fmt
  | none => s.resetSettings fmt

/-! ## The sampler's copies -/

/-- The MRAM value held in three copies at an offset: the one that two agree on, else the highest, and whether all three differ (R460). -/
def State.mramMajority (s : State) (o : Nat) : Nat × Bool :=
  let a := s.mramNat o 4
  let b := s.mramNat (o + 4) 4
  let c := s.mramNat (o + 8) 4
  if a = b ∨ a = c then (a, false) else if b = c then (b, false) else (max a (max b c), true)

/-- The sampler's state loaded from the MRAM at power-on reset (R107, R460). -/
def State.loadSampler (s : State) : State :=
  let wp := s.mramMajority 0x10
  let q := s.mramMajority 0x20
  let s := if wp.2 then (s.mramWrite 0x10 (leBytes 4 wp.1 ++ leBytes 4 wp.1 ++ leBytes 4 wp.1)).bump F.ECC_TV_REWRITES else s
  let s := if q.2 then (s.mramWrite 0x20 (leBytes 4 q.1 ++ leBytes 4 q.1 ++ leBytes 4 q.1)).bump F.ECC_TV_REWRITES else s
  let s := (((s.setFld F.SMP_ST_WP (wp.1 / 512)).setFld F.SMP_ST_WP_LO (wp.1 / 4 % 128)).setFld F.SMP_ST_NEXT_SEQ q.1).tvWrote 5 0
  let s := s.setFld F.SMP_ST_NEAR_FULL (b2n (decide (recAreaSize - wp.1 < 65536)))
  let s := s.setFld F.SMP_ST_FULL (b2n (decide (s.mramNat 0x38 1 ≠ 0)))
  ((s.setFld F.SMP_LIFE_CYCLES (s.mramNat 0x30 4)).setFld F.SMP_LIFE_HOURS (s.mramNat 0x34 4))

end Sys2Proof.Machine
end

