-- ==== Sys2Proof/Machine/Views.lean ====
section
/-! DEFINITION. Views (R335 to R348): the view commands, cuts, READY, deletion and the map walker. -/

namespace Sys2Proof.Machine

/-- The end of a view command. -/
def State.endViewCmd (s : State) (status : Nat) : State :=
  (((s.setFld F.RPL_VIEW_CMD_GO 0).setFld F.RPL_VIEW_CMD_BUSY 0).setFld F.RPL_VIEW_CMD_STATUS status).syncViews

/-- The ground of a view is owned here. -/
def State.viewOwned (s : State) (v : View) : Bool := s.owns v.ground

/-! ## Cuts -/

/-- A free snapshot ID; which one is open (R342). -/
def State.freeSnapshot (s : State) : Option Nat :=
  ((List.range (s.med.maps.views.length + 1)).map (fun i => 4097 + (s.freeVal + i) % 61439)).find? (fun v => !(s.med.maps.views.any (fun x => x.id == v)))

/-- One more snapshot of a source keeps the limits of R335. -/
def State.snapshotRoom (s : State) (source : Nat) : Bool :=
  decide (s.snapshots.length < 61439) && decide ((s.snapshots.filter (fun v => v.source == source)).length < 1024)

/-- A view made at a cut (R342, R345): its root copied, a SHARE added to each directory page, and VIEW journaled. -/
def State.makeView (s : State) (src : View) (id : Nat) (intern : Bool) (cut : Nat) : State :=
  let v : View :=
    { left := [], id := id, source := src.id, state := 1, intern := intern, cut := cut, root := src.root, ground := src.ground, domain := src.domain, size := src.size }
  s.journal src.ground 0 [.view v, .roots id src.root]

/-- One entry of a cut: a snapshot with a new ID, or a clone whose target is given; the ID made, where this head owns the ground. -/
def State.cutOne (s : State) (pc : PendingCut) (e : Nat × Nat) : State × Option Nat :=
  match s.med.maps.view e.1 with
  | none => (s, none)
  | some src =>
    if !s.viewOwned src then (s, none)
    else if pc.op = 2 then (s.makeView src e.2 false pc.cut, some e.2)
    else
      match (if s.snapshotRoom src.id then s.freeSnapshot else none) with
      | none => (s, none)
      | some id => (s.tookFree.makeView src id pc.target.isSome pc.cut, some id)

/-- The entries of a cut one after another, with the place of each in the list and the ID it gives. -/
def State.cutAll (s : State) (pc : PendingCut) : List (Nat × (Nat × Nat)) → State × List (Nat × Nat)
  | [] => (s, [])
  | (i, e) :: t =>
    let r := s.cutOne pc e
    let q := r.1.cutAll pc t
    (q.1, (match r.2 with | some id => [(i, id)] | none => []) ++ q.2)

/-- The cut of a list of views takes place (R341 to R343): views PENDING, IDs in the command's list, or in the target's epoch. -/
def State.takeCut (s : State) (pc : PendingCut) : State :=
  let s := s.modRpl (fun r => { r with cuts := r.cuts.erase pc })
  let r := s.cutAll pc ((List.range pc.views.length).zip pc.views)
  match pc.target with
  | some t => (r.1.modTarget t (fun x => { x with snap := (r.2.head?).map (fun p => p.2) })).syncViews
  | none =>
    let a := r.1.fld F.RPL_VIEW_LIST_ADDR * 8
    let s := r.1.each r.2 (fun s p => s.store (a + 8 * p.1 + 2) (leBytes 2 p.2))
    let full := decide (pc.op = 1) && pc.views.any (fun e => match s.med.maps.view e.1 with
      | some v => s.viewOwned v && !s.snapshotRoom v.id | none => false) && decide (r.2.length < pc.views.length)
    s.endViewCmd (if full then 0x6C05 else 0)

/-- CUT_STITCH_REACHED (R342): phase 0 of the cut stitch of a cut that waits. -/
def execCutStitchReached (s : State) : Host.Outcome State Fault Refusal :=
  live s (fun s =>
    match s.rpl.cuts.find? (fun c => decide (c.cut ≤ s.num)) with
    | some c => s.takeCut c
    | none => s)

/-! ## READY -/

/-- Atoms of a view's source that completed before its cut are still buffered (R343). -/
def State.preCut (s : State) (v : View) : Bool :=
  s.dp.atoms.any (fun a => a.ns == v.source && (a.state == AtomState.complete || a.state == AtomState.flushing) && decide (a.done < v.cut))

/-- The state in which a view is whole: READY for a snapshot, LIVE for a clone (R343, R345). -/
def View.ready (v : View) : View := { v with state := if isSnapshotId v.id then 2 else 4 }

/-- A PENDING view has become whole. -/
def State.viewReady (s : State) (v : View) : State :=
  ((s.journal v.ground 0 [.view v.ready]).setEvt F.RPL_EVT_READY).syncViews

/-! ## Deletion -/

/-- The home motif of a metadata page: the spec does not say which (log 59). -/
def State.pageHome (s : State) (page : Nat) : Nat := Config.pageHome page % s.fuses.caps.motifs

/-- The deletions that have no page left for the walker end: the ID is FREE (R346). -/
def State.endDeletions (s : State) : State :=
  let gone := s.med.maps.views.filter (fun v => v.state == 3 && v.left.isEmpty)
  let s := s.each gone (fun s v => s.journal v.ground 0 [.view { v with state := 0 }])
  if gone.isEmpty then s else s.setEvt F.RPL_EVT_WALK_DONE

/-- A motif's walker may release a page: RPL_WALK_CTL.PERIOD stitches, at least one, have passed since its last (R347). -/
def State.walkDue (s : State) (m : Nat) : Bool :=
  let last := Sparse.get 0 s.med.walks m
  decide (last = 0) || decide (last + max 1 (s.fld F.RPL_WALK_CTL_PERIOD) ≤ s.num)

/-- WALKER_RELEASE (R346, R347): a motif's walker releases one page whose home it is, in one WALK transaction. -/
def execWalkerRelease (motif : Nat) (s : State) : Host.Outcome State Fault Refusal :=
  live s (fun s =>
    match (if s.walkDue motif then s.med.maps.toRelease.find? (fun p => s.pageHome p.1 == motif) else none) with
    | none => s
    | some p =>
      let now := s.num
      ((s.modMed (fun d => { d with walks := Sparse.set 0 d.walks motif now })).journalAll motif (.walk p.1 p.2)).endDeletions.pruneFps.syncFp.syncViews)

/-- A view that cannot be deleted now (R348): PENDING, or the base or epoch of a target. -/
def State.viewInUse (s : State) (v : View) : Bool :=
  v.state == 1 || s.rpl.targets.any (fun t => t.2.base == some v.id || t.2.snap == some v.id)

/-! ## The view commands -/

/-- The list of the command: source view and clone target (RPL_VIEW_LIST). -/
def State.viewList (s : State) : List (Nat × Nat) :=
  let a := s.fld F.RPL_VIEW_LIST_ADDR * 8
  (List.range (min 64 (s.fld F.RPL_VIEW_CMD_COUNT))).map (fun i => let d := s.load (a + 8 * i) 8; (leAt d 0 2, leAt d 2 2))

/-- The cut stitch is not in the window of R342. -/
def State.cutPast (s : State) : Bool :=
  let c := s.fld F.RPL_VIEW_CUT_STITCH
  decide (c < s.num + 2) || decide (s.num + 200000 < c)

/-- A group that names namespaces of grounds not owned here is accepted only while PAIR_OK is 1 (R341). -/
def State.groupForeign (s : State) (l : List View) : Bool := l.any (fun v => !s.viewOwned v) && !s.flag F.STC_ST_PAIR_OK

/-- The command waits for its cut, or fails (R341, R342). -/
def State.startCut (s : State) (op : Nat) (l : List (Nat × Nat)) (vs : List View) : State :=
  if s.groupForeign vs then s.endViewCmd 0x1C02
  else if s.cutPast then s.endViewCmd 0x2C03
  else if 8 ≤ s.rpl.cuts.length then s.endViewCmd 0x6C05
  else if op = 1 ∧ vs.any (fun v => s.viewOwned v && !s.snapshotRoom v.id) then s.endViewCmd 0x6C05
  else ((s.modRpl (fun r => { r with cuts := r.cuts ++ [⟨op, s.fld F.RPL_VIEW_CUT_STITCH, l, none⟩] })).setFld F.RPL_VIEW_CMD_BUSY 1).syncViews

/-- SNAPSHOT (R341, R342): every source is a live view. -/
def State.cmdSnapshot (s : State) (l : List (Nat × Nat)) : State :=
  let vs := l.filterMap (fun e => s.med.maps.view e.1)
  if l.isEmpty ∨ vs.length < l.length ∨ vs.any (fun v => decide (v.state ≠ 4)) then s.endViewCmd 0x2C01 else s.startCut 1 l vs

/-- A clone's target keeps the conditions of R345: there, of the source's ground, domain and size, detached and never written. -/
def State.cloneTargetOk (s : State) (v : View) (target : Nat) : Bool :=
  match s.liveNs target, s.med.maps.view target with
  | some t, some w =>
    decide (t.ground = v.ground) && decide (t.domain = v.domain) && decide (t.size = v.size) && !(s.hq.attach.any (fun a => a.1 == target)) &&
      decide (w.state = 4) && w.root.isEmpty && !(s.dp.atoms.any (fun a => a.ns == target))
  | _, _ => false

/-- CLONE (R345): of READY snapshots at once, of live views at the cut. -/
def State.cmdClone (s : State) (l : List (Nat × Nat)) : State :=
  let vs := l.filterMap (fun e => (s.med.maps.view e.1).map (fun v => (v, e.2)))
  let usable := fun (v : View) => v.state == 4 || (v.state == 2 && isSnapshotId v.id)
  if l.isEmpty ∨ vs.length < l.length ∨ vs.any (fun p => !usable p.1 || !s.cloneTargetOk p.1 p.2) then s.endViewCmd 0x2C01
  else if vs.any (fun p => p.1.state == 4) then s.startCut 2 l (vs.map (fun p => p.1))
  else (s.each vs (fun s p => s.makeView p.1 p.2 false 0)).endViewCmd 0

/-- DELETE (R346, R348) of snapshots of grounds owned here. -/
def State.cmdDelete (s : State) (l : List (Nat × Nat)) : State :=
  let vs := l.filterMap (fun e => s.med.maps.view e.1)
  if l.isEmpty ∨ vs.length < l.length ∨ vs.any (fun v => !isSnapshotId v.id || v.state == 3 || !s.viewOwned v) then s.endViewCmd 0x2C01
  else if vs.any s.viewInUse then s.endViewCmd 0x2C06
  else (s.each vs (fun s v => s.deleteView v)).endViewCmd 0

/-- A write of RPL_VIEW_CMD: discarded while BUSY; with GO the operation runs, unless its list does not lie in memory (R27). -/
def State.writeViewCmd (s : State) (value : Nat) : State :=
  if s.flag F.RPL_VIEW_CMD_BUSY then s
  else
    let s := s.softWrite .RPL_VIEW_CMD 0 0 value
    if bit value 63 then
      if !s.reachesAll (.engine 3) true (s.fld F.RPL_VIEW_LIST_ADDR * 8) (8 * min 64 (s.fld F.RPL_VIEW_CMD_COUNT)) then s.endViewCmd 0x2F01
      else match s.fld F.RPL_VIEW_CMD_OP with
      | 1 => s.cmdSnapshot s.viewList
      | 2 => s.cmdClone s.viewList
      | 3 => s.cmdDelete s.viewList
      | _ => s.tookFree.endViewCmd (s.freeVal % 65536)
    else s

/-- RPL_SNAPSHOT (R342). -/
def execRplSnapshot (value : Nat) (s : State) : Host.Outcome State Fault Refusal := live s (fun s => s.writeViewCmd value)

/-- RPL_CLONE (R345). -/
def execRplClone (value : Nat) (s : State) : Host.Outcome State Fault Refusal := live s (fun s => s.writeViewCmd value)

/-- RPL_DELETE (R346). -/
def execRplDelete (value : Nat) (s : State) : Host.Outcome State Fault Refusal := live s (fun s => s.writeViewCmd value)

/-- SNAPSHOT_ABANDON (R344): a view still PENDING when its ground is recovered is deleted. -/
def State.abandonView (s : State) (v : View) : State :=
  (((s.deleteView v).setEvt F.RPL_EVT_ABANDONED).setFld F.RPL_VIEW_CMD_STATUS 0x4C04).syncViews

/-- Every PENDING view of a ground is abandoned. -/
def State.abandonViews (s : State) (g : Nat) : State :=
  let l := s.med.maps.views.filter (fun v => v.state == 1 && v.ground == g)
  s.each l (fun s v => s.abandonView v)

end Sys2Proof.Machine
end

