-- ==== Sys2Proof/Machine/Repl.lean ====
section
/-! DEFINITION. Replication (R349 to R357): epochs cut and shipped, entries applied and content stored at the receiver, acknowledgement and restart. -/

namespace Sys2Proof.Machine

/-- The namespace of a target. -/
def State.targetNs (s : State) (t : Nat) : Option Namespace := s.ns (s.fld F.RPL_TGT_CTL_NSID 0 t)

/-- STATE and EPOCH of a target. -/
def State.setTarget (s : State) (t st epoch : Nat) : State := (s.setFld F.RPL_TGT_ST_STATE st 0 t).setFld F.RPL_TGT_ST_EPOCH (epoch % 2 ^ 32) 0 t

/-! ## Epochs -/

/-- EVERY of a target (0 is treated as 1). -/
def State.every (s : State) (t : Nat) : Nat := max 1 (s.fld F.RPL_TGT_CTL_EVERY 0 t)

/-- A sending target cuts its next epoch, or skips the firing (R350). -/
def State.startEpoch (s : State) (t : Nat) (nsid : Nat) : State :=
  if s.fld F.RPL_TGT_ST_STATE 0 t ≠ 0 ∨ 8 ≤ s.rpl.cuts.length then s.bump F.RPL_TGT_ST_SKIPS 1 0 t
  else
    let e := (s.target t).ackedEpoch + 1
    let cut := s.num + 3
    let s := s.modRpl (fun r => { r with cuts := r.cuts ++ [⟨1, cut, [(nsid, 0)], some t⟩] })
    ((s.modTarget t (fun x => { x with epoch := e, snap := none, remoteCut := cut })).setTarget t 1 e).syncViews

/-- One firing counted down for a target; at 0 its next epoch is cut (R350). -/
def State.countFiring (s : State) (t : Nat) : State :=
  match s.targetNs t with
  | none => s
  | some n =>
    if !s.owns n.ground then s
    else
      let left := (if (s.target t).count = 0 then s.every t else (s.target t).count) - 1
      if left = 0 then (s.modTarget t (fun x => { x with count := s.every t })).startEpoch t n.id
      else s.modTarget t (fun x => { x with count := left })

/-! ## Shipping -/

/-- Entries of two map pages that differ, as offsets in the page. -/
def pageDiff (a b : MapPage) : List Nat :=
  ((a.ents ++ b.ents).map (fun e => e.1)).eraseDups.filter (fun i => (getKey a.ents i).getD default != (getKey b.ents i).getD default)

/-- Chunks under two directory pages that differ; a map page that both share is skipped. -/
def Maps.dirDiff (m : Maps) (a b : DirPage) : List Nat :=
  (((a.kids ++ b.kids).map (fun e => e.1)).eraseDups.filter (fun i => getKey a.kids i != getKey b.kids i)).flatMap (fun i =>
    let page := fun (d : DirPage) => match getKey d.kids i with | some p => Sparse.get default m.pages p | none => default
    (pageDiff (page a) (page b)).map (fun j => i * pageEntries + j))

/-- The chunks whose entries differ between two roots (R351). -/
def Maps.rootDiff (m : Maps) (a b : List (Nat × Nat)) : List Nat :=
  (((a ++ b).map (fun e => e.1)).eraseDups.filter (fun i => getKey a i != getKey b i)).flatMap (fun i =>
    let dir := fun (r : List (Nat × Nat)) => match getKey r i with | some d => Sparse.get default m.dirs d | none => default
    (m.dirDiff (dir a) (dir b)).map (fun j => i * (pageEntries * dirEntries) + j))

/-- The QUERY entry of a chunk of a snapshot (R351): its fingerprint from the record read and checked. Content that cannot be reconstructed goes as poisoned; a want that passes (of
a lane, a context, a key or a module) is no loss, and the entry waits. -/
def State.queryOf (s : State) (m : Nat) (salt : Bytes) (view chunk : Nat) (bad : BadPages) : State × Except Nat QueryEnt :=
  let e := s.med.maps.entry view chunk
  if e.handle = 0 then (s, .ok ⟨chunk, true, 0, zeros 32, e.tags⟩)
  else
    let k := s.med.maps.content e.handle
    match s.readRecord m k bad with
    | (s, .ok x) => (s, .ok ⟨chunk, false, k.poison, sha256 (salt ++ x.2), e.tags⟩)
    | (s, .error w) => if isPassing w then (s, .error w) else (s, .ok ⟨chunk, false, poisonAll k, zeros 32, e.tags⟩)

/-- The QUERY entries of a list of chunks. -/
def State.queriesOf (s : State) (m : Nat) (salt : Bytes) (view : Nat) (bad : BadPages) : List Nat → State × Except Nat (List QueryEnt)
  | [] => (s, .ok [])
  | c :: t =>
    match s.queryOf m salt view c bad with
    | (s, .error w) => (s, .error w)
    | (s, .ok q) =>
      match s.queriesOf m salt view bad t with
      | (s, .error w) => (s, .error w)
      | (s, .ok l) => (s, .ok (q :: l))

/-- Application tags as four 16-bit numbers. -/
def tagBytes (l : List Nat) : Bytes := (List.range 4).flatMap (fun i => leBytes 2 (l.getD i 0))

/-- A QUERY entry in 56 bytes (R355). -/
def QueryEnt.bytes (q : QueryEnt) : Bytes :=
  leBytes 8 q.chunk ++ leBytes 2 (b2n q.zero + 4 * q.poison) ++ zeros 6 ++ q.fp ++ tagBytes q.tags

/-- A QUERY entry from its bytes. -/
def QueryEnt.parse (b : Bytes) : QueryEnt :=
  let fl := leAt b 8 2
  ⟨leAt b 0 8, bit fl 0, bits fl 5 2, slice b 16 32, (List.range 4).map (fun i => leAt b (48 + 2 * i) 2)⟩

/-- All QUERYs are answered and DATA sent: EPOCH_END, and the target waits for the acknowledgement. -/
def State.endShipping (s : State) (t : Nat) : State :=
  let x := s.target t
  if s.fld F.RPL_TGT_ST_STATE 0 t = 2 ∧ x.asked.isEmpty ∧ x.todo.isEmpty ∧ x.owed.isEmpty then
    (s.sendRepl t 5 0 x.epoch (leBytes 8 x.queried ++ leBytes 8 x.shipped)).setTarget t 3 x.epoch
  else s

/-- A DATA entry (R352, R355): the record exactly as stored; one that cannot be reconstructed goes without bytes (log 60). -/
def State.dataOf (s : State) (m view : Nat) (q : QueryEnt) (bad : BadPages) : State × Except Nat Bytes :=
  let k := s.med.maps.content (s.med.maps.entry view q.chunk).handle
  let put := fun (r : Bytes) => leBytes 8 q.chunk ++ tagBytes q.tags ++ leBytes 2 r.length ++ zeros 6 ++ r ++ zeros ((8 - r.length % 8) % 8)
  match s.readRecord m k bad with
  | (s, .ok x) => (s, .ok (put x.1))
  | (s, .error w) => if isPassing w then (s, .error w) else (s, .ok (put []))

/-- The DATA entries of a list of QUERY entries. -/
def State.datasOf (s : State) (m view : Nat) (bad : BadPages) : List QueryEnt → State × Except Nat Bytes
  | [] => (s, .ok [])
  | q :: t =>
    match s.dataOf m view q bad with
    | (s, .error w) => (s, .error w)
    | (s, .ok b) =>
      match s.datasOf m view bad t with
      | (s, .error w) => (s, .error w)
      | (s, .ok l) => (s, .ok (b ++ l))

/-- Shipping goes on (R351, R352): DATA that is owed, then QUERYs of up to 64 entries; it stops at an entry that has to wait, with the reason in STATUS where it is a status word. `fuel`
bounds the messages. -/
def State.shipMore (s : State) (t : Nat) (bad : BadPages) : Nat → State
  | 0 => s.endShipping t
  | f + 1 =>
    let x := s.target t
    match s.targetNs t, x.snap.bind s.med.maps.view with
    | some n, some v =>
      let m := match s.targetConn t with | some c => c.motif | none => 0
      let salt := match s.domain n.domain with | some d => d.salt | none => zeros 32
      let stop := fun (s : State) (w : Nat) => if w < 65536 then s.targetStatus t w else s
      if !x.owed.isEmpty then
        match s.datasOf m v.id bad (x.owed.take 64) with
        | (s, .error w) => stop s w
        | (s, .ok b) =>
          let k := (x.owed.take 64).length
          let s := s.modTarget t (fun x => { x with owed := x.owed.drop 64, shipped := x.shipped + k })
          (s.sendRepl t 4 k x.epoch b).shipMore t bad f
      else if !x.todo.isEmpty then
        match s.queriesOf m salt v.id bad (x.todo.take 64) with
        | (s, .error w) => stop s w
        | (s, .ok l) =>
          let s := s.modTarget t (fun x => { x with todo := x.todo.drop 64, asked := x.asked ++ l, queried := x.queried + l.length })
          (s.sendRepl t 2 l.length x.epoch (l.flatMap QueryEnt.bytes)).shipMore t bad f
      else s.endShipping t
    | _, _ => s

/-- Shipping of a target goes on as far as it can. -/
def State.ship (s : State) (t : Nat) (bad : BadPages) : State :=
  let x := s.target t
  if s.fld F.RPL_TGT_ST_STATE 0 t = 2 then s.shipMore t bad (x.todo.length + x.owed.length + 1) else s

/-- The targets whose shipping waits go on. -/
def State.shipAll (s : State) : State := s.each ((List.range 64).filter (fun t => s.targetOn t false && (!(s.target t).todo.isEmpty || !(s.target t).owed.isEmpty))) (fun s t => s.ship t [])

/-- REPL_EPOCH (R350): a slot fires; it has no effect without option X (R357). -/
def execReplEpoch (slot : Nat) (overrun : Bool) (s : State) : Host.Outcome State Fault Refusal :=
  live s (fun s => s.slotFire slot 0x13 overrun (fun s _ =>
    (s.each (List.range 64) (fun s t => if s.targetOn t false then s.countFiring t else s)).shipAll))

/-- A target's epoch is shipped from its beginning (R351, R356): EPOCH_BEGIN, and the entries that differ from the base as QUERYs. -/
def State.startShipping (s : State) (t : Nat) (bad : BadPages) : State :=
  let x := s.target t
  match s.targetNs t, x.snap.bind s.med.maps.view with
  | some n, some v =>
    let base := match x.base.bind s.med.maps.view with | some b => b.root | none => []
    let s := s.sendRepl t 1 0 x.epoch (leBytes 8 v.cut ++ leBytes 8 x.ackedEpoch ++ leBytes 8 n.size)
    let l := s.med.maps.rootDiff base v.root
    ((s.modTarget t (fun x => { x with todo := l, owed := [], asked := [], queried := 0, shipped := 0 })).setTarget t 2 x.epoch).ship t bad
  | _, _ => s

/-- SNAPSHOT_READY (R343, R350): no atom from before the cut is left, so the view is whole; an epoch's snapshot is shipped. -/
def execSnapshotReady (view : Nat) (bad : BadPages) (s : State) : Host.Outcome State Fault Refusal :=
  live s (fun s => s.under bad (fun s =>
    match s.med.maps.view view with
    | none => s
    | some v =>
      if v.state ≠ 1 ∨ s.preCut v ∨ s.med.flushes.any (fun f => f.nsid == v.source) ∨ ¬ s.viewOwned v then s
      else
        let s := s.viewReady v
        match (List.range 64).find? (fun t => s.targetOn t false && (s.target t).snap == some view) with
        | some t => s.startShipping t bad
        | none => s))

/-- APPLIED (R352): the sender owes DATA for every entry of the QUERY whose bit is 0, and sends it. -/
def execApplied (t : Nat) (bad : BadPages) (s : State) : Host.Outcome State Fault Refusal :=
  live s (fun s => s.onRepl t 3 false (fun s msg => s.under bad (fun s =>
    let x := s.target t
    let first := leAt msg.body 8 8
    let map := leAt msg.body 0 8
    let i := x.asked.findIdx (fun q => q.chunk == first)
    let batch := (x.asked.drop i).take 64
    if msg.epoch ≠ x.epoch ∨ s.fld F.RPL_TGT_ST_STATE 0 t ≠ 2 ∨ batch.isEmpty then s
    else
      let miss := ((List.range batch.length).zip batch).filterMap (fun p => if bit map p.1 then none else some p.2)
      (s.modTarget t (fun x => { x with asked := x.asked.take i ++ x.asked.drop (i + 64), owed := x.owed ++ miss })).ship t bad)))

/-- EPOCH_ACK (R353): REPL journaled, the old base deleted, and the epoch is the base. -/
def execEpochAck (t : Nat) (s : State) : Host.Outcome State Fault Refusal :=
  live s (fun s => s.onRepl t 6 false (fun s msg =>
    let x := s.target t
    match s.targetNs t, x.snap with
    | some n, some id =>
      if msg.epoch ≠ x.epoch ∨ s.fld F.RPL_TGT_ST_STATE 0 t ≠ 3 then s
      else
        let s := s.journal n.ground 0 [.repl t ⟨x.epoch, id, x.remoteCut⟩]
        let s := s.modTarget t (fun x => { x with base := some id, snap := none, ackedEpoch := x.epoch })
        let s := match x.base.bind s.med.maps.view with | some b => s.deleteView b | none => s
        ((s.setFld F.RPL_TGT_LAG_ACKED_CUT x.remoteCut 0 t).setTarget t 0 x.epoch).setEvt F.RPL_EVT_ACKED
    | _, _ => s))

/-- A sending target begins its epoch again (R356). -/
def State.restartEpoch (s : State) (t : Nat) (bad : BadPages) : State := (s.setEvt F.RPL_EVT_RESTART).startShipping t bad

/-- EPOCH_RESTART (R356). -/
def execEpochRestart (t : Nat) (bad : BadPages) (s : State) : Host.Outcome State Fault Refusal :=
  live s (fun s => s.onRepl t 7 false (fun s msg =>
    if msg.epoch = (s.target t).epoch ∧ (s.fld F.RPL_TGT_ST_STATE 0 t = 2 ∨ s.fld F.RPL_TGT_ST_STATE 0 t = 3) then s.under bad (fun s => s.restartEpoch t bad) else s))

/-- REPL_LAG_ALARM (R354): the last acknowledged cut is older than LAG_MAX seconds. -/
def execReplLagAlarm (t : Nat) (s : State) : Host.Outcome State Fault Refusal :=
  live s (fun s =>
    let mx := s.fld F.RPL_TGT_CTL_LAG_MAX 0 t
    if s.targetOn t false ∧ mx ≠ 0 ∧ s.fld F.RPL_TGT_LAG_ACKED_CUT 0 t + mx * 200000 < s.num then s.setEvt F.RPL_EVT_LAG else s)

/-! ## The receiver -/

/-- The staging view of a target is discarded (R356): the references it holds are given back. -/
def State.dropStaging (s : State) (t : Nat) (ground : Nat) : State :=
  let recs := (s.target t).staging.filterMap (fun e => if e.2.handle = 0 then none else some (JRec.refs e.2.handle (-1)))
  let s := s.modTarget t (fun x => { x with staging := [], heldEpoch := none, asked := [] })
  if recs.isEmpty then s else (s.journal ground 0 recs).pruneFps

/-- EPOCH_BEGIN (R355, R356): an earlier staging view is discarded and a new one begins; a namespace of another size takes none. -/
def execEpochBegin (t : Nat) (s : State) : Host.Outcome State Fault Refusal :=
  live s (fun s => s.onRepl t 1 true (fun s msg =>
    match s.targetNs t with
    | none => s.targetStatus t 0x2C01
    | some n =>
      if leAt msg.body 16 8 ≠ n.size ∨ ¬ s.owns n.ground then s.targetStatus t 0x2C01
      else
        let s := s.dropStaging t n.ground
        (s.modTarget t (fun x => { x with epoch := msg.epoch, heldEpoch := some msg.epoch, remoteCut := leAt msg.body 0 8 })).setTarget t 4 msg.epoch))

/-- A message of an epoch that is not held draws EPOCH_RESTART (R356); else something is done with it for the target's namespace and key domain. -/
def State.ofEpoch (s : State) (t : Nat) (msg : ReplMsg) (f : State → Namespace → Domain → State) : State :=
  if (s.target t).heldEpoch ≠ some msg.epoch then s.sendRepl t 7 0 msg.epoch []
  else match s.targetNs t with
    | none => s
    | some n => match s.domain n.domain with
      | none => s
      | some d => f s n d

/-- An entry set in the staging view; the reference of the one it replaces is given back. -/
def State.stage (s : State) (t : Nat) (n : Namespace) (chunk : Nat) (e : LEntry) (recs : List JRec) : State :=
  let old := match getKey (s.target t).staging chunk with | some x => if x.handle = 0 then [] else [JRec.refs x.handle (-1)] | none => []
  let s := s.modTarget t (fun x => { x with staging := putKey x.staging chunk e })
  if recs.isEmpty ∧ old.isEmpty then s else s.journal n.ground 0 (recs ++ old)

/-- One QUERY entry applied (R352): whether it hit. -/
def State.applyQuery (s : State) (t : Nat) (n : Namespace) (d : Domain) (q : QueryEnt) : State × Bool :=
  if q.zero then (s.stage t n q.chunk ⟨0, q.tags⟩ [], true)
  else
    match (if q.poison = 0 then s.fpLookup q.fp n.ground d else none) with
    | some e => (s.stage t n q.chunk ⟨e.handle, q.tags⟩ [.refs e.handle 1], true)
    | none => (s.modTarget t (fun x => { x with asked := x.asked ++ [q] }), false)

/-- QUERY entries applied one after another, with the bitmap from a bit on. -/
def State.applyQueries (s : State) (t : Nat) (n : Namespace) (d : Domain) : Nat → List QueryEnt → State × Nat
  | _, [] => (s, 0)
  | i, q :: r =>
    let x := s.applyQuery t n d q
    let y := x.1.applyQueries t n d (i + 1) r
    (y.1, b2n x.2 * 2 ^ i + y.2)

/-- QUERY (R352): the receiver applies the entries and answers APPLIED. -/
def execQuery (t : Nat) (s : State) : Host.Outcome State Fault Refusal :=
  live s (fun s => s.onRepl t 2 true (fun s msg => s.ofEpoch t msg (fun s n d =>
    let l := (List.range (min 64 msg.count)).map (fun i => QueryEnt.parse (slice msg.body (56 * i) 56))
    let r := s.applyQueries t n d 0 l
    r.1.sendRepl t 3 1 msg.epoch (leBytes 8 r.2 ++ leBytes 8 ((l.headD default).chunk)))))

/-- The compressed chunk of a shipped record, opened under the domain key (R352), or the status word of its check. -/
def State.openShipped (s : State) (m : Nat) (d : Domain) (r : Bytes) : State × Except Nat Bytes :=
  let body := slice r 48 (leAt r 0x14 2)
  if bit (byteAt r 0x16) 0 then s.openUp m d.slot false (slice r 8 12) (r.take 0x18) body (slice r 0x18 16) else (s, .ok body)

/-- Shipped content stored as new content under the receiver's own generator and handle (R352); its fingerprint is inserted where the receiver's own digest
agrees. -/
def State.storeShipped (s : State) (t : Nat) (n : Namespace) (d : Domain) (q : QueryEnt) (body : Bytes) : State :=
  let m := s.homeMotif q.chunk
  let small := s.isChunk4k n.ground
  let fm := s.fpMotif q.fp
  let h := makeHandle n.ground fm (s.med.maps.freeIndex s.takenHandles n.ground fm)
  let same : Bool := match decompressBody body (if small then 4096 else 16384) with | .ok x => decide (sha256 (d.salt ++ x) = q.fp) | .error _ => false
  match s.makeRecord n d m h q.poison small body with
  | (s, .error w) => if w = cipWaits then s else s.targetStatus t w
  | (s, .ok (e, r)) =>
    let p : PackRec := { txn := 0, handle := h, ground := n.ground, motif := m, cls := 3, gc := false, bytes := r, stripes := [] }
    let s := if same ∨ q.poison ≠ 0 then s else s.bump F.RPL_TGT_ST_FP_MISMATCH 1 0 t
    let s := s.modTarget t (fun x => { x with asked := x.asked.filter (fun y => y.chunk != q.chunk) })
    let s := s.stage t n q.chunk ⟨h, q.tags⟩ []
    (s.commitUpdate n m ⟨[.ctab h e], [p], if same ∧ q.poison = 0 then [(q.fp, h)] else []⟩ .shipped).1

/-- The DATA entries of a body: chunk and record. -/
def dataEntries : Nat → Bytes → List (Nat × Bytes)
  | 0, _ => []
  | n + 1, b =>
    if b.length < 24 then []
    else
      let len := leAt b 16 2
      (leAt b 0 8, slice b 24 len) :: dataEntries n (b.drop (24 + (len + 7) / 8 * 8))

/-- Every motif has a lane and a nonce, and the target's domain its key, so that a shipped record can be opened, and sealed anew wherever it goes. -/
def State.canSeal (s : State) (t : Nat) : Bool :=
  !s.fuses.caps.optE || (s.motifs.all (fun m => !(s.leadGroups m none).isEmpty) &&
    (((s.targetNs t).bind (fun n => s.domain n.domain)).all (fun d => !d.enc || s.slotLoaded d.slot)))

/-- DATA (R352): records opened, checked and stored freshly sealed in staging; a chunk without bytes is stored poisoned (log 60). While the lanes of a motif are all fenced, or
the domain's slot is not LOADED, the message waits (R214, R229). -/
def execData (t : Nat) (bad : BadPages) (s : State) : Host.Outcome State Fault Refusal :=
  live s (fun s => if s.canSeal t then s.under bad (fun s => s.onRepl t 4 true (fun s msg => s.ofEpoch t msg (fun s n d =>
    s.each (dataEntries (min 64 msg.count) msg.body) (fun s e =>
      match (s.target t).asked.find? (fun q => q.chunk == e.1) with
      | none => s
      | some q =>
        if e.2.isEmpty then s.storeShipped t n d q (storedChunk (zeros (4096 * s.chunkAtoms n.ground)))
        else
          match s.openShipped (s.homeMotif q.chunk) d e.2 with
          | (s, .ok b) => s.storeShipped t n d q b
          | (s, .error w) => if w = cipWaits then s else s.targetStatus t w))))
    else s)

/-- Every entry of the epoch is applied and its content stored (R353). -/
def State.epochWhole (s : State) (t : Nat) : Bool :=
  let x := s.target t
  x.asked.isEmpty && x.staging.all (fun e => e.2.handle == 0 || (s.med.maps.content e.2.handle).state == 2)

/-- The receiving namespace switched to the staging view in one transaction (R353). -/
def State.switchEpoch (s : State) (t : Nat) (n : Namespace) : State :=
  let recs := (s.target t).staging.flatMap (fun e =>
    let old := (s.med.maps.entry n.id e.1).handle
    JRec.lmap [n.id] e.1 e.2 :: (if old = 0 then [] else [JRec.refs old (-1)]))
  let r := s.addTxn n.ground 0 recs false (.epoch t)
  r.1.sendTxn r.2

/-- EPOCH_END (R353): once the epoch is whole the namespace is switched; the acknowledgement follows when that is durable. Before that the message waits. -/
def execEpochEnd (t : Nat) (s : State) : Host.Outcome State Fault Refusal :=
  live s (fun s =>
    if (s.target t).heldEpoch.isSome && !s.epochWhole t then s
    else s.onRepl t 5 true (fun s msg => s.ofEpoch t msg (fun s n _ => s.switchEpoch t n)))

/-! ## Recovery -/

/-- A sending target taken up from its REPL record (R356): its base, and a READY snapshot of the epoch in progress, which is shipped from its beginning. -/
def State.resumeTarget (s : State) (t : Nat) (bad : BadPages) : State :=
  match s.targetNs t with
  | none => s
  | some n =>
    let r := Sparse.get default s.med.maps.repl t
    let base := if r.epoch = 0 then none else some r.base
    let snap := s.med.maps.views.find? (fun v => v.intern && v.source == n.id && v.state == 2 && some v.id != base)
    let s := s.setFld F.RPL_TGT_LAG_ACKED_CUT r.cut 0 t
    let cut := match snap with | some v => v.cut | none => 0
    let x : Target :=
      { (default : Target) with
        count := s.every t, epoch := r.epoch + b2n snap.isSome, snap := snap.map (fun v => v.id), base := base, ackedEpoch := r.epoch, remoteCut := cut }
    let s := (s.modTarget t (fun _ => x)).setTarget t 0 x.epoch
    if snap.isSome then s.restartEpoch t bad else s

/-- The targets of a ground that this head now owns: what a staging view that is gone had taken is given back, and sending targets are taken up (R356). -/
def State.resumeTargets (s : State) (g : Nat) (bad : BadPages) : State :=
  let mine := fun (t : Nat) => match s.targetNs t with | some n => n.ground == g | none => false
  let s := if (List.range 64).any (fun t => s.targetOn t true && mine t) then (s.modMaps (fun m => m.countRefs g)).pruneFps else s
  s.each ((List.range 64).filter (fun t => s.targetOn t false && (match s.targetNs t with | some n => n.ground == g | none => false)))
    (fun s t => s.resumeTarget t bad)

/-- A write of RPL_TGT_CTL: a sending target enabled for the first time since the reset is taken up from its REPL record (R353, R356). -/
def State.writeTgtCtl (s : State) (t value : Nat) : State :=
  let was := s.flag F.RPL_TGT_CTL_EN 0 t
  let s := s.softWrite .RPL_TGT_CTL 0 t value
  let known := s.rpl.targets.any (fun x => x.1 == t)
  if !was && s.targetOn t false && !known && (s.targetNs t).any (fun n => s.owns n.ground) then s.resumeTarget t [] else s

/-- RPL_TGT_LAG restored from the REPL records (R354). -/
def State.restoreLags (s : State) : State :=
  if s.fuses.caps.optX then s.each (List.range 64) (fun s t => s.setFld F.RPL_TGT_LAG_ACKED_CUT (Sparse.get default s.med.maps.repl t).cut 0 t) else s

/-- A write of RPL_TGT_CONN: with a rebuilt connection an epoch under way begins again (R355). -/
def State.writeTgtConn (s : State) (t value : Nat) : State :=
  let s := s.softWrite .RPL_TGT_CONN 0 t value
  let st := s.fld F.RPL_TGT_ST_STATE 0 t
  if s.targetOn t false ∧ (st = 2 ∨ st = 3) then s.restartEpoch t [] else s

/-! ## What lets shipping go on -/

/-- ENGINE_CONTEXT_FREED (R186, R187, R196, R197, R263): the context of a completed job, chunk, body or stripe is freed, and what waits takes it. -/
def execEngineContextFreed (kind : EngKind) (motif : Nat) (s : State) : Host.Outcome State Fault Refusal :=
  live s (fun s =>
    match s.freeContext kind motif with
    | none => s
    | some s => ((s.serveContexts kind motif (s.waitCount kind motif)).syncEng motif).settleBands.settleWrites.shipAll)

/-- LANE_KAT_COMPLETE (R214): the test of a lane ends; passing clears the fence, and what waited for a lane goes on. -/
def execLaneKatComplete (motif lane : Nat) (pass : Bool) (s : State) : Host.Outcome State Fault Refusal :=
  live s (fun s =>
    let k := 96 * motif + lane
    if lane < 96 ∧ s.cip.tests.contains k then
      let s := s.modCip (fun c => { c with tests := c.tests.filter (fun x => x != k) })
      if pass then (s.setFenced motif (putBit (s.fenced motif) lane false)).serveLanes.settleBands.settleWrites.shipAll else s
    else s)

end Sys2Proof.Machine
end

