-- ==== Sys2Proof/Machine/Logs.lean ====
section
/-! DEFINITION. The log pages that the host queue logic builds (R377, R378) and the controller properties (R359, R369). Offsets of the SMART / Health and ANA pages
that the spec names by their NVMe name alone are NVMe's (log 25); fields of them with no source in the spec are free values (log 62). -/

namespace Sys2Proof.Machine

/-! ## SMART / Health -/

/-- A temperature in tenths of a degree Celsius as kelvin, rounded down (log 62). -/
def kelvin (tenths : Int) : Nat := ((tenths + 2731) / 10).toNat

/-- The junction temperature of a motif (R439), in 0.1 °C, as LPM_TEMP shows its nodes. -/
def State.junction (s : State) (m : Nat) : Int := max (s.sfld F.LPM_TEMP_N0 m) (max (s.sfld F.LPM_TEMP_N1 m) (s.sfld F.LPM_TEMP_N2 m))

/-- Data units: thousands of 512 bytes, rounded up. -/
def dataUnits (sectors : Nat) : Nat := (sectors + 999) / 1000

/-- WEAR_PCT of the most worn module. -/
def State.maxWear (s : State) : Nat := (s.bob.modules.map s.wearPct).foldl max 0

/-- The SMART / Health page for a controller (R377); `a` to `c` are the fields with no source. -/
def State.smartPage (s : State) (k : Ctrl) (a b c : Nat) : Bytes :=
  let temps := (List.range 8).flatMap (fun m => leBytes 2 (if s.hasMotif m then kelvin (s.junction m) else 0))
  let head := bytesOf [s.criticalWarning] ++ leBytes 2 (kelvin (s.sfld F.THM_ST_T_MAX)) ++
    bytesOf [s.fld F.MED_ST_SPARE_MIN_PCT, s.fld F.MED_MEDIA_CTL_SPARE_WARN_PCT, min 255 s.maxWear] ++ zeros 26
  let use := leBytes 16 (dataUnits k.unitsRead) ++ leBytes 16 (dataUnits k.unitsWritten) ++ leBytes 16 k.reads ++ leBytes 16 k.writes
  let life := leBytes 16 a ++ leBytes 16 (s.mramNat 0x30 4) ++ leBytes 16 (s.mramNat 0x34 4) ++ leBytes 16 s.hq.unsafeOffs
  let errs := leBytes 16 k.mediaErrs ++ leBytes 16 b ++ leBytes 4 (s.fld F.THM_TIME_WARN_MIN) ++ leBytes 4 (s.fld F.THM_TIME_THROTTLE_MIN)
  head ++ use ++ life ++ errs ++ temps ++ leBytes 16 c ++ zeros 280

/-! ## ANA -/

/-- The ANA state of a ground (R364) by its NVMe code: Optimized, Change, Persistent Loss, Inaccessible; until step 14 ends every group is Inaccessible (R384). -/
def State.anaState (s : State) (g : Nat) : Nat :=
  if s.mode = 0 then 3
  else match s.groundState g with
  | 1 => 1
  | 3 => 0x0F
  | 4 => 0x0F
  | 6 => 4
  | _ => 3

/-- The namespaces of a ground attached to a controller. -/
def State.attachedIn (s : State) (ctl g : Nat) : List Nat :=
  (s.med.maps.namespaces.filter (fun n => n.ground == g && s.hq.attach.contains (n.id, ctl))).map (fun n => n.id)

/-- The ANA page for a controller: one group for each ground of the ground map, ground g as group g + 1; `changes` is the change count. -/
def State.anaPage (s : State) (ctl changes : Nat) : Bytes :=
  let gs := s.activePart.grounds.map (fun e => e.ground)
  let one := fun g =>
    let l := s.attachedIn ctl g
    leBytes 4 (g + 1) ++ leBytes 4 l.length ++ leBytes 8 changes ++ bytesOf [s.anaState g] ++ zeros 15 ++ l.flatMap (leBytes 4)
  leBytes 8 changes ++ leBytes 2 gs.length ++ zeros 6 ++ gs.flatMap one

/-! ## Vendor pages -/

/-- Grounds in a state. -/
def State.groundsIn (s : State) (st : Nat) : Nat := ((List.range 256).filter (fun g => s.groundState g == st)).length

/-- Cipher lanes fenced, summed over the motifs. -/
def State.lanesFenced (s : State) : Nat := (s.motifs.map (fun m => s.fld F.CIP_ST_FENCED m)).foldl (· + ·) 0

/-- Page 0xC0, Pair status (R378). -/
def State.pairPage (s : State) : Bytes :=
  let flags := b2n (s.flag F.STC_ST_PICOT_OK) + 2 * b2n (s.flag F.HQ_HEALTH_FW_PICOT_VOID) + 4 * b2n (s.flag F.PKG_ADMIT_ST_BUDGET_HOLD) +
    8 * b2n (s.flag F.BRD_ST_LINK_UP) + 16 * b2n (s.flag F.BRD_ST_HA_MISMATCH)
  bytesOf [s.mode, s.fld F.PKG_MODE_PARTNER_MODE, s.fld F.PKG_MODE_SOLO_CAUSE, s.fld F.STC_ST_STATE, flags, 0, 0, 0] ++ leBytes 8 s.num ++
    leBytes 4 s.budget ++ leBytes 4 (s.fld F.PKG_ADMIT_USE_DIRTY_MIB) ++ leBytes 2 (s.groundsIn 6) ++ leBytes 2 s.lanesFenced ++ zeros 36

/-- Page 0xC1, Grounds. -/
def State.groundsPage (s : State) : Bytes :=
  (List.range 256).flatMap (fun g =>
    let flags := s.fld F.CLM_GROUND_EXISTS 0 g + 2 * s.fld F.CLM_GROUND_TWIN 0 g + 4 * s.fld F.CLM_GROUND_HOME 0 g + 8 * s.fld F.CLM_GROUND_MIRRORED 0 g
    bytesOf [s.groundState g, flags] ++ leBytes 2 ((s.med.maps.namespaces.filter (fun n => n.ground == g)).length) ++
      leBytes 4 (s.fld F.CLM_GROUND_UNFLUSHED_MIB 0 g) ++ leBytes 8 (s.reg .CLM_CLAIM 0 g))

/-- The 128 bytes of page 0xC2 for a module index. -/
def State.modulePage (s : State) (i : Nat) : Bytes :=
  let t := Sparse.get [] s.bob.tele i
  let m := s.module i
  let spare := match m with | some _ => min 255 (s.sparePct i) | none => 0
  let wear := match m with | some x => s.wearPct x | none => 0
  bytesOf [i, s.fld F.ECU_MOD_ROLE 0 i, s.fld F.ECU_MOD_FD 0 i, spare, wear, leAt t 2 2 % 256, 0, 0] ++
    leBytes 8 (leAt t 8 8) ++ leBytes 8 (leAt t 16 8) ++ leBytes 8 (leAt t 24 8) ++
    leBytes 4 (((s.descsOf i).map BlockDesc.erases).foldl max 0) ++ zeros 28 ++
    (List.range 16).flatMap (fun k => leBytes 4 (Sparse.get 0 s.bob.temps (16 * i + k)))

/-- Page 0xC2, Modules. -/
def State.modulesPage (s : State) : Bytes := (List.range 256).flatMap s.modulePage

/-- A log page that the host queue logic builds (R362), with the free values it takes. -/
def State.logPage (s : State) (k : Ctrl) (page : Nat) : Option (State × Bytes) :=
  match page with
  | 0x02 =>
    let t := s.tookFree.tookFree.tookFree
    some (t, s.smartPage k s.freeVal s.tookFree.freeVal s.tookFree.tookFree.freeVal)
  | 0x0C => some (s.tookFree, s.anaPage k.id s.freeVal)
  | 0xC0 => some (s, s.pairPage)
  | 0xC1 => some (s, s.groundsPage)
  | 0xC2 => some (s, s.modulesPage)
  | _ => none

/-! ## Properties -/

/-- CAP (R359, R360): MQES, CQR, TO of 1 s, the NVM command set, page sizes of 4 to 64 KiB. -/
def Ctrl.cap (k : Ctrl) : Nat := (if k.fabrics then 1023 else 4095) + 2 ^ 16 + 2 * 2 ^ 24 + 2 ^ 37 + 4 * 2 ^ 52

/-- CSTS: RDY, CFS and SHST. -/
def Ctrl.csts (k : Ctrl) : Nat := b2n k.rdy + 2 * b2n k.cfs + 4 * (k.shst % 4)

/-- The registers of a PF0 controller by offset, length and value: the properties, the admin queue sizes and addresses. -/
def Ctrl.registers (k : Ctrl) : List (Nat × Nat × Nat) :=
  let aqa := (k.aq.1 - 1) % 4096 + ((k.aq.2 - 1) % 4096) * 65536
  [(0x00, 8, k.cap), (0x08, 4, 0x20000), (0x14, 4, k.cc), (0x1C, 4, k.csts), (0x24, 4, aqa), (0x28, 8, k.asq), (0x30, 8, k.acq)]

/-- A byte of the controller registers; what the spec gives no register reads 0. -/
def Ctrl.regByte (k : Ctrl) (a : Nat) : Nat :=
  match k.registers.find? (fun r => decide (r.1 ≤ a) && decide (a < r.1 + r.2.1)) with
  | some r => r.2.2 / 256 ^ (a - r.1) % 256
  | none => 0

/-- A controller property by its offset: CAP, VS 2.0, CC, CSTS. -/
def Ctrl.property (k : Ctrl) (ofs : Nat) : Option Nat :=
  match ofs with
  | 0x00 => some k.cap
  | 0x08 => some 0x20000
  | 0x14 => some k.cc
  | 0x1C => some k.csts
  | _ => none

end Sys2Proof.Machine
end

