-- ==== Sys2Proof/Machine/Nvme.lean ====
section
/-! DEFINITION. The host queue logic: queues and doorbells, fetching, controller state (R369 to R371), the firmware command ring (R361), and the administrative and
fabrics commands (R359 to R379). A command's operands say what its submission entry or capsule decodes to (log 61). -/

namespace Sys2Proof.Machine

/-! ## Fetching -/

/-- A command taken from its queue: identifier, kind of controller, and for fabrics its connection and the OP_SEQ of its capsule. -/
structure Taken where
  cmd : CmdId
  fabrics : Bool
  conn : Option Nat
  opSeq : Nat
  deriving DecidableEq, Repr, Inhabited

/-- Which queues a command may come from: the admin queue, an I/O queue, either. -/
inductive QueueKind where
  | admin | io | reads | any
  deriving DecidableEq, Repr

/-- A queue number is of the kind. -/
def QueueKind.fits (k : QueueKind) (q : Nat) : Bool :=
  match k with
  | .admin => q == 0
  | .io => q != 0
  | .reads => q != 0
  | .any => true

/-- An entry fetched from a PF0 queue (R359, R373, R391, R396): the controller is READY and has no fatal status, fetching is not paused, PF0 may issue requests, and the queue is not empty. -/
def State.takePf0 (s : State) (f : Fetch) (kind : QueueKind) : Option (State × Taken) :=
  match s.ctrl s.pf0Id with
  | none => none
  | some k =>
    match k.sqs.find? (fun q => q.qid == f.sq) with
    | none => none
    | some q =>
      if k.cstate ≠ 1 ∨ k.cfs ∨ s.flag F.HQ_ST_FETCH_PAUSED ∨ ¬ s.mayIssue 0 ∨ ¬ kind.fits f.sq ∨ q.head = q.tail then none
      else
        let go := fun (x : SubQ) => { x with head := (x.head + 1) % x.size, retries := 0 }
        let sqs := mapWhere (fun x => x.qid == f.sq) go k.sqs
        some (s.modCtrl k.id (fun c => { c with sqs := sqs }), ⟨⟨k.id, f.sq, f.cid⟩, false, none, 0⟩)

/-- A write to a namespace region of the connection, with an OP_SEQ before the one given, is not complete (R310, R313). -/
def Conn.writesSince (c : Conn) (seq : Nat) : Bool :=
  c.writes.any (fun w => let d := (seq + 2 ^ 32 - w.1 % 2 ^ 32) % 2 ^ 32; decide (d ≠ 0) && decide (d < 2 ^ 31))

/-- A capsule taken from the receive queue of a fabrics queue's connection (R360); one that reads a namespace once every write before it on the connection is complete (R313). `ready` says that
the command is taken only while the controller is READY. One beyond what the motif accepts in a stitch waits for the next (R115). -/
def State.takeFabric (s : State) (conn cid : Nat) (kind : QueueKind) (ready : Bool) : Option (State × Taken) :=
  match s.conn conn, (s.queuesOf conn).head? with
  | some c, some (ctl, qid) =>
    match c.recv, s.ctrl ctl with
    | (seq, _) :: rest, some k =>
      if c.state ≠ .rts ∨ ¬ kind.fits qid ∨ (ready ∧ k.cstate ≠ 1) ∨ (kind = .reads ∧ c.writesSince seq) ∨ ¬ s.mayAccept c.motif then none
      else some ((s.accept c.motif).modConn conn (fun c => { c with recv := rest, taken := c.taken + 1 }), ⟨⟨ctl, qid, cid⟩, true, some conn, seq⟩)
    | _, _ => none
  | _, _ => none

/-- A command taken. -/
def State.take (s : State) (f : Fetch) (kind : QueueKind) (ready : Bool) : Option (State × Taken) :=
  match f.conn with
  | none => s.takePf0 f kind
  | some c => s.takeFabric c f.cid kind ready

/-- A command taken and carried out. One aborted before it was fetched is only passed (R368). -/
def State.onCmd (s : State) (f : Fetch) (kind : QueueKind) (ready : Bool) (g : State → Taken → State) : State :=
  match s.take f kind ready with
  | none => s
  | some (s, t) =>
    match s.ctrl t.cmd.ctl with
    | none => s
    | some k =>
      if k.gone.contains (t.cmd.sq, t.cmd.cid) then s.modCtrl k.id (fun c => { c with gone := c.gone.erase (t.cmd.sq, t.cmd.cid) })
      else g s t

/-- An administrative command of a READY controller. -/
def State.onAdmin (s : State) (f : Fetch) (g : State → Taken → State) : State := s.onCmd f .admin true g

/-- An administrative command that only PF0 has; a fabrics controller does not support it (R362). -/
def State.onPf0 (s : State) (f : Fetch) (g : State → Taken → State) : State :=
  s.onAdmin f (fun s t => if t.fabrics then s.completeWith t.cmd 0 0x2D01 0 [] else g s t)

/-- A command that only fabrics controllers have. -/
def State.onFabric (s : State) (f : Fetch) (kind : QueueKind) (ready : Bool) (g : State → Taken → State) : State :=
  s.onCmd f kind ready (fun s t => if t.fabrics then g s t else s.completeWith t.cmd 0 0x2D01 0 [])

/-- A command fails with a status word before it has done anything. -/
def State.refuse (s : State) (t : Taken) (word : Nat) : State := s.completeWith t.cmd 0 word 0 []

/-- A command in progress. -/
def State.begin (s : State) (t : Taken) (kind : CmdKind) (nsid : Nat) : State :=
  s.modHq (fun h => { h with cmds := h.cmds ++ [⟨t.cmd, kind, nsid⟩] })

/-! ## Doorbells -/

/-- Doorbells are latched while fetching pauses, and during the warm reset of a Rethread (R373, R400). -/
def State.latching (s : State) : Bool := s.flag F.HQ_ST_FETCH_PAUSED || s.epHeld

/-- A tail written to a PF0 submission queue makes entries fetchable, or is latched (R373). A tail beyond the queue is ignored (log 61). -/
def State.ringSq (s : State) (sq tail : Nat) : State :=
  let set := fun (q : SubQ) => if s.latching then { q with latched := some tail } else { q with tail := tail }
  s.modCtrl s.pf0Id (fun k => { k with sqs := mapWhere (fun q => q.qid == sq && decide (tail < q.size)) set k.sqs })

/-- SQ_DOORBELL_WRITE (R373), through PF0 BAR0. -/
def execSqDoorbellWrite (sq tail : Nat) (s : State) : Host.Outcome State Fault Refusal :=
  live s (fun s => if s.flag F.EP_ST_UP then s.ringSq sq tail else s)

/-- A head written to a PF0 completion queue: completion entries are free again, and waiting completions are posted. -/
def State.ringCq (s : State) (cq head : Nat) : State :=
  (s.modCtrl s.pf0Id (fun k =>
    { k with cqs := mapWhere (fun q => q.qid == cq && decide (head < q.size)) (fun q => { q with head := head }) k.cqs })).postAll

/-- CQ_HEAD_DOORBELL (R387), through PF0 BAR0. -/
def execCqHeadDoorbell (cq head : Nat) (s : State) : Host.Outcome State Fault Refusal :=
  live s (fun s => if s.flag F.EP_ST_UP then s.ringCq cq head else s)

/-! ## PF0 I/O queues -/

/-- A queue size of a PF0 queue in entries (R359). -/
def validSize (size : Nat) : Bool := decide (2 ≤ size) && decide (size ≤ 4096)

/-- CREATE_IO_CQ (R359, R362). -/
def execCreateIoCq (f : Fetch) (qid size vec : Nat) (ien contiguous : Bool) (s : State) : Host.Outcome State Fault Refusal :=
  live s (fun s => s.onPf0 f (fun s t =>
    match s.ctrl t.cmd.ctl with
    | none => s
    | some k =>
      if qid = 0 ∨ 256 < qid ∨ k.cqs.any (fun q => q.qid == qid) then s.completeNamed t.cmd 1 0x01
      else if ¬ validSize size then s.completeNamed t.cmd 1 0x02
      else if ¬ contiguous then s.refuse t 0x2D02
      else if 2048 ≤ vec then s.completeNamed t.cmd 1 0x08
      else
        let q : CmpQ := { qid := qid, size := size, tail := 0, head := 0, vec := vec, ien := ien }
        (s.modCtrl k.id (fun c => { c with cqs := c.cqs ++ [q] })).succeed t.cmd 0 []))

/-- CREATE_IO_SQ (R359, R362). -/
def execCreateIoSq (f : Fetch) (qid size cq : Nat) (contiguous : Bool) (s : State) : Host.Outcome State Fault Refusal :=
  live s (fun s => s.onPf0 f (fun s t =>
    match s.ctrl t.cmd.ctl with
    | none => s
    | some k =>
      if cq = 0 ∨ ¬ k.cqs.any (fun q => q.qid == cq) then s.completeNamed t.cmd 1 0x00
      else if qid = 0 ∨ 256 < qid ∨ k.sqs.any (fun q => q.qid == qid) then s.completeNamed t.cmd 1 0x01
      else if ¬ validSize size then s.completeNamed t.cmd 1 0x02
      else if ¬ contiguous then s.refuse t 0x2D02
      else
        let q : SubQ := { qid := qid, cq := cq, size := size, head := 0, tail := 0, latched := none, retries := 0 }
        (s.modCtrl k.id (fun c => { c with sqs := c.sqs ++ [q] })).syncHq.succeed t.cmd 0 []))

/-- Commands aborted with a status word (R368, R380): withdrawn from the firmware ring and the module reads, a write discarded while an atom of it is not LANDED, and
completed. -/
def State.abortCmds (s : State) (p : CmdId → Bool) (word : Nat) : State :=
  let l := s.hq.cmds.filter (fun k => p k.id)
  let s := s.modHq (fun h => { h with fwc := h.fwc.filter (fun e => !p e.cmd) })
  let slots := s.bob.jobs.flatMap (fun j => j.slots)
  let s := (s.modBob (fun b => { b with jobs := b.jobs.filter (fun j => match j.src with
    | .host c q i => !p ⟨c, q, i⟩ | .verify c q i => !p ⟨c, q, i⟩ | .rdma _ _ _ _ _ _ => true) })).syncUse slots
  s.each l (fun s k =>
    let s := match k.kind with | .writes ids => s.each ids (fun s id => s.dropUnlanded false id) | _ => s
    s.completeWith k.id 0 word 0 [])

/-- DELETE_IO_SQ (R362): the queue's commands end with 0x1D06, and the queue is gone. -/
def execDeleteIoSq (f : Fetch) (qid : Nat) (s : State) : Host.Outcome State Fault Refusal :=
  live s (fun s => s.onPf0 f (fun s t =>
    match s.ctrl t.cmd.ctl with
    | none => s
    | some k =>
      if qid = 0 ∨ ¬ k.sqs.any (fun q => q.qid == qid) then s.completeNamed t.cmd 1 0x01
      else
        let s := s.abortCmds (fun c => c.ctl == k.id && c.sq == qid) 0x1D06
        (s.modCtrl k.id (fun c => { c with sqs := c.sqs.filter (fun q => q.qid != qid) })).syncHq.succeed t.cmd 0 []))

/-- DELETE_IO_CQ (R362): a queue that a submission queue uses cannot be deleted. -/
def execDeleteIoCq (f : Fetch) (qid : Nat) (s : State) : Host.Outcome State Fault Refusal :=
  live s (fun s => s.onPf0 f (fun s t =>
    match s.ctrl t.cmd.ctl with
    | none => s
    | some k =>
      if qid = 0 ∨ ¬ k.cqs.any (fun q => q.qid == qid) then s.completeNamed t.cmd 1 0x01
      else if k.sqs.any (fun q => q.cq == qid) then s.completeNamed t.cmd 1 0x0C
      else (s.modCtrl k.id (fun c => { c with cqs := c.cqs.filter (fun q => q.qid != qid) })).succeed t.cmd 0 []))

/-! ## The firmware command ring -/

/-- The slots of the ring; reserved SIZE values act as 4 (log 61). -/
def State.fwcSlots (s : State) : Nat := 2 ^ (min 4 (s.fld F.HQ_FWC_BASE_SIZE) + 4)

/-- The address of a slot and of its buffer. -/
def State.fwcSlot (s : State) (i : Nat) : Nat := s.fld F.HQ_FWC_BASE_BASE * 4096 + 128 * i

/-- The address of the data buffer of a slot. -/
def State.fwcBuf (s : State) (i : Nat) : Nat := s.fld F.HQ_FWC_BUF_BASE * 65536 + 65536 * i

/-- The ring takes another command: it is served, and the next slot is free. -/
def State.fwcRoom (s : State) : Bool :=
  let t := s.fld F.HQ_FWC_PTR_TAIL % s.fwcSlots
  s.flag F.HQ_CTL_FWC_EN && decide ((t + 1) % s.fwcSlots ≠ s.fld F.HQ_FWC_PTR_HEAD % s.fwcSlots) && !(s.hq.fwc.any (fun e => e.idx == t))

/-- A slot of the ring and its buffer lie in memory that the host queue logic reaches (R27). -/
def State.fwcReached (s : State) (i : Nat) : Bool :=
  s.reachesAll (.engine 2) true (s.fwcSlot i) 128 && s.reachesAll (.engine 2) true (s.fwcBuf i) 65536

/-- A command forwarded (R361): data into the buffer, then the slot, then TAIL and HQ_EVT.FWC; `out` is the data that the command asks for. Where slot or buffer cannot be reached it fails
(R27). -/
def State.forward (s : State) (t : Taken) (nsid : Nat) (sqe data : Bytes) (out : Nat) : State :=
  if 65536 < data.length ∨ 65536 < out then s.refuse t 0x2D02
  else if !s.fwcReached (s.fld F.HQ_FWC_PTR_TAIL % s.fwcSlots) then s.refuse t 0x2F01
  else
    let i := s.fld F.HQ_FWC_PTR_TAIL % s.fwcSlots
    let at_ := (s.fwcSlot i, s.fwcBuf i)
    let entry := slice sqe 0 64 ++ leBytes 2 t.cmd.ctl ++ leBytes 2 t.cmd.sq ++ bytesOf [b2n t.fabrics, 0, 0, 0] ++ leBytes 4 data.length ++ zeros 52
    let s := (s.store (s.fwcBuf i) data).store (s.fwcSlot i) entry
    let s := s.setFld F.HQ_FWC_PTR_TAIL ((i + 1) % s.fwcSlots)
    let s := (s.begin t (.fw i) nsid).modHq (fun h => { h with fwc := h.fwc ++ [⟨i, t.cmd, at_.1, at_.2⟩] })
    s.setEvt F.HQ_EVT_FWC

/-- A command that firmware executes; it stays in its queue while the ring takes none (log 61). An entry with another opcode than the row's is a command that the controllers do not
accept (R362). `pf0` says that PF0 alone has the command. -/
def State.toFirmware (s : State) (f : Fetch) (op : Nat) (pf0 : Bool) (sqe data : Bytes) (out : Nat) : State :=
  if byteAt sqe 0 ≠ op then s.onAdmin f (fun s t => s.refuse t 0x2D01)
  else if ¬ s.fwcRoom then s
  else if pf0 then s.onPf0 f (fun s t => s.forward t f.nsid sqe data out)
  else s.onAdmin f (fun s t => s.forward t f.nsid sqe data out)

/-- NVME_IDENTIFY (R362). -/
def execNvmeIdentify (f : Fetch) (sqe : Bytes) (s : State) : Host.Outcome State Fault Refusal :=
  live s (fun s => s.toFirmware f 0x06 false sqe [] 4096)

/-- FIRMWARE_COMMIT (R372): forwarded; firmware carries it out through FWU_COMMIT. -/
def execFirmwareCommit (f : Fetch) (sqe : Bytes) (s : State) : Host.Outcome State Fault Refusal :=
  live s (fun s => s.toFirmware f 0x10 true sqe [] 0)

/-- FIRMWARE_IMAGE_DOWNLOAD (R372). -/
def execFirmwareImageDownload (f : Fetch) (sqe data : Bytes) (s : State) : Host.Outcome State Fault Refusal :=
  live s (fun s => s.toFirmware f 0x11 true sqe data 0)

/-- The completion of a command that firmware ends (R361): the status word shown is what firmware put into dword 0, whose bits [31:16] are 0 where the Status field is not (R365). -/
def State.fwComplete (s : State) (cmd : CmdId) (slot : Bytes) (data : Bytes) : State :=
  let sf := leAt slot 0x58 2 % 2 ^ 15
  let dw0 := leAt slot 0x50 4
  s.finish ⟨cmd, dw0 % 65536, sf, if sf = 0 then dw0 else dw0 % 65536, leAt slot 0x54 4, data⟩

/-- FWC_DONE (R361, R370): firmware has written DONE; OUT_LEN bytes of the buffer go to the host and the completion is posted. A slot withdrawn is ignored. -/
def execFwcDone (slot : Nat) (s : State) : Host.Outcome State Fault Refusal :=
  live s (fun s =>
    match s.hq.fwc.find? (fun e => e.idx == slot) with
    | none => s
    | some e =>
      let b := s.load e.slot 128
      if ¬ bit (byteAt b 0x60) 0 then s
      else
        let n := min 65536 (leAt b 0x5C 4)
        let poison := s.poisoned e.buf n
        let data := s.load e.buf n
        let s := s.modHq (fun h => { h with fwc := h.fwc.filter (fun x => x.idx != slot) })
        if poison then s.completeWith e.cmd 1 0x5405 0 data else s.fwComplete e.cmd b data)

/-! ## Log pages, features, events -/

/-- GET_LOG_PAGE (R362, R377, R378): a page of HQ from an offset on, or forwarded. -/
def execGetLogPage (f : Fetch) (page ofs len : Nat) (sqe : Bytes) (s : State) : Host.Outcome State Fault Refusal :=
  live s (fun s =>
    if page = 0x02 ∨ page = 0x0C ∨ (0xC0 ≤ page ∧ page ≤ 0xC2) then
      s.onAdmin f (fun s t =>
        match (s.ctrl t.cmd.ctl).bind (fun k => s.logPage k page) with
        | none => s
        | some (s, b) => if 2 ^ 21 < len ∨ b.length < ofs then s.refuse t 0x2D02 else s.succeed t.cmd 0 ((b.drop ofs).take len))
    else s.toFirmware f 0x02 false sqe [] len)

/-- The Keep Alive timer of a controller starts again. -/
def State.restartAlive (s : State) (ctl : Nat) : State :=
  let n := s.num
  s.modCtrl ctl (fun k => { k with alive := n })

/-- The features that the host queue logic owns: Volatile Write Cache, Number of Queues, Asynchronous Event Configuration, Keep Alive Timer (R362). -/
def hqFeature (fid : Nat) : Bool := decide (fid = 0x06) || decide (fid = 0x07) || decide (fid = 0x0B) || decide (fid = 0x0F)

/-- Number of Queues as reported: both counts, 0-based. -/
def State.queueCount (s : State) (fabrics : Bool) : Nat :=
  let n := if fabrics then max 1 (s.fld F.HQ_CTL_FAB_MAXQ) - 1 else 255
  n + 65536 * n

/-- SET_FEATURES (R362, R363). -/
def execSetFeatures (f : Fetch) (fid value : Nat) (sqe data : Bytes) (s : State) : Host.Outcome State Fault Refusal :=
  live s (fun s =>
    if hqFeature fid then
      s.onAdmin f (fun s t =>
        match fid with
        | 0x06 => if bit value 0 then s.succeed t.cmd 0 [] else s.completeNamed t.cmd 1 0x0E
        | 0x07 => s.succeed t.cmd (s.queueCount t.fabrics) []
        | 0x0B => (s.modCtrl t.cmd.ctl (fun k => { k with aerCfg := value % 2 ^ 32 })).succeed t.cmd 0 []
        | _ => ((s.restartAlive t.cmd.ctl).modCtrl t.cmd.ctl (fun k => { k with kato := value % 2 ^ 32 })).succeed t.cmd 0 [])
    else s.toFirmware f 0x09 false sqe data 0)

/-- GET_FEATURES (R362, R363). -/
def execGetFeatures (f : Fetch) (fid : Nat) (sqe : Bytes) (out : Nat) (s : State) : Host.Outcome State Fault Refusal :=
  live s (fun s =>
    if hqFeature fid then
      s.onAdmin f (fun s t =>
        let k := (s.ctrl t.cmd.ctl).getD default
        match fid with
        | 0x06 => s.succeed t.cmd 1 []
        | 0x07 => s.succeed t.cmd (s.queueCount t.fabrics) []
        | 0x0B => s.succeed t.cmd k.aerCfg []
        | _ => s.succeed t.cmd k.kato [])
    else s.toFirmware f 0x0A false sqe [] out)

/-- ASYNC_EVENT_REQUEST (R359, R379): held until an enabled event occurs; at most 4 are outstanding. -/
def execAsyncEventRequest (f : Fetch) (s : State) : Host.Outcome State Fault Refusal :=
  live s (fun s => s.onAdmin f (fun s t =>
    if 4 ≤ (s.hq.cmds.filter (fun k => k.id.ctl == t.cmd.ctl && decide (k.kind = CmdKind.aer))).length then s.completeNamed t.cmd 1 0x05
    else (s.begin t .aer 0).reportEvents t.cmd.ctl))

/-! ## Abort -/

/-- A command in progress may be aborted (R368). -/
def State.abortable (s : State) (k : HostCmd) : Bool :=
  match k.kind with
  | .writes ids => ids.all (fun id => match s.write? id with | some w => decide (w.state = 0) | none => false)
  | .read => s.bob.jobs.any (fun j => match j.src with
    | .host c q i => decide (k.id = ⟨c, q, i⟩) | .verify c q i => decide (k.id = ⟨c, q, i⟩) | .rdma _ _ _ _ _ _ => false)
  | _ => false

/-- The queue of a command holds entries not yet fetched. -/
def State.hasUnfetched (s : State) (id : CmdId) : Bool :=
  match s.ctrl id.ctl with
  | none => false
  | some k =>
    if k.fabrics then ((k.connOf id.sq).bind (fun c => s.conn c)).any (fun c => !c.recv.isEmpty)
    else k.sqs.any (fun q => q.qid == id.sq && decide (q.head ≠ q.tail))

/-- The target of an Abort ends with 0x1D05. -/
def State.abortTarget (s : State) (id : CmdId) : State := ((s.abortCmds (fun c => decide (c = id)) 0x1D05).bump F.HQ_CNT_ABORTED).setEvt F.HQ_EVT_ABORT

/-- The Abort commands of a controller that are outstanding: carried out, their completion not yet posted. -/
def State.abortsOut (s : State) (ctl : Nat) : Nat := (s.hq.aborts.filter (fun p => p.1.ctl == ctl)).length

/-- An Abort that aborted its target completes, once the target's completion is posted (R368). -/
def State.endAbort (s : State) (cmd target : CmdId) : State := (s.modHq (fun h => { h with aborts := h.aborts ++ [(cmd, target)] })).succeed cmd 0 []

/-- An Abort that aborted nothing completes with bit 0 of dword 0 set (R368). -/
def State.missAbort (s : State) (cmd : CmdId) : State :=
  ((s.bump F.HQ_CNT_ABORT_MISSED).modHq (fun h => { h with aborts := h.aborts ++ [(cmd, cmd)] })).succeed cmd 1 []

/-- ABORT (R368): `waiting` says that the target stands in its queue not yet fetched. At most 8 are outstanding (R359). -/
def execAbort (f : Fetch) (sq cid : Nat) (waiting : Bool) (s : State) : Host.Outcome State Fault Refusal :=
  live s (fun s => s.onAdmin f (fun s t =>
    let id : CmdId := ⟨t.cmd.ctl, sq, cid⟩
    if 8 ≤ s.abortsOut t.cmd.ctl then s.completeNamed t.cmd 1 0x03
    else
      match s.hq.cmds.find? (fun k => decide (k.id = id)) with
      | some k => if s.abortable k then (s.abortTarget id).endAbort t.cmd id else s.missAbort t.cmd
      | none =>
        if waiting ∧ s.hasUnfetched id then
          let s := s.modCtrl id.ctl (fun k => { k with gone := k.gone ++ [(sq, cid)] })
          (((s.completeWith id 0 0x1D05 0 []).bump F.HQ_CNT_ABORTED).setEvt F.HQ_EVT_ABORT).endAbort t.cmd id
        else s.missAbort t.cmd))

/-! ## Controller state -/

/-- Queues of PF0 as enabling makes them: the admin pair at the sizes last given. -/
def Ctrl.adminQueues (k : Ctrl) : Ctrl :=
  let sq : SubQ := { qid := 0, cq := 0, size := k.aq.1, head := 0, tail := 0, latched := none, retries := 0 }
  let cq : CmpQ := { qid := 0, size := k.aq.2, tail := 0, head := 0, vec := 0, ien := true }
  if k.fabrics then k else { k with sqs := [sq], cqs := [cq] }

/-- CC.EN 1 of a DISABLED controller (R369, R384): READY, or CFS where the admin queue attributes are not valid; latched until PF0_AVAIL. -/
def State.enableCtrl (s : State) (id : Nat) : State :=
  match s.ctrl id with
  | none => s
  | some k =>
    if ¬ k.fabrics ∧ ¬ s.flag F.EP_CTL_PF0_AVAIL then s.modCtrl id (fun c => { c with latched := some true })
    else if k.aqOk then (s.modCtrl id (fun c => { c.adminQueues with cstate := 1, en := true, rdy := true, cfs := false, latched := none })).syncHq
    else s.modCtrl id (fun c => { c with en := true, cfs := true, latched := none })

/-- A controller reset begins (R370): fetching stops and every command is abandoned. -/
def State.startReset (s : State) (id : Nat) : State :=
  let s := s.abandonCmds true (fun c => c.ctl == id)
  (s.modCtrl id (fun c => { c with cstate := 2, en := false, events := [], gone := [] })).syncHq

/-- Shut-down processing begins (R369): a normal one flushes every attached namespace. -/
def State.startShut (s : State) (id shn : Nat) : State :=
  let atoms := (s.dp.atoms.filter (fun a => s.hq.attach.contains (a.ns, id) && (a.state == AtomState.complete || a.state == AtomState.flushing))).map
    (fun a => (a.writeId, a.atom))
  let s := (s.modCtrl id (fun c => { c with cstate := 3, shn := shn, shst := 1 })).syncHq
  if shn = 1 then (s.modHq (fun h => { h with cmds := h.cmds ++ [⟨⟨id, 65536, 0⟩, .shut atoms, 0⟩] })).settleDurable else s

/-- Controller Configuration written (R369): EN is bit 0, SHN bits 15:14. While a reset or shut-down is processed EN is latched. -/
def State.writeCc (s : State) (id value : Nat) : State :=
  match s.ctrl id with
  | none => s
  | some k =>
    let en := bit value 0
    let shn := bits value 15 14
    let s := s.modCtrl id (fun c => { c with cc := value % 2 ^ 32 })
    match k.cstate with
    | 0 => if en then s.enableCtrl id else s.modCtrl id (fun c => { c with en := false, latched := none })
    | 1 => if ¬ en then s.startReset id else if shn = 1 ∨ shn = 2 then s.startShut id shn else s
    | 4 => if ¬ en then s.startReset id else s
    | _ => s.modCtrl id (fun c => { c with latched := some en })

/-- The controller of PF0 gets its admin queue attributes with CC: the sizes, and whether they are valid. -/
def State.setAq (s : State) (asqs acqs : Nat) (valid : Bool) : State :=
  s.modCtrl s.pf0Id (fun k => if k.cstate = 0 ∨ k.cstate = 2 then { k with aq := (asqs, acqs), aqOk := valid && validSize asqs && validSize acqs } else k)

/-- The host reaches the registers of PF0 (R382, R400). -/
def State.pf0Reached (s : State) : Bool := s.flag F.EP_ST_UP && !s.epHeld

/-- CC_EN_SET (R369, R384): CC.EN 1 written through PF0 BAR0, with the admin queue sizes in force then and whether the attributes are otherwise valid. -/
def execCcEnSet (asqs acqs : Nat) (valid : Bool) (s : State) : Host.Outcome State Fault Refusal :=
  live s (fun s => if s.pf0Reached then (s.setAq asqs acqs valid).writeCc s.pf0Id 1 else s)

/-- CC_EN_CLEAR (R369): CC.EN 0. -/
def execCcEnClear (s : State) : Host.Outcome State Fault Refusal := live s (fun s => if s.pf0Reached then s.writeCc s.pf0Id 0 else s)

/-- A write of CC that changes SHN alone. -/
def State.writeShn (s : State) (id shn : Nat) : State :=
  match s.ctrl id with
  | some k => s.writeCc id (k.cc % 0x4000 + shn * 0x4000)
  | none => s

/-- CC_SHN_NORMAL (R369): CC.SHN 01b. -/
def execCcShnNormal (s : State) : Host.Outcome State Fault Refusal := live s (fun s => if s.pf0Reached then s.writeShn s.pf0Id 1 else s)

/-- CC_SHN_ABRUPT (R369): CC.SHN 10b. -/
def execCcShnAbrupt (s : State) : Host.Outcome State Fault Refusal := live s (fun s => if s.pf0Reached then s.writeShn s.pf0Id 2 else s)

/-- A value of CC.EN latched during processing is applied as if written now (R369). -/
def State.applyLatched (s : State) (id : Nat) : State :=
  match (s.ctrl id).bind (fun k => k.latched.map (fun b => (k.cstate, b))) with
  | none => s
  | some (st, b) =>
    let s := s.modCtrl id (fun c => { c with latched := none })
    if st = 0 ∧ b then s.enableCtrl id else if st = 4 ∧ ¬ b then s.startReset id else s

/-- A fabrics controller ends: its queues go, and it is no more (R370, R371). -/
def State.endFabrics (s : State) (id : Nat) : State := s.endFabricsQueue id 0

/-- The reset of a fabrics controller ends (R369): DISABLED again, its I/O queues deleted; the admin queue, over which it is enabled again, stays connected, but for one that Disconnect
has ended, with which the controller ends. -/
def State.endFabricsReset (s : State) (id : Nat) : State :=
  match s.ctrl id with
  | none => s
  | some k =>
    if k.admin.isNone then s.endFabrics id
    else
      let s := s.modCtrl id (fun c => { c with
        cstate := 0, rdy := false, cfs := false, shn := 0, shst := 0, events := [], aerCfg := 0, gone := [], conns := c.conns.filter (fun q => q.2 == 0) })
      s.syncHq.applyLatched id

/-- A PF0 controller reset ends (R369): CSTS.RDY 0 and the queues deleted; features that Set Features gave are as at first (log 61). -/
def State.endReset (s : State) (id : Nat) : State :=
  let s := s.modCtrl id (fun c => { c with cstate := 0, rdy := false, cfs := false, shn := 0, shst := 0, sqs := [], cqs := [], events := [], aerCfg := 0, gone := [] })
  (s.syncHq.setEvt F.HQ_EVT_CTRL_RESET).applyLatched id

/-- No data transfer of a controller is in flight (R370): only PF0 reads host memory. -/
def State.noTransfers (s : State) (k : Ctrl) : Bool := k.fabrics || (s.ep.reads.isEmpty && s.ep.todo.isEmpty)

/-- CONTROLLER_RESET_END (R369, R370): the reset of a controller ends. -/
def execControllerResetEnd (ctl : Nat) (s : State) : Host.Outcome State Fault Refusal :=
  live s (fun s =>
    match s.ctrl ctl with
    | none => s
    | some k => if k.cstate ≠ 2 ∨ ¬ s.noTransfers k then s else if k.fabrics then s.endFabricsReset ctl else s.endReset ctl)

/-- SHUTDOWN_PROCESSING_END (R369): the fetched commands have completed and the flush has ended. -/
def execShutdownProcessingEnd (ctl : Nat) (s : State) : Host.Outcome State Fault Refusal :=
  live s (fun s =>
    match s.ctrl ctl with
    | none => s
    | some k =>
      if k.cstate ≠ 3 ∨ s.hq.cmds.any (fun c => c.id.ctl == ctl && decide (c.kind ≠ CmdKind.aer)) then s
      else
        let s := (s.modCtrl ctl (fun c => { c with cstate := 4, shst := 2 })).syncHq
        (if k.fabrics then s else s.setEvt F.HQ_EVT_SHUTDOWN).applyLatched ctl)

/-! ## Fabrics commands -/

/-- KEEP_ALIVE (R362): the timer starts again. -/
def execKeepAlive (f : Fetch) (s : State) : Host.Outcome State Fault Refusal :=
  live s (fun s => s.onFabric f .admin false (fun s t => (s.restartAlive t.cmd.ctl).succeed t.cmd 0 []))

/-- KEEP_ALIVE_TIMEOUT (R371): the Keep Alive Timer, in milliseconds of 200 stitches, has run out, and the whole controller ends; a Keep Alive Timer of 0 never expires. -/
def execKeepAliveTimeout (ctl : Nat) (s : State) : Host.Outcome State Fault Refusal :=
  live s (fun s =>
    match s.ctrl ctl with
    | some k => if k.fabrics ∧ k.kato ≠ 0 ∧ k.alive + 200 * k.kato ≤ s.num then s.endFabrics ctl else s
    | none => s)

/-- A controller identifier that no controller has, from a number on, in 0x0010 to 0xFFEF (R360); `fuel` is one more than the controllers. -/
def State.freeCtrlId (s : State) (i : Nat) : Nat → Nat
  | 0 => 0x10 + i % 0xFFE0
  | f + 1 => if (s.ctrl (0x10 + i % 0xFFE0)).isSome then s.freeCtrlId (i + 1) f else 0x10 + i % 0xFFE0

/-- A Connect answered on its connection, also where no queue came about. -/
def State.answerConnect (s : State) (conn cid qid dw0 word field : Nat) : State :=
  let c : HostCpl := { cmd := ⟨0, qid, cid⟩, word := word, field := field, dw0 := dw0, dw1 := 0, data := [] }
  let s := if field = 0 then s
    else (((s.setFld F.HQ_ERR_STATUS word).setFld F.HQ_ERR_QID qid).setFld F.HQ_ERR_CID cid).setFld F.HQ_ERR_VALID 1
  (s.emit (.cqe c.cmd 0 c.dw0 0 c.field)).sendMsg conn (cqeBytes c 0)

/-- A Connect refused with a status word. -/
def State.refuseConnect (s : State) (c : Conn) (cid qid word : Nat) : State :=
  s.answerConnect c.id cid qid word word (statusField 0 word true (s.isMoving c.desc.ground) false)

/-- The descriptor of a fabrics connection names its queue in its own ground (R360). -/
def Conn.fabricsQueue (c : Conn) : Bool := decide (bits c.desc.rqId 23 16 = c.desc.ground) && decide (bits c.desc.rqId 31 24 = 0)

/-- The I/O queues of a fabrics controller (R360): room for one more, on a connection of the controller's ground, under a queue number not in use. -/
def State.ioConnectOk (s : State) (k : Ctrl) (c : Conn) (qid : Nat) : Bool :=
  k.fabrics && decide (k.cstate = 1) && decide (k.ground = c.desc.ground) && decide (k.conns.length ≤ max 1 (s.fld F.HQ_CTL_FAB_MAXQ)) &&
    !(k.conns.any (fun q => q.2 == qid))

/-- An admin queue connected: a new controller. -/
def State.connectAdmin (s : State) (c : Conn) (cid size kato : Nat) : State :=
  let id := s.freeCtrlId s.freeVal (s.hq.ctrls.length + 1)
  let k : Ctrl := { Ctrl.pf0 id with
    fabrics := true, ground := c.desc.ground, aqOk := true, kato := kato, admin := some c.id, conns := [(c.id, 0)], aq := (size, size), sizes := [(0, size)], alive := s.num }
  let s := (s.tookFree.modHq (fun h => { h with ctrls := h.ctrls ++ [k] })).syncHq
  s.answerConnect c.id cid 0 id 0 0

/-- The fabrics queues of a ground. -/
def State.fabQueues (s : State) (g : Nat) : Nat := ((s.hq.ctrls.filter (fun k => k.fabrics && k.ground == g)).map (fun k => k.conns.length)).foldl (· + ·) 0

/-- The Connect of a connection (R360): `ctl` is the controller that an I/O queue joins. A ground holds at most 65,536 fabrics queues, the package 1,048,576. -/
def State.connect (s : State) (c : Conn) (cid qid size ctl kato : Nat) : State :=
  let fits := s.flag F.HQ_CTL_FAB_EN && c.fabricsQueue && decide (2 ≤ size) && decide (size ≤ 1024) && decide (s.fld F.HQ_ST_FABQ < 1048576) &&
    decide (s.fabQueues c.desc.ground < 65536)
  let serves := s.serves c.desc.ground || (s.isTwin c.desc.ground && decide (s.groundState c.desc.ground = 2))
  if ¬ fits then s.refuseConnect c cid qid 0x2D02
  else if ¬ serves then s.refuseConnect c cid qid 0x1406
  else if qid = 0 then s.connectAdmin c cid size kato
  else
    match s.ctrl ctl with
    | none => s.refuseConnect c cid qid 0x2D02
    | some k =>
      if s.ioConnectOk k c qid then
        (s.modCtrl ctl (fun k => { k with conns := k.conns ++ [(c.id, qid)], sizes := k.sizes.filter (fun x => x.1 != qid) ++ [(qid, size)] })).syncHq.answerConnect c.id cid qid ctl 0 0
      else s.refuseConnect c cid qid 0x2D02

/-- FABRICS_CONNECT (R360): the first capsule of a connection that carries no queue yet. -/
def execFabricsConnect (conn cid qid size ctl kato : Nat) (s : State) : Host.Outcome State Fault Refusal :=
  live s (fun s =>
    match s.conn conn with
    | none => s
    | some c =>
      match c.recv with
      | [] => s
      | _ :: rest =>
        if c.state ≠ .rts ∨ s.queuesOf conn ≠ [] then s
        else (s.modConn conn (fun c => { c with recv := rest, taken := c.taken + 1 })).connect c cid qid size ctl kato)

/-- PROPERTY_GET (R369). -/
def execPropertyGet (f : Fetch) (ofs : Nat) (s : State) : Host.Outcome State Fault Refusal :=
  live s (fun s => s.onFabric f .admin false (fun s t =>
    match (s.ctrl t.cmd.ctl).bind (fun k => k.property ofs) with
    | some v => s.finish ⟨t.cmd, 0, 0, v % 2 ^ 32, v / 2 ^ 32, []⟩
    | none => s.refuse t 0x2D02))

/-- PROPERTY_SET (R369): Controller Configuration alone can be written. -/
def execPropertySet (f : Fetch) (ofs value : Nat) (s : State) : Host.Outcome State Fault Refusal :=
  live s (fun s => s.onFabric f .admin false (fun s t =>
    if ofs = 0x14 then (s.succeed t.cmd 0 []).writeCc t.cmd.ctl value else s.refuse t 0x2D02))

/-- DISCONNECT (R369): an I/O queue ends; the Disconnect of the admin queue is taken as CC.EN 0. -/
def execDisconnect (f : Fetch) (s : State) : Host.Outcome State Fault Refusal :=
  live s (fun s => s.onFabric f .any false (fun s t =>
    let s := s.succeed t.cmd 0 []
    if t.cmd.sq = 0 then (s.startReset t.cmd.ctl).modCtrl t.cmd.ctl (fun k => { k with admin := none }) else s.endFabricsQueue t.cmd.ctl t.cmd.sq))

/-! ## Namespaces -/

/-- A buffer of Namespace Management create (R374). -/
structure NsBuf where
  nsze : Nat
  flbas : Nat
  dps : Nat
  ground : Nat
  isView : Bool
  domain : Nat
  source : Nat
  deriving DecidableEq, Repr

/-- The fields that the FJ7840 uses. -/
def NsBuf.of (b : Bytes) : NsBuf :=
  { nsze := leAt b 0x00 8, flbas := bits (byteAt b 0x1A) 4 0, dps := bits (byteAt b 0x1D) 2 0, ground := byteAt b 0xF00, isView := bit (byteAt b 0xF01) 0,
    domain := leAt b 0xF02 2 % 4096, source := leAt b 0xF04 2 }

/-- The fields are in range: sizes of 1 to 2^40 atoms, and the formats of R363. -/
def NsBuf.inRange (b : NsBuf) : Bool :=
  decide (1 ≤ b.nsze) && decide (b.nsze ≤ 2 ^ 40) &&
    ((decide (b.flbas = 0) && decide (b.dps = 0)) || ((decide (b.flbas = 1) || decide (b.flbas = 0x11)) && decide (b.dps = 1)))

/-- The lowest free namespace identifier. -/
def State.freeNsid (s : State) : Option Nat :=
  ((List.range 4096).map (fun i => i + 1)).find? (fun i => (s.ns i).isNone && (s.med.maps.view i).isNone)

/-- A class-0 or class-1 selector covers a namespace (R374). -/
def State.needsPi (s : State) (nsid ground : Nat) : Bool :=
  s.activePart.sels.any (fun e => decide (e.cls ≤ 1) &&
    ((decide (e.kind = 1) && decide (e.first ≤ nsid) && decide (nsid ≤ e.last)) || (decide (e.kind = 2) && decide (e.first % 256 = ground))))

/-- The check of a key domain at creation: VALID, and not encrypted on a package without option E (R225). -/
def State.domainError (s : State) (d : Nat) : Nat :=
  let b := s.load (s.fld F.MTF_KD_BASE_BASE * 2 ^ 18 + 64 * d) 64
  if s.flag F.MTF_KD_BASE_EN ∧ bit (byteAt b 0x22) 0 ∧ bit (byteAt b 0x22) 1 ∧ ¬ s.fuses.caps.optE then 0x2F00
  else if (s.domain d).isNone then 0x2707 else 0

/-- The check of the source view of a namespace. -/
def State.sourceError (s : State) (b : NsBuf) : Nat :=
  match s.med.maps.view b.source with
  | none => 0x2C01
  | some v => if v.ground ≠ b.ground ∨ ¬ isSnapshotId v.id ∨ v.state = 3 then 0x2C01 else if v.state ≠ 2 then 0x1C02 else 0

/-- The checks of R374 in their order; 0 where all pass. -/
def State.createError (s : State) (b : NsBuf) : Nat :=
  if (s.groundDef b.ground).isNone ∨ s.groundState b.ground = 6 then 0x2D0B
  else if ¬ s.serves b.ground then 0x1406
  else if ¬ b.isView ∧ s.domainError b.domain ≠ 0 then s.domainError b.domain
  else if b.flbas = 0 ∧ s.needsPi (s.freeNsid.getD 0) b.ground then 0x2401
  else if b.isView ∧ s.sourceError b ≠ 0 then s.sourceError b
  else if s.freeNsid.isNone then 0x6D0A else 0

/-- NS_CREATE (R374): the definition is journaled; a namespace that is not over a view has a live view of its own. -/
def execNsCreate (f : Fetch) (data : Bytes) (s : State) : Host.Outcome State Fault Refusal :=
  live s (fun s => s.onPf0 f (fun s t =>
    let b := NsBuf.of data
    if ¬ b.inRange then s.refuse t 0x2D02
    else if s.createError b ≠ 0 then s.completeWith t.cmd 0 (s.createError b) b.ground []
    else
      let id := s.freeNsid.getD 0
      let v := (s.med.maps.view b.source).getD default
      let n : Namespace :=
        { id := id, size := b.nsze, pi := decide (b.flbas ≠ 0), ext := decide (b.flbas = 0x11), ground := b.ground,
          view := if b.isView then some b.source else none, domain := if b.isView then v.domain else b.domain }
      let w : View :=
        { left := [], id := id, source := id, state := 4, intern := false, cut := 0, root := [], ground := b.ground, domain := b.domain, size := b.nsze }
      (s.journal b.ground 0 (.ns n :: (if b.isView then [] else [.view w]))).syncViews.succeed t.cmd id []))

/-- A namespace that replication uses (R376): receiving, or the source of a base or epoch. -/
def State.nsReplicated (s : State) (nsid : Nat) : Bool :=
  s.isReceiver nsid || s.rpl.targets.any (fun t => [t.2.base, t.2.snap].any (fun v =>
    (v.bind (fun v => s.med.maps.view v)).any (fun v => v.source == nsid)))

/-- NS_DELETE (R376): detached everywhere; it ends once the commands fetched on the namespace have completed. -/
def execNsDelete (f : Fetch) (s : State) : Host.Outcome State Fault Refusal :=
  live s (fun s => s.onPf0 f (fun s t =>
    match s.liveNs f.nsid with
    | none => s.refuse t 0x2D0C
    | some n =>
      if ¬ s.serves n.ground then s.completeWith t.cmd 0 0x1406 n.ground []
      else if s.nsReplicated n.id then s.refuse t 0x2C06
      else
        let s := s.modHq (fun h => { h with deleting := h.deleting ++ [n.id], attach := h.attach.filter (fun a => a.1 != n.id) })
        let s := s.begin t (.nsDelete n.id) n.id
        (s.settleDeletes s.hq.cmds.length).postAll))

/-- The error of attaching a namespace to a controller, as an NVMe status code of type 1h (log 25). -/
def State.attachError (s : State) (n : Namespace) (attach : Bool) (ctl : Nat) : Option Nat :=
  match s.ctrl ctl with
  | none => some 0x1C
  | some k =>
    if attach then
      if s.isTwin n.ground ∧ ¬ k.fabrics then some 0x19 else if s.hq.attach.contains (n.id, ctl) then some 0x18 else none
    else if s.hq.attach.contains (n.id, ctl) then none else some 0x1A

/-- NAMESPACE_ATTACHMENT (R362, R364, R375): nothing changes where one controller of the list cannot be served. -/
def execNamespaceAttachment (f : Fetch) (attach : Bool) (ctls : List Nat) (s : State) : Host.Outcome State Fault Refusal :=
  live s (fun s => s.onAdmin f (fun s t =>
    match s.liveNs f.nsid with
    | none => s.refuse t 0x2D0C
    | some n =>
      match ctls.findSome? (fun c => s.attachError n attach c) with
      | some e => s.completeNamed t.cmd 1 e
      | none =>
        let rest := s.hq.attach.filter (fun a => !(a.1 == n.id && ctls.contains a.2))
        let s := s.modHq (fun h => { h with attach := if attach then rest ++ ctls.map (fun c => (n.id, c)) else rest })
        s.succeed t.cmd 0 []))

end Sys2Proof.Machine
end

