-- ==== Sys2Proof/Machine/Stitch.lean ====
section
/-! DEFINITION. The stitch timebase (spec/02): edges and frames of the STITCH input, IEEE 1588 updates, relock, the source states of R56, and the
phase comparators. -/

namespace Sys2Proof.Machine

/-- Decode a pulse's high time (R48): tolerance ±250 ns. -/
def decodePulse (ns : Nat) : Symbol :=
  if 750 ≤ ns ∧ ns ≤ 1250 then .zero
  else if 1750 ≤ ns ∧ ns ≤ 2250 then .one
  else if 2750 ≤ ns ∧ ns ≤ 3250 then .marker
  else .bad

/-- The bit a symbol stands for in a frame. -/
def Symbol.isOne : Symbol → Bool
  | .one => true
  | .zero => false
  | .marker => false
  | .bad => false

/-- A symbol that is a plain bit. -/
def Symbol.isBit : Symbol → Bool
  | .one => true
  | .zero => true
  | .marker => false
  | .bad => false

/-- The number that bits spell, first bit highest. -/
def bitsNat (l : List Bool) : Nat := l.foldl (fun a b => 2 * a + b2n b) 0

/-- The number of a valid frame (R49, R50): 64 number bits, 16 bits of CRC, no bit error. -/
def frameNumber (l : List Symbol) : Option Nat :=
  if l.length = 80 ∧ l.all Symbol.isBit then
    let b := l.map Symbol.isOne
    if bitsNat (b.drop 64) = crc16Bits (b.take 64) then some (bitsNat (b.take 64)) else none
  else none

/-- Where the frame collector goes with a symbol of stitch `n` (R50, R51). -/
def StitchSt.collect (c : StitchSt) (y : Symbol) (n : Nat) : StitchSt :=
  match y with
  | .marker =>
    { c with ended := if c.collecting then c.ended ++ [.broken] else c.ended, collecting := true, syms := [], markerNum := n }
  | y =>
    if c.collecting then
      (if c.syms.length = 79 then
        { c with ended := c.ended ++ [.bits (c.syms ++ [y]) c.markerNum], collecting := false, syms := [] }
       else { c with syms := c.syms ++ [y] })
    else if y = .one then { c with ended := c.ended ++ [.broken] }
    else c

/-- SOURCE_LOST (R56): a lost source is not valid, and moves LOCKED to HOLDOVER. -/
def State.sourceLost (s : State) : State :=
  let s := s.setFld F.STC_ST_SRC_VALID 0
  let s := s.modStc (fun c => { c with lastGood := none, badRun := 0, disagreeRun := 0, outRun := 0, ptpRun := 0 })
  if s.fld F.STC_ST_STATE = 1 then
    let s := ((s.setEvt F.STC_EVT_LOST).setFld F.STC_ST_STATE 2).setFld F.STC_ST_PICOT_OK 0
    s.modStc (fun c => { c with holdoverAt := s.num })
  else s

/-- The phase error left when the offset is chosen under R53 (between -500 and 499), and that offset, for a source that leads by `x` units. -/
def chooseOffset (x : Int) : Int × Int :=
  let o := -((x + 500) / 1000)
  (o, x + 1000 * o)

/-- How far the selected source leads this head's raw count, in phase units (R52, R53). -/
def State.sourceLead (s : State) : Int :=
  if s.fld F.STC_CTL_SRC = 0 then
    1000 * ((s.stc.srcNum : Int) - (s.stc.srcAt : Int)) - s.stc.lastErr
  else
    Int.tdiv (s.sfld F.STC_PTP_ADJ_PH_OFS) 5 - 1000 * signed 64 (s.fld F.STC_NUM_OFS_OFS)

/-- The time of the selected source, in phase units, by its number and phase: of the last frame and edge, or of the last PTP update and the stitches since then
(R52, R53). -/
def State.sourceTime (s : State) : Int :=
  let now : Int := s.stc.phase
  if s.fld F.STC_CTL_SRC = 0 then 1000 * ((s.stc.srcNum : Int) + s.num - s.stc.srcAt) + now - s.stc.lastErr
  else 1000 * ((s.fld F.STC_PTP_NUM_NUM : Int) + s.num - s.stc.ptpAt) + now + Int.tdiv (s.sfld F.STC_PTP_ADJ_PH_OFS) 5

/-- The stitch logic after the local count has moved by `k` stitches and the phase by `p` units at once: what it has noted by local stitch keeps its distance. -/
def StitchSt.shift (c : StitchSt) (k p : Int) : StitchSt :=
  let mv := fun (n : Nat) => ((n : Int) + k).toNat
  let mark := fun e => match e with | FrameEnd.broken => FrameEnd.broken | .bits l n => .bits l (mv n)
  { c with srcAt := mv c.srcAt, ptpAt := mv c.ptpAt, markerNum := mv c.markerNum, ended := c.ended.map mark, lastErr := c.lastErr + p }

/-- Count and phase set at once to a time in phase units (R46). -/
def State.setTime (s : State) (t : Int) : State :=
  let n := t / 1000
  let p := t % 1000
  let mv := fun (x : Nat) => ((x : Int) + (n - s.num)).toNat
  let s := s.modTherm (fun t => { t with inletAt := t.inletAt.map mv, noticeAt := mv t.noticeAt })
  let s := s.modHu (fun h => { h with owed := h.owed.map mv, polledAt := mv h.polledAt })
  let s := s.modStc (fun c => { c.shift (n - s.num) (p - c.phase) with phase := p.toNat })
  (((s.setFld F.STC_NUM_NUM (ofSigned 64 n)).tvWrote 0 0).setSfld F.STC_ST_PH_ERR 0)

/-- A BRIDE state is entered (STC_EVT.BRIDE). -/
def State.enterBride (s : State) (st : Nat) : State :=
  if s.fld F.STC_ST_STATE = st then s else (s.setFld F.STC_ST_STATE st).setEvt F.STC_EVT_BRIDE

/-- Lock with the count kept: the offset chosen under R53 and the phase error slewed (R54). -/
def State.lockKeeping (s : State) : State :=
  let oe := chooseOffset s.sourceLead
  let s := (s.setFld F.STC_NUM_OFS_OFS (ofSigned 64 oe.1)).setSfld F.STC_ST_PH_ERR oe.2
  let s := s.setFld F.STC_ST_STATE 1
  (s.modStc (fun c => { c with relocking := true, badRun := 0, disagreeRun := 0, outRun := 0 })).syncPicot

/-- Lock in a cold Winding with no partner head in service: count and phase taken from the source, offset 0, relock complete at once (R53). -/
def State.lockCold (s : State) : State :=
  let s := (s.setTime (max 0 s.sourceTime)).setFld F.STC_NUM_OFS_OFS 0
  let s := s.setFld F.STC_ST_STATE 1
  ((s.modStc (fun c => { c with relocking := false, badRun := 0, disagreeRun := 0, outRun := 0 })).setEvt F.STC_EVT_RELOCK).syncPicot

/-- A source that is valid locks a head in HOLDOVER, or in a BRIDE state or FREE without MISMATCH_HOLD (R56). -/
def State.relockIfValid (s : State) : State :=
  let st := s.fld F.STC_ST_STATE
  if s.flag F.STC_ST_SRC_VALID ∧ (st = 2 ∨ (3 ≤ st ∧ st ≤ 5 ∧ ¬ s.flag F.STC_ST_MISMATCH_HOLD)) then s.lockKeeping else s

/-- STITCH_EDGE (R48, R51). -/
def stitchEdge (err : Int) (highNs : Nat) (s : State) : State :=
  if highNs < 200 ∨ s.fld F.STC_CTL_SRC ≠ 0 then s
  else
    let n := if err < 0 then s.num + 1 else s.num
    let s := s.modStc (fun c => { c.collect (decodePulse highNs) n with lastErr := err })
    if s.fld F.STC_ST_STATE ≠ 1 then s
    else if -10 ≤ err ∧ err ≤ 10 then
      (s.modStc (fun c => { c with outRun := 0 })).setSfld F.STC_ST_PH_ERR (s.sfld F.STC_ST_PH_ERR - err)
    else
      let s := (s.bump F.STC_CNT_EDGE_ERR).setEvt F.STC_EVT_EDGE_ERR
      let s := s.modStc (fun c => { c with outRun := c.outRun + 1 })
      if 3 ≤ s.stc.outRun then s.sourceLost else s

/-- A rising edge on STITCH_P/N: `err` is its signed distance, in phase units, from the phase-0 instant that the local count and the residual
phase error predict, and `highNs` the high time of its pulse. -/
def execStitchEdge (err : Int) (highNs : Nat) (s : State) : Host.Outcome State Fault Refusal := live s (stitchEdge err highNs)

/-- An invalid frame: counted; the third in a row loses a valid source (R51). -/
def State.badFrame (s : State) : State :=
  let s := (s.bump F.STC_CNT_FRAME_ERR).setEvt F.STC_EVT_FRAME_ERR
  let s := s.modStc (fun c => { c with badRun := c.badRun + 1, lastGood := none })
  if 3 ≤ s.stc.badRun ∧ s.flag F.STC_ST_SRC_VALID then s.sourceLost else s

/-- A valid frame with number `n` whose marker came in local stitch `at` (R51). One that disagrees is counted, whether the source is valid or not (log 20). -/
def State.goodFrame (s : State) (n at_ : Nat) : State :=
  let agrees := decide ((n : Int) = (at_ : Int) - signed 64 (s.fld F.STC_NUM_OFS_OFS))
  let s := if agrees then s else (s.bump F.STC_CNT_FRAME_ERR).setEvt F.STC_EVT_FRAME_ERR
  if s.flag F.STC_ST_SRC_VALID then
    if agrees then
      s.modStc (fun c => { c with badRun := 0, disagreeRun := 0, lastGood := some n, srcNum := n, srcAt := at_ })
    else
      let s := s.modStc (fun c => { c with badRun := 0, disagreeRun := c.disagreeRun + 1, lastGood := some n })
      if 2 ≤ s.stc.disagreeRun then s.sourceLost else s
  else
    let second := decide (s.stc.lastGood = some (n - 4096)) && decide (4096 ≤ n)
    let s := s.modStc (fun c => { c with badRun := 0, disagreeRun := 0, lastGood := some n, srcNum := n, srcAt := at_ })
    if second then (s.setFld F.STC_ST_SRC_VALID 1).relockIfValid else s

/-- STITCH_FRAME (R50, R51): the oldest frame that has ended is judged. -/
def stitchFrame (s : State) : State :=
  match s.stc.ended with
  | [] => s
  | e :: t =>
    let s := s.modStc (fun c => { c with ended := t })
    match e with
    | .broken => s.badFrame
    | .bits l at_ => match frameNumber l with
      | none => s.badFrame
      | some n => s.goodFrame n at_

/-- A completed stitch-number frame is judged valid, invalid or disagreeing. -/
def execStitchFrame (s : State) : Host.Outcome State Fault Refusal := live s stitchFrame

/-- No edge accepted for 2 stitch periods: a valid STITCH source is lost (R51). -/
def execStitchEdgeTimeout (s : State) : Host.Outcome State Fault Refusal :=
  live s (fun s => if s.fld F.STC_CTL_SRC = 0 ∧ s.flag F.STC_ST_SRC_VALID then s.sourceLost else s)

/-- A PTP update (R52): written into STC_PTP_ADJ; usable while PTP_VALID is 1; the sixteenth usable one in a row within 20 ns, none more than 4,096 stitches after
the one before, makes the source valid. -/
def ptpUpdate (value : Nat) (s : State) : State :=
  let s := s.setReg .STC_PTP_ADJ 0 0 value
  if s.fld F.STC_CTL_SRC ≠ 1 ∨ ¬ s.flag F.STC_CTL_PTP_VALID then s.modStc (fun c => { c with ptpRun := 0 })
  else
    let ofs := s.sfld F.STC_PTP_ADJ_PH_OFS
    let good := decide (-20 ≤ ofs) && decide (ofs ≤ 20)
    let run := if ¬ good then 0 else if s.num ≤ s.stc.ptpAt + 4096 then s.stc.ptpRun + 1 else 1
    let s := s.modStc (fun c => { c with ptpRun := run, ptpAt := s.num, ptpFreq := s.sfld F.STC_PTP_ADJ_FREQ })
    if s.fld F.STC_ST_STATE = 1 then s.setSfld F.STC_ST_PH_ERR (Int.tdiv ofs 5)
    else if 16 ≤ run ∧ ¬ s.flag F.STC_ST_SRC_VALID then (s.setFld F.STC_ST_SRC_VALID 1).relockIfValid
    else s

/-- A write of STC_PTP_ADJ. -/
def execPtpUpdate (value : Nat) (s : State) : Host.Outcome State Fault Refusal := live s (ptpUpdate value)

/-- No PTP update for 4,096 stitches: the PTP source is lost (R52). -/
def execPtpUpdateTimeout (s : State) : Host.Outcome State Fault Refusal :=
  live s (fun s => if s.fld F.STC_CTL_SRC = 1 ∧ s.flag F.STC_ST_SRC_VALID then s.sourceLost else s)

/-- One unit of slew towards zero (R51, R53). -/
def slewOne (e : Int) : Int := if 0 < e then e - 1 else if e < 0 then e + 1 else 0

/-- The partner head's last record announces Rethread: from phase 0 of the next stitch a Paired head is Solo with cause 3 (R99, R101). -/
def State.seeRethread (s : State) : State :=
  match s.pair.last with
  | some r => if r.rethread ∧ s.mode = 1 then s.goSolo 3 else s
  | none => s

/-- STITCH_START (R46): the number advances at phase 0, the residual error is slewed by a unit, a head in a BRIDE state or FREE whose own source is valid locks to it
(R56), the cap of R444 renews for each motif, the age of the hold-up reading grows (R435), and a Rethread that the partner head announced takes effect. -/
def stitchStart (s : State) : State :=
  let s := ((s.setFld F.STC_NUM_NUM (s.num + 1)).tvWrote 0 0).setSfld F.STC_ST_PH_ERR (slewOne (s.sfld F.STC_ST_PH_ERR))
  let s := (s.modStc (fun c => { c with phase := 0, slots := [] })).relockIfValid
  let cap := max 1 (s.fld F.THM_ENF_ADMIT_ATOMS)
  let s := s.modTherm (fun c => { c with enfUsed := c.enfDebt.map (fun d => min d cap) })
  let s := s.modTherm (fun c => { c with enfDebt := c.enfDebt.map (fun d => d - cap) })
  (s.bump F.PWR_HU_ST_AGE).seeRethread

/-- RELOCK_COMPLETE (R54): the residual error is within 4 units. -/
def execRelockComplete (s : State) : Host.Outcome State Fault Refusal :=
  live s (fun s =>
    let e := s.sfld F.STC_ST_PH_ERR
    if s.stc.relocking ∧ s.fld F.STC_ST_STATE = 1 ∧ -4 ≤ e ∧ e ≤ 4 then
      ((s.modStc (fun c => { c with relocking := false })).setEvt F.STC_EVT_RELOCK).syncPicot
    else s)

/-- The heads have paired: BRD_ST.STATE is UP or RESYNC. -/
def State.paired (s : State) : Bool := decide (s.fld F.BRD_ST_STATE = 3) || decide (s.fld F.BRD_ST_STATE = 4)

/-- The partner head of the pair is in service, by its last record or its TRAIN_ID (R53, R56). A head with which pairing is refused is no partner head. -/
def State.partnerInService (s : State) : Bool :=
  s.paired &&
    match s.pair.last with
    | some r => decide (1 ≤ r.mode) && decide (r.mode ≤ 3)
    | none => match s.pair.partnerId with
      | some t => decide (1 ≤ t.mode) && decide (t.mode ≤ 3)
      | none => false

/-- The partner head's count and phase taken at once (R55, R56), with its offset where `ofs` says so. -/
def State.adoptTime (s : State) (skew : Int) (ofs : Option Nat) : State :=
  let s := (s.setTime (((1000 * s.num + s.stc.phase : Nat) : Int) + skew)).modStc (fun c => { c with skew := 0 })
  match ofs with
  | some o => s.setFld F.STC_NUM_OFS_OFS o
  | none => s

/-- A lock to the own source at step 10 (R53): a cold Winding with no partner head in service takes the source's count and phase, any other keeps its count. -/
def State.lockOwn (s : State) : State :=
  if s.fld F.PKG_MODE_WIND_KIND = 0 ∧ ¬ s.partnerInService then s.lockCold else s.lockKeeping

/-- What step 10 can do now (R56): a partner head in service whose record has come gives count, offset and phase; without a partner head in service a valid source locks a
head in ACQUIRE; a head that already has a state of the table goes on. None: the step waits. -/
def State.lockStep (s : State) : Option State :=
  match s.partnerInService, s.pair.last with
  | true, some r => some (((s.adoptTime s.stc.skew (some r.numOfs)).enterBride 4).syncPicot)
  | true, none => none
  | false, _ =>
    if s.fld F.STC_ST_STATE ≠ 0 then some s
    else if s.flag F.STC_ST_SRC_VALID then some s.lockOwn
    else none

/-- ACQUIRE_TIMEOUT (R56): step 10 has lasted 100 ms. Where the partner head has not been heard, a valid source locks now, with the count kept; with neither, the head
runs FREE. -/
def execAcquireTimeout (s : State) : Host.Outcome State Fault Refusal :=
  live s (fun s =>
    if s.inStep 10 then
      (match s.lockStep with
      | some t => t
      | none => if s.fld F.STC_ST_STATE ≠ 0 then s else if s.flag F.STC_ST_SRC_VALID then s.lockOwn else (s.setFld F.STC_ST_STATE 5).syncPicot).stepDone 10 100000
    else s)

/-- HOLDOVER_EXPIRY (R56): one second in HOLDOVER. -/
def holdoverExpiry (s : State) : State :=
  if s.fld F.STC_ST_STATE ≠ 2 then s
  else
    let s := s.setEvt F.STC_EVT_HOLD_EXPIRED
    match s.flag F.BRD_ST_LINK_UP, s.pair.last with
    | true, some r =>
      let follow := decide (r.stcState = 1) || decide (s.headId = 1)
      s.enterBride (if follow then 4 else 3)
    | _, _ => s.setFld F.STC_ST_STATE 5

/-- One second in HOLDOVER has passed. -/
def execHoldoverExpiry (s : State) : Host.Outcome State Fault Refusal := live s holdoverExpiry

/-- Another source is selected (R47): it has yet to become valid, and the one left is lost. -/
def State.sourceChanged (s : State) (old : Nat) : State := if s.fld F.STC_CTL_SRC = old then s else s.sourceLost

/-- A write of STC_CTL: its fields by their types, a cleared PTP_VALID loses a PTP source (R52), RETRY clears MISMATCH_HOLD (R55). -/
def writeStcCtl (value : Nat) (s : State) : State :=
  let s := (s.softWrite .STC_CTL 0 0 value).sourceChanged (s.fld F.STC_CTL_SRC)
  let s := if s.fld F.STC_CTL_SRC = 1 ∧ ¬ s.flag F.STC_CTL_PTP_VALID ∧ s.flag F.STC_ST_SRC_VALID then s.sourceLost else s
  if s.flag F.STC_CTL_RETRY then ((s.setFld F.STC_ST_MISMATCH_HOLD 0).setFld F.STC_CTL_RETRY 0).relockIfValid else s

/-- STC_RETRY (R55): a write of STC_CTL with RETRY. -/
def execStcRetry (value : Nat) (s : State) : Host.Outcome State Fault Refusal := live s (writeStcCtl value)

/-- STC_NUM_READ (R65): the phase at the instant of the read is latched. -/
def stcNumRead (phase : Nat) (s : State) : State :=
  let s := s.atPhase (phase % 1000)
  s.setFld F.STC_PH_LATCH_PHASE s.stc.phase

/-! ## Phase comparators -/

/-- The interrupt of comparator `j` at the hart it names (R63). -/
def State.cmpInterrupt (s : State) (j : Nat) : State :=
  s.raiseIrq (s.fld F.STC_CMP_C_MOTIF 0 j) (s.fld F.STC_CMP_C_HART 0 j) 0 (0x100 + j)

/-- After a firing: a one-shot is disarmed, a periodic one moves its target on by `k` periods. -/
def State.cmpAdvance (s : State) (j k : Nat) : State :=
  let p := s.fld F.STC_CMP_C_PERIOD 0 j
  if p = 0 then s.setFld F.STC_CMP_C_EN 0 0 j
  else s.setFld F.STC_CMP_T_TARGET (s.fld F.STC_CMP_T_TARGET 0 j + k * p) 0 j

/-- COMPARATOR_FIRE (R63): the number equals the target and the phase is reached; a PHASE above 999 never is (R4). -/
def comparatorFire (j : Nat) (s : State) : State :=
  if j < 64 ∧ s.flag F.STC_CMP_C_EN 0 j ∧ s.num = s.fld F.STC_CMP_T_TARGET 0 j ∧ s.stc.phase ≤ s.fld F.STC_CMP_C_PHASE 0 j ∧
      s.fld F.STC_CMP_C_PHASE 0 j < 1000 then
    ((s.atPhase (s.fld F.STC_CMP_C_PHASE 0 j)).cmpInterrupt j).cmpAdvance j 1
  else s

/-- Comparator `j` reaches its target stitch and phase. -/
def execComparatorFire (j : Nat) (s : State) : Host.Outcome State Fault Refusal := live s (comparatorFire j)

/-- The target stitch and phase have already passed (R64). -/
def State.cmpPassed (s : State) (j : Nat) : Bool :=
  let t := s.fld F.STC_CMP_T_TARGET 0 j
  decide (t < s.num) || (decide (t = s.num) && decide (s.fld F.STC_CMP_C_PHASE 0 j < s.stc.phase))

/-- Whole periods that bring the target to the first stitch not yet passed (R64). -/
def State.cmpPeriods (s : State) (j : Nat) : Nat :=
  let t := s.fld F.STC_CMP_T_TARGET 0 j
  let p := s.fld F.STC_CMP_C_PERIOD 0 j
  let k := ceilDiv (s.num - t) p
  if t + k * p = s.num ∧ s.fld F.STC_CMP_C_PHASE 0 j < s.stc.phase then k + 1 else k

/-- A write of STC_CMP_C[j]: a comparator enabled after its target has passed fires at once and sets CMP_LATE (R64). -/
def writeCmpC (j value : Nat) (s : State) : State :=
  let was := s.flag F.STC_CMP_C_EN 0 j
  let s := s.softWrite .STC_CMP_C 0 j value
  if ¬ was ∧ s.flag F.STC_CMP_C_EN 0 j ∧ s.cmpPassed j then
    ((s.cmpInterrupt j).setEvt F.STC_EVT_CMP_LATE).cmpAdvance j (s.cmpPeriods j)
  else s

/-- COMPARATOR_ENABLE (R64): a write of STC_CMP_C[j] at a phase of the present stitch. -/
def execComparatorEnable (j value phase : Nat) (s : State) : Host.Outcome State Fault Refusal :=
  live s (fun s => if j < 64 then writeCmpC j value (s.atPhase (phase % 1000)) else s)

end Sys2Proof.Machine
end

