-- ==== Sys2Proof/Machine/Rdma.lean ====
section
/-! DEFINITION. Network ports and RDMA as responder (R299 to R331): ports and pauses, the arrival of a request packet, the miss queue, PSN order and spray, the
operations, and resynchronisation. -/

namespace Sys2Proof.Machine

/-! ## Ports -/

/-- A sub-port of a motif's port under its split (R299). -/
def State.hasSubPort (s : State) (m sub : Nat) : Bool := s.hasMotif m && decide (sub < 2 ^ s.fld F.NET_CTL_SPLIT m)

/-- NET_SUB_ST.PAUSED brought in step. -/
def State.syncPaused (s : State) (m sub : Nat) : State :=
  s.setFld F.NET_SUB_ST_PAUSED (b2n (s.net.paused.any (fun p => p.1 == m && p.2.1 == sub))) m sub

/-- ETH_LINK_CHANGE (R300): a sub-port's link goes up with a speed, or down; the FEC counts since the last change. -/
def execEthLinkChange (motif sub : Nat) (up : Bool) (speed corr uncorr : Nat) (s : State) : Host.Outcome State Fault Refusal :=
  live s (fun s =>
    if s.hasSubPort motif sub then
      let up := up && !s.flag F.PKG_WIND_STOPPED
      let s := (s.setFld F.NET_SUB_ST_UP (b2n up) motif sub).setFld F.NET_SUB_ST_SPEED (if up then speed else 0) motif sub
      let s := (s.bump F.NET_SUB_ST_FEC_CORR corr motif sub).bump F.NET_SUB_ST_FEC_UNCORR uncorr motif sub
      if up then s
      else (s.modNet (fun n => { n with paused := n.paused.filter (fun p => !(p.1 == motif && p.2.1 == sub)) })).syncPaused motif sub
    else s)

/-- The priority of a class on a motif (NET_PFC_MAP). -/
def State.prioOf (s : State) (m c : Nat) : Nat := bits (s.fld F.NET_PFC_MAP_PRIO m) (4 * c + 2) (4 * c)

/-- PFC_XOFF_SEND (R305): XOFF where a class's share of the ingress buffer has passed 75 %, XON below 50 %; never for the priority of class 0. -/
def State.pfcLevel (s : State) (m sub c share : Nat) : State :=
  let p := s.prioOf m c
  let k := (m, sub, p)
  if c = 0 ∨ p = s.prioOf m 0 ∨ ¬ bit (s.fld F.NET_CTL_PFC_EN m) p then s
  else if 75 < share ∧ ¬ s.net.xoff.contains k then (s.modNet (fun n => { n with xoff := n.xoff ++ [k] })).emit (.pfc m sub p true)
  else if share < 50 ∧ s.net.xoff.contains k then (s.modNet (fun n => { n with xoff := n.xoff.filter (fun x => x != k) })).emit (.pfc m sub p false)
  else s

/-- The ingress shares of several classes, as (class, percentage). -/
def State.pfcLevels (s : State) (m sub : Nat) (l : List (Nat × Nat)) : State := s.each l (fun s x => s.pfcLevel m sub x.1 x.2)

/-- PFC_FRAME_RECEIVE (R300, R305): a PFC frame for an enabled priority, or PAUSE (priority 8) while PFC_EN is 0, pauses or resumes. -/
def execPfcFrameReceive (motif sub prio : Nat) (pause : Bool) (levels : List (Nat × Nat)) (s : State) : Host.Outcome State Fault Refusal :=
  live s (fun s =>
    let en := s.fld F.NET_CTL_PFC_EN motif
    let k := (motif, sub, prio)
    let honoured := if prio = 8 then decide (en = 0) else decide (prio < 8) && bit en prio
    let s := if s.hasSubPort motif sub && honoured then
        (s.modNet (fun n => { n with paused := n.paused.filter (fun x => x != k) ++ (if pause then [k] else []) })).syncPaused motif sub
      else s
    if s.hasSubPort motif sub then s.pfcLevels motif sub levels else s)

/-- PAUSE_EXPIRY (R305): the pause time of a priority runs out. -/
def execPauseExpiry (motif sub prio : Nat) (levels : List (Nat × Nat)) (s : State) : Host.Outcome State Fault Refusal :=
  live s (fun s =>
    let k := (motif, sub, prio)
    if s.net.paused.contains k then
      ((s.modNet (fun n => { n with paused := n.paused.filter (fun x => x != k) })).syncPaused motif sub).pfcLevels motif sub levels
    else s)

/-! ## Rings of firmware -/

/-- Slots of a firmware ring (R304). -/
def ringSlots (size : Nat) : Nat := 2 ^ (size + 4)

/-- The header of a firmware ring slot (R304); a timestamp is stitch, phase and nanoseconds. -/
def fwHeader (len m sub : Nat) (ts : Option (Nat × Nat × Nat)) : Bytes :=
  let t := ts.getD (0, 0, 0)
  leBytes 2 len ++ bytesOf [m, sub, b2n ts.isSome, 0, 0, 0] ++ leBytes 8 t.1 ++ leBytes 2 t.2.1 ++ bytesOf [t.2.2] ++ zeros 13

/-- The receive ring can take a frame: it is served, its next slot lies in memory (R27), and it is not full. -/
def State.fwRxRoom (s : State) : Bool :=
  s.flag F.NET_CTL_FWQ_EN && s.reachesAll (.engine 2) true (s.fld F.NET_FWRX_BASE_BASE * 16384 + 16384 * s.fld F.NET_FWQ_PTR_RX_TAIL) 16384 &&
    decide ((s.fld F.NET_FWQ_PTR_RX_TAIL + 1) % ringSlots (s.fld F.NET_FWRX_BASE_SIZE) ≠ s.fld F.NET_FWQ_PTR_RX_HEAD % ringSlots (s.fld F.NET_FWRX_BASE_SIZE))

/-- A frame put into the receive ring, with interrupt identity 0x0C2 (R304); one that finds no slot is dropped. -/
def State.fwRx (s : State) (m sub : Nat) (frame : Bytes) (ts : Option (Nat × Nat × Nat)) : State :=
  if s.fwRxRoom then
    let t := s.fld F.NET_FWQ_PTR_RX_TAIL
    let s := s.store (s.fld F.NET_FWRX_BASE_BASE * 16384 + 16384 * t) (fwHeader frame.length m sub ts ++ frame)
    (s.setFld F.NET_FWQ_PTR_RX_TAIL ((t + 1) % ringSlots (s.fld F.NET_FWRX_BASE_SIZE))).raiseIrq 0 8 0 0x0C2
  else s

/-- The entry of a ground in the ground address table (R301). -/
def State.gaEntry (s : State) (g : Nat) : Bytes := s.load (s.fld F.NET_GA_BASE_BASE * 16384 + 64 * g) 64

/-- The frame is ARP: its EtherType, behind one VLAN tag at most, is 0x0806. -/
def isArp (frame : Bytes) : Bool :=
  let o := if beNat (slice frame 12 2) = 0x8100 then 16 else 12
  beNat (slice frame o 2) == 0x0806

/-- This head answers for the IPv4 (`v4`) or IPv6 address of a ground (R301, R302): the owner's or receiver's set A, or the set of its own head where the ground is twin-fed. -/
def State.answersFor (s : State) (g : Nat) (v4 : Bool) : Bool :=
  let set := if s.isTwin g ∧ s.headId = 1 then 0x20 else 0
  s.flag F.NET_GA_BASE_EN && bit (byteAt (s.gaEntry g) (set + 0x1C)) (if v4 then 0 else 1) &&
    (s.isTwin g || decide (s.groundState g = 1) || decide (s.groundState g = 4))

/-- FW_RX_FRAME (R302, R304): a frame for firmware arrives, with a timestamp where it is an IEEE 1588 event message; ARP or neighbour solicitation for a ground
that this head answers for is answered. -/
def execFwRxFrame (motif sub : Nat) (frame : Bytes) (ts : Option (Nat × Nat × Nat)) (arpFor : Option Nat) (s : State) :
    Host.Outcome State Fault Refusal :=
  live s (fun s =>
    if s.txOff ∨ ¬ s.hasSubPort motif sub then s
    else
      let s := match arpFor with
        | some g => if s.answersFor g (isArp frame) then s.emit (.arpReply g) else s
        | none => s
      if 60 ≤ frame.length ∧ frame.length ≤ 9212 then s.fwRx motif sub frame ts else s)

/-- The slots of the transmit ring sent from TX_HEAD on, but for one that does not lie in memory (R27); `subNs` are the nanoseconds within the phase unit at the timestamp point; `fuel` bounds them. -/
def State.fwTx (s : State) (subNs : Nat) : Nat → State
  | 0 => s
  | f + 1 =>
    let n := ringSlots (s.fld F.NET_FWTX_BASE_SIZE)
    let h := s.fld F.NET_FWQ_PTR_TX_HEAD
    if h = s.fld F.NET_FWQ_PTR_TX_TAIL % n then s
    else
      let a := s.fld F.NET_FWTX_BASE_BASE * 16384 + 16384 * h
      let d := s.load a 32
      if !s.reachesAll (.engine 2) true a 16384 then (s.setFld F.NET_FWQ_PTR_TX_HEAD ((h + 1) % n)).fwTx subNs f
      else
      let s := s.emit (.frame (byteAt d 2 % 8) (byteAt d 3 % 8) (s.load (a + 32) (leAt d 0 2)))
      let s := if bit (byteAt d 4) 1 then
          s.store (a + 4) (bytesOf [byteAt d 4 / 2 * 2 + 1, 0, 0, 0] ++ leBytes 8 s.num ++ leBytes 2 s.stc.phase ++ bytesOf [subNs % 5])
        else s
      (s.setFld F.NET_FWQ_PTR_TX_HEAD ((h + 1) % n)).fwTx subNs f

/-- A write of NET_FWQ_PTR: RX_HEAD and TX_TAIL, and the frames up to TX_TAIL are sent while the rings are served (R304). -/
def State.writeFwqPtr (s : State) (value subNs : Nat) : State :=
  let s := s.softWrite .NET_FWQ_PTR 0 0 value
  if s.flag F.NET_CTL_FWQ_EN then s.fwTx subNs (ringSlots (s.fld F.NET_FWTX_BASE_SIZE)) else s

/-- FW_TX_POST (R304): firmware writes TX_TAIL. -/
def execFwTxPost (value subNs : Nat) (s : State) : Host.Outcome State Fault Refusal := live s (fun s => s.writeFwqPtr value subNs)

/-! ## Congestion notification -/

/-- The time in phase units. -/
def State.units (s : State) : Nat := s.num * 1000 + s.stc.phase

/-- ECN_CE_RECEIVE (R332, R333): a CNP for a packet that is marked, or ECN-capable while the thermal level asks peers to slow down, at most one per CNP_GAP_US. -/
def State.ecnCheck (s : State) (c : Conn) (ect ce : Bool) : State :=
  let gap := s.fld F.RDM_CC_CNP_GAP_US c.motif * 200
  let due := match c.cnpAt with | none => true | some t => decide (t + gap ≤ s.units)
  if (ce || (ect && decide (2 ≤ s.fld F.THM_ST_LEVEL))) && due then
    let now := s.units
    (s.modConn c.id (fun c => { c with cnpAt := some now })).emit (.cnp c.id)
  else s

/-! ## Memory regions -/

/-- The address of a region's entry (R328). -/
def State.mrAddr (s : State) (idx : Nat) : Nat := s.fld F.RDM_MR_BASE_BASE * 2 ^ 26 + 64 * idx

/-- A region table entry (R328). -/
structure MrEntry where
  idx : Nat
  base : Nat
  len : Nat
  target : Nat
  nsid : Nat
  kind : Nat
  rights : Nat
  key : Nat
  pd : Nat
  state : Nat
  deriving DecidableEq, Repr

/-- The entry of a region. -/
def State.mrEntry (s : State) (idx : Nat) : MrEntry :=
  let e := s.load (s.mrAddr idx) 64
  { idx := idx, base := leAt e 0 8, len := leAt e 8 8, target := leAt e 0x10 8, nsid := leAt e 0x18 2, kind := byteAt e 0x1A % 4,
    rights := byteAt e 0x1A, key := byteAt e 0x1B, pd := leAt e 0x1C 3, state := byteAt e 0x20 % 4 }

/-- The key check of R328 without the access right. -/
def State.keyEntry (s : State) (c : Conn) (va rkey len : Nat) : Option MrEntry :=
  let e := s.mrEntry (bits rkey 27 8)
  if s.flag F.RDM_MR_BASE_EN ∧ 0 < bits rkey 27 8 ∧ rkey < 2 ^ 28 ∧ e.state = 1 ∧ e.key = rkey % 256 ∧ e.pd = c.desc.pd ∧ e.base ≤ va ∧
      va + len ≤ e.base + e.len then some e else none

/-- The key check of R328 with an access right: bit 2 write, 3 read, 4 atomic. -/
def State.keyCheck (s : State) (c : Conn) (right va rkey len : Nat) : Option MrEntry := (s.keyEntry c va rkey len).filter (fun e => bit e.rights right)

/-! ## Ends of an operation -/

/-- How a packet's operation ended: done, refused for credit or a buffer, or still to wait for earlier writes. -/
inductive OpEnd where
  | done | refused | waits
  deriving DecidableEq, Repr

/-- The operation fails and its connection goes to ERROR (R330). -/
def State.opFails (s : State) (c : Conn) (nak status : Nat) : State × OpEnd := (s.connError c.id nak status, .refused)

/-- An RNR NAK for a packet, with the timer code of RDM_CTL (R315). -/
def State.sendRnr (s : State) (c : Conn) (ext : Nat) : State := s.emit (.rnrNak c.id (ext % 2 ^ 24) (s.fld F.RDM_CTL_RNR_TIMER c.motif))

/-- The PSNs that a request occupies (R310). -/
def RdmaOp.psns (c : Conn) (op : RdmaOp) : Nat :=
  match op with
  | .read _ _ len => max 1 (ceilDiv len c.pmtu)
  | _ => 1

/-- The packet is the first of its message. -/
def RdmaOp.isFirst (op : RdmaOp) : Bool :=
  match op with
  | .send f _ _ => f
  | .write _ _ _ f _ _ _ => f
  | _ => true

/-- The packet is the last of its message. -/
def RdmaOp.isLast (op : RdmaOp) : Bool :=
  match op with
  | .send _ l _ => l
  | .write _ _ _ _ l _ _ => l
  | _ => true

/-! ## SEND -/

/-- The receive queue of a connection is the firmware receive ring (R307). -/
def Conn.toFirmware (c : Conn) : Bool := decide (c.desc.rqId = 0xFFFFFFFF)

/-- The longest message that a posted receive takes: a replication message, a firmware slot's frame, or a command of 64 bytes with 8,192 bytes of data (R304,
R355, R360). -/
def State.recvMax (s : State) (c : Conn) : Nat := if s.isReplConn c.id then 1064960 + 48 else if c.toFirmware then 9212 else 64 + 8192

/-- A SEND packet received into its receive queue (R312, R316). -/
def State.runSend (s : State) (c : Conn) (ext : Nat) (first last : Bool) (data : Bytes) : State × OpEnd :=
  let msg := (if first then [] else c.part) ++ data
  if s.recvMax c < msg.length then s.opFails c 1 0x2B03
  else if !last then (s.modConn c.id (fun c => { c with part := msg }), .done)
  else if c.toFirmware && !s.isReplConn c.id then
    if s.fwRxRoom then ((s.modConn c.id (fun c => { c with part := [] })).fwRx c.motif c.port msg none, .done) else (s.sendRnr c ext, .refused)
  else (s.modConn c.id (fun c => { c with part := [], recv := c.recv ++ [(ext % 2 ^ 32, msg)] }), .done)

/-! ## WRITE to a namespace region -/

/-- S of R314. -/
def Namespace.step (n : Namespace) : Nat := if n.pi then 4112 else 4096

/-- A connection waits for credit for a class on a motif, or no more (R315). -/
def State.setRnrWait (s : State) (c : Conn) (on : Bool) : State :=
  let k := (c.id, c.motif, c.desc.cls)
  s.modNet (fun n => { n with rnrWait := n.rnrWait.filter (fun w => w != k) ++ (if on then [k] else []) })

/-- A write of a lower class number waits for credit on a motif (R315). -/
def State.lowerWaits (s : State) (c : Conn) : Bool :=
  s.dp.writes.any (fun w => decide (w.state = 0) && w.motif == c.motif && decide (w.cls < c.desc.cls)) ||
    s.net.rnrWait.any (fun w => w.2.1 == c.motif && decide (w.2.2 < c.desc.cls))

/-- The write of a message of which a packet has arrived. -/
def State.knownWrite (s : State) (c : Conn) (firstExt : Nat) : Option Write := (c.writes.find? (fun x => x.1 == firstExt)).bind (fun x => s.write? x.2)

/-- The write of a message, made at its first packet to arrive (R314); on a twin connection it is a command of R115. -/
def State.rdmaWrite (s : State) (c : Conn) (firstExt : Nat) (n : Namespace) (atom : Nat) : State × Write :=
  match s.knownWrite c firstExt with
  | some w => (s, w)
  | none =>
    let s := if c.desc.twin then s.accept c.motif else s
    let w : Write :=
      { id := s.dp.nextWrite, src := .rdma c.id firstExt, ns := n.id, ground := n.ground, cls := c.desc.cls, atom := atom, count := 0,
        motif := c.motif, fua := false, dealloc := false, twin := if c.desc.twin then some (c.desc.twinId, firstExt % 2 ^ 32) else none,
        gotHave := false, met := false, state := 1, arrival := s.dp.arrivals }
    let s := s.modDp (fun d => { d with writes := d.writes ++ [w], nextWrite := d.nextWrite + 1, arrivals := d.arrivals + 1 })
    (s.modConn c.id (fun c => { c with writes := c.writes ++ [(firstExt, w.id)] }), w)

/-- The message is known whole: its write has its atoms, its OP_SEQ and, on a twin connection, its twin sequence number; a HAVE token that has come already counts
(R132, R310, R311). -/
def State.closeWrite (s : State) (c : Conn) (w : Write) (count ext : Nat) : State :=
  let q := ext % 2 ^ 32
  let has := s.net.haves.any (fun h => h.conn == c.desc.twinId && h.seq == q)
  let s := s.modNet (fun n => { n with haves := n.haves.filter (fun h => !(c.desc.twin && h.conn == c.desc.twinId && h.seq == q)) })
  s.modWrite w.id (fun w =>
    { w with count := count, src := .rdma c.id ext, twin := if c.desc.twin then some (c.desc.twinId, q) else none, gotHave := c.desc.twin && has })

/-- The atoms of a list that are not charged yet are charged one by one, until one cannot be (R315). -/
def State.chargeAtoms (s : State) (c : Conn) (w : Write) : List Nat → State × Bool
  | [] => (s, true)
  | a :: t =>
    if s.dp.atoms.any (fun x => x.writeId == w.id && x.atom == a) then s.chargeAtoms c w t
    else if s.canAdmit { w with count := 1 } && !s.lowerWaits c then
      (((s.charge w.cls 1).useCap { w with count := 1 }).reserveAtom w a).chargeAtoms c w t
    else (s, false)

/-- Bytes put into an atom being received; with its last byte the atom is placed. -/
def State.putAtomBytes (s : State) (w : Write) (step atom ofs : Nat) (b : Bytes) : State :=
  let put := fun (x : BufAtom) =>
    let old := if x.data.length = step then x.data else zeros step
    { x with data := old.take ofs ++ b ++ old.drop (ofs + b.length), done := x.done + b.length, state := AtomState.landing }
  let s := s.modAtom w.id atom put
  match s.dp.atoms.find? (fun x => x.writeId == w.id && x.atom == atom) with
  | some x => if step ≤ x.done ∧ x.state = .landing ∧ ¬ x.placed then s.placeAtom w.id atom (x.data.take 4096) (x.data.drop 4096) else s
  | none => s

/-- A packet's bytes put into the atoms that they touch. -/
def State.putPacket (s : State) (w : Write) (step ofs : Nat) (data : Bytes) (js : List Nat) : State :=
  s.each js (fun s j =>
    let lo := max ofs (j * step)
    let hi := min (ofs + data.length) ((j + 1) * step)
    s.putAtomBytes w step (w.atom + j) (lo - j * step) (slice data (lo - ofs) (hi - lo)))

/-- A WRITE packet to a NAMESPACE region (R314, R315); on a twin connection a new write waits for the next stitch where its motif accepts no more (R115). -/
def State.runNsWrite (s : State) (c : Conn) (ext : Nat) (e : MrEntry) (n : Namespace) (va ofs : Nat) (last : Bool) (data : Bytes) : State × OpEnd :=
  let step := n.step
  let start := va - ofs - e.base
  let stop := ofs + data.length
  let js := if data.isEmpty then [] else (List.range ((stop - 1) / step - ofs / step + 1)).map (fun i => ofs / step + i)
  if va < e.base + ofs ∨ start % step ≠ 0 ∨ (last ∧ stop % step ≠ 0) then s.opFails c 1 0x2B03
  else
    let atom := e.target + start / step
    if n.size < atom + ceilDiv stop step then s.opFails c 2 0x2B02
    else if n.view.isSome then s.opFails c 3 0x2D08
    else if s.isReceiver n.id then s.opFails c 3 0x2C06
    else if c.desc.cls ≤ 1 ∧ ¬ n.pi then s.opFails c 3 0x2401
    else if s.fld F.MED_ST_CAP = 2 then s.opFails c 3 0x6801
    else if stop = 0 then (s, .done)
    else if c.desc.twin && (s.knownWrite c (ext - ofs / c.pmtu)).isNone && !s.mayAccept c.motif then (s, .waits)
    else
      let r := s.rdmaWrite c (ext - ofs / c.pmtu) n atom
      let q := r.1.chargeAtoms c r.2 (js.map (fun j => atom + j))
      if q.2 then
        let s := if last then (q.1.closeWrite c r.2 (stop / step) ext).endTaps r.2 n (stop / step) else q.1
        (((s.setRnrWait c false).putPacket r.2 step ofs data js).syncAdmit, .done)
      else (((((q.1.setRnrWait c true).sendRnr c ext).bump F.RDM_CNT_RNR_SENT 1 c.motif)).syncAdmit, .refused)

/-- A twin-fed ground whose standby is this head while the bride link is down and both heads are alive (R133). -/
def State.twinDegraded (s : State) (c : Conn) : Bool := c.desc.twin && !s.owns c.desc.ground && s.bothAlive

/-- A WRITE packet (R312, R314). -/
def State.runWrite (s : State) (c : Conn) (ext va rkey ofs : Nat) (last : Bool) (data : Bytes) : State × OpEnd :=
  if s.twinDegraded c then ((if last then s.emit (.twinDegraded c.id (ext % 2 ^ 32)) else s), .done)
  else
    match s.keyCheck c 2 va rkey data.length with
    | none => s.opFails c 2 0x2B02
    | some e =>
      if e.kind = 1 then
        let r := s.engineWrite c.desc.cls (e.target + (va - e.base)) data
        if r.2 = 0 then (r.1, .done) else r.1.opFails c 3 r.2
      else
        match s.liveNs e.nsid with
        | none => s.opFails c 2 0x2B02
        | some n => if n.ground = c.desc.ground then s.runNsWrite c ext e n va ofs last data else s.opFails c 2 0x2B02

/-! ## READ and ATOMIC -/

/-- An earlier write of the connection to a NAMESPACE region is not complete (R313). -/
def Conn.writesBefore (c : Conn) (ext : Nat) : Bool := c.writes.any (fun w => decide (w.1 < ext))

/-- A READ (R312, R313, R149). -/
def State.runRead (s : State) (c : Conn) (ext va rkey len : Nat) (bad : BadPages) : State × OpEnd :=
  if c.desc.twin then s.opFails c 1 0x2B03
  else if c.writesBefore ext then (s, .waits)
  else
    match s.keyCheck c 3 va rkey len with
    | none => s.opFails c 2 0x2B02
    | some e =>
      if e.kind = 1 then
        match s.engineRead c.desc.cls (e.target + (va - e.base)) len with
        | (s, .ok d) => (s.readResponse c.id (ext % 2 ^ 24) va rkey d, .done)
        | (s, .error w) => s.opFails c 3 w
      else
        match s.liveNs e.nsid with
        | none => s.opFails c 2 0x2B02
        | some n =>
          let a := e.target + (va - e.base) / n.step
          let count := if len = 0 then 0 else (va - e.base + len - 1) / n.step - (va - e.base) / n.step + 1
          if n.ground ≠ c.desc.ground ∨ n.size < a + count then s.opFails c 2 0x2B02
          else (s.startRead (.rdma c.id (ext % 2 ^ 24) ((va - e.base) % n.step) len va rkey) n a count c.desc.cls bad, .done)

/-- An ATOMIC on a MEMORY region (R312): the old value is held, and returned; where the head mirrors, once the partner head holds it (R117). -/
def State.runAtomic (s : State) (c : Conn) (ext va rkey : Nat) (cas : Bool) (a b : Nat) : State × OpEnd :=
  if c.desc.twin ∨ va % 8 ≠ 0 then s.opFails c 1 0x2B03
  else if c.writesBefore ext then (s, .waits)
  else
    match s.keyEntry c va rkey 8 with
    | none => s.opFails c 2 0x2B02
    | some e =>
      if e.kind = 2 then s.opFails c 1 0x2B03
      else if !bit e.rights 4 then s.opFails c 2 0x2B02
      else
        let addr := e.target + (va - e.base)
        match s.engineRead c.desc.cls addr 8 with
        | (s, .error w) => s.opFails c 3 w
        | (s, .ok d) =>
          let old := leNat d
          let new := if cas then (if old = a then b else old) else (old + a) % 2 ^ 64
          let r := s.engineWrite c.desc.cls addr (leBytes 8 new)
          if r.2 ≠ 0 then r.1.opFails c 3 r.2
          else
            let s := r.1.modConn c.id (fun c => { c with atomics := c.atomics ++ [(ext, old)] })
            let f := { MirrorFrame.of c.motif c.desc.ground with first := true, last := true, atomic := true }
            let f := { f with conn := c.id, opSeq := ext % 2 ^ 32, ackSeq := c.acked % 2 ^ 32, result := old }
            if s.mirrors then
              let r := s.sendMirror f
              let s := r.1.modConn c.id (fun c => { c with writes := c.writes ++ [(ext, 0)] })
              (s.modPair (fun p => { p with answers := p.answers ++ [⟨c.motif, r.2, c.id, ext, old⟩] }), .done)
            else (s.emit (.rdmaAtomic c.id (ext % 2 ^ 24) old), .done)

/-- A packet's operation run at its extended PSN. -/
def State.runOp (s : State) (c : Conn) (ext : Nat) (op : RdmaOp) (bad : BadPages) : State × OpEnd :=
  match op with
  | .send f l d => s.runSend c ext f l d
  | .write va k o _ l _ d => s.runWrite c ext va k o l d
  | .read va k n => s.runRead c ext va k n bad
  | .atomic va k cas a b => s.runAtomic c ext va k cas a b
  | .other => s.opFails c 1 0x2B03

/-! ## PSN order -/

/-- How far a PSN lies ahead of an extended one, over 24 bits. -/
def psnAhead (e psn : Nat) : Nat := (psn + 2 ^ 24 - e % 2 ^ 24) % 2 ^ 24

/-- What a READ or ATOMIC done acknowledges by its response. -/
def State.ackByResponse (s : State) (id : Nat) (op : RdmaOp) : State :=
  match op with
  | .read _ _ _ => s.modConn id (fun c => { c with acked := max c.acked c.ackable })
  | .atomic _ _ _ _ _ => s.modConn id (fun c => { c with acked := max c.acked c.ackable })
  | _ => s.ackConn id

/-- A duplicate (R323, R326): re-acknowledged; a READ is executed again for the part it asks, an ATOMIC returns its held result. -/
def State.duplicate (s : State) (c : Conn) (ext : Nat) (op : RdmaOp) (bad : BadPages) : State :=
  match op with
  | .read va k n => (s.runRead c ext va k n bad).1
  | .atomic _ _ _ _ _ =>
    match c.atomics.find? (fun a => a.1 % 2 ^ 32 == ext % 2 ^ 32) with
    | some a => s.emit (.rdmaAtomic c.id (ext % 2 ^ 24) a.2)
    | none => s
  | _ => s.sendAck c false

/-- A standard-mode connection's request is done: the next PSN, and its acknowledgement. -/
def State.passPsns (s : State) (c : Conn) (op : RdmaOp) : State :=
  let s := s.modConn c.id (fun x => { x with epsn := x.epsn + op.psns c })
  if op.isLast then (s.modConn c.id (fun c => { c with doneSeq := c.epsn - 1 })).ackByResponse c.id op else s

/-- The extended PSN that a standard-mode connection expects to arrive next: behind the requests that wait for earlier writes. -/
def Conn.arrives (c : Conn) : Nat := c.early.foldl (fun a p => a + p.op.psns c) c.epsn

/-- A packet put behind those that wait, with its extended PSN. -/
def State.holdPacket (s : State) (c : Conn) (p : Packet) (ext : Nat) : State :=
  s.modConn c.id (fun c => { c with early := c.early ++ [{ p with hdr := { p.hdr with psn := ext } }] })

/-- A packet of a standard-mode connection in RTS (R313): run at its PSN, or held while it or one before it waits for earlier writes; a sequence NAK beyond it, a duplicate before it. -/
def State.handleStd (s : State) (c : Conn) (p : Packet) (bad : BadPages) : State :=
  let d := psnAhead c.arrives p.hdr.psn
  if d = 0 then
    if !c.early.isEmpty then s.holdPacket c p c.arrives
    else
      match s.runOp c c.epsn p.op bad with
      | (s, .done) => s.passPsns c p.op
      | (s, .waits) => s.holdPacket c p c.epsn
      | (s, .refused) => s
  else if d < 2 ^ 23 then s.emit (.seqNak c.id (c.arrives % 2 ^ 24))
  else if c.epsn ≤ c.arrives + d - 2 ^ 24 then s
  else s.duplicate c (c.arrives + d - 2 ^ 24) p.op bad

/-- The requests of a standard-mode connection that wait for earlier writes are run in their order, as far as the writes are complete (R313); one that is refused is sent again with
all behind it. `fuel` bounds them. -/
def State.runHeld (s : State) (id : Nat) (bad : BadPages) : Nat → State
  | 0 => s
  | f + 1 =>
    match s.conn id with
    | none => s
    | some c =>
      match c.early with
      | [] => s
      | p :: _ =>
        match s.runOp c c.epsn p.op bad with
        | (s, .done) => ((s.modConn id (fun c => { c with early := c.early.drop 1 })).passPsns c p.op).runHeld id bad f
        | (s, .waits) => s
        | (s, .refused) => s.modConn id (fun c => { c with early := [] })

/-! ## Spray -/

/-- VPSN over contiguous marked PSNs (R323); `fuel` bounds it. -/
def Conn.advance (c : Conn) : Nat → Conn
  | 0 => c
  | f + 1 => if c.marks.contains c.epsn then { c with epsn := c.epsn + 1, marks := c.marks.filter (fun m => m != c.epsn) }.advance f else c

/-- The requests placed whole on a spray connection: the last PSN below VPSN that ends a request, before any request still to be run. -/
def Conn.placedTo (c : Conn) : Nat :=
  let firstEarly := c.early.foldl (fun a p => min a p.hdr.psn) c.epsn
  (c.lasts.filter (fun l => decide (l < firstEarly))).foldl max c.doneSeq

/-- The held packet that comes first. -/
def Conn.firstEarly (c : Conn) : Option Packet :=
  c.early.foldl (fun (b : Option Packet) p => match b with | none => some p | some x => if p.hdr.psn < x.hdr.psn then some p else some x) none

/-- Held packets whose turn has come are run in PSN order; `fuel` bounds them. Their PSNs are extended ones. -/
def State.runEarly (s : State) (id : Nat) (bad : BadPages) : Nat → State
  | 0 => s
  | f + 1 =>
    match s.conn id with
    | none => s
    | some c =>
      match c.firstEarly with
      | none => s
      | some p =>
        if c.epsn < p.hdr.psn + p.op.psns c then s
        else
          match s.runOp c p.hdr.psn p.op bad with
          | (s, .done) =>
            (s.modConn id (fun c => { c with early := c.early.filter (fun x => x.hdr.psn != p.hdr.psn) })).runEarly id bad f
          | (s, _) => s

/-- VPSN advanced, with the time from which a gap counts (R324). -/
def Conn.advanceAt (c : Conn) (now : Nat) : Conn :=
  let n := c.advance c.marks.length
  if n.epsn = c.epsn then c else { n with gapSince := now }

/-- Progress of a spray connection: VPSN, writes that are visible now, held packets, the requests placed, and the acknowledgement (R316, R323, R324). -/
def State.sprayProgress (s : State) (id : Nat) (bad : BadPages) : State :=
  let now := s.units
  let s := (s.modConn id (fun c => c.advanceAt now)).settleWrites
  let s := s.runEarly id bad (match s.conn id with | some c => c.early.length | none => 0)
  let s := s.modConn id (fun c => { c with doneSeq := c.placedTo, lasts := c.lasts.filter (fun l => decide (c.placedTo < l)) })
  s.ackConn id

/-- The arrival of a packet marked on a spray connection; one that is not a WRITE is held until its turn. -/
def State.sprayArrive (s : State) (c : Conn) (ext : Nat) (p : Packet) (bad : BadPages) : State :=
  let n := p.op.psns c
  let held : List Packet := match p.op with | .write _ _ _ _ _ _ _ => [] | _ => [{ p with hdr := { p.hdr with psn := ext } }]
  let ends := if p.op.isLast then [ext + n - 1] else []
  let now := s.units
  let s := s.modConn c.id (fun c =>
    { c with marks := c.marks ++ (List.range n).map (fun i => ext + i), lasts := c.lasts ++ ends, early := c.early ++ held,
             gapSince := if c.marks.isEmpty then now else c.gapSince })
  s.sprayProgress c.id bad

/-- A packet of a spray connection in RTS (R323). -/
def State.handleSpray (s : State) (c : Conn) (p : Packet) (bad : BadPages) : State :=
  let d := psnAhead c.epsn p.hdr.psn
  if 2 ^ 23 ≤ d then
    let ext := c.epsn + d - 2 ^ 24
    if c.early.any (fun x => x.hdr.psn == ext) then s.sprayProgress c.id bad else s.duplicate c ext p.op bad
  else if 1023 < d then s.bump F.RDM_CNT_WINDOW_DROP 1 c.motif
  else if c.marks.contains (c.epsn + d) then s.sprayProgress c.id bad
  else
    match p.op with
    | .write _ _ _ _ _ _ _ =>
      match s.runOp c (c.epsn + d) p.op bad with
      | (s, .done) => s.sprayArrive c (c.epsn + d) p bad
      | (s, .waits) => s.modNet (fun n => { n with late := n.late ++ [(p, bad)] })
      | (s, .refused) => s
    | .other => (s.opFails c 1 0x2B03).1
    | _ => s.sprayArrive c (c.epsn + d) p bad

/-- A packet of a connection in RTS. -/
def State.handleRts (s : State) (c : Conn) (p : Packet) (bad : BadPages) : State :=
  if c.desc.spray then s.handleSpray c p bad else s.handleStd c p bad

/-- The requests of every connection that wait for earlier writes go on where these are complete (R313). -/
def State.runWaiting (s : State) (bad : BadPages) : State :=
  s.each ((s.net.conns.filter (fun c => c.state == ConnState.rts && !c.early.isEmpty)).map (fun c => c.id)) (fun s id =>
    match s.conn id with
    | some c => if c.desc.spray then s.sprayProgress id bad else s.runHeld id bad c.early.length
    | none => s)

/-- The connection leaves RESYNC at an extended PSN (R327): every request before it is acknowledged to the client. -/
def Conn.resumeAt (c : Conn) (ext : Nat) : Conn :=
  { c with state := .rts, epsn := ext, doneSeq := ext - 1, acked := ext - 1, marks := [], early := [], lasts := [], part := [] }

/-- A packet of a connection in RESYNC (R327). -/
def State.handleResync (s : State) (c : Conn) (p : Packet) (bad : BadPages) : State :=
  let d := psnAhead c.expAck p.hdr.psn
  if 2 ^ 23 ≤ d then s.duplicate c (c.expAck + d - 2 ^ 24) p.op bad
  else if p.op.isFirst then
    let s := s.modConn c.id (fun c => c.resumeAt (c.expAck + d))
    match s.conn c.id with
    | some c => s.handleRts c p bad
    | none => s
  else s

/-- An Acknowledge every 64 packets received (R324). -/
def State.sackEvery (s : State) (id : Nat) : State :=
  match s.conn id with
  | some c => if c.desc.spray && decide (c.pkts % 64 = 0) && decide (c.state = .rts) then s.sendAck c false else s
  | none => s

/-- A packet whose context is cached is handled by the state of its connection (R309). -/
def State.handle (s : State) (p : Packet) (bad : BadPages) : State :=
  match s.conn p.hdr.conn with
  | none => s
  | some c =>
    let s := match c.state with
      | .resync => s.handleResync c p bad
      | .rts => s.handleRts c p bad
      | _ => s
    s.sackEvery p.hdr.conn

/-- The commands of twin connections that waited for this stitch are taken up in arrival order (R115). -/
def State.takeLate (s : State) : State :=
  let l := s.net.late
  ((s.modNet (fun n => { n with late := [] })).each l (fun s p => s.handle p.1 p.2)).runWaiting []

/-- A new stitch begins (R46, R115). -/
def execStitchStart (s : State) : Host.Outcome State Fault Refusal := live s (fun s => (stitchStart s).takeLate)

/-! ## The miss queue -/

/-- The class of a packet not yet matched to its context (R318): selectors of kinds 2 and 3 only. -/
def State.missClass (s : State) (g dscp : Nat) : Nat :=
  match (s.activePart.sels.filter (fun e => (e.kind == 2 || e.kind == 3) && selMatches e 0 g (some dscp) none)).foldl betterSel none with
  | some e => e.cls
  | none => 1

/-- QSLOTS of a class (R75). -/
def State.qslots (s : State) (c : Nat) : Nat := match s.activePart.resv.find? (fun r => r.cls == c) with | some r => r.qslots | none => 0

/-- The miss queue of a motif. -/
def State.missOf (s : State) (m : Nat) : List MissPkt := s.net.missq.filter (fun p => p.motif == m)

/-- RDM_MISSQ_ST brought in step. -/
def State.syncMissq (s : State) (m : Nat) : State :=
  let l := s.missOf m
  (s.setFld F.RDM_MISSQ_ST_PACKETS l.length m).setFld F.RDM_MISSQ_ST_BYTES (l.foldl (fun a p => a + p.pkt.hdr.bytes) 0) m

/-- A packet of a class finds room (R318). -/
def State.missRoom (s : State) (m cls bytes : Nat) : Bool :=
  let l := s.missOf m
  let held := fun c => (l.filter (fun p => p.cls == c)).length
  let resv := (List.range 4).foldl (fun a c => a + s.qslots c) 0
  let shared := (List.range 4).foldl (fun a c => a + (held c - s.qslots c)) 0
  decide (l.length < 512) && decide (l.foldl (fun a p => a + p.pkt.hdr.bytes) 0 + bytes ≤ 2097152) &&
    (decide (held cls < s.qslots cls) || decide (shared < 512 - resv))

/-- A packet enters the miss queue, or is dropped and counted (R318). -/
def State.enqueueMiss (s : State) (c : Conn) (p : Packet) : State :=
  let cls := s.missClass c.desc.ground p.hdr.dscp
  if s.missRoom c.motif cls p.hdr.bytes then
    (s.modNet (fun n => { n with missq := n.missq ++ [⟨c.motif, cls, p⟩] })).syncMissq c.motif
  else (s.bump F.RDM_CNT_MISS_DROP 1 c.motif).setEvt F.RDM_EVT_MISS_DROP c.motif

/-- The head hears traffic to a ground's addresses (R302). -/
def State.hearsGround (s : State) (g : Nat) : Bool := s.isTwin g || decide (s.groundState g = 1) || decide (s.groundState g = 4)

/-- What every arriving packet of a connection does: CNP, PFC, the count of R324, and the stitches of its last request and WRITE. -/
def State.noteArrival (s : State) (c : Conn) (h : PktHdr) (write : Bool) : State :=
  let n := s.num
  let s := s.ecnCheck c h.ect h.ce
  let s := s.pfcLevel h.motif h.sub (if c.cached then s.connClass c else s.missClass c.desc.ground h.dscp) h.share
  let s := s.modConn c.id (fun c => { c with heard := n, wrote := if write then n else c.wrote, pkts := c.pkts + 1 })
  if c.cached then s else s.bump F.RDM_CNT2_CTX_MISS 1 c.motif

/-- The commands of a ground are held (R128): it is HANDING and not twin-fed. -/
def State.holdsGround (s : State) (g : Nat) : Bool := decide (s.groundState g = 3) && !s.isTwin g

/-- A request packet arrives (R300, R303, R309, R317): dropped with IP options or extension headers or above 9,216 bytes, held while its ground is HANDING (R128), dropped where no
connection takes it, handled where its context is cached and no earlier packet of its
connection waits, else queued. -/
def State.recvPacket (s : State) (p : Packet) (bad : BadPages) : State :=
  match s.conn p.hdr.conn with
  | none => s
  | some c =>
    if p.hdr.opts || decide (9216 < p.hdr.bytes) then s
    else if !s.txOff && s.holdsGround c.desc.ground && c.state == ConnState.rts then s.modNet (fun n => { n with held := n.held ++ [(p, bad)] })
    else if s.txOff || !(s.hearsGround c.desc.ground) || !(c.state == ConnState.rts || c.state == ConnState.resync) then s
    else
      let s := s.noteArrival c p.hdr (match p.op with | .write _ _ _ _ _ _ _ => true | _ => false)
      if c.cached && !(s.net.missq.any (fun x => x.pkt.hdr.conn == c.id)) then s.handle p bad else s.enqueueMiss c p

/-- RDMA_SEND (R312, R316); `plain` is false for an opcode that R312 excludes. -/
def execRdmaSend (hdr : PktHdr) (plain first last : Bool) (data : Bytes) (s : State) : Host.Outcome State Fault Refusal :=
  live s (fun s => s.recvPacket ⟨hdr, if plain then .send first last data else .other⟩ [])

/-- RDMA_WRITE (R314): one packet, with its target address and its offset in the message. -/
def execRdmaWrite (hdr : PktHdr) (va rkey ofs : Nat) (first last imm : Bool) (data : Bytes) (s : State) : Host.Outcome State Fault Refusal :=
  live s (fun s => s.recvPacket ⟨hdr, .write va rkey ofs first last imm data⟩ [])

/-- RDMA_READ (R313). -/
def execRdmaRead (hdr : PktHdr) (va rkey len : Nat) (bad : BadPages) (s : State) : Host.Outcome State Fault Refusal :=
  live s (fun s => s.under bad (fun s => s.recvPacket ⟨hdr, .read va rkey len⟩ bad))

/-- RDMA_ATOMIC (R312): compare-swap of `a` by `b`, or fetch-add of `a`. -/
def execRdmaAtomic (hdr : PktHdr) (va rkey : Nat) (cas : Bool) (a b : Nat) (s : State) : Host.Outcome State Fault Refusal :=
  live s (fun s => s.recvPacket ⟨hdr, .atomic va rkey cas a b⟩ [])

/-! ## The context cache -/

/-- A connection of a twin-fed ground holds a pinned entry (R317). -/
def State.isPinned (s : State) (c : Conn) : Bool := s.isTwin c.desc.ground

/-- RDM_CCH_ST brought in step for a motif. -/
def State.syncCtx (s : State) (m : Nat) : State :=
  let mine := s.net.conns.filter (fun c => c.motif == m)
  (s.setFld F.RDM_CCH_ST_VALID (mine.filter (fun c => c.cached)).length m).setFld F.RDM_CCH_ST_PINNED (mine.filter s.isPinned).length m

/-- The 8-way sets of the cache (R317): the entries that are not pinned, rounded down to a multiple of 8. -/
def State.ctxSets (s : State) : Nat := (65536 - s.activePart.grounds.foldl (fun a g => a + g.pins) 0) / 8

/-- The set of a connection. -/
def State.ctxSet (s : State) (id : Nat) : Nat := Config.ctxHash id % max 1 s.ctxSets

/-- The cached contexts of a set on a motif. -/
def State.setMembers (s : State) (m set : Nat) : List Conn :=
  s.net.conns.filter (fun c => c.motif == m && c.cached && !s.isPinned c && s.ctxSet c.id == set)

/-- Packets of a connection leave the miss queue in order and are handled; `fuel` bounds them. -/
def State.drainMiss (s : State) (id : Nat) (bad : BadPages) : Nat → State
  | 0 => s
  | f + 1 =>
    match s.net.missq.find? (fun x => x.pkt.hdr.conn == id) with
    | none => s
    | some x =>
      let i := s.net.missq.findIdx (fun x => x.pkt.hdr.conn == id)
      let s := s.modNet (fun n => { n with missq := n.missq.take i ++ n.missq.drop (i + 1) })
      ((s.syncMissq x.motif).handle x.pkt bad).drainMiss id bad f

/-- A context becomes cached; the packets that wait for it proceed. -/
def State.fillContext (s : State) (c : Conn) (bad : BadPages) : State :=
  let s := ((s.modConn c.id (fun c => { c with cached := true })).sramWroteAt c.motif 0x30 0 none c.id).syncCtx c.motif
  s.drainMiss c.id bad s.net.missq.length

/-- The fill's victim (R319): one of the set's entries with no packet in the miss queue, which one being open. -/
def State.evictFor (s : State) (c : Conn) : Option State :=
  let l := s.setMembers c.motif (s.ctxSet c.id)
  if l.length < 8 then some s
  else
    let ok := l.filter (fun x => !(s.net.missq.any (fun q => q.pkt.hdr.conn == x.id)))
    match ok[s.freeVal % max 1 ok.length]? with
    | none => none
    | some v => some ((s.tookFree).modConn v.id (fun c => { c with cached := false }))

/-- CONTEXT_FILL_COMPLETE (R317, R319): the fetch of a context ends, late or not, or with an uncorrectable error. -/
def execContextFillComplete (conn : Nat) (late broken : Bool) (bad : BadPages) (s : State) : Host.Outcome State Fault Refusal :=
  live s (fun s => s.under bad (fun s =>
    match s.conn conn with
    | none => s
    | some c =>
      if c.cached || !(s.net.missq.any (fun x => x.pkt.hdr.conn == conn)) then s
      else if broken then
        let s := (s.setEvt F.RDM_EVT_CTX_LOST c.motif).connError conn 3 0x7B0A
        (s.modNet (fun n => { n with missq := n.missq.filter (fun x => x.pkt.hdr.conn != conn) })).syncMissq c.motif
      else
        match s.evictFor c with
        | none => s
        | some t => (if late then t.bump F.RDM_CNT_LATE_FETCH 1 c.motif else t).fillContext c bad))

end Sys2Proof.Machine
end

