-- ==== Sys2Proof/Machine/RdmaCtl.lean ====
section
/-! DEFINITION. RDMA beside the arrival of requests: the requester side (R322 to R325, R330), congestion control (R332), connection commands and states (R306 to
R309), resynchronisation (R326, R327), and region commands (R328, R329). -/

namespace Sys2Proof.Machine

/-! ## The requester -/

/-- A packet that is sent again goes on the next path that is not suspended (R322). -/
def State.resend (s : State) (id psn : Nat) : State :=
  match s.conn id with
  | none => s
  | some c =>
    match c.sent.find? (fun p => p.psn == psn) with
    | none => s
    | some p =>
      let path := c.openPaths.headD 0
      let s := s.modConn id (fun c =>
        { c with nextPath := path + 1, sent := mapWhere (fun x => x.psn == psn) (fun x => { x with path := path }) c.sent })
      (s.emit (.packet id (psn % 2 ^ 24) path p.data)).bump F.RDM_CNT2_RETRANS 1 c.motif

/-- Every packet not acknowledged is sent again, oldest first. -/
def State.resendAll (s : State) (id : Nat) : State :=
  match s.conn id with
  | none => s
  | some c => s.each (c.sent.map (fun p => p.psn)) (fun s q => s.resend id q)

/-- A packet reported lost on a path; two within 100 µs suspend the path for 1 ms (R322). -/
def State.notePathLoss (s : State) (id psn : Nat) : State :=
  match s.conn id with
  | none => s
  | some c =>
    match c.sent.find? (fun p => p.psn == psn) with
    | none => s
    | some p =>
      let now := s.num
      let recent := c.losses.filter (fun l => decide (now < l.2 + 20))
      let again := recent.any (fun l => l.1 == p.path)
      s.modConn id (fun c =>
        { c with
          losses := recent ++ [(p.path, now)]
          suspended := if again ∧ ¬ c.suspended.any (fun x => x.1 == p.path) then c.suspended ++ [(p.path, now)] else c.suspended })

/-- The extended PSN that a 24-bit one of the other side stands for, near the next one to send. -/
def Conn.sentExt (c : Conn) (psn : Nat) : Nat := c.spsn - psnAhead psn c.spsn

/-- Packets up to an extended PSN are acknowledged: retries start anew. -/
def Conn.ackedTo (c : Conn) (e : Nat) : Conn :=
  if c.sent.any (fun p => decide (p.psn ≤ e)) then
    { c with sent := c.sent.filter (fun p => decide (e < p.psn)), retries := c.desc.retryCnt, rnrLeft := c.desc.rnrRetry, rnr := none }
  else c

/-- The PSNs that a SACK asks for again (R324): BASE, and those up to HIGH or BASE + 64 whose MAP bit is 0. -/
def sackMissing (base high map : Nat) : List Nat :=
  let n := min ((high + 2 ^ 24 - base) % 2 ^ 24) 64
  (0 :: (List.range n).filterMap (fun i => if bit map i then none else some (i + 1)))

/-- The SACK part of an Acknowledge (R324, R327). -/
def State.takeSack (s : State) (c : Conn) (base high map : Nat) (resync : Bool) : State :=
  let b := c.sentExt base
  if resync then
    match c.sent.head? with
    | some p => (s.modConn c.id (fun c => { c with hold := some p.psn })).resend c.id p.psn
    | none => s.modConn c.id (fun c => { c with hold := some c.spsn })
  else
    match c.hold with
    | some h => if h < b then (s.modConn c.id (fun c => { c with hold := none })).resendAll c.id else s
    | none =>
      if (high + 2 ^ 24 - base) % 2 ^ 24 < 2 ^ 23 then
        let l := (sackMissing base high map).map (fun i => b + i)
        s.each l (fun s q => (s.notePathLoss c.id q).resend c.id q)
      else s

/-- RDMA_ACK_RECEIVE (R324, R330): an Acknowledge of kind 0 acknowledges up to `psn` (with the SACK in spray mode), kind 1 is an RNR NAK, kind 2 a NAK with
`code`: 0 asks for the packets from `psn` again, any other moves the connection to ERROR. -/
def execRdmaAckReceive (conn kind psn code base high map : Nat) (resync : Bool) (s : State) : Host.Outcome State Fault Refusal :=
  live s (fun s =>
    match s.conn conn with
    | none => s
    | some c =>
      if ¬ (c.state = .rts ∨ c.state = .resync) then s
      else if kind = 0 then
        let s := s.modConn conn (fun c => c.ackedTo (c.sentExt psn))
        match s.conn conn with
        | some c => if c.desc.spray then s.takeSack c base high map resync else s
        | none => s
      else if kind = 1 then s.modConn conn (fun c => { c with rnr := some (c.sentExt psn) })
      else if code = 0 then (s.modConn conn (fun c => c.ackedTo (c.sentExt psn - 1))).resendAll conn
      else s.connError conn 0 0x4B05)

/-- GAP_NS in phase units of 5 ns, rounded up; 0 acts as 100 ns (RDM_SPRAY). -/
def State.gapUnits (s : State) (m : Nat) : Nat :=
  let n := s.fld F.RDM_SPRAY_GAP_NS m
  ceilDiv (if n = 0 then 100 else n) 5

/-- SPRAY_GAP_TIMEOUT (R324): HIGH_PSN has exceeded VPSN for GAP_NS without progress. -/
def execSprayGapTimeout (conn : Nat) (s : State) : Host.Outcome State Fault Refusal :=
  live s (fun s =>
    match s.conn conn with
    | none => s
    | some c => if c.desc.spray ∧ c.state = .rts ∧ c.marks ≠ [] ∧ c.gapSince + s.gapUnits c.motif ≤ s.units then (s.sendAck c false).bump F.RDM_CNT2_SACK_GAP 1 c.motif else s)

/-- READ_RESPONSE_GAP (R325): the part of a READ from its first missing response packet is asked for again. -/
def execReadResponseGap (conn psn va len : Nat) (s : State) : Host.Outcome State Fault Refusal :=
  live s (fun s =>
    match s.conn conn with
    | none => s
    | some c => if c.desc.spray ∧ c.state = .rts then (s.emit (.readRetry conn psn va len)).bump F.RDM_CNT2_RETRANS 1 c.motif else s)

/-- LOCAL_ACK_TIMEOUT (R324, R330): from the oldest unacknowledged packet on all are sent again, or the retries are exhausted. -/
def execLocalAckTimeout (conn : Nat) (s : State) : Host.Outcome State Fault Refusal :=
  live s (fun s =>
    match s.conn conn with
    | none => s
    | some c =>
      if c.sent = [] ∨ ¬ (c.state = .rts ∨ c.state = .resync) then s
      else if c.retries = 0 then s.connError conn 0 0x4B04
      else (s.modConn conn (fun c => { c with retries := c.retries - 1 })).resendAll conn)

/-- RNR_RETRY_TIMER (R330): the time of a received RNR NAK is over; the request goes again and counts against RNR_RETRY, of which 7 is unlimited (R307). -/
def execRnrRetryTimer (conn : Nat) (s : State) : Host.Outcome State Fault Refusal :=
  live s (fun s =>
    match s.conn conn with
    | none => s
    | some c =>
      if c.rnr = none ∨ ¬ (c.state = .rts ∨ c.state = .resync) then s
      else if c.desc.rnrRetry ≠ 7 ∧ c.rnrLeft = 0 then s.connError conn 0 0x4B04
      else (s.modConn conn (fun c => { c with rnr := none, rnrLeft := c.rnrLeft - 1 })).resendAll conn)

/-- PATH_SUSPEND_EXPIRY (R322): 1 ms after its suspension a path returns to use. -/
def execPathSuspendExpiry (conn path : Nat) (s : State) : Host.Outcome State Fault Refusal :=
  live s (fun s =>
    let now := s.num
    s.modConn conn (fun c => { c with suspended := c.suspended.filter (fun x => x.1 != path || decide (now < x.2 + 200)) }))

/-! ## Congestion control -/

/-- The rate of a sub-port in Mb/s (NET_SUB_ST.SPEED). -/
def State.lineRate (s : State) (m sub : Nat) : Nat :=
  match s.fld F.NET_SUB_ST_SPEED m sub with
  | 1 => 100000
  | 2 => 200000
  | 3 => 400000
  | 4 => 800000
  | _ => 0

/-- g of R332. -/
def State.ccGain (s : State) (m : Nat) : Rat := 1 / (2 ^ s.fld F.RDM_CC_G_SHIFT m : Nat)

/-- CNP_RECEIVE (R332): the connection's rate falls and α rises; a CNP that is marked itself draws one too. -/
def execCnpReceive (conn : Nat) (ce : Bool) (s : State) : Host.Outcome State Fault Refusal :=
  live s (fun s =>
    match s.conn conn with
    | none => s
    | some c =>
      let g := s.ccGain c.motif
      let least : Rat := (s.fld F.RDM_CC_RATE_MIN_MBPS c.motif : Nat)
      let now := s.units
      let s := s.modConn conn (fun c => { c with rate := max (c.rate * (1 - c.alpha / 2)) least, alpha := (1 - g) * c.alpha + g, ccSince := now })
      s.ecnCheck c false ce)

/-- CC_RATE_TIMER (R332): TIMER_US without a CNP. -/
def execCcRateTimer (conn : Nat) (s : State) : Host.Outcome State Fault Refusal :=
  live s (fun s =>
    match s.conn conn with
    | none => s
    | some c =>
      let g := s.ccGain c.motif
      let line : Rat := s.lineRate c.motif c.port
      let ai : Rat := (s.fld F.RDM_CC_AI_MBPS c.motif : Nat)
      let now := s.units
      if now < c.ccSince + 200 * s.fld F.RDM_CC_TIMER_US c.motif then s
      else s.modConn conn (fun c => { c with alpha := (1 - g) * c.alpha, rate := min (c.rate + ai) line, ccSince := now }))

/-! ## Connection commands -/

/-- The descriptor in RDM_CONN_DESC of a motif (R307). -/
def State.connDesc (s : State) (m : Nat) : ConnDesc :=
  let d := (List.range 8).flatMap (fun i => leBytes 8 (s.fld F.RDM_CONN_DESC_DATA m i))
  { remoteQpn := leAt d 0 3, spray := bit (byteAt d 3) 0, twin := bit (byteAt d 3) 1, ipv6 := bit (byteAt d 3) 2, active := bit (byteAt d 3) 3,
    rqPsn := leAt d 4 3, paths := byteAt d 7 % 16, sqPsn := leAt d 8 3, pmtu := byteAt d 0x0B % 8, ground := byteAt d 0x0C,
    cls := byteAt d 0x0D % 4, dscp := byteAt d 0x0D / 4, ackTimeout := byteAt d 0x0E % 32, retryCnt := byteAt d 0x0E / 32,
    rnrRetry := byteAt d 0x0F % 8, remoteIp := slice d 0x10 16, remoteMac := slice d 0x20 6, sportBase := leAt d 0x26 2,
    pd := leAt d 0x28 3, twinId := leAt d 0x2C 4, rqId := leAt d 0x30 4 }

/-- The connections whose index this head allocated. -/
def State.ownIndexes (s : State) : List Nat := (s.net.conns.filter (fun c => decide (bits c.id 21 21 = s.headId))).map (fun c => c.id % 2 ^ 21)

/-- An index for a new connection whose home is a motif (R306, R307): any free one from 2 to 2,097,151. -/
def State.freeIndex (s : State) (m : Nat) : Option Nat :=
  let k := s.fuses.caps.motifs
  let n := (2 ^ 21 - 1 - m) / k + 1
  let used := s.ownIndexes
  ((List.range (used.length + 3)).map (fun j => m + k * ((s.freeVal + j) % n))).find? (fun i => decide (2 ≤ i) && !used.contains i)

/-- A context built from a descriptor (R307, R332). -/
def Conn.build (d : ConnDesc) (id m port line : Nat) (pinned : Bool) : Conn :=
  let e := 2 ^ 32 + d.rqPsn
  { id := id, motif := m, port := port, desc := d, state := .rts, epsn := e, marks := [], acked := e - 1, spsn := 2 ^ 32 + d.sqPsn, sent := [],
    retries := d.retryCnt, rnrLeft := d.rnrRetry, nextPath := 0, suspended := [], losses := [], rate := line, alpha := 1, cnpAt := none,
    heard := 0, wrote := 0, atomics := [], writes := [], cached := pinned, taken := 0, recv := [], part := [], doneSeq := e - 1, held := (e - 1) % 2 ^ 32, expAck := e, early := [],
    lasts := [], rnr := none, hold := none, pkts := 0, timewaitAt := 0, gapSince := 0, ccSince := 0 }

/-- The end of a connection command (RDM_CONN_CMD): GO and BUSY cleared, a status. -/
def State.endConnCmd (s : State) (m status : Nat) : State :=
  ((s.setFld F.RDM_CONN_CMD_GO 0 m).setFld F.RDM_CONN_CMD_BUSY 0 m).setFld F.RDM_CONN_CMD_STATUS status m

/-- The pinned entries of a ground on a motif are all in use (R80). -/
def State.pinsFull (s : State) (g m : Nat) : Bool :=
  s.isTwin g && decide ((match s.groundDef g with | some e => e.pins | none => 0) ≤
    (s.net.conns.filter (fun c => c.motif == m && c.desc.ground == g)).length)

/-- CREATE (R307): a context on the motif, for a connection request that came in on a sub-port. -/
def State.createConn (s : State) (m sub : Nat) : State :=
  let d := s.connDesc m
  match (if s.flag F.RDM_CTX_BASE_EN m then s.freeIndex m else none) with
  | none => s.endConnCmd m 0x6B06
  | some idx =>
    if s.pinsFull d.ground m then (s.setEvt F.RDM_EVT_PIN_FULL m).endConnCmd m 0x6B07
    else if ¬ s.serves d.ground ∧ ¬ s.isTwin d.ground then s.endConnCmd m 0x1406
    else
      let key := s.headId * 2 ^ 21 + idx
      let id := (Sparse.get 0 s.net.gens key % 256) * 2 ^ 24 + key
      let c := { Conn.build d id m sub (s.lineRate m sub) (s.isTwin d.ground) with ccSince := s.units }
      let s := s.tookFree.modNet (fun n => { n with conns := n.conns ++ [c] })
      let s := (s.journalConn c 1).syncCtx m
      (s.setFld F.RDM_CONN_CMD_CONN_ID id m).endConnCmd m 0

/-- DESTROY (R309): the work of the connection flushed, and TIMEWAIT. -/
def State.destroyConn (s : State) (m id : Nat) : State :=
  match s.conn id with
  | none => s.tookFree.endConnCmd m (s.freeVal % 65536)
  | some c =>
    if c.state = .rts ∨ c.state = .error ∨ c.state = .resync then
      let now := s.num
      let s := (s.modConn id (fun c => { c with state := .timewait, timewaitAt := now })).flushConn c
      (s.journalConn c 0).endConnCmd m 0
    else s.tookFree.endConnCmd m (s.freeVal % 65536)

/-- OP ERROR (R330). -/
def State.errorConn (s : State) (m id : Nat) : State :=
  match s.conn id with
  | none => s.tookFree.endConnCmd m (s.freeVal % 65536)
  | some c =>
    if c.state = .rts ∨ c.state = .resync then (s.connError id 0 0x4B05).endConnCmd m 0
    else s.tookFree.endConnCmd m (s.freeVal % 65536)

/-- A write of RDM_CONN_CMD (R307, R309): discarded while BUSY; with GO the operation runs. -/
def State.writeConnCmd (s : State) (m value sub : Nat) : State :=
  if !s.hasMotif m || s.flag F.RDM_CONN_CMD_BUSY m then s
  else
    let s := s.softWrite .RDM_CONN_CMD m 0 value
    if bit value 63 then
      match s.fld F.RDM_CONN_CMD_OP m with
      | 1 => s.createConn m sub
      | 2 => s.destroyConn m (s.fld F.RDM_CONN_CMD_CONN_ID m)
      | 3 => s.errorConn m (s.fld F.RDM_CONN_CMD_CONN_ID m)
      | _ => s.tookFree.endConnCmd m (s.freeVal % 65536)
    else s

/-- CONN_CREATE (R307); `sub` is the sub-port that received the connection request. -/
def execConnCreate (motif value sub : Nat) (s : State) : Host.Outcome State Fault Refusal := live s (fun s => s.writeConnCmd motif value sub)

/-- CONN_DESTROY (R309). -/
def execConnDestroy (motif value : Nat) (s : State) : Host.Outcome State Fault Refusal := live s (fun s => s.writeConnCmd motif value 0)

/-- CONN_ERROR_CMD (R330). -/
def execConnErrorCmd (motif value : Nat) (s : State) : Host.Outcome State Fault Refusal := live s (fun s => s.writeConnCmd motif value 0)

/-- TIMEWAIT_EXPIRY (R309): TIMEWAIT_MS have passed; the context is FREE, its generation counted on, its pinned entry released. -/
def execTimewaitExpiry (conn : Nat) (s : State) : Host.Outcome State Fault Refusal :=
  live s (fun s =>
    match s.conn conn with
    | none => s
    | some c =>
      if c.state = .timewait ∧ c.timewaitAt + 200 * s.fld F.RDM_CTL_TIMEWAIT_MS c.motif ≤ s.num then
        let key := conn % 2 ^ 24
        let s := s.modNet (fun n => { n with conns := n.conns.filter (fun x => x.id != conn), gens := Sparse.set 0 n.gens key ((conn / 2 ^ 24 + 1) % 256) })
        s.syncCtx c.motif
      else s)

/-! ## Resynchronisation -/

/-- The later of two OP_SEQ values in serial arithmetic (R310). -/
def laterSeq (a b : Nat) : Nat := if (b + 2 ^ 32 - a % 2 ^ 32) % 2 ^ 32 < 2 ^ 31 then b % 2 ^ 32 else a % 2 ^ 32

/-- The highest OP_SEQ that a SHADOW copy knows: of writes applied, held atomics and acknowledged ones (R326). -/
def Conn.knownSeq (c : Conn) : Nat := c.atomics.foldl (fun a x => laterSeq a x.1) (laterSeq c.acked c.doneSeq)

/-- A SHADOW connection in RESYNC with E (R309, R326). -/
def Conn.toResync (c : Conn) : Conn :=
  let e := 2 ^ 32 + (c.knownSeq + 1) % 2 ^ 32
  { c with state := .resync, expAck := e, epsn := e, doneSeq := e - 1, acked := e - 1, marks := [], early := [], lasts := [], part := [], cached := false }

/-- CONN_RESYNC (R309, R326): the SHADOW connections of a ground now served here enter RESYNC. -/
def State.resyncGround (s : State) (g : Nat) : State :=
  let shadow := fun (c : Conn) => decide (c.desc.ground = g) && c.state == ConnState.shadow
  (s.modNet (fun n => { n with conns := mapWhere shadow Conn.toResync n.conns })).each s.motifs (fun s m => s.syncCtx m)

/-- A connection in RESYNC that had work in flight hears of it at once (R127, R327). -/
def State.sendSeqNak (s : State) (id : Nat) : State :=
  match s.conn id with
  | none => s
  | some c =>
    if c.state ≠ .resync then s
    else if c.desc.spray then s.sendAck c true else s.emit (.seqNak id (c.expAck % 2 ^ 24))

/-! ## Region commands -/

/-- The end of a region command (R328, R329). -/
def State.endMrCmd (s : State) (status : Nat) : State :=
  let s := ((s.setFld F.RDM_MR_CMD_GO 0).setFld F.RDM_MR_CMD_BUSY 0).setFld F.RDM_MR_CMD_STATUS status
  s.setEvt F.RDM_EVT_MR_DONE

/-- STATE of a region written. -/
def State.setMrState (s : State) (idx st : Nat) : State :=
  let a := s.mrAddr idx + 0x20
  s.store a (bytesOf [byteAt (s.load a 1) 0 / 4 * 4 + st])

/-- A write of RDM_MR_CMD (R328, R329): discarded while BUSY. -/
def State.writeMrCmd (s : State) (value : Nat) : State :=
  if s.flag F.RDM_MR_CMD_BUSY then s
  else
    let s := s.softWrite .RDM_MR_CMD 0 0 value
    let idx := s.fld F.RDM_MR_CMD_INDEX
    let st := (s.mrEntry idx).state
    if bit value 63 then
      match s.fld F.RDM_MR_CMD_OP with
      | 1 => if st = 0 ∧ idx ≠ 0 then (s.setMrState idx 1).endMrCmd 0 else s.endMrCmd 0x2B08
      | 2 => if st = 1 then
          ((s.setMrState idx 2).setFld F.RDM_MR_CMD_BUSY 1).modNet (fun n => { n with revoking := some idx })
        else s.endMrCmd 0x2B08
      | _ => s.tookFree.endMrCmd (s.freeVal % 65536)
    else s

/-- MR_VALIDATE (R328). -/
def execMrValidate (value : Nat) (s : State) : Host.Outcome State Fault Refusal := live s (fun s => s.writeMrCmd value)

/-- MR_REVOKE (R329): the fence is raised with REVOKING, and the drain runs. -/
def execMrRevoke (value : Nat) (s : State) : Host.Outcome State Fault Refusal := live s (fun s => s.writeMrCmd value)

/-- A READ response of a region is under way. -/
def State.readingRegion (s : State) (idx : Nat) : Bool :=
  s.bob.jobs.any (fun j => match j.src with | .rdma _ _ _ _ _ k => bits k 27 8 == idx | _ => false)

/-- REVOKE_DRAIN_COMPLETE (R329): nothing of the region is in flight on any motif, so it is FREE. -/
def execRevokeDrainComplete (s : State) : Host.Outcome State Fault Refusal :=
  live s (fun s =>
    match s.net.revoking with
    | some idx =>
      if s.readingRegion idx then s
      else ((s.setMrState idx 0).modNet (fun n => { n with revoking := none })).endMrCmd 0
    | none => s)

end Sys2Proof.Machine
end

