-- ==== Sys2Proof/Machine/PairOps.lean ====
section
/-! DEFINITION. What pairing is built of (R87, R88, R110 to R135): bride groups and lanes, the stitch record, claim raises, taking a ground, takeover,
handover, resynchronisation, and the changes of mode that the partner head causes. -/

namespace Sys2Proof.Machine

/-! ## Lanes and groups -/

/-- The lanes of a block of `w` lanes from lane `a` on. -/
def laneBlock (a w : Nat) : Nat := (2 ^ w - 1) * 2 ^ a

/-- The widest block of 8, 4, 2 or 1 lanes, aligned to its width, all of which pass (R110; log 65). -/
def trainLanes (pass : Nat) : Nat :=
  let all := [8, 4, 2, 1].flatMap (fun w => (List.range (8 / w)).map (fun i => laneBlock (i * w) w))
  (all.find? (fun b => b &&& pass == b)).getD 0

/-- The lanes left when one of them fails: the widest block without it (R110). -/
def dropLane (lanes lane : Nat) : Nat := trainLanes (lanes ^^^ (lanes &&& 2 ^ lane))

/-- Lanes that are up. -/
def laneCount (lanes : Nat) : Nat := ((List.range 8).filter (fun i => bit lanes i)).length

/-- BRD_ST and BRD_GRP brought in step with the groups. -/
def State.syncBride (s : State) : State :=
  let s := s.each (List.range 8) (fun s g =>
    let l := if s.hasMotif g then (s.group g).lanes else 0
    ((s.setFld F.BRD_GRP_LANES l 0 g).setFld F.BRD_GRP_UP (b2n (s.groupUp g)) 0 g).setFld F.BRD_GRP_PRESENT (b2n (s.hasMotif g)) 0 g)
  let up := s.upGroups.foldl (fun a g => a + 2 ^ g) 0
  let lanes := s.upGroups.foldl (fun a g => a + laneCount (s.group g).lanes) 0
  (s.setFld F.BRD_ST_GROUPS_UP up).setFld F.BRD_ST_LANES_UP lanes

/-! ## Grounds -/

/-- The numbers of the grounds of the map in force. -/
def State.groundList (s : State) : List Nat := s.activePart.grounds.map (fun e => e.ground)

/-- The home head of a ground. -/
def State.homeOf (s : State) (g : Nat) : Nat := match s.groundDef g with | some e => e.home | none => 0

/-- A ground that cannot be served here (R42): its stripes need more parity than MAX_M, its content a cipher that the package lacks, or it holds
namespaces and is not in the map (R88). -/
def State.notServable (s : State) (g : Nat) : Bool :=
  let bands := s.med.maps.bands.filter (fun b => b.ground == g && b.state != 0)
  let enc := s.med.maps.ctab.any (fun c => handleGround c.1 == g && c.2.state != 0 && c.2.enc)
  bands.any (fun b => decide (s.fuses.caps.maxM < b.m)) || (enc && !s.fuses.caps.optE) ||
    ((s.groundDef g).isNone && s.med.maps.namespaces.any (fun n => n.ground == g))

/-- CLM_GROUND brought in step with the map in force: EXISTS, TWIN, HOME, and MIRRORED of the grounds owned while Paired; grounds with namespaces that
the map no longer names are OUT (R88). -/
def State.syncGrounds (s : State) : State :=
  s.each (List.range 256) (fun s g =>
    let d := s.groundDef g
    let mirrored := decide (s.mode = 1) && decide (s.groundState g = 1)
    let s := ((s.setFld F.CLM_GROUND_EXISTS (b2n d.isSome) 0 g).setFld F.CLM_GROUND_TWIN (b2n (s.isTwin g)) 0 g).setFld F.CLM_GROUND_HOME (s.homeOf g) 0 g
    s.setFld F.CLM_GROUND_MIRRORED (b2n mirrored) 0 g)

/-! ## The stitch record -/

/-- Kind and number that an entry is known by: a later entry with them replaces it. -/
def RecEntry.key (e : RecEntry) : Nat × Nat × Nat :=
  match e with
  | .drop m g _ => (1, m, g)
  | .claim g _ => (2, g, 0)
  | .ground g _ _ => (3, g, 0)
  | .conn id _ _ => (4, id, 0)
  | .qpos g q _ _ => (5, g, q)
  | .cache m _ _ => (6, m, 0)
  | .journal m g _ => (7, m, g)
  | .twin c _ => (8, c, 0)

/-- An entry that R115 may defer: CONN or CACHE. -/
def RecEntry.defers (e : RecEntry) : Bool := decide (e.key.1 = 4) || decide (e.key.1 = 6)

/-- Entries with later ones put in place of those with their keys. -/
def putEntries (l new : List RecEntry) : List RecEntry := l.filter (fun e => !(new.any (fun x => x.key == e.key))) ++ new

/-- CLAIM and GROUND entries: those that differ from a ground that has neither claim nor state. -/
def State.groundEntries (s : State) : List RecEntry :=
  (List.range 256).flatMap (fun g =>
    (if s.claimOf g = 0 then [] else [RecEntry.claim g (s.claimOf g)]) ++
      (if s.groundState g = 0 then [] else [RecEntry.ground g (s.groundState g) (s.fld F.CLM_GROUND_UNFLUSHED_MIB 0 g)]))

/-- The CONN or TWIN entry of a connection in service: its next expected and highest acknowledged OP_SEQ, or the highest applied one of a twin (R114, R311). -/
def connEntry (c : Conn) : List RecEntry :=
  if c.state = .rts ∨ c.state = .resync then
    (if c.desc.twin then [.twin c.desc.twinId (c.doneSeq % 2 ^ 32)] else [.conn c.id (c.epsn % 2 ^ 32) (c.acked % 2 ^ 32)])
  else []

/-- QPOS entries of the fabrics queues: capsules taken and capsules arrived (log 65). -/
def State.qposEntries (s : State) : List RecEntry :=
  (s.hq.ctrls.filter (fun k => k.fabrics)).flatMap (fun k => k.conns.filterMap (fun q =>
    (s.conn q.1).map (fun c => RecEntry.qpos k.ground (bits c.desc.rqId 15 0) (c.taken % 2 ^ 32) ((c.taken + c.recv.length) % 2 ^ 32))))

/-- CACHE entries: the set groups, 64 equal runs of sets, that hold dirty lines, and how many there are. -/
def State.cacheEntry (s : State) (m : Nat) : RecEntry :=
  let l := (s.ms.lines ++ s.ms.victims ++ s.ms.stalled).filter (fun c => c.motif == m && c.dirty)
  .cache m ((List.range 64).foldl (fun a i => a + (if l.any (fun c => c.set / 256 == i) then 2 ^ i else 0)) 0) l.length

/-- The durable position of a journal (R114, R239): where the first transaction in it begins that is not durable, else its end. -/
def State.durablePos (s : State) (l : JLog) : Nat :=
  match s.med.txns.find? (fun t => t.ground == l.ground && t.motif == l.motif && t.sent && !t.durable) with
  | some t => t.span.1
  | none => l.pos

/-- JOURNAL entries: the durable position of each motif's journal of an own ground. -/
def State.journalEntries (s : State) : List RecEntry :=
  let mine := s.med.logs.filter (fun l => s.ownedGrounds.contains l.ground && s.hasMotif l.motif && decide (0 < l.pos))
  mine.map (fun l => RecEntry.journal l.motif l.ground (s.durablePos l))

/-- Every entry as it stands. -/
def State.allEntries (s : State) : List RecEntry :=
  s.pair.drops.map (fun d => RecEntry.drop d.1 d.2.1 d.2.2) ++ s.groundEntries ++ s.qposEntries ++ s.journalEntries ++
    (s.net.conns.filter (fun c => c.desc.twin)).flatMap connEntry ++ (s.net.conns.filter (fun c => !c.desc.twin)).flatMap connEntry ++
    (s.motifs.map s.cacheEntry).filter (fun e => match e with | .cache _ b _ => decide (b ≠ 0) || s.pair.sent.any (fun x => x.key == e.key) | _ => true)

/-- Entries that a record of eight parts holds (R115). -/
def recordMax : Nat := 8 * 4091

/-- The CONN and CACHE entries that have changed, with the stitch at which each was first found changed (R115). -/
def State.agedEntries (s : State) (l : List RecEntry) : List (RecEntry × Nat) :=
  (l.filter RecEntry.defers).map (fun e => (e, match s.pair.ages.find? (fun a => a.1.key == e.key) with | some a => a.2 | none => s.num))

/-- The entries that the next record carries: those changed since the last one sent. Of the CONN and CACHE entries beyond eight parts the oldest are deferred first (R115). -/
def State.changedEntries (s : State) : List RecEntry :=
  let l := s.allEntries.filter (fun e => !s.pair.sent.contains e)
  let keep := l.filter (fun e => !e.defers)
  let later := sortBy (fun (a b : RecEntry × Nat) => decide (b.2 < a.2)) (s.agedEntries l)
  keep ++ (later.take (recordMax - keep.length)).map (fun e => e.1)

/-- The stitch record of this moment (R114). -/
def State.stitchRecord (s : State) (entries : List RecEntry) : Record :=
  { part := 0, parts := 1, stitch := s.num, txPhase := s.stc.phase, stcState := s.fld F.STC_ST_STATE, mode := s.mode, halive := s.flag F.BRD_ST_HALIVE_OUT,
    admitting := s.flag F.PKG_MODE_ADMIT, rethread := decide (s.mode = 3), named := s.pair.named.isSome, staging := s.flag F.PKG_MODE_STAGING,
    prior := s.flag F.PRK_PAIR_ST_PRIOR_ACTIVE, headId := s.headId, numOfs := s.fld F.STC_NUM_OFS_OFS, namedStitch := s.fld F.BRD_NAMED_STITCH,
    mirrorLimit := s.mirrorLimit, entries := entries }

/-- REC_SNAP: the record is snapped; the entries that it leaves out wait with their age. -/
def State.snapRecord (s : State) : State :=
  let r := s.stitchRecord s.changedEntries
  let left := (s.agedEntries (s.allEntries.filter (fun e => !s.pair.sent.contains e))).filter (fun a => !r.entries.contains a.1)
  s.modPair (fun p => { p with snap := some r, ages := left })

/-- Part `i` of a record, with 4,091 entries at most. -/
def Record.partOf (r : Record) (parts i : Nat) : Record := { r with part := i, parts := parts, entries := (r.entries.drop (4091 * i)).take 4091 }

/-- A record sent (R114): part `i` on the (i mod g)th group up and on the next one. -/
def State.sendRecord (s : State) (r : Record) : State :=
  let up := s.upGroups
  let parts := max 1 (ceilDiv r.entries.length 4091)
  if up.isEmpty ∨ ¬ s.paired then s
  else
    let r := { r with txPhase := s.stc.phase }
    let s := s.each (List.range parts) (fun s i =>
      let a := up.getD (i % up.length) 0
      let b := up.getD ((i + 1) % up.length) 0
      let s := s.sendOn a (.record (r.partOf parts i))
      if a = b then s else s.sendOn b (.record (r.partOf parts i)))
    s.modPair (fun p => { p with
      sent := putEntries p.sent (r.entries.filter (fun e => decide (e.key.1 ≠ 1))),
      drops := p.drops.filter (fun d => !r.entries.contains (.drop d.1 d.2.1 d.2.2)) })

/-! ## Copies become dirty data -/

/-- Every atom of a write is among the held frames (R165): its ATOMS is known and reached. -/
def wholeWrite (l : List HeldAtom) : Bool :=
  match l with
  | [] => false
  | f :: _ =>
    let n := l.foldl (fun a x => max a x.frame.atoms) f.frame.atoms
    decide (0 < n) && decide (l.length = n)

/-- The frames of one write. -/
def sameWrite (a b : HeldAtom) : Bool := a.frame.writeId == b.frame.writeId && a.frame.conn == b.frame.conn && a.frame.motif == b.frame.motif

/-- The held frames of a ground, write by write in the order held. -/
def groupFrames (l : List HeldAtom) : Nat → List (List HeldAtom)
  | 0 => []
  | n + 1 => match l with
    | [] => []
    | f :: t => (f :: t.filter (sameWrite f)) :: groupFrames (t.filter (fun x => !sameWrite f x)) n

/-- A write of a connection comes before another one, in serial arithmetic (R310). -/
def seqBefore (a b : Nat) : Bool := decide (a % 2 ^ 32 ≠ b % 2 ^ 32) && seqCovers b a

/-- A held write is known to have been complete, also where its other atoms have been dropped since: they are flushed, or it was acknowledged by the ACK_SEQ of a later frame of
its connection or by the last CONN entry (R165; log 77). -/
def State.wasComplete (s : State) (all : List (List HeldAtom)) (w : List HeldAtom) : Bool :=
  w.any (fun x => x.done || (!x.frame.host && (all.any (fun v => v.any (fun y => y.frame.conn == x.frame.conn && !seqBefore y.frame.ackSeq x.frame.opSeq &&
      seqBefore x.frame.opSeq y.frame.opSeq)) ||
    (match s.conn x.frame.conn with | some c => !seqBefore c.acked x.frame.opSeq | none => false))))

/-- A held write counts as there: it is whole, or it was complete. -/
def State.heldEnough (s : State) (all : List (List HeldAtom)) (w : List HeldAtom) : Bool := wholeWrite w || s.wasComplete all w

/-- A write is applied (R165): it is held, and so is every earlier write held of its connection. -/
def State.appliesWrite (s : State) (all : List (List HeldAtom)) (w : List HeldAtom) : Bool :=
  match w with
  | [] => false
  | f :: _ =>
    s.heldEnough all w && (f.frame.host || all.all (fun x => match x with
      | [] => true
      | y :: _ => y.frame.conn != f.frame.conn || y.frame.host || s.heldEnough all x || !seqBefore y.frame.opSeq f.frame.opSeq))

/-- A write taken over becomes dirty data that is complete and acknowledged. -/
def State.adoptWrite (s : State) (w : List MirrorFrame) : State :=
  match w with
  | [] => s
  | f :: _ =>
    let id := s.dp.nextWrite
    let n := (s.ns f.nsid).getD default
    let cls := match s.conn f.conn with | some c => c.desc.cls | none => s.classOf f.nsid n.ground none none
    let first := w.foldl (fun a x => min a x.atom) f.atom
    let wr : Write :=
      { id := id, src := if f.host then .internal else .rdma f.conn f.opSeq, ns := f.nsid, ground := f.ground, cls := cls, atom := first, count := w.length,
        motif := f.motif, fua := false, dealloc := f.dealloc, twin := none, gotHave := false, met := true, state := 3, arrival := s.dp.arrivals }
    let atom := fun (x : MirrorFrame) => ({
      writeId := id, ns := x.nsid, ground := x.ground, cls := cls, atom := x.atom, motif := x.motif, data := x.data, guard := x.guard, appTag := x.appTag,
      dealloc := x.dealloc, state := .complete, placed := true, poison := false, mseq := 0, staged := false, done := s.num, print := none } : BufAtom)
    let s := s.modDp (fun d => { d with nextWrite := d.nextWrite + 1, arrivals := d.arrivals + 1, writes := d.writes ++ [wr], atoms := d.atoms ++ w.map atom })
    if f.host then s else s.modConn f.conn (fun c => { c with doneSeq := laterSeq c.doneSeq f.opSeq })

/-- The mirror copies of a ground become this head's dirty data, those that R165 does not apply are discarded. -/
def State.convertCopies (s : State) (g : Nat) : State :=
  let mine := s.dp.copies.filter (fun c => c.frame.ground == g)
  let ws := groupFrames mine mine.length
  let go := ws.filter (s.appliesWrite ws)
  let s := s.modDp (fun d => { d with copies := d.copies.filter (fun c => c.frame.ground != g) })
  (go.foldl (fun s w => s.adoptWrite (w.map (fun x => x.frame))) s).recount

/-- The motif whose lanes open entries of logs and vaults: the first that has a lane (log 76). -/
def State.openMotif (s : State) : Nat := (s.motifs.find? (fun m => !(s.laneGroups m none).isEmpty)).getD 0

/-- An entry cannot be opened: its slot is not LOADED, or no lane is there (R214, R229). -/
def State.shutEntry (s : State) (e : StageEnt) : Bool := e.enc && (!(s.slotLoaded e.keySlot) || (s.laneGroups s.openMotif none).isEmpty)

/-- A held entry of a staging log as the frame of its atom; its content is opened where it is sealed (R228). -/
def State.entryFrame (s : State) (e : StageEnt) : State × Option MirrorFrame :=
  let r := if e.enc then s.openUp s.openMotif e.keySlot false e.nonce (e.header.take 0x30) e.data e.tag else (s, .ok e.data)
  match r with
  | (s, .error _) => (s, none)
  | (s, .ok data) =>
    let f := { MirrorFrame.of 0 e.ground with first := e.first, last := e.last, pi := e.pi, host := e.host, dealloc := e.dealloc, nsid := e.nsid }
    let f := { f with atom := e.atom, conn := e.conn, opSeq := e.opSeq, ackSeq := e.ackSeq, atoms := e.atoms, writeId := e.writeId, data := data }
    (s, some { f with appTag := e.appTag, guard := if e.pi then crc64 data else 0 })

/-- Entries opened, in their order, each with its frame. -/
def State.entryFrames (s : State) : List StageEnt → State × List (StageEnt × MirrorFrame)
  | [] => (s, [])
  | e :: t =>
    let a := s.entryFrame e
    let b := a.1.entryFrames t
    (b.1, match a.2 with | some f => (e, f) :: b.2 | none => b.2)

/-- What recovery finds of an atom: the entry of the system page, its frame, and whether a staging log holds it. -/
structure LoggedAtom where
  ent : StageEnt
  frame : MirrorFrame
  log : Bool
  deriving DecidableEq, Repr, Inhabited

/-- The later of two sources of one atom (R249, R495): by the STITCH of the system page, then by ENTRY_SEQ. -/
def LoggedAtom.later (a b : LoggedAtom) : Bool :=
  a.frame.nsid == b.frame.nsid && a.frame.atom == b.frame.atom &&
    (decide (b.ent.stitch < a.ent.stitch) || (decide (a.ent.stitch = b.ent.stitch) && (decide (b.ent.seq < a.ent.seq) || (decide (a.ent.seq = b.ent.seq) && a.log && !b.log))))

/-- The entries of one source that R165 applies: its writes as they were logged, whole, or complete with other atoms of them flushed since. -/
def State.appliedOf (s : State) (log : Bool) (l : List (StageEnt × MirrorFrame)) : List LoggedAtom :=
  let held := fun (p : StageEnt × MirrorFrame) => (⟨p.2, p.1.obsolete⟩ : HeldAtom)
  let hs := l.map held
  let ws := groupFrames hs hs.length
  let go := if log then ws.filter (s.appliesWrite ws) else ws.filter wholeWrite
  (l.filter (fun p => !p.1.obsolete && go.any (fun w => w.contains (held p)))).map (fun p => ⟨p.1, p.2, log⟩)

/-- Atoms of one write that recovery adopts: dirty data; those of a staging log are in the staging journal, and their entries name the new write. -/
def State.adoptFound (s : State) (l : List LoggedAtom) : State :=
  let id := s.dp.nextWrite
  let mine := (l.filter (fun f => f.log)).map (fun f => { f.ent with writeId := id })
  let s := s.adoptWrite (l.map (fun f => f.frame))
  let s := s.modMed (fun d => { d with staging := d.staging ++ mine })
  let logged := fun (a : BufAtom) => a.writeId == id && mine.any (fun e => e.atom == a.atom)
  s.modDp (fun d => { d with atoms := mapWhere logged (fun a => { a with staged := true }) d.atoms })

/-- What was found, write by write. -/
def groupFound (l : List LoggedAtom) : Nat → List (List LoggedAtom)
  | 0 => []
  | n + 1 => match l with
    | [] => []
    | f :: t =>
      let same := fun (x : LoggedAtom) => x.log == f.log && x.ent.claim == f.ent.claim && sameWrite ⟨f.frame, false⟩ ⟨x.frame, false⟩
      (f :: t.filter same) :: groupFound (t.filter (fun x => !same x)) n

/-- Sources of atoms adopted: of two that hold one atom the later wins (R249, R495). The entries of the logs used so far are obsolete, those adopted stand anew. -/
def State.adoptSources (s : State) (l : List LoggedAtom) : State :=
  let win := l.filter (fun f => !(l.any (fun x => x.later f)))
  let s := s.modMed (fun d => { d with staging := mapWhere (fun e => l.any (fun f => f.log && f.ent == e)) (fun e => { e with obsolete := true }) d.staging })
  ((groupFound win win.length).foldl State.adoptFound s).recount

/-- The staging log of a ground, of this head and of `log`, in ENTRY_SEQ order (R249), opened. -/
def State.logSources (s : State) (g : Nat) (log : List StageEnt) : State × List LoggedAtom :=
  let l := sortBy (fun (a b : StageEnt) => decide (a.seq < b.seq)) (log.filter (fun e => e.ground == g))
  let r := s.entryFrames l
  (r.1, r.1.appliedOf true r.2)

/-- The writes of a ground's staging log applied (R165, R249). -/
def State.replayLog (s : State) (g : Nat) (log : List StageEnt) : State :=
  let r := s.logSources g log
  r.1.adoptSources r.2

/-! ## Taking a ground -/

/-- A collection that its head lost begins again: the band is FULL (R236, R242). -/
def Band.adopt (b : Band) : Band := if b.state = 3 ∨ b.state = 4 then { b with state := 2, refresh := false } else b

/-- An OPEN band of a ground goes on as the stream of its motif and kind (R237). -/
def State.adoptStream (s : State) (b : Band) : State :=
  if b.state = 1 ∧ b.next < b.stripes ∧ (s.stream b.ground b.motif b.gc).isNone then
    s.putStream { ground := b.ground, motif := b.motif, gc := b.gc, band := b.num, fill := [], since := s.num }
  else s

/-- The bands of a ground adopted by the motif of the same index (R236, R237, R262): torn stripes are never read, a collection begins again by a BAND record, an erase too;
a block of USE 1 that no band names as a member is erased and freed (R271). -/
def State.adoptBands (s : State) (g : Nat) : State :=
  let back := s.med.maps.bands.filter (fun b => b.ground == g && (b.state == 3 || b.state == 4))
  let held := fun (x : BlockId) => s.med.maps.bands.any (fun b => b.members.contains x || b.olds.any (fun o => o.2.2 == x)) || s.med.rebuilds.any (fun j => j.repl.any (fun r => r.2 == x))
  let loose := ((s.med.maps.blocks.filter (fun p => p.2.use == 1 && p.2.ground == g)).map (fun p => blockOf p.1)).filter (fun x => !held x)
  let s := s.modMed (fun d => { d with stale := (d.stale ++ loose).eraseDups })
  let s := s.modMaps (fun m => { m with
    opens := m.opens.filter (fun o => !(m.bands.any (fun b => b.num == o.1 && b.ground == g))),
    bands := mapWhere (fun b => b.ground == g && b.state == 6) (fun b => { b with erased := 0 }) m.bands })
  let s := s.each back (fun s b => s.journal b.ground b.motif [.band b.adopt])
  s.each (s.med.maps.bands.filter (fun b => b.ground == g)) State.adoptStream

/-- Work was in flight on a connection of a taken ground (R127): the next expected OP_SEQ of its last CONN entry, or a mirrored OP_SEQ, is beyond what was acknowledged. -/
def State.hadWork (s : State) (id : Nat) : Bool :=
  match s.conn id with
  | none => false
  | some c =>
    let next := s.pair.theirs.findSome? (fun e => match e with | .conn i n _ => if i = id then some n else none | _ => none)
    seqBefore c.acked c.held || (match next with | some n => seqBefore (c.acked + 1) n | none => false)

/-- Every generator starts at the first value of its high-water block, which is reserved before the first encryption (R219), once the head owns a ground whose journal
takes the reservation. -/
def State.readyGens (s : State) : State :=
  if ¬ s.fuses.caps.optE then s
  else s.each s.motifs (fun s m => s.each (List.range 8) (fun s g =>
    if s.genCounter m g / 2 ^ 32 = s.fld F.CIP_GEN_HWM_BLOCK m g then s.reserveBlock m g else s))

/-- The connections of a ground that had work in flight. -/
def State.busyConns (s : State) (g : Nat) : List Nat :=
  (s.net.conns.filter (fun c => decide (c.desc.ground = g) && c.state == ConnState.shadow && s.hadWork c.id)).map (fun c => c.id)

/-- A ground's addresses announced (R126 step 3); those of a twin-fed ground do not move. -/
def State.announceGround (s : State) (g : Nat) : State := if s.isTwin g then s else s.emit (.announce g)

/-- Steps 4 and 5 of R126 for a ground: the fabrics controllers that `ctrls` says, the copies or the log made dirty data, PENDING views abandoned, replication taken up; the connections enter
RESYNC last, since their E counts the writes applied (R326). A ground whose staging log holds an entry that cannot be opened is kept out of service, as R224 says of Winding (log 77). -/
def State.takeWork (s : State) (g : Nat) (log : List StageEnt) (ctrls : List Ctrl) : State :=
  if log.any (fun e => decide (e.ground = g) && !e.obsolete && s.shutEntry e) then s.setGroundState g 6
  else
  let s := s.modHq (fun h => { h with ctrls := h.ctrls ++ ctrls.filter (fun k => k.fabrics && k.ground == g && !(h.ctrls.any (fun x => x.id == k.id))) })
  let s := (s.convertCopies g).replayLog g log
  let s := (s.adoptBands g).setGroundState g 1
  let s := (s.recount.syncHq).abandonViews g
  (s.resumeTargets g []).resyncGround g

/-- What the taking of grounds leaves to do: generators, held commands, admission, flushes. -/
def State.settleTaken (s : State) : State := (((s.readyGens.syncMedia.releaseHeld s.bob.heldCmds.length).startRebuild []).eraseStale).syncAdmit.syncFlush

/-- What taking a ground does beside its claim (R126 steps 3 to 5 and 7, R128 step 3). -/
def State.activateGround (s : State) (g : Nat) (log : List StageEnt) (ctrls : List Ctrl) : State :=
  let busy := s.busyConns g
  (((s.announceGround g).takeWork g log ctrls).settleTaken).each busy State.sendSeqNak

/-- The bitmap of grounds of an OWNERSHIP record. -/
def groundBitmap (l : List Nat) : Bytes := leBytes 32 (l.eraseDups.foldl (fun a g => a + 2 ^ (g % 256)) 0)

/-- An OWNERSHIP record (R462). -/
def State.sampleOwnership (s : State) (kind : Nat) (l : List Nat) : State :=
  if l.isEmpty then s else s.sample 0x0007 (bytesOf [kind, l.length % 256] ++ zeros 2 ++ leBytes 8 s.num ++ groundBitmap l)

/-- The claims of grounds raised, then CLAIM_SET issued for each (R126 steps 1 and 2). -/
def State.raiseAll (s : State) (gs : List Nat) : State :=
  (s.each gs (fun s g => s.raiseNumber g (s.knownClaim g))).each gs (fun s g => s.sendClaims g false)

/-- TAKEOVER from a partner head that mirrored (R126), in its order; `enter` opens admission in the mode that follows. -/
def State.takeOver (s : State) (gs : List Nat) (ctrls : List Ctrl) (enter : State → State) : State :=
  let s := (s.raiseAll gs).each gs State.announceGround
  let busy := gs.flatMap s.busyConns
  let s := (s.each gs (fun s g => s.takeWork g [] ctrls)).settleTaken
  let s := ((enter s).setEvt F.PKG_MODE_EV_TAKEOVER).setEvt F.CLM_EVT_TAKEOVER
  (s.sampleOwnership 1 gs).each busy State.sendSeqNak

/-- A CLAIM_SET that raises a ground is still to complete on some module. -/
def State.raising (s : State) (g : Nat) : Bool := (s.bob.cmds ++ s.bob.heldCmds).any (fun c => decide (c.why = BobWhy.claimRaise) && decide (c.ground = g))

/-- The takeover of grounds whose CLAIM_SET has completed on every module goes on (R125): their staging log is replayed, and only then admission opens. -/
def State.finishTaking (s : State) : State :=
  let s := s.runWaiting []
  let ready := s.pair.taking.filter (fun g => !(s.raising g))
  if ready.isEmpty then s
  else
    let log := s.pair.takeLog
    let ctrls := s.pair.takeCtrls
    let gs := ready.filter (fun g => decide (s.groundState g = 2))
    let s := (s.modPair (fun p => { p with taking := p.taking.filter (fun g => !ready.contains g) })).each gs State.announceGround
    let busy := gs.flatMap s.busyConns
    let s := (s.each gs (fun s g => s.takeWork g log ctrls)).settleTaken
    let s := (s.setEvt F.PKG_MODE_EV_TAKEOVER).setEvt F.CLM_EVT_TAKEOVER
    let s := (s.sampleOwnership 1 gs).each busy State.sendSeqNak
    ((if s.pair.taking.isEmpty then s.modPair (fun p => { p with takeLog := [], takeCtrls := [] }) else s).syncGrounds.settleWrites).admitWaiting

/-- TAKEOVER from a partner head that did not mirror (R125): the claims are raised; the rest waits for CLAIM_SET. `log` is the partner head's staging journal. -/
def State.beginTaking (s : State) (gs : List Nat) (log : List StageEnt) (ctrls : List Ctrl) : State :=
  let s := s.raiseAll gs
  (s.modPair (fun p => { p with taking := p.taking ++ gs, takeLog := p.takeLog ++ log, takeCtrls := p.takeCtrls ++ ctrls })).finishTaking

/-! ## Frames -/

/-- Frames acknowledged up to a SEQ leave a group's replay buffer, and waiting ones go (R112, R113). -/
def State.takeAck (s : State) (g ack : Nat) : State :=
  let s := s.modGroup g (fun b => { b with acked := if seqCovers ack b.acked then ack else b.acked, unacked := b.unacked.filter (fun f => !seqCovers ack f.1) })
  s.drainGroup g (s.group g).waiting.length

/-- A NAK (R113): the frame is discarded. -/
def State.sendNak (s : State) (g : Nat) : State := s.emit (.bride g (s.bareFrame g 7))

/-- A sequenced frame arrives on a group that is up: in order it is taken and its ACKSEQ heard, out of order it draws a NAK (R112, R113). -/
def State.onFrame (s : State) (h : BrideHdr) (f : State → State) : State :=
  if ¬ s.groupUp h.group ∨ s.txOff then s
  else if h.seq ≠ nextSeq (s.group h.group).rxSeq then s.sendNak h.group
  else f ((s.modGroup h.group (fun b => { b with rxSeq := h.seq })).takeAck h.group h.ack)

/-- REPLAY (R113): every unacknowledged frame of a group sent again, in order. -/
def State.replay (s : State) (g : Nat) : State :=
  let l := (s.group g).unacked
  if l.isEmpty then s else (s.each l (fun s f => s.emit (.bride g (s.wire g f.1 f.2)))).bump F.BRD_CNT_REPLAY

/-- A RESYNC frame with the MSEQ that it gets (R116, R135). -/
def State.sendResync (s : State) (f : MirrorFrame) : State × Nat := s.sendSequenced .resync f

/-- A payload of resynchronisation. -/
def BridePay.isResync (p : BridePay) : Bool :=
  match p with
  | .resync _ => true
  | .train _ => false
  | .record _ => false
  | .mirror _ => false
  | .haves _ => false
  | .handover _ _ _ _ => false

/-- RESYNC frames not yet acknowledged. -/
def State.backlog (s : State) : Nat :=
  (s.pair.groups.map (fun g => (g.waiting.filter BridePay.isResync).length + (g.unacked.filter (fun f => f.2.isResync)).length)).foldl (· + ·) 0

/-- BRD_RESYNC.BACKLOG_MIB brought in step. -/
def State.syncBacklog (s : State) : State := s.setFld F.BRD_RESYNC_BACKLOG_MIB (mibUp s.backlog)

/-- The CONN records of a ground's connections, for the partner head's SHADOW copies (R308). -/
def State.connRecs (s : State) (g : Nat) : List JRec :=
  (s.net.conns.filter (fun c => c.desc.ground == g && !c.desc.twin && (c.state == ConnState.rts || c.state == ConnState.error || c.state == ConnState.resync))).map
    (fun c => .conn c.id c.desc (if c.state = .error then 2 else 1))

/-- Resynchronisation starts (R135 step 1): every buffered atom of the own grounds, their journal and their connections go as RESYNC frames, and new writes are
mirrored as they land. -/
def State.startResync (s : State) : State :=
  if s.pair.rejoin then s
  else
    let s := (s.modPair (fun p => { p with rejoin := true })).setFld F.BRD_ST_STATE 4
    let s := s.each s.ownedGrounds (fun s g =>
      let txns := (s.med.txns.filter (fun t => t.ground == g && t.sent)).map (fun t => (t.motif, t.id, t.recs)) ++ [(0, 0, s.connRecs g)]
      s.each (txns.filter (fun t => !t.2.2.isEmpty)) (fun s t =>
        s.each (s.journalFrames t.1 g t.2.1 t.2.2) (fun s f => (s.sendResync f).1)))
    let l := s.dp.atoms.filter (fun a => s.owns a.ground && a.placed)
    let s := s.each l (fun s a =>
      match s.write? a.writeId with
      | none => s
      | some w =>
        let r := s.sendResync (s.frameOf w a)
        r.1.modAtom a.writeId a.atom (fun x => { x with mseq := r.2 }))
    s.syncBacklog

/-- The frames of this head that the partner head no longer acknowledges are gone: atoms that no acknowledgement covered are uncovered (R92, R134). -/
def State.dropFrames (s : State) : State :=
  let open_ := fun (a : BufAtom) => decide (a.mseq ≠ 0) && !(s.frameAcked a.motif a.mseq)
  let s := s.modDp (fun d => { d with atoms := mapWhere open_ (fun a => { a with mseq := 0 }) d.atoms })
  let empty := fun (b : BrideGroup) => { b with unacked := [], waiting := [] }
  (s.modPair (fun p => { p with rejoin := false, named := none, groups := p.groups.map empty })).syncBacklog

/-- The partner head's copies are gone with it: nothing is covered any more. -/
def State.uncover (s : State) : State :=
  s.dropFrames.modDp (fun d => { d with atoms := d.atoms.map (fun a => { a with mseq := 0 }) })

/-! ## Handover -/

/-- The commands of PF0 fetched on a ground and not complete (R373), a Flush of every namespace among them while it waits for atoms of the ground. -/
def State.pf0Busy (s : State) (g : Nat) : Bool :=
  s.hq.cmds.any (fun k => k.id.ctl == s.pf0Id && ((match s.ns k.nsid with | some n => n.ground == g | none => false) || (match k.kind with
    | .flush l => s.dp.atoms.any (fun a => a.ground == g && l.contains (a.writeId, a.atom))
    | _ => false)))

/-- A planned handover starts (R128): the ground is HANDING. Packets that arrive for it are held; commands through a queue draw 0x1406 as Asymmetric Access Transition (R365). -/
def State.beginHanding (s : State) (g why : Nat) : State :=
  (s.setGroundState g 3).modPair (fun p => { p with handing := some g, handWhy := why, asked := false })

/-- A ground that is HANDING stays with this head: it is OWNER again, and the packets held for it go on (R131). -/
def State.keepGround (s : State) (g : Nat) : State :=
  if s.groundState g ≠ 3 then s
  else
    let mine := fun (p : Packet × BadPages) => match s.conn p.1.hdr.conn with | some c => decide (c.desc.ground = g) | none => true
    let l := s.net.held.filter mine
    let s := (s.setGroundState g 1).modNet (fun n => { n with held := n.held.filter (fun p => !l.contains p) })
    s.each l (fun s p => s.recvPacket p.1 p.2)

/-- The next ground of the queue is handed over once none is. -/
def State.startNext (s : State) (why : Nat) : State :=
  if s.pair.handing.isSome then s
  else match s.pair.handQueue with
    | [] => s
    | g :: t =>
      let s := s.modPair (fun p => { p with handQueue := t })
      if s.groundState g = 1 then s.beginHanding g why else s

/-- CLM_HANDOVER ends with a status word. -/
def State.endHandoverCmd (s : State) (status : Nat) : State :=
  ((s.setFld F.CLM_HANDOVER_GO 0).setFld F.CLM_HANDOVER_BUSY 0).setFld F.CLM_HANDOVER_STATUS status

/-- No MIRROR frame of a ground is unacknowledged or waits (R128 step 2). -/
def State.mirrorsAcked (s : State) (g : Nat) : Bool :=
  let isIt := fun (p : BridePay) => match p with
    | .mirror f => f.ground == g
    | .resync f => f.ground == g
    | .train _ => false
    | .record _ => false
    | .haves _ => false
    | .handover _ _ _ _ => false
  !(s.pair.groups.any (fun b => b.unacked.any (fun f => isIt f.2) || b.waiting.any isIt))

/-- CONN, QPOS and TWIN entries of a ground changed since the last record (R128). -/
def State.handEntries (s : State) (g : Nat) : List RecEntry :=
  let l := (s.net.conns.filter (fun c => c.desc.ground == g)).flatMap connEntry ++
    s.qposEntries.filter (fun e => match e with | .qpos x _ _ _ => x == g | _ => false)
  l.filter (fun e => !s.pair.sent.contains e)

/-- A HANDOVER frame goes on the lowest group that is up. -/
def State.sendHandover (s : State) (g step claim : Nat) (l : List RecEntry) : State :=
  match s.upGroups with
  | [] => s
  | x :: _ => s.sendOn x (.handover g step claim l)

/-- A run of moved grounds has ended (R462): its OWNERSHIP record. -/
def State.endRun (s : State) : State :=
  (s.sampleOwnership s.pair.movedKind s.pair.moved).modPair (fun p => { p with moved := [], movedKind := 0 })

/-- A ground has moved with an OWNERSHIP kind; a run of another kind ends first. -/
def State.noteMoved (s : State) (g kind : Nat) : State :=
  let s := if s.pair.movedKind = kind then s else s.endRun
  s.modPair (fun p => { p with moved := p.moved ++ [g], movedKind := kind })

/-! ## Entries received -/

/-- DROP_APPLY (R118): the mirror copies of a motif and ground up to an MSEQ are dropped; what is left of their writes is known to be complete. -/
def State.applyDrop (s : State) (m g mseq : Nat) : State :=
  let goes := fun (c : HeldAtom) => c.frame.motif == m && c.frame.ground == g && decide (c.frame.mseq ≤ mseq)
  let gone := s.dp.copies.filter goes
  s.modDp (fun d => { d with copies := mapWhere (fun c => gone.any (sameWrite c)) (fun c => { c with done := true }) (d.copies.filter (fun c => !goes c)) })

/-- An entry of the partner head's record applied; each is kept as its last value. -/
def State.applyEntry (s : State) (e : RecEntry) : State :=
  let s := s.modPair (fun p => { p with theirs := putEntries p.theirs [e] })
  match e with
  | .drop m g q => s.applyDrop m g q
  | .claim g c => if s.owns g ∨ c ≤ s.claimOf g then s else s.setClaimOf g c
  | .conn id _ acked => s.modConn id (fun c => if c.state = .shadow then { c with acked := laterSeq c.acked acked } else c)
  | .ground _ _ _ => s
  | .qpos _ _ _ _ => s
  | .cache _ _ _ => s
  | .journal _ _ _ => s
  | .twin _ _ => s

/-- A connection of the partner head as its SHADOW copy, by a CONN record (R308, R309). -/
def State.shadowRec (s : State) (id : Nat) (d : ConnDesc) (what : Nat) : State :=
  match s.conn id with
  | some c =>
    if c.state ≠ .shadow then s
    else if what = 0 then s.modNet (fun n => { n with conns := n.conns.filter (fun x => x.id != id) })
    else s.modConn id (fun c => { c with desc := d })
  | none =>
    if what = 0 then s
    else
      let c := { Conn.build d id (id % 2 ^ 24 % 8) 0 0 false with state := .shadow }
      s.modNet (fun n => { n with conns := n.conns ++ [c] })

/-- The records of a JOURNAL frame applied at the standby (R233, R239, R308): a whole transaction, durable with the owner. MODSTATE makes a module FAILED here too (R267). -/
def State.applyJournal (s : State) (recs : List JRec) : State :=
  let s := s.modMed (fun d => { d with maps := d.maps.applyTxn recs, ckpt := d.ckpt.applyTxn recs })
  s.each recs (fun s r =>
    match r with
    | .conn id d what => s.shadowRec id d what
    | .modState i ms =>
      if ms.role = 3 then s.moduleFail i ms.cause []
      else ((s.setFld F.ECU_MOD_ROLE ms.role 0 i).setFld F.ECU_MOD_FD ms.fd 0 i).setFld F.ECU_MOD_CAUSE ms.cause 0 i
    | _ => s)

/-- A MIRROR or RESYNC frame kept by the standby (R117, R118): the largest OP_SEQ and ACK_SEQ of its connection, the RESULT of an atomic, the atom in place of an earlier copy of it (R135),
and journal records once their transaction is there whole. -/
def State.keepFrame (s : State) (f : MirrorFrame) : State :=
  if f.journal then (if f.last then s.applyJournal f.recs else s)
  else
    let s := s.modConn f.conn (fun c => if c.state = .shadow then { c with acked := laterSeq c.acked f.ackSeq, held := laterSeq c.held f.opSeq } else c)
    if f.atomic then s.modConn f.conn (fun c => { c with atomics := c.atomics.filter (fun a => a.1 != f.opSeq) ++ [(f.opSeq, f.result)] })
    else
      let mine := fun (c : HeldAtom) => sameWrite c ⟨f, false⟩
      let done := s.dp.copies.any (fun c => mine c && c.done)
      let s := s.modDp (fun d => { d with copies := d.copies.filter (fun c => !(mine c && c.frame.nsid == f.nsid && c.frame.atom == f.atom)) ++ [⟨f, done⟩] })
      s.recount.syncAdmit

end Sys2Proof.Machine
end

