-- ==== Sys2Proof/Machine/Bride.lean ====
section
/-! DEFINITION. The bride link and pairing (spec/05): lanes and training, frames, the stitch record, fault detection and takeover, mirroring, planned handover. -/

namespace Sys2Proof.Machine

/-! ## Sections of the pricking in force -/

/-- The CLASS, SCHED and GROUND sections in force taken up: class reservations, slots 6 to 63, the ground map (R75, R77, R79, R87). -/
def State.installPart (s : State) : State :=
  let p := s.activePart
  let s := s.each (List.range 4) (fun s c => s.setFld F.PKG_ADMIT_CLS_RESV_MIB (p.resv.getD c default).admitMib 0 c)
  let s := s.fixSlots.each ((List.range 58).map (fun i => i + 6)) (fun s i =>
    match p.sched.find? (fun e => e.slot == i) with
    | none => (s.setReg .STC_SLOT_C 0 i 0).setReg .STC_SLOT_T 0 i 0
    | some e =>
      let s := ((s.setFld F.STC_SLOT_C_EN 1 0 i).setFld F.STC_SLOT_C_ACTION e.action 0 i).setFld F.STC_SLOT_C_PHASE e.phase 0 i
      ((s.setFld F.STC_SLOT_C_ARG e.arg 0 i).setFld F.STC_SLOT_T_PERIOD e.period 0 i).setFld F.STC_SLOT_T_OFFSET e.offset 0 i)
  s.syncGrounds.syncAdmit

/-- PAIR_HASH and ACCEPT_HASH of the pricking. -/
def State.pairHashes (s : State) : Bytes × Bytes := match s.prk with | some p => (p.pairHash, p.acceptHash) | none => (zeros 48, zeros 48)

/-! ## Training -/

/-- The TRAIN_ID that this head sends on a group (R113); `clock` is its fabric-clock count. -/
def State.ownTrain (s : State) (group clock : Nat) : TrainId :=
  { hwType := s.fld F.PKG_ID_HW_TYPE, motifs := s.fuses.caps.motifs, opts := s.fuses.caps.optBits, headId := s.headId, mode := s.mode,
    unitId := s.fuses.unitId, pairHash := s.pairHashes.1, acceptHash := s.pairHashes.2, probeTx := clock % 2 ^ 32, probeEcho := (s.group group).probe }

/-- The groups that are down, enabled, and have a lane that passes. -/
def State.trainable (s : State) (pass : List Nat) : List Nat :=
  s.motifs.filter (fun m => bit (s.fld F.BRD_CTL_GROUP_EN) m && !(s.groupUp m) && decide (trainLanes (pass.getD m 0) ≠ 0))

/-- The frames that a group still holds, oldest first; an old TRAIN_ID is of no use. -/
def BrideGroup.heldFrames (b : BrideGroup) : List BridePay := (b.unacked.map (fun f => f.2) ++ b.waiting).filter (fun p => decide (p.type ≠ 1))

/-- The frames of a group that went down cross to the lowest group that is up (R110); with none up they stay. -/
def State.moveFrames (s : State) (g : Nat) : State :=
  let l := (s.group g).heldFrames
  match s.upGroups with
  | [] => s
  | x :: _ =>
    let s := s.modGroup g (fun b => { b with unacked := [], waiting := [] })
    s.each l (fun s p => s.sendOn x p)

/-- Training (R110, R111): each group that is down comes up at the widest width at which its lanes pass, with its sequences begun anew, sends
TRAIN_ID, and after it the frames that it still held. `pass` gives the lanes that pass, by motif; `clock` is the fabric-clock count. No port comes up while Winding is stopped (R85). -/
def State.trainBride (s : State) (pass : List Nat) (clock : Nat) : State :=
  if s.txOff || s.flag F.PKG_WIND_STOPPED then s.setFld F.BRD_CTL_RETRAIN 0
  else
    let was := s.flag F.BRD_ST_LINK_UP
    let l := s.trainable pass
    let held := l.map (fun m => (m, (s.group m).heldFrames))
    let s := (s.setFld F.BRD_PARTNER_VALID 0).setFld F.BRD_CTL_RETRAIN 0
    let s := s.each l (fun s m => s.modGroup m (fun _ => { (default : BrideGroup) with lanes := trainLanes (pass.getD m 0) }))
    let s := (s.each l (fun s m => s.transmit m (.train (s.ownTrain m clock)))).syncBride
    let s := s.each held (fun s h => s.each h.2 (fun s p => s.sendOn h.1 p))
    let s := s.each (s.motifs.filter (fun m => !(s.groupUp m))) State.moveFrames
    if was then s
    else if l.isEmpty then s.setFld F.BRD_ST_STATE 0
    else
      let s := ((s.setFld F.BRD_ST_LINK_UP 1).setEvt F.BRD_EVT_LINK_UP).setFld F.BRD_ST_STATE 2
      s.modPair (fun p => { p with sent := [] })

/-- PAIR_RELATION (R87) to a partner head: 1 EQUAL, 2 BRIDGE_NEWER, 3 BRIDGE_OLDER, 4 REFUSED. A head in service never takes up prior sections. -/
def State.relationTo (s : State) (t : TrainId) : Nat :=
  let own := s.pairHashes
  let newer := !(allZero own.2) && own.2 == t.pairHash
  let older := !(allZero t.acceptHash) && t.acceptHash == own.1
  if own.1 = t.pairHash then 1
  else if newer && !older then (if s.mode = 0 ∨ s.flag F.PRK_PAIR_ST_PRIOR_ACTIVE then 2 else 4)
  else if older && !newer then 3
  else 4

/-- Pairing is refused with a status word (R111): BRD_ST.STATE reads REFUSED. -/
def State.refusePairing (s : State) (code : Nat) : State :=
  ((s.setFld F.BRD_ST_STATE 5).setEvt F.BRD_EVT_REFUSED).modPair (fun p => { p with refusal := code })

/-- Half of the round trip from a PROBE_TX to its echo, in ns (R113): a fabric clock is 0.625 ns. -/
def probeNs (now echo : Nat) : Nat := (now % 2 ^ 32 + 2 ^ 32 - echo % 2 ^ 32) % 2 ^ 32 * 5 / 16

/-- A TRAIN_ID noted (R111, R113): the partner head, its probe, and the latency where it echoes a probe of this head. One that echoes none is answered with a TRAIN_ID that echoes it
(log 78). `now` is the fabric-clock count. -/
def State.noteTrain (s : State) (group now : Nat) (t : TrainId) : State :=
  let s := (((s.setFld F.BRD_PARTNER_HW_TYPE t.hwType).setFld F.BRD_PARTNER_MOTIFS t.motifs).setFld F.BRD_PARTNER_OPTS t.opts).setFld F.BRD_PARTNER_HEAD_ID t.headId
  let s := (s.setFld F.BRD_PARTNER_VALID 1).modPair (fun p => { p with partnerId := some t })
  let s := s.modGroup group (fun b => { b with probe := t.probeTx })
  if t.probeEcho = 0 then s.transmit group (.train (s.ownTrain group now))
  else if group = 0 then s.setFld F.BRD_LAT_LAT_NS (min (probeNs now t.probeEcho) 0xFFFF)
  else s

/-- What a partner head's TRAIN_ID decides in EXCHANGE (R87, R111): the heads pair, or pairing is refused, or Winding stops. REL is set by the hashes alone. -/
def State.decidePairing (s : State) (t : TrainId) : State :=
  if t.headId = s.headId then (if s.mode = 0 then s.windStop 0x2302 else s)
  else
    let rel := s.relationTo t
    let s := s.setFld F.PRK_PAIR_ST_REL rel
    if t.hwType ≠ s.fld F.PKG_ID_HW_TYPE ∨ t.motifs ≠ s.fuses.caps.motifs ∨ t.opts ≠ s.fuses.caps.optBits then s.refusePairing 0x2301
    else if rel = 4 then s.refusePairing 0x2303
    else
      let s := if rel = 2 ∧ s.mode = 0 then (s.setFld F.PRK_PAIR_ST_PRIOR_ACTIVE 1).installPart else s
      s.setFld F.BRD_ST_STATE 3

/-- Pairing is decided by the TRAIN_ID at hand: at step 9 and in service; a head whose step 9 ended unpaired decides it once its step 14 has ended (R95). -/
def State.pairNow (s : State) : State :=
  if s.fld F.BRD_ST_STATE = 2 && s.flag F.BRD_PARTNER_VALID && (s.inStep 9 || s.inService) then
    match s.pair.partnerId with
    | some t => s.decidePairing t
    | none => s
  else s

/-- A head in Winding steps 10 to 14 goes on trying to train (R95). -/
def State.lateWinding (s : State) : Bool :=
  decide (s.mode = 0) && !(s.flag F.PKG_WIND_STOPPED) && decide (10 ≤ s.fld F.PKG_WIND_STEP) && decide (s.fld F.PKG_WIND_STEP ≤ 14)

/-- BRIDE_RETRAIN_TIMER (R95, R110): while the link is down, training is tried every 100 ms, in service and in Winding steps 10 to 14. -/
def execBrideRetrainTimer (pass : List Nat) (clock : Nat) (s : State) : Host.Outcome State Fault Refusal :=
  live s (fun s => if s.flag F.BRD_ST_LINK_UP ∨ ¬ (s.inService || s.lateWinding) then s else s.trainBride pass clock)

/-- A write of BRD_CTL; RETRAIN retrains every group that is down, and a group that GROUP_EN no longer lets be used goes down, its frames crossing to another. -/
def State.writeBrdCtl (s : State) (value : Nat) (pass : List Nat) (clock : Nat) : State :=
  let s := s.softWrite .BRD_CTL 0 0 value
  let off := s.upGroups.filter (fun m => !(bit (s.fld F.BRD_CTL_GROUP_EN) m))
  let s := ((s.each off (fun s m => s.modGroup m (fun b => { b with lanes := 0 }))).syncBride).each off State.moveFrames
  if s.flag F.BRD_CTL_RETRAIN then s.trainBride pass clock else s

/-- BRD_RETRAIN (R110): a write of BRD_CTL. -/
def execBrdRetrain (value : Nat) (pass : List Nat) (clock : Nat) (s : State) : Host.Outcome State Fault Refusal :=
  live s (fun s => s.writeBrdCtl value pass clock)

/-- BRIDE_LANE_FAIL (R110): a lane of a group fails; the group goes on at the next narrower width and replays what is in flight. -/
def execBrideLaneFail (group lane : Nat) (s : State) : Host.Outcome State Fault Refusal :=
  live s (fun s =>
    if s.groupUp group && bit (s.group group).lanes lane then
      let s := s.modGroup group (fun b => { b with lanes := dropLane b.lanes lane })
      let s := ((s.bump F.BRD_CNT_LANE_FAIL).setEvt F.BRD_EVT_LANE_FAIL).syncBride
      if s.groupUp group then s.replay group else s.moveFrames group
    else s)

/-! ## Losing the partner head -/

/-- BRIDE_FOLLOW ends in FREE once the partner head cannot be followed (R56). -/
def State.endFollow (s : State) : State := if s.fld F.STC_ST_STATE = 4 then s.setFld F.STC_ST_STATE 5 else s

/-- The grounds that the partner head owned: STANDBY here. -/
def State.standbyGrounds (s : State) : List Nat := (List.range 256).filter (fun g => s.groundState g == 2)

/-- What a change of mode needs after it: grounds, admission and completions brought in step. -/
def State.settleMode (s : State) : State := (s.syncGrounds.settleWrites).admitWaiting.runWaiting []

/-- A Rethread ends without its warm reset because the partner head is lost or cannot be reached (R99): the grounds in `gs` are taken back with a claim
raise, under R125 since the partner head has not mirrored; the commit fails with 0x4206, Solo with a cause. -/
def State.cancelRethread (s : State) (cause : Nat) (gs : List Nat) (log : List StageEnt) (ctrls : List Ctrl) : State :=
  let s := s.modPair (fun p => { p with gone := [], handQueue := [] })
  ((((s.failRethread 0x4206).goSolo cause).uncover).beginTaking gs log ctrls).settleMode

/-- Step 12 is repeated when the partner head is lost before step 14 has ended (R495 case 3). -/
def State.repeatRecovery (s : State) : State :=
  if s.inStep 13 ∨ s.inStep 14 then s.setFld F.PKG_WIND_STEP 12 else s

/-- PARTNER_FAULT_DETECT (R121) and TAKEOVER (R125, R126): `log` is what the partner head's staging journals hold, `ctrls` its fabrics controllers. A partner head that this head was Paired
with mirrored to it as long as the link was up; any other did not. -/
def State.partnerFault (s : State) (log : List StageEnt) (ctrls : List Ctrl) : State :=
  let s := (s.setEvt F.BRD_EVT_FAULT_DETECT).modPair (fun p => { p with last := none, prev := none, partnerId := none })
  let gs := s.standbyGrounds
  match s.mode with
  | 1 =>
    if s.flag F.BRD_ST_LINK_UP then (s.takeOver gs ctrls (fun s => (s.goSolo 5).uncover)).settleMode
    else (((s.goSolo 5).uncover).beginTaking gs log ctrls).settleMode
  | 2 => ((s.uncover).beginTaking gs log ctrls).settleMode
  | 3 => s.cancelRethread 5 gs log ctrls
  | 0 => s.repeatRecovery
  | _ => s

/-- BRIDE_DOWN_SOLO (R134): the partner head is alive and not heard; neither head takes over. -/
def State.brideDownSolo (s : State) (log : List StageEnt) (ctrls : List Ctrl) : State :=
  match s.mode with
  | 1 => (s.goSolo 4).settleMode
  | 3 => s.cancelRethread 4 (s.pair.gone.filter (fun g => s.groundState g == 2)) log ctrls
  | 0 => s.repeatRecovery
  | _ => s

/-- RECORD_MISSING (R114, R121): at phase 300 the stitch's record is not whole. -/
def execRecordMissing (log : List StageEnt) (ctrls : List Ctrl) (s : State) : Host.Outcome State Fault Refusal :=
  live s (fun s =>
    if s.mode = 4 ∨ s.mode = 5 ∨ 300 < s.stc.phase ∨ s.pair.gotStitch = some s.num then s
    else
      let s := ((s.atPhase 300).bump F.BRD_CNT_REC_MISS).setEvt F.BRD_EVT_REC_MISS
      let s := s.bump F.BRD_ST_MISS_RUN
      if s.fld F.BRD_ST_MISS_RUN < 2 then s
      else
        let s := s.endFollow
        if s.flag F.BRD_ST_HALIVE_IN then s.brideDownSolo log ctrls
        else if s.pair.last.isSome then s.partnerFault log ctrls
        else s)

/-- BRIDE_LINK_DOWN (R110, R134): no group has been up for 2 µs. -/
def execBrideLinkDown (log : List StageEnt) (ctrls : List Ctrl) (s : State) : Host.Outcome State Fault Refusal :=
  live s (fun s =>
    if s.flag F.BRD_ST_LINK_UP && s.upGroups.isEmpty then
      let s := ((s.setFld F.BRD_ST_LINK_UP 0).setFld F.BRD_ST_STATE 0).setEvt F.BRD_EVT_LINK_DOWN
      let s := (s.dropFrames).endFollow
      if s.flag F.BRD_ST_HALIVE_IN then s.brideDownSolo log ctrls else s
    else s)

/-- HALIVE_IN_CHANGE (R120): the filtered level of HALIVE_IN; a loss counts at the next phase 300. -/
def execHaliveInChange (level : Bool) (s : State) : Host.Outcome State Fault Refusal := live s (fun s => s.setFld F.BRD_ST_HALIVE_IN (b2n level))

/-! ## Frames -/

/-- A sequenced frame received, with what its ACKSEQ lets complete. -/
def State.received (s : State) (h : BrideHdr) (f : State → State) : State := ((s.onFrame h f).settleWrites.runWaiting []).syncBacklog

/-- TRAIN_ID_RECEIVE (R111, R113), at a fabric-clock count. A head pairs at its step 9 or once it is in service (R95). -/
def execTrainIdReceive (h : BrideHdr) (now : Nat) (t : TrainId) (s : State) : Host.Outcome State Fault Refusal :=
  live s (fun s => if s.inStep 9 || s.lateWinding || s.inService then s.received h (fun s => (s.noteTrain h.group now t).pairNow) else s)

/-- The SEQ that the next frame of a group must carry: NAK (7) and IDLE (8) repeat the last one (R112). -/
def BrideGroup.expects (b : BrideGroup) (type : Nat) : Nat := if type = 7 ∨ type = 8 then b.rxSeq else nextSeq b.rxSeq

/-- BRIDE_FRAME_ERROR (R113): the bytes of a frame whose CRC or SEQ is not as it must be are discarded, and NAK is sent. -/
def execBrideFrameError (group : Nat) (frame : Bytes) (s : State) : Host.Outcome State Fault Refusal :=
  live s (fun s =>
    if ¬ s.groupUp group then s
    else if ¬ frameCrcOk frame then (s.bump F.BRD_CNT_CRC_ERR).sendNak group
    else if frameSeq frame ≠ (s.group group).expects (byteAt frame 0) then s.sendNak group
    else s)

/-- NAK_RECEIVE (R113): replay from ACKSEQ + 1. -/
def execNakReceive (h : BrideHdr) (s : State) : Host.Outcome State Fault Refusal :=
  live s (fun s => if s.groupUp h.group then (((s.takeAck h.group h.ack).replay h.group).settleWrites.runWaiting []).syncBacklog else s)

/-- ACK_STALL_TIMEOUT (R113): ACKSEQ has not advanced for 2 µs. -/
def execAckStallTimeout (group : Nat) (s : State) : Host.Outcome State Fault Refusal :=
  live s (fun s => if s.groupUp group then s.replay group else s)

/-- IDLE_SEND (R113): nothing else to send for 500 ns. -/
def execIdleSend (group : Nat) (s : State) : Host.Outcome State Fault Refusal :=
  live s (fun s => if s.groupUp group ∧ (s.group group).waiting.isEmpty then s.emit (.bride group (s.bareFrame group 8)) else s)

/-- IDLE_RECEIVE (R112): the ACKSEQ of an IDLE frame. -/
def execIdleReceive (h : BrideHdr) (s : State) : Host.Outcome State Fault Refusal :=
  live s (fun s => if s.groupUp h.group then ((s.takeAck h.group h.ack).settleWrites.runWaiting []).syncBacklog else s)

/-- MIRROR_RECEIVE (R117, R118). -/
def execMirrorReceive (h : BrideHdr) (f : MirrorFrame) (s : State) : Host.Outcome State Fault Refusal :=
  live s (fun s => s.received h (fun s => if s.owns f.ground then s else s.keepFrame f))

/-- RESYNC_RECEIVE (R135). -/
def execResyncReceive (h : BrideHdr) (f : MirrorFrame) (s : State) : Host.Outcome State Fault Refusal :=
  live s (fun s => s.received h (fun s => if s.owns f.ground then s else s.keepFrame f))

/-- A HAVE token (R132): its write, where it is held, may complete; else the token waits for it. -/
def State.takeHave (s : State) (e : HaveEntry) : State :=
  let isIt := fun (w : Write) => w.twin == some (e.conn, e.seq)
  if s.dp.writes.any isIt then s.modDp (fun d => { d with writes := mapWhere isIt (fun w => { w with gotHave := true }) d.writes })
  else s.modNet (fun n => { n with haves := n.haves ++ [e] })

/-- HAVE_RECEIVE (R132). -/
def execHaveReceive (h : BrideHdr) (l : List HaveEntry) (s : State) : Host.Outcome State Fault Refusal :=
  live s (fun s => s.received h (fun s => s.each l State.takeHave))

/-! ## The stitch record -/

/-- REC_SNAP (R59): slot 0. -/
def execRecSnap (overrun : Bool) (s : State) : Host.Outcome State Fault Refusal := live s (fun s => s.slotFire 0 1 overrun (fun s _ => s.snapRecord))

/-- REC_SEND (R114): slot 1, never skipped (R61). `endPhase` is the phase at which the record is wholly sent. -/
def execRecSend (endPhase : Nat) (s : State) : Host.Outcome State Fault Refusal :=
  live s (fun s => s.slotFire 1 2 false (fun s _ =>
    match s.pair.snap with
    | none => s
    | some r => (if 200 < endPhase then s.bump F.STC_CNT_LATE_REC else s).sendRecord r))

/-- CLAIM_KEEPALIVE (R125): slot 5 sends the claim of each owned ground to its modules. -/
def execClaimKeepalive (overrun : Bool) (s : State) : Host.Outcome State Fault Refusal :=
  live s (fun s => s.slotFire 5 6 overrun (fun s _ =>
    s.each s.ownedGrounds (fun s g => s.each ((s.bob.modules.map (fun m => m.idx)).filter s.modUsable) (fun s i =>
      (s.emit (.claimSet i g (s.claimOf g) true)).sendCmd { BobCmd.to i 0x20 1 g .keepAlive with claim := s.claimOf g }))))

/-- The pair skew of a record that arrives at a phase, in phase units (R55). -/
def State.skewOf (s : State) (r : Record) (phase : Nat) : Int :=
  ((1000 * r.stitch + r.txPhase + s.fld F.BRD_LAT_LAT_NS / 5 : Nat) : Int) - ((1000 * s.num + phase : Nat) : Int)

/-- A state that is LOCKED or a BRIDE state (R55). -/
def lockedOrBride (st : Nat) : Bool := decide (st = 1) || decide (st = 3) || decide (st = 4)

/-- PAIR_MISMATCH (R55): the second record in a row that does not agree. -/
def State.pairMismatch (s : State) (skew : Int) : State :=
  let s := s.setEvt F.STC_EVT_PAIR_MISMATCH
  if s.headId ≠ 1 then s
  else
    let s := (s.enterBride 4).setFld F.STC_ST_MISMATCH_HOLD 1
    if s.mode = 0 then s.adoptTime skew none else s

/-- What the times of a record do (R54 to R57). -/
def State.judgeSkew (s : State) (r : Record) (phase : Nat) : State :=
  let k := s.skewOf r phase
  let st := s.fld F.STC_ST_STATE
  let near := decide (-20 ≤ k) && decide (k ≤ 20)
  let limit : Int := if lockedOrBride st && lockedOrBride r.stcState then 20 else 500
  let agrees := decide (-limit ≤ k) && decide (k ≤ limit)
  let s := s.setSfld F.STC_ST_PAIR_SKEW k
  let was := s.stc.disagreePair
  let s := s.setFld F.STC_ST_PAIR_OK (b2n (agrees && decide (was = 0) && s.pair.prev.isSome))
  let s := s.modStc (fun c => { c with skew := k, disagreePair := if agrees then 0 else was + 1, agreePair := if near then c.agreePair + 1 else 0 })
  let s := if ¬ agrees ∧ 1 ≤ was then s.pairMismatch k else s
  let s := if s.fld F.STC_ST_STATE = 3 ∧ r.stcState = 1 then s.enterBride 4 else s
  let s := if s.fld F.STC_ST_STATE = 4 then s.setSfld F.STC_ST_PH_ERR (chooseOffset (s.skewOf r phase)).2 else s
  s.syncPicot

/-- What the HALIVE flag of an on-time record does (R121). -/
def State.judgeHalive (s : State) (r : Record) : State :=
  if r.halive = s.flag F.BRD_ST_HALIVE_IN then (s.modPair (fun p => { p with haRun := 0 })).setFld F.BRD_ST_HA_MISMATCH 0
  else
    let s := s.modPair (fun p => { p with haRun := p.haRun + 1 })
    if 2 ≤ s.pair.haRun then (s.setFld F.BRD_ST_HA_MISMATCH 1).setEvt F.BRD_EVT_HA_MISMATCH else s

/-- The named stitch that a record carries, while it has not passed. -/
def State.takeNamed (s : State) (r : Record) : State :=
  if r.named ∧ s.num < r.namedStitch then (s.setFld F.BRD_NAMED_STITCH r.namedStitch).modPair (fun p => { p with named := some r.namedStitch }) else s

/-- The partner head's mode as its record shows it: PARTNER_MODE; Vault makes a Paired head Solo (R99); of two Rethreads begun in one stitch the lower head ID's goes on
(R100); a partner head that asserts head-alive in Winding, or is Solo as this head is, has resynchronisation started (R135). -/
def State.judgeMode (s : State) (r : Record) : State :=
  let was := s.fld F.PKG_MODE_PARTNER_MODE
  let left := match s.pair.prev with
    | some q => decide (1 ≤ q.mode) && decide (q.mode ≤ 3) && !(decide (1 ≤ r.mode) && decide (r.mode ≤ 3))
    | none => false
  let s := if s.mode = 5 ∨ was = r.mode then s else (s.setFld F.PKG_MODE_PARTNER_MODE r.mode).setEvt F.PKG_MODE_EV_PARTNER_CHANGE
  let s := if left then s.endFollow else s
  let s : State := if r.rethread ∧ s.mode = 3 ∧ s.headId = 1 ∧ s.pair.gone = [] then
      (((s.each s.ownedGrounds State.keepGround).modPair (fun p => { p with handing := none, handQueue := [] })).failRethread 0x2204).goPaired
    else s
  if r.mode = 4 ∧ s.mode = 1 then (s.goSolo 6).settleMode
  else if s.mode = 2 ∧ s.fld F.BRD_ST_STATE = 3 ∧ ((r.mode = 0 ∧ r.halive) ∨ r.mode = 2) then s.startResync
  else s

/-- RECORD_APPLY (R114): a whole record that arrives at a phase; one that is late counts as missing all the same. -/
def State.applyRecord (s : State) (r : Record) (phase : Nat) (late : Bool) : State :=
  let s := s.modPair (fun p => { p with prev := p.last, last := some r })
  let s := if late then s
    else ((s.modPair (fun p => { p with gotStitch := some s.num })).setFld F.BRD_ST_MISS_RUN 0).judgeHalive r
  let s := (s.judgeSkew r phase).takeNamed r
  let s := s.modDp (fun d => { d with partnerLimit := r.mirrorLimit })
  let s := s.each r.entries State.applyEntry
  (s.judgeMode r).recount.syncAdmit.admitWaiting

/-- A part of a record kept: the first copy of each (R114). -/
def State.keepPart (s : State) (r : Record) : State :=
  let same := fun (x : Record) => x.stitch == r.stitch && x.part == r.part
  if r.parts ≤ r.part ∨ s.pair.parts.any same then s else s.modPair (fun p => { p with parts := p.parts ++ [r] })

/-- The record of a part's stitch once every part of it is held, its entries in the order of the parts. -/
def State.wholeRecord (s : State) (stitch : Nat) : Option Record :=
  let l := s.pair.parts.filter (fun x => x.stitch == stitch)
  match l with
  | [] => none
  | r :: _ =>
    let at_ := fun i => l.find? (fun x => x.part == i)
    if (List.range r.parts).all (fun i => (at_ i).isSome) then
      some { r with part := 0, entries := (List.range r.parts).flatMap (fun i => match at_ i with | some x => x.entries | none => []) }
    else none

/-- A part that has come: the record is applied once it is whole, and the parts up to its stitch are done with. -/
def State.takePart (s : State) (r : Record) (phase : Nat) (late : Bool) : State :=
  let s := s.keepPart r
  match s.wholeRecord r.stitch with
  | none => s
  | some x =>
    let s := s.modPair (fun p => { p with parts := p.parts.filter (fun y => decide (r.stitch < y.stitch)) })
    if s.paired && decide (s.mode ≠ 5) then (s.atPhase (phase % 1000)).applyRecord x (phase % 1000) late else s

/-- RECORD_RECEIVE (R114): frames arrive, each with a part of a record; what has come of a record that is not whole is held. -/
def execRecordReceive (frames : List (BrideHdr × Record)) (phase : Nat) (late : Bool) (s : State) : Host.Outcome State Fault Refusal :=
  live s (fun s =>
    let s := s.each frames (fun s f => s.onFrame f.1 (fun s => s.takePart f.2 phase late))
    (s.settleWrites.runWaiting []).syncBacklog)

/-! ## Planned handover -/

/-- A write of CLM_HANDOVER (R130). -/
def State.writeHandover (s : State) (value : Nat) : State :=
  let busy := s.pair.handing.isSome || !(s.pair.handQueue.isEmpty)
  if bit value 31 && busy then s.setFld F.CLM_HANDOVER_STATUS 0x1307
  else
    let s := s.softWrite .CLM_HANDOVER 0 0 value
    let g := s.fld F.CLM_HANDOVER_GROUND
    if ¬ bit value 31 then s
    else if s.mode ≠ 1 ∨ s.groundState g ≠ 1 then s.endHandoverCmd 0x2306
    else if s.upGroups.isEmpty then s.endHandoverCmd 0x4308
    else (s.setFld F.CLM_HANDOVER_BUSY 1).beginHanding g 1

/-- CLM_HANDOVER_GO (R130): a write of CLM_HANDOVER. -/
def execClmHandoverGo (value : Nat) (s : State) : Host.Outcome State Fault Refusal := live s (fun s => s.writeHandover value)

/-- HANDOVER_REQUEST_SEND (R128 step 2): ACKSEQ covers the ground's MIRROR frames. The commands of PF0 fetched before a Rethread end first (R373). -/
def execHandoverRequestSend (s : State) : Host.Outcome State Fault Refusal :=
  live s (fun s =>
    match s.pair.handing with
    | none => s
    | some g =>
      if s.pair.asked || decide (s.groundState g ≠ 3) || s.upGroups.isEmpty || !(s.mirrorsAcked g) || (decide (s.mode = 3) && s.pf0Busy g) then s
      else (s.sendHandover g 1 (s.claimOf g) (s.handEntries g)).modPair (fun p => { p with asked := true }))

/-- HANDOVER_REQUEST_RECEIVE (R128 step 3): the claim is raised above the one the REQUEST carries, the ground is active here, CLAIMED is sent. `ctrls` are the
ground's fabrics controllers. -/
def execHandoverRequestReceive (h : BrideHdr) (g claim : Nat) (entries : List RecEntry) (ctrls : List Ctrl) (s : State) :
    Host.Outcome State Fault Refusal :=
  live s (fun s => s.received h (fun s =>
    if s.groundState g ≠ 2 then s
    else
      let s := ((s.setGroundState g 4).each entries State.applyEntry).raiseAbove g (max claim (s.knownClaim g)) false
      let s := ((s.activateGround g [] ctrls).syncGrounds).admitWaiting
      s.sendHandover g 2 (s.claimOf g) []))

/-- HANDOVER_CLAIMED_RECEIVE (R128 step 4). -/
def execHandoverClaimedReceive (h : BrideHdr) (g claim : Nat) (s : State) : Host.Outcome State Fault Refusal :=
  live s (fun s => s.received h (fun s =>
    if s.pair.handing ≠ some g ∨ s.groundState g ≠ 3 then s
    else
      let why := s.pair.handWhy
      let s := (((s.leaveGround g 2).setClaimOf g claim).sendHandover g 3 claim []).syncGrounds
      let s := (s.noteMoved g (if why = 3 then 4 else 2)).setEvt (if why = 3 then F.CLM_EVT_HANDBACK else F.CLM_EVT_HANDOVER)
      let s := if why = 1 then s.endHandoverCmd 0 else s
      let s := s.modPair (fun p => { p with handing := none, asked := false, gone := if why = 2 then p.gone ++ [g] else p.gone })
      let s := s.startNext why
      if s.pair.handing.isSome then s
      else if why = 3 then s.endRun.setEvt F.PKG_MODE_EV_HANDBACK else s.endRun))

/-- The run of grounds that this head receives has ended: no ground that would still come is STANDBY. -/
def State.runEnds (s : State) (kind : Nat) : Bool :=
  if kind = 5 then s.standbyGrounds.all (fun g => s.homeOf g != s.headId)
  else match s.pair.last with
    | some r => !r.rethread || s.standbyGrounds.isEmpty
    | none => true

/-- HANDOVER_DONE_RECEIVE (R128): the handover has ended. -/
def execHandoverDoneReceive (h : BrideHdr) (g : Nat) (s : State) : Host.Outcome State Fault Refusal :=
  live s (fun s => s.received h (fun s =>
    if s.groundState g ≠ 1 then s
    else
      let kind := if s.homeOf g = s.headId then 5 else 3
      let s := (s.noteMoved g kind).setEvt (if kind = 5 then F.CLM_EVT_HANDBACK else F.CLM_EVT_HANDOVER)
      if s.runEnds kind then (if kind = 5 then s.endRun.setEvt F.PKG_MODE_EV_HANDBACK else s.endRun) else s))

/-- HANDING_BRIDE_DOWN_TIMEOUT (R131): 10 µs after the link went down, CLAIM_GET tells whether the partner head has raised the claim. -/
def execHandingBrideDownTimeout (s : State) : Host.Outcome State Fault Refusal :=
  live s (fun s =>
    match s.pair.handing with
    | none => s
    | some g =>
      if s.groundState g ≠ 3 ∨ ¬ s.upGroups.isEmpty then s
      else
        let why := s.pair.handWhy
        let s := s.each ((s.bob.modules.map (fun m => m.idx)).filter s.modUsable) (fun s i => s.emit (.claimGet i g))
        let s := if s.claimOf g < s.moduleClaim g then s.leaveGround g 5 else s.keepGround g
        let s := s.modPair (fun p => { p with handing := none, asked := false, handQueue := [] })
        let s := if why = 1 then s.endHandoverCmd 0x4308 else s
        s.endRun.settleMode)

/-! ## Module commands that a takeover waits for (R125) -/

/-- BOBBIN_COMPLETION (R283); a takeover that waits for a CLAIM_SET goes on with its last one. -/
def execBobbinCompletion (i q cid : Nat) (bad : BadPages) (s : State) : Host.Outcome State Fault Refusal :=
  live s (fun s => s.under bad (fun s => (s.takeCompletion i q cid bad).finishTaking))

/-- STAGING_APPEND_DONE (R248): both copies are programmed, so the atom is in the staging journal; a Solo write completes with its last atom. -/
def execStagingAppendDone (writeId atom : Nat) (s : State) : Host.Outcome State Fault Refusal :=
  live s (fun s =>
    match s.med.staging.find? (fun e => e.writeId == writeId && e.atom == atom && !e.obsolete) with
    | some e =>
      if e.copies.contains 0 ∧ e.copies.contains 1 then (s.modAtom writeId atom (fun a => { a with staged := true })).settleWrites.runWaiting []
      else s
    | none => s)

/-- BOBBIN_CMD_TIMEOUT (R292, R293). -/
def execBobbinCmdTimeout (i q cid : Nat) (bad : BadPages) (s : State) : Host.Outcome State Fault Refusal :=
  live s (fun s => s.under bad (fun s => (s.timeoutCmd i q cid bad).finishTaking))

/-- MODULE_EN_WRITE (R280, R294): EN of a module port is written; 1 lets it serve (`ready`: RDY followed), 0 aborts. -/
def execModuleEnWrite (i value : Nat) (ready : Bool) (started : List (Nat × Nat)) (bad : BadPages) (s : State) : Host.Outcome State Fault Refusal :=
  live s (fun s => s.under bad (fun s => (s.writeEn i value ready started bad).finishTaking))

/-- MODULE_PORT_ABORT (R294): the link of a port goes down (`kind` 0) or the port is reset (1); commands complete with 0x1A08. -/
def execModulePortAbort (i kind : Nat) (started : List (Nat × Nat)) (bad : BadPages) (s : State) : Host.Outcome State Fault Refusal :=
  live s (fun s => s.under bad (fun s => (s.portDown i kind started bad).finishTaking))

/-- MODULE_LINK_DOWN_TIMEOUT (R267): the link of a module has been down for 10 ms. -/
def execModuleLinkDownTimeout (i : Nat) (bad : BadPages) (s : State) : Host.Outcome State Fault Refusal :=
  live s (fun s => s.under bad (fun s => (s.linkDownLong i bad).finishTaking))

/-- ECU_MOD_FAIL (R267): firmware writes ECU_MOD[i].FAIL. -/
def execEcuModFail (i value : Nat) (bad : BadPages) (s : State) : Host.Outcome State Fault Refusal :=
  live s (fun s => s.under bad (fun s => (s.writeEcuMod i value bad).finishTaking))

end Sys2Proof.Machine
end

