-- ==== Sys2Proof/Machine/Cpu.lean ====
section
/-! DEFINITION. The CPU block (R470 to R474): release and halt of harts, performance-counter selectors, and the interrupt files. -/

namespace Sys2Proof.Machine

/-- One core's release (R472): refused where the hart is out of reset or its RESET_PC is 0. -/
def State.releaseHart (s : State) (m h : Nat) : State :=
  if bit (s.fld F.CPU_ST_RUNNING m) h ∨ s.fld F.CPU_RESET_PC_PC m h = 0 then s.setEvt F.CPU_EVT_REL_REFUSED m
  else s.setHart m h true

/-- A write of CPU_RELEASE (R471, R472): discarded from any requester but the service core of motif 0 (`byRoot`); each RUN bit is cleared when its release is done
or refused. -/
def State.writeRelease (s : State) (m value : Nat) (byRoot : Bool) : State :=
  if byRoot then
    let s := s.softWrite .CPU_RELEASE m 0 value
    (s.each ((List.range 8).filter (fun h => bit value h)) (fun s h => s.releaseHart m h)).setFld F.CPU_RELEASE_RUN 0 m
  else s

/-- CPU_RELEASE (R472). -/
def execCpuRelease (motif value : Nat) (byRoot : Bool) (s : State) : Host.Outcome State Fault Refusal :=
  live s (fun s => if s.hasMotif motif then s.writeRelease motif value byRoot else s)

/-- The HALTED bit of a hart. -/
def haltedBit (h : Nat) : Fld Reg := ⟨.CPU_EVT, h, h⟩

/-- A write of CPU_HCTL[h] (R473): HALT returns the hart to reset; `withRun` says that a RUN for it arrived in the same clock, which is refused. -/
def State.writeHctl (s : State) (m h value : Nat) (withRun : Bool) : State :=
  if h < 8 ∧ bit value 0 then
    let s := (s.softWrite .CPU_HCTL m h value).setHart m h false
    let s := (s.setFld F.CPU_HCTL_HALT 0 m h).setEvt (haltedBit h) m
    if withRun then s.setEvt F.CPU_EVT_REL_REFUSED m else s
  else s

/-- CPU_HALT (R473). -/
def execCpuHalt (motif h value : Nat) (withRun : Bool) (s : State) : Host.Outcome State Fault Refusal :=
  live s (fun s => if s.hasMotif motif then s.writeHctl motif h value withRun else s)

/-- HPM_EVENT_WRITE (R474): mhpmevent `i` of hart `h`. -/
def execHpmEventWrite (motif h i value : Nat) (s : State) : Host.Outcome State Fault Refusal :=
  live s (fun s => if s.hasMotif motif ∧ h ≤ 8 ∧ 3 ≤ i ∧ i ≤ 31 then s.softWrite .CPU_HPM_EVT motif (29 * h + (i - 3)) value else s)

/-- A 32-bit number with its bytes in the other order. -/
def swap4 (v : Nat) : Nat := leNat (leBytes 4 v).reverse

/-- IMSIC_SETEIPNUM (R471): a 32-bit write of an identity to an interrupt file, level 0 machine or 1 supervisor, little-endian or (`be`) big-endian; discarded through PF1 BAR0. -/
def State.seteipnum (s : State) (m h level value : Nat) (be bar0 : Bool) : State :=
  let id := if be then swap4 value else value % 2 ^ 32
  if bar0 ∨ 1 < level then s else s.raiseIrq m h level id

/-- The row IMSIC_SETEIPNUM. -/
def execImsicSeteipnum (motif h level value : Nat) (be bar0 : Bool) (s : State) : Host.Outcome State Fault Refusal :=
  live s (fun s => s.seteipnum motif h level value be bar0)

end Sys2Proof.Machine
end

