-- ==== Sys2Proof/Machine/Memory.lean ====
section
/-! DEFINITION. The map cache, DRAM scrub and error injection (spec/17): fills and replacement, the victim cache, maintenance, disabling, the
vote of triple-voted words, accesses outside the map (R27) and accesses through PF1 BAR2 (R389). -/

namespace Sys2Proof.Machine

/-! ## Ways and replacement -/

/-- The reserved ways of a class (R75). -/
def State.waysOf (s : State) (c : Nat) : Nat := match s.activePart.resv.find? (fun r => r.cls == c) with | some r => r.ways | none => 0

/-- The ways that a fill of a class may take (R410). -/
def State.eligibleWays (s : State) (m c : Nat) : List Nat :=
  let first := ((List.range c).map s.waysOf).sum
  let total := ((List.range 4).map s.waysOf).sum
  let scr := s.fld F.CCH_ST_SCR_WAYS m
  (List.range (16 - scr)).filter (fun w => (decide (first ≤ w) && decide (w < first + s.waysOf c)) || decide (total ≤ w))

/-- The line in a way of a set. -/
def State.lineAt (s : State) (m st w : Nat) : Option CLine := s.ms.lines.find? (fun c => c.motif == m && c.set == st && c.way == w)

/-- The number of a set's tree in the state. -/
def treeKey (m st : Nat) : Nat := 16384 * m + st

/-- The tree of a set with the nodes on a way's path turned away from it (R412); node 1 is the root, a node's bit 0 points to the lower ways. -/
def touchTree (t w : Nat) : Nat :=
  ([3, 2, 1, 0].foldl (fun (a : Nat × Nat) b => let d := bit w b; (putBit a.1 a.2 (!d), 2 * a.2 + b2n d)) (t, 1)).1

/-- The way that a tree points to. -/
def treeVictim (t : Nat) : Nat :=
  ([0, 1, 2, 3].foldl (fun (a : Nat × Nat) _ => let d := bit t a.1; (2 * a.1 + b2n d, 2 * a.2 + b2n d)) (1, 0)).2

/-- A hit or a fill of a way noted for replacement (R411, R412). -/
def State.noteUse (s : State) (m st w : Nat) : State :=
  if s.flag F.CCH_CTL_POLICY m then s
  else s.modMs (fun d => { d with trees := Sparse.set 0 d.trees (treeKey m st) (touchTree (Sparse.get 0 d.trees (treeKey m st)) w) })

/-- Ages of the eligible lines of a set raised so that the oldest reaches 3 (R411 step 3). -/
def State.ageSet (s : State) (m st : Nat) (ways : List Nat) : State :=
  let here := fun (c : CLine) => c.motif == m && c.set == st && ways.contains c.way
  let top := ((s.ms.lines.filter here).map (fun c => c.age)).foldl max 0
  s.modMs (fun d => { d with lines := mapWhere here (fun c => { c with age := c.age + (3 - top) }) d.lines })

/-- The way that a fill of a class replaces (R411, R412). -/
def State.victimWay (s : State) (m st c : Nat) : State × Option Nat :=
  let ways := s.eligibleWays m c
  if s.flag F.CCH_CTL_POLICY m then
    match ways.find? (fun w => (s.lineAt m st w).isNone) with
    | some w => (s, some w)
    | none =>
      let old := fun (s : State) => ways.find? (fun w => match s.lineAt m st w with | some c => c.age == 3 | none => false)
      match old s with
      | some w => (s, some w)
      | none => let s := s.ageSet m st ways; (s, old s)
  else
    let v := treeVictim (Sparse.get 0 s.ms.trees (treeKey m st))
    (s, ((List.range 16).map (fun i => (v + i) % 16)).find? (fun w => ways.contains w))

/-! ## Write-back and the victim cache -/

/-- The 128 bytes of a cached line. -/
def CLine.bytes (c : CLine) : Bytes := Sparse.getRange 0 c.data 0 128

/-- The address of a line. -/
def CLine.addr (c : CLine) : Nat := dramBase c.motif + 128 * c.line

/-- A line written back into DRAM, with its poison (R406, R413). -/
def State.writeBack (s : State) (c : CLine) : State :=
  let k := c.addr / 128
  let s := { s with mem := Sparse.setRange memDefault s.mem c.addr c.bytes }
  let s := s.modMs (fun d => { d with poison := d.poison.filter (fun x => x != k) ++ (if c.poison then [k] else []) })
  s.dramWrote c.motif c.line true

/-- The victim entries of a motif. -/
def State.victimsOf (s : State) (m : Nat) : List CLine := s.ms.victims.filter (fun c => c.motif == m)

/-- A line enters the victim cache: a free entry, else the oldest clean one, else it waits (R413). -/
def State.enterVictim (s : State) (c : CLine) : State :=
  let v := s.victimsOf c.motif
  let s := s.sramWrote c.motif 0x12 0 (some c.addr)
  if v.length < 64 then s.modMs (fun d => { d with victims := d.victims ++ [c] })
  else
    match v.find? (fun x => !x.dirty) with
    | some x => s.modMs (fun d => { d with victims := d.victims.filter (fun y => !(y.motif == x.motif && y.line == x.line)) ++ [c] })
    | none => ((s.modMs (fun d => { d with stalled := d.stalled ++ [c] })).bump F.CCH_CNT_VICTIM_STALL 1 c.motif).setEvt F.CCH_EVT_VICTIM_STALL c.motif

/-- A line put into a way of its set, the line there evicted. -/
def State.install (s : State) (c : CLine) : State :=
  match s.victimWay c.motif c.set c.cls with
  | (s, none) => if c.dirty then s.writeBack c else s
  | (s, some w) =>
    let s := match s.lineAt c.motif c.set w with | some o => s.readFlips o.addr 128 | none => s
    let old := s.lineAt c.motif c.set w
    let s := s.modMs (fun d => { d with lines := d.lines.filter (fun x => !(x.motif == c.motif && x.set == c.set && x.way == w)) ++ [{ c with way := w }] })
    let s := match old with | some o => s.enterVictim o | none => s
    ((s.sramWrote c.motif 0x11 0 (some c.addr)).noteUse c.motif c.set w).syncCch c.motif

/-- The map cache takes fills: enabled and not draining. -/
def State.cacheOn (s : State) (m : Nat) : Bool := s.flag F.CCH_CTL_EN m && !(s.flag F.CCH_ST_DRAIN m)

/-- A line read from DRAM and filled for a class (R411). -/
def State.fillLine (s : State) (m line cls age : Nat) : State :=
  let s := s.readDram m line false
  let a := dramBase m + 128 * line
  let data := ((List.range 128).zip (Sparse.getRange memDefault s.mem a 128)).filter (fun p => p.2 ≠ (0 : Byte))
  s.install ⟨m, setOf (128 * line), 0, line, false, s.ms.poison.contains (a / 128), cls, age, data⟩

/-- A line recalled from the victim cache or from the evictions that wait, with its dirty and poison bits (R413). -/
def State.recallLine (s : State) (c : CLine) : State :=
  let other := fun (x : CLine) => !(x.motif == c.motif && x.line == c.line)
  let s := s.modMs (fun d => { d with victims := d.victims.filter other, stalled := d.stalled.filter other })
  (s.bump F.CCH_CNT_VICTIM_RECALL 1 c.motif).install { c with age := 0 }

/-- A line looked up for a request of a class: a hit, a recall, or a fill (R410 to R413). -/
def State.lookupLine (s : State) (m line cls : Nat) (stream : Bool) : State :=
  let a := dramBase m + 128 * line
  let s := s.readFlips a 128
  match s.ms.lines.find? (fun c => c.holds a) with
  | some c =>
    let s := s.modMs (fun d => { d with lines := mapWhere (fun x => x.holds a) (fun x => { x with age := 0 }) d.lines })
    s.noteUse m c.set c.way
  | none =>
    let s := if s.flag F.CCH_CTL_EN m || s.flag F.CCH_ST_DRAIN m then s.bump F.CCH_CNT_MISS 1 m else s
    if !s.cacheOn m then (if (s.cached a).isSome then s else s.readDram m line false)
    else
      match s.cached a with
      | some c => s.recallLine c
      | none => s.fillLine m line cls (if stream && s.flag F.CCH_CTL_POLICY m then 3 else 0)

/-! ## Accesses -/

/-- The class of a request (R410). -/
def State.classFor (s : State) (who : Who) (m cls : Nat) : Nat :=
  match who with
  | .core _ _ => s.fld F.CCH_CTL_CORE_CLASS m
  | .engine _ => cls % 4
  | .host => cls % 4

/-- The asker that a requester is. -/
def Who.asker (w : Who) (cls : Nat) : Asker :=
  match w with
  | .core _ _ => .core
  | .engine _ => .engine (cls % 4)
  | .host => .bar2

/-- An error delivered to a requester: an access fault at a core (kind 0 load, 1 store, 2 fetch), a status at an engine (R27, R424). -/
def State.deliverError (s : State) (who : Who) (kind addr status : Nat) : State :=
  match who with
  | .core m h => s.out (.coreFault m h kind addr)
  | .engine m => s.out (.engineStatus m addr status)
  | .host => s

/-- A hart's access fault from poisoned data counts (R474). -/
def State.hpmFault (s : State) (who : Who) : State := match who with | .core m h => s.hpmCount m h 0x09 | .engine _ => s | .host => s

/-- What an address will meet in a motif's map cache, as codes of R474: a hit, a miss, a recall from the victim cache. -/
def State.cacheCodes (s : State) (m a : Nat) : List Nat :=
  if s.ms.lines.any (fun c => c.holds a) then [0x04]
  else (if s.flag F.CCH_CTL_EN m || s.flag F.CCH_ST_DRAIN m then [0x05] else []) ++ (if s.cacheOn m && (s.cached a).isSome then [0x06] else [])

/-- A read delivered to a requester; poison is delivered as an error (R424). -/
def State.deliverRead (s : State) (who : Who) (kind addr n : Nat) : State :=
  if s.poisoned addr n then ((s.countPoison addr n).deliverError who kind addr 0x5405).hpmFault who
  else
    match who with
    | .core m h => s.out (.coreData m h addr (s.load addr n))
    | .engine _ => s
    | .host => s

/-- A store of a requester: a core's store never clears poison (R406). -/
def State.accessStore (s : State) (who : Who) (addr : Nat) (b : Bytes) : State :=
  match who with
  | .core m h =>
    let s := (if s.noLines then { s with mem := Sparse.setRange memDefault s.mem addr b } else s.storeBytes addr b).noteWrites addr b.length
    (s.sramWrote m 0x21 h (some addr)).sramWrote m 0x22 h (some addr)
  | .engine _ => s.store addr b
  | .host => s.store addr b

/-- A requester reaches every byte of a range with an access of a kind (0 load, 1 store, 2 fetch), and a fetch finds it executable (R26, R27, R415). -/
def State.allowed (s : State) (who : Who) (kind addr n cls : Nat) : Bool :=
  s.reachesAll (who.asker cls) (kind == 1) addr n && (decide (kind ≠ 2) || executable addr)

/-- A read of `n` bytes or a store of `data`. A read meets the wrong words of its lines, and so does a store of part of a line (R421). -/
def State.perform (s : State) (who : Who) (kind addr n : Nat) (data : Bytes) : State :=
  if data.isEmpty then (s.readFlips addr n).deliverRead who kind addr n else (s.dropFlips addr data.length |>.readFlips addr data.length).accessStore who addr data

/-- CACHE_FILL (R26, R411): an access of a requester to memory: `data` is what it stores, none for a read of `n` bytes. In DRAM it goes through the map cache: `stage`
names the pattern and stage of an engine's request, and `upset` are bits of the DRAM line that the surroundings have turned, as (word, mask) (log 13). -/
def execCacheFill (who : Who) (kind addr n cls : Nat) (stage : Option (Nat × Nat)) (data : Bytes) (upset : List (Nat × Nat)) (s : State) :
    Host.Outcome State Fault Refusal :=
  live s (fun s =>
    let len := if data.isEmpty then n else data.length
    if !s.allowed who (if data.isEmpty then kind else 1) addr len cls then s.deliverError who (if data.isEmpty then kind else 1) addr 0x2F01
    else
      match regionOf addr with
      | .dram m o =>
        if o % 128 + len ≤ 128 then
          let s := s.modMs (fun d => { d with errs := Sparse.set [] d.errs (addr / 128) (Sparse.get [] d.errs (addr / 128) ++ upset) })
          let s := (s.hpmAccess who m (s.cacheCodes m addr)).lookupLine m (o / 128) (s.classFor who m cls) (s.streamFill m stage)
          (s.perform who kind addr n data).syncCch m
        else s
      | .sram m => (s.hpmAccess who m []).perform who kind addr n data
      | .scratch m _ => (s.hpmAccess who m []).perform who kind addr n data
      | .rom => s.perform who kind addr n data
      | .regs => s
      | .none => s)

/-- CORE_UNMAPPED_ACCESS (R26, R27, R415): an access that the map, its attributes or the owner of a scratchpad way refuses. -/
def execCoreUnmappedAccess (who : Who) (kind addr n cls : Nat) (s : State) : Host.Outcome State Fault Refusal :=
  live s (fun s => if s.allowed who kind addr n cls then s else s.deliverError who kind addr 0x2F01)

/-- The core address of an offset in PF1 BAR2 (R389). -/
def bar2Addr (ofs : Nat) : Nat := 0x4100000000 + ofs

/-- A read of scratchpad answered to the host: poisoned data travels with EP set, and is counted (R398, R424). -/
def State.bar2Read (s : State) (ofs len : Nat) : State :=
  let b := s.load (bar2Addr ofs) len
  if s.poisoned (bar2Addr ofs) len then ((s.emit (.barPoison 1 b)).bump F.EP_CNT_POISON_OUT).setEvt F.EP_EVT_POISON_OUT else s.emit (.barData 1 b)

/-- PF1_BAR2_ACCESS (R389): a host access; reads of any other part return zero, writes there are discarded. While the warm reset of a Rethread holds the endpoint reads return all ones
(R400). -/
def execPf1Bar2Access (ofs n : Nat) (data : Bytes) (s : State) : Host.Outcome State Fault Refusal :=
  live s (fun s =>
    let len := if data.isEmpty then n else data.length
    if !s.flag F.EP_ST_UP then s
    else if !s.bar0Open then (if data.isEmpty then s.emit (.barData 1 (List.replicate len 0xFF)) else s)
    else
    let ok := s.reachesAll .bar2 (!data.isEmpty) (bar2Addr ofs) len && decide (1 ≤ len) && decide (len ≤ 512)
    if data.isEmpty then (if ok then (s.readFlips (bar2Addr ofs) len).bar2Read ofs len else s.emit (.barData 1 (zeros len)))
    else if ok then s.perform .host 1 (bar2Addr ofs) len data else s)

/-- A line of the ways or of the victim cache is in DRAM (R413, R420): a victim entry is clean and, while the cache drains, invalid, and an eviction that waited takes its place; a dirty line of
the ways is written and leaves while the cache drains. -/
def State.writtenBack (s : State) (motif line : Nat) : State :=
  let here := fun (c : CLine) => c.motif == motif && c.line == line && c.dirty
  let s := s.readFlips (dramBase motif + 128 * line) 128
  match s.ms.victims.find? here with
  | some c =>
    let drain := s.flag F.CCH_ST_DRAIN motif
    let clean := fun (l : List CLine) => if drain then l.filter (fun x => !here x) else mapWhere here (fun x => { x with dirty := false }) l
    let s := (s.writeBack c).modMs (fun d => { d with victims := clean d.victims })
    match s.ms.stalled.find? (fun x => x.motif == motif) with
    | none => s.syncCch motif
    | some x =>
      let s := s.modMs (fun d => { d with stalled := d.stalled.filter (fun y => !(y.motif == motif && y.line == x.line)) })
      (s.enterVictim x).syncCch motif
  | none =>
    match s.ms.lines.find? here with
    | some c => if s.flag F.CCH_ST_DRAIN motif then ((s.writeBack c).modMs (fun d => { d with lines := d.lines.filter (fun x => !here x) })).syncCch motif else s
    | none => s

/-! ## Maintenance -/

/-- A maintenance operation ends with a status (R417). -/
def State.endMaint (s : State) (m status : Nat) : State :=
  (((s.setFld F.CCH_MAINT_STATUS status m).setFld F.CCH_MAINT_BUSY 0 m).setFld F.CCH_MAINT_GO 0 m).setEvt F.CCH_EVT_MAINT_DONE m

/-- An operation on the lines that a test picks: 1 CLEAN, 2 INVALIDATE, 3 CLEAN_INVALIDATE (R417). -/
def State.maintLines (s : State) (op m : Nat) (p : CLine → Bool) : State :=
  let here := fun (c : CLine) => c.motif == m && p c
  let s := if op = 2 then s else s.meetFlips (fun f => f.motif == m)
  let all := (s.ms.lines ++ s.ms.victims ++ s.ms.stalled).filter (fun c => here c && c.dirty)
  let s := if op = 2 then s else s.each all State.writeBack
  let f := fun (l : List CLine) => if op = 1 then mapWhere here (fun c => { c with dirty := false }) l else l.filter (fun c => !here c)
  (s.modMs (fun d => { d with lines := f d.lines, victims := f d.victims, stalled := f d.stalled })).syncCch m

/-- The operation that CCH_MAINT names starts: refused, out of range, or applied to its lines; its end waits for the write-backs (R417, R419). OP 0 is
no operation of the table: its STATUS is free (log 38). -/
def State.startMaint (s : State) (m : Nat) : State :=
  let op := s.fld F.CCH_MAINT_OP m
  let s := s.setFld F.CCH_MAINT_BUSY 1 m
  if op = 0 then s.tookFree.endMaint m s.freeVal
  else if op = 2 ∧ s.mode ≠ 0 ∧ ¬ s.flag F.ECC_CTL_INJECT_EN m then s.endMaint m 0x2F03
  else if s.flag F.CCH_MAINT_MODE m then
    if s.flag F.CCH_MAINT_ALL m then s.maintLines op m (fun _ => true)
    else
      let st := s.fld F.CCH_MAINT_SET m
      let w := s.fld F.CCH_MAINT_WAY m
      match s.lineAt m st w with
      | some c => s.maintLines op m (fun x => x.line == c.line)
      | none => s
  else
    let a := s.fld F.CCH_MAINT_ADDR_ADDR m * 128
    let n := max 1 (s.fld F.CCH_MAINT_LINES m)
    if a < dramBase m ∨ dramBase m + s.populated m < a + 128 * n then s.endMaint m 0x2F02
    else
      let first := (a - dramBase m) / 128
      s.maintLines op m (fun c => decide (first ≤ c.line) && decide (c.line < first + n))

/-- A write of CCH_MAINT: discarded while BUSY is 1; an operation waits while the cache drains (R417, R420). -/
def State.writeMaint (s : State) (m value : Nat) : State :=
  if s.flag F.CCH_MAINT_BUSY m then s
  else
    let s := s.softWrite .CCH_MAINT m 0 value
    if s.flag F.CCH_MAINT_GO m then (if s.flag F.CCH_ST_DRAIN m then s.setFld F.CCH_MAINT_BUSY 1 m else s.startMaint m) else s

/-- CCH_CLEAN (R417): a write of CCH_MAINT with OP 1. -/
def execCchClean (motif value : Nat) (s : State) : Host.Outcome State Fault Refusal :=
  live s (fun s => if s.hasMotif motif then s.writeMaint motif value else s)

/-- CCH_INVALIDATE (R417, R419): a write of CCH_MAINT with OP 2. -/
def execCchInvalidate (motif value : Nat) (s : State) : Host.Outcome State Fault Refusal :=
  live s (fun s => if s.hasMotif motif then s.writeMaint motif value else s)

/-- CCH_CLEAN_INVALIDATE (R417): a write of CCH_MAINT with OP 3. -/
def execCchCleanInvalidate (motif value : Nat) (s : State) : Host.Outcome State Fault Refusal :=
  live s (fun s => if s.hasMotif motif then s.writeMaint motif value else s)

/-- MAINT_COMPLETE (R417): every write-back of the operation is in DRAM. -/
def execMaintComplete (motif : Nat) (s : State) : Host.Outcome State Fault Refusal :=
  live s (fun s => if s.flag F.CCH_MAINT_BUSY motif ∧ ¬ s.flag F.CCH_ST_DRAIN motif then s.endMaint motif 0 else s)

/-! ## Enabling and policy -/

/-- A change of POLICY (R412): to NRU every age is 1, to tree-PLRU every tree is clear. -/
def State.policyChanged (s : State) (m : Nat) : State :=
  if s.flag F.CCH_CTL_POLICY m then
    s.modMs (fun d => { d with lines := mapWhere (fun c => c.motif == m) (fun c => { c with age := 1 }) d.lines })
  else s.modMs (fun d => { d with trees := d.trees.filter (fun t => t.1 / 16384 != m) })

/-- Clean lines invalidated as a drain begins (R420). -/
def State.beginDrain (s : State) (m : Nat) : State :=
  let keep := fun (c : CLine) => c.motif != m || c.dirty
  ((s.modMs (fun d => { d with lines := d.lines.filter keep, victims := d.victims.filter keep })).setFld F.CCH_ST_DRAIN 1 m).syncCch m

/-- A write of CCH_CTL: POLICY, a disable that drains, and an enable that is held while a drain runs (R412, R420). -/
def State.writeCchCtl (s : State) (m value : Nat) : State :=
  let en := s.flag F.CCH_CTL_EN m
  let pol := s.fld F.CCH_CTL_POLICY m
  let drain := s.flag F.CCH_ST_DRAIN m
  let s := s.softWrite .CCH_CTL m 0 value
  let s := if s.fld F.CCH_CTL_POLICY m = pol then s else s.policyChanged m
  let now := s.flag F.CCH_CTL_EN m
  if drain then (s.setFld F.CCH_CTL_EN 0 m).setFld F.CCH_ST_EN_PEND (b2n now) m
  else if en && !now then s.beginDrain m
  else s

/-- CCH_DISABLE (R420): a write of CCH_CTL with EN 0. -/
def execCchDisable (motif value : Nat) (s : State) : Host.Outcome State Fault Refusal :=
  live s (fun s => if s.hasMotif motif then s.writeCchCtl motif value else s)

/-- CCH_POLICY_CHANGE (R412): a write of CCH_CTL that changes POLICY. -/
def execCchPolicyChange (motif value : Nat) (s : State) : Host.Outcome State Fault Refusal :=
  live s (fun s => if s.hasMotif motif then s.writeCchCtl motif value else s)

/-- The end of a drain (R420): the last dirty lines are written, an enable that was held is applied, and an operation that waited runs. -/
def State.endDrain (s : State) (m : Nat) : State :=
  let s := s.maintLines 3 m (fun _ => true)
  let s := (s.setFld F.CCH_ST_DRAIN 0 m).setEvt F.CCH_EVT_DRAIN_DONE m
  let s := if s.flag F.CCH_ST_EN_PEND m then (s.setFld F.CCH_CTL_EN 1 m).setFld F.CCH_ST_EN_PEND 0 m else s
  if s.flag F.CCH_MAINT_BUSY m then s.startMaint m else s

/-- WRITEBACK_COMPLETE (R413, R420): a write-back is in DRAM; with the last dirty line a drain ends. -/
def execWritebackComplete (motif line : Nat) (s : State) : Host.Outcome State Fault Refusal :=
  live s (fun s =>
    let was := s.fld F.CCH_ST_DIRTY motif
    let s := s.writtenBack motif line
    if s.flag F.CCH_ST_DRAIN motif ∧ was ≠ 0 ∧ s.fld F.CCH_ST_DIRTY motif = 0 then s.endDrain motif else s)

/-- CACHE_DRAIN_COMPLETE (R420). -/
def execCacheDrainComplete (motif : Nat) (s : State) : Host.Outcome State Fault Refusal :=
  live s (fun s => if s.flag F.CCH_ST_DRAIN motif then s.endDrain motif else s)

/-! ## Scrub, injection and voting -/

/-- One line scrubbed (R407): a poisoned line is skipped, and a line that the cache holds dirty is read but not written back. -/
def State.scrubLine (s : State) (m line : Nat) : State :=
  let a := dramBase m + 128 * line
  if s.ms.poison.contains (a / 128) then s
  else
    match s.cached a with
    | some c => if c.dirty then s.peekDram m line else s.readDram m line true
    | none => s.readDram m line true

/-- `n` lines scrubbed on a motif from where the last scrub ended, wrapping at the end of its populated DRAM (R407). -/
def State.scrubMotif (s : State) (m : Nat) : Nat → State
  | 0 => s
  | n + 1 =>
    let total := s.populated m / 128
    if total = 0 then s
    else
      let l := s.fld F.DRM_SCRUB_ST_NEXT m
      let s := s.scrubLine m l
      let s := if l + 1 = total then (s.setFld F.DRM_SCRUB_ST_NEXT 0 m).bump F.DRM_SCRUB_ST_PASSES 1 m else s.setFld F.DRM_SCRUB_ST_NEXT (l + 1) m
      s.scrubMotif m n

/-- DRAM_SCRUB (R407): a slot fires; `upsets` are errors in DRAM lines as (address over 128, word, mask) (log 13). -/
def execDramScrub (slot : Nat) (overrun : Bool) (upsets : List (Nat × Nat × Nat)) (s : State) : Host.Outcome State Fault Refusal :=
  live s (fun s => s.slotFire slot 0x10 overrun (fun s arg =>
    let s := s.each upsets (fun s u => s.modMs (fun d => { d with errs := Sparse.set [] d.errs u.1 (Sparse.get [] d.errs u.1 ++ [u.2]) }))
    s.each s.motifs (fun s m => s.scrubMotif m arg)))

/-- ECC_INJECT_ARM (R426): a write of ECC_FLIP_TARGET, discarded while INJECT_EN is 0. -/
def State.writeFlipTarget (s : State) (m value : Nat) : State :=
  if s.flag F.ECC_CTL_INJECT_EN m then s.softWrite .ECC_FLIP_TARGET m 0 value else s

/-- A write of ECC_FLIP_TARGET on a motif. -/
def execEccInjectArm (motif value : Nat) (s : State) : Host.Outcome State Fault Refusal :=
  live s (fun s => if s.hasMotif motif then s.writeFlipTarget motif value else s)

/-- TV_SWEEP (R423): every triple-voted word is read and voted; `upsets` name the words of which surroundings have turned bits before: word, index, and the
wrong bits of each copy (log 13). -/
def execTvSweep (upsets : List (Nat × Nat × Nat × Nat × Nat)) (s : State) : Host.Outcome State Fault Refusal :=
  live s (fun s =>
    let s := s.each upsets (fun s u => s.tvTurn u.1 u.2.1 u.2.2)
    s.each (s.tv.map (fun e => e.1)) (fun s k => s.tvVote (k / 65536) (k % 65536)))

end Sys2Proof.Machine
end

