-- ==== Sys2Proof/Machine/Ecc.lean ====
section
/-! DEFINITION. Errors of the SRAMs (R421, R422, R424, R425): the protection table, the scrub walk, and injected flips that it finds. -/

namespace Sys2Proof.Machine

/-- A job whose context is poisoned fails with 0x5405, which the engine reports (R189, R201). -/
def State.contextError (s : State) (m inst idx : Nat) : State :=
  match s.runningJob (inst == 0) m idx with
  | none => s
  | some j =>
    if inst = 0 then s.failDig j 0x5405 0
    else if inst = 1 then (s.cmpPoison m).endCmp j 0x5405 0
    else if inst = 2 then (s.dcmpFail m 0x5405).endCmp j 0x5405 0
    else s

/-- What an uncorrectable error of a structure does (R421). `at_` is the address of its line, the connection, or the job's ring index; `dirty` speaks of a core's
own cache line. -/
def State.uncorrectableEffect (s : State) (m code inst at_ : Nat) (dirty : Bool) : State :=
  match code with
  | 0x10 => s.dataEffect 0x10 at_
  | 0x11 => s.failStop 0x7203
  | 0x12 => s.dataEffect 0x12 at_
  | 0x20 => s.dataEffect 0x20 at_
  | 0x21 => if dirty then s.poisonLine at_ else s
  | 0x22 => if dirty then s.failStop 0x7203 else s
  | 0x30 => (s.setEvt F.RDM_EVT_CTX_LOST m).connError at_ 3 0x7B0A
  | 0x31 => if inst ≤ 2 then s.contextError m inst at_ else s
  | 0x40 => s.failStop 0x7203
  | 0x41 => s.failStop 0x7203
  | 0x42 => s.failStop 0x7203
  | 0x43 => s.failStop 0x7203
  | _ => s

/-- The structures of R421 that are SRAMs. -/
def isSramCode (c : Nat) : Bool := [0x10, 0x11, 0x12, 0x20, 0x21, 0x22, 0x30, 0x31, 0x40, 0x41, 0x42, 0x43].contains c

/-- An uncorrectable SRAM error (R421, R424, R425): counted and sampled, then its effect. -/
def State.sramUncorrectable (s : State) (m code inst word at_ : Nat) (dirty : Bool) : State :=
  if isSramCode code ∧ s.hasMotif m then
    (s.sramUeSeen m code inst word).uncorrectableEffect m code inst at_ dirty
  else s

/-- SRAM_UNCORRECTABLE (R421). -/
def execSramUncorrectable (motif code inst word at_ : Nat) (dirty : Bool) (s : State) : Host.Outcome State Fault Refusal :=
  live s (fun s => s.sramUncorrectable motif code inst word at_ dirty)

/-- What the walk makes of a wrong word: a parity structure corrects nothing; elsewhere one bit is corrected and two are not; of more the code tells nothing,
so it may be seen as corrected, as uncorrectable, or not at all (log 58). -/
def State.walkFlip (s : State) (f : Flip) (at_ : Nat) (dirty : Bool) : State :=
  if f.count = 0 then s
  else if f.code = 0x11 ∨ f.code = 0x22 then s.sramUncorrectable f.motif f.code f.inst f.word at_ dirty
  else if f.count = 1 then s.sramCorrected f.motif f.code f.inst f.word
  else if f.count = 2 then s.sramUncorrectable f.motif f.code f.inst f.word at_ dirty
  else
    match s.freeVal % 3 with
    | 0 => s.tookFree.sramCorrected f.motif f.code f.inst f.word
    | 1 => s.tookFree.sramUncorrectable f.motif f.code f.inst f.word at_ dirty
    | _ => s.tookFree

/-- SRAM_SCRUB_WALK (R421): the walker finds the wrong words of a motif, those injected and those the surroundings name; for a core's own caches `found` says at which address and whether the line is
dirty. -/
def execSramScrubWalk (motif : Nat) (found : List (Flip × Nat × Bool)) (s : State) : Host.Outcome State Fault Refusal :=
  live s (fun s =>
    let mine := s.ms.flips.filter (fun f => f.motif == motif)
    let s := s.modMs (fun d => { d with flips := d.flips.filter (fun f => f.motif != motif) })
    let place := fun (f : Flip) => match found.find? (fun x => x.1 == f) with | some x => x.2 | none => (f.place, true)
    let s := s.each mine (fun s f => s.walkFlip f (place f).1 (place f).2)
    s.each (found.filter (fun x => x.1.motif == motif && !mine.contains x.1)) (fun s x => s.walkFlip x.1 x.2.1 x.2.2))

end Sys2Proof.Machine
end

