-- ==== Sys2Proof/Machine/NvmeIo.lean ====
section
/-! DEFINITION. The I/O commands of the host queue logic: Write, Read, Flush, Write Zeroes, Dataset Management and Verify (R163, R164, R166, R366, R367, R375). -/

namespace Sys2Proof.Machine

/-- An I/O command of a READY controller. -/
def State.onIo (s : State) (f : Fetch) (g : State → Taken → State) : State := s.onCmd f .io true g

/-- An I/O command of a READY controller that reads a namespace (R313). -/
def State.onReads (s : State) (f : Fetch) (g : State → Taken → State) : State := s.onCmd f .reads true g

/-- This head is the standby of a twin-fed ground. -/
def State.isStandby (s : State) (g : Nat) : Bool := s.isTwin g && decide (s.groundState g = 2)

/-- The namespace of a command, or the status word that ends it: not there or not attached, its key domain, its owner, and a standby without the bride link while both heads are alive (R132,
R133, R169, R225, R376). -/
def State.nsFor (s : State) (t : Taken) (nsid : Nat) : Except Nat Namespace :=
  match s.liveNs nsid with
  | none => .error 0x2D0C
  | some n =>
    if ¬ s.hq.attach.contains (nsid, t.cmd.ctl) then .error 0x2D0C
    else if (s.domain n.domain).isNone then .error 0x2707
    else if s.serves n.ground then .ok n
    else if t.fabrics ∧ s.isStandby n.ground then (if s.bothAlive then .error 0x1305 else .ok n)
    else .error 0x1406

/-- An I/O command on its namespace; `op` as in `statusCode`. -/
def State.onNs (s : State) (t : Taken) (op nsid : Nat) (g : State → Namespace → State) : State :=
  match s.nsFor t nsid with
  | .ok n => g s n
  | .error w => s.completeWith t.cmd op w ((s.ns nsid).getD default).ground []

/-- The bytes of an LBA as a command carries them: with its metadata where that is interleaved (R363). -/
def Namespace.lbaBytes (n : Namespace) (fabrics : Bool) : Nat := if n.pi && (n.ext || fabrics) then 4112 else 4096

/-- The check of range and length that Write and Read share (R367): a length beyond MDTS, a range beyond NSZE, data that disagree. -/
def rangeError (n : Namespace) (fabrics : Bool) (atom count len : Nat) : Nat :=
  if count = 0 ∨ 512 < count then 0x2D02
  else if n.size < atom + count then 0x2D04
  else if len ≠ count * n.lbaBytes fabrics then 0x2D03
  else 0

/-- The class of a command of a queue (R139): by the selectors on PF0, the connection's on fabrics. -/
def State.cmdClass (s : State) (t : Taken) (n : Namespace) : Nat :=
  match t.conn.bind (fun c => s.conn c) with
  | some c => c.desc.cls
  | none => s.classOf n.id n.ground none (some t.cmd.sq)

/-- Every change of a namespace that may not be: through a view, or of a receiving namespace (R349, R375). -/
def State.changeError (s : State) (n : Namespace) : Nat := if n.view.isSome then 0x2D08 else if s.isReceiver n.id then 0x2C06 else 0

/-- The check of a Write (R140, R252, R349, R367, R375). -/
def State.writeError (s : State) (t : Taken) (n : Namespace) (atom count len : Nat) (byWrite : Bool) : Nat :=
  if t.fabrics ∧ byWrite then 0x2D03
  else if rangeError n t.fabrics atom count len ≠ 0 then rangeError n t.fabrics atom count len
  else if s.changeError n ≠ 0 then s.changeError n
  else if s.cmdClass t n ≤ 1 ∧ ¬ n.pi then 0x2401
  else if s.fld F.MED_ST_CAP = 2 then 0x6801
  else 0

/-- The write that carries out a command, with its twin sequence number on a connection of a twin-fed ground (R132). -/
def State.writeFor (s : State) (t : Taken) (n : Namespace) (atom count : Nat) (fua dealloc : Bool) : Write :=
  let c := (t.conn.bind (fun c => s.conn c)).getD default
  let seq := t.opSeq % 2 ^ 32
  let twin := if t.fabrics && c.desc.twin then some (c.desc.twinId, seq) else none
  let src := match t.conn with | some c => WriteSrc.fabric c t.cmd.sq t.cmd.cid seq | none => WriteSrc.host t.cmd.sq t.cmd.cid
  { id := 0, src := src, ns := n.id, ground := n.ground, cls := s.cmdClass t n, atom := atom, count := count, motif := c.motif, fua := fua,
    dealloc := dealloc, twin := twin, gotHave := s.net.haves.any (fun h => twin == some (h.conn, h.seq)), met := false, state := 0,
    arrival := 0 }

/-- A HAVE token that came before its write is used up with it. -/
def State.useHave (s : State) (w : Write) : State :=
  s.modNet (fun n => { n with haves := n.haves.filter (fun h => w.twin != some (h.conn, h.seq)) })

/-- The writes of a command submitted in order (R144); the command is in progress until the last of them is answered. -/
def State.submitAll (s : State) (t : Taken) (n : Namespace) (l : List Write) : State :=
  let ids := (List.range l.length).map (fun i => s.dp.nextWrite + i)
  let s := s.begin t (.writes ids) n.id
  s.each l (fun s w => (s.submitWrite w).useHave w)

/-- NVME_WRITE (R366, R367): `count` blocks, `len` the bytes described, `byWrite` that a fabrics capsule's data arrives by RDMA WRITE. -/
def execNvmeWrite (f : Fetch) (atom count len : Nat) (fua byWrite : Bool) (s : State) : Host.Outcome State Fault Refusal :=
  live s (fun s => s.onIo f (fun s t => s.onNs t 2 f.nsid (fun s n =>
    let e := s.writeError t n atom count len byWrite
    if e ≠ 0 then s.completeWith t.cmd 2 e n.ground []
    else s.submitAll t n [s.writeFor t n atom count fua false])))

/-- A Read of a view that is PENDING (R344). -/
def State.viewPending (s : State) (n : Namespace) : Bool := (s.med.maps.view n.viewId).any (fun v => v.state == 1)

/-- The standby of a twin-fed ground answers a read only from its buffer (R132). -/
def State.standbySilent (s : State) (n : Namespace) (atom count : Nat) : Bool :=
  !s.serves n.ground && !((List.range count).all (fun i => (s.buffered n.id (atom + i)).isSome))

/-- Read and Verify: checked, and started (R166). -/
def State.readCmd (s : State) (t : Taken) (n : Namespace) (src : ReadSrc) (atom count len : Nat) (bad : BadPages) : State :=
  let e := rangeError n t.fabrics atom count len
  if e ≠ 0 then s.completeWith t.cmd 1 e n.ground []
  else if s.viewPending n then s.completeWith t.cmd 1 0x1C02 n.ground []
  else if s.standbySilent n atom count then s
  else (s.begin t .read n.id).startRead src n atom count (s.cmdClass t n) bad

/-- NVME_READ (R166, R367). -/
def execNvmeRead (f : Fetch) (atom count len : Nat) (bad : BadPages) (s : State) : Host.Outcome State Fault Refusal :=
  live s (fun s => s.under bad (fun s => s.onReads f (fun s t => s.onNs t 1 f.nsid (fun s n => s.readCmd t n (.host t.cmd.ctl t.cmd.sq t.cmd.cid) atom count len bad))))

/-- VERIFY (R362): a read with no data transfer. -/
def execVerify (f : Fetch) (atom count : Nat) (bad : BadPages) (s : State) : Host.Outcome State Fault Refusal :=
  live s (fun s => s.under bad (fun s => s.onReads f (fun s t => s.onNs t 1 f.nsid (fun s n =>
    s.readCmd t n (.verify t.cmd.ctl t.cmd.sq t.cmd.cid) atom count (count * n.lbaBytes t.fabrics) bad))))

/-- The atoms that a Flush covers: complete now, of the namespaces it names (R164, R366). -/
def State.flushAtoms (s : State) (t : Taken) (nsid : Nat) : List (Nat × Nat) :=
  let named := fun (n : Nat) => if nsid = 0xFFFFFFFF then s.hq.attach.contains (n, t.cmd.ctl) else n == nsid
  (s.dp.atoms.filter (fun a => named a.ns && (a.state == AtomState.complete || a.state == AtomState.flushing))).map (fun a => (a.writeId, a.atom))

/-- A Flush begins; with nothing left to reach flash it completes at once. -/
def State.flushCmd (s : State) (t : Taken) (nsid : Nat) : State := (s.begin t (.flush (s.flushAtoms t nsid)) nsid).settleDurable

/-- NVME_FLUSH (R164, R366). -/
def execNvmeFlush (f : Fetch) (s : State) : Host.Outcome State Fault Refusal :=
  live s (fun s => s.onIo f (fun s t =>
    if f.nsid = 0xFFFFFFFF then s.flushCmd t f.nsid else s.onNs t 0 f.nsid (fun s n => s.flushCmd t n.id)))

/-- A deallocate of ranges (R163), admitted also in the FULL state (R252); with no range it is done. -/
def State.deallocCmd (s : State) (t : Taken) (n : Namespace) (ranges : List (Nat × Nat)) : State :=
  let l := ranges.filter (fun r => decide (0 < r.2))
  if l.any (fun r => decide (n.size < r.1 + r.2)) then s.completeWith t.cmd 2 0x2D04 n.ground []
  else if s.changeError n ≠ 0 then s.completeWith t.cmd 2 (s.changeError n) n.ground []
  else if l.isEmpty then s.succeed t.cmd 0 []
  else s.submitAll t n (l.map (fun r => s.writeFor t n r.1 r.2 false true))

/-- WRITE_ZEROES (R362): a deallocate of whole atoms. -/
def execWriteZeroes (f : Fetch) (atom count : Nat) (s : State) : Host.Outcome State Fault Refusal :=
  live s (fun s => s.onIo f (fun s t => s.onNs t 2 f.nsid (fun s n => s.deallocCmd t n [(atom, count)])))

/-- DATASET_MANAGEMENT (R163, R362): the Deallocate attribute only. -/
def execDatasetManagement (f : Fetch) (ranges : List (Nat × Nat)) (dealloc : Bool) (s : State) : Host.Outcome State Fault Refusal :=
  live s (fun s => s.onIo f (fun s t => s.onNs t 2 f.nsid (fun s n => s.deallocCmd t n (if dealloc then ranges else []))))

end Sys2Proof.Machine
end

