-- ==== Sys2Proof/Machine/Endpoint.lean ====
section
/-! DEFINITION. The host endpoint (R381 to R401): link, configuration space, Bus Master Enable and power states, function-level resets, MSI-X, completion
timeouts, poison, and the events of PCIE_PERST_N. -/

namespace Sys2Proof.Machine

/-! ## Link -/

/-- A function issues requests again: what waited goes on. -/
def State.resumeHost (s : State) : State := s.syncDrain.resumePf0.sendPending 1

/-- The host link is up. -/
def State.hostLinkUp (s : State) (l : HostLink) : State :=
  let s := ((s.setFld F.EP_ST_SPEED l.speed).setFld F.EP_ST_WIDTH l.width).setFld F.EP_ST_FLIT (b2n l.flit)
  let s := (s.setFld F.EP_ST_UP 1).setFld F.EP_CTL_RETRAIN 0
  (s.setEvt F.EP_EVT_LINK_UP).resumeHost

/-- The endpoint may train: Winding has reached step 3, and PCIE_PERST_N is not asserted (R382, R383). -/
def State.mayTrain (s : State) : Bool := !s.ep.perst && (decide (s.mode ≠ 0) || decide (3 ≤ s.fld F.PKG_WIND_STEP)) && decide (s.mode ≠ 5)

/-- HOST_LINK_DOWN (R399): the link goes down, or comes up again, on its own. -/
def execHostLinkDown (up : Bool) (l : HostLink) (s : State) : Host.Outcome State Fault Refusal :=
  live s (fun s => if up then (if s.mayTrain then s.hostLinkUp l else s) else s.hostLinkDown)

/-! ## Function-level resets -/

/-- Configuration space and MSI-X table of a function reset (R393, R394); PF1 has no requests but its vectors. -/
def State.wipeFunction (s : State) (pf : Nat) : State :=
  if pf = 0 then
    let s := s.modEp (fun e => { e with bme0 := false, unmasked0 := [], pba0 := [], cfg0 := [], msix0 := [], aerU0 := 0, aerC0 := 0 })
    let s := ((s.setFld F.EP_ST_BME0 0).setFld F.EP_ST_D3_0 0).setFld F.EP_ST_DRAIN0 0
    s.setFld F.EP_ST_CTO_MS 50
  else
    let s := s.modEp (fun e => { e with bme1 := false, unmasked1 := [], pba1 := [], cfg1 := [], msix1 := [], aerU1 := 0, aerC1 := 0 })
    let s := ((s.setFld F.EP_ST_BME1 0).setFld F.EP_ST_D3_1 0).setFld F.EP_ST_DRAIN1 0
    s.setReg .EP_PF1_RAISE 0 0 0

/-- The PF0 controller DISABLED, with no queue and no latched value; what it has counted since power-on stays (R393, R377). -/
def State.resetPf0Ctrl (s : State) : State :=
  let id := s.pf0Id
  let fresh := fun (k : Ctrl) => { Ctrl.pf0 id with unitsRead := k.unitsRead, unitsWritten := k.unitsWritten, reads := k.reads, writes := k.writes, mediaErrs := k.mediaErrs, warn := k.warn }
  (s.modCtrl id fresh).syncHq

/-- FLR_PF0 (R393): requests stop, completions of outstanding reads will be discarded, the commands are abandoned, and function and controller are reset, which ends a
controller reset in progress. It completes within the command (log 63). -/
def State.flrPf0 (s : State) : State :=
  let id := s.pf0Id
  let s := if s.fld F.HQ_ST_CSTATE = 2 then s.setEvt F.HQ_EVT_CTRL_RESET else s
  let s := s.abandonCmds true (fun c => c.ctl == id)
  let s := s.modEp (fun e => { e with reads := [], todo := [], dropped := e.dropped ++ e.reads.map (fun r => r.1) })
  (s.resetPf0Ctrl.wipeFunction 0).setEvt F.EP_EVT_FLR0

/-- FLR_PF1 (R394): no device register reached through BAR0 and no scratchpad content changes. -/
def State.flrPf1 (s : State) : State := (s.wipeFunction 1).setEvt F.EP_EVT_FLR1

/-- FLR_PF0. -/
def execFlrPf0 (s : State) : Host.Outcome State Fault Refusal := live s (fun s => if s.flag F.EP_ST_UP then s.flrPf0 else s)

/-- FLR_PF1. -/
def execFlrPf1 (s : State) : Host.Outcome State Fault Refusal := live s (fun s => if s.flag F.EP_ST_UP then s.flrPf1 else s)

/-- PERST_ASSERT (R383): PCIE_PERST_N, or a hot reset of the upstream port, takes the link down and resets both functions and the PF0 controller; the package
runs on. -/
def execPerstAssert (hot : Bool) (s : State) : Host.Outcome State Fault Refusal :=
  live s (fun s =>
    let s := s.modEp (fun e => { e with perst := e.perst || !hot })
    let s := s.hostLinkDown.flrPf0.flrPf1
    (s.setEvt F.HQ_EVT_CTRL_RESET).setEvt F.EP_EVT_PERST)

/-- PERST_DEASSERT (R382): link training; the surroundings say with what result. -/
def execPerstDeassert (l : HostLink) (s : State) : Host.Outcome State Fault Refusal :=
  live s (fun s =>
    if ¬ s.ep.perst then s
    else
      let s := s.modEp (fun e => { e with perst := false })
      if s.mayTrain then s.hostLinkUp l else s)

/-! ## Registers of the endpoint -/

/-- A write of EP_CTL (R381, R384): RETRAIN trains the link again, PF0_AVAIL lets the controller become READY. `done` is the link at the end of training, none while
it goes on. -/
def State.writeEpCtl (s : State) (value : Nat) (done : Option HostLink) : State :=
  let avail := s.flag F.EP_CTL_PF0_AVAIL
  let s := s.softWrite .EP_CTL 0 0 value
  let s := match done with
    | some l => if bit value 1 ∧ s.flag F.EP_ST_UP then
        (((s.setFld F.EP_ST_SPEED l.speed).setFld F.EP_ST_WIDTH l.width).setFld F.EP_ST_FLIT (b2n l.flit)).setFld F.EP_CTL_RETRAIN 0 else s
    | none => s
  if ¬ avail ∧ s.flag F.EP_CTL_PF0_AVAIL then s.applyLatched s.pf0Id else s

/-- EP_RETRAIN (R381). -/
def execEpRetrain (value : Nat) (done : Option HostLink) (s : State) : Host.Outcome State Fault Refusal := live s (fun s => s.writeEpCtl value done)

/-- PF0_AVAIL (R384). -/
def execPf0Avail (value : Nat) (s : State) : Host.Outcome State Fault Refusal := live s (fun s => s.writeEpCtl value none)

/-- A write of EP_PF1_RAISE (R390): each vector is sent or its PBA bit is set, and the register reads 0 again. -/
def State.writePf1Raise (s : State) (value : Nat) : State :=
  (s.each ((List.range 32).filter (fun v => bit value v)) (fun s v => s.raiseVec 1 v)).setReg .EP_PF1_RAISE 0 0 0

/-- PF1_RAISE (R390). -/
def execPf1Raise (value : Nat) (s : State) : Host.Outcome State Fault Refusal := live s (fun s => s.writePf1Raise value)

/-! ## Bus Master Enable and power states -/

/-- Requests of a function stop (R391): PF0 drains while reads of host memory are outstanding; PF1 reads none. -/
def State.stopIssuing (s : State) (pf : Nat) : State :=
  if pf = 0 ∧ s.ep.reads ≠ [] then s.setFld F.EP_ST_DRAIN0 1 else s

/-- Bus Master Enable written 0 (R391). -/
def State.clearBme (s : State) (pf : Nat) : State :=
  let s := s.modEp (fun e => if pf = 0 then { e with bme0 := false } else { e with bme1 := false })
  let s := if pf = 0 then s.setFld F.EP_ST_BME0 0 else s.setFld F.EP_ST_BME1 0
  (s.stopIssuing pf).setEvt F.EP_EVT_BME_CLEAR

/-- Bus Master Enable written 1 (R392): recorded, and honoured once no drain is left. -/
def State.setBme (s : State) (pf : Nat) : State :=
  let s := s.modEp (fun e => if pf = 0 then { e with bme0 := true } else { e with bme1 := true })
  if pf = 0 then (if s.flag F.EP_ST_DRAIN0 then s else (s.setFld F.EP_ST_BME0 1).resumeHost)
  else (s.setFld F.EP_ST_BME1 1).resumeHost

/-- BME_CLEAR (R391). -/
def execBmeClear (pf : Nat) (s : State) : Host.Outcome State Fault Refusal := live s (fun s => if s.flag F.EP_ST_UP ∧ pf < 2 then s.clearBme pf else s)

/-- BME_SET (R392). -/
def execBmeSet (pf : Nat) (s : State) : Host.Outcome State Fault Refusal := live s (fun s => if s.flag F.EP_ST_UP ∧ pf < 2 then s.setBme pf else s)

/-- A function in D3hot: as with Bus Master Enable 0, and all state kept (R381). -/
def State.enterD3 (s : State) (pf : Nat) : State := (if pf = 0 then s.setFld F.EP_ST_D3_0 1 else s.setFld F.EP_ST_D3_1 1).stopIssuing pf

/-- A function back in D0. -/
def State.leaveD3 (s : State) (pf : Nat) : State := (if pf = 0 then s.setFld F.EP_ST_D3_0 0 else s.setFld F.EP_ST_D3_1 0).resumeHost

/-- D3HOT_ENTRY (R381). -/
def execD3hotEntry (pf : Nat) (s : State) : Host.Outcome State Fault Refusal := live s (fun s => if s.flag F.EP_ST_UP ∧ pf < 2 then s.enterD3 pf else s)

/-- D0_RETURN (R381). -/
def execD0Return (pf : Nat) (s : State) : Host.Outcome State Fault Refusal := live s (fun s => if s.flag F.EP_ST_UP ∧ pf < 2 then s.leaveD3 pf else s)

/-! ## MSI-X -/

/-- The vectors of a function (R387). -/
def vectorsOf (pf : Nat) : Nat := if pf = 0 then 2048 else 32

/-- A vector masked or unmasked; a pending one is sent as soon as it is unmasked and the function may issue (R390). -/
def State.maskVec (s : State) (pf v : Nat) (masked : Bool) : State :=
  let l := (s.unmasked pf).filter (fun x => x != v) ++ (if masked then [] else [v])
  (s.modEp (fun e => if pf = 0 then { e with unmasked0 := l } else { e with unmasked1 := l })).sendPending pf

/-- MSIX_UNMASK (R390): the host writes the mask of a vector. -/
def execMsixUnmask (pf v : Nat) (masked : Bool) (s : State) : Host.Outcome State Fault Refusal :=
  live s (fun s => if s.flag F.EP_ST_UP ∧ pf < 2 ∧ v < vectorsOf pf then s.maskVec pf v masked else s)

/-! ## Configuration space -/

/-- The offset of the PBA of a function (R387). -/
def pbaBase (pf : Nat) : Nat := if pf = 0 then 0x8000 else 0x800

/-- A run of configuration bytes that the spec fixes: first offset, length, value (R385, R386). Capability identifiers are PCIe's (log 63). -/
def State.cfgFixed (s : State) (pf : Nat) : List (Nat × Nat × Nat) :=
  let rev := s.fld F.PKG_ID_STEP_MAJ * 16 + s.fld F.PKG_ID_STEP_MIN
  let ext := fun (a id next : Nat) => (a, 4, id + 2 ^ 16 + next * 2 ^ 20)
  let both : List (Nat × Nat × Nat) :=
    [(0x00, 2, 0x1FC4), (0x02, 2, 0x7840 + pf), (0x08, 1, rev), (0x09, 3, if pf = 0 then 0x010802 else 0x088000), (0x0E, 1, 0x80),
     (0x2C, 2, s.fld F.EP_ID_SUBSYS_VID), (0x2E, 2, s.fld F.EP_ID_SUBSYS_ID), (0x34, 1, 0x40), (0x3D, 1, 0),
     (0x40, 2, 0x5001), (0x50, 2, 0x6011), (0x54, 4, 4), (0x58, 4, pbaBase pf + 4), (0x60, 2, 0x0010), ext 0x100 0x0001 0x148,
     ext 0x148 0x0003 (if pf = 0 then 0x158 else 0), (0x14C, 8, s.reg .PKG_UNIT_ID_LO 0 0)]
  if pf = 0 then
    both ++ [ext 0x158 0x0019 0x188, ext 0x188 0x0025 0x1A0, ext 0x1A0 0x0026 0x1D0, ext 0x1D0 0x002A 0x200, ext 0x200 0x0031 0x220, ext 0x220 0x0027 0]
  else both

/-- Size and low bits of the BAR at a pair of offsets: 64-bit, prefetchable or not (R387); size 0 where the function has none. -/
def barOf (pf ofs : Nat) : Nat × Nat :=
  match pf, ofs / 8 * 8 with
  | 0, 0x10 => (0x4000, 4)
  | 0, 0x20 => (0x10000, 4)
  | _, 0x10 => (if pf = 0 then 0x4000 else 0x10000000, 4)
  | _, 0x18 => (if pf = 0 then 0 else 0x8000000, if pf = 0 then 0 else 0xC)
  | _, 0x20 => (if pf = 0 then 0x10000 else 0x1000, 4)
  | _, _ => (0, 0)

/-- The bytes that the host wrote into the configuration space of a function. -/
def State.cfgWritten (s : State) (pf a : Nat) : Option Byte := Sparse.get none (if pf = 0 then s.ep.cfg0 else s.ep.cfg1) a

/-- The bits of a BAR byte that the host can set: those at and above its size. -/
def barMask (pf a : Nat) : Nat := let b := barOf pf a; if b.1 = 0 then 0 else ((2 ^ 64 - b.1) / 256 ^ (a % 8)) % 256

/-- A BAR's offset: 0x10 to 0x27. -/
def inBars (a : Nat) : Bool := decide (0x10 ≤ a) && decide (a < 0x28)

/-- The bits of a byte of configuration space that R381, R387, R393, R395 and R399 state, as a mask and its value, at PCI Express's places (log 63): no D1, D2 or PME; No_Soft_Reset; vectors;
payload of 512 bytes; function-level reset; link rates, width and ASPM L1 alone; link status; timeout range B; 10-bit tags; the default severities. The severities can be written. -/
def State.cfgBits (s : State) (pf a : Nat) : Nat × Nat :=
  match a with
  | 0x43 => (0xFE, 0)
  | 0x44 => (0x0B, 8 + 3 * (if pf = 0 then s.fld F.EP_ST_D3_0 else s.fld F.EP_ST_D3_1))
  | 0x52 => (0xFF, if pf = 0 then 0xFF else 0x1F)
  | 0x53 => (0x07, if pf = 0 then 7 else 0)
  | 0x64 => (0x07, 2)
  | 0x67 => (0x10, 0x10)
  | 0x6C => (0xFF, 0x06)
  | 0x6D => (0x8F, 0x89)
  | 0x6E => (0x03, 1)
  | 0x72 => (0xFF, s.fld F.EP_ST_SPEED + 16 * (s.fld F.EP_ST_WIDTH % 16))
  | 0x73 => (0x03, s.fld F.EP_ST_WIDTH / 16)
  | 0x84 => (0x1F, 2)
  | 0x86 => (0x03, 3)
  | _ => (0, 0)

/-- The AER status registers of a function (R399): uncorrectable at 0x104, correctable at 0x110. -/
def State.aerByte (s : State) (pf a : Nat) : Option Nat :=
  let u := if pf = 0 then s.ep.aerU0 else s.ep.aerU1
  let c := if pf = 0 then s.ep.aerC0 else s.ep.aerC1
  if 0x104 ≤ a ∧ a < 0x108 then some (u / 256 ^ (a - 0x104) % 256) else if 0x110 ≤ a ∧ a < 0x114 then some (c / 256 ^ (a - 0x110) % 256) else none

/-- Bits of an AER status register cleared by writing 1 to them. -/
def State.aerClear (s : State) (pf a v : Nat) : State :=
  let clr := fun (w base : Nat) => if base ≤ a ∧ a < base + 4 then w - (w &&& (v * 256 ^ (a - base))) else w
  s.modEp (fun e => if pf = 0 then { e with aerU0 := clr e.aerU0 0x104, aerC0 := clr e.aerC0 0x110 } else { e with aerU1 := clr e.aerU1 0x104, aerC1 := clr e.aerC1 0x110 })

/-- The default of the Uncorrectable Error Severity register (R399): fatal for Data Link Protocol, Flow Control Protocol, Receiver Overflow, Malformed TLP and Internal errors. -/
def aerSeverity : Nat := 0x462010

/-- A byte of the configuration space of a function. -/
def State.cfgByteAt (s : State) (pf a : Nat) : Nat :=
  match (s.cfgFixed pf).find? (fun e => decide (e.1 ≤ a) && decide (a < e.1 + e.2.1)) with
  | some e => e.2.2 / 256 ^ (a - e.1) % 256
  | none =>
    let w := (s.cfgWritten pf a).map (fun b => b.toNat)
    if inBars a then (w.getD 0 &&& barMask pf a) + (if a % 8 = 0 then (barOf pf a).2 else 0)
    else if a = 0x04 then setBits (w.getD 0) 2 2 (b2n (if pf = 0 then s.ep.bme0 else s.ep.bme1))
    else match s.aerByte pf a with
      | some b => b
      | none =>
        let m := s.cfgBits pf a
        let b := match w with
          | some b => b
          | none => if a < 0x40 ∨ a = 0x44 ∨ a = 0x68 ∨ a = 0x69 ∨ a = 0x88 then 0
            else if 0x10C ≤ a ∧ a < 0x110 then aerSeverity / 256 ^ (a - 0x10C) % 256 else Config.cfgByte pf a % 256
        (b &&& (255 - m.1)) + m.2

/-- What the host reads of configuration space. -/
def State.cfgRead (s : State) (pf a n : Nat) : Nat := leNat (bytesOf ((List.range n).map (fun i => s.cfgByteAt pf (a + i))))

/-- The timeout that Device Control 2 gives (R395): 100 ms for 0110b, else 50 ms. -/
def ctoMs (v : Nat) : Nat := if v % 16 = 6 then 100 else 50

/-- A byte of configuration space written, with its effect: Bus Master Enable, the power state, a function-level reset, the completion timeout of PF0. -/
def State.cfgWriteByte (s : State) (pf a v : Nat) : State :=
  if (s.cfgFixed pf).any (fun e => decide (e.1 ≤ a) && decide (a < e.1 + e.2.1)) then s
  else if (s.aerByte pf a).isSome then s.aerClear pf a v
  else
    let put := fun (m : Sparse (Option Byte)) => Sparse.set none m a (some (BitVec.ofNat 8 v))
    let s := s.modEp (fun e => if pf = 0 then { e with cfg0 := put e.cfg0 } else { e with cfg1 := put e.cfg1 })
    let bme := if pf = 0 then s.ep.bme0 else s.ep.bme1
    let d3 := if pf = 0 then s.flag F.EP_ST_D3_0 else s.flag F.EP_ST_D3_1
    if a = 0x04 then (if bit v 2 then (if bme then s else s.setBme pf) else if bme then s.clearBme pf else s)
    else if a = 0x44 then (if v % 4 = 3 then (if d3 then s else s.enterD3 pf) else if v % 4 = 0 ∧ d3 then s.leaveD3 pf else s)
    else if a = 0x69 ∧ bit v 7 then (if pf = 0 then s.flrPf0 else s.flrPf1)
    else if a = 0x88 ∧ pf = 0 then s.setFld F.EP_ST_CTO_MS (ctoMs v)
    else s

/-- Configuration space written from an offset on. -/
def State.cfgWrite (s : State) (pf a : Nat) : Bytes → State
  | [] => s
  | b :: t => (s.cfgWriteByte pf a b.toNat).cfgWrite pf (a + 1) t

/-! ## The BARs of the controller and of MSI-X -/

/-- PF0 BAR0 read: the controller's registers; doorbells read 0. -/
def State.bar0Read (s : State) (a n : Nat) : Nat :=
  let k := (s.ctrl s.pf0Id).getD default
  leNat (bytesOf ((List.range n).map (fun i => k.regByte (a + i))))

/-- Bytes of the addresses of PF0's admin queues written. -/
def State.writeAqAddr (s : State) (a : Nat) (b : Bytes) : State :=
  s.modCtrl s.pf0Id (fun k =>
    let old := leBytes 8 k.asq ++ leBytes 8 k.acq
    let new := old.take (a - 0x28) ++ b ++ old.drop (a - 0x28 + b.length)
    { k with asq := leNat (new.take 8), acq := leNat (slice new 8 8) })

/-- PF0 BAR0 written: CC, the admin queue sizes and addresses, and the doorbells (R359, R387). -/
def State.bar0Write (s : State) (a v : Nat) (b : Bytes) : State :=
  if a = 0x14 then s.writeCc s.pf0Id v
  else if 0x28 ≤ a ∧ a + b.length ≤ 0x38 then s.writeAqAddr a b
  else if a = 0x24 then s.setAq (bits v 11 0 + 1) (bits v 27 16 + 1) true
  else if 0x1000 ≤ a ∧ a < 0x1000 + 8 * 257 then
    (if (a - 0x1000) % 8 < 4 then s.ringSq ((a - 0x1000) / 8) v else s.ringCq ((a - 0x1000) / 8) v)
  else s

/-- A byte of the MSI-X BAR of a function: table entries of 16 bytes, whose fourth dword is the mask, then the PBA. -/
def State.msixByteAt (s : State) (pf a : Nat) : Nat :=
  if pbaBase pf ≤ a then (List.range 8).foldl (fun v i => v + b2n ((s.pba pf).contains (8 * (a - pbaBase pf) + i)) * 2 ^ i) 0
  else if a % 16 = 12 then b2n (!(s.unmasked pf).contains (a / 16))
  else (Sparse.get 0 (if pf = 0 then s.ep.msix0 else s.ep.msix1) a).toNat

/-- A byte of the MSI-X BAR written. -/
def State.msixWriteByte (s : State) (pf a v : Nat) : State :=
  if 16 * vectorsOf pf ≤ a then s
  else if a % 16 = 12 then s.maskVec pf (a / 16) (bit v 0)
  else if 12 < a % 16 then s
  else
    let put := fun (m : Sparse Byte) => Sparse.set 0 m a (BitVec.ofNat 8 v)
    s.modEp (fun e => if pf = 0 then { e with msix0 := put e.msix0 } else { e with msix1 := put e.msix1 })

/-- The MSI-X BAR written from an offset on. -/
def State.msixWrite (s : State) (pf a : Nat) : Bytes → State
  | [] => s
  | b :: t => (s.msixWriteByte pf a b.toNat).msixWrite pf (a + 1) t

/-- A request of the host to configuration space (`bar` none), to PF0 BAR0 or to an MSI-X BAR, served; one to a BAR that the function does not have is an Unsupported Request (R387,
R399). The register windows and the scratchpad are reached by
REGISTER_WRITE, RC_READ and PF1_BAR2_ACCESS. During the warm reset of a Rethread PF0 BAR0 shows the held registers and keeps them, doorbells apart (R400). -/
def State.hostRequest (s : State) (pf : Nat) (bar : Option Nat) (a n : Nat) (write : Option Bytes) : State :=
  match bar, write with
  | none, none => s.emit (.cfgCpl pf false (s.cfgRead pf a n))
  | none, some b => (s.cfgWrite pf a b).emit (.cfgCpl pf false 0)
  | some 0, none => if pf = 0 then s.emit (.barData 0 (leBytes n (s.bar0Read a n))) else s
  | some 0, some b => if pf = 0 ∧ (¬ s.epHeld ∨ 0x1000 ≤ a) then s.bar0Write a (leNat b) b else s
  | some 2, _ => if pf = 1 then s else s.aerLog pf 4 20 true
  | some 4, none => s.emit (.barData pf (bytesOf ((List.range n).map (fun i => s.msixByteAt pf (a + i)))))
  | some 4, some b => s.msixWrite pf a b
  | _, none => s.aerLog pf 4 20 true
  | _, some _ => s.aerLog pf 4 20 true

/-- CONFIG_REQUEST (R382): until step 3 ends configuration requests draw Request Retry Status; from then on both functions answer them and accesses to their BARs. -/
def execConfigRequest (pf : Nat) (bar : Option Nat) (addr n : Nat) (write : Option Bytes) (s : State) : Host.Outcome State Fault Refusal :=
  live s (fun s =>
    if ¬ s.flag F.EP_ST_UP ∨ 2 ≤ pf then s
    else if ¬ s.ep.served then (if bar.isNone then s.emit (.cfgCpl pf true 0) else s)
    else s.hostRequest pf bar addr n write)

/-! ## Reads of host memory that fail -/

/-- The error of a host access shown in EP_ERR. -/
def State.epErr (s : State) (status tag pf : Nat) : State :=
  let s := ((s.setFld F.EP_ERR_STATUS status).setFld F.EP_ERR_TAG tag).setFld F.EP_ERR_FUNC pf
  s.setFld F.EP_ERR_VALID 1

/-- A command that has not been carried out ends as it is fetched. -/
def State.failFetch (s : State) (id : CmdId) (word : Nat) : State :=
  match s.takePf0 ⟨none, id.sq, id.cid, 0⟩ .any with
  | some (s, t) => s.completeWith t.cmd 0 word 0 []
  | none => s

/-- The fetch of a queue failed (R396): repeated once from the same head, then the controller has a fatal status. -/
def State.fetchFailed (s : State) (sq : Nat) : State :=
  match (s.ctrl s.pf0Id).bind (fun k => k.sqs.find? (fun q => q.qid == sq)) with
  | none => s
  | some q =>
    if q.retries = 0 then
      s.modCtrl s.pf0Id (fun k => { k with sqs := mapWhere (fun x => x.qid == sq) (fun x => { x with retries := 1 }) k.sqs })
    else s.modCtrl s.pf0Id (fun k => { k with cfs := true })

/-- What a failed read served fails (R396). -/
def State.readFailed (s : State) (why : HostReadWhy) (word : Nat) : State :=
  match why with
  | .atom w _ => s.failWrite w word
  | .fetch sq => s.fetchFailed sq
  | .list id => s.failFetch id word

/-- The read of host memory with a tag: one of those outstanding, or a fetch or list read that the surroundings name (log 63). -/
def State.readOf (s : State) (tag : Nat) (other : Option HostReadWhy) : Option HostReadWhy :=
  match s.ep.reads.find? (fun r => r.1 == tag) with
  | some r => some r.2
  | none => match other with
    | some (.fetch sq) => if s.ep.quar.contains tag then none else some (.fetch sq)
    | some (.list id) => if s.ep.quar.contains tag then none else some (.list id)
    | _ => none

/-- A read of host memory may end so: with an answer, or unanswered once EP_ST.CTO_MS have passed (R395). -/
def State.mayTimeOut (s : State) (tag : Nat) (answered : Bool) : Bool :=
  answered || !(s.ep.reads.any (fun r => r.1 == tag)) || s.tagPast tag (s.fld F.EP_ST_CTO_MS)

/-- A completion for a tag that a function-level reset has given up, or the time it is waited for, is over without a report (R393). -/
def State.forgetTag (s : State) (tag : Nat) : State := (s.modEp (fun e => { e with dropped := e.dropped.filter (fun t => t != tag) })).resumeHost

/-- CPL_TIMEOUT (R396): a read of PF0 times out, or with `answered` completes with Unsupported Request or Completer Abort. -/
def execCplTimeout (tag : Nat) (other : Option HostReadWhy) (answered : Bool) (s : State) : Host.Outcome State Fault Refusal :=
  live s (fun s =>
    if s.ep.dropped.contains tag then s.forgetTag tag
    else if !s.mayTimeOut tag answered then s
    else
    match s.readOf tag other with
    | none => s
    | some why =>
      let s := s.modEp (fun e => { e with reads := e.reads.filter (fun r => r.1 != tag) })
      let s := if answered then s
        else
          let s := ((s.aerLog 0 1 14 false).modEp (fun e => { e with quar := e.quar ++ [tag] })).stampTag tag
          ((s.setEvt F.EP_EVT_CPL_TIMEOUT).bump F.EP_CNT_CPL_TIMEOUT).syncQuar
      let word := if answered then 0x4E02 else 0x4E01
      ((s.epErr word tag 0).readFailed why word).resumeHost)

/-- UNEXPECTED_COMPLETION (R397): a completion for a timed-out read is discarded, and frees its tag. -/
def execUnexpectedCompletion (tag : Nat) (s : State) : Host.Outcome State Fault Refusal :=
  live s (fun s =>
    if s.ep.reads.any (fun r => r.1 == tag) then s
    else if s.ep.dropped.contains tag then s.forgetTag tag
    else
      let s := (s.aerLog 0 2 16 true).modEp (fun e => { e with quar := e.quar.filter (fun t => t != tag) })
      ((s.setEvt F.EP_EVT_UNEXP_CPL).bump F.EP_CNT_UNEXP_CPL).syncQuar.resumeHost)

/-- TAG_QUARANTINE_EXPIRY (R397): 50 ms after the timeout. -/
def execTagQuarantineExpiry (tag : Nat) (s : State) : Host.Outcome State Fault Refusal :=
  live s (fun s => if s.tagPast tag 50 then (s.modEp (fun e => { e with quar := e.quar.filter (fun t => t != tag) })).syncQuar.resumeHost else s)

/-- POISONED_TLP_RECEIVE (R398): a completion with EP set fails what its read served with 0x5405 (`other` `.list` names the command whose fetch or list it is); a poisoned write to a BAR, doorbell or table (`pf` and no
read) changes nothing else. -/
def execPoisonedTlpReceive (pf tag : Nat) (other : Option HostReadWhy) (s : State) : Host.Outcome State Fault Refusal :=
  live s (fun s =>
    let s := (((s.aerLog pf 0 12 true).setEvt F.EP_EVT_POISON_IN).bump F.EP_CNT_POISON_IN).epErr 0x5405 tag pf
    match s.readOf tag other with
    | none => s
    | some why =>
      let s := s.modEp (fun e => { e with reads := e.reads.filter (fun r => r.1 != tag) })
      (match why with
        | .fetch _ => s
        | _ => s.readFailed why 0x5405).resumeHost)

end Sys2Proof.Machine
end

