-- ==== Sys2Proof/Machine/Thermal.lean ====
section
/-! DEFINITION. Current sensing, the vault budget, the thermal model and its levels (R431 to R444, R408). Powers are summed in nanowatts. -/

namespace Sys2Proof.Machine

/-! ## IMON -/

/-- What a sample makes of a channel. -/
structure ImonOut where
  ch : ImonCh
  microAmp : Int
  deriving DecidableEq, Repr

/-- A sample of a channel (R431, R432): in fault its current is IMAX; a fault needs 200 good samples in a row to clear. -/
def imonSample (c : ImonCh) (code gain ofs imaxDa : Nat) : ImonOut :=
  let same := if code = c.code then c.same + 1 else 0
  let bad := if code < 8 ∨ 4088 ≤ code ∨ gain = 0 then 1 else if 20 ≤ same then 2 else 0
  let good := if bad = 0 then c.good + 1 else 0
  let fault := if bad ≠ 0 then bad else if c.fault ≠ 0 ∧ good < 200 then c.fault else 0
  let cur : Int := if fault = 0 then ((code : Int) - ofs) * gain else (imaxDa : Int) * 100000
  ⟨{ code := code, same := same, good := good, fault := fault }, cur⟩

/-- Before the pricking is accepted every channel is taken at IMAX, without a judgement (R432). -/
def imonEarly (c : ImonCh) (code imaxDa : Nat) : ImonOut := ⟨{ c with code := code, same := 0, good := 0, fault := 0 }, (imaxDa : Int) * 100000⟩

/-- A quantity as an unsigned field shows it, rounded down (log 82): free where it is negative, for which the field's row gives no code. -/
def State.shown (s : State) (v : Int) : Nat := if v < 0 then s.freeVal % 2 ^ 32 else v.toNat

/-- A channel of the package sampled: its state, its status register, its power. -/
def State.samplePkg (s : State) (k code : Nat) : State × Int :=
  let imax := s.fld F.PWR_IMON_CFG_IMAX_DA 0 k
  let c := s.therm.imonPkg.getD k default
  let o := if s.prk.isNone then imonEarly c code imax
    else imonSample c code (s.fld F.PWR_IMON_CFG_GAIN_UA 0 k) (s.fld F.PWR_IMON_CFG_OFFSET 0 k) imax
  let s := s.modTherm (fun t => { t with imonPkg := setAt t.imonPkg k o.ch })
  let s := (s.setFld F.PWR_IMON_ST_MA (s.shown (o.microAmp / 1000)) 0 k).tookFree.setFld F.PWR_IMON_ST_CODE code 0 k
  let s := (s.setFld F.PWR_IMON_ST_FAULT (b2n (o.ch.fault != 0)) 0 k).setFld F.PWR_IMON_ST_CAUSE o.ch.fault 0 k
  let s := if o.ch.fault ≠ 0 then s.setEvt F.PWR_EVT_IMON_FAULT else s
  (s, o.microAmp * s.fld F.PWR_IMON_CFG_VOLT_MV 0 k)

/-- A channel of a motif sampled. -/
def State.sampleLpm (s : State) (m j code : Nat) : State × Int :=
  let imax := s.fld F.LPM_IMON_CFG_IMAX_DA m j
  let p := s.therm.imonLpm.getD m default
  let c := if j = 0 then p.1 else p.2
  let o := if s.prk.isNone then imonEarly c code imax
    else imonSample c code (s.fld F.LPM_IMON_CFG_GAIN_UA m j) (s.fld F.LPM_IMON_CFG_OFFSET m j) imax
  let put := fun (q : ImonCh × ImonCh) => if j = 0 then (o.ch, q.2) else (q.1, o.ch)
  let s := s.modTherm (fun t => { t with imonLpm := setAt t.imonLpm m (put (t.imonLpm.getD m default)) })
  let s := (s.setFld F.LPM_IMON_ST_MA (s.shown (o.microAmp / 1000)) m j).tookFree.setFld F.LPM_IMON_ST_CODE code m j
  let s := (s.setFld F.LPM_IMON_ST_FAULT (b2n (o.ch.fault != 0)) m j).setFld F.LPM_IMON_ST_CAUSE o.ch.fault m j
  let s := if o.ch.fault ≠ 0 then s.setEvt F.PWR_EVT_IMON_FAULT else s
  (s, o.microAmp * s.fld F.LPM_IMON_CFG_VOLT_MV m j)

/-- Both channels of a motif in fault: LPM_ST.IMON_LOST, and for how many stitches in a row (R433). -/
def State.noteLost (s : State) (m : Nat) : State :=
  let lost := s.flag F.LPM_IMON_ST_FAULT m 0 && s.flag F.LPM_IMON_ST_FAULT m 1
  let s := s.modTherm (fun t => { t with lostRun := setAt t.lostRun m (if lost then t.lostRun.getD m 0 + 1 else 0) })
  s.setFld F.LPM_ST_IMON_LOST (b2n lost) m

/-- The part of VDDQ's power that a motif takes: by the DRAM bytes moved in the stitch, in equal shares where none were (R428). -/
def vddqShare (power : Rat) (bytes : List Nat) (motifs m : Nat) : Rat :=
  let total := bytes.foldl (· + ·) 0
  if total = 0 then power / motifs else power * ((bytes.getD m 0 : Nat) : Rat) / ((total : Nat) : Rat)

/-- Power of the stitch added to the nodes (R428, R431). -/
def State.addPower (s : State) (sram sdh vddq io : Int) (lpm : List (Int × Int)) (bytes : List Nat) : State :=
  let n := s.fuses.caps.motifs
  let one := fun (m : Nat) (a : Rat × Rat × Rat) =>
    let p := lpm.getD m (0, 0)
    (a.1 + (p.1 : Rat), a.2.1 + (p.2 : Rat) + (sdh : Rat) / n, a.2.2 + (sram : Rat) / n + vddqShare vddq (bytes.take n) n m)
  let acc := (List.range 8).map (fun m => let a := s.therm.acc.getD m (0, 0, 0); if m < n then one m a else a)
  s.modTherm (fun t => { t with acc := acc, accPkg := t.accPkg + (io : Rat), samples := t.samples + 1 })

/-- The motifs sampled in order. -/
def State.sampleMotifs (s : State) (codes : List (Nat × Nat)) : State × List (Int × Int) :=
  s.motifs.foldl (fun a m =>
    let c := codes.getD m (0, 0)
    let r := a.1.sampleLpm m 0 c.1
    let q := r.1.sampleLpm m 1 c.2
    (q.1.noteLost m, a.2 ++ [(r.2, q.2)])) (s, [])

/-- IMON_SAMPLE (R431, R432): `pkg` the codes of the package channels, `lpm` those of each motif, `bytes` the DRAM bytes that each motif moved. -/
def execImonSample (overrun : Bool) (pkg : List Nat) (lpm : List (Nat × Nat)) (bytes : List Nat) (s : State) : Host.Outcome State Fault Refusal :=
  live s (fun s => s.slotFire 2 0x03 overrun (fun s _ =>
    let a := s.samplePkg 0 (pkg.getD 0 0)
    let b := a.1.samplePkg 1 (pkg.getD 1 0)
    let c := b.1.samplePkg 2 (pkg.getD 2 0)
    let d := c.1.samplePkg 3 (pkg.getD 3 0)
    let r := d.1.sampleMotifs lpm
    let total := a.2 + b.2 + c.2 + d.2 + r.2.foldl (fun x p => x + p.1 + p.2) 0
    ((r.1.addPower a.2 b.2 c.2 d.2 r.2 bytes).setFld F.PWR_ST_TOTAL_W10 (min 65535 (r.1.shown (total / 100000000)))).tookFree))

/-- A motif is lost to the current measurement for more than 200 stitches (R433). -/
def State.imonGone (s : State) (m : Nat) : Bool := s.prk.isSome && decide (200 < s.therm.lostRun.getD m 0)

/-- IMON_FORCED (R433): the motif's next thermal step forces its nodes. -/
def execImonForced (motif : Nat) (s : State) : Host.Outcome State Fault Refusal :=
  live s (fun s =>
    if s.hasMotif motif && s.imonGone motif then
      ((s.modTherm (fun t => { t with force := setAt t.force motif true })).setFld F.LPM_ST_FORCED 1 motif).setEvt F.THM_EVT_IMON_LOST
    else s)

/-! ## The vault budget -/

/-- The vault budget (R436): energy in J, power in W, rate in MB/s. -/
def budgetOf (e : Rat) (w fix rate cap : Nat) : Nat :=
  let need : Rat := (w : Rat) * fix / 1000
  let per : Rat := (w : Rat) * 1048576 / 1000000 / rate
  min ((e * 10 / 13 - need) / per).floor.toNat cap

/-- The energy used at phase 600 (R435). -/
def State.energyNow (s : State) : Rat := if 3 ≤ s.fld F.PWR_HU_ST_FAILS then 0 else s.hu.energy

/-- VAULT_BUDGET (R436): B recomputed, the admission limits with it, and waiting writes admitted where they may be; a vault that R105 no longer keeps is released first (log 67). -/
def execVaultBudget (overrun : Bool) (s : State) : Host.Outcome State Fault Refusal :=
  live s (fun s => s.slotFire 3 0x04 overrun (fun s _ =>
    let s := s.settleVault
    let e := s.energyNow
    let b := budgetOf e (max 1 (s.fld F.PWR_HU_CFG_DUMP_W)) (s.fld F.PWR_HU_CFG_T_FIX_MS) (max 1 (s.fld F.PWR_HU_CFG_RATE_MBS)) (s.fld F.MED_VAULT_ST_CAP_MIB)
    let was := s.budget
    let s := (s.setFld F.PWR_HU_ST_ENERGY_J (s.shown e.floor)).tookFree.setFld F.PKG_ADMIT_LIM_BUDGET_MIB b
    let s := if b = 0 ∧ was ≠ 0 then s.setEvt F.PWR_EVT_BUDGET_ZERO else s
    ((s.syncAdmit true).admitWaiting).syncWarn))

/-! ## The model -/

/-- Ambient is read from INLET: written within the last 200,000 stitches (R440). -/
def State.inletFresh (s : State) : Bool := match s.therm.inletAt with | some t => decide (s.num ≤ t + 200000) | none => false

/-- Ambient in degrees Celsius (R440). -/
def State.ambient (s : State) : Rat :=
  let ofs : Rat := (s.sfld F.THM_USER_AMB_OFS : Rat) / 10
  if s.inletFresh then (s.sfld F.THM_AMB_INLET : Rat) / 10 + ofs else (s.fld F.THM_CTL_AMB_FALLBACK : Rat) + ofs

/-- One step of a node: its temperature, power in W, neighbours with their resistances in K/W, capacitance in J/K (R439). -/
def nodeStep (t p c : Rat) (nb : List (Rat × Rat)) : Rat := t + (p - nb.foldl (fun a n => a + (t - n.1) / n.2) 0) / c / 1000

/-- The mean power of a node in W over the samples since the last step. -/
def State.meanW (s : State) (nw : Rat) : Rat := if s.therm.samples = 0 then 0 else nw / s.therm.samples / 1000000000

/-- A thousandth of a field. -/
def State.milli (s : State) (f : Fld Reg) (m : Nat) : Rat := (s.fld f m : Rat) / 1000

/-- The nodes of a motif after a step (R439), from the values before it; `p` is the package node. -/
def State.motifStep (s : State) (m : Nat) (n : Nodes) (p : Rat) : Nodes :=
  let a := s.therm.acc.getD m (0, 0, 0)
  let r0 := s.milli F.LPM_FACT_R_R_03 m
  let r1 := s.milli F.LPM_FACT_R_R_13 m
  let r2 := s.milli F.LPM_FACT_R_R_23 m
  { n0 := nodeStep n.n0 (s.meanW a.1) (s.milli F.LPM_FACT_C_C0 m) [(n.n3, r0)],
    n1 := nodeStep n.n1 (s.meanW a.2.1) (s.milli F.LPM_FACT_C_C1 m) [(n.n3, r1)],
    n2 := nodeStep n.n2 (s.meanW a.2.2) (s.milli F.LPM_FACT_C_C2 m) [(n.n3, r2)],
    n3 := nodeStep n.n3 0 (s.milli F.LPM_FACT_C_C3 m) [(n.n0, r0), (n.n1, r1), (n.n2, r2), (p, s.milli F.LPM_FACT_R_R_3P m)] }

/-- The package node after a step: VDD_IO power, every motif's N3, and ambient through R_HS of at least 10 mK/W (R438, R439, R441). -/
def State.pkgStep (s : State) : Rat :=
  let hs : Rat := (max 10 (s.fld F.THM_USER_R_HS) : Nat) / 1000
  let c := s.milli F.THM_PKG_C_PKG 0 + (s.fld F.THM_USER_C_HS : Rat) / 10
  let nb := s.motifs.map (fun m => ((s.therm.nodes.getD m default).n3, s.milli F.LPM_FACT_R_R_3P m))
  nodeStep s.therm.pkg (s.meanW s.therm.accPkg) c (nb ++ [(s.ambient, hs)])

/-- The service core of a motif runs: hart 8 is not held. -/
def State.serviceRuns (s : State) (m : Nat) : Bool := s.hasMotif m && bit (s.fld F.CPU_ST_RUNNING m) 8

/-- A temperature in 0.1 °C, rounded down. -/
def tenths (t : Rat) : Int := (t * 10).floor

/-- A power in 0.1 W, as a register of 16 bits shows it (log 82). -/
def State.watts10 (s : State) (w : Rat) : Nat := min 65535 (s.shown (w * 10).floor)

/-- The temperature registers of a motif and of the package. -/
def State.syncTemps (s : State) : State :=
  let s := s.setSfld F.THM_PKG_T_PKG (tenths s.therm.pkg)
  s.each s.motifs (fun s m =>
    let n := s.therm.nodes.getD m default
    let s := (s.setSfld F.LPM_TEMP_N0 (tenths n.n0) m).setSfld F.LPM_TEMP_N1 (tenths n.n1) m
    (s.setSfld F.LPM_TEMP_N2 (tenths n.n2) m).setSfld F.LPM_TEMP_N3 (tenths n.n3) m)

/-- The mean powers of the step shown in LPM_POWER. -/
def State.syncPowers (s : State) (m : Nat) : State :=
  let a := s.therm.acc.getD m (0, 0, 0)
  let p0 := s.meanW a.1
  let p1 := s.meanW a.2.1
  let p2 := s.meanW a.2.2
  let s := (s.setFld F.LPM_POWER_P0_W10 (s.watts10 p0) m).setFld F.LPM_POWER_P1_W10 (s.watts10 p1) m
  ((s.setFld F.LPM_POWER_P2_W10 (s.watts10 p2) m).setFld F.LPM_POWER_TOTAL_W10 (s.watts10 (p0 + p1 + p2)) m).tookFree

/-- SHUTDOWN as it is used: at most 118 (spec/18, Corner cases). -/
def State.shutdownC (s : State) : Nat := min 118 (s.fld F.THM_THRESH_SHUTDOWN)

/-- The nodes of a motif that R433 forces at its step, at the shut-down threshold. -/
def State.forceNodes (s : State) (m : Nat) : State :=
  if s.imonGone m || s.therm.force.getD m false then
    let t : Rat := s.shutdownC
    let s := s.modTherm (fun c => { c with force := setAt c.force m (s.imonGone m) })
    let s := s.modTherm (fun c => { c with nodes := setAt c.nodes m { c.nodes.getD m default with n0 := t, n1 := t, n2 := t } })
    (s.setFld F.LPM_ST_FORCED 1 m).setEvt F.THM_EVT_IMON_LOST
  else (s.modTherm (fun c => { c with force := setAt c.force m false })).setFld F.LPM_ST_FORCED 0 m

/-- The model one millisecond on (R439, R441): motifs whose service core runs, and the package node with motif 0 (log 82). -/
def State.stepModel (s : State) : State :=
  let old := s.therm.nodes
  let p := s.therm.pkg
  let nodes := (List.range 8).map (fun m => let n := old.getD m default; if s.serviceRuns m then s.motifStep m n p else n)
  let pkg := if s.serviceRuns 0 then s.pkgStep else p
  let l := s.motifs.filter (fun m => s.serviceRuns m)
  let s := s.each l (fun s m => s.syncPowers m)
  let s := s.modTherm (fun t => { t with nodes := nodes, pkg := pkg, acc := List.replicate 8 (0, 0, 0), accPkg := 0, samples := 0 })
  (s.each l (fun s m => s.forceNodes m)).syncTemps

/-! ## Levels -/

/-- The junction temperature of a motif (R439). -/
def Nodes.junction (n : Nodes) : Rat := max n.n0 (max n.n1 n.n2)

/-- The hottest motif and its junction temperature; the lowest motif where several are (log 82). -/
def State.hottest (s : State) : Nat × Rat :=
  s.motifs.foldl (fun b m => let t := (s.therm.nodes.getD m default).junction; if b.2 < t then (m, t) else b)
    (0, (s.therm.nodes.getD 0 default).junction)

/-- T_MAX in 0.1 °C. -/
def State.tMax (s : State) : Int := s.sfld F.THM_ST_T_MAX

/-- The sampler's THERMAL payload: T_MAX and motif. -/
def State.thermPayload (s : State) : Bytes := leBytes 2 (ofSigned 16 s.tMax) ++ bytesOf [s.fld F.THM_ST_HOT_MOTIF]

/-- The stitches of NOTICE_MS; 0 acts as 1. -/
def State.noticeStitches (s : State) : Nat := 200 * max 1 (s.fld F.THM_CTL_NOTICE_MS)

/-- The connections of a motif that carried a request within the last NOTICE_MS, or a WRITE. -/
def State.activeConns (s : State) (writes : Bool) (m : Nat) : List Conn :=
  s.net.conns.filter (fun c => c.motif == m && (c.state == ConnState.rts || c.state == ConnState.resync) &&
    let t := if writes then c.wrote else c.heard
    decide (0 < t) && decide (s.num ≤ t + s.noticeStitches))

/-- The advised rate of a motif in Mb/s (R443), rounded down (log 82): what ADMIT_ATOMS of 4,096 bytes in 5 µs give, divided by the connections that wrote; free where none did. -/
def State.advisedRate (s : State) (m : Nat) : Nat :=
  let n := (s.activeConns true m).length
  if n = 0 then s.freeVal % 2 ^ 32 else max 1 (s.fld F.THM_ENF_ADMIT_ATOMS) * 4096 * 8 / 5 / n

/-- Vendor congestion notices of a level to the active connections (R333, R443). -/
def State.notices (s : State) (level : Nat) : State :=
  s.each s.motifs (fun s m =>
    let l := s.activeConns false m
    if l.isEmpty then s
    else
      let rate := if level = 1 then 0 else s.advisedRate m
      (s.each l (fun s c => s.emit (.notice c.id (noticeBytes level rate)))).tookFree)

/-- The cap on the application cores of every motif (R444). -/
def State.capClocks (s : State) (on : Bool) : State := s.each s.motifs (fun s m => s.setFld F.LPM_ST_CLK_CAP (b2n on) m)

/-- WARNING entered. -/
def State.warnLevel (s : State) : State := ((s.setFld F.THM_ST_LEVEL 1).setEvt F.THM_EVT_WARN).notices 1

/-- Notices of a new level begin at the next stitch, as in the example of R444. -/
def State.noticesDue (s : State) : State :=
  let n := s.num + 1
  s.modTherm (fun t => { t with noticeAt := n })

/-- REQUEST entered (R442). -/
def State.requestLevel (s : State) : State :=
  let s := if s.fld F.THM_ST_LEVEL = 0 then s.warnLevel else s
  let s := s.modTherm (fun t => { t with grace := 0 })
  ((s.setFld F.THM_ST_LEVEL 2).setEvt F.THM_EVT_THROTTLE).noticesDue

/-- The cause of a THERMAL_ENFORCE record (R462): 1 the model, 2 the DIMMs, 3 both; free among them where neither holds at the step (log 82). -/
def State.enforceCause (s : State) : Nat :=
  let c := s.fld F.THM_ST_CAUSE_MODEL + 2 * s.fld F.THM_ST_CAUSE_DIMM
  if c = 0 then 1 + s.freeVal % 3 else c

/-- ENFORCED entered: caps, event, record, and notices of level 3 due (R442, R444). -/
def State.enforceLevel (s : State) : State :=
  let cause := s.enforceCause
  let s := s.tookFree
  let s := ((s.setFld F.THM_ST_LEVEL 3).capClocks true).setEvt F.THM_EVT_ENFORCE
  (s.sample 0x000B (s.thermPayload ++ bytesOf [cause])).noticesDue

/-- REQUEST or ENFORCED left: caps, notices and ECN forcing end, and waiting writes are admitted. -/
def State.releaseLevel (s : State) (cold : Bool) : State :=
  let s := ((s.setFld F.THM_ST_LEVEL (if cold then 0 else 1)).capClocks false).setEvt F.THM_EVT_RELEASE
  (s.modTherm (fun t => { t with grace := 0, enfDebt := List.replicate 8 0, enfUsed := List.replicate 8 0 })).admitWaiting

/-- Thermal shut-down: its record, then the fail-stop (R442). -/
def State.thermalStop (s : State) : State := (s.sample 0x000C (s.thermPayload ++ bytesOf [0])).failStop 0x7207

/-- The level judged on T_MAX and the DIMM condition (R442); `expired` says that GRACE_MS has elapsed. -/
def State.judgeLevel (s : State) (expired : Bool) : State :=
  let t := s.tMax
  let warn : Int := s.fld F.THM_THRESH_WARN * 10
  let thr : Int := s.fld F.THM_THRESH_THROTTLE * 10
  if s.mode = 5 then s
  else if (s.shutdownC : Int) * 10 ≤ t then s.thermalStop
  else
    match s.fld F.THM_ST_LEVEL with
    | 0 => if thr ≤ t ∨ s.therm.dimm then s.requestLevel else if warn ≤ t then s.warnLevel else s
    | 1 => if thr ≤ t ∨ s.therm.dimm then s.requestLevel else if t < warn - 50 then s.setFld F.THM_ST_LEVEL 0 else s
    | l => if t < thr - 50 ∧ ¬ s.therm.dimm then s.releaseLevel (decide (t < warn - 50)) else if l = 2 ∧ expired then s.enforceLevel else s

/-- DIMM_TEMP_READ (R408): the channels of a motif above 85 °C are HOT, and one at or above TEMP_CRIT shows in DRM_EVT. -/
def State.readDimms (s : State) (m : Nat) (temps : List Int) : State :=
  let hot := (List.range 4).foldl (fun v c => v + b2n (decide (85 < temps.getD c 0)) * 2 ^ c) 0
  let s := s.setFld F.DRM_ST_HOT hot m
  if temps.any (fun t => decide ((s.fld F.DRM_CFG_TEMP_CRIT m : Int) ≤ t)) then s.setEvt F.DRM_EVT_HOT m else s

/-- The DIMM condition (R442): some channel at or above TEMP_CRIT; it ends when every channel is below TEMP_CRIT - 5 °C. -/
def State.dimmCondition (s : State) (temps : List (List Int)) : Bool :=
  let crit := fun (m : Nat) => (s.fld F.DRM_CFG_TEMP_CRIT m : Int)
  let hits := fun (d : Int) => s.motifs.any (fun m => ((temps.getD m []).take 4).any (fun t => decide (crit m - d ≤ t)))
  hits 0 || (s.therm.dimm && hits 5)

/-- The health log's minutes at or above WARN and THROTTLE (R442, R377). -/
def State.countMinutes (s : State) : State :=
  let t := s.tMax
  let warm := decide ((s.fld F.THM_THRESH_WARN : Int) * 10 ≤ t)
  let hot := decide ((s.fld F.THM_THRESH_THROTTLE : Int) * 10 ≤ t)
  let s := s.modTherm (fun c => { c with warnMs := c.warnMs + b2n warm, throttleMs := c.throttleMs + b2n hot })
  (s.setFld F.THM_TIME_WARN_MIN (min 0xFFFFFFFF (s.therm.warnMs / 60000))).setFld F.THM_TIME_THROTTLE_MIN (min 0xFFFFFFFF (s.therm.throttleMs / 60000))

/-- THERMAL_STEP (R408, R433, R439, R442): `dimms` are the temperatures of the four channels of each motif. -/
def execThermalStep (overrun : Bool) (dimms : List (List Int)) (s : State) : Host.Outcome State Fault Refusal :=
  live s (fun s => s.slotFire 4 0x05 overrun (fun s _ =>
    let s := if s.inletFresh then s else s.setEvt F.THM_EVT_AMB_STALE
    let s := s.stepModel
    let s := s.each s.motifs (fun s m => s.readDimms m ((dimms.getD m []).take 4))
    let dimm := s.dimmCondition dimms
    let s := s.modTherm (fun t => { t with dimm := dimm, grace := if s.fld F.THM_ST_LEVEL = 2 then t.grace + 1 else 0 })
    let h := s.hottest
    let s := (s.setSfld F.THM_ST_T_MAX (tenths h.2)).setFld F.THM_ST_HOT_MOTIF h.1
    let s := (s.setFld F.THM_ST_CAUSE_MODEL (b2n (decide ((s.fld F.THM_THRESH_THROTTLE : Int) * 10 ≤ tenths h.2)))).setFld F.THM_ST_CAUSE_DIMM (b2n dimm)
    ((s.countMinutes).judgeLevel false).syncWarn))

/-- THROTTLE_GRACE_EXPIRY (R442): GRACE_MS have elapsed in REQUEST at a step, which is that of this stitch. -/
def execThrottleGraceExpiry (s : State) : Host.Outcome State Fault Refusal :=
  live s (fun s => if s.fld F.THM_ST_LEVEL = 2 ∧ s.fld F.THM_CTL_GRACE_MS ≤ s.therm.grace ∧ 4 ∈ s.stc.slots then s.judgeLevel true else s)

/-- Notices of level 2 or 3 sent, and the next ones due after NOTICE_MS (R443). -/
def State.sendNotices (s : State) (level : Nat) : State :=
  let n := s.num + s.noticeStitches
  (s.notices level).modTherm (fun t => { t with noticeAt := n })

/-- THERMAL_NOTICE (R443): the notices of REQUEST or ENFORCED are due. -/
def execThermalNotice (s : State) : Host.Outcome State Fault Refusal :=
  live s (fun s => let l := s.fld F.THM_ST_LEVEL; if (l = 2 ∨ l = 3) ∧ s.mode ≠ 5 ∧ s.therm.noticeAt ≤ s.num then s.sendNotices l else s)

/-- INLET_STALE (R440): INLET has not been written for 200,000 stitches. -/
def execInletStale (s : State) : Host.Outcome State Fault Refusal :=
  live s (fun s => if s.inletFresh then s else (s.modTherm (fun t => { t with inletAt := none })).setEvt F.THM_EVT_AMB_STALE)

/-- A write of THM_AMB: INLET, and its period starts again (R440). -/
def State.writeAmb (s : State) (value : Nat) : State :=
  let n := s.num
  (s.softWrite .THM_AMB 0 0 value).modTherm (fun t => { t with inletAt := some n })

/-- A write of THM_THRESH whose thresholds lie closer than 5 °C is discarded (spec/18, Corner cases). -/
def State.writeThresh (s : State) (value : Nat) : State :=
  if bits value 15 8 < bits value 7 0 + 5 ∨ bits value 23 16 < bits value 15 8 + 5 then s else s.softWrite .THM_THRESH 0 0 value

end Sys2Proof.Machine
end

