-- ==== Sys2Proof/Machine/Reset.lean ====
section
/-! DEFINITION. Resets (R13, R99, R102, R107): power-on reset, package warm reset, that of a Rethread, and motif reset with its bring-up. -/

namespace Sys2Proof.Machine

/-! ## Registers -/

/-- What a reset of a kind leaves in a register (R13, R14, R107): fields whose Reset column lists it take their reset values; what fuses gave stays but for power-on
reset. -/
def Reg.resetBy (r : Reg) (k : ResetKind) (v : Nat) : Nat :=
  let kept := fun (f : FieldSpec) => f.src == .hw && f.acc == .ro && !(k == .powerOn)
  r.spec.fields.foldl (fun v f => if f.letters.has k && !(kept f) then setBits v f.hi f.lo f.reset else v) v

/-- The registers that a test picks, after a reset of a kind. -/
def State.resetRegs (s : State) (k : ResetKind) (p : Reg → Nat → Bool) : State :=
  let one := fun (e : Nat × Word64) =>
    match regOfAddr e.1 with
    | none => some e
    | some (r, m, _) =>
      if p r m then
        let v := BitVec.ofNat 64 (r.resetBy k e.2.toNat)
        if v = r.resetVal then none else some (e.1, v)
      else some e
  { s with regs := s.regs.filterMap one }

/-- The rail nominal voltages as VOLT_MV holds them after a reset (R428). -/
def State.nominalVolts (s : State) : State :=
  let s := s.each ((List.range 4).zip [800, 1200, 1100, 1800]) (fun s p => s.setFld F.PWR_IMON_CFG_VOLT_MV p.2 0 p.1)
  s.each s.motifs (fun s m => (s.setFld F.LPM_IMON_CFG_VOLT_MV 750 m 0).setFld F.LPM_IMON_CFG_VOLT_MV 900 m 1)

/-- Lanes that were fenced three times stay fenced until power-on reset (R214). -/
def State.keepFences (s : State) (m : Nat) : State :=
  let lanes := (List.range 96).foldl (fun v n => putBit v n (decide (3 ≤ Sparse.get 0 s.cip.fences (96 * m + n)))) 0
  if lanes = 0 then s else s.setFenced m lanes

/-! ## What a package warm reset takes with it -/

/-- The maps as the checkpoint and the durable transactions give them (R94, R239, R240). -/
def MediaSt.recovered (d : MediaSt) : Maps := (d.txns.filter (fun t => t.durable)).foldl (fun m t => m.applyTxn t.recs) d.ckpt

/-- The maps without what no durable transaction has: PACKED entries and PACKING pages are FREE and UNMAPPED (R154, R237). -/
def Maps.unpacked (m : Maps) : Maps := { m with ctab := m.ctab.filter (fun p => p.2.state != 1), mmap := m.mmap.filter (fun p => p.2.state != 1) }

/-- Media management after a reset: what is on flash stays. In a Rethread the maps stay too. -/
def MediaSt.afterReset (d : MediaSt) (keep : Bool) : MediaSt :=
  { MediaSt.reset with
    maps := if keep then d.maps.unpacked else d.recovered, ckpt := d.ckpt, txns := d.txns.filter (fun t => t.durable), nextTxn := d.nextTxn,
    staging := d.staging.filter (fun e => !e.copies.isEmpty), entrySeq := d.entrySeq, vaultA := d.vaultA, vaultB := d.vaultB }

/-- A module whose port and link are down. -/
def Module.portDown (m : Module) (now : Nat) : Module := { m with en := false, ready := false, linkUp := false, downAt := now }

/-- A module whose queues go on with what is posted to them done with. -/
def Module.drained (m : Module) : Module := { m with freed := m.posted, heads := m.posted }

/-- The bobbin side after a reset: commands and reads are gone, first erases still wait; links go down but for a Rethread. -/
def BobSt.afterReset (b : BobSt) (keep : Bool) (now : Nat) : BobSt :=
  { BobSt.reset with
    modules := if keep then b.modules.map Module.drained else b.modules.map (fun m => m.portDown now), nextCid := b.nextCid,
    heldCmds := b.heldCmds.filter (fun c => decide (c.why = BobWhy.eraseFree)), spares := b.spares, nextJob := b.nextJob }

/-- The PF0 controller after a package warm reset: DISABLED, with what it has counted since power-on (R377). -/
def Ctrl.renewed (k : Ctrl) : Ctrl :=
  { Ctrl.pf0 k.id with
    unitsRead := k.unitsRead, unitsWritten := k.unitsWritten, reads := k.reads, writes := k.writes, mediaErrs := k.mediaErrs }

/-- The host queues after a reset: a Rethread keeps the PF0 controller with its queues and latched doorbells (R102, R373). -/
def HqSt.afterReset (h : HqSt) (keep : Bool) : HqSt :=
  let pf0 := h.ctrls.filter (fun k => !k.fabrics)
  { HqSt.reset with
    ctrls := if keep then pf0 else pf0.map Ctrl.renewed, cmds := if keep then h.cmds.filter (fun c => pf0.any (fun k => k.id == c.id.ctl)) else [],
    cpls := if keep then h.cpls.filter (fun c => pf0.any (fun k => k.id == c.cmd.ctl)) else [], fwc := if keep then h.fwc else [], attach := h.attach, unsafeOffs := h.unsafeOffs }

/-- The endpoint after a reset: a Rethread keeps link, configuration space and MSI-X tables (R400). -/
def EpSt.afterReset (e : EpSt) (keep : Bool) : EpSt := if keep then { e with reads := [], todo := [] } else { EpSt.reset with perst := e.perst }

/-- The thermal model through a package warm reset: node temperatures are held (R441). -/
def ThermSt.afterReset (t : ThermSt) : ThermSt :=
  { ThermSt.reset with nodes := t.nodes, pkg := t.pkg, warnMs := t.warnMs, throttleMs := t.throttleMs }

/-- The registers that a Rethread's warm reset keeps beside those whose rows say so: of the host link, the PF0 controller and the root-port links (R102; log 19). -/
def rethreadKeeps (r : Reg) : Bool := r = .EP_ST ∨ r = .HQ_ST ∨ r = .BOB_PORT_ST ∨ r = .BOB_MOD_ST

/-- Every line of the map caches written back (R107). -/
def State.writeBackAll (s : State) : State :=
  s.each ((s.ms.lines ++ s.ms.victims ++ s.ms.stalled).filter (fun c => c.dirty)) State.writeBack

/-- The part of a package warm reset that is the same for each of its causes: the state beside the registers. `keep` says that it ends a Rethread. -/
def State.wipePackage (s : State) (keep : Bool) : State :=
  let now := s.num
  let s := { s with eip := [], prk := none, txOff := false, tv := s.tv.filter (fun e => e.1 / 65536 = 0 ∨ 4 ≤ e.1 / 65536), rpl := ⟨[], []⟩, eng := EngSt.reset, pair := PairSt.reset }
  let s := s.modStc (fun c => { c with
    outRun := 0, holdoverAt := 0, relocking := false, disagreePair := 0, agreePair := 0, skew := 0 })
  let s := s.modTherm ThermSt.afterReset
  let s := s.modHu (fun h => { h with reading := false, owed := if keep then some now else none, energy := 0, dumpDone := false })
  let s := s.modDp (fun d => { DataSt.reset with nextWrite := d.nextWrite, arrivals := d.arrivals })
  let s := s.modMed (fun d => d.afterReset keep)
  let s := s.modBob (fun b => b.afterReset keep now)
  let s := s.modHq (fun h => h.afterReset keep)
  let s := s.modEp (fun e => e.afterReset keep)
  let s := s.modNet (fun n => { n with conns := if keep then n.conns.map Conn.toShadow else [], missq := [], revoking := none, xoff := [], paused := [], rnrWait := [], haves := [], held := [], late := [] })
  let s := s.modCip (fun c => { CipSt.reset with gens := c.gens, fences := c.fences })
  s.modMs (fun d => { MemSt.reset with poison := d.poison, errs := d.errs })

/-- PACKAGE_WARM_RESET (R13, R99, R102, R107): transmission stops, head-alive falls, every register but those kept takes its reset value, and a Winding of a kind begins;
the stitch logic counts on (R46), but a PTP source is lost with PTP_VALID (R52); `last` is the cause that PKG_RST_CAUSE shows. -/
def State.packageReset (s : State) (kind last : Nat) : State :=
  let keep := decide (kind = 2)
  let old := s.mode
  let prev := if old = 0 then s.fld F.PKG_MODE_PREV else old
  let s := s.stopTransmission.abandonFlashOp
  let s := if keep then s.writeBackAll else s
  let avail := if keep then s.fld F.EP_CTL_PF0_AVAIL else 0
  let s := ((s.resetRegs .warm (fun r _ => !(keep && rethreadKeeps r))).setFld F.EP_CTL_PF0_AVAIL avail).nominalVolts
  let s := ((s.wipePackage keep).bump F.PKG_RST_CAUSE_WARM_COUNT).setFld F.PKG_RST_CAUSE_LAST last
  let s := ((s.setFld F.PKG_MODE_MODE 0).setFld F.PKG_MODE_PREV prev).setFld F.PKG_MODE_WIND_KIND kind
  let s := (s.setFld F.FWU_ST_FALLBACK 0).setFld F.FWU_ST_SETTINGS_RESET 0
  let s := (if s.fld F.STC_CTL_SRC = 1 then s.sourceLost else s).syncPicot.fixSlots
  (s.each s.motifs State.keepFences).setFld F.PKG_WIND_STEP (if keep then 3 else 2)

/-- A package warm reset with step 1 of its Winding, which takes `us` microseconds. -/
def State.warmReset (s : State) (kind last us : Nat) : State := (s.packageReset kind last).setFld F.PKG_WIND_TIME_TIME_US (min us 0xFFFFFFFF)

/-- RESET_N_ASSERT (R99): RESET_N low for at least 1 µs; ignored in Tied-off. -/
def execResetNAssert (lowNs us : Nat) (s : State) : Host.Outcome State Fault Refusal :=
  live s (fun s => if 1000 ≤ lowNs ∧ s.mode ≠ 5 then s.warmReset 1 1 us else s)

/-! ## Motif reset -/

/-- A default of a pricking (R82): the value installed as given, on each motif that its window names and that a test picks. -/
def State.applyDefaultOn (s : State) (p : Nat → Bool) (e : DefaultEntry) : State :=
  let pkg := decide (e.window = 0)
  match regAtOffset pkg e.block e.offset with
  | none => s
  | some (r, i) =>
    s.each ((windowMotifs s.fuses.caps e.window).filter (fun m => r.presentIn s.fuses.caps m && p m)) (fun s m =>
      let old := s.reg r m i
      s.setReg r m i ((old &&& (2 ^ 64 - 1 - e.mask)) ||| (e.value &&& e.mask)))

/-- The fields of a motif window that list M take their reset values, and the defaults of the accepted pricking stand in them again: R13 and R14 restore such a
field, and R107 keeps what the pricking gave it (log 68). The supply voltage that R429 loaded stays. -/
def State.resetMotifRegs (s : State) (m : Nat) (links : Bool) : State :=
  let mv := s.fld F.LPM_IMON_CFG_VOLT_MV m 0
  let s := s.resetRegs .motif (fun r n => !r.spec.pkg && decide (n = m) && (links || !(rethreadKeeps r)))
  let s := (s.setFld F.LPM_IMON_CFG_VOLT_MV mv m 0).setFld F.LPM_IMON_CFG_VOLT_MV 900 m 1
  match s.prk with
  | none => s
  | some p => s.each (p.defaults.filter (fun e => e.window ≠ 0)) (fun s e => s.applyDefaultOn (fun n => n == m) e)

/-- MOTIF_RESET (R13, R107): the registers of one motif window, and what the motif holds beside them. `links` says that its root-port links go down. -/
def State.motifReset (s : State) (m : Nat) (links : Bool) : State :=
  let now := s.num
  let s := s.resetMotifRegs m links
  let s := { s with eip := s.eip.filter (fun e => e.1 != m) }
  let other := fun (c : CLine) => c.motif != m
  let s := s.modMs (fun d => { d with
    lines := d.lines.filter other, victims := d.victims.filter other, stalled := d.stalled.filter other, trees := d.trees.filter (fun t => t.1 / 16384 != m),
    flips := d.flips.filter (fun f => f.motif != m) })
  let s := s.modEng (fun e => { e with jobs := e.jobs.filter (fun j => j.motif != m), ended := e.ended.filter (fun x => x.2.1 != m), taps := e.taps.filter (fun t => t.motif != m) })
  let s := s.modCip (fun c => { c with tests := c.tests.filter (fun k => k / 96 != m) })
  let s := s.modTherm (fun t => { t with imonLpm := setAt t.imonLpm m default, lostRun := setAt t.lostRun m 0, force := setAt t.force m false })
  let s := s.keepFences m
  if links then s.modBob (fun b => { b with modules := mapWhere (fun x => x.idx / 32 == m) (fun x => x.portDown now) b.modules }) else s

/-- UP and LINKS_UP of a motif in PKG_MOTIF_ST. -/
def State.setMotifUp (s : State) (m : Nat) (up : Bool) : State :=
  let r := s.reg .PKG_MOTIF_ST 0 0
  s.setReg .PKG_MOTIF_ST 0 0 (setBits r (8 * m + 2) (8 * m + 1) (if up then 3 else 0))

/-- Motif bring-up of one motif: its UCIe links are trained and its service core runs (R20, R93). -/
def State.motifUp (s : State) (m : Nat) : State :=
  let s := s.each (List.range 3) (fun s i => if s.flag F.MTF_LINK_ST_PRESENT m i then s.setFld F.MTF_LINK_ST_UP 1 m i else s)
  (s.setMotifUp m true).setHart m 8 true

/-- A write of PKG_RST (R11, R99, R106, R107): discarded whole without the key; MOTIF is a field that the lock set may hold; WARM is ignored in Tied-off; MOTIF_RST is honoured
while a Winding is stopped, where `ok` is the outcome of the
bring-up. -/
def State.writePkgRst (s : State) (value us : Nat) (ok : Bool) : State :=
  if bits value 31 24 ≠ 0xA5 ∨ s.mode = 5 then s
  else
    let s := s.softWrite .PKG_RST 0 0 (bits value 10 8 * 256)
    let m := s.fld F.PKG_RST_MOTIF
    if bit value 0 then s.warmReset 1 2 us
    else if bit value 1 ∧ s.flag F.PKG_WIND_STOPPED ∧ s.hasMotif m then
      let s := (s.setMotifUp m false).motifReset m true
      if ok then s.motifUp m else s.failStop 0x7208
    else s

/-- PKG_RST_WARM (R99): a write of PKG_RST with WARM. -/
def execPkgRstWarm (value us : Nat) (s : State) : Host.Outcome State Fault Refusal := live s (fun s => s.writePkgRst value us true)

/-- PKG_RST_MOTIF_RST (R107): a write of PKG_RST with MOTIF_RST. -/
def execPkgRstMotifRst (value : Nat) (ok : Bool) (s : State) : Host.Outcome State Fault Refusal := live s (fun s => s.writePkgRst value 0 ok)

/-! ## Power-on reset -/

/-- The last power-down left neither a complete dump nor a normal shut-down of PF0 (R377; log 68). -/
def State.wasUnsafe (s : State) : Bool :=
  decide (s.mramNat 0x30 4 ≠ 0) && !s.hu.dumpDone && !(s.hq.ctrls.any (fun k => !k.fabrics && decide (k.shst = 2)))

/-- The high-water marks loaded from the MRAM (R219, R460). -/
def State.loadMarks (s : State) : State :=
  s.each s.motifs (fun s m => s.each (List.range 8) (fun s g => (s.setFld F.CIP_GEN_HWM_BLOCK (s.mramNat (0x100 + 8 * genKey m g) 6) m g).tvWrote 4 (8 * m + g)))

/-- What a power-on reset leaves: no register, whose every field lists P; the flash and MRAM, the modules with their media and claims, what is on flash of the maps,
the staging logs and the vaults (R94, R107). -/
def State.wipePower (s : State) : State :=
  let off := s.hq.unsafeOffs + b2n s.wasUnsafe
  { State.reset with
    pending := s.pending, flash := s.flash, mram := s.mram, fuses := s.fuses, power := s.power, outbox := s.outbox, free := s.free, txOff := false,
    hu := { State.reset.hu with inputGood := s.hu.inputGood }, med := s.med.afterReset false, bob := s.bob.afterReset false 0,
    hq := { HqSt.reset with attach := s.hq.attach, unsafeOffs := off }, ep := { EpSt.reset with perst := s.ep.perst },
    net := { State.reset.net with gens := s.net.gens } }

/-- POWER_ON_RESET (R4, R99, R107, R460): everything volatile is reset, HEAD_ID is sampled, the sampler's state and the marks come from the MRAM, and step 1 of a cold Winding, which
takes `us` microseconds, ends. -/
def State.powerOnReset (s : State) (headId us : Nat) : State :=
  let s := s.abandonFlashOp.wipePower.nominalVolts
  let s := (s.mramWrite 0x30 (leBytes 4 ((s.mramNat 0x30 4 + 1) % 2 ^ 32))).loadSampler.loadMarks
  let s := (s.setFld F.PKG_ID_HEAD_ID (headId % 2)).setFld F.PWR_ST_HU_GOOD (b2n s.hu.inputGood)
  let s := (s.modHq (fun h => { h with ctrls := [Ctrl.pf0 (headId % 2 + 1)] })).syncTemps
  let s := s.fixSlots.sample 0x0001 (bytesOf [0, 0, 0, 0])
  (s.setFld F.PKG_WIND_STEP 2).setFld F.PKG_WIND_TIME_TIME_US (min us 0xFFFFFFFF)

/-- Power-on reset (R99): with the rails up it starts a cold Winding; a high TEST_MODE lets none begin (R488). -/
def execPowerOnReset (headId us : Nat) (s : State) : Host.Outcome State Fault Refusal :=
  live s (fun s => if s.power.testMode then s else s.powerOnReset headId us)

end Sys2Proof.Machine
end

