-- ==== Sys2Proof/Machine/Winding.lean ====
section
/-! DEFINITION. Winding steps 2 to 10 (R93): fuses, boot ROM, slot selection (R454), measurement (R207), the pricking (R84 to R87), motif bring-up, DRAM
(R404, R414), bride training and stitch lock (R53, R56). -/

namespace Sys2Proof.Machine

/-! ## Step 2: fuses -/

/-- The fused identity of the package: PKG_ID, PKG_CAP, the unit ID, EP_ID (0 and 0x1FC4 where not fused) and PRESENT of each motif. -/
def State.loadIdentity (s : State) : State :=
  let f := s.fuses
  let n := f.caps.motifs
  let s := (s.setFld F.PKG_ID_STEP_MAJ f.stepMaj).setFld F.PKG_ID_STEP_MIN f.stepMin
  let s := (s.setFld F.PKG_CAP_MOTIF_MASK (2 ^ n - 1)).setFld F.PKG_CAP_MOTIFS n
  let s := (s.setFld F.PKG_CAP_MAX_M f.caps.maxM).setReg .PKG_CAP 0 0 (setBits (s.reg .PKG_CAP 0 0) 3 0 f.caps.optBits)
  let s := ((s.setFld F.PKG_CAP_MOTIF_MASK (2 ^ n - 1)).setFld F.PKG_CAP_MOTIFS n).setFld F.PKG_CAP_MAX_M f.caps.maxM
  let s := (s.setReg .PKG_UNIT_ID_LO 0 0 (f.unitId % 2 ^ 64)).setReg .PKG_UNIT_ID_HI 0 0 (f.unitId / 2 ^ 64)
  let s := (s.setFld F.EP_ID_SUBSYS_ID (f.subsys.getD (0, 0x1FC4)).1).setFld F.EP_ID_SUBSYS_VID (f.subsys.getD (0, 0x1FC4)).2
  s.each s.motifs (fun s m => s.setReg .PKG_MOTIF_ST 0 0 (putBit (s.reg .PKG_MOTIF_ST 0 0) (8 * m) true))

/-- A UCIe link of a motif, by its place 0 vertical, 1 west or 2 east: the motif at its far end, where the link is present (R20). -/
def State.linkPeer (s : State) (m i : Nat) : Option Nat :=
  let p := if i = 0 then some (m / 2 * 2 + (1 - m % 2)) else if i = 1 then (if 2 ≤ m then some (m - 2) else none) else some (m + 2)
  p.filter s.hasMotif

/-- What fuses give one motif: its place and role, its links, its spare rows, and its thermal and current-sense factors (R34, R422, R429, R438). -/
def State.loadMotifFuses (s : State) (m : Nat) : State :=
  let f := s.fuses
  let s := ((s.setFld F.MTF_ID_SITE_ROW (m % 2) m).setFld F.MTF_ID_SITE_COL (m / 2) m).setFld F.MTF_ID_ROLE (if m = 0 then 1 else 2) m
  let s := s.setFld F.MTF_ID_MOTIF m m
  let s := s.each (List.range 3) (fun s i =>
    match s.linkPeer m i with
    | some p => (s.setFld F.MTF_LINK_ST_PRESENT 1 m i).setFld F.MTF_LINK_ST_PEER p m i
    | none => s)
  let s := (s.setReg .LPM_FACT_R m 0 (f.factR.getD m 0)).setReg .LPM_FACT_C m 0 (f.factC.getD m 0)
  let s := s.setFld F.ECC_CNT_REPAIRED (f.spareRows.getD m 0) m
  let i := f.imaxLpm.getD m (0, 0)
  ((s.setFld F.LPM_IMON_CFG_IMAX_DA i.1 m 0).setFld F.LPM_IMON_CFG_IMAX_DA i.2 m 1).setFld F.ECU_ST_MAX_M f.caps.maxM m

/-- The factors of the thermal model that a motif's fuses must not leave at 0 (R438). -/
def Fuses.factorsOk (f : Fuses) : Bool :=
  let ok := fun v => (List.range 4).all (fun i => decide (bits v (16 * i + 15) (16 * i) ≠ 0))
  decide (f.cPkg ≠ 0) && (List.range f.caps.motifs).all (fun m => ok (f.factR.getD m 0) && ok (f.factC.getD m 0))

/-- FUSE_LOAD (R93): step 2. A failed fuse check is a fail-stop with 0x720B. -/
def State.fuseLoad (s : State) (us : Nat) : State :=
  if ¬ s.fuses.crcOk ∨ ¬ s.fuses.factorsOk then s.failStop 0x720B
  else
    let f := s.fuses
    let s := s.loadIdentity.each s.motifs State.loadMotifFuses
    let s := s.setFld F.THM_PKG_C_PKG f.cPkg
    let s := s.each (List.range 4) (fun s k => s.setFld F.PWR_IMON_CFG_IMAX_DA (f.imaxPkg.getD k 0) 0 k)
    let n := s.num
    (s.modHu (fun h => { h with owed := some n })).stepDone 2 us

/-- Winding step 2. -/
def execFuseLoad (us : Nat) (s : State) : Host.Outcome State Fault Refusal := live s (fun s => if s.inStep 2 then s.fuseLoad us else s)

/-! ## Step 3: boot ROM -/

/-- The fused voltage of each motif set on its AVS regulator of a VDD_CORE rail, and loaded into VOLT_MV (R429). -/
def State.setVoltages (s : State) : State :=
  if ¬ s.flag F.PWR_CTL_AVS_EN then s
  else
    let mv := fun m => s.fuses.vddCoreMv.getD m 0
    let s := s.each (List.range 32) (fun s i =>
      let m := s.fld F.PWR_REG_MOTIF 0 i
      if s.flag F.PWR_REG_EN 0 i ∧ s.flag F.PWR_REG_AVS 0 i ∧ s.fld F.PWR_REG_RAIL 0 i = 0 then s.out (.avsSet m (mv m)) else s)
    s.each s.motifs (fun s m => s.setFld F.LPM_IMON_CFG_VOLT_MV (mv m) m 0)

/-- The size of the boot store (R93). -/
def bootStoreSize : Nat := 0x2000000

/-- Measurement register 0 (R207): extended in a cold Winding, once. -/
def State.measureRom (s : State) : State :=
  if s.fld F.PKG_MODE_WIND_KIND ≠ 0 ∨ s.fld F.MSR_CNT_EXTENDS 0 0 ≠ 0 then s
  else ((s.extendMr 0 (leBytes 48 Config.bootRomDigest)).extendMr 0 s.fuses.relienKey).extendMr 0 (s.fuses.customerKey.getD (zeros 48))

/-- BOOT_ROM_START (R93): step 3. The service core of motif 0 runs, the host endpoint serves, and the boot store answers. -/
def State.bootRom (s : State) (l : Option HostLink) (us : Nat) : State :=
  let s := s.modEp (fun e => { e with served := true })
  let s : State := match l with
    | some l => if s.mayTrain ∧ ¬ s.flag F.EP_ST_UP then s.hostLinkUp l else s
    | none => s
  let s := s.setHart 0 8 true
  let s := { s.setVoltages with mem := Sparse.clearRange s.mem (dramBase 0) bootStoreSize }
  (s.measureRom.stepDone 3 us).resumeHost

/-- Winding step 3. -/
def execBootRomStart (l : Option HostLink) (us : Nat) (s : State) : Host.Outcome State Fault Refusal :=
  live s (fun s => if s.inStep 3 then s.bootRom l us else s)

/-! ## Step 4: slots -/

/-- FWU_VERIFY holds the result of R452 for a slot. -/
def State.noteCheck (s : State) (slot st : Nat) : State :=
  if slot = 0 then (s.setFld F.FWU_VERIFY_STATUS_A st).setFld F.FWU_VERIFY_TRIED_A 1
  else (s.setFld F.FWU_VERIFY_STATUS_B st).setFld F.FWU_VERIFY_TRIED_B 1

/-- A fallback (R454, R455): the control block names slot `t`, the record and the status of a Rethread's commit say why. -/
def State.fallBack (s : State) (from_ t st : Nat) : State :=
  let b := s.bootBlock
  let s := s.writeBlock { b with next := t, trial := false }
  let s := s.sample 0x0005 (bytesOf [from_, t] ++ leBytes 2 st)
  let s := (s.setFld F.FWU_ST_FALLBACK 1).setEvt F.FWU_EVT_FALLBACK
  if s.fld F.PKG_MODE_WIND_KIND = 2 then s.setFld F.FWU_COMMIT_STATUS st else s

/-- The signed span of a slot's image streamed into the boot store (R451). -/
def State.streamImage (s : State) (slot : Nat) : State := { s with mem := Sparse.setRange memDefault s.mem (dramBase 0) (s.imageSpan slot) }

/-- What a check that ended with a status has streamed: the signature is checked on the stream, so an image that fails there has been read into the boot store (R451, R452). -/
def State.streamed (s : State) (slot st : Nat) : State := if st = 0x5005 then s.streamImage slot else s

/-- A slot's image in the boot store, with the record of a change of slot (R454), and the settings looked at (R459). -/
def State.bootSlot (s : State) (slot us : Nat) : State :=
  let ver := s.imageVersion slot
  let fmt := leAt (s.imageHeader slot) 0x34 2
  let s := { s.streamImage slot with imageDigest := sha384 (s.imageSpan slot) }
  let s := ((s.setFld F.FWU_ST_RUN_SLOT slot).setFld F.FWU_ST_RUNNING 1).setFld F.FWU_RUN_VER_VERSION ver
  let b := s.bootBlock
  let s : State := if b.lastValid ∧ b.lastSlot = slot then s
    else
      let s := s.sample 0x0004 (bytesOf [if b.lastValid then b.lastSlot else 0xFF, slot, 0, 0] ++ leBytes 8 ver)
      s.writeBlock { b with lastSlot := slot, lastValid := true }
  (s.checkSettings fmt).stepDone 4 us

/-- IMAGE_SLOT_SELECT (R454): step 4. The flags say that reading a slot meets a flash error. -/
def State.selectSlot (s : State) (errA errB : Bool) (us : Nat) : State :=
  let s := ((match s.currentBlock with | some _ => s | none => s.putBlock 0 .first).syncBlock).setReg .FWU_VERIFY 0 0 0
  let err := fun n => if n = 0 then errA else errB
  let a := s.bootBlock.next
  let st := s.imageCheck a (err a)
  let s := s.noteCheck a st
  if st = 0 then s.bootSlot a us
  else
    let t := 1 - a
    let other := s.imageCheck t (err t)
    let s := ((s.noteCheck t other).streamed a st).streamed t other
    if other ≠ 0 then s.windStop 0x2201 else (s.fallBack a t st).bootSlot t us

/-- Winding step 4. -/
def execImageSlotSelect (errA errB : Bool) (us : Nat) (s : State) : Host.Outcome State Fault Refusal :=
  live s (fun s => if s.inStep 4 then s.selectSlot errA errB us else s)

/-! ## Step 5: measurement -/

/-- MEASUREMENT_EXTEND (R207): registers 1 and 3. -/
def State.measureImage (s : State) : State :=
  let slot := s.fld F.FWU_ST_RUN_SLOT
  let s := s.extendMr 1 s.imageDigest
  s.extendMr 3 (bytesOf [slot, s.fld F.PKG_MODE_WIND_KIND, s.fld F.FWU_ST_FALLBACK] ++ zeros 45)

/-- Winding step 5. -/
def execMeasurementExtend (us : Nat) (s : State) : Host.Outcome State Fault Refusal :=
  live s (fun s => if s.inStep 5 then s.measureImage.stepDone 5 us else s)

/-! ## Step 6: the pricking -/

/-- The fingerprint index of a motif takes the room that its filter ways give (R155; log 68). -/
def State.loadCapacity (s : State) (m : Nat) : State :=
  let ways := match s.prk with
    | none => 0
    | some p => match p.parts.find? (fun e => e.motif == m) with
      | none => 0
      | some e => ((e.owner.take e.scrWays).filter (fun o => decide (o = 0x11))).length
  s.setFld F.MTF_FP_ST_CAPACITY (996147 * ways) m

/-- Hash words of a pricking as registers show them. -/
def State.setHash (s : State) (r : Reg) (h : Bytes) : State := s.each (List.range 6) (fun s i => s.setReg r 0 i (leAt h (8 * i) 8))

/-- An accepted pricking installed (R82 to R87): its registers, its sections, its defaults, and its root hash in the sampler and measurement register 2. -/
def State.installPricking (s : State) (p : Pricking) (slot : Nat) : State :=
  let s := { s with prk := some p }
  let s := (((s.setFld F.PRK_ST_STATE 2).setFld F.PRK_ST_SLOT slot).setFld F.PRK_ST_CODE 0).setFld F.PRK_ST_FAIL_OFS 0
  let s := ((s.setFld F.PRK_HDR_FORMAT p.format).setFld F.PRK_HDR_ROLES p.roles).setFld F.PRK_HDR_SECTIONS p.sections
  let s := ((s.setFld F.PRK_HDR_KEY_SEL p.keySel).setFld F.PRK_HDR_OPT_REQ p.optReq).setFld F.PRK_HDR_MOTIFS p.motifs
  let s := (s.setFld F.PRK_SERIAL_SERIAL p.serial).setFld F.PRK_LEN_TOTAL_LEN p.totalLen
  let s := (s.setHash .PRK_ROOT p.rootHash).each (List.range 6) (fun s i => s.tvWrote 3 i)
  let s := (s.setHash .PRK_PAIR p.pairHash).setHash .PRK_ACCEPT p.acceptHash
  let s := (s.installPart).each s.motifs State.loadCapacity
  let src := s.fld F.STC_CTL_SRC
  let s := (s.each p.defaults (fun s e => s.applyDefaultOn (fun _ => true) e)).sourceChanged src
  let s : State := if s.mramRead 0x40 48 = p.rootHash then s
    else (s.sample 0x0006 (bytesOf [1] ++ zeros 7 ++ leBytes 8 p.serial ++ p.rootHash)).mramWrite 0x40 p.rootHash
  s.extendMr 2 p.rootHash

/-- A failed validation (R85): a trial falls back and Winding restarts from step 3, else Winding stops with 0x2202. FAIL_OFS is free where no single entry fails (log 12). -/
def State.failPricking (s : State) (code : Nat) (at_ : Option Nat) : State :=
  let ofs := at_.getD (s.freeVal % 2 ^ 32)
  let s := match at_ with | some _ => s | none => s.tookFree
  let s := (s.setFld F.PRK_ST_CODE code).setFld F.PRK_ST_FAIL_OFS ofs
  let b := s.bootBlock
  if b.trial then
    let s := (s.fallBack s.bootBlock.next b.prev code).setFld F.PRK_ST_FALLBACK 1
    let n := s.num
    (((s.setFld F.FWU_ST_RUNNING 0).modHu (fun h => { h with owed := some n })).setFld F.PKG_WIND_STEP 3)
  else (s.setFld F.PRK_ST_STATE 4).windStop 0x2202

/-- PRICKING_LOAD (R84): step 6, in which the header is read whole whatever TOTAL_LEN says. The step is one command, so PRK_ST.STATE never shows 1 LOADING; a fallback leaves it at 0
(log 76). -/
def State.loadPricking (s : State) (readError : Bool) (us : Nat) : State :=
  let slot := s.fld F.FWU_ST_RUN_SLOT
  let s := s.setFld F.PRK_ST_SLOT slot
  if readError then s.failPricking 0x3008 (some 0)
  else
    let o := s.prickingOfs slot
    let n := leAt (s.flashRead o 0x18) 0x14 4
    match validatePricking s.fuses.caps s.fuses.relienKey s.fuses.customerKey (s.flashRead o (max 0x80 (min n 0x100000))) with
    | .error e => s.failPricking e.1 e.2
    | .ok p => (s.installPricking p slot).stepDone 6 us

/-- Winding step 6. -/
def execPrickingLoad (readError : Bool) (us : Nat) (s : State) : Host.Outcome State Fault Refusal :=
  live s (fun s => if s.inStep 6 then s.loadPricking readError us else s)

/-! ## Step 7: motif bring-up -/

/-- MOTIF_BRINGUP (R20, R93): step 7. `fail` is 0, 1 for a UCIe link that does not train, or 2 for a motif that fails; `repaired` gives the lanes that training replaced, by motif and
link. -/
def State.bringUp (s : State) (fail : Nat) (repaired : List (Nat × Nat × Nat)) (us : Nat) : State :=
  let links := decide (s.fld F.PKG_MODE_WIND_KIND ≠ 2)
  let s := s.each (s.motifs.drop 1) (fun s m => (s.motifReset m links).loadCapacity m)
  if fail = 1 then s.failStop 0x7201
  else if fail = 2 then s.failStop 0x7208
  else
    let s := s.each s.motifs (fun s m => (s.motifUp m).setFld F.CCH_CTL_POLICY 0 m)
    let s := s.each repaired (fun s r => if s.hasMotif r.1 ∧ r.2.1 < 3 then s.setFld F.MTF_LINK_ST_LANES_REPAIRED r.2.2 r.1 r.2.1 else s)
    s.stepDone 7 us

/-- Winding step 7. -/
def execMotifBringup (fail : Nat) (repaired : List (Nat × Nat × Nat)) (us : Nat) (s : State) : Host.Outcome State Fault Refusal :=
  live s (fun s => if s.inStep 7 then s.bringUp fail repaired us else s)

/-! ## Step 8: DRAM -/

/-- Training of a motif's channels (R403, R404) at the lower of the DIMM's rate and MAX_RATE; where MAX_RATE allows no rate of the DIMM's type, the rate is
free (log 69). -/
def State.trainDram (s : State) (m : Nat) (d : DimmInfo) : State :=
  let s := ((s.setFld F.DRM_ST_DIMM_GIB d.gib m).setFld F.DRM_ST_RANKS d.ranks m).setFld F.DRM_ST_MRDIMM (b2n d.mrdimm) m
  let r := min d.rate (s.fld F.DRM_CFG_MAX_RATE m)
  let s := if r < (if d.mrdimm then 4 else 1) then s.tookFree.setFld F.DRM_ST_RATE s.freeVal m else s.setFld F.DRM_ST_RATE (min r (if d.mrdimm then 5 else 3)) m
  s.setFld F.DRM_ST_TRAINED 15 m

/-- All DRAM but the boot store overwritten with zeros (R94, R404). -/
def State.wipeDram (s : State) : State :=
  let lo := dramBase 0
  let hi := dramBase 8
  let stay := fun a => decide (a < lo + bootStoreSize) || decide (hi ≤ a)
  let s := { s with mem := s.mem.filter (fun c => stay c.1) }
  s.modMs (fun d => { d with poison := d.poison.filter (fun k => stay (128 * k)), errs := d.errs.filter (fun e => stay (128 * e.1)) })

/-- The scratchpad partition of a motif installed, its ways zeroed and its cache enabled (R414). -/
def State.partition (s : State) (m : Nat) : State :=
  let ways := match s.prk with
    | none => 0
    | some p => match p.parts.find? (fun e => e.motif == m) with | some e => e.scrWays | none => 0
  let s := { s with mem := Sparse.clearRange s.mem (0x4100000000 + 0x1000000 * m) 0x1000000 }
  let s := (s.setFld F.CCH_ST_SCR_WAYS ways m).setFld F.CCH_CTL_EN 1 m
  s.setFld F.CCH_CTL_POLICY 0 m

/-- One line of the boot store as a dirty line of its way (R414; log 67). -/
def bootLine (mem : Sparse Byte) (k : Nat) : CLine :=
  let a := dramBase 0 + 128 * k
  let here := (mem.filter (fun c => decide (a ≤ c.1) && decide (c.1 < a + 128))).map (fun c => (c.1 - a, c.2))
  { motif := 0, set := setOf (128 * k), way := 128 * k / 0x200000, line := k, dirty := true, poison := false, cls := 0, age := 1, data := here }

/-- The boot store becomes cache contents of motif 0, but for the lines whose ways are scratchpad, which are written back (R414). Every line of the store is
dirty, also those that hold zeros. -/
def State.cacheBootStore (s : State) : State :=
  let ways := 16 - s.fld F.CCH_ST_SCR_WAYS 0
  let bytes := s.mem.filter (fun c => decide (dramBase 0 ≤ c.1) && decide (c.1 < dramBase 0 + bootStoreSize))
  let lines := (List.range (ways * 16384)).map (bootLine bytes)
  let s := s.modMs (fun d => { d with lines := d.lines.filter (fun c => c.motif != 0) ++ lines })
  s.syncCch 0

/-- DRAM_TRAINING (R403, R404, R414): step 8. `dimms` gives each motif's DIMMs, none for a channel that fails to train or whose DIMMs break R403. A Rethread leaves DRAM as it is but for the boot
area. -/
def State.initDram (s : State) (dimms : List (Option DimmInfo)) (us : Nat) : State :=
  let first := dimms.getD 0 none
  let of_ := fun m => (dimms.getD m none).filter (fun d => decide (16 ≤ d.gib) && decide (d.gib ≤ 128) && decide (some d = first))
  if s.motifs.any (fun m => (of_ m).isNone) then s.failStop 0x7209
  else
    let s := s.each s.motifs (fun s m => match of_ m with | some d => s.trainDram m d | none => s)
    let s := if s.fld F.PKG_MODE_WIND_KIND = 2 then s else s.wipeDram
    let s := s.each s.motifs State.partition
    s.cacheBootStore.stepDone 8 us

/-- Winding step 8. -/
def execDramTraining (dimms : List (Option DimmInfo)) (us : Nat) (s : State) : Host.Outcome State Fault Refusal :=
  live s (fun s => if s.inStep 8 then s.initDram dimms us else s)

/-! ## Steps 9 and 10 -/

/-- BRIDE_TRAINING (R95, R110, R111, R113): step 9. `pass` gives the lanes that pass by motif, `t` the partner head's last TRAIN_ID where one came within 2 s; one whose PROBE_ECHO is not 0
is its second. `clock` is the fabric-clock count at transmission, `now` at the arrival of `t`. -/
def State.windBride (s : State) (pass : List Nat) (clock now : Nat) (t : Option TrainId) (us : Nat) : State :=
  let s := s.trainBride pass clock
  let s : State := match t with
    | none => s
    | some t =>
      if s.upGroups.isEmpty then s
      else
        let n := if t.probeEcho = 0 then 1 else 2
        let s := s.each s.upGroups (fun s g => (s.modGroup g (fun b => { b with rxSeq := n })).noteTrain g now t)
        s.pairNow
  if s.flag F.PKG_WIND_STOPPED then s else s.stepDone 9 us

/-- Winding step 9. -/
def execBrideTraining (pass : List Nat) (clock now : Nat) (t : Option TrainId) (us : Nat) (s : State) : Host.Outcome State Fault Refusal :=
  live s (fun s => if s.inStep 9 then s.windBride pass clock now t us else s)

/-- STITCH_LOCK (R53, R56): step 10. Where it can do nothing yet the step waits (its end after 100 ms is ACQUIRE_TIMEOUT). -/
def State.windLock (s : State) (us : Nat) : State := match s.lockStep with | some t => t.stepDone 10 us | none => s

/-- Winding step 10. -/
def execStitchLock (us : Nat) (s : State) : Host.Outcome State Fault Refusal := live s (fun s => if s.inStep 10 then s.windLock us else s)

end Sys2Proof.Machine
end

