-- ==== Sys2Proof/Machine/Recovery.lean ====
section
/-! DEFINITION. Winding steps 12 to 14 (R93): metadata recovery and the replay of vaults and staging logs (R240, R495), resynchronisation (R135), ground
assignment (R95), and the switch to a head's own sections (R88). -/

namespace Sys2Proof.Machine

/-- A partner head has paired and is still heard. -/
def State.hasPartner (s : State) : Bool := s.paired && (s.pair.last.isSome || s.pair.partnerId.isSome)

/-! ## Step 12 -/

/-- READS of the blocks of FULL bands, and of those that a collection lost with its head leaves FULL, raised by an eighth of their limit (R243). -/
def State.agedReads (s : State) : State :=
  let blocks := (s.med.maps.bands.filter (fun b => b.state == 2 || b.state == 3 || b.state == 4)).flatMap (fun b => b.members)
  s.each blocks (fun s b =>
    match s.module b.module with
    | none => s
    | some m =>
      let d := s.descOf b
      s.modMaps (fun x => x.setBlock b { d with reads := satAdd 0xFFFFFFFF d.reads (m.info.rdLimit * s.fld F.MED_MEDIA_CTL_RD_PCT (b.module / 32) / 800) }))

/-- The generator marks raised to the highest value of their IDs in the metadata, and each generator at the first value of its block (R219). -/
def State.raiseMarks (s : State) : State :=
  s.each s.motifs (fun s m => s.each (List.range 8) (fun s g =>
    let h := max (s.fld F.CIP_GEN_HWM_BLOCK m g) (Sparse.get 0 s.med.maps.marks (s.genId m g))
    ((s.setFld F.CIP_GEN_HWM_BLOCK h m g).tvWrote 4 (8 * m + g)).modCip (fun c => { c with gens := Sparse.set 0 c.gens (genKey m g) (h * 2 ^ 32) })))

/-- The vault areas that recovery finds: this head's by EPOCH, then the partner head's. -/
def State.foundVaults (s : State) (theirs : List VaultArea) : List VaultArea :=
  sortBy (fun (a b : VaultArea) => decide (a.epoch < b.epoch)) ([s.med.vaultA, s.med.vaultB].filter (fun v => !v.erased)) ++ theirs

/-- A vault's entry is used (R251, R495): its vault is complete, its write was applicable at the dump, and the vault is the one of the ground's owner, or the owner's is not
complete. -/
def usesEntry (all : List VaultArea) (v : VaultArea) (e : StageEnt) : Bool :=
  v.sealed && e.ackable && (decide (e.claim % 256 = v.head) || !(all.any (fun u => u.sealed && decide (u.head = e.claim % 256))))

/-- The replay of a ground meets a key slot that is EMPTY (R224). -/
def State.replayKeyless (s : State) (all : List VaultArea) (log : List StageEnt) (g : Nat) : Bool :=
  let bad := fun (e : StageEnt) => decide (e.ground = g) && s.shutEntry e
  (s.med.staging ++ log).any (fun e => bad e && !e.obsolete) || all.any (fun v => v.ents.any (fun e => bad e && usesEntry all v e))

/-- The journal bytes of a complete vault for a ground applied: transactions that are in the journal and not yet durable. -/
def State.replayTxns (s : State) (v : VaultArea) (g : Nat) : State :=
  if ¬ v.sealed then s
  else s.each (v.txns.filter (fun t => t.ground == g)) (fun s t =>
    let r := s.addTxn t.ground t.motif t.recs true .plain
    r.1.sendTxn r.2)

/-- A durable map update of a chunk stands in a journal page that is later than a stitch (R495 case 3). -/
def State.updatedSince (s : State) (foreign : List (Nat × List JRec)) (stitch nsid atom : Nat) : Bool :=
  let l := foreign ++ (s.med.txns.filter (fun t => t.durable)).map (fun t => (t.stitch, t.recs))
  match s.ns nsid with
  | none => false
  | some n => l.any (fun t => decide (stitch < t.1) && t.2.any (fun r => match r with | .lmap vs c _ => vs.contains nsid && c == s.chunkOf n atom | _ => false))

/-- The atoms of a vault for a ground that R165 and R495 apply. -/
def State.vaultSources (s : State) (foreign : List (Nat × List JRec)) (all : List VaultArea) (g : Nat) (v : VaultArea) : State × List LoggedAtom :=
  let r := s.entryFrames (v.ents.filter (fun e => e.ground == g && usesEntry all v e))
  (r.1, (r.1.appliedOf false r.2).filter (fun f => !(r.1.updatedSince foreign f.ent.stitch f.frame.nsid f.frame.atom)))

/-- The atoms of every vault for a ground, vault by vault. -/
def State.allVaultSources (s : State) (foreign : List (Nat × List JRec)) (all : List VaultArea) (g : Nat) : List VaultArea → State × List LoggedAtom
  | [] => (s, [])
  | v :: t =>
    let a := s.vaultSources foreign all g v
    let b := a.1.allVaultSources foreign all g t
    (b.1, a.2 ++ b.2)

/-- The sources of a ground's atoms applied (R165, R249, R495): the staging logs of both heads and the vaults; of two that hold one atom the one with the later STITCH wins. -/
def State.replayGround (s : State) (foreign : List (Nat × List JRec)) (log : List StageEnt) (all : List VaultArea) (g : Nat) : State :=
  let s := s.each (all.filter (fun v => v.sealed)) (fun s v => s.replayTxns v g)
  let a := s.logSources g (s.med.staging.filter (fun e => e.ground == g))
  let b := a.1.logSources g log
  let c := b.1.allVaultSources foreign all g all
  c.1.adoptSources (a.2 ++ b.2 ++ c.2)

/-- The sampler's record of the replay of one vault (R462): the atoms of the grounds that it holds for use. -/
def State.sampleReplay (s : State) (all : List VaultArea) (gs : List Nat) (v : VaultArea) : State :=
  if ¬ v.sealed then s
  else
    let n := (v.ents.filter (fun e => gs.contains e.ground && usesEntry all v e)).length
    s.sample 0x0003 (leBytes 8 v.epoch ++ leBytes 4 (mibUp n) ++ bytesOf [1, 0, 0, 0])

/-- The grounds that this head will take at step 14 (R95, R495): its home grounds where a partner head pairs or is alive, else every ground (log 69). -/
def State.grounds14 (s : State) : List Nat :=
  if s.hasPartner || s.flag F.BRD_ST_HALIVE_IN then s.groundList.filter (fun g => s.homeOf g == s.headId) else s.groundList

/-- VAULT_REPLAY (R165, R495): vaults and staging logs applied for the grounds that will be taken; a ground whose replay meets an EMPTY slot is OUT (R224). -/
def State.replayAll (s : State) (foreign : List (Nat × List JRec)) (log : List StageEnt) (vaults : List VaultArea) : State :=
  let all := s.foundVaults vaults
  let gs := s.grounds14.filter (fun g => !(s.pair.replayed.contains g) && decide (s.groundState g ≠ 1))
  let out := gs.filter (s.replayKeyless all log)
  let gs := gs.filter (fun g => !(out.contains g))
  let s := s.each out (fun s g => s.setGroundState g 6)
  let s := s.each gs (fun s g => s.replayGround foreign log all g)
  let s := s.each all (fun s v => s.sampleReplay all gs v)
  let s := s.modPair (fun p => { p with replayed := p.replayed ++ gs })
  (s.each gs State.abandonViews).recount

/-- The vaults of this head judged by the pages that were read (R251): complete where a SEAL page matches. -/
def State.judgeVaults (s : State) : State :=
  let f := fun (v : VaultArea) => if v.erased ∨ v.blocks = [] then v else { v with sealed := v.sealed && s.sealMatches v.epoch }
  s.modMed (fun d => { d with vaultA := f d.vaultA, vaultB := f d.vaultB })

/-- The state of the vault areas shown (R250, R251): their capacity is not stated. -/
def State.showVaults (s : State) : State :=
  let s := s.judgeVaults
  let cap := s.freeVal
  let bad := [s.med.vaultA, s.med.vaultB].any (fun v => !v.erased && !v.sealed)
  let s := s.tookFree.syncVault
  let s := s.each s.motifs (fun s m => (s.setFld F.MED_VAULT_ST_CAP_MIB cap m).setFld F.MED_VAULT_ST_INCOMPLETE (b2n bad) m)
  if bad then s.setEvt F.MED_EVT_VAULT_INCOMPLETE else s

/-- METADATA_RECOVERY (R94, R240, R495): step 12; head-alive is asserted as the step after it starts (R96). `foreign` are the transactions in the journals that are not this head's
own and were not known to it, each with the STITCH of its journal page, `log` the partner
head's staging log, `vaults` its vault; `unreadable` says that some metadata other than the roots has no readable copy. -/
def State.recover (s : State) (foreign : List (Nat × List JRec)) (log : List StageEnt) (vaults : List VaultArea) (unreadable : Bool) (us : Nat) : State :=
  if unreadable || s.rootLost then s.windStop 0x3207
  else
    let again := s.pair.kept || !s.pair.replayed.isEmpty
    let s := s.takeRoots
    let add := fun (m : Maps) => foreign.foldl (fun m t => m.applyTxn t.2) m
    let s := s.modMed (fun d => { d with maps := add d.maps, ckpt := add d.ckpt })
    let s := if s.fld F.PKG_MODE_WIND_KIND = 2 ∨ again then s else s.agedReads
    let s := if again then s else s.raiseMarks.showVaults
    let s : State := if s.hasPartner ∧ s.partnerInService then s.modPair (fun p => { p with kept := decide (s.fld F.PKG_MODE_WIND_KIND ≠ 2) })
      else s.replayAll foreign log vaults
    let s := (((s.restoreLags.syncGrounds.syncViews).syncMedia).stepDone 12 us).driveHalive true
    if s.hasPartner then s else s.setFld F.PKG_WIND_STEP 14

/-- Winding step 12 (R224, R240): it waits for the system pages that are being read, and with option E for KEYS_DONE. -/
def execMetadataRecovery (foreign : List (Nat × List JRec)) (log : List StageEnt) (vaults : List VaultArea) (unreadable : Bool) (bad : BadPages) (us : Nat) (s : State) :
    Host.Outcome State Fault Refusal :=
  live s (fun s => if s.inStep 12 && !s.scanning && (!s.fuses.caps.optE || s.flag F.CIP_KEK_CTL_KEYS_DONE) then s.under bad (fun s => s.recover foreign log vaults unreadable us) else s)

/-- KEYS_DONE_TIMEOUT (R224): step 12 has waited 10 s for KEYS_DONE and goes on. -/
def execKeysDoneTimeout (foreign : List (Nat × List JRec)) (log : List StageEnt) (vaults : List VaultArea) (unreadable : Bool) (bad : BadPages) (us : Nat) (s : State) :
    Host.Outcome State Fault Refusal :=
  live s (fun s =>
    if s.inStep 12 && !s.scanning && s.fuses.caps.optE && !(s.flag F.CIP_KEK_CTL_KEYS_DONE) then s.under bad (fun s => s.recover foreign log vaults unreadable us) else s)

/-! ## Step 13 -/

/-- MIRROR_RESYNC (R96, R135): step 13. Of two heads in Winding each ends step 13 once it has heard that the other asserts
head-alive; with the partner head lost the step is skipped; with the partner head in service it ends as RESYNC_BACKLOG_EMPTY says. -/
def State.resyncStep (s : State) (us : Nat) : State :=
  if ¬ s.hasPartner then s.setFld F.PKG_WIND_STEP 14
  else
    let s := (s.driveHalive true).setFld F.BRD_ST_STATE 4
    match s.pair.last with
    | some r => if r.mode = 0 ∧ r.halive then s.stepDone 13 us else s
    | none => s

/-- Winding step 13. -/
def execMirrorResync (us : Nat) (s : State) : Host.Outcome State Fault Refusal := live s (fun s => if s.inStep 13 then s.resyncStep us else s)

/-- A stitch at least two stitches later is named in the next records (R135). -/
def State.nameStitch (s : State) : State :=
  let n := s.num + 2
  (s.setFld F.BRD_NAMED_STITCH n).modPair (fun p => { p with named := some n })

/-- The partner head has raised the claims of its step 14: each ground of its home that can be served is OWNER there. -/
def State.partnerAssigned (s : State) : Bool :=
  s.groundList.all (fun g => s.homeOf g == s.headId || s.notServable g || decide (s.theirState g = 1) || decide (s.theirState g = 6))

/-- RESYNC_BACKLOG_EMPTY (R95, R135): nothing is left to bring over, and the head that R135 says names the stitch: the returning head at its step 13, which ends so; head 0
of two heads that are Solo, or of two heads in Winding that have both raised their claims. -/
def State.backlogEmpty (s : State) (us : Nat) : State :=
  if s.backlog ≠ 0 ∨ s.pair.named.isSome ∨ ¬ s.hasPartner then s
  else if s.inStep 13 ∧ s.partnerInService then s.nameStitch.stepDone 13 us
  else if s.headId ≠ 0 then s
  else if s.mode = 2 ∧ s.pair.rejoin ∧ s.fld F.PKG_MODE_PARTNER_MODE = 2 then s.nameStitch
  else if s.inStep 14 ∧ s.pair.assigned ∧ ¬ s.partnerInService ∧ s.partnerAssigned then s.nameStitch
  else s

/-- The backlog of a resynchronisation is empty. -/
def execResyncBacklogEmpty (us : Nat) (s : State) : Host.Outcome State Fault Refusal := live s (fun s => s.backlogEmpty us)

/-! ## Step 14 -/

/-- The last claim that the sampler records for a ground (R122, R462), walked from an offset; `fuel` bounds the records. -/
def State.raisedClaim (s : State) (g : Nat) : Nat → Nat → Nat → Nat
  | 0, _, acc => acc
  | f + 1, o, acc =>
    if o < s.smpWp then
      let a := recArea + o
      let hit := decide (s.mramNat (a + 4) 2 = 0x0008) && decide (s.mramNat (a + 20) 1 = g)
      s.raisedClaim g f (o + recSpace (s.mramNat (a + 6) 2)) (if hit then max acc (s.mramNat (a + 28) 8) else acc)
    else acc

/-- The highest claim known of a ground at step 14: by the own number, the partner head, CLAIM_GET and the sampler (R107, R124). -/
def State.knownAt14 (s : State) (g : Nat) : Nat := max (max (s.knownClaim g) (s.moduleClaim g)) (s.raisedClaim g (s.smpWp / 20 + 1) 0 0)

/-- Grounds that cannot be served are OUT, those not yet decided STANDBY (R42). -/
def State.placeGrounds (s : State) : State :=
  let bad := (List.range 256).filter s.notServable
  let s := s.each bad (fun s g => s.setGroundState g 6)
  s.each s.groundList (fun s g => if s.groundState g = 0 then s.setGroundState g 2 else s)

/-- Grounds taken at step 14 with a claim raise each. -/
def State.raiseTaken (s : State) (gs : List Nat) : State :=
  let gs := gs.filter (fun g => decide (s.groundState g = 2))
  let s := s.each gs (fun s g => s.raiseAbove g (s.knownAt14 g) false)
  s.each gs (fun s g => s.activateGround g [] [])

/-- The end of step 14 (R96, R99, R103, R455, R458): TRIAL is cleared, a Rethread's commit is decided, admission opens, fetching goes on with the doorbells that were
latched. -/
def State.finishWinding (s : State) (us : Nat) : State :=
  let s := s.stepDone 14 us
  let b := s.bootBlock
  let s := if b.trial then s.writeBlock { b with trial := false } else s
  let ok := !(s.flag F.FWU_ST_FALLBACK)
  let s : State := if s.fld F.PKG_MODE_WIND_KIND = 2 then
      let s := if ok then s.setFld F.FWU_COMMIT_STATUS 0 else s
      s.setEvt F.FWU_EVT_COMMIT_DONE
    else s
  let s := (((s.setFld F.PKG_MODE_ADMIT 1).setFld F.HQ_ST_FETCH_PAUSED 0).setFld F.EP_ST_HOLD 0).ringLatched
  s.modPair (fun p => { p with replayed := [], assigned := false })

/-- What follows the change of mode that ends a Winding; a partner head whose TRAIN_ID came in steps 10 to 14 is judged now (R95). -/
def State.afterWinding (s : State) : State := (((s.settleMode.syncMedia).releaseHeld s.bob.heldCmds.length).resumeHost).pairNow

/-- Why a head that ends its Winding without a partner head is Solo (R91). -/
def State.soloCause (s : State) : Nat :=
  if s.fld F.BRD_ST_STATE = 5 then 2
  else if s.flag F.BRD_ST_HALIVE_IN then 4
  else if s.pair.kept ∨ s.fld F.PKG_MODE_WIND_KIND = 2 then 5
  else 1

/-- GROUND_ASSIGNMENT (R95): step 14. Without a partner head the head takes grounds and is Solo. With the partner head in service it holds no ground until it takes those
handed back, and is Paired once it has all that it can serve. Of two heads in Winding each raises the claims of its home grounds and waits for the stitch that
head 0 names. -/
def State.assignGrounds (s : State) (us : Nat) : State :=
  let s := (s.driveHalive true).placeGrounds
  if ¬ s.hasPartner then
    let s := (s.raiseTaken s.grounds14).finishWinding us
    (s.goSolo s.soloCause).afterWinding
  else if s.partnerInService then
    let home := s.groundList.filter (fun g => s.homeOf g == s.headId && decide (s.groundState g ≠ 6))
    if s.pair.named.isNone && home.all (fun g => decide (s.groundState g = 1)) then ((s.finishWinding us).goPaired).afterWinding else s
  else if s.pair.assigned then s
  else (s.raiseTaken s.grounds14).modPair (fun p => { p with assigned := true })

/-- Winding step 14, or step 13 where the partner head has been lost. -/
def execGroundAssignment (us : Nat) (s : State) : Host.Outcome State Fault Refusal :=
  live s (fun s => if s.inStep 14 || (s.inStep 13 && !s.hasPartner) then s.assignGrounds us else s)

/-! ## The named stitch -/

/-- NAMED_STITCH_REACHED (R95, R135): phase 0 of the named stitch. A head in service is Paired, and grounds whose home is the partner head are handed back one by
one; of two heads in Winding each ends its step 14. -/
def State.namedStitch (s : State) (us : Nat) : State :=
  match s.pair.named with
  | none => s
  | some n =>
    if s.num < n then s
    else
      let s := (s.modPair (fun p => { p with named := none, rejoin := false })).setFld F.BRD_ST_STATE 3
      let s := s.setEvt F.BRD_EVT_RESYNC_DONE
      if s.mode = 2 then
        let s := s.each (List.range 256) (fun s g => if s.groundState g = 5 then s.setGroundState g 2 else s)
        let back := s.groundList.filter (fun g => decide (s.groundState g = 1) && s.homeOf g != s.headId)
        let s := (s.goPaired).modPair (fun p => { p with handQueue := back })
        (s.startNext 3).settleMode
      else if s.inStep 14 ∧ s.pair.assigned then ((s.finishWinding us).goPaired).afterWinding
      else s

/-- Phase 0 of the stitch that a record names; `us` is how long a step 14 has taken that ends so. -/
def execNamedStitchReached (us : Nat) (s : State) : Host.Outcome State Fault Refusal := live s (fun s => s.namedStitch us)

/-- PRIOR_SECTIONS_SWITCH (R88): at phase 0 of the stitch that the rejoining head names, a head that runs its prior sections installs its own where the partner head's
PAIR_HASH is its own. -/
def State.switchSections (s : State) : State :=
  let same := match s.pair.partnerId with | some t => decide (t.pairHash = s.pairHashes.1) | none => false
  if s.flag F.PRK_PAIR_ST_PRIOR_ACTIVE && same && decide (s.num = s.fld F.BRD_NAMED_STITCH) then
    let s := ((s.setFld F.PRK_PAIR_ST_PRIOR_ACTIVE 0).setFld F.PRK_PAIR_ST_REL 1).installPart
    let gone := (List.range 256).filter (fun g => (s.groundDef g).isNone && s.med.maps.namespaces.any (fun n => n.ground == g))
    let s := s.each gone (fun s g => s.setGroundState g 6)
    match s.prk with
    | some p => s.sample 0x0006 (bytesOf [2] ++ zeros 7 ++ leBytes 8 p.serial ++ p.rootHash)
    | none => s
  else s

/-- The switch to a head's own sections. -/
def execPriorSectionsSwitch (s : State) : Host.Outcome State Fault Refusal := live s State.switchSections

end Sys2Proof.Machine
end

