-- ==== Sys2Proof/Machine/Vault.lean ====
section
/-! DEFINITION. Package faults and fail-stops (R25, R29), the loss of input power and the vault dump (R104, R251, R434, R437), and the ends of a Rethread's
handover phase (R99 to R103). -/

namespace Sys2Proof.Machine

/-! ## Faults -/

/-- A UCIe link that is present and up. -/
def State.ucieUp (s : State) (m i : Nat) : Bool := s.hasMotif m && decide (i < 3) && s.flag F.MTF_LINK_ST_UP m i

/-- UCIE_REPLAY_LIMIT (R25): one flit has failed its CRC on 16 consecutive replays. -/
def execUcieReplayLimit (motif link : Nat) (s : State) : Host.Outcome State Fault Refusal :=
  live s (fun s => if s.ucieUp motif link then (s.bump F.MTF_LINK_ST_REPLAYS 16 motif link).failStop 0x7201 else s)

/-- UCIE_NO_PROGRESS_TIMEOUT (R25): 1 µs without forward progress while traffic is queued. -/
def execUcieNoProgressTimeout (motif link : Nat) (s : State) : Host.Outcome State Fault Refusal :=
  live s (fun s => if s.ucieUp motif link then s.failStop 0x7201 else s)

/-- UCIE_LANE_FAIL (R25): a lane fails after training. -/
def execUcieLaneFail (motif link : Nat) (s : State) : Host.Outcome State Fault Refusal :=
  live s (fun s => if s.ucieUp motif link then s.failStop 0x7201 else s)

/-- SERVICE_POLL_MISS (R29, R439): a service core has missed its package poll, or its thermal step, for two stitches. -/
def execServicePollMiss (motif stitches : Nat) (s : State) : Host.Outcome State Fault Refusal :=
  live s (fun s => if s.serviceRuns motif ∧ 2 ≤ stitches then s.failStop 0x7204 else s)

/-- PLL_LOSS_OF_LOCK (R29, R93): also a PLL not locked 1 ms into step 1. -/
def execPllLossOfLock (s : State) : Host.Outcome State Fault Refusal := live s (fun s => s.failStop 0x7205)

/-! ## The dump -/

/-- An entry of a dump sealed where its namespace is encrypted (R228), or what stops the sealing. -/
def State.sealEntry (s : State) (motif : Nat) (e : StageEnt) : State × Except Nat StageEnt :=
  let d := (s.ns e.nsid).bind (fun n => s.domain n.domain)
  match d with
  | none => (s, .ok e)
  | some d =>
    if !d.enc || e.dealloc then (s, .ok e)
    else
      let e := { e with enc := true, keySlot := d.slot }
      match s.sealUp motif d.slot (fun _ => e.header.take 0x30) e.data with
      | (s, .ok c) => (s, .ok { e with nonce := c.nonce, tag := c.tag, data := c.text })
      | (s, .error w) => (s, .error w)

/-- The entry of a frame (R247), not yet sealed. -/
def State.frameEntry (s : State) (f : MirrorFrame) (ackable : Bool) : StageEnt :=
  { ground := f.ground, seq := 0, first := f.first, last := f.last, pi := f.pi, enc := false, host := f.host, dealloc := f.dealloc, ackable := ackable,
    nsid := f.nsid, conn := f.conn, atom := f.atom, writeId := f.writeId, opSeq := f.opSeq, ackSeq := f.ackSeq, atoms := f.atoms, appTag := f.appTag,
    keySlot := 0, nonce := zeros 12, tag := zeros 16, data := f.data, stitch := s.num, claim := s.claimOf f.ground, copies := [], pages := [], obsolete := false }

/-- The atoms of this head's writes that are wholly landed (R104), with whether R165 would apply their write now. -/
def State.ownEntries (s : State) : List (Nat × StageEnt) :=
  s.dp.writes.flatMap (fun w =>
    let ok := decide (2 ≤ w.state) || s.canComplete w
    let l := (s.atomsOf w.id).filter (fun a => a.state != AtomState.reserved && a.state != AtomState.landing)
    l.map (fun a => (a.motif, s.frameEntry { s.frameOf w a with atoms := w.count } ok)))

/-- The mirror copies held, with whether R165 would apply their write at a takeover. -/
def State.copyEntries (s : State) : List (Nat × StageEnt) :=
  ((s.dp.copies.map (fun c => c.frame.ground)).eraseDups).flatMap (fun g =>
    let mine := s.dp.copies.filter (fun c => c.frame.ground == g)
    let ws := groupFrames mine mine.length
    ws.flatMap (fun w => w.map (fun f => (f.frame.motif, s.frameEntry f.frame (s.appliesWrite ws w)))))

/-- Entries sealed in order and numbered, and those left that no lane has sealed yet (R213, R214); an entry whose slot is not LOADED cannot be dumped (R229). -/
def State.sealEntries (s : State) (seq : Nat) : List (Nat × StageEnt) → State × List StageEnt × List (Nat × StageEnt)
  | [] => (s, [], [])
  | x :: t =>
    let e := { x.2 with seq := seq }
    let a := s.sealEntry x.1 e
    let b := a.1.sealEntries (seq + 1) t
    match a.2 with
    | .ok y => (b.1, y :: b.2.1, b.2.2)
    | .error w => (b.1, b.2.1, if w = 0x2703 then b.2.2 else (x.1, e) :: b.2.2)

/-- The journals with bytes that are not on flash: ground, motif and the bytes (R251). -/
def State.dumpJournals (s : State) : List (Nat × Nat × Bytes) :=
  (s.med.logs.map (fun l => (l.ground, l.motif, s.unflushed l))).filter (fun x => !x.2.2.isEmpty)

/-- What a dump would write (R251): entries, the journal not yet durable, and the last stitch record. -/
def State.dumpArea (s : State) : State × VaultArea :=
  let r := s.sealEntries 0 (s.ownEntries ++ s.copyEntries)
  let epoch := max s.med.vaultA.epoch s.med.vaultB.epoch + 1
  let txns := s.med.txns.filter (fun t => t.sent && !t.durable)
  (r.1, { epoch := epoch, head := s.headId, ents := r.2.1, left := r.2.2, txns := txns, record := s.pair.snap, sealed := false,
          erased := r.2.1.isEmpty && r.2.2.isEmpty && txns.isEmpty && s.dumpJournals.isEmpty, blocks := [] })

/-- A list cut into pieces of three. -/
def byThree : List α → List (List α)
  | a :: b :: c :: t => [a, b, c] :: byThree t
  | [] => []
  | l => [l]

/-- Entries of a dump in pages of KIND 2, up to three of one ground in each (R247, R251). -/
def State.atomPages (s : State) (epoch : Nat) (l : List StageEnt) : State :=
  s.each ((l.map (fun e => e.ground)).eraseDups) (fun s g =>
    s.each (byThree (l.filter (fun e => e.ground == g))) (fun s x => s.vaultPage epoch 2 1 g 0 x.length (entryPage x)))

/-- The pages of a dump but the SEAL: atoms, journal bytes of their own ground, the last stitch record (R251). -/
def State.dumpPages (s : State) (v : VaultArea) (journals : List (Nat × Nat × Bytes)) : State :=
  let s := s.atomPages v.epoch v.ents
  let s := s.each journals (fun s x => s.each (cutPages x.2.2) (fun s b => s.vaultPage v.epoch 3 2 x.1 x.2.1 0 b))
  match v.record with
  | some r => s.each (cutPages r.bytes) (fun s b => s.vaultPage v.epoch 4 2 (s.dumpGround v.epoch) 0 0 b)
  | none => s

/-- The entries of a dump that waited for a lane tried again, one after another; each goes in with the number that it has. -/
def State.sealLeft (s : State) (v : VaultArea) : State × VaultArea :=
  v.left.foldl (fun (a : State × VaultArea) x =>
    match a.1.sealEntry x.1 x.2 with
    | (s, .ok e) => (s.atomPages v.epoch [e], { a.2 with ents := a.2.ents ++ [e] })
    | (s, .error w) => (s, if w = 0x2703 then a.2 else { a.2 with left := a.2.left ++ [x] })) (s, { v with left := [] })

/-- What a dump left tried again in both areas. -/
def State.dumpRest (s : State) : State :=
  let a := s.sealLeft s.med.vaultA
  let b := a.1.sealLeft s.med.vaultB
  b.1.modMed (fun d => { d with vaultA := a.2, vaultB := b.2 })

/-- VAULT_DUMP (R251): the dump goes to an erased area; one that would hold no atom and no journal byte writes nothing. -/
def State.dump (s : State) : State :=
  let r := s.dumpArea
  let v := r.2
  let s := r.1
  let js := s.dumpJournals
  if v.erased then s
  else if s.med.vaultA.erased then (s.modMed (fun d => { d with vaultA := v })).dumpPages v js
  else if s.med.vaultB.erased then (s.modMed (fun d => { d with vaultB := v })).dumpPages v js
  else s

/-- The application cores of every motif halted (R437). -/
def State.haltApps (s : State) : State :=
  s.each s.motifs (fun s m => s.each (List.range 8) (fun s h => s.setHart m h false))

/-- VAULT_ENTRY (R104, R190, R251, R437): admission stops, the record that shows mode 4 goes out, the outside links go off, the application cores halt, contexts of the engines
are discarded, and the dump is made. -/
def State.enterVault (s : State) : State :=
  let area := s.fld F.MED_VAULT_ST_NEXT
  let s := (s.setFld F.PKG_MODE_ADMIT 0).dump
  let s := (s.enterMode 4).setEvt F.PKG_MODE_EV_VAULT
  let s := (s.sendRecord (s.stitchRecord [])).serdesOff.haltApps
  let s : State := { s.idleEngines with txOff := true }
  let s := s.each s.motifs (fun s m => s.setFld F.MED_VAULT_ST_NEXT area m)
  s.modHu (fun h => { h with dumpDone := false })

/-- The rails go down (R437, R481): head-alive falls, then every PEN output; after Vault the keys are zeroised first (R222). -/
def State.powerDown (s : State) : State :=
  let s := if s.mode = 4 then s.zeroiseAll else s
  let s := { s.driveHalive false with txOff := true }
  ((List.range s.power.pen).reverse.foldl (fun s n => s.out (.pen n)) s).modPower (fun p => { p with pen := 0, pgood := false, running := false })

/-- The loss of input power (R99, R434): Vault from a mode in service; power-down without a dump in Winding. -/
def State.inputLost (s : State) : State :=
  let s := ((s.setFld F.PWR_ST_HU_GOOD 0).setEvt F.PWR_EVT_HU_LOSS).modHu (fun h => { h with inputGood := false })
  if s.mode = 0 then s.powerDown else if s.inService then s.enterVault else s

/-- HU_GOOD_LOSS (R434): HU_GOOD has been low for `lowNs` after the glitch filter. -/
def execHuGoodLoss (lowNs : Nat) (bad : BadPages) (s : State) : Host.Outcome State Fault Refusal := live s (fun s => if 1000 ≤ lowNs then s.under bad (fun s => s.inputLost) else s)

/-- Every page of a dump is programmed, its SEAL page among them. -/
def State.dumpSealed (s : State) (epoch : Nat) : Bool :=
  let l := s.epochPages epoch
  l.any (fun p => p.kind == 5) && l.all (fun p => p.left.isEmpty)

/-- A dump that ends: whether its SEAL page is written, and the blocks of its pages. -/
def State.closeArea (s : State) (v : VaultArea) : VaultArea :=
  if v.erased then v
  else { v with sealed := s.dumpSealed v.epoch, blocks := ((s.epochPages v.epoch).flatMap (fun p => p.copies.map (fun c => c.2.1))).eraseDups }

/-- A page of the dump is on its way to a module. -/
def State.dumping (s : State) : Bool :=
  (s.bob.cmds ++ s.bob.heldCmds).any (fun c => match c.why with | .page _ _ => true | _ => false)

/-- The dump is complete (R99, R251, R462): both areas are as they will be found, the sampler records it, and the rails go down or a warm reset of kind 3 follows. -/
def State.dumpComplete (s : State) (inputGood : Bool) (us : Nat) : State :=
  let s := s.sampleVault 1
  let n := s.dumpEpoch
  let close := fun (v : VaultArea) => if v.epoch = n then s.closeArea v else v
  let s := s.modMed (fun d => { d with vaultA := close d.vaultA, vaultB := close d.vaultB })
  let s := s.modHu (fun h => { h with dumpDone := true, inputGood := inputGood })
  if inputGood then (s.setFld F.PWR_ST_HU_GOOD 1).warmReset 3 4 us else s.powerDown

/-- VAULT_DUMP_COMPLETE (R99): entries that waited for a lane are written first, and while one still waits, or a page is on its way to its module, the dump is not complete (R214,
R251). `inputGood` says that input power is
back. -/
def execVaultDumpComplete (inputGood : Bool) (us : Nat) (s : State) : Host.Outcome State Fault Refusal :=
  live s (fun s =>
    if s.mode = 4 ∧ ¬ s.hu.dumpDone then
      let s := s.dumpRest.settleDump
      if s.med.vaultA.left.isEmpty && s.med.vaultB.left.isEmpty && !s.dumping then s.dumpComplete inputGood us else s
    else s)

/-! ## The ends of a Rethread's handover phase -/

/-- Every ground has been handed over. -/
def State.allHanded (s : State) : Bool := s.ownedGrounds.isEmpty && s.pair.handing.isNone

/-- HANDOVER_DRAIN_COMPLETE (R101, R102): the partner head reports every unflushed write of the handed grounds durable. -/
def execHandoverDrainComplete (us : Nat) (s : State) : Host.Outcome State Fault Refusal :=
  live s (fun s => if s.mode = 3 ∧ s.allHanded then s.warmReset 2 3 us else s)

/-- RETHREAD_DRAIN_TIMEOUT (R99): 500 ms after the commit the drain is not complete. The grounds are taken back: one that is HANDING is OWNER again; those that went are taken
under R125, for the partner head has not mirrored them. `log` is its staging journal, `ctrls` its fabrics controllers. -/
def State.drainTimeout (s : State) (log : List StageEnt) (ctrls : List Ctrl) : State :=
  let back := s.pair.gone.filter (fun g => decide (s.groundState g = 2))
  let s := s.each s.ownedGrounds State.keepGround
  let s := s.modPair (fun p => { p with handing := none, asked := false, handQueue := [], gone := [] })
  (((((s.failRethread 0x1205).goPaired).beginTaking back log ctrls)).settleMode).resumeHost

/-- A Rethread's drain has taken 500 ms. -/
def execRethreadDrainTimeout (log : List StageEnt) (ctrls : List Ctrl) (s : State) : Host.Outcome State Fault Refusal :=
  live s (fun s => if s.mode = 3 then s.drainTimeout log ctrls else s)

/-- RETHREAD_FETCH_TIMEOUT (R103): 2 s after the commit step 14 has not ended. -/
def execRethreadFetchTimeout (s : State) : Host.Outcome State Fault Refusal :=
  live s (fun s => if s.mode = 0 ∧ s.fld F.PKG_MODE_WIND_KIND = 2 then s.hostLinkDown else s)

end Sys2Proof.Machine
end

