-- ==== Sys2Proof/Machine/Power.lean ====
section
/-! DEFINITION. Regulators and hold-up telemetry over PMBus (R430, R435), and the power sequencer (R479, R480). -/

namespace Sys2Proof.Machine

/-! ## Regulators -/

/-- The enabled entries of PWR_REG (R430). -/
def State.regulators (s : State) : List Nat := (List.range 32).filter (fun r => s.flag F.PWR_REG_EN 0 r)

/-- The PMBus command STATUS_WORD (log 70). -/
def pmbusStatusWord : Nat := 0x79

/-- What one regulator's STATUS_WORD says: a fault is a fail-stop, a warning sets REG_WARN (R430). -/
def State.judgeRegulator (s : State) (r : Nat) (fault warn : Bool) : State :=
  if fault then (s.setFld F.PWR_ST_FAULT_REG r).failStop 0x7206
  else if warn then s.setEvt F.PWR_EVT_REG_WARN
  else s

/-- The STATUS_WORD of every enabled entry is read (R430). `status` lists the entries that report a fault or a warning. -/
def State.pollRegulators (s : State) (status : List (Nat × Bool × Bool)) : State :=
  let s := s.each s.regulators (fun s r => s.out (.pmbusRead (s.fld F.PWR_REG_ADDR 0 r) (s.fld F.PWR_REG_PAGE 0 r) pmbusStatusWord))
  s.each (status.filter (fun e => s.regulators.contains e.1)) (fun s e => s.judgeRegulator e.1 e.2.1 e.2.2)

/-- The stitches between polls; 0 acts as 200 (R430). -/
def State.pollStitches (s : State) : Nat := if s.fld F.PWR_CTL_REG_POLL = 0 then 200 else s.fld F.PWR_CTL_REG_POLL

/-- REG_POLL stitches have passed since the last poll. -/
def State.pollDue (s : State) : Bool := decide (s.hu.polledAt + s.pollStitches ≤ s.num)

/-- A poll that the interval asks for. -/
def State.timedPoll (s : State) (status : List (Nat × Bool × Bool)) : State :=
  let n := s.num
  (s.modHu (fun h => { h with polledAt := n })).pollRegulators status

/-- REGULATOR_POLL (R430). -/
def execRegulatorPoll (status : List (Nat × Bool × Bool)) (s : State) : Host.Outcome State Fault Refusal :=
  live s (fun s => if s.pollDue then s.timedPoll status else s)

/-- SMBALERT_FALL (R430): a poll at once while ALERT_EN is 1. -/
def execSmbalertFall (status : List (Nat × Bool × Bool)) (s : State) : Host.Outcome State Fault Refusal :=
  live s (fun s => if s.flag F.PWR_CTL_ALERT_EN then s.pollRegulators status else s)

/-! ## Hold-up telemetry -/

/-- A LINEAR11 word as a number: mantissa [10:0] and exponent [15:11], both signed (log 70). -/
def linear11 (w : Nat) : Rat :=
  let m : Rat := (signed 11 (bits w 10 0) : Int)
  let e := signed 5 (bits w 15 11)
  if 0 ≤ e then m * ((2 ^ e.toNat : Nat) : Rat) else m / ((2 ^ (-e).toNat : Nat) : Rat)

/-- The read that step 3 asks for is due: the stitch in which the step began is over (R435). -/
def HoldUpSt.due (h : HoldUpSt) (n : Nat) : Bool := match h.owed with | some k => decide (n ≠ k) | none => false

/-- HU_ENERGY_READ_START (R435): a read of the hold-up energy starts at phase 550 of a stitch whose number is a multiple of 200, or of the first after step 3 has begun. -/
def State.startEnergyRead (s : State) : State :=
  if (s.num % 200 = 0 ∨ s.hu.due s.num) ∧ s.stc.phase ≤ 550 then
    let n := s.num
    let s := (s.atPhase 550).modHu (fun h => { h with owed := if h.due n then none else h.owed, reading := true })
    s.out (.pmbusRead (s.fld F.PWR_HU_CFG_ADDR) 0 (s.fld F.PWR_HU_CFG_CMD))
  else s

/-- The row HU_ENERGY_READ_START. -/
def execHuEnergyReadStart (s : State) : Host.Outcome State Fault Refusal := live s State.startEnergyRead

/-- HU_ENERGY_READ_DONE (R435): a read ends with a LINEAR11 value, or fails. -/
def State.endEnergyRead (s : State) (value : Option Nat) : State :=
  let s := s.modHu (fun h => { h with reading := false })
  match value with
  | some v =>
    let s := s.modHu (fun h => { h with energy := linear11 v })
    ((s.setFld F.PWR_HU_ST_FAILS 0).setFld F.PWR_HU_ST_AGE 0).setFld F.PWR_ST_HU_TELEM_OK 1
  | none =>
    let s := s.bump F.PWR_HU_ST_FAILS
    if 3 ≤ s.fld F.PWR_HU_ST_FAILS then (s.setFld F.PWR_ST_HU_TELEM_OK 0).setEvt F.PWR_EVT_HU_TELEM_FAIL else s.setFld F.PWR_ST_HU_TELEM_OK 1

/-- The row HU_ENERGY_READ_DONE. -/
def execHuEnergyReadDone (value : Option Nat) (s : State) : Host.Outcome State Fault Refusal :=
  live s (fun s => if s.hu.reading then s.endEnergyRead value else s)

/-! ## The sequencer -/

/-- The PEN outputs driven: the first `n` of them are high. -/
def State.drivePen (s : State) (n : Nat) : State := (s.out (.pen n)).modPower (fun p => { p with pen := n })

/-- POWER_RAILS_GOOD (R479): VDD_AON and VDD_IO have been good for 2 ms: PEN0 rises. `aonRemoved` says that VDD_AON had been removed, which ends a hold-off. -/
def State.railsGood (s : State) (aonRemoved : Bool) : State :=
  if s.power.running ∨ (s.power.holdOff ∧ ¬ aonRemoved) then s
  else (s.modPower (fun p => { p with aonGood := true, holdOff := false, pgood := false })).drivePen 1

/-- The row POWER_RAILS_GOOD. -/
def execPowerRailsGood (aonRemoved : Bool) (s : State) : Host.Outcome State Fault Refusal := .next (s.railsGood aonRemoved)

/-- The sequence runs: the rails of VDD_AON are good, PEN0 is up, and the part neither runs nor is held off. -/
def State.sequencing (s : State) : Bool := s.power.aonGood && !s.power.running && !s.power.holdOff && decide (1 ≤ s.power.pen)

/-- PEN_ENABLE_STEP (R479): the next PEN output rises. -/
def execPenEnableStep (s : State) : Host.Outcome State Fault Refusal :=
  .next (if s.sequencing && decide (s.power.pen < 5) then s.drivePen (s.power.pen + 1) else s)

/-- PGOOD_RISE (R479, R488): PGOOD has been high for 100 µs with every PEN output up: power-on reset, but for a high TEST_MODE. `huGood` is the level of HU_GOOD. -/
def State.pgoodRise (s : State) (headId us : Nat) (huGood : Bool) : State :=
  let s := (s.modPower (fun p => { p with pgood := true, running := true })).modHu (fun h => { h with inputGood := huGood })
  if s.power.testMode then s else s.powerOnReset headId us

/-- The row PGOOD_RISE. -/
def execPgoodRise (headId us : Nat) (huGood : Bool) (s : State) : Host.Outcome State Fault Refusal :=
  .next (if s.sequencing && decide (s.power.pen = 5) then s.pgoodRise headId us huGood else s)

/-- The PEN outputs fall from PEN4 to PEN0. -/
def State.lowerPens (s : State) : State := (List.range s.power.pen).reverse.foldl (fun s n => s.drivePen n) s

/-- PGOOD_TIMEOUT (R479): PGOOD was not high within 10 ms of PEN4: every enable falls, and power stays off. -/
def execPgoodTimeout (s : State) : Host.Outcome State Fault Refusal :=
  .next (if s.sequencing && decide (s.power.pen = 5) then s.lowerPens.modPower (fun p => { p with holdOff := true }) else s)

/-- PGOOD_LOW (R480): from the start of step 1, PGOOD low for 1 µs is a regulator fault. -/
def execPgoodLow (lowNs : Nat) (s : State) : Host.Outcome State Fault Refusal :=
  live s (fun s => if 1000 ≤ lowNs ∧ ¬ s.power.testMode then (s.modPower (fun p => { p with pgood := false })).failStop 0x7206 else s)

end Sys2Proof.Machine
end

