-- ==== Sys2Proof/Machine/Firmware.lean ====
section
/-! DEFINITION. FWU_CMD and FWU_COMMIT (R456 to R458), the entry to Rethread (R100, R101, R103, R373), and the sampler's snapshot reads (R466). -/

namespace Sys2Proof.Machine

/-! ## FWU_CMD -/

/-- A range lies within another. -/
def inside (ofs len base size : Nat) : Bool := decide (base ≤ ofs) && decide (ofs + len ≤ base + size)

/-- The slot that a range lies wholly in. -/
def slotOfRange (ofs len : Nat) : Option Nat := [0, 1].find? (fun k => inside ofs len (slotBase k) 0x4000000)

/-- A range that ERASE and PROGRAM may write (R457): in the settings store, or in a slot that is not running. -/
def State.writable (s : State) (ofs len : Nat) : Bool :=
  inside ofs len 0x10000 0x10000 || (match slotOfRange ofs len with | some k => decide (s.runningSlot ≠ some k) | none => false)

/-- The limits of R457 that an operation must keep. -/
def State.flashRangeOk (s : State) (op ofs len : Nat) : Bool :=
  decide (op ≠ 0) && decide (len ≠ 0) && (decide (op = 1) || decide (len ≤ 65536)) && (decide (op ≠ 1) || (decide (ofs % 4096 = 0) && decide (len % 4096 = 0))) &&
    decide (ofs + len ≤ flashSize) && (decide (op = 3) || s.writable ofs len)

/-- The shared BUSY of FWU_CMD and FWU_COMMIT. -/
def State.setFwuBusy (s : State) (b : Bool) : State :=
  ((s.setFld F.FWU_ST_BUSY (b2n b)).setFld F.FWU_CMD_BUSY (b2n b)).setFld F.FWU_COMMIT_BUSY (b2n b)

/-- An FWU_CMD operation ends with a status word. -/
def State.endFlashOp (s : State) (status : Nat) : State :=
  let s := { s.setFwuBusy false with fop := none }
  ((s.setFld F.FWU_CMD_GO 0).setFld F.FWU_CMD_STATUS status).setEvt F.FWU_EVT_CMD_DONE

/-- COMMIT_CANCEL (R457): a write to the slot that the control block names as NEXT with TRIAL 1 takes the commit back. -/
def State.cancelCommit (s : State) (op ofs len : Nat) : State :=
  let b := s.bootBlock
  if op ≠ 3 ∧ b.trial ∧ slotOfRange ofs len = some b.next then
    let t := match s.runningSlot with | some r => r | none => 1 - b.next
    (s.writeBlock { b with next := t, trial := false }).setEvt F.FWU_EVT_COMMIT_CANCELLED
  else s

/-- The class that the firmware unit's accesses to memory carry (log 70). -/
def fwuClass : Nat := 1

/-- An operation of FWU_CMD starts (R457), or completes at once with 0x2006 or what its memory range answers. -/
def State.startFlashOp (s : State) : State :=
  let op := s.fld F.FWU_CMD_OP
  let len := s.fld F.FWU_CMD_LEN
  let ofs := s.fld F.FWU_FLASH_OFS
  let a := s.fld F.FWU_MEM_ADDR
  let run := fun (s : State) (d : Bytes) => { (s.cancelCommit op ofs len).setFwuBusy true with fop := some ⟨op, ofs, len, a, d⟩ }
  if ¬ s.flashRangeOk op ofs len then s.endFlashOp 0x2006
  else if op = 1 then run s []
  else if op = 3 then (if s.reachesAll (.engine fwuClass) true a len then run s [] else s.endFlashOp 0x2F01)
  else match s.engineRead fwuClass a len with
    | (s, .ok d) => run s d
    | (s, .error e) => s.endFlashOp e

/-- A write of FWU_CMD: discarded while BUSY is 1. -/
def State.writeFwuCmd (s : State) (value : Nat) : State :=
  if s.flag F.FWU_ST_BUSY then s
  else
    let s := s.softWrite .FWU_CMD 0 0 value
    if bit value 63 then s.startFlashOp else s

/-- A write of FWU_CMD that asks for an operation. -/
def State.flashCmd (s : State) (op value : Nat) : State := if bit value 63 ∧ bits value 61 60 = op then s.writeFwuCmd value else s

/-- FWU_ERASE (R457). -/
def execFwuErase (value : Nat) (s : State) : Host.Outcome State Fault Refusal := live s (fun s => s.flashCmd 1 value)

/-- FWU_PROGRAM (R457). -/
def execFwuProgram (value : Nat) (s : State) : Host.Outcome State Fault Refusal := live s (fun s => s.flashCmd 2 value)

/-- FWU_READ (R457). -/
def execFwuRead (value : Nat) (s : State) : Host.Outcome State Fault Refusal := live s (fun s => s.flashCmd 3 value)

/-- The flash operation that runs ends well: what was programmed is read back, and a byte that was not erased fails it (R457). -/
def State.applyFlashOp (s : State) (o : FlashOp) : State × Nat :=
  if o.op = 1 then (s.flashErase o.ofs o.len, 0)
  else if o.op = 2 then
    let s := s.flashProgram o.ofs o.data
    (s, if s.flashRead o.ofs o.len = o.data then 0 else 0x3008)
  else s.engineWrite fwuClass o.mem (s.flashRead o.ofs o.len)

/-- The flash operation that runs fails: its range, or the memory that a READ fills, is left as R457 leaves open (log 70). -/
def State.failFlashOp (s : State) (o : FlashOp) : State :=
  let f := s.freeVal
  if o.op = 3 then
    let pick := fun (x : Byte × Byte × Nat) => if bit f x.2.2 then x.1 else x.2.1
    let d := (s.flashRead o.ofs o.len).zip ((s.load o.mem o.len).zip (List.range o.len))
    (s.engineWrite fwuClass o.mem (d.map pick)).1.tookFree
  else { s with flash := o.partial f s.flash, free := s.free + 1 }

/-- FLASH_OP_COMPLETE (R457): the operation ends; `failed` says that the flash reported an error or did not complete within 5 s. -/
def State.flashDone (s : State) (failed : Bool) : State :=
  match s.fop with
  | none => s
  | some o =>
    if failed then (s.failFlashOp o).endFlashOp 0x3008
    else
      let r := s.applyFlashOp o
      r.1.endFlashOp r.2

/-- The row FLASH_OP_COMPLETE. -/
def execFlashOpComplete (failed : Bool) (s : State) : Host.Outcome State Fault Refusal := live s (fun s => s.flashDone failed)

/-! ## FWU_COMMIT -/

/-- A commit is decided with a status word. -/
def State.endCommit (s : State) (status : Nat) : State := ((s.setFld F.FWU_COMMIT_GO 0).setFld F.FWU_COMMIT_STATUS status).setEvt F.FWU_EVT_COMMIT_DONE

/-- The control block of a commit (R458): NEXT = SLOT, TRIAL 1, PREV = the running slot, or the other slot while none is running. -/
def State.commitSlot (s : State) (slot : Nat) : State :=
  let p := match s.runningSlot with | some r => r | none => 1 - slot
  s.writeBlock { s.bootBlock with next := slot, trial := true, prev := p }

/-- The entry to Rethread (R99 to R103, R373, R400): every ground is handed over, fetching from PF0's queues pauses, and the host is told. -/
def State.enterRethread (s : State) : State :=
  let s := (s.enterMode 3).setEvt F.PKG_MODE_EV_RETHREAD
  let s := ((s.setFld F.FWU_COMMIT_GO 0).setFld F.HQ_ST_FETCH_PAUSED 1).setFld F.EP_ST_HOLD 1
  let s := s.raiseEvent s.pf0Id 9 0x030102
  (s.modPair (fun p => { p with handQueue := s.ownedGrounds, gone := [] })).startNext 2

/-- What a commit of FWU_COMMIT does (R458). -/
def State.commit (s : State) : State :=
  let a := s.fld F.FWU_COMMIT_ACTION
  let slot := s.fld F.FWU_COMMIT_SLOT
  if a = 0 then s.endCommit 0
  else if s.runningSlot = some slot then s.endCommit 0x2007
  else if a ≠ 3 then (s.commitSlot slot).endCommit 0
  else if s.mode ≠ 1 then s.endCommit 0x2203
  else if s.fld F.PKG_MODE_PARTNER_MODE ≠ 1 then s.endCommit 0x2204
  else (s.commitSlot slot).enterRethread

/-- A write of FWU_COMMIT: discarded while BUSY is 1. -/
def State.writeFwuCommit (s : State) (value : Nat) : State :=
  if s.flag F.FWU_ST_BUSY then s
  else
    let s := s.softWrite .FWU_COMMIT 0 0 value
    if bit value 31 then s.commit else s

/-- A write of FWU_COMMIT that asks for an action. -/
def State.commitCmd (s : State) (action value : Nat) : State := if bit value 31 ∧ bits value 29 28 = action then s.writeFwuCommit value else s

/-- FWU_COMMIT_NO_ACTION (R458). -/
def execFwuCommitNoAction (value : Nat) (s : State) : Host.Outcome State Fault Refusal := live s (fun s => s.commitCmd 0 value)

/-- FWU_COMMIT_REPLACE (R458). -/
def execFwuCommitReplace (value : Nat) (s : State) : Host.Outcome State Fault Refusal := live s (fun s => s.commitCmd 1 value)

/-- FWU_COMMIT_REPLACE_ACTIVATE (R458). -/
def execFwuCommitReplaceActivate (value : Nat) (s : State) : Host.Outcome State Fault Refusal := live s (fun s => s.commitCmd 2 value)

/-- FWU_COMMIT_ACTIVATE_NOW (R458). -/
def execFwuCommitActivateNow (value : Nat) (s : State) : Host.Outcome State Fault Refusal := live s (fun s => s.commitCmd 3 value)

/-! ## Snapshot reads -/

/-- A byte of the record area as context `k` shows it (R466). -/
def State.snapByte (s : State) (k o : Nat) : Byte :=
  let last := s.fld F.SMP_SNAP_OFS_LAST_OFS 0 k
  let rep := s.fld F.SMP_SNAP_LAST_REPEAT 0 k
  if ¬ s.flag F.SMP_SNAP_VALID 0 k ∨ s.fld F.SMP_SNAP_OFS_END_OFS 0 k ≤ o then 0
  else if o = last + 0x10 then BitVec.ofNat 8 rep
  else if o = last + 0x11 then BitVec.ofNat 8 (rep / 256)
  else Sparse.get 0 s.mram (recArea + o)

/-- The data registers of a context, for its window (R466). -/
def State.syncWindow (s : State) (k : Nat) : State :=
  let base := 8 * s.fld F.SMP_RD_OFS_OFS 0 k
  s.each (List.range 32) (fun s i => s.setReg .SMP_RD_DATA 0 (32 * k + i) (leNat ((List.range 8).map (fun b => s.snapByte k (base + 8 * i + b)))))

/-- The snapshot of a context is taken between two appends (R466). -/
def State.takeSnap (s : State) (k : Nat) : State :=
  let o := s.smpLast
  let seq := match o with | some o => s.mramNat (recArea + o) 4 | none => 0
  let rep := match o with | some o => s.mramNat (recArea + o + 16) 2 | none => 0
  let s := ((s.setFld F.SMP_SNAP_END_SEQ seq 0 k).setFld F.SMP_SNAP_LAST_REPEAT rep 0 k).setFld F.SMP_SNAP_VALID 1 0 k
  let s := (s.setFld F.SMP_SNAP_OFS_LAST_OFS (o.getD 0) 0 k).setFld F.SMP_SNAP_OFS_END_OFS s.smpWp 0 k
  (s.setFld F.SMP_SNAP_TAKE 0 0 k).syncWindow k

/-- A write of SMP_SNAP[k]. -/
def State.writeSnap (s : State) (k value : Nat) : State :=
  let s := s.softWrite .SMP_SNAP 0 k value
  if bit value 63 then s.takeSnap k else s

/-- SMP_SNAP_TAKE (R466). -/
def execSmpSnapTake (k value : Nat) (s : State) : Host.Outcome State Fault Refusal := live s (fun s => if k < 4 then s.writeSnap k value else s)

/-- A write of SMP_RD_OFS[k]. -/
def State.writeRdOfs (s : State) (k value : Nat) : State := (s.softWrite .SMP_RD_OFS 0 k value).syncWindow k

end Sys2Proof.Machine
end

