-- ==== Sys2Proof/Machine/Regs.lean ====
section
/-! DEFINITION. Register writes and reads by software (R7 to R11): what a write does beside storing its fields, which fields it may not change, and RC reads. -/

namespace Sys2Proof.Machine

/-- A write to a register that starts nothing: its fields by their types, then the fields that show what it selects. -/
def State.plainWrite (s : State) (r : Reg) (m i v : Nat) : State :=
  let s := s.softWrite r m i v
  match r with
  | .MTF_CJQ_CTL => s.serveRing false m
  | .DIG_JQ_CTL => s.serveRing true m
  | .MED_HSEL => s.syncHealth
  | .RPL_VIEW_Q => s.syncViews
  | .HQ_HEALTH_FW => s.syncWarn
  | .STC_SLOT_C => s.sramWroteAt 0 0x41 0 none i
  | .STC_SLOT_T => s.sramWroteAt 0 0x41 0 none i
  | .NET_CTL => if s.flag F.NET_CTL_FWQ_EN then s.tookFree.fwTx s.freeVal (ringSlots (s.fld F.NET_FWTX_BASE_SIZE)) else s
  | .BOB_CTL => s.releaseHeld s.bob.heldCmds.length
  | _ => s

/-- A write to a register by a requester: registers with a row of their own do what that row does; what its operands say of the surroundings is then that nothing more has happened yet
(log 71). -/
def State.writeReg (s : State) (who : Who) (r : Reg) (m i v : Nat) : State :=
  match r with
  | .PKG_RST => s.writePkgRst v 0 true
  | .STC_CTL => writeStcCtl v s
  | .STC_PTP_ADJ => ptpUpdate v s
  | .STC_CMP_C => writeCmpC i v s
  | .THM_THRESH => s.writeThresh v
  | .THM_AMB => s.writeAmb v
  | .BRD_CTL => s.writeBrdCtl v [] 0
  | .CLM_HANDOVER => s.writeHandover v
  | .SMP_SNAP => s.writeSnap i v
  | .SMP_RD_OFS => s.writeRdOfs i v
  | .FWU_CMD => s.writeFwuCmd v
  | .FWU_COMMIT => s.writeFwuCommit v
  | .RPL_VIEW_CMD => s.writeViewCmd v
  | .RPL_TGT_CONN => s.writeTgtConn i v
  | .RPL_TGT_CTL => s.writeTgtCtl i v
  | .MTF_CJQ_TAIL => s.postCmp m v
  | .DIG_JQ_TAIL => s.postDig m v
  | .CPU_RELEASE => s.writeRelease m v (who == .core 0 8)
  | .CPU_HCTL => s.writeHctl m i v false
  | .NET_FWQ_PTR => s.tookFree.writeFwqPtr v s.freeVal
  | .RDM_CONN_CMD => s.tookFree.writeConnCmd m v (s.freeVal % 8)
  | .RDM_MR_CMD => s.writeMrCmd v
  | .EP_CTL => s.writeEpCtl v none
  | .EP_PF1_RAISE => s.writePf1Raise v
  | .CIP_FENCE_LO => s.startTests m v
  | .CIP_FENCE_HI => s.startTests m (v * 2 ^ 64)
  | .CIP_KEK_CTL => s.writeKekCtl v
  | .CIP_SLOT_CMD => s.writeSlotCmd v
  | .ECU_MOD => s.writeEcuMod i v []
  | .CCH_CTL => s.writeCchCtl m v
  | .CCH_MAINT => s.writeMaint m v
  | .ECC_FLIP_TARGET => s.writeFlipTarget m v
  | r => s.plainWrite r m i v

/-- The motif in whose window an address lies; the package window is as near to each requester (log 83). -/
def windowMotif (who : Who) (addr : Nat) : Nat :=
  if 0x1000000 ≤ addr then addr / 0x1000000 - 1 else match who with | .core m _ => m | .engine _ => 0 | .host => 0

/-- A requester's access to the register window is taken up. -/
def State.regsOpen (s : State) (who : Who) : Bool := match who with | .host => s.bar0Open | .core _ _ => true | .engine _ => true

/-- The register seteipnum_le or seteipnum_be of an interrupt file that stands at an R6 address (R470, R471): motif, hart, level, and whether it is the big-endian one. -/
def eipFile (a : Nat) : Option (Nat × Nat × Nat × Bool) :=
  let o := a % 0x1000000 - 0x100000
  let page := o % 0x10000 / 0x1000
  if 0x1000000 ≤ a ∧ a % 0x1000000 / 0x100000 = 1 ∧ o < 0x20000 ∧ page ≤ 8 ∧ o % 0x1000 ≤ 4 ∧ o % 4 = 0 then
    some (a / 0x1000000 - 1, page, o / 0x10000, decide (o % 0x1000 = 4))
  else none

/-- REGISTER_WRITE (R7): a write of `width` bytes at an R6 address; none is performed where no register of that width stands. -/
def State.registerWrite (s : State) (who : Who) (addr width value : Nat) : State :=
  if s.regsOpen who then
    match s.regFor addr width with
    | some (r, m, i) => (s.hpmAccess who (windowMotif who addr) []).writeReg who r m i (value % 256 ^ width)
    | none =>
      match eipFile addr with
      | some (m, h, level, be) => if width = 4 then (s.hpmAccess who (windowMotif who addr) []).seteipnum m h level value be (who == .host) else s
      | none => s
  else s

/-- The row REGISTER_WRITE. -/
def execRegisterWrite (who : Who) (addr width value : Nat) (s : State) : Host.Outcome State Fault Refusal :=
  live s (fun s => s.registerWrite who addr width value)

/-- What a read of `width` bytes at an R6 address returns (R7, R8, R9): zero where no register stands, all ones for a width or alignment not the register's own. The two
registers of an interrupt file read zero (R471; log 83). -/
def State.readValue (s : State) (addr width : Nat) : Nat :=
  match s.regFor addr width with
  | some (r, m, i) => s.softRead r m i
  | none =>
    if (eipFile (addr - addr % 4)).any (fun f => s.hasMotif f.1) then (if width = 4 ∧ addr % 4 = 0 then 0 else 256 ^ width - 1) else
    match regOfAddr (addr - addr % 4), regOfAddr (addr - addr % 8) with
    | some (r, m, _), _ => if r.presentIn s.fuses.caps m && !(needsX r && !s.fuses.caps.optX) then 256 ^ width - 1 else 0
    | none, some (r, m, _) => if r.spec.wide && r.presentIn s.fuses.caps m && !(needsX r && !s.fuses.caps.optX) then 256 ^ width - 1 else 0
    | none, none => 0

/-- The answer to a read goes to its requester. -/
def State.answerReg (s : State) (who : Who) (addr width v : Nat) : State :=
  match who with
  | .host => if s.flag F.EP_ST_UP then s.emit (.barData 1 (leBytes width v)) else s
  | .core m h => s.out (.coreData m h (0x4000000000 + addr) (leBytes width v))
  | .engine _ => s

/-- A read of a register: the value goes to the requester, RC bits returned as 1 are cleared (R10), and STC_NUM latches the phase (R65). -/
def State.registerRead (s : State) (who : Who) (addr width : Nat) : State :=
  let v := if s.regsOpen who then s.readValue addr width else 256 ^ width - 1
  let s := s.answerReg who addr width v
  if s.regsOpen who then
    match s.regFor addr width with
    | some (r, m, i) => (((if r = .STC_NUM then stcNumRead s.stc.phase s else s).softAfterRead r m i).tvRead r m i).hpmAccess who (windowMotif who addr) []
    | none => s
  else s

/-- RC_READ (R10). -/
def execRcRead (who : Who) (addr width : Nat) (s : State) : Host.Outcome State Fault Refusal := live s (fun s => s.registerRead who addr width)

/-- STC_NUM_READ (R65): a read of STC_NUM by a requester at a phase. -/
def execStcNumRead (who : Who) (phase : Nat) (s : State) : Host.Outcome State Fault Refusal :=
  live s (fun s => (s.atPhase phase).registerRead who (Reg.addr .STC_NUM 0 0) 8)

end Sys2Proof.Machine
end

