-- ==== Sys2Proof/Machine/Dispatch.lean ====
section
/-! DEFINITION. The dispatch of a command to its meaning, one arm for each constructor. -/

namespace Sys2Proof.Machine

/-- The effect of a command on everything but the queue. -/
def exec (i : Instr) (s : State) : Host.Outcome State Fault Refusal :=
  match i with
  | .registerWrite who addr width value => Sys2Proof.Machine.execRegisterWrite who addr width value s
  | .rcRead who addr width => Sys2Proof.Machine.execRcRead who addr width s
  | .stcNumRead who phase => Sys2Proof.Machine.execStcNumRead who phase s
  | .powerOnReset headId us => Sys2Proof.Machine.execPowerOnReset headId us s
  | .resetNAssert lowNs us => Sys2Proof.Machine.execResetNAssert lowNs us s
  | .pkgRstWarm value us => Sys2Proof.Machine.execPkgRstWarm value us s
  | .pkgRstMotifRst value ok => Sys2Proof.Machine.execPkgRstMotifRst value ok s
  | .ucieReplayLimit motif link => Sys2Proof.Machine.execUcieReplayLimit motif link s
  | .ucieNoProgressTimeout motif link => Sys2Proof.Machine.execUcieNoProgressTimeout motif link s
  | .ucieLaneFail motif link => Sys2Proof.Machine.execUcieLaneFail motif link s
  | .sramUncorrectable motif code inst word at_ dirty => Sys2Proof.Machine.execSramUncorrectable motif code inst word at_ dirty s
  | .servicePollMiss motif stitches => Sys2Proof.Machine.execServicePollMiss motif stitches s
  | .pllLossOfLock => Sys2Proof.Machine.execPllLossOfLock s
  | .stitchEdge err highNs => Sys2Proof.Machine.execStitchEdge err highNs s
  | .stitchFrame => Sys2Proof.Machine.execStitchFrame s
  | .stitchEdgeTimeout => Sys2Proof.Machine.execStitchEdgeTimeout s
  | .ptpUpdate value => Sys2Proof.Machine.execPtpUpdate value s
  | .ptpUpdateTimeout => Sys2Proof.Machine.execPtpUpdateTimeout s
  | .stitchStart => Sys2Proof.Machine.execStitchStart s
  | .relockComplete => Sys2Proof.Machine.execRelockComplete s
  | .acquireTimeout => Sys2Proof.Machine.execAcquireTimeout s
  | .holdoverExpiry => Sys2Proof.Machine.execHoldoverExpiry s
  | .stcRetry value => Sys2Proof.Machine.execStcRetry value s
  | .recSnap overrun => Sys2Proof.Machine.execRecSnap overrun s
  | .recSend endPhase => Sys2Proof.Machine.execRecSend endPhase s
  | .imonSample overrun pkg lpm bytes => Sys2Proof.Machine.execImonSample overrun pkg lpm bytes s
  | .imonForced motif => Sys2Proof.Machine.execImonForced motif s
  | .vaultBudget overrun => Sys2Proof.Machine.execVaultBudget overrun s
  | .thermalStep overrun dimms => Sys2Proof.Machine.execThermalStep overrun dimms s
  | .throttleGraceExpiry => Sys2Proof.Machine.execThrottleGraceExpiry s
  | .thermalNotice => Sys2Proof.Machine.execThermalNotice s
  | .inletStale => Sys2Proof.Machine.execInletStale s
  | .claimKeepalive overrun => Sys2Proof.Machine.execClaimKeepalive overrun s
  | .dramScrub slot overrun upsets => Sys2Proof.Machine.execDramScrub slot overrun upsets s
  | .patrol slot overrun bad => Sys2Proof.Machine.execPatrol slot overrun bad s
  | .patrolBehind motif => Sys2Proof.Machine.execPatrolBehind motif s
  | .mediaScrub slot overrun bad => Sys2Proof.Machine.execMediaScrub slot overrun bad s
  | .replEpoch slot overrun => Sys2Proof.Machine.execReplEpoch slot overrun s
  | .samplerHour slot overrun => Sys2Proof.Machine.execSamplerHour slot overrun s
  | .gcQuota slot overrun bad => Sys2Proof.Machine.execGcQuota slot overrun bad s
  | .coreEvent slot overrun => Sys2Proof.Machine.execCoreEvent slot overrun s
  | .comparatorFire j => Sys2Proof.Machine.execComparatorFire j s
  | .comparatorEnable j value phase => Sys2Proof.Machine.execComparatorEnable j value phase s
  | .fuseLoad us => Sys2Proof.Machine.execFuseLoad us s
  | .bootRomStart l us => Sys2Proof.Machine.execBootRomStart l us s
  | .imageSlotSelect errA errB us => Sys2Proof.Machine.execImageSlotSelect errA errB us s
  | .measurementExtend us => Sys2Proof.Machine.execMeasurementExtend us s
  | .prickingLoad readError us => Sys2Proof.Machine.execPrickingLoad readError us s
  | .motifBringup fail repaired us => Sys2Proof.Machine.execMotifBringup fail repaired us s
  | .dramTraining dimms us => Sys2Proof.Machine.execDramTraining dimms us s
  | .brideTraining pass clock now t us => Sys2Proof.Machine.execBrideTraining pass clock now t us s
  | .stitchLock us => Sys2Proof.Machine.execStitchLock us s
  | .moduleDiscovery found us => Sys2Proof.Machine.execModuleDiscovery found us s
  | .metadataRecovery foreign log vaults unreadable bad us => Sys2Proof.Machine.execMetadataRecovery foreign log vaults unreadable bad us s
  | .keysDoneTimeout foreign log vaults unreadable bad us => Sys2Proof.Machine.execKeysDoneTimeout foreign log vaults unreadable bad us s
  | .mirrorResync us => Sys2Proof.Machine.execMirrorResync us s
  | .groundAssignment us => Sys2Proof.Machine.execGroundAssignment us s
  | .priorSectionsSwitch => Sys2Proof.Machine.execPriorSectionsSwitch s
  | .huGoodLoss lowNs bad => Sys2Proof.Machine.execHuGoodLoss lowNs bad s
  | .vaultDumpComplete inputGood us => Sys2Proof.Machine.execVaultDumpComplete inputGood us s
  | .handoverDrainComplete us => Sys2Proof.Machine.execHandoverDrainComplete us s
  | .rethreadDrainTimeout log ctrls => Sys2Proof.Machine.execRethreadDrainTimeout log ctrls s
  | .rethreadFetchTimeout => Sys2Proof.Machine.execRethreadFetchTimeout s
  | .brideLaneFail group lane => Sys2Proof.Machine.execBrideLaneFail group lane s
  | .brideLinkDown log ctrls => Sys2Proof.Machine.execBrideLinkDown log ctrls s
  | .brideRetrainTimer pass clock => Sys2Proof.Machine.execBrideRetrainTimer pass clock s
  | .brdRetrain value pass clock => Sys2Proof.Machine.execBrdRetrain value pass clock s
  | .trainIdReceive h now t => Sys2Proof.Machine.execTrainIdReceive h now t s
  | .brideFrameError group frame => Sys2Proof.Machine.execBrideFrameError group frame s
  | .nakReceive h => Sys2Proof.Machine.execNakReceive h s
  | .ackStallTimeout group => Sys2Proof.Machine.execAckStallTimeout group s
  | .idleSend group => Sys2Proof.Machine.execIdleSend group s
  | .idleReceive h => Sys2Proof.Machine.execIdleReceive h s
  | .recordReceive frames phase late => Sys2Proof.Machine.execRecordReceive frames phase late s
  | .recordMissing log ctrls => Sys2Proof.Machine.execRecordMissing log ctrls s
  | .haliveInChange level => Sys2Proof.Machine.execHaliveInChange level s
  | .mirrorReceive h f => Sys2Proof.Machine.execMirrorReceive h f s
  | .haveReceive h l => Sys2Proof.Machine.execHaveReceive h l s
  | .clmHandoverGo value => Sys2Proof.Machine.execClmHandoverGo value s
  | .handoverRequestSend => Sys2Proof.Machine.execHandoverRequestSend s
  | .handoverRequestReceive h g claim entries ctrls => Sys2Proof.Machine.execHandoverRequestReceive h g claim entries ctrls s
  | .handoverClaimedReceive h g claim => Sys2Proof.Machine.execHandoverClaimedReceive h g claim s
  | .handoverDoneReceive h g => Sys2Proof.Machine.execHandoverDoneReceive h g s
  | .handingBrideDownTimeout => Sys2Proof.Machine.execHandingBrideDownTimeout s
  | .resyncReceive h f => Sys2Proof.Machine.execResyncReceive h f s
  | .resyncBacklogEmpty us => Sys2Proof.Machine.execResyncBacklogEmpty us s
  | .namedStitchReached us => Sys2Proof.Machine.execNamedStitchReached us s
  | .waitingWriteAdmit => Sys2Proof.Machine.execWaitingWriteAdmit s
  | .atomLand writeId idx data pi => Sys2Proof.Machine.execAtomLand writeId idx data pi s
  | .flushAgeExpiry motif bad disagree => Sys2Proof.Machine.execFlushAgeExpiry motif bad disagree s
  | .nonceBlockReserve motif group => Sys2Proof.Machine.execNonceBlockReserve motif group s
  | .stripeProgramDone band stripe => Sys2Proof.Machine.execStripeProgramDone band stripe s
  | .stripePadAge ground motif gc => Sys2Proof.Machine.execStripePadAge ground motif gc s
  | .mapUpdateDurable txn flash => Sys2Proof.Machine.execMapUpdateDurable txn flash s
  | .engineContextFreed kind motif => Sys2Proof.Machine.execEngineContextFreed kind motif s
  | .cmpJobPost motif value => Sys2Proof.Machine.execCmpJobPost motif value s
  | .cmpJobCompress motif idx => Sys2Proof.Machine.execCmpJobCompress motif idx s
  | .cmpJobDecompress motif idx => Sys2Proof.Machine.execCmpJobDecompress motif idx s
  | .digJobPost motif value => Sys2Proof.Machine.execDigJobPost motif value s
  | .digJobDigest motif idx => Sys2Proof.Machine.execDigJobDigest motif idx s
  | .digJobMeasureData motif idx => Sys2Proof.Machine.execDigJobMeasureData motif idx s
  | .digJobMeasureValue motif idx => Sys2Proof.Machine.execDigJobMeasureValue motif idx s
  | .digResRelease motif => Sys2Proof.Machine.execDigResRelease motif s
  | .laneKatStart motif high value => Sys2Proof.Machine.execLaneKatStart motif high value s
  | .laneKatComplete motif lane pass => Sys2Proof.Machine.execLaneKatComplete motif lane pass s
  | .kekLoad value => Sys2Proof.Machine.execKekLoad value s
  | .keysDone value => Sys2Proof.Machine.execKeysDone value s
  | .keySlotLoad value => Sys2Proof.Machine.execKeySlotLoad value s
  | .keySlotClear value => Sys2Proof.Machine.execKeySlotClear value s
  | .keySlotZeroise slot => Sys2Proof.Machine.execKeySlotZeroise slot s
  | .gcCollectStart motif bad => Sys2Proof.Machine.execGcCollectStart motif bad s
  | .gcCopyComplete band => Sys2Proof.Machine.execGcCopyComplete band s
  | .bandErase band => Sys2Proof.Machine.execBandErase band s
  | .bandEraseComplete band => Sys2Proof.Machine.execBandEraseComplete band s
  | .stagingAppend writeId atom disagree => Sys2Proof.Machine.execStagingAppend writeId atom disagree s
  | .stagingAppendDone writeId atom => Sys2Proof.Machine.execStagingAppendDone writeId atom s
  | .stagingBlockErase b => Sys2Proof.Machine.execStagingBlockErase b s
  | .checkpointPassEnd motif => Sys2Proof.Machine.execCheckpointPassEnd motif s
  | .telemetryPoll => Sys2Proof.Machine.execTelemetryPoll s
  | .moduleLinkDownTimeout ix bad => Sys2Proof.Machine.execModuleLinkDownTimeout ix bad s
  | .ecuModFail ix value bad => Sys2Proof.Machine.execEcuModFail ix value bad s
  | .ecuModReinstate ix value => Sys2Proof.Machine.execEcuModReinstate ix value s
  | .ecuModRole ix value => Sys2Proof.Machine.execEcuModRole ix value s
  | .ecuModFd ix value => Sys2Proof.Machine.execEcuModFd ix value s
  | .rebuildBandDone motif bad => Sys2Proof.Machine.execRebuildBandDone motif bad s
  | .bobbinIdentify ix q cid other => Sys2Proof.Machine.execBobbinIdentify ix q cid other s
  | .geometry ix q cid other => Sys2Proof.Machine.execGeometry ix q cid other s
  | .readPage ix q cid other outcome corrected => Sys2Proof.Machine.execReadPage ix q cid other outcome corrected s
  | .programPages ix q cid other outcome => Sys2Proof.Machine.execProgramPages ix q cid other outcome s
  | .eraseBlock ix q cid other outcome => Sys2Proof.Machine.execEraseBlock ix q cid other outcome s
  | .claimSet ix q cid other => Sys2Proof.Machine.execClaimSet ix q cid other s
  | .claimGet ix q cid other => Sys2Proof.Machine.execClaimGet ix q cid other s
  | .telemetry ix q cid other failed tempC => Sys2Proof.Machine.execTelemetry ix q cid other failed tempC s
  | .setFeature ix q cid other => Sys2Proof.Machine.execSetFeature ix q cid other s
  | .resetLun ix q cid other started => Sys2Proof.Machine.execResetLun ix q cid other started s
  | .moduleEnWrite ix value ready started bad => Sys2Proof.Machine.execModuleEnWrite ix value ready started bad s
  | .moduleSqTail ix q tail => Sys2Proof.Machine.execModuleSqTail ix q tail s
  | .bobbinCompletion ix q cid bad => Sys2Proof.Machine.execBobbinCompletion ix q cid bad s
  | .bobbinCmdTimeout ix q cid bad => Sys2Proof.Machine.execBobbinCmdTimeout ix q cid bad s
  | .cidQuarantineExpiry ix q cid => Sys2Proof.Machine.execCidQuarantineExpiry ix q cid s
  | .modulePortAbort ix kind started bad => Sys2Proof.Machine.execModulePortAbort ix kind started bad s
  | .inboundDma motif addr n write data => Sys2Proof.Machine.execInboundDma motif addr n write data s
  | .ethLinkChange motif sub up speed corr uncorr => Sys2Proof.Machine.execEthLinkChange motif sub up speed corr uncorr s
  | .rdmaSend hdr plain first last data => Sys2Proof.Machine.execRdmaSend hdr plain first last data s
  | .rdmaWrite hdr va rkey ofs first last imm data => Sys2Proof.Machine.execRdmaWrite hdr va rkey ofs first last imm data s
  | .rdmaRead hdr va rkey len bad => Sys2Proof.Machine.execRdmaRead hdr va rkey len bad s
  | .rdmaAtomic hdr va rkey cas a b => Sys2Proof.Machine.execRdmaAtomic hdr va rkey cas a b s
  | .contextFillComplete conn late broken bad => Sys2Proof.Machine.execContextFillComplete conn late broken bad s
  | .rdmaAckReceive conn kind psn code base high map resync => Sys2Proof.Machine.execRdmaAckReceive conn kind psn code base high map resync s
  | .sprayGapTimeout conn => Sys2Proof.Machine.execSprayGapTimeout conn s
  | .readResponseGap conn psn va len => Sys2Proof.Machine.execReadResponseGap conn psn va len s
  | .localAckTimeout conn => Sys2Proof.Machine.execLocalAckTimeout conn s
  | .pathSuspendExpiry conn path => Sys2Proof.Machine.execPathSuspendExpiry conn path s
  | .connCreate motif value sub => Sys2Proof.Machine.execConnCreate motif value sub s
  | .connDestroy motif value => Sys2Proof.Machine.execConnDestroy motif value s
  | .connErrorCmd motif value => Sys2Proof.Machine.execConnErrorCmd motif value s
  | .timewaitExpiry conn => Sys2Proof.Machine.execTimewaitExpiry conn s
  | .fwRxFrame motif sub frame ts arpFor => Sys2Proof.Machine.execFwRxFrame motif sub frame ts arpFor s
  | .fwTxPost value subNs => Sys2Proof.Machine.execFwTxPost value subNs s
  | .pfcFrameReceive motif sub prio pause levels => Sys2Proof.Machine.execPfcFrameReceive motif sub prio pause levels s
  | .cnpReceive conn ce => Sys2Proof.Machine.execCnpReceive conn ce s
  | .ccRateTimer conn => Sys2Proof.Machine.execCcRateTimer conn s
  | .mrValidate value => Sys2Proof.Machine.execMrValidate value s
  | .mrRevoke value => Sys2Proof.Machine.execMrRevoke value s
  | .revokeDrainComplete => Sys2Proof.Machine.execRevokeDrainComplete s
  | .rplSnapshot value => Sys2Proof.Machine.execRplSnapshot value s
  | .cutStitchReached => Sys2Proof.Machine.execCutStitchReached s
  | .snapshotReady view bad => Sys2Proof.Machine.execSnapshotReady view bad s
  | .rplClone value => Sys2Proof.Machine.execRplClone value s
  | .rplDelete value => Sys2Proof.Machine.execRplDelete value s
  | .walkerRelease motif => Sys2Proof.Machine.execWalkerRelease motif s
  | .epochBegin t => Sys2Proof.Machine.execEpochBegin t s
  | .query t => Sys2Proof.Machine.execQuery t s
  | .applied t bad => Sys2Proof.Machine.execApplied t bad s
  | .data t bad => Sys2Proof.Machine.execData t bad s
  | .epochEnd t => Sys2Proof.Machine.execEpochEnd t s
  | .epochAck t => Sys2Proof.Machine.execEpochAck t s
  | .epochRestart t bad => Sys2Proof.Machine.execEpochRestart t bad s
  | .replLagAlarm t => Sys2Proof.Machine.execReplLagAlarm t s
  | .sqDoorbellWrite sq tail => Sys2Proof.Machine.execSqDoorbellWrite sq tail s
  | .createIoSq f qid size cq contiguous => Sys2Proof.Machine.execCreateIoSq f qid size cq contiguous s
  | .deleteIoSq f qid => Sys2Proof.Machine.execDeleteIoSq f qid s
  | .createIoCq f qid size vec ien contiguous => Sys2Proof.Machine.execCreateIoCq f qid size vec ien contiguous s
  | .deleteIoCq f qid => Sys2Proof.Machine.execDeleteIoCq f qid s
  | .getLogPage f page ofs len sqe => Sys2Proof.Machine.execGetLogPage f page ofs len sqe s
  | .nvmeIdentify f sqe => Sys2Proof.Machine.execNvmeIdentify f sqe s
  | .abort f sq cid waiting => Sys2Proof.Machine.execAbort f sq cid waiting s
  | .setFeatures f fid value sqe data => Sys2Proof.Machine.execSetFeatures f fid value sqe data s
  | .getFeatures f fid sqe out => Sys2Proof.Machine.execGetFeatures f fid sqe out s
  | .asyncEventRequest f => Sys2Proof.Machine.execAsyncEventRequest f s
  | .nsCreate f data => Sys2Proof.Machine.execNsCreate f data s
  | .nsDelete f => Sys2Proof.Machine.execNsDelete f s
  | .firmwareCommit f sqe => Sys2Proof.Machine.execFirmwareCommit f sqe s
  | .firmwareImageDownload f sqe data => Sys2Proof.Machine.execFirmwareImageDownload f sqe data s
  | .namespaceAttachment f attach ctls => Sys2Proof.Machine.execNamespaceAttachment f attach ctls s
  | .keepAlive f => Sys2Proof.Machine.execKeepAlive f s
  | .keepAliveTimeout ctl => Sys2Proof.Machine.execKeepAliveTimeout ctl s
  | .fabricsConnect conn cid qid size ctl kato => Sys2Proof.Machine.execFabricsConnect conn cid qid size ctl kato s
  | .propertyGet f ofs => Sys2Proof.Machine.execPropertyGet f ofs s
  | .propertySet f ofs value => Sys2Proof.Machine.execPropertySet f ofs value s
  | .disconnect f => Sys2Proof.Machine.execDisconnect f s
  | .nvmeWrite f atom count len fua byWrite => Sys2Proof.Machine.execNvmeWrite f atom count len fua byWrite s
  | .nvmeRead f atom count len bad => Sys2Proof.Machine.execNvmeRead f atom count len bad s
  | .nvmeFlush f => Sys2Proof.Machine.execNvmeFlush f s
  | .writeZeroes f atom count => Sys2Proof.Machine.execWriteZeroes f atom count s
  | .datasetManagement f ranges dealloc => Sys2Proof.Machine.execDatasetManagement f ranges dealloc s
  | .verify f atom count bad => Sys2Proof.Machine.execVerify f atom count bad s
  | .fwcDone slot => Sys2Proof.Machine.execFwcDone slot s
  | .ccEnSet asqs acqs valid => Sys2Proof.Machine.execCcEnSet asqs acqs valid s
  | .ccEnClear => Sys2Proof.Machine.execCcEnClear s
  | .ccShnNormal => Sys2Proof.Machine.execCcShnNormal s
  | .ccShnAbrupt => Sys2Proof.Machine.execCcShnAbrupt s
  | .controllerResetEnd ctl => Sys2Proof.Machine.execControllerResetEnd ctl s
  | .shutdownProcessingEnd ctl => Sys2Proof.Machine.execShutdownProcessingEnd ctl s
  | .perstAssert hot => Sys2Proof.Machine.execPerstAssert hot s
  | .perstDeassert l => Sys2Proof.Machine.execPerstDeassert l s
  | .configRequest pf bar addr n write => Sys2Proof.Machine.execConfigRequest pf bar addr n write s
  | .epRetrain value done => Sys2Proof.Machine.execEpRetrain value done s
  | .pf0Avail value => Sys2Proof.Machine.execPf0Avail value s
  | .bmeClear pf => Sys2Proof.Machine.execBmeClear pf s
  | .bmeSet pf => Sys2Proof.Machine.execBmeSet pf s
  | .d3hotEntry pf => Sys2Proof.Machine.execD3hotEntry pf s
  | .flrPf0 => Sys2Proof.Machine.execFlrPf0 s
  | .flrPf1 => Sys2Proof.Machine.execFlrPf1 s
  | .cplTimeout tag other answered => Sys2Proof.Machine.execCplTimeout tag other answered s
  | .unexpectedCompletion tag => Sys2Proof.Machine.execUnexpectedCompletion tag s
  | .tagQuarantineExpiry tag => Sys2Proof.Machine.execTagQuarantineExpiry tag s
  | .poisonedTlpReceive pf tag other => Sys2Proof.Machine.execPoisonedTlpReceive pf tag other s
  | .pf1Raise value => Sys2Proof.Machine.execPf1Raise value s
  | .msixUnmask pf v masked => Sys2Proof.Machine.execMsixUnmask pf v masked s
  | .pf1Bar2Access ofs n data => Sys2Proof.Machine.execPf1Bar2Access ofs n data s
  | .coreUnmappedAccess who kind addr n cls => Sys2Proof.Machine.execCoreUnmappedAccess who kind addr n cls s
  | .cacheFill who kind addr n cls stage data upset => Sys2Proof.Machine.execCacheFill who kind addr n cls stage data upset s
  | .writebackComplete motif line => Sys2Proof.Machine.execWritebackComplete motif line s
  | .eccInjectArm motif value => Sys2Proof.Machine.execEccInjectArm motif value s
  | .cchClean motif value => Sys2Proof.Machine.execCchClean motif value s
  | .cchInvalidate motif value => Sys2Proof.Machine.execCchInvalidate motif value s
  | .cchCleanInvalidate motif value => Sys2Proof.Machine.execCchCleanInvalidate motif value s
  | .maintComplete motif => Sys2Proof.Machine.execMaintComplete motif s
  | .cchDisable motif value => Sys2Proof.Machine.execCchDisable motif value s
  | .cacheDrainComplete motif => Sys2Proof.Machine.execCacheDrainComplete motif s
  | .cchPolicyChange motif value => Sys2Proof.Machine.execCchPolicyChange motif value s
  | .sramScrubWalk motif found => Sys2Proof.Machine.execSramScrubWalk motif found s
  | .tvSweep upsets => Sys2Proof.Machine.execTvSweep upsets s
  | .regulatorPoll status => Sys2Proof.Machine.execRegulatorPoll status s
  | .smbalertFall status => Sys2Proof.Machine.execSmbalertFall status s
  | .huEnergyReadStart => Sys2Proof.Machine.execHuEnergyReadStart s
  | .huEnergyReadDone value => Sys2Proof.Machine.execHuEnergyReadDone value s
  | .powerRailsGood aonRemoved => Sys2Proof.Machine.execPowerRailsGood aonRemoved s
  | .penEnableStep => Sys2Proof.Machine.execPenEnableStep s
  | .pgoodRise headId us huGood => Sys2Proof.Machine.execPgoodRise headId us huGood s
  | .pgoodTimeout => Sys2Proof.Machine.execPgoodTimeout s
  | .pgoodLow lowNs => Sys2Proof.Machine.execPgoodLow lowNs s
  | .fwuErase value => Sys2Proof.Machine.execFwuErase value s
  | .fwuProgram value => Sys2Proof.Machine.execFwuProgram value s
  | .fwuRead value => Sys2Proof.Machine.execFwuRead value s
  | .flashOpComplete failed => Sys2Proof.Machine.execFlashOpComplete failed s
  | .fwuCommitNoAction value => Sys2Proof.Machine.execFwuCommitNoAction value s
  | .fwuCommitReplace value => Sys2Proof.Machine.execFwuCommitReplace value s
  | .fwuCommitReplaceActivate value => Sys2Proof.Machine.execFwuCommitReplaceActivate value s
  | .fwuCommitActivateNow value => Sys2Proof.Machine.execFwuCommitActivateNow value s
  | .smpSnapTake k value => Sys2Proof.Machine.execSmpSnapTake k value s
  | .cpuRelease motif value byRoot => Sys2Proof.Machine.execCpuRelease motif value byRoot s
  | .cpuHalt motif h value withRun => Sys2Proof.Machine.execCpuHalt motif h value withRun s
  | .hpmEventWrite motif h ix value => Sys2Proof.Machine.execHpmEventWrite motif h ix value s
  | .imsicSeteipnum motif h level value be bar0 => Sys2Proof.Machine.execImsicSeteipnum motif h level value be bar0 s
  | .hostLinkDown up l => Sys2Proof.Machine.execHostLinkDown up l s
  | .d0Return pf => Sys2Proof.Machine.execD0Return pf s
  | .cqHeadDoorbell cq head => Sys2Proof.Machine.execCqHeadDoorbell cq head s
  | .rnrRetryTimer conn => Sys2Proof.Machine.execRnrRetryTimer conn s
  | .moduleReadyTimeout ix => Sys2Proof.Machine.execModuleReadyTimeout ix s
  | .pauseExpiry motif sub prio levels => Sys2Proof.Machine.execPauseExpiry motif sub prio levels s

end Sys2Proof.Machine
end

