-- ==== Sys2Proof/Safety.lean ====
section
/-! DEFINITION. What counts as a safe step and a safe state: a step that ends in a next state, sparse data in canonical form, a mode that the spec names, and power that is held off staying off. -/

namespace Sys2Proof.Machine

/-- A step that went on. -/
def wentOn : Host.Outcome State Fault Refusal → Bool
  | .next _ => true
  | .fault _ => false
  | .refused _ => false

/-- The memories and registers are in their canonical form: keys rise, and nothing listed equals what an unlisted address reads as. -/
def State.memWf (s : State) : Bool :=
  Sparse.sorted s.regs && s.regs.all (fun e => match regOfAddr e.1 with | some (r, _, _) => decide (e.2 ≠ r.resetVal) | none => false) &&
    Sparse.wf memDefault s.mem && Sparse.wf flashErased s.flash && Sparse.wf 0 s.mram

/-- PKG_MODE.MODE is one of the six modes of R91. -/
def State.modeWf (s : State) : Bool := decide (s.mode ≤ 5)

/-- A command that tells of VDD_AON removed and restored, which alone ends a hold-off of power (R479). -/
def restoresAon (c : Instr) : Bool := match c with | .powerRailsGood b => b | _ => false

/-- The commands that need no powered head: the modules' own side, and the power sequence (R479). -/
def needsNoPower (c : Instr) : Bool :=
  match c with
  | .bobbinIdentify .. => true
  | .geometry .. => true
  | .readPage .. => true
  | .programPages .. => true
  | .eraseBlock .. => true
  | .claimSet .. => true
  | .claimGet .. => true
  | .telemetry .. => true
  | .setFeature .. => true
  | .resetLun .. => true
  | .powerRailsGood _ => true
  | .penEnableStep => true
  | .pgoodRise .. => true
  | .pgoodTimeout => true
  | _ => false

/-- A register whose write does more than store its fields, or whose fields a write may not change at the moment. -/
def hasOwnWrite (r : Reg) : Bool :=
  [Reg.PKG_RST, .STC_CTL, .STC_PTP_ADJ, .STC_CMP_C, .STC_SLOT_C, .STC_SLOT_T, .THM_THRESH, .THM_AMB, .BRD_CTL, .CLM_HANDOVER, .SMP_SNAP, .SMP_RD_OFS, .FWU_CMD, .FWU_COMMIT,
    .RPL_VIEW_CMD, .RPL_VIEW_Q, .RPL_TGT_CTL, .RPL_TGT_CONN, .NET_CTL, .MTF_CJQ_BASE, .MTF_CJQ_CTL, .MTF_CJQ_TAIL, .MTF_KD_BASE].contains r ||
  [Reg.DIG_JQ_BASE, .DIG_JQ_CTL, .DIG_JQ_TAIL, .CPU_RELEASE, .CPU_HCTL, .CPU_RESET_PC, .NET_GA_BASE, .NET_FWRX_BASE, .NET_FWTX_BASE, .NET_FWQ_PTR, .RDM_CTX_BASE,
    .RDM_CONN_CMD, .RDM_MR_BASE, .RDM_MR_CMD, .HQ_FQ_BASE, .HQ_FWC_BASE, .HQ_FWC_BUF, .HQ_HEALTH_FW, .EP_CTL, .EP_PF1_RAISE].contains r ||
  [Reg.CIP_FENCE_LO, .CIP_FENCE_HI, .CIP_KEK_CTL, .CIP_SLOT_CMD, .ECU_MOD, .MED_HSEL, .BOB_CTL, .CCH_CTL, .CCH_MAINT, .ECC_FLIP_TARGET].contains r

/-- The copies of the triple-voted word that a register holds agree, if it holds one (R12, R423). -/
def State.copiesAgree (s : State) (r : Reg) (m i : Nat) : Bool :=
  match tvOf r m i with | some p => decide (Sparse.get (0, 0, 0) s.tv (tvKey p.1 p.2) = (0, 0, 0)) | none => true

/-- The answer to a read of a register, as its requester sees it (R7). -/
def State.regAnswer (s : State) (who : Who) (addr width v : Nat) : List Out :=
  match who with
  | .host => if s.flag F.EP_ST_UP && !s.txOff then [.barData 1 (leBytes width v)] else []
  | .core m h => [.coreData m h (0x4000000000 + addr) (leBytes width v)]
  | .engine _ => []

/-- What a package warm reset of `s` leaves (R99, R107): a Winding of a kind at its first step, the cause of the reset, the mode that was left, the warm resets counted; no interrupt, no
pricking, no key, no cache line; MRAM, vault areas, node temperatures, fences, fuses and the queue kept; head-alive low. -/
def State.rewound (s t : State) (kind last us : Nat) : Prop :=
  t.mode = 0 ∧ t.fld F.PKG_WIND_STEP = (if kind = 2 then 3 else 2) ∧ t.fld F.PKG_WIND_TIME_TIME_US = min us 0xFFFFFFFF ∧ t.fld F.PKG_RST_CAUSE_LAST = last ∧
    t.fld F.PKG_MODE_WIND_KIND = kind ∧ t.fld F.PKG_MODE_PREV = (if s.mode = 0 then s.fld F.PKG_MODE_PREV else s.mode) ∧
    (s.memWf = true → t.fld F.PKG_RST_CAUSE_WARM_COUNT = satAdd (fldMax F.PKG_RST_CAUSE_WARM_COUNT) (s.fld F.PKG_RST_CAUSE_WARM_COUNT) 1) ∧
    t.eip = [] ∧ t.prk = none ∧ t.cip.keys = [] ∧ t.ms.lines = [] ∧
    t.mram = s.mram ∧ t.therm.nodes = s.therm.nodes ∧ t.med.vaultA = s.med.vaultA ∧ t.med.vaultB = s.med.vaultB ∧ t.cip.fences = s.cip.fences ∧ t.fuses = s.fuses ∧
    t.pending = s.pending ∧ t.txOff = false ∧ (s.flag F.BRD_ST_HALIVE_OUT = true → Out.halive false ∈ t.outbox)

/-- The head is Tied-off with a cause: transmission off, admission closed (R30). -/
def State.tiedOff (t : State) (code : Nat) : Prop :=
  t.mode = 5 ∧ t.txOff = true ∧ t.fld F.PKG_RST_CAUSE_TIED_CAUSE = code ∧ t.fld F.PKG_MODE_ADMIT = 0

/-- The Winding has stopped with a code (R98): mode 0, head-alive low, no slot running. -/
def State.stoppedWith (t : State) (code : Nat) : Prop :=
  t.mode = 0 ∧ t.flag F.PKG_WIND_STOPPED = true ∧ t.fld F.PKG_WIND_CODE = code ∧ t.fld F.FWU_ST_RUNNING = 0 ∧ t.flag F.BRD_ST_HALIVE_OUT = false ∧ t.flag F.PKG_MODE_EV_WIND_STOP = true

/-- A slot has fired at its phase (R58). -/
def State.slotRun (s : State) (i : Nat) : State := (s.atPhase (s.slotPlan i).1).modStc (fun c => { c with slots := c.slots ++ [i] })

/-- What a sample makes of a channel: judged once a pricking is accepted (R431, R432). -/
def State.imonJudged (s : State) (c : ImonCh) (code gain ofs imax : Nat) : ImonOut := if s.prk.isNone then imonEarly c code imax else imonSample c code gain ofs imax

/-- Power is held off (R479): the sequencer stays off until VDD_AON is removed and restored, and no Winding begins. -/
def State.heldOff (s : State) : Prop := s.power.holdOff = true ∧ s.power.running = false ∧ ∀ c ∈ s.pending, restoresAon c = false

/-- Nothing is in progress on the data path and for PF0: no write in the list, no host command, no completion or read of host memory that waits. -/
def State.quiet (s : State) : Bool := s.dp.writes.isEmpty && s.hq.cmds.isEmpty && s.hq.cpls.isEmpty && s.ep.todo.isEmpty

/-- A sequenced frame is next in order on a group that is up (R112). -/
def State.inOrder (s : State) (h : BrideHdr) : Bool := s.groupUp h.group && !s.txOff && decide (h.seq = nextSeq (s.group h.group).rxSeq)

/-- A frame in order is taken: its SEQ is the group's last one, and its ACKSEQ is heard (R112). -/
def State.heard (s : State) (h : BrideHdr) : State := (s.modGroup h.group (fun b => { b with rxSeq := h.seq })).takeAck h.group h.ack

/-- A sequenced frame that is not next in order: it draws a NAK on a group that is up (R113). -/
def State.unheard (s : State) (h : BrideHdr) : State := if s.groupUp h.group && !s.txOff then s.emit (.bride h.group (s.bareFrame h.group 7)) else s

/-- What follows a frame whatever it carried: completions that its ACKSEQ allows, waiting work, the backlog's register. -/
def State.afterFrame (s : State) : State := (s.settleWrites.runWaiting []).syncBacklog

/-- The slot and the action of a row by which a slot fires (R59, R60). -/
def slotOf (c : Instr) : Option (Nat × Nat) :=
  match c with
  | .recSnap _ => some (0, 0x01)
  | .recSend _ => some (1, 0x02)
  | .imonSample .. => some (2, 0x03)
  | .vaultBudget _ => some (3, 0x04)
  | .thermalStep .. => some (4, 0x05)
  | .claimKeepalive _ => some (5, 0x06)
  | .dramScrub i .. => some (i, 0x10)
  | .patrol i .. => some (i, 0x11)
  | .mediaScrub i .. => some (i, 0x12)
  | .replEpoch i _ => some (i, 0x13)
  | .samplerHour i _ => some (i, 0x14)
  | .gcQuota i .. => some (i, 0x15)
  | .coreEvent i _ => some (i, 0x20)
  | _ => none

/-- The action of the slot's previous firing has not finished (R61): REC_SEND is never skipped. -/
def overruns (c : Instr) : Bool :=
  match c with
  | .recSnap b => b
  | .imonSample b .. => b
  | .vaultBudget b => b
  | .thermalStep b _ => b
  | .claimKeepalive b => b
  | .dramScrub _ b _ => b
  | .patrol _ b _ => b
  | .mediaScrub _ b _ => b
  | .replEpoch _ b => b
  | .samplerHour _ b => b
  | .gcQuota _ b _ => b
  | .coreEvent _ b => b
  | _ => false

/-- What a command by which a module works names: module, queue and identifier, the opcode, the other head's command, and whether the claim is checked
(R284, R285, R290). -/
def moduleWork (c : Instr) : Option (Nat × Nat × Nat × Nat × Option BobCmd × Bool) :=
  match c with
  | .bobbinIdentify i q cid other => some (i, q, cid, 0x01, other, false)
  | .geometry i q cid other => some (i, q, cid, 0x02, other, false)
  | .readPage i q cid other _ _ => some (i, q, cid, 0x10, other, true)
  | .programPages i q cid other _ => some (i, q, cid, 0x11, other, true)
  | .eraseBlock i q cid other _ => some (i, q, cid, 0x12, other, true)
  | .claimSet i q cid other => some (i, q, cid, 0x20, other, false)
  | .claimGet i q cid other => some (i, q, cid, 0x21, other, false)
  | .telemetry i q cid other _ _ => some (i, q, cid, 0x30, other, false)
  | .setFeature i q cid other => some (i, q, cid, 0x31, other, true)
  | .resetLun i q cid other _ => some (i, q, cid, 0x32, other, true)
  | _ => none

/-- The first message of a target's connection, where it is of a type: the state once it is opened, its bytes, and what opening gives (R355). -/
def State.replOpen (s : State) (t type : Nat) : Option (State × Bytes × Except Nat Bytes) :=
  (s.replHead t type).map (fun m =>
    let mo := match s.conn (s.fld F.RPL_TGT_CONN_CONN_ID 0 t) with | some c => c.motif | none => 0
    let len := leAt m 4 4
    let r := s.openUp mo (s.fld F.RPL_TGT_CTL_KEY_SLOT 0 t) false (slice m 0x10 12) (m.take 32) (slice m 32 len) (slice m (32 + len) 16)
    (r.1, m, r.2))

end Sys2Proof.Machine
end

