-- ==== Sys2Proof/Certificates/Slice0/Obligations.lean ====
section
/-! DEFINITION. The statements for the provers, one definition each, in the order of OBLIGATIONS.json. -/

open Sys2Proof Sys2Proof.Machine

/-- One command a step, first in, first out; on an empty queue nothing happens (log 5, the model's choice). -/
def Obligations.StepRunsFront : Prop :=
  (∀ (c : Instr) (rest : List Instr) (s : State), step { s with pending := c :: rest } = exec c { s with pending := rest }) ∧
  (∀ s : State, s.pending = [] → step s = .next s)

/-- The invariant of a held-off head (R479), kept by every step. -/
def Obligations.HeldOffIsKept : Prop :=
  ∀ s t : State, s.heldOff → step s = .next t →
    t.heldOff ∧ t = { s with pending := t.pending, bob := t.bob } ∧ t.bob = { s.bob with modules := t.bob.modules, cpls := t.bob.cpls }

/-- PGOOD_TIMEOUT establishes the invariant (R479). -/
def Obligations.HeldOffBegins : Prop :=
  ∀ s : State, s.power.aonGood = true → s.power.running = false → s.power.holdOff = false → s.power.pen = 5 →
    ∃ t, exec .pgoodTimeout s = .next t ∧ t.power = { s.power with pen := 0, holdOff := true } ∧ ((∀ c ∈ s.pending, restoresAon c = false) → t.heldOff) ∧
      t.outbox = s.outbox ++ [.pen 4, .pen 3, .pen 2, .pen 1, .pen 0] ∧
      t = { s with power := t.power, outbox := t.outbox }

/-- Off is no mode: a head without power carries no command out. -/
def Obligations.UnpoweredHeadIsStill : Prop :=
  ∀ (c : Instr) (s : State), s.power.running = false → needsNoPower c = false → exec c s = .next s

/-- POWER_RAILS_GOOD, PEN_ENABLE_STEP, PGOOD_RISE (R479, R488). -/
def Obligations.PowerSequence : Prop :=
  ∀ s : State, s.power.running = false →
    (∀ b, s.power.holdOff = false ∨ b = true → ∃ t, exec (.powerRailsGood b) s = .next t ∧
      t.power = { s.power with aonGood := true, holdOff := false, pgood := false, pen := 1 } ∧ t.outbox = s.outbox ++ [.pen 1] ∧
      t = { s with power := t.power, outbox := t.outbox }) ∧
    (s.power.holdOff = true → exec (.powerRailsGood false) s = .next s) ∧
    (s.power.aonGood = true → s.power.holdOff = false → 1 ≤ s.power.pen → s.power.pen < 5 → ∃ t, exec .penEnableStep s = .next t ∧
      t.power = { s.power with pen := s.power.pen + 1 } ∧ t.outbox = s.outbox ++ [.pen (s.power.pen + 1)] ∧
      t = { s with power := t.power, outbox := t.outbox }) ∧
    (∀ h us g, s.power.aonGood = true → s.power.holdOff = false → s.power.pen = 5 → ∃ t, exec (.pgoodRise h us g) s = .next t ∧
      t.power.running = true ∧ t.power.pgood = true ∧ t.hu.inputGood = g ∧
      (s.power.testMode = false → t.mode = 0 ∧ t.fld F.PKG_WIND_STEP = 2 ∧ t.fld F.PKG_ID_HEAD_ID = h % 2))

/-- REGISTER_WRITE (R7, R9, R11): what becomes of each field, the count of refused PL writes, and the frame; `u` is the state once the performance counters of R474 have counted the access. -/
def Obligations.RegisterWriteStores : Prop :=
  ∀ (s u : State) (who : Who) (addr width v : Nat) (r : Reg) (m i : Nat), s.power.running = true → s.regsOpen who = true →
    s.regFor addr width = some (r, m, i) → hasOwnWrite r = false → u = s.hpmAccess who (windowMotif who addr) [] →
    ∃ t, exec (.registerWrite who addr width v) s = .next t ∧
      (∀ f ∈ r.spec.fields, bits (t.reg r m i) f.hi f.lo =
        if s.plClosed && f.isPL (s.inLockSet r m i) then bits (u.reg r m i) f.hi f.lo
        else f.write (bits (u.reg r m i) f.hi f.lo) (bits v f.hi f.lo)) ∧
      (r.addr m i ≠ Reg.PRK_LOCK_CNT.addr 0 0 → t.fld F.PRK_LOCK_CNT_COUNT =
        if s.plClosed && r.spec.changesPL (s.inLockSet r m i) (u.reg r m i) (v % 256 ^ width) then satAdd (2 ^ 32 - 1) (s.fld F.PRK_LOCK_CNT_COUNT) 1
        else s.fld F.PRK_LOCK_CNT_COUNT) ∧
      (∀ q n j, q.addr n j ≠ r.addr m i → q.addr n j ≠ Reg.PRK_LOCK_CNT.addr 0 0 → t.reg q n j = u.reg q n j) ∧
      (∀ q n j, (∀ k c, q.addr n j ≠ Reg.CPU_HPM_CNT.addr k c) → u.reg q n j = s.reg q n j) ∧
      t = { s with regs := t.regs }

/-- Accesses of another width or alignment, where no register stands, or of an interrupt file (R7, R471; log 83). -/
def Obligations.RegisterAccessRefused : Prop :=
  ∀ (s : State) (addr width v : Nat), s.power.running = true →
    (∀ who, (s.regsOpen who = false ∨ (s.regFor addr width = none ∧ (eipFile addr = none ∨ width ≠ 4))) → exec (.registerWrite who addr width v) s = .next s) ∧
    (∀ f, s.regFor addr 4 = none → eipFile addr = some f →
      (∀ c h, exec (.registerWrite (.core c h) addr 4 v) s = exec (.imsicSeteipnum f.1 f.2.1 f.2.2.1 (v % 2 ^ 32) f.2.2.2 false) (s.hpmAccess (.core c h) f.1 [])) ∧
      exec (.registerWrite .host addr 4 v) s = .next s) ∧
    (∀ c h, s.regFor addr width = none → ∃ t, exec (.rcRead (.core c h) addr width) s = .next t ∧
      t = { s with outbox := s.outbox ++ [.coreData c h (0x4000000000 + addr) (leBytes width (s.readValue addr width))] } ∧
      (∀ f, eipFile (addr - addr % 4) = some f → s.hasMotif f.1 = true → s.readValue addr width = if width = 4 ∧ addr % 4 = 0 then 0 else 256 ^ width - 1) ∧
      (eipFile (addr - addr % 4) = none → ∀ r n j, regOfAddr (addr - addr % 4) = some (r, n, j) → r.presentIn s.fuses.caps n = true → needsX r = false →
        s.readValue addr width = 256 ^ width - 1) ∧
      (eipFile (addr - addr % 4) = none → regOfAddr (addr - addr % 4) = none → regOfAddr (addr - addr % 8) = none → s.readValue addr width = 0))

/-- RC_READ (R8, R9, R10) and the latch of STC_NUM (R65). -/
def Obligations.RcReadClears : Prop :=
  ∀ (s : State) (who : Who) (addr width : Nat) (r : Reg) (m i : Nat), s.power.running = true → s.regsOpen who = true → s.regFor addr width = some (r, m, i) →
    ∃ t, exec (.rcRead who addr width) s = .next t ∧
      (∀ o ∈ s.regAnswer who addr width (r.spec.visible (s.reg r m i)), o ∈ t.outbox) ∧
      (s.copiesAgree r m i = true →
        t.outbox = s.outbox ++ s.regAnswer who addr width (r.spec.visible (s.reg r m i)) ∧
        (r ≠ .STC_NUM → r ≠ .CPU_HPM_CNT → (∀ f ∈ r.spec.fields, bits (t.reg r m i) f.hi f.lo = if f.acc = .rc then 0 else bits (s.reg r m i) f.hi f.lo) ∧
          (∀ q n j, q.addr n j ≠ r.addr m i → (∀ k c, q.addr n j ≠ Reg.CPU_HPM_CNT.addr k c) → t.reg q n j = s.reg q n j)) ∧
        (r = .STC_NUM → t.fld F.STC_PH_LATCH_PHASE = s.stc.phase % 1024 ∧ t.num = s.num) ∧
        t = { s with regs := t.regs, outbox := t.outbox })

/-- STC_NUM_READ (R65). -/
def Obligations.NumReadLatches : Prop :=
  ∀ (s : State) (who : Who) (p : Nat), s.power.running = true → s.regsOpen who = true → s.stc.phase ≤ p → p < 1000 → s.copiesAgree .STC_NUM 0 0 = true →
    ∃ t, exec (.stcNumRead who p) s = .next t ∧ t.outbox = s.outbox ++ s.regAnswer who (Reg.STC_NUM.addr 0 0) 8 s.num ∧
      t.fld F.STC_PH_LATCH_PHASE = p ∧ t.num = s.num ∧ t.stc = { s.stc with phase := p } ∧
      (∀ q n j, q.addr n j ≠ Reg.STC_PH_LATCH.addr 0 0 → t.reg q n j = s.reg q n j) ∧ t = { s with regs := t.regs, stc := t.stc, outbox := t.outbox }

/-- REGISTER_WRITE and the rows of single registers agree (log 11, the model's choice). -/
def Obligations.OwnRowsAgree : Prop :=
  ∀ (s : State) (c h v w : Nat), s.power.running = true → s.hasMotif 0 = true → v < 2 ^ 64 → w < 2 ^ 32 →
    exec (.registerWrite (.core c h) (Reg.STC_PTP_ADJ.addr 0 0) 8 v) s = exec (.ptpUpdate v) s ∧
    exec (.registerWrite (.core c h) (Reg.STC_CTL.addr 0 0) 8 v) s = exec (.stcRetry v) s ∧
    (s.stc.phase < 1000 → exec (.registerWrite (.core c h) (Reg.STC_CMP_C.addr 0 5) 8 v) s = exec (.comparatorEnable 5 v s.stc.phase) s) ∧
    exec (.registerWrite (.core c h) (Reg.CLM_HANDOVER.addr 0 0) 4 w) s = exec (.clmHandoverGo w) s ∧
    exec (.registerWrite (.core c h) (Reg.SMP_SNAP.addr 0 1) 8 v) s = exec (.smpSnapTake 1 v) s ∧
    exec (.registerWrite (.core c h) (Reg.RPL_VIEW_CMD.addr 0 0) 8 v) s = exec (.rplSnapshot v) s ∧
    exec (.registerWrite (.core c h) (Reg.EP_PF1_RAISE.addr 0 0) 4 w) s = exec (.pf1Raise w) (s.hpmAccess (.core c h) 0 []) ∧
    (s.fuses.caps.optE = true → exec (.registerWrite (.core c h) (Reg.CIP_SLOT_CMD.addr 0 0) 4 w) s = exec (.keySlotLoad w) (s.hpmAccess (.core c h) 0 []))

/-- R48, whole. -/
def Obligations.PulseDecoding : Prop :=
  (∀ (s : State) (err : Int) (ns : Nat), s.power.running = true → ns < 200 → exec (.stitchEdge err ns) s = .next s) ∧
  (∀ ns : Nat, (decodePulse ns = .zero ↔ 1000 ≤ ns + 250 ∧ ns ≤ 1000 + 250) ∧ (decodePulse ns = .one ↔ 2000 ≤ ns + 250 ∧ ns ≤ 2000 + 250) ∧
    (decodePulse ns = .marker ↔ 3000 ≤ ns + 250 ∧ ns ≤ 3000 + 250) ∧
    (decodePulse ns = .bad ↔ ¬ (750 ≤ ns ∧ ns ≤ 1250) ∧ ¬ (1750 ≤ ns ∧ ns ≤ 2250) ∧ ¬ (2750 ≤ ns ∧ ns ≤ 3250)))

/-- STITCH_EDGE (R51, R56). -/
def Obligations.StitchEdges : Prop :=
  ∀ (s : State) (err : Int) (ns : Nat), s.power.running = true → 200 ≤ ns → s.fld F.STC_CTL_SRC = 0 →
    (s.fld F.STC_ST_STATE ≠ 1 → ∃ t, exec (.stitchEdge err ns) s = .next t ∧ t.stc = { s.stc.collect (decodePulse ns) (if err < 0 then s.num + 1 else s.num) with lastErr := err } ∧
      t = { s with stc := t.stc }) ∧
    (s.fld F.STC_ST_STATE = 1 → -10 ≤ err → err ≤ 10 → ∃ t, exec (.stitchEdge err ns) s = .next t ∧
      t.sfld F.STC_ST_PH_ERR = satSigned 16 (s.sfld F.STC_ST_PH_ERR - err) ∧ t.stc.outRun = 0 ∧ t = { s with regs := t.regs, stc := t.stc }) ∧
    (s.fld F.STC_ST_STATE = 1 → 10 < err ∨ err < -10 → ∃ t, exec (.stitchEdge err ns) s = .next t ∧
      t.fld F.STC_CNT_EDGE_ERR = satAdd 65535 (s.fld F.STC_CNT_EDGE_ERR) 1 ∧ t.flag F.STC_EVT_EDGE_ERR = true ∧
      (s.stc.outRun < 2 → t.fld F.STC_ST_STATE = 1 ∧ t.stc.outRun = s.stc.outRun + 1) ∧
      (2 ≤ s.stc.outRun → t.fld F.STC_ST_STATE = 2 ∧ t.fld F.STC_ST_SRC_VALID = 0 ∧ t.fld F.STC_ST_PICOT_OK = 0 ∧ t.flag F.STC_EVT_LOST = true) ∧
      t = { s with regs := t.regs, eip := t.eip, stc := t.stc })

/-- STITCH_FRAME, STITCH_EDGE_TIMEOUT, PTP_UPDATE_TIMEOUT (R50 to R52, R56). -/
def Obligations.FramesAndLostSources : Prop :=
  ∀ s : State, s.power.running = true →
    (∀ l at_ n rest, s.stc.ended = .bits l at_ :: rest → frameNumber l = some n → s.flag F.STC_ST_SRC_VALID = true →
      (n : Int) = (at_ : Int) - signed 64 (s.fld F.STC_NUM_OFS_OFS) →
      ∃ t, exec .stitchFrame s = .next t ∧ t = { s with stc := { s.stc with ended := rest, badRun := 0, disagreeRun := 0, lastGood := some n, srcNum := n, srcAt := at_ } }) ∧
    (∀ rest, s.stc.ended = .broken :: rest → s.flag F.STC_ST_SRC_VALID = true → ∃ t, exec .stitchFrame s = .next t ∧
      t.fld F.STC_CNT_FRAME_ERR = satAdd 65535 (s.fld F.STC_CNT_FRAME_ERR) 1 ∧ t.flag F.STC_EVT_FRAME_ERR = true ∧ t.stc.ended = rest ∧
      (s.stc.badRun < 2 → t.flag F.STC_ST_SRC_VALID = true ∧ t.fld F.STC_ST_STATE = s.fld F.STC_ST_STATE) ∧
      (2 ≤ s.stc.badRun → t.flag F.STC_ST_SRC_VALID = false)) ∧
    (s.fld F.STC_CTL_SRC = 0 → s.flag F.STC_ST_SRC_VALID = true → s.fld F.STC_ST_STATE = 1 → ∃ t, exec .stitchEdgeTimeout s = .next t ∧
      t.fld F.STC_ST_SRC_VALID = 0 ∧ t.fld F.STC_ST_STATE = 2 ∧ t.flag F.STC_EVT_LOST = true ∧ t.fld F.STC_ST_PICOT_OK = 0 ∧ t.stc.holdoverAt = s.num) ∧
    (s.fld F.STC_CTL_SRC = 1 → s.flag F.STC_ST_SRC_VALID = true → s.fld F.STC_ST_STATE = 1 → ∃ t, exec .ptpUpdateTimeout s = .next t ∧
      t.fld F.STC_ST_SRC_VALID = 0 ∧ t.fld F.STC_ST_STATE = 2 ∧ t.flag F.STC_EVT_LOST = true ∧ t.fld F.STC_ST_PICOT_OK = 0 ∧ t.stc.holdoverAt = s.num)

/-- STITCH_START, PTP_UPDATE, RELOCK_COMPLETE, ACQUIRE_TIMEOUT, HOLDOVER_EXPIRY, STC_RETRY (R46, R52 to R56). -/
def Obligations.StitchClock : Prop :=
  ∀ s : State, s.power.running = true →
    (s.net.late = [] → (∀ c ∈ s.net.conns, c.early = []) → ∃ t, exec .stitchStart s = .next t ∧ t.num = (s.num + 1) % 2 ^ 64 ∧ t.stc.phase = 0 ∧ t.stc.slots = [] ∧
      ((s.flag F.STC_ST_SRC_VALID = false ∨ s.fld F.STC_ST_STATE ≤ 1) → t.stc = { s.stc with phase := 0, slots := [] } ∧
        t.sfld F.STC_ST_PH_ERR = slewOne (s.sfld F.STC_ST_PH_ERR)) ∧
      t.mode = (if s.pair.last.any (fun r => r.rethread) = true ∧ s.mode = 1 then 2 else s.mode) ∧
      t = { s with regs := t.regs, stc := t.stc, therm := t.therm, tv := t.tv, eip := t.eip }) ∧
    (∀ v, s.fld F.STC_CTL_SRC = 1 → s.flag F.STC_CTL_PTP_VALID = true → s.fld F.STC_ST_STATE = 1 → ∃ t, exec (.ptpUpdate v) s = .next t ∧
      t.sfld F.STC_ST_PH_ERR = satSigned 16 (Int.tdiv (signed 32 (bits v 31 0)) 5) ∧ t.stc.ptpAt = s.num ∧ t = { s with regs := t.regs, stc := t.stc }) ∧
    (s.stc.relocking = true → s.fld F.STC_ST_STATE = 1 → -4 ≤ s.sfld F.STC_ST_PH_ERR → s.sfld F.STC_ST_PH_ERR ≤ 4 → ∃ t, exec .relockComplete s = .next t ∧
      t.stc = { s.stc with relocking := false } ∧ t.flag F.STC_EVT_RELOCK = true ∧ t.fld F.STC_ST_STATE = 1 ∧ t = { s with regs := t.regs, eip := t.eip, stc := t.stc }) ∧
    (s.inStep 10 = true → s.fld F.STC_ST_STATE = 0 → s.flag F.STC_ST_SRC_VALID = false → s.partnerInService = false → ∃ t, exec .acquireTimeout s = .next t ∧
      t.fld F.STC_ST_STATE = 5 ∧ t.fld F.PKG_WIND_STEP = 11 ∧ t.fld F.PKG_WIND_TIME_TIME_US 0 9 = 100000 ∧ t = { s with regs := t.regs }) ∧
    (s.fld F.STC_ST_STATE = 2 → ∃ t, exec .holdoverExpiry s = .next t ∧ t.flag F.STC_EVT_HOLD_EXPIRED = true ∧
      (s.flag F.BRD_ST_LINK_UP = false → t.fld F.STC_ST_STATE = 5) ∧
      (∀ r, s.flag F.BRD_ST_LINK_UP = true → s.pair.last = some r → r.stcState = 1 → t.fld F.STC_ST_STATE = 4 ∧ t.flag F.STC_EVT_BRIDE = true)) ∧
    (∀ v, bit v 4 = true → s.fld F.STC_CTL_SRC = 0 → s.plClosed = true → s.flag F.STC_ST_SRC_VALID = false → ∃ t, exec (.stcRetry v) s = .next t ∧
      t.fld F.STC_ST_MISMATCH_HOLD = 0 ∧ t.fld F.STC_CTL_RETRY = 0 ∧ t.flag F.STC_ST_SRC_VALID = false)

/-- COMPARATOR_FIRE and COMPARATOR_ENABLE (R63, R64). -/
def Obligations.Comparators : Prop :=
  ∀ (s : State) (j : Nat), s.power.running = true → j < 64 →
    (s.hasMotif (s.fld F.STC_CMP_C_MOTIF 0 j) = true → s.fld F.STC_CMP_C_HART 0 j ≤ 8 → s.flag F.STC_CMP_C_EN 0 j = true → s.num = s.fld F.STC_CMP_T_TARGET 0 j → s.stc.phase ≤ s.fld F.STC_CMP_C_PHASE 0 j →
      s.fld F.STC_CMP_C_PHASE 0 j < 1000 →
      ∃ t, exec (.comparatorFire j) s = .next t ∧ (s.fld F.STC_CMP_C_MOTIF 0 j, s.fld F.STC_CMP_C_HART 0 j, 0, 0x100 + j) ∈ t.eip ∧
        t.stc.phase = s.fld F.STC_CMP_C_PHASE 0 j ∧
        (s.fld F.STC_CMP_C_PERIOD 0 j = 0 → t.flag F.STC_CMP_C_EN 0 j = false) ∧
        (s.fld F.STC_CMP_C_PERIOD 0 j ≠ 0 → t.flag F.STC_CMP_C_EN 0 j = true ∧
          t.fld F.STC_CMP_T_TARGET 0 j = (s.fld F.STC_CMP_T_TARGET 0 j + s.fld F.STC_CMP_C_PERIOD 0 j) % 2 ^ 64) ∧
        t = { s with regs := t.regs, eip := t.eip, stc := t.stc }) ∧
    (∀ v p, s.inLockSet .STC_CMP_C 0 j = false → s.flag F.STC_CMP_C_EN 0 j = false → bit v 31 = true → s.fld F.STC_CMP_T_TARGET 0 j < s.num → bits v 63 32 = 0 →
      bits v 23 20 ≤ 8 → s.hasMotif (bits v 18 16) = true →
      ∃ t, exec (.comparatorEnable j v p) s = .next t ∧ (bits v 18 16, bits v 23 20, 0, 0x100 + j) ∈ t.eip ∧ t.flag F.STC_EVT_CMP_LATE = true ∧
        t.flag F.STC_CMP_C_EN 0 j = false)

/-- R62, with R58 (when a slot is due) and R61 (a skipped firing). What a due slot does is stated by its row. -/
def Obligations.SlotModes : Prop :=
  ∀ (s : State) (c : Instr) (i a : Nat), s.power.running = true → slotOf c = some (i, a) →
    (s.mode = 5 → exec c s = .next s) ∧
    (s.mode = 4 → i ≠ 2 → i ≠ 3 → i ≠ 4 → exec c s = .next s) ∧
    (s.mode ≠ 5 → (s.mode ≠ 4 ∨ i = 2 ∨ i = 3 ∨ i = 4) →
      (s.slotDue i a = true ↔ i < 64 ∧ (s.slotPlan i).2.2.2 = a ∧ 1 ≤ (s.slotPlan i).2.1 ∧ s.num % (s.slotPlan i).2.1 = (s.slotPlan i).2.2.1 ∧
        i ∉ s.stc.slots ∧ s.stc.phase ≤ (s.slotPlan i).1 ∧ (s.slotPlan i).1 < 1000 ∧ ∀ j < i, s.slotOpen j = true → (s.slotPlan j).1 ≠ (s.slotPlan i).1)) ∧
    (6 ≤ i → s.flag F.STC_SLOT_C_EN 0 i = false → (s.slotPlan i).2.2.2 = 0) ∧
    (s.slotDue i a = false → exec c s = .next s) ∧
    (s.slotDue i a = true → overruns c = true → ∃ t, exec c s = .next t ∧
      t.fld F.STC_CNT_SLOT_OVR = satAdd (fldMax F.STC_CNT_SLOT_OVR) (s.fld F.STC_CNT_SLOT_OVR) 1 ∧ t.flag F.STC_EVT_SLOT_OVR = true ∧
      (∀ q n j, q.addr n j ≠ Reg.STC_CNT.addr 0 0 → q.addr n j ≠ Reg.STC_EVT.addr 0 0 → t.reg q n j = s.reg q n j) ∧
      t = { s with regs := t.regs, stc := (s.slotRun i).stc, eip := t.eip })

/-- REC_SNAP and REC_SEND (R59, R61, R114). -/
def Obligations.RecordSnapSend : Prop :=
  ∀ (s : State) (e g : Nat) (r : Record), s.power.running = true →
    (s.slotDue 0 1 = true → ∃ t, exec (.recSnap false) s = .next t ∧ t.pair.snap = some (s.stitchRecord s.changedEntries) ∧
      t = { s with stc := (s.slotRun 0).stc, pair := { s.pair with snap := t.pair.snap, ages := t.pair.ages } }) ∧
    (s.slotDue 1 2 = true → s.pair.snap = some r → s.paired = true → s.upGroups ≠ [] → ∃ t, exec (.recSend e) s = .next t ∧
      (s.txOff = false → ∀ i < max 1 (ceilDiv r.entries.length 4091), ∀ k ≤ 1, ∀ a, a = s.upGroups.getD ((i + k) % s.upGroups.length) 0 →
        ∃ seq, .bride a (s.wire a seq (.record ({ r with txPhase := 20 }.partOf (max 1 (ceilDiv r.entries.length 4091)) i))) ∈ t.outbox) ∧
      t.fld F.STC_CNT_LATE_REC = (if 200 < e then satAdd (fldMax F.STC_CNT_LATE_REC) (s.fld F.STC_CNT_LATE_REC) 1 else s.fld F.STC_CNT_LATE_REC) ∧
      t.pair.sent = putEntries s.pair.sent (r.entries.filter (fun x => decide (x.key.1 ≠ 1))) ∧
      (∀ q n j, q.addr n j ≠ Reg.STC_CNT.addr 0 0 → t.reg q n j = s.reg q n j) ∧
      t = { s with regs := t.regs, stc := (s.slotRun 1).stc, pair := t.pair, outbox := t.outbox }) ∧
    (s.slotDue 1 2 = true → s.pair.snap = some r → s.paired = true → s.upGroups = [g] → r.entries.length ≤ 4091 → s.txOff = false →
      ∀ seq p, seq = nextSeq (s.group g).txSeq → p = .record ({ r with txPhase := 20 }.partOf 1 0) →
      ∃ t, exec (.recSend e) s = .next t ∧ t.outbox = s.outbox ++ [.bride g (s.wire g seq p)] ∧ (t.group g).txSeq = seq ∧
        (t.group g).unacked = (s.group g).unacked ++ [(seq, p)]) ∧
    (s.slotDue 1 2 = true → (s.pair.snap = none ∨ s.paired = false ∨ s.upGroups = []) → ∃ t, exec (.recSend e) s = .next t ∧ t.outbox = s.outbox ∧ t.pair = s.pair)

/-- SAMPLER_HOUR (R60, R460), CORE_EVENT (R60, R475) and CLAIM_KEEPALIVE (R125). -/
def Obligations.HourAndCoreEvent : Prop :=
  ∀ (s : State) (i : Nat), s.power.running = true →
    (s.slotDue i 0x14 = true → ∃ t, exec (.samplerHour i false) s = .next t ∧
      t.mramNat 0x34 4 = (s.mramNat 0x34 4 + 1) % 2 ^ 32 ∧ t.fld F.SMP_LIFE_HOURS = (s.mramNat 0x34 4 + 1) % 2 ^ 32 ∧
      (∀ o, o < 0x34 ∨ 0x38 ≤ o → Sparse.get 0 t.mram o = Sparse.get 0 s.mram o) ∧
      (∀ q n j, q.addr n j ≠ Reg.SMP_LIFE.addr 0 0 → t.reg q n j = s.reg q n j) ∧
      t = { s with regs := t.regs, stc := (s.slotRun i).stc, mram := t.mram }) ∧
    (s.slotDue i 0x20 = true → s.hasMotif (s.fld F.STC_CMP_C_MOTIF 0 (s.fld F.STC_SLOT_C_ARG 0 i % 64)) = true →
      s.fld F.STC_CMP_C_HART 0 (s.fld F.STC_SLOT_C_ARG 0 i % 64) ≤ 8 → ∃ t, exec (.coreEvent i false) s = .next t ∧
      (s.fld F.STC_CMP_C_MOTIF 0 (s.fld F.STC_SLOT_C_ARG 0 i % 64), s.fld F.STC_CMP_C_HART 0 (s.fld F.STC_SLOT_C_ARG 0 i % 64), 0,
        0x100 + s.fld F.STC_SLOT_C_ARG 0 i % 64) ∈ t.eip ∧
      (∀ x ∈ s.eip, x ∈ t.eip) ∧ t = { s with stc := (s.slotRun i).stc, eip := t.eip }) ∧
    (s.slotDue i 0x20 = true → (s.hasMotif (s.fld F.STC_CMP_C_MOTIF 0 (s.fld F.STC_SLOT_C_ARG 0 i % 64)) = false ∨ 8 < s.fld F.STC_CMP_C_HART 0 (s.fld F.STC_SLOT_C_ARG 0 i % 64)) →
      exec (.coreEvent i false) s = .next (s.slotRun i)) ∧
    (s.slotDue 5 6 = true → s.txOff = false → ∃ t, exec (.claimKeepalive false) s = .next t ∧ t = { s with regs := t.regs, stc := t.stc, bob := t.bob, outbox := t.outbox } ∧
      (∀ g, s.owns g = true → ∀ x ∈ s.bob.modules, s.modUsable x.idx = true → Out.claimSet x.idx g (s.claimOf g) true ∈ t.outbox ∧
        ∃ c ∈ t.bob.cmds ++ t.bob.heldCmds, c.mod = x.idx ∧ c.opcode = 0x20 ∧ c.ground = g ∧ c.why = .keepAlive) ∧
      (∀ x ∈ s.bob.modules, s.modUsable x.idx = false → ∀ g c, Out.claimSet x.idx g c true ∈ t.outbox → Out.claimSet x.idx g c true ∈ s.outbox))

/-- DRAM_SCRUB, PATROL, MEDIA_SCRUB, REPL_EPOCH, GC_QUOTA and PATROL_BEHIND (R60, R407, R274, R243, R350, R241). -/
def Obligations.QuotaSlots : Prop :=
  ∀ (s : State) (i m arg : Nat) (bad : BadPages), s.power.running = true → arg = s.fld F.STC_SLOT_C_ARG 0 i →
    (s.slotDue i 0x10 = true → ∀ upsets, ∃ t, exec (.dramScrub i false upsets) s = .next t ∧
      (s.hasMotif m = true → s.populated m / 128 ≤ 2 ^ 32 → s.fld F.DRM_SCRUB_ST_NEXT m < s.populated m / 128 →
        t.fld F.DRM_SCRUB_ST_NEXT m = (s.fld F.DRM_SCRUB_ST_NEXT m + arg) % (s.populated m / 128)) ∧
      (s.ms.errs = [] → upsets = [] → s.noLines = true → (∀ k, s.flag F.ECC_FLIP_TARGET_ARMED k = false) → t = { s with regs := t.regs, stc := (s.slotRun i).stc })) ∧
    (s.slotDue i 0x11 = true → exec (.patrol i false bad) s = .next ((s.slotRun i).under bad (fun s => s.each s.motifs (fun s m => s.patrolMotif m arg bad)))) ∧
    ((s.flag F.ECU_CTL_PATROL_EN m = false ∨ s.freeUnits .ecu m (fun _ => true) = []) → s.patrolMotif m arg bad = s) ∧
    (s.flag F.ECU_CTL_PATROL_EN m = true → s.freeUnits .ecu m (fun _ => true) ≠ [] → ∃ (u : State) (from_ : Nat),
      from_ = (if s.fld F.ECU_PAT_ST_TOTAL m ≤ s.fld F.ECU_PAT_ST_CHECKED m then 0 else s.fld F.ECU_PAT_ST_CHECKED m) ∧
      s.patrolMotif m arg bad = u.setFld F.ECU_PAT_ST_CHECKED (u.fld F.ECU_PAT_ST_CHECKED m + min arg ((s.patrolStripes m).length - from_)) m) ∧
    (s.slotDue i 0x12 = true → ∀ l now, l = s.scrubPages → now = (List.range (min arg l.length)).filterMap (fun k => l[(s.med.scrub + k) % l.length]?) →
      exec (.mediaScrub i false bad) s = .next ((s.slotRun i).under bad (fun s => ((s.modMed (fun d =>
        { d with scrub := if l.isEmpty then 0 else (d.scrub + now.length) % l.length })).each now (fun s p => s.scrubPage p bad)).syncMedia))) ∧
    (s.slotDue i 0x13 = true → exec (.replEpoch i false) s =
      .next (((s.slotRun i).each (List.range 64) (fun s t => if s.targetOn t false then s.countFiring t else s)).shipAll)) ∧
    (∀ n, s.targetNs m = some n → s.owns n.ground = true → ∀ c, c = (if (s.target m).count = 0 then s.every m else (s.target m).count) →
      (c ≠ 1 → s.countFiring m = s.modTarget m (fun x => { x with count := c - 1 })) ∧
      (c = 1 → s.countFiring m = (s.modTarget m (fun x => { x with count := s.every m })).startEpoch m n.id)) ∧
    (s.slotDue i 0x15 = true → exec (.gcQuota i false bad) s = .next ((s.slotRun i).under bad (fun s => s.each s.motifs (fun s m => s.collect m arg bad)))) ∧
    (max 1 (s.fld F.MED_GC_CTL_MAX_ACTIVE m) ≤ s.gcActive m → s.collect m arg bad = s.settleBands) ∧
    (s.hasMotif m = true → (∃ g ∈ s.activePart.grounds, s.owns g.ground = true ∧ s.groundNamed 2 g.ground = true ∧
        s.fld F.ECU_PAT_START_STITCH m + (if g.patrolDays = 0 then 14 else g.patrolDays) * 17280000000 ≤ s.num) →
      s.fld F.ECU_PAT_ST_CHECKED m < s.fld F.ECU_PAT_ST_TOTAL m → ∃ t, exec (.patrolBehind m) s = .next t ∧ t.flag F.ECU_EVT_PATROL_BEHIND m = true ∧
      (∀ q n j, q.addr n j ≠ Reg.ECU_EVT.addr m 0 → t.reg q n j = s.reg q n j) ∧ t = { s with regs := t.regs, eip := t.eip })

/-- IMON_SAMPLE (R431, R432) and IMON_FORCED (R433). -/
def Obligations.CurrentSensing : Prop :=
  (∀ (s : State) (pkg : List Nat) (lpm : List (Nat × Nat)) (bytes : List Nat), s.power.running = true → s.slotDue 2 3 = true →
    ∃ t, exec (.imonSample false pkg lpm bytes) s = .next t ∧
      (∀ k < 4, ∀ o, o = s.imonJudged (s.therm.imonPkg.getD k default) (pkg.getD k 0) (s.fld F.PWR_IMON_CFG_GAIN_UA 0 k) (s.fld F.PWR_IMON_CFG_OFFSET 0 k)
          (s.fld F.PWR_IMON_CFG_IMAX_DA 0 k) →
        t.fld F.PWR_IMON_ST_CODE 0 k = pkg.getD k 0 % 4096 ∧ t.fld F.PWR_IMON_ST_FAULT 0 k = b2n (o.ch.fault != 0) ∧ t.fld F.PWR_IMON_ST_CAUSE 0 k = o.ch.fault % 4 ∧
        (0 ≤ o.microAmp / 1000 → t.fld F.PWR_IMON_ST_MA 0 k = (o.microAmp / 1000).toNat % 2 ^ 32) ∧ (o.ch.fault ≠ 0 → t.flag F.PWR_EVT_IMON_FAULT = true)) ∧
      (∀ m, s.hasMotif m = true → ∀ j < 2, ∀ o, o = s.imonJudged (if j = 0 then (s.therm.imonLpm.getD m default).1 else (s.therm.imonLpm.getD m default).2)
          (if j = 0 then (lpm.getD m (0, 0)).1 else (lpm.getD m (0, 0)).2) (s.fld F.LPM_IMON_CFG_GAIN_UA m j)
          (s.fld F.LPM_IMON_CFG_OFFSET m j) (s.fld F.LPM_IMON_CFG_IMAX_DA m j) →
        t.fld F.LPM_IMON_ST_CODE m j = (if j = 0 then (lpm.getD m (0, 0)).1 else (lpm.getD m (0, 0)).2) % 4096 ∧ t.fld F.LPM_IMON_ST_FAULT m j = b2n (o.ch.fault != 0) ∧
        t.fld F.LPM_IMON_ST_CAUSE m j = o.ch.fault % 4 ∧
        (0 ≤ o.microAmp / 1000 → t.fld F.LPM_IMON_ST_MA m j = (o.microAmp / 1000).toNat % 2 ^ 32) ∧ (o.ch.fault ≠ 0 → t.flag F.PWR_EVT_IMON_FAULT = true)) ∧
      t.therm.samples = s.therm.samples + 1 ∧ t = { s with regs := t.regs, stc := (s.slotRun 2).stc, therm := t.therm, eip := t.eip, free := t.free }) ∧
  (∀ (c : ImonCh) (code gain ofs imax : Nat), c.fault ≤ 2 →
    ((code < 8 ∨ 4088 ≤ code ∨ gain = 0) → (imonSample c code gain ofs imax).ch.fault = 1) ∧
    (8 ≤ code → code < 4088 → gain ≠ 0 → code = c.code → 19 ≤ c.same → (imonSample c code gain ofs imax).ch.fault = 2) ∧
    (8 ≤ code → code < 4088 → gain ≠ 0 → (code ≠ c.code ∨ c.same < 19) → (imonSample c code gain ofs imax).ch.good = c.good + 1 ∧
      ((imonSample c code gain ofs imax).ch.fault = 0 ↔ c.fault = 0 ∨ 199 ≤ c.good)) ∧
    ((imonSample c code gain ofs imax).ch.fault ≠ 0 → (imonSample c code gain ofs imax).microAmp = (imax : Int) * 100000) ∧
    ((imonSample c code gain ofs imax).ch.fault = 0 → (imonSample c code gain ofs imax).microAmp = ((code : Int) - ofs) * gain)) ∧
  (∀ (s : State) (m : Nat), s.power.running = true → s.hasMotif m = true → s.imonGone m = true →
    ∃ t, exec (.imonForced m) s = .next t ∧ t.fld F.LPM_ST_FORCED m = 1 ∧ t.flag F.THM_EVT_IMON_LOST = true ∧ t.therm = { s.therm with force := setAt s.therm.force m true } ∧
      (∀ q n j, q.addr n j ≠ Reg.LPM_ST.addr m 0 → q.addr n j ≠ Reg.THM_EVT.addr 0 0 → t.reg q n j = s.reg q n j) ∧
      t = { s with regs := t.regs, therm := t.therm, eip := t.eip })

/-- VAULT_BUDGET (R435, R436). -/
def Obligations.VaultBudget : Prop :=
  (∀ (s v : State) (b : Nat), s.power.running = true → s.slotDue 3 4 = true → v = (s.slotRun 3).settleVault → b = budgetOf v.energyNow
      (max 1 (v.fld F.PWR_HU_CFG_DUMP_W)) (v.fld F.PWR_HU_CFG_T_FIX_MS) (max 1 (v.fld F.PWR_HU_CFG_RATE_MBS)) (v.fld F.MED_VAULT_ST_CAP_MIB) →
    ∃ u : State, exec (.vaultBudget false) s = .next u.admitWaiting.syncWarn ∧ u.budget = b % 2 ^ 32 ∧ (0 ≤ v.energyNow → u.fld F.PWR_HU_ST_ENERGY_J = v.energyNow.floor.toNat % 2 ^ 32) ∧
      (b = 0 → v.budget ≠ 0 → u.flag F.PWR_EVT_BUDGET_ZERO = true) ∧ u = { v with regs := u.regs, eip := u.eip, free := u.free }) ∧
  (∀ (s : State), s.power.running = true → s.slotDue 3 4 = true → (s.inService = true → s.areaDone s.med.vaultA = false ∧ s.areaDone s.med.vaultB = false) → s.quiet = true → ∀ b, b = budgetOf s.energyNow
      (max 1 (s.fld F.PWR_HU_CFG_DUMP_W)) (s.fld F.PWR_HU_CFG_T_FIX_MS) (max 1 (s.fld F.PWR_HU_CFG_RATE_MBS)) (s.fld F.MED_VAULT_ST_CAP_MIB) →
    ∃ t, exec (.vaultBudget false) s = .next t ∧ t.budget = b % 2 ^ 32 ∧ (0 ≤ s.energyNow → t.fld F.PWR_HU_ST_ENERGY_J = s.energyNow.floor.toNat % 2 ^ 32) ∧
      (b = 0 → s.budget ≠ 0 → t.flag F.PWR_EVT_BUDGET_ZERO = true) ∧ t.dp = s.dp) ∧
  (∀ (s : State), (3 ≤ s.fld F.PWR_HU_ST_FAILS → s.energyNow = 0) ∧ (s.fld F.PWR_HU_ST_FAILS < 3 → s.energyNow = s.hu.energy)) ∧
  (∀ (e : Rat) (w fix rate cap : Nat), 0 < w → 0 < rate → e * 10 / 13 ≤ (w : Rat) * fix / 1000 → budgetOf e w fix rate cap = 0) ∧
  (∀ (e e' : Rat) (w fix rate cap : Nat), 0 < w → 0 < rate → e ≤ e' → budgetOf e w fix rate cap ≤ budgetOf e' w fix rate cap) ∧
  (∀ (e : Rat) (w fix rate cap : Nat), budgetOf e w fix rate cap ≤ cap)

/-- THERMAL_STEP (R438, R439, R442). -/
def Obligations.ThermalModel : Prop :=
  (∀ (s : State) (dimms : List (List Int)), s.power.running = true → s.slotDue 4 5 = true → ∃ u : State, exec (.thermalStep false dimms) s = .next (u.judgeLevel false).syncWarn ∧
    (∀ m < 8, u.therm.nodes.getD m default =
      if s.serviceRuns m then
        (if s.imonGone m || s.therm.force.getD m false then
          { s.motifStep m (s.therm.nodes.getD m default) s.therm.pkg with n0 := s.shutdownC, n1 := s.shutdownC, n2 := s.shutdownC }
         else s.motifStep m (s.therm.nodes.getD m default) s.therm.pkg)
      else s.therm.nodes.getD m default) ∧
    u.therm.pkg = (if s.serviceRuns 0 then s.pkgStep else s.therm.pkg) ∧ u.therm.samples = 0 ∧ u.tMax = satSigned 16 (tenths u.hottest.2) ∧
    u.fld F.THM_ST_LEVEL = s.fld F.THM_ST_LEVEL ∧ u.mode = s.mode ∧ (s.inletFresh = false → u.flag F.THM_EVT_AMB_STALE = true) ∧
    (∀ m, s.hasMotif m = true → (∃ x ∈ (dimms.getD m []).take 4, (s.fld F.DRM_CFG_TEMP_CRIT m : Int) ≤ x) → u.therm.dimm = true ∧ u.flag F.DRM_EVT_HOT m = true)) ∧
  (∀ (s : State) (dimms : List (List Int)), s.power.running = true → s.slotDue 4 5 = true → s.quiet = true → s.inletFresh = true →
    (∀ m, s.hasMotif m = true → m < 8 ∧ s.imonGone m = false ∧ s.therm.force.getD m false = false) → s.mode ≠ 5 → s.fld F.THM_ST_LEVEL = 0 → s.therm.dimm = false →
    (∀ m, s.hasMotif m = true → ∀ x ∈ (dimms.getD m []).take 4, x < (s.fld F.DRM_CFG_TEMP_CRIT m : Int)) →
    tenths (s.atPhase 700).stepModel.hottest.2 < (s.fld F.THM_THRESH_WARN : Int) * 10 → tenths (s.atPhase 700).stepModel.hottest.2 < (s.fld F.THM_THRESH_THROTTLE : Int) * 10 →
    tenths (s.atPhase 700).stepModel.hottest.2 < (s.shutdownC : Int) * 10 → -32768 ≤ tenths (s.atPhase 700).stepModel.hottest.2 →
    ∃ t, exec (.thermalStep false dimms) s = .next t ∧ t.fld F.THM_ST_LEVEL = 0 ∧ t.tMax = tenths (s.atPhase 700).stepModel.hottest.2 ∧
      (∀ m, s.hasMotif m = true → t.therm.nodes.getD m default =
        if s.serviceRuns m then s.motifStep m (s.therm.nodes.getD m default) s.therm.pkg else s.therm.nodes.getD m default) ∧
      t.therm.pkg = (if s.serviceRuns 0 then s.pkgStep else s.therm.pkg) ∧ t.therm.samples = 0 ∧ t.mode = s.mode) ∧
  (∀ (s : State) (m : Nat) (n : Nodes) (p : Rat),
    (s.motifStep m n p).n0 = n.n0 + (s.meanW (s.therm.acc.getD m (0, 0, 0)).1 - (n.n0 - n.n3) / s.milli F.LPM_FACT_R_R_03 m) / s.milli F.LPM_FACT_C_C0 m / 1000 ∧
    (s.motifStep m n p).n3 = n.n3 + (0 - ((n.n3 - n.n0) / s.milli F.LPM_FACT_R_R_03 m + (n.n3 - n.n1) / s.milli F.LPM_FACT_R_R_13 m +
      (n.n3 - n.n2) / s.milli F.LPM_FACT_R_R_23 m + (n.n3 - p) / s.milli F.LPM_FACT_R_R_3P m)) / s.milli F.LPM_FACT_C_C3 m / 1000) ∧
  (∀ (s : State), ∃ hs : Rat, hs = (max 10 (s.fld F.THM_USER_R_HS) : Nat) / 1000 ∧ s.pkgStep = s.therm.pkg + (s.meanW s.therm.accPkg -
    ((s.motifs.map (fun m => (s.therm.pkg - (s.therm.nodes.getD m default).n3) / s.milli F.LPM_FACT_R_R_3P m)).sum + (s.therm.pkg - s.ambient) / hs)) /
      (s.milli F.THM_PKG_C_PKG 0 + (s.fld F.THM_USER_C_HS : Rat) / 10) / 1000) ∧
  (∀ (t c : Rat) (nb : List (Rat × Rat)), (∀ n ∈ nb, n.1 = t) → nodeStep t 0 c nb = t)

/-- THROTTLE_GRACE_EXPIRY, the levels, THERMAL_NOTICE and INLET_STALE (R440 to R444). -/
def Obligations.ThermalLevels : Prop :=
  ∀ (s : State), s.power.running = true → s.mode ≠ 5 →
    (s.fld F.THM_ST_LEVEL = 2 → s.fld F.THM_CTL_GRACE_MS ≤ s.therm.grace → 4 ∈ s.stc.slots →
      ((s.shutdownC : Int) * 10 ≤ s.tMax → ∃ t, exec .throttleGraceExpiry s = .next t ∧ t.tiedOff 0x7207) ∧
      (s.tMax < (s.shutdownC : Int) * 10 → ((s.fld F.THM_THRESH_THROTTLE : Int) * 10 - 50 ≤ s.tMax ∨ s.therm.dimm = true) →
        ∃ t, exec .throttleGraceExpiry s = .next t ∧ t.fld F.THM_ST_LEVEL = 3 ∧ t.flag F.THM_EVT_ENFORCE = true ∧
          ∀ m, s.hasMotif m = true → t.fld F.LPM_ST_CLK_CAP m = 1) ∧
      (s.tMax < (s.shutdownC : Int) * 10 → s.tMax < (s.fld F.THM_THRESH_THROTTLE : Int) * 10 - 50 → s.therm.dimm = false →
        ∃ u : State, exec .throttleGraceExpiry s = .next u.admitWaiting ∧ u.fld F.THM_ST_LEVEL = (if s.tMax < (s.fld F.THM_THRESH_WARN : Int) * 10 - 50 then 0 else 1) ∧
          u.flag F.THM_EVT_RELEASE = true ∧ (∀ m, s.hasMotif m = true → u.fld F.LPM_ST_CLK_CAP m = 0) ∧ u.therm.enfDebt = List.replicate 8 0)) ∧
    (s.tMax < (s.shutdownC : Int) * 10 → s.fld F.THM_ST_LEVEL ≤ 1 →
      (((s.fld F.THM_THRESH_THROTTLE : Int) * 10 ≤ s.tMax ∨ s.therm.dimm = true) → (s.judgeLevel false).fld F.THM_ST_LEVEL = 2 ∧ (s.judgeLevel false).flag F.THM_EVT_THROTTLE = true) ∧
      (s.tMax < (s.fld F.THM_THRESH_THROTTLE : Int) * 10 → s.therm.dimm = false → (s.fld F.THM_THRESH_WARN : Int) * 10 ≤ s.tMax →
        (s.judgeLevel false).fld F.THM_ST_LEVEL = 1 ∧ (s.fld F.THM_ST_LEVEL = 0 → (s.judgeLevel false).flag F.THM_EVT_WARN = true)) ∧
      (s.tMax < (s.fld F.THM_THRESH_THROTTLE : Int) * 10 → s.therm.dimm = false → s.tMax < (s.fld F.THM_THRESH_WARN : Int) * 10 - 50 →
        (s.judgeLevel false).fld F.THM_ST_LEVEL = 0)) ∧
    ((s.fld F.THM_ST_LEVEL = 2 ∨ s.fld F.THM_ST_LEVEL = 3) → s.therm.noticeAt ≤ s.num → ∃ t, exec .thermalNotice s = .next t ∧
      (s.txOff = false → ∀ m, s.hasMotif m = true → ∀ c ∈ s.activeConns false m, ∃ rate, .notice c.id (noticeBytes (s.fld F.THM_ST_LEVEL) rate) ∈ t.outbox ∧
        (s.activeConns true m ≠ [] → rate = max 1 (s.fld F.THM_ENF_ADMIT_ATOMS) * 4096 * 8 / 5 / (s.activeConns true m).length)) ∧
      t = { s with outbox := t.outbox, free := t.free, therm := { s.therm with noticeAt := s.num + 200 * max 1 (s.fld F.THM_CTL_NOTICE_MS) } }) ∧
    (s.inletFresh = false → ∃ t, exec .inletStale s = .next t ∧ t.flag F.THM_EVT_AMB_STALE = true ∧
      t.ambient = (s.fld F.THM_CTL_AMB_FALLBACK : Rat) + (s.sfld F.THM_USER_AMB_OFS : Rat) / 10 ∧
      (∀ q n j, q.addr n j ≠ Reg.THM_EVT.addr 0 0 → t.reg q n j = s.reg q n j) ∧ t = { s with regs := t.regs, therm := t.therm, eip := t.eip })

/-- What a reset leaves in each field of a register (R13, R14, R107). -/
def Obligations.ResetFields : Prop :=
  ∀ (s : State) (k : ResetKind) (p : Reg → Nat → Bool) (r : Reg) (m i : Nat), s.memWf = true → regOfAddr (r.addr m i) = some (r, m, i) → ∀ f ∈ r.spec.fields,
    bits ((s.resetRegs k p).reg r m i) f.hi f.lo =
      (if p r m && (f.letters.has k && !(f.src == .hw && f.acc == .ro && !(k == .powerOn))) then f.reset % 2 ^ (f.hi + 1 - f.lo) else bits (s.reg r m i) f.hi f.lo) ∧
    (s.prk = none → r.spec.pkg = false → r ≠ .LPM_IMON_CFG → bits ((s.resetMotifRegs m true).reg r m i) f.hi f.lo =
      if f.letters.has .motif && !(f.src == .hw && f.acc == .ro) then f.reset % 2 ^ (f.hi + 1 - f.lo) else bits (s.reg r m i) f.hi f.lo)

/-- POWER_ON_RESET, RESET_N_ASSERT, PKG_RST_WARM and PGOOD_LOW (R99, R107, R480). -/
def Obligations.PackageResets : Prop :=
  ∀ (s : State) (h us ns v : Nat), s.power.running = true →
    (s.power.testMode = true → exec (.powerOnReset h us) s = .next s) ∧
    (s.power.testMode = false → ∃ t, exec (.powerOnReset h us) s = .next t ∧ t.mode = 0 ∧ t.fld F.PKG_WIND_STEP = 2 ∧ t.fld F.PKG_MODE_WIND_KIND = 0 ∧
      t.fld F.PKG_WIND_TIME_TIME_US = min us 0xFFFFFFFF ∧ t.headId = h % 2 ∧ t.mem = [] ∧ t.cip = CipSt.reset ∧ t.eip = [] ∧ t.prk = none ∧ t.ms = MemSt.reset ∧
      t.mramNat 0x30 4 = (s.mramNat 0x30 4 + 1) % 2 ^ 32 ∧ t.pending = s.pending ∧ t.fuses = s.fuses) ∧
    (1000 ≤ ns → s.mode ≠ 5 → ∃ t, exec (.resetNAssert ns us) s = .next t ∧ s.rewound t 1 1 us) ∧
    (bits v 31 24 = 0xA5 → bit v 0 = true → s.mode ≠ 5 → ∃ t, exec (.pkgRstWarm v us) s = .next t ∧ s.rewound t 1 2 us) ∧
    ((ns < 1000 ∨ s.mode = 5) → exec (.resetNAssert ns us) s = .next s) ∧
    ((bits v 31 24 ≠ 0xA5 ∨ s.mode = 5) → exec (.pkgRstWarm v us) s = .next s ∧ ∀ ok, exec (.pkgRstMotifRst v ok) s = .next s) ∧
    (s.power.testMode = false → 1000 ≤ ns → s.mode ≠ 5 → ∃ t, exec (.pgoodLow ns) s = .next t ∧ t.tiedOff 0x7206 ∧ t.power.pgood = false) ∧
    (s.power.testMode = false → 1000 ≤ ns → s.mode = 5 → exec (.pgoodLow ns) s = .next { s with power := { s.power with pgood := false } }) ∧
    ((ns < 1000 ∨ s.power.testMode = true) → exec (.pgoodLow ns) s = .next s)

/-- PKG_RST_MOTIF_RST, and how MOTIF_BRINGUP and DRAM_TRAINING fail or end (R93, R106, R107, R403). -/
def Obligations.MotifResetAndBringup : Prop :=
  ∀ (s u : State) (v us m : Nat) (ok : Bool) (rep : List (Nat × Nat × Nat)) (dimms : List (Option DimmInfo)), s.power.running = true → s.mode ≠ 5 →
    (bits v 31 24 = 0xA5 → bit v 0 = false → bit v 1 = true → u = s.softWrite .PKG_RST 0 0 (256 * bits v 10 8) → m = u.fld F.PKG_RST_MOTIF →
      (s.inLockSet .PKG_RST 0 0 = false → m = bits v 10 8) ∧
      (s.flag F.PKG_WIND_STOPPED = true → s.hasMotif m = true →
        (∃ t, exec (.pkgRstMotifRst v true) s = .next t ∧ t.fld F.PKG_RST_MOTIF = m ∧ bit (t.fld F.CPU_ST_RUNNING m) 8 = true ∧
          t.ms.lines = s.ms.lines.filter (fun c => c.motif != m) ∧ t.eng.jobs = s.eng.jobs.filter (fun j => j.motif != m) ∧ t.eip = s.eip.filter (fun e => e.1 != m) ∧
          t.mode = s.mode ∧ t.mem = s.mem ∧ (∀ x ∈ t.bob.modules, x.idx / 32 = m → x.linkUp = false)) ∧
        (∃ t, exec (.pkgRstMotifRst v false) s = .next t ∧ t.tiedOff 0x7208)) ∧
      ((s.flag F.PKG_WIND_STOPPED = false ∨ s.hasMotif m = false) → exec (.pkgRstMotifRst v ok) s = .next u)) ∧
    (s.inStep 7 = true →
      (∃ t, exec (.motifBringup 1 rep us) s = .next t ∧ t.tiedOff 0x7201) ∧
      (∃ t, exec (.motifBringup 2 rep us) s = .next t ∧ t.tiedOff 0x7208) ∧
      (∃ t, exec (.motifBringup 0 rep us) s = .next t ∧ t.fld F.PKG_WIND_STEP = 8 ∧ t.mode = 0 ∧ ∀ n, s.hasMotif n = true → bit (t.fld F.CPU_ST_RUNNING n) 8 = true)) ∧
    (s.inStep 8 = true →
      (s.hasMotif m = true → (dimms.getD m none = none ∨ dimms.getD m none ≠ dimms.getD 0 none ∨ ∃ d, dimms.getD m none = some d ∧ (d.gib < 16 ∨ 128 < d.gib)) →
        ∃ t, exec (.dramTraining dimms us) s = .next t ∧ t.tiedOff 0x7209) ∧
      (∀ d : DimmInfo, 16 ≤ d.gib → d.gib ≤ 128 → dimms.getD 0 none = some d → (∀ n, s.hasMotif n = true → dimms.getD n none = some d) →
        ∃ t, exec (.dramTraining dimms us) s = .next t ∧ t.fld F.PKG_WIND_STEP = 9 ∧ t.mode = 0 ∧
          ∀ n, s.hasMotif n = true → t.fld F.DRM_ST_TRAINED n = 15 ∧ t.fld F.DRM_ST_DIMM_GIB n = d.gib ∧ t.fld F.CCH_CTL_EN n = 1))

/-- FUSE_LOAD, BOOT_ROM_START, IMAGE_SLOT_SELECT, MEASUREMENT_EXTEND and PRICKING_LOAD (R84, R85, R93, R207, R454). -/
def Obligations.WindingSteps2To6 : Prop :=
  ∀ (s : State) (us : Nat) (l : Option HostLink) (errA errB : Bool), s.power.running = true →
    (s.inStep 2 = true → s.fuses.crcOk = true → s.fuses.factorsOk = true → s.fuses.caps.motifs ≤ 8 → ∃ t, exec (.fuseLoad us) s = .next t ∧ t.fld F.PKG_WIND_STEP = 3 ∧
      t.mode = 0 ∧ t.fld F.PKG_CAP_MOTIFS = s.fuses.caps.motifs ∧ t.fld F.PKG_CAP_MAX_M = s.fuses.caps.maxM % 16 ∧ t.hu.owed = some s.num ∧
      t.fld F.PKG_WIND_TIME_TIME_US 0 1 = min us 0xFFFFFFFF) ∧
    (s.inStep 2 = true → (s.fuses.crcOk = false ∨ s.fuses.factorsOk = false) → ∃ t, exec (.fuseLoad us) s = .next t ∧ t.tiedOff 0x720B) ∧
    (s.inStep 3 = true → ∃ u : State, exec (.bootRomStart l us) s = .next u.resumeHost ∧ u.fld F.PKG_WIND_STEP = 4 ∧ bit (u.fld F.CPU_ST_RUNNING 0) 8 = true ∧
      (∀ o < bootStoreSize, Sparse.get memDefault u.mem (dramBase 0 + o) = 0) ∧
      (∀ a, (a < dramBase 0 ∨ dramBase 0 + bootStoreSize ≤ a) → l = none → Sparse.get memDefault u.mem a = Sparse.get memDefault s.mem a) ∧
      (l = none → u.ep.served = true)) ∧
    (s.inStep 4 = true → ∀ a stA stB, a = s.bootBlock.next → stA = s.imageCheck 0 errA → stB = s.imageCheck 1 errB →
      ((if a = 0 then stA else stB) = 0 → ∃ t, exec (.imageSlotSelect errA errB us) s = .next t ∧ t.fld F.PKG_WIND_STEP = 5 ∧ t.fld F.FWU_ST_RUN_SLOT = a ∧
        t.fld F.FWU_ST_RUNNING = 1 ∧ t.imageDigest = sha384 (s.imageSpan a)) ∧
      ((if a = 0 then stA else stB) ≠ 0 → (if a = 0 then stB else stA) = 0 → ∃ t, exec (.imageSlotSelect errA errB us) s = .next t ∧ t.fld F.PKG_WIND_STEP = 5 ∧
        t.fld F.FWU_ST_RUN_SLOT = 1 - a ∧ t.fld F.FWU_ST_RUNNING = 1 ∧ t.fld F.FWU_ST_FALLBACK = 1 ∧ t.flag F.FWU_EVT_FALLBACK = true) ∧
      (stA ≠ 0 → stB ≠ 0 → ∃ t, exec (.imageSlotSelect errA errB us) s = .next t ∧ t.stoppedWith 0x2201 ∧ t.fld F.FWU_VERIFY_STATUS_A = stA ∧ t.fld F.FWU_VERIFY_STATUS_B = stB)) ∧
    (s.inStep 5 = true → ∃ t, exec (.measurementExtend us) s = .next t ∧ t.fld F.PKG_WIND_STEP = 6 ∧
      (∀ i < 6, t.fld F.MSR_MR_VALUE 0 (6 + i) = leAt (sha384 (s.mrValue 1 ++ s.imageDigest)) (8 * i) 8 % 2 ^ 64) ∧ t.mrValue 0 = s.mrValue 0 ∧ t.mrValue 2 = s.mrValue 2 ∧
      t.fld F.MSR_CNT_EXTENDS 0 1 = satAdd (fldMax F.MSR_CNT_EXTENDS) (s.fld F.MSR_CNT_EXTENDS 0 1) 1 ∧
      t.fld F.MSR_CNT_EXTENDS 0 3 = satAdd (fldMax F.MSR_CNT_EXTENDS) (s.fld F.MSR_CNT_EXTENDS 0 3) 1) ∧
    (s.inStep 6 = true → ∀ slot o b, slot = s.fld F.FWU_ST_RUN_SLOT → o = s.prickingOfs slot → b = s.flashRead o (max 0x80 (min (leAt (s.flashRead o 0x18) 0x14 4) 0x100000)) →
      (s.bootBlock.trial = false → ∃ t, exec (.prickingLoad true us) s = .next t ∧ t.stoppedWith 0x2202 ∧ t.fld F.PRK_ST_STATE = 4 ∧ t.fld F.PRK_ST_CODE = 0x3008) ∧
      (∀ code at_, validatePricking s.fuses.caps s.fuses.relienKey s.fuses.customerKey b = .error (code, at_) →
        (s.bootBlock.trial = false → ∃ t, exec (.prickingLoad false us) s = .next t ∧ t.stoppedWith 0x2202 ∧ t.fld F.PRK_ST_STATE = 4 ∧ t.fld F.PRK_ST_CODE = code % 65536) ∧
        (s.bootBlock.trial = true → ∃ t, exec (.prickingLoad false us) s = .next t ∧ t.fld F.PKG_WIND_STEP = 3 ∧ t.mode = 0 ∧ t.fld F.FWU_ST_RUNNING = 0 ∧
          t.fld F.PRK_ST_FALLBACK = 1 ∧ t.flag F.FWU_EVT_FALLBACK = true)) ∧
      (∀ p, validatePricking s.fuses.caps s.fuses.relienKey s.fuses.customerKey b = .ok p →
        ∃ t, exec (.prickingLoad false us) s = .next t ∧ t.fld F.PKG_WIND_STEP = 7 ∧ t.prk = some p)) ∧
    (s.inStep 2 = false → exec (.fuseLoad us) s = .next s) ∧ (s.inStep 3 = false → exec (.bootRomStart l us) s = .next s) ∧
    (s.inStep 4 = false → exec (.imageSlotSelect errA errB us) s = .next s) ∧ (s.inStep 5 = false → exec (.measurementExtend us) s = .next s) ∧
    (s.inStep 6 = false → ∀ e, exec (.prickingLoad e us) s = .next s)

/-- BRIDE_TRAINING, STITCH_LOCK, MODULE_DISCOVERY, METADATA_RECOVERY, KEYS_DONE_TIMEOUT, MIRROR_RESYNC, GROUND_ASSIGNMENT and PRIOR_SECTIONS_SWITCH (R88, R93 to R96). -/
def Obligations.WindingSteps9To14 : Prop :=
  ∀ (s : State) (us : Nat) (bad : BadPages), s.power.running = true →
    (s.inStep 9 = true → ∀ pass clock now,
      (∃ t, exec (.brideTraining pass clock now none us) s = .next t ∧ t.fld F.PKG_WIND_STEP = 10 ∧ t.mode = 0) ∧
      (∀ x, ∃ t, exec (.brideTraining pass clock now (some x) us) s = .next t ∧ (t.flag F.PKG_WIND_STOPPED = false → t.fld F.PKG_WIND_STEP = 10))) ∧
    (s.inStep 10 = true →
      (∀ r, s.partnerInService = true → s.pair.last = some r → ∃ t, exec (.stitchLock us) s = .next t ∧ t.fld F.PKG_WIND_STEP = 11 ∧ t.fld F.STC_ST_STATE = 4 ∧
        t.fld F.STC_NUM_OFS_OFS = r.numOfs % 2 ^ 64) ∧
      (s.partnerInService = false → s.flag F.STC_ST_SRC_VALID = true → s.fld F.STC_ST_STATE = 0 → ∃ t, exec (.stitchLock us) s = .next t ∧ t.fld F.PKG_WIND_STEP = 11 ∧
        t.fld F.STC_ST_STATE = 1) ∧
      (s.partnerInService = false → s.fld F.STC_ST_STATE ≠ 0 → ∃ t, exec (.stitchLock us) s = .next t ∧ t.fld F.PKG_WIND_STEP = 11 ∧ t = { s with regs := t.regs }) ∧
      (s.partnerInService = false → s.flag F.STC_ST_SRC_VALID = false → s.fld F.STC_ST_STATE = 0 → exec (.stitchLock us) s = .next s)) ∧
    (s.inStep 11 = true → ∀ found, ∃ t, exec (.moduleDiscovery found us) s = .next t ∧ t.fld F.PKG_WIND_STEP = 12 ∧ t.fld F.PKG_WIND_TIME_TIME_US 0 10 = min us 0xFFFFFFFF) ∧
    (∀ foreign log vaults x, s.inStep 12 = true → s.scanning = false →
      ((s.fuses.caps.optE = false ∨ s.flag F.CIP_KEK_CTL_KEYS_DONE = true) →
        ((x = true ∨ s.rootLost = true) → ∃ t, exec (.metadataRecovery foreign log vaults x bad us) s = .next t ∧ t.stoppedWith 0x3207) ∧
        (x = false → s.rootLost = false → ∃ t, exec (.metadataRecovery foreign log vaults x bad us) s = .next t ∧ t.flag F.BRD_ST_HALIVE_OUT = true ∧
          t.fld F.PKG_WIND_STEP = (if t.hasPartner then 13 else 14))) ∧
      (s.fuses.caps.optE = true → s.flag F.CIP_KEK_CTL_KEYS_DONE = false →
        ((x = true ∨ s.rootLost = true) → ∃ t, exec (.keysDoneTimeout foreign log vaults x bad us) s = .next t ∧ t.stoppedWith 0x3207) ∧
        (x = false → s.rootLost = false → ∃ t, exec (.keysDoneTimeout foreign log vaults x bad us) s = .next t ∧ t.flag F.BRD_ST_HALIVE_OUT = true ∧
          t.fld F.PKG_WIND_STEP = (if t.hasPartner then 13 else 14)))) ∧
    (∀ foreign log vaults x, (s.inStep 12 = false ∨ s.scanning = true ∨ (s.fuses.caps.optE = true ∧ s.flag F.CIP_KEK_CTL_KEYS_DONE = false)) →
      exec (.metadataRecovery foreign log vaults x bad us) s = .next s) ∧
    (s.inStep 13 = true → s.hasPartner = false → ∃ t, exec (.mirrorResync us) s = .next t ∧ t.fld F.PKG_WIND_STEP = 14 ∧
      (∀ q n j, q.addr n j ≠ Reg.PKG_WIND.addr 0 0 → t.reg q n j = s.reg q n j) ∧ t = { s with regs := t.regs }) ∧
    (s.inStep 13 = true → s.hasPartner = true → ∃ t, exec (.mirrorResync us) s = .next t ∧ t.flag F.BRD_ST_HALIVE_OUT = true ∧ t.fld F.BRD_ST_STATE = 4 ∧
      t.fld F.PKG_WIND_STEP = if s.pair.last.any (fun r => decide (r.mode = 0) && r.halive) then 14 else 13) ∧
    (∀ p, (s.inStep 14 = true ∨ (s.inStep 13 = true ∧ s.hasPartner = false)) → p = (s.driveHalive true).placeGrounds →
      (p.hasPartner = false → ∃ (u : State) (c : Nat), exec (.groundAssignment us) s = .next u.afterWinding ∧ u.mode = 2 ∧ u.fld F.PKG_MODE_STAGING = 1 ∧ u.flag F.PKG_MODE_ADMIT = true ∧
        c ∈ [1, 2, 4, 5] ∧ u.fld F.PKG_MODE_SOLO_CAUSE = c ∧ u.flag F.PKG_MODE_EV_SOLO = true) ∧
      (p.hasPartner = true → p.partnerInService = true → p.pair.named = none → (∀ g ∈ p.groundList, p.homeOf g = p.headId → p.groundState g ≠ 6 → p.groundState g = 1) →
        ∃ u : State, exec (.groundAssignment us) s = .next u.afterWinding ∧ u.mode = 1 ∧ u.fld F.PKG_MODE_STAGING = 0 ∧ u.flag F.PKG_MODE_ADMIT = true)) ∧
    (s.flag F.PRK_PAIR_ST_PRIOR_ACTIVE = true → (∃ x, s.pair.partnerId = some x ∧ x.pairHash = s.pairHashes.1) → s.num = s.fld F.BRD_NAMED_STITCH →
      ∃ t, exec .priorSectionsSwitch s = .next t ∧ t.fld F.PRK_PAIR_ST_PRIOR_ACTIVE = 0 ∧ t.fld F.PRK_PAIR_ST_REL = 1 ∧ t.activePart = (match s.prk with | some p => p.own | none => s.activePart))

/-- BRIDE_LANE_FAIL, BRIDE_RETRAIN_TIMER, BRD_RETRAIN and BRIDE_LINK_DOWN (R95, R110, R111, R134). -/
def Obligations.BrideLanes : Prop :=
  (∀ lanes < 256, ∀ lane < 8, bit (dropLane lanes lane) lane = false ∧ dropLane lanes lane &&& lanes = dropLane lanes lane) ∧
  (∀ (s : State) (g l v c : Nat) (pass : List Nat) (log : List StageEnt) (ctrls : List Ctrl), s.power.running = true →
    (s.groupUp g = true → bit (s.group g).lanes l = true → ∃ t, exec (.brideLaneFail g l) s = .next t ∧ (t.group g).lanes = dropLane (s.group g).lanes l ∧
      t.flag F.BRD_EVT_LANE_FAIL = true ∧ t.fld F.BRD_CNT_LANE_FAIL = satAdd (fldMax F.BRD_CNT_LANE_FAIL) (s.fld F.BRD_CNT_LANE_FAIL) 1 ∧ t.dp = s.dp ∧ t.mode = s.mode) ∧
    ((s.groupUp g = false ∨ bit (s.group g).lanes l = false) → exec (.brideLaneFail g l) s = .next s) ∧
    ((s.flag F.BRD_ST_LINK_UP = true ∨ (s.inService = false ∧ s.lateWinding = false)) → exec (.brideRetrainTimer pass c) s = .next s) ∧
    (s.flag F.BRD_ST_LINK_UP = false → (s.inService = true ∨ s.lateWinding = true) → exec (.brideRetrainTimer pass c) s = .next (s.trainBride pass c)) ∧
    ((s.txOff = true ∨ s.flag F.PKG_WIND_STOPPED = true) → s.trainBride pass c = s.setFld F.BRD_CTL_RETRAIN 0) ∧
    (s.txOff = false → s.flag F.PKG_WIND_STOPPED = false → ∀ t, t = s.trainBride pass c → t.fld F.BRD_PARTNER_VALID = 0 ∧ t.fld F.BRD_CTL_RETRAIN = 0 ∧ t.mode = s.mode ∧ t.dp = s.dp ∧
      (∀ m ∈ s.trainable pass, m < s.pair.groups.length → (t.group m).lanes = trainLanes (pass.getD m 0) ∧ (t.group m).rxSeq = 0 ∧
        ∃ p, p = BridePay.train { s.ownTrain m c with probeEcho := 0 } ∧ (1, p) ∈ (t.group m).unacked ∧
          Out.bride m (brideFrame p.type p.vc 1 0 (p.motif m) s.headId p.payload) ∈ t.outbox) ∧
      (s.flag F.BRD_ST_LINK_UP = false → s.trainable pass ≠ [] → t.fld F.BRD_ST_LINK_UP = 1 ∧ t.fld F.BRD_ST_STATE = 2 ∧ t.flag F.BRD_EVT_LINK_UP = true) ∧
      (s.flag F.BRD_ST_LINK_UP = false → s.trainable pass = [] → t.fld F.BRD_ST_LINK_UP = 0 ∧ t.fld F.BRD_ST_STATE = 0) ∧
      (s.flag F.BRD_ST_LINK_UP = true → t.fld F.BRD_ST_LINK_UP = 1 ∧ t.fld F.BRD_ST_STATE = s.fld F.BRD_ST_STATE)) ∧
    (∃ u : State, exec (.brdRetrain v pass c) s = .next (if u.flag F.BRD_CTL_RETRAIN then u.trainBride pass c else u) ∧
      u.reg .BRD_CTL 0 0 = (s.softWrite .BRD_CTL 0 0 v).reg .BRD_CTL 0 0 ∧ u.dp = s.dp ∧ u.mode = s.mode ∧
      (∀ m, s.groupUp m = true → (u.group m).lanes = (if bit (u.fld F.BRD_CTL_GROUP_EN) m then (s.group m).lanes else 0)) ∧
      ((∀ m, s.groupUp m = true → bit (u.fld F.BRD_CTL_GROUP_EN) m = true) → u.outbox = s.outbox ∧ u.pair = s.pair)) ∧
    ((s.flag F.BRD_ST_LINK_UP = false ∨ s.upGroups ≠ []) → exec (.brideLinkDown log ctrls) s = .next s) ∧
    (s.flag F.BRD_ST_LINK_UP = true → s.upGroups = [] → ∃ u : State, exec (.brideLinkDown log ctrls) s = .next (if s.flag F.BRD_ST_HALIVE_IN then u.brideDownSolo log ctrls else u) ∧
      u.fld F.BRD_ST_LINK_UP = 0 ∧ u.fld F.BRD_ST_STATE = 0 ∧ u.flag F.BRD_EVT_LINK_DOWN = true ∧ u.pair.rejoin = false ∧ u.mode = s.mode ∧ u.dp.writes = s.dp.writes ∧
      u.dp.copies = s.dp.copies ∧ (∀ b ∈ u.pair.groups, b.unacked = [] ∧ b.waiting = []) ∧ ∀ k, u.groundState k = s.groundState k) ∧
    (s.mode = 1 → s.brideDownSolo log ctrls = (s.goSolo 4).settleMode ∧ (s.goSolo 4).mode = 2 ∧ (s.goSolo 4).fld F.PKG_MODE_SOLO_CAUSE = 4 ∧
      (s.goSolo 4).fld F.PKG_MODE_STAGING = 1 ∧ (s.goSolo 4).dp = s.dp ∧ ∀ k, (s.goSolo 4).groundState k = s.groundState k))

/-- TRAIN_ID_RECEIVE (R87, R95, R111). -/
def Obligations.Pairing : Prop :=
  ∀ (s : State) (h : BrideHdr) (now : Nat) (x : TrainId), s.power.running = true →
    (s.inStep 9 = false → s.lateWinding = false → s.inService = false → exec (.trainIdReceive h now x) s = .next s) ∧
    ((s.inStep 9 = true ∨ s.lateWinding = true ∨ s.inService = true) → s.inOrder h = false → exec (.trainIdReceive h now x) s = .next (s.unheard h).afterFrame) ∧
    ((s.inStep 9 = true ∨ s.lateWinding = true ∨ s.inService = true) → s.inOrder h = true → ∃ u : State,
      exec (.trainIdReceive h now x) s =
        .next (if u.fld F.BRD_ST_STATE = 2 ∧ (s.inStep 9 = true ∨ s.inService = true) then u.decidePairing x else u).afterFrame ∧
      u.fld F.BRD_PARTNER_VALID = 1 ∧ u.pair.partnerId = some x ∧ u.fld F.BRD_ST_STATE = s.fld F.BRD_ST_STATE ∧ u.mode = s.mode ∧ u.prk = s.prk ∧ u.dp = s.dp ∧
      (h.group = 0 → x.probeEcho ≠ 0 → u.fld F.BRD_LAT_LAT_NS = min (probeNs now x.probeEcho) 0xFFFF)) ∧
    (x.headId = s.headId → s.mode = 0 → (s.decidePairing x).stoppedWith 0x2302) ∧
    (x.headId = s.headId → s.mode ≠ 0 → s.decidePairing x = s) ∧
    (x.headId ≠ s.headId →
      (s.decidePairing x).fld F.PRK_PAIR_ST_REL = s.relationTo x ∧
      ((x.hwType ≠ s.fld F.PKG_ID_HW_TYPE ∨ x.motifs ≠ s.fuses.caps.motifs ∨ x.opts ≠ s.fuses.caps.optBits) →
        (s.decidePairing x).fld F.BRD_ST_STATE = 5 ∧ (s.decidePairing x).flag F.BRD_EVT_REFUSED = true ∧ (s.decidePairing x).pair.refusal = 0x2301) ∧
      (x.hwType = s.fld F.PKG_ID_HW_TYPE → x.motifs = s.fuses.caps.motifs → x.opts = s.fuses.caps.optBits →
        (s.relationTo x = 4 → (s.decidePairing x).fld F.BRD_ST_STATE = 5 ∧ (s.decidePairing x).flag F.BRD_EVT_REFUSED = true ∧ (s.decidePairing x).pair.refusal = 0x2303) ∧
        (s.relationTo x ≠ 4 → (s.decidePairing x).fld F.BRD_ST_STATE = 3))) ∧
    (s.pairHashes.1 = x.pairHash ↔ s.relationTo x = 1)

/-- BRIDE_FRAME_ERROR, NAK_RECEIVE, ACK_STALL_TIMEOUT, IDLE_SEND, IDLE_RECEIVE, MIRROR_RECEIVE, RESYNC_RECEIVE and HAVE_RECEIVE (R112, R113, R117, R118, R132, R135). -/
def Obligations.BrideFrames : Prop :=
  ∀ (s : State) (h : BrideHdr) (f : MirrorFrame) (l : List HaveEntry) (b : Bytes) (g a : Nat) (e : HaveEntry), s.power.running = true →
    (s.groupUp g = false → ∀ c ∈ [Instr.brideFrameError g b, .ackStallTimeout g, .idleSend g], exec c s = .next s) ∧
    (s.groupUp h.group = false → ∀ c ∈ [Instr.nakReceive h, .idleReceive h], exec c s = .next s) ∧
    (s.groupUp g = true →
      (frameCrcOk b = false → ∃ t, exec (.brideFrameError g b) s = .next t ∧ t.outbox = s.outbox ++ (if s.txOff then [] else [.bride g (s.bareFrame g 7)]) ∧
        t.fld F.BRD_CNT_CRC_ERR = satAdd (fldMax F.BRD_CNT_CRC_ERR) (s.fld F.BRD_CNT_CRC_ERR) 1 ∧ (∀ q n j, q.addr n j ≠ Reg.BRD_CNT.addr 0 0 → t.reg q n j = s.reg q n j) ∧
        t = { s with regs := t.regs, outbox := t.outbox }) ∧
      (frameCrcOk b = true → frameSeq b ≠ (s.group g).expects (byteAt b 0) → exec (.brideFrameError g b) s = .next (s.emit (.bride g (s.bareFrame g 7)))) ∧
      (frameCrcOk b = true → frameSeq b = (s.group g).expects (byteAt b 0) → exec (.brideFrameError g b) s = .next s) ∧
      exec (.ackStallTimeout g) s = .next (s.replay g) ∧
      ((s.group g).waiting = [] → exec (.idleSend g) s = .next (s.emit (.bride g (s.bareFrame g 8)))) ∧
      ((s.group g).waiting ≠ [] → exec (.idleSend g) s = .next s) ∧
      (s.takeAck g a).dp = s.dp ∧ ((s.takeAck g a).group g).acked = (if seqCovers a (s.group g).acked then a else (s.group g).acked) ∧
      ((s.group g).waiting = [] → ((s.takeAck g a).group g).unacked = (s.group g).unacked.filter (fun p => !seqCovers a p.1) ∧ (s.takeAck g a).outbox = s.outbox)) ∧
    ((s.group g).unacked = [] → s.replay g = s) ∧
    ((s.group g).unacked ≠ [] → ∃ t, t = s.replay g ∧ t.outbox = s.outbox ++ (if s.txOff then [] else (s.group g).unacked.map (fun p => .bride g (s.wire g p.1 p.2))) ∧
      t.fld F.BRD_CNT_REPLAY = satAdd (fldMax F.BRD_CNT_REPLAY) (s.fld F.BRD_CNT_REPLAY) 1 ∧ t = { s with regs := t.regs, outbox := t.outbox }) ∧
    (s.groupUp h.group = true → exec (.idleReceive h) s = .next (s.takeAck h.group h.ack).afterFrame ∧
      exec (.nakReceive h) s = .next ((s.takeAck h.group h.ack).replay h.group).afterFrame) ∧
    (s.inOrder h = true →
      (s.owns f.ground = true → exec (.mirrorReceive h f) s = .next (s.heard h).afterFrame ∧ exec (.resyncReceive h f) s = .next (s.heard h).afterFrame) ∧
      (s.owns f.ground = false → exec (.mirrorReceive h f) s = .next ((s.heard h).keepFrame f).afterFrame ∧ exec (.resyncReceive h f) s = .next ((s.heard h).keepFrame f).afterFrame) ∧
      exec (.haveReceive h l) s = .next ((s.heard h).each l State.takeHave).afterFrame) ∧
    (s.inOrder h = false → ∀ c ∈ [Instr.mirrorReceive h f, .resyncReceive h f, .haveReceive h l], exec c s = .next (s.unheard h).afterFrame) ∧
    (f.journal = false → f.atomic = false → ∃ x : HeldAtom, x.frame = f ∧ (s.keepFrame f).dp.copies =
        s.dp.copies.filter (fun c => !(sameWrite c x && c.frame.nsid == f.nsid && c.frame.atom == f.atom)) ++ [x]) ∧
    (f.journal = true → f.last = true → s.keepFrame f = s.applyJournal f.recs) ∧ (f.journal = true → f.last = false → s.keepFrame f = s) ∧
    ((s.dp.writes.any (fun w => w.twin == some (e.conn, e.seq))) = false → s.takeHave e = s.modNet (fun n => { n with haves := n.haves ++ [e] })) ∧
    (∀ w ∈ s.dp.writes, w.twin = some (e.conn, e.seq) → ∃ x ∈ (s.takeHave e).dp.writes, x = { w with gotHave := true })

/-- RECORD_RECEIVE, RECORD_MISSING and HALIVE_IN_CHANGE (R114, R118, R120, R121, R134). -/
def Obligations.RecordsReceived : Prop :=
  ∀ (s : State) (fs : List (BrideHdr × Record)) (r x : Record) (p : Nat) (late : Bool) (log : List StageEnt) (ctrls : List Ctrl) (m g q : Nat), s.power.running = true →
    exec (.recordReceive fs p late) s = .next (s.each fs (fun s f => if s.inOrder f.1 then (s.heard f.1).takePart f.2 p late else s.unheard f.1)).afterFrame ∧
    ((r.parts ≤ r.part ∨ s.pair.parts.any (fun y => y.stitch == r.stitch && y.part == r.part) = true) → s.keepPart r = s) ∧
    (r.part < r.parts → s.pair.parts.any (fun y => y.stitch == r.stitch && y.part == r.part) = false →
      s.keepPart r = s.modPair (fun p => { p with parts := p.parts ++ [r] })) ∧
    ((s.keepPart r).wholeRecord r.stitch = none → s.takePart r p late = s.keepPart r) ∧
    ((s.keepPart r).wholeRecord r.stitch = some x → (s.paired = false ∨ s.mode = 5) → (s.takePart r p late).pair.last = s.pair.last ∧ (s.takePart r p late).mode = s.mode) ∧
    ((s.keepPart r).wholeRecord r.stitch = some x → s.paired = true → s.mode ≠ 5 → ∃ u : State,
      s.takePart r p late = (u.judgeMode x).recount.syncAdmit.admitWaiting ∧ u.pair.last = some x ∧ u.pair.prev = s.pair.last ∧ u.dp.partnerLimit = x.mirrorLimit ∧
      u.mode = s.mode ∧ (late = false → u.pair.gotStitch = some s.num ∧ u.fld F.BRD_ST_MISS_RUN = 0) ∧
      (late = true → u.pair.gotStitch = s.pair.gotStitch ∧ u.fld F.BRD_ST_MISS_RUN = s.fld F.BRD_ST_MISS_RUN)) ∧
    (s.mode = 1 → r.mode < 8 → r.mode ≠ 4 → (s.judgeMode r).mode = 1 ∧ (s.judgeMode r).fld F.PKG_MODE_PARTNER_MODE = r.mode) ∧
    (s.mode = 1 → r.mode = 4 → ∃ u : State, s.judgeMode r = (u.goSolo 6).settleMode ∧ u.fld F.PKG_MODE_PARTNER_MODE = 4 ∧ u.mode = 1) ∧
    (∀ c ∈ (s.applyEntry (.drop m g q)).dp.copies, ¬ (c.frame.motif = m ∧ c.frame.ground = g ∧ c.frame.mseq ≤ q)) ∧
    (∀ b, ∃ t, exec (.haliveInChange b) s = .next t ∧ t.fld F.BRD_ST_HALIVE_IN = b2n b ∧ (∀ q n j, q.addr n j ≠ Reg.BRD_ST.addr 0 0 → t.reg q n j = s.reg q n j) ∧
      t = { s with regs := t.regs }) ∧
    ((s.mode = 4 ∨ s.mode = 5 ∨ 300 < s.stc.phase ∨ s.pair.gotStitch = some s.num) → exec (.recordMissing log ctrls) s = .next s) ∧
    (s.mode ≠ 4 → s.mode ≠ 5 → s.stc.phase ≤ 300 → s.pair.gotStitch ≠ some s.num → ∃ u : State,
      exec (.recordMissing log ctrls) s = .next (if u.fld F.BRD_ST_MISS_RUN < 2 then u else if s.flag F.BRD_ST_HALIVE_IN then u.endFollow.brideDownSolo log ctrls
        else if s.pair.last.isSome then u.endFollow.partnerFault log ctrls else u.endFollow) ∧
      u.fld F.BRD_CNT_REC_MISS = satAdd (fldMax F.BRD_CNT_REC_MISS) (s.fld F.BRD_CNT_REC_MISS) 1 ∧ u.flag F.BRD_EVT_REC_MISS = true ∧
      u.fld F.BRD_ST_MISS_RUN = satAdd (fldMax F.BRD_ST_MISS_RUN) (s.fld F.BRD_ST_MISS_RUN) 1 ∧ u.stc.phase = 300 ∧ u = { s with regs := u.regs, stc := u.stc, eip := u.eip }) ∧
    (∃ u : State, u.flag F.BRD_EVT_FAULT_DETECT = true ∧ u.pair.last = none ∧ u.pair.prev = none ∧ u = { s with regs := u.regs, pair := u.pair, eip := u.eip } ∧
      (s.mode = 1 → s.flag F.BRD_ST_LINK_UP = true → s.partnerFault log ctrls = (u.takeOver s.standbyGrounds ctrls (fun s => (s.goSolo 5).uncover)).settleMode) ∧
      (s.mode = 1 → s.flag F.BRD_ST_LINK_UP = false → s.partnerFault log ctrls = (((u.goSolo 5).uncover).beginTaking s.standbyGrounds log ctrls).settleMode) ∧
      (s.mode = 2 → s.partnerFault log ctrls = ((u.uncover).beginTaking s.standbyGrounds log ctrls).settleMode))

/-- CLM_HANDOVER_GO, HANDOVER_REQUEST_SEND, HANDING_BRIDE_DOWN_TIMEOUT, HANDOVER_DRAIN_COMPLETE, RETHREAD_DRAIN_TIMEOUT and RETHREAD_FETCH_TIMEOUT (R99, R102, R103, R128 to R131). -/
def Obligations.HandingOver : Prop :=
  ∀ (s : State) (g us v x : Nat) (log : List StageEnt) (ctrls : List Ctrl) (p : BridePay), s.power.running = true → g < 256 →
    (bit v 31 = true → (s.pair.handing.isSome = true ∨ s.pair.handQueue ≠ []) → exec (.clmHandoverGo v) s = .next (s.setFld F.CLM_HANDOVER_STATUS 0x1307)) ∧
    (∀ u : State, u = s.softWrite .CLM_HANDOVER 0 0 v →
      (s.inLockSet .CLM_HANDOVER 0 0 = false → u.fld F.CLM_HANDOVER_GROUND = bits v F.CLM_HANDOVER_GROUND.hi F.CLM_HANDOVER_GROUND.lo) ∧
      (bit v 31 = false → exec (.clmHandoverGo v) s = .next u) ∧
      (bit v 31 = true → s.pair.handing = none → s.pair.handQueue = [] → u.fld F.CLM_HANDOVER_GROUND = g →
        ((s.mode ≠ 1 ∨ s.groundState g ≠ 1) → exec (.clmHandoverGo v) s = .next (u.endHandoverCmd 0x2306)) ∧
        (s.mode = 1 → s.groundState g = 1 → s.upGroups = [] → exec (.clmHandoverGo v) s = .next (u.endHandoverCmd 0x4308)) ∧
        (s.mode = 1 → s.groundState g = 1 → s.upGroups ≠ [] → ∃ t, exec (.clmHandoverGo v) s = .next t ∧ t.fld F.CLM_HANDOVER_BUSY = 1 ∧ t.pair.handing = some g ∧
          t.pair.asked = false ∧ t.groundState g = 3 ∧ t.dp = s.dp))) ∧
    (x < 2 ^ 16 → (s.endHandoverCmd x).fld F.CLM_HANDOVER_STATUS = x ∧ (s.endHandoverCmd x).fld F.CLM_HANDOVER_BUSY = 0 ∧ (s.endHandoverCmd x).fld F.CLM_HANDOVER_GO = 0) ∧
    ((s.pair.handing = none ∨ s.pair.asked = true ∨ s.upGroups = []) → exec .handoverRequestSend s = .next s) ∧
    (s.pair.handing = some g → (s.groundState g ≠ 3 ∨ s.mirrorsAcked g = false ∨ (s.mode = 3 ∧ s.pf0Busy g = true)) → exec .handoverRequestSend s = .next s) ∧
    (s.pair.handing = some g → s.pair.asked = false → s.groundState g = 3 → s.mirrorsAcked g = true → (s.mode = 3 → s.pf0Busy g = false) → s.upGroups.head? = some x →
      exec .handoverRequestSend s = .next ((s.sendOn x (.handover g 1 (s.claimOf g) (s.handEntries g))).modPair (fun p => { p with asked := true }))) ∧
    (s.groupUp x = true → p.vc = 0 → ∃ t, t = s.sendOn x p ∧ t.outbox = s.outbox ++ (if s.txOff then [] else [.bride x (s.wire x (nextSeq (s.group x).txSeq) p)]) ∧
      (t.group x).txSeq = nextSeq (s.group x).txSeq ∧ (t.group x).unacked = (s.group x).unacked ++ [(nextSeq (s.group x).txSeq, p)] ∧ t = { s with pair := t.pair, outbox := t.outbox }) ∧
    ((s.pair.handing = none ∨ s.upGroups ≠ [] ∨ (s.pair.handing = some g ∧ s.groundState g ≠ 3)) → exec .handingBrideDownTimeout s = .next s) ∧
    (s.pair.handing = some g → s.groundState g = 3 → s.upGroups = [] → ∃ u : State, exec .handingBrideDownTimeout s = .next u.endRun.settleMode ∧
      u.pair.handing = none ∧ u.pair.handQueue = [] ∧ (s.pair.handWhy = 1 → u.fld F.CLM_HANDOVER_STATUS = 0x4308 ∧ u.fld F.CLM_HANDOVER_BUSY = 0) ∧
      (s.claimOf g < s.moduleClaim g → u.groundState g = 5) ∧ (s.moduleClaim g ≤ s.claimOf g → s.net.held = [] → u.groundState g = 1)) ∧
    (s.mode = 3 → s.allHanded = true → ∃ t, exec (.handoverDrainComplete us) s = .next t ∧ s.rewound t 2 3 us) ∧
    ((s.mode ≠ 3 ∨ s.allHanded = false) → exec (.handoverDrainComplete us) s = .next s) ∧
    (s.mode ≠ 3 → exec (.rethreadDrainTimeout log ctrls) s = .next s) ∧
    (s.mode = 3 → ∃ u : State, exec (.rethreadDrainTimeout log ctrls) s =
        .next ((u.beginTaking (s.pair.gone.filter (fun g => decide (s.groundState g = 2))) log ctrls).settleMode).resumeHost ∧
      u.mode = 1 ∧ u.fld F.FWU_COMMIT_STATUS = 0x1205 ∧ u.pair.handing = none ∧ u.pair.gone = [] ∧ u.flag F.PKG_MODE_EV_RETHREAD_CANCEL = true ∧
      (s.net.held = [] → s.groundState g = 3 → u.groundState g = 1)) ∧
    (s.mode = 0 → s.fld F.PKG_MODE_WIND_KIND = 2 → ∃ t, exec .rethreadFetchTimeout s = .next t ∧ t.fld F.EP_ST_UP = 0 ∧ t = { s with regs := t.regs, eip := t.eip }) ∧
    ((s.mode ≠ 0 ∨ s.fld F.PKG_MODE_WIND_KIND ≠ 2) → exec .rethreadFetchTimeout s = .next s)

/-- HANDOVER_REQUEST_RECEIVE, HANDOVER_CLAIMED_RECEIVE, HANDOVER_DONE_RECEIVE, RESYNC_BACKLOG_EMPTY and NAMED_STITCH_REACHED (R95, R124, R128, R135). -/
def Obligations.ReceivingGrounds : Prop :=
  ∀ (s : State) (h : BrideHdr) (g claim us known n : Nat) (l : List RecEntry) (k : List Ctrl), s.power.running = true → g < 256 →
    (s.inOrder h = false → ∀ c ∈ [Instr.handoverRequestReceive h g claim l k, .handoverClaimedReceive h g claim, .handoverDoneReceive h g],
      exec c s = .next (s.unheard h).afterFrame) ∧
    (s.inOrder h = true →
      (s.groundState g ≠ 2 → exec (.handoverRequestReceive h g claim l k) s = .next (s.heard h).afterFrame) ∧
      (s.groundState g = 2 → ∀ s2 s3, s2 = (((s.heard h).setGroundState g 4).each l State.applyEntry) →
        s3 = (((s2.raiseAbove g (max claim (s2.knownClaim g)) false).activateGround g [] k).syncGrounds).admitWaiting →
        exec (.handoverRequestReceive h g claim l k) s = .next (s3.sendHandover g 2 (s3.claimOf g) []).afterFrame) ∧
      ((s.pair.handing ≠ some g ∨ s.groundState g ≠ 3) → exec (.handoverClaimedReceive h g claim) s = .next (s.heard h).afterFrame) ∧
      (s.pair.handing = some g → s.groundState g = 3 → ∃ u : State, exec (.handoverClaimedReceive h g claim) s = .next u.afterFrame ∧ u.groundState g = 2 ∧ u.pair.handing ≠ some g ∧
        (∃ a q r, Out.bride a (brideFrame 5 0 q r ((BridePay.handover g 3 claim []).motif a) s.headId (BridePay.handover g 3 claim []).payload) ∈ u.outbox) ∧
        (s.pair.handWhy = 3 → u.flag F.CLM_EVT_HANDBACK = true) ∧ (s.pair.handWhy ≠ 3 → u.flag F.CLM_EVT_HANDOVER = true) ∧
        (s.pair.handWhy = 1 → u.fld F.CLM_HANDOVER_STATUS = 0 ∧ u.fld F.CLM_HANDOVER_BUSY = 0 ∧ u.fld F.CLM_HANDOVER_GO = 0)) ∧
      (s.groundState g ≠ 1 → exec (.handoverDoneReceive h g) s = .next (s.heard h).afterFrame) ∧
      (s.groundState g = 1 → ∃ u : State, exec (.handoverDoneReceive h g) s = .next u.afterFrame ∧ u.groundState g = 1 ∧
        (s.homeOf g = s.headId → u.flag F.CLM_EVT_HANDBACK = true) ∧ (s.homeOf g ≠ s.headId → u.flag F.CLM_EVT_HANDOVER = true))) ∧
    (known < 2 ^ 63 → (s.raiseNumber g known).claimOf g = (known / 256 + 1) * 256 + s.headId ∧ known < (s.raiseNumber g known).claimOf g) ∧
    s.raiseAbove g known false = (s.raiseNumber g known).sendClaims g false ∧
    ((s.backlog ≠ 0 ∨ s.pair.named.isSome = true ∨ s.hasPartner = false) → exec (.resyncBacklogEmpty us) s = .next s) ∧
    (s.backlog = 0 → s.pair.named = none → s.hasPartner = true →
      (s.inStep 13 = true → s.partnerInService = true → ∃ t, exec (.resyncBacklogEmpty us) s = .next t ∧ t.pair.named = some (s.num + 2) ∧
        t.fld F.BRD_NAMED_STITCH = (s.num + 2) % 2 ^ 64 ∧ t.fld F.PKG_WIND_STEP = 14 ∧ t = { s with regs := t.regs, pair := t.pair }) ∧
      ((s.inStep 13 = false ∨ s.partnerInService = false) →
        (s.headId ≠ 0 → exec (.resyncBacklogEmpty us) s = .next s) ∧
        (s.headId = 0 → ((s.mode = 2 ∧ s.pair.rejoin = true ∧ s.fld F.PKG_MODE_PARTNER_MODE = 2) ∨
            (s.inStep 14 = true ∧ s.pair.assigned = true ∧ s.partnerInService = false ∧ s.partnerAssigned = true)) →
          ∃ t, exec (.resyncBacklogEmpty us) s = .next t ∧ t.pair.named = some (s.num + 2) ∧ t.fld F.BRD_NAMED_STITCH = (s.num + 2) % 2 ^ 64 ∧
            (∀ q n j, q.addr n j ≠ Reg.BRD_NAMED.addr 0 0 → t.reg q n j = s.reg q n j) ∧ t = { s with regs := t.regs, pair := t.pair }) ∧
        ((s.mode ≠ 2 ∨ s.pair.rejoin = false ∨ s.fld F.PKG_MODE_PARTNER_MODE ≠ 2) → (s.inStep 14 = false ∨ s.pair.assigned = false ∨ s.partnerInService = true ∨ s.partnerAssigned = false) →
          exec (.resyncBacklogEmpty us) s = .next s))) ∧
    (s.pair.named = none → exec (.namedStitchReached us) s = .next s) ∧
    (s.pair.named = some n → s.num < n → exec (.namedStitchReached us) s = .next s) ∧
    (s.pair.named = some n → n ≤ s.num →
      (s.mode = 2 → ∃ u : State, exec (.namedStitchReached us) s = .next (u.startNext 3).settleMode ∧ u.mode = 1 ∧ u.pair.named = none ∧ u.pair.rejoin = false ∧
        u.fld F.BRD_ST_STATE = 3 ∧ u.flag F.BRD_EVT_RESYNC_DONE = true ∧ u.fld F.PKG_MODE_STAGING = 0 ∧ (s.groundState g = 5 → u.groundState g = 2) ∧
        u.pair.handQueue = s.groundList.filter (fun x => decide (s.groundState x = 1) && s.homeOf x != s.headId)) ∧
      (s.inStep 14 = true → s.pair.assigned = true → ∃ u : State, exec (.namedStitchReached us) s = .next u.afterWinding ∧ u.mode = 1 ∧ u.pair.named = none ∧
        u.fld F.PKG_MODE_ADMIT = 1 ∧ u.fld F.PKG_MODE_STAGING = 0 ∧ u.fld F.PKG_WIND_TIME_TIME_US 0 13 = min us 0xFFFFFFFF) ∧
      (s.mode ≠ 2 → (s.inStep 14 = false ∨ s.pair.assigned = false) → ∃ t, exec (.namedStitchReached us) s = .next t ∧ t.pair.named = none ∧ t.fld F.BRD_ST_STATE = 3 ∧
        t.flag F.BRD_EVT_RESYNC_DONE = true ∧ t = { s with regs := t.regs, pair := t.pair, eip := t.eip }))

/-- MIRROR_LIMIT, OWN_LIMIT, the conditions of admission and its order (R142 to R145). -/
def Obligations.AdmissionLimits : Prop :=
  (∀ (s : State),
    ((s.mode = 1 ∨ s.mode = 3) → s.mirrorLimit = s.budget / 2 ∧ s.ownLimit = 256 * min (s.budget - s.budget / 2) s.dp.partnerLimit ∧
      s.ownLimit + 256 * s.mirrorLimit ≤ 256 * s.budget ∧ (s.dp.partnerLimit = 0 → s.ownLimit = 0)) ∧
    (s.mode = 2 → s.mirrorLimit = 0 ∧ s.ownLimit = 256 * s.budget - s.dp.held ∧ (s.dp.held ≤ 256 * s.budget → s.ownLimit + s.dp.held = 256 * s.budget)) ∧
    (s.mode ≠ 1 → s.mode ≠ 2 → s.mode ≠ 3 → s.ownLimit = 0 ∧ s.mirrorLimit = 0)) ∧
  (∀ (s : State) (c n : Nat), c < 4 → (s.mayAdmit c n = true ↔ s.fld F.PKG_MODE_ADMIT = 1 ∧ s.fld F.PKG_ADMIT_ST_BUDGET_HOLD = 0 ∧
    (s.fld F.MED_VAULT_ST_READY_A = 1 ∨ s.fld F.MED_VAULT_ST_READY_B = 1) ∧ s.dp.dirty + n ≤ s.ownLimit ∧ s.dp.unack + n ≤ 1048576 ∧
    (s.dp.unackC.getD c 0 + n ≤ 256 * s.resvMiB c ∨
      ((List.range 4).map (fun k => (s.dp.unackC.getD k 0 + if k = c then n else 0) - 256 * s.resvMiB k)).sum ≤ 256 * (4096 - ((List.range 4).map s.resvMiB).sum)))) ∧
  (∀ (s : State) (w : Write), s.firstWaitingWrite = some w → w ∈ s.dp.writes ∧ w.state = 0 ∧
    ∀ x ∈ s.dp.writes, x.state = 0 → w.cls < x.cls ∨ (w.cls = x.cls ∧ w.arrival ≤ x.arrival)) ∧
  (∀ (s : State), s.firstWaitingWrite = none → ∀ x ∈ s.dp.writes, x.state ≠ 0)

/-- WAITING_WRITE_ADMIT (R144, R145, R147, R248, R444). -/
def Obligations.WriteAdmission : Prop :=
  ∀ (s : State) (w : Write), s.power.running = true →
    (s.firstWaitingWrite = none → exec .waitingWriteAdmit s = .next s.syncAdmit) ∧
    (s.firstWaitingWrite = some w → s.canAdmit w = true → exec .waitingWriteAdmit s = .next ((s.admitWrite w).admitAll (s.dp.writes.length - 1)).syncAdmit) ∧
    (s.firstWaitingWrite = some w → s.canAdmit w = false → exec .waitingWriteAdmit s = .next (if s.stagingRoom w then s else s.setEvt F.MED_EVT_STAGING_FULL).syncAdmit) ∧
    (w.dealloc = false → ∃ t, t = s.admitWrite w ∧ t.dp.unack = s.dp.unack + w.count ∧
      (w.cls < s.dp.unackC.length → t.dp.unackC.getD w.cls 0 = s.dp.unackC.getD w.cls 0 + w.count) ∧ (∀ c, c ≠ w.cls → t.dp.unackC.getD c 0 = s.dp.unackC.getD c 0) ∧
      t.dp.writes = mapWhere (fun x => x.id == w.id) (fun x => { x with state := 1 }) s.dp.writes ∧
      t.dp.atoms.length = s.dp.atoms.length + w.count ∧ t.dp.atoms.take s.dp.atoms.length = s.dp.atoms ∧
      (∀ i < w.count, ∃ a, t.dp.atoms[s.dp.atoms.length + i]? = some a ∧ a.writeId = w.id ∧ a.atom = w.atom + i ∧ a.state = .reserved ∧ a.cls = w.cls ∧ a.ground = w.ground ∧ a.placed = false) ∧
      t.dp.copies = s.dp.copies ∧ t.med = s.med) ∧
    (s.syncAdmit.dp = s.dp ∧ s.syncAdmit.med = s.med ∧ s.syncAdmit.outbox = s.outbox)

/-- ATOM_LAND, STAGING_APPEND, STAGING_APPEND_DONE and STAGING_BLOCK_ERASE (R91, R92, R147, R248). -/
def Obligations.AtomStates : Prop :=
  ∀ (s : State) (w : Write) (a : BufAtom) (n : Namespace) (id i : Nat) (data pi : Bytes) (dis : List Nat) (e : StageEnt) (b : BlockId), s.power.running = true →
    (data.length ≠ 4096 → exec (.atomLand id i data pi) s = .next s) ∧
    (data.length = 4096 → ∀ u : State, u = s.modEp (fun e => { e with reads := e.reads.filter (fun r => r.2 != HostReadWhy.atom id i), todo := e.todo.filter (fun r => r != HostReadWhy.atom id i) }) →
      exec (.atomLand id i data pi) s =
        .next (if s.dp.atoms.any (fun a => a.writeId == id && a.atom == i && !a.placed && (a.state == AtomState.reserved || a.state == AtomState.landing)) then u.placeAtom id i data pi
          else u).syncDrain.resumePf0) ∧
    (s.write? id = some w → s.ns w.ns = some n →
      (n.pi = true → (piOf pi).1 ≠ crc64 data → s.placeAtom id i data pi = s.failWrite id 0x5402) ∧
      (n.pi = true → (piOf pi).1 = crc64 data → (piOf pi).2.2 ≠ i % 2 ^ 48 → s.placeAtom id i data pi = s.failWrite id 0x5403) ∧
      ((n.pi = false ∨ ((piOf pi).1 = crc64 data ∧ (piOf pi).2.2 = i % 2 ^ 48)) → ∃ u : State, s.placeAtom id i data pi = u.settleWrites ∧
        (∀ x ∈ u.dp.atoms, x.writeId = id → x.atom = i → x.data = data ∧ x.placed = true ∧ x.state = .landing))) ∧
    (∀ x ∈ s.dp.atoms, x.placed = true → x.state = .landing →
      (if s.mode = 2 ∧ x.staged = false then x else { x with state := .landed }) ∈ s.landPlaced.dp.atoms) ∧
    (s.canComplete w = true ↔ ((s.meetsRule w = true ∨ (w.state = 1 ∧ w.met = true)) ∧ s.orderOk w = true)) ∧
    (s.meetsRule w = true ↔ w.state = 1 ∧ 0 < w.count ∧ (s.atomsOf w.id).length = w.count ∧ ∀ x ∈ s.atomsOf w.id, x.state = .landed ∧ s.atomSafe w x = true) ∧
    (s.mode = 2 → s.atomSafe w a = a.staged) ∧ ((s.mode = 1 ∨ s.mode = 3) → w.twin = none → s.atomSafe w a = s.frameAcked a.motif a.mseq) ∧
    (∃ u : State, s.completeWrite w = (if w.fua then u.settleDurable else u.ackWrite w) ∧
      u.dp.atoms = mapWhere (fun x => x.writeId == w.id) (fun x => { x with state := .complete, done := s.num }) s.dp.atoms) ∧
    exec (.stagingAppend id i dis) s = .next (s.under (dis.map (fun l => Mishap.lane l)) (fun s => s.stageAtom id i)) ∧
    ((s.write? id = none ∨ (s.atomsOf id).find? (fun a => a.atom == i) = none) → s.stageAtom id i = s) ∧
    (s.write? id = some w → (s.atomsOf id).find? (fun a => a.atom == i) = some a →
      (s.stageable id i a = false → s.stageAtom id i = s) ∧
      (s.stageable id i a = true → ∀ u x, s.entryOf w a s.med.entrySeq false = (u, .ok x) → s.stageAtom id i = u.appendEntry a x)) ∧
    ((a.dealloc = true ∨ ∀ d, (s.ns a.ns).bind (fun n => s.domain n.domain) = some d → d.enc = false) → ∃ x, s.entryOf w a s.med.entrySeq false = (s, .ok x) ∧ x.ground = a.ground ∧
      x.seq = s.med.entrySeq ∧ x.nsid = a.ns ∧ x.atom = a.atom ∧ x.writeId = w.id ∧ x.atoms = w.count ∧ x.data = a.data ∧ x.stitch = s.num ∧ x.claim = s.claimOf a.ground ∧ x.enc = false ∧
      x.dealloc = a.dealloc ∧ x.obsolete = false) ∧
    (s.twoModules a.ground = none → s.appendEntry a e = s) ∧
    (∀ x y v u p q, s.twoModules a.ground = some (x, y) → s.sysPlace 3 a.ground a.motif x = (v, some p) → v.sysPlace 3 a.ground a.motif y = (u, some q) →
      ∃ (t : State) (c d : BobCmd), s.appendEntry a e = (t.sendCmd c).sendCmd d ∧ t.med.staging = u.med.staging ++ [{ e with pages := [p, q] }] ∧ t.med.entrySeq = u.med.entrySeq + 1 ∧
        c.mod = p.1.module ∧ d.mod = q.1.module ∧ c.opcode = 0x11 ∧ d.opcode = 0x11 ∧ c.why = .staging e.seq 0 ∧ d.why = .staging e.seq 1) ∧
    (s.med.staging.find? (fun e => e.writeId == id && e.atom == i && !e.obsolete) = none → exec (.stagingAppendDone id i) s = .next s) ∧
    (s.med.staging.find? (fun e => e.writeId == id && e.atom == i && !e.obsolete) = some e →
      ((0 ∉ e.copies ∨ 1 ∉ e.copies) → exec (.stagingAppendDone id i) s = .next s) ∧
      (0 ∈ e.copies → 1 ∈ e.copies → exec (.stagingAppendDone id i) s = .next ((s.modAtom id i (fun a => { a with staged := true })).settleWrites.runWaiting []))) ∧
    ((s.descOf b).use = 3 → (∀ e ∈ s.entriesIn b, e.obsolete = true) → s.owns (s.descOf b).ground = true →
        exec (.stagingBlockErase b) s = .next ((s.modMed (fun k => { k with sysNext := k.sysNext.filter (fun p => p.1 != b) })).sendCmd
          (BobCmd.onBlock 0x12 3 (s.descOf b).ground b .stagingErase))) ∧
    (((s.descOf b).use ≠ 3 ∨ (∃ e ∈ s.entriesIn b, e.obsolete = false) ∨ s.owns (s.descOf b).ground = false) → exec (.stagingBlockErase b) s = .next s)

/-- MAP_UPDATE_DURABLE, CHECKPOINT_PASS_END, NONCE_BLOCK_RESERVE, FLUSH_AGE_EXPIRY, STRIPE_PROGRAM_DONE and STRIPE_PAD_AGE (R158, R161, R218, R239, R259, R261). -/
def Obligations.JournalAndStripes : Prop :=
  ∀ (s : State) (m g id st : Nat) (bad : BadPages) (dis : List Nat) (x : Txn) (fl : Bool) (k : CkptJob), s.power.running = true →
    (s.txn id = none → exec (.mapUpdateDurable id fl) s = .next s) ∧
    (s.txn id = some x →
      (x.sent = true → x.durable = false → s.firstUndurable x = true →
        ((fl = true ∧ x.span.2 ≤ s.flushed x.ground x.motif) ∨ (x.mirrored = true ∧ s.journalAcked id = true)) →
          exec (.mapUpdateDurable id fl) s = .next (s.makeDurable x).serveLanes.settleBands.settleWrites) ∧
      ((x.sent = false ∨ x.durable = true ∨ s.firstUndurable x = false ∨
        ((fl = false ∨ s.flushed x.ground x.motif < x.span.2) ∧ (x.mirrored = false ∨ s.journalAcked id = false))) → exec (.mapUpdateDurable id fl) s = .next s) ∧
      (∃ u : State, s.makeDurable x = (u.txnEnded x).pruneFps.syncFp ∧ { x with durable := true } ∈ u.med.txns ∧ u.med.maps = (if x.early then s.med.maps else s.med.maps.applyTxn x.late))) ∧
    (s.inService = true → s.hasMotif m = true → Sparse.get 0 s.med.passes m + max 200000 (s.fld F.MED_CKPT_CTL_PASS m) ≤ s.num →
      exec (.checkpointPassEnd m) s = .next (((s.modMed (fun d => { d with passes := Sparse.set 0 d.passes m s.num })).each s.ownedGrounds
        (fun s g => s.startCkpt m g)).settleSystem.syncMedia)) ∧
    ((s.inService = false ∨ s.hasMotif m = false ∨ s.num < Sparse.get 0 s.med.passes m + max 200000 (s.fld F.MED_CKPT_CTL_PASS m)) → exec (.checkpointPassEnd m) s = .next s) ∧
    (∃ j ∈ (s.startCkpt m g).med.ckpts, j.motif = m ∧ j.ground = g) ∧
    ((s.endCkpt k).med.ckpt = (s.med.txns.filter (fun t => k.txns.contains t.id)).foldl (fun c t => c.applyTxn t.recs) s.med.ckpt ∧
      (s.endCkpt k).med.txns = s.med.txns.filter (fun t => !k.txns.contains t.id) ∧ ((s.endCkpt k).log k.ground k.motif).start = k.start ∧
      ∀ j ∈ (s.endCkpt k).med.ckpts, ¬ (j.motif = k.motif ∧ j.ground = k.ground)) ∧
    (s.fuses.caps.optE = true → s.hasMotif m = true → g < 8 → 0xC0000000 ≤ s.genCounter m g % 2 ^ 32 → s.genCounter m g / 2 ^ 32 + 1 = s.fld F.CIP_GEN_HWM_BLOCK m g →
      ∃ t, exec (.nonceBlockReserve m g) s = .next t ∧ t.fld F.CIP_GEN_HWM_BLOCK m g = (s.fld F.CIP_GEN_HWM_BLOCK m g + 1) % 2 ^ 48 ∧
        t.mramNat (0x100 + 8 * genKey m g) 8 = s.fld F.CIP_GEN_HWM_BLOCK m g + 1 ∧ t.med.txns.length = s.med.txns.length + s.ownedGrounds.length ∧ t.cip = s.cip) ∧
    ((s.fuses.caps.optE = false ∨ s.hasMotif m = false ∨ 8 ≤ g ∨ s.genCounter m g % 2 ^ 32 < 0xC0000000 ∨ s.genCounter m g / 2 ^ 32 + 1 ≠ s.fld F.CIP_GEN_HWM_BLOCK m g) →
      exec (.nonceBlockReserve m g) s = .next s) ∧
    exec (.flushAgeExpiry m bad dis) s = .next (s.under (bad ++ dis.map (fun l => Mishap.lane l)) (fun s =>
      (State.each s.retryPacking (s.retryPacking.ownedGrounds.filter (fun g => s.retryPacking.flushDue m g)) (fun s g => s.each (s.waitingChunks m g) (fun s c => match s.ns c.1 with
        | some n => s.flushChunk m n c.2 bad | none => s))).settleBands.syncFp.syncFlush)) ∧
    ((s.med.stripes.find? (fun j => j.band == id && j.stripe == st) = none ∨ s.med.maps.band id = none) → exec (.stripeProgramDone id st) s = .next s) ∧
    (∀ j b, s.med.stripes.find? (fun j => j.band == id && j.stripe == st) = some j → s.med.maps.band id = some b →
      ((j.left ≠ 0 ∨ j.failed = true) → exec (.stripeProgramDone id st) s = .next s) ∧
      (j.left = 0 → j.failed = false → exec (.stripeProgramDone id st) s = .next (State.settleBands (State.stripeProgrammed
        ((s.modMed (fun d => { d with stripes := d.stripes.filter (fun x => x != j) })).journal b.ground b.motif [.stripeDone id st]) id st)))) ∧
    (∀ c, (s.stream g m c = none ∨ ∃ e, s.stream g m c = some e ∧ s.med.maps.band e.band = none) → exec (.stripePadAge g m c) s = .next s) ∧
    (∀ e b c, s.stream g m c = some e → s.med.maps.band e.band = some b →
      ((e.fill = [] ∨ s.num < e.since + max 1 (s.fld F.ECU_CTL_PAD_AGE m)) → exec (.stripePadAge g m c) s = .next s) ∧
      (e.fill ≠ [] → e.since + max 1 (s.fld F.ECU_CTL_PAD_AGE m) ≤ s.num → exec (.stripePadAge g m c) s = .next
        ((((s.countPad m (ceilDiv (b.stripeBytes - e.fill.length) 16384)).putStream { e with fill := e.fill ++ zeros (b.stripeBytes - e.fill.length) }).emitStripes g m c 1).settleBands)))

/-- KEK_LOAD, KEYS_DONE, KEY_SLOT_LOAD, KEY_SLOT_CLEAR and KEY_SLOT_ZEROISE (R221 to R224). -/
def Obligations.KeySlots : Prop :=
  ∀ (s : State) (v n x : Nat), s.power.running = true → n < 4096 →
    (s.fuses.caps.optE = false → ∀ c ∈ [Instr.kekLoad v, .keysDone v, .keySlotLoad v, .keySlotClear v], exec c s = .next s) ∧
    (s.fuses.caps.optE = true → ∀ u, u = s.softWrite .CIP_KEK_CTL 0 0 v →
      (∀ c ∈ [Instr.kekLoad v, .keysDone v], exec c s = .next (if u.flag F.CIP_KEK_CTL_LOAD ∧ s.flag F.CIP_SLOT_CMD_BUSY = false then u.loadKek else u)) ∧
      (u.flag F.CIP_KEK_CTL_KEYS_DONE = (bit v 2 || s.flag F.CIP_KEK_CTL_KEYS_DONE)) ∧ (u.flag F.CIP_KEK_CTL_LOAD = (bit v 0 || s.flag F.CIP_KEK_CTL_LOAD)) ∧ u.cip = s.cip) ∧
    (∃ t, t = s.loadKek ∧ t.cip = { s.cip with kek := some ((List.range 4).flatMap (fun i => leBytes 8 (s.fld F.CIP_KEK_KEY 0 i))) } ∧ (∀ i < 4, t.fld F.CIP_KEK_KEY 0 i = 0) ∧
      t.fld F.CIP_KEK_CTL_VALID = 1 ∧ t.fld F.CIP_KEK_CTL_LOAD = 0 ∧ t.fld F.CIP_KEK_CTL_GEN = satAdd (fldMax F.CIP_KEK_CTL_GEN) (s.fld F.CIP_KEK_CTL_GEN) 1 ∧
      t.fld F.CIP_KEK_CTL_KEYS_DONE = s.fld F.CIP_KEK_CTL_KEYS_DONE ∧ t = { s with regs := t.regs, cip := t.cip }) ∧
    (s.fuses.caps.optE = true → s.flag F.CIP_SLOT_CMD_BUSY = true → ∀ c ∈ [Instr.keySlotLoad v, .keySlotClear v], ∃ t, exec c s = .next t ∧ t.cip = s.cip ∧
      (∀ q k j, q.addr k j ≠ Reg.PRK_LOCK_CNT.addr 0 0 → t.reg q k j = s.reg q k j)) ∧
    (s.fuses.caps.optE = true → s.flag F.CIP_SLOT_CMD_BUSY = false → ∀ u, u = s.softWrite .CIP_SLOT_CMD 0 0 v → ∀ c ∈ [Instr.keySlotLoad v, .keySlotClear v],
      (u.flag F.CIP_SLOT_CMD_GO = false → exec c s = .next u) ∧
      (u.flag F.CIP_SLOT_CMD_GO = true → u.fld F.CIP_SLOT_CMD_OP = 1 → exec c s = .next (u.loadSlot (u.fld F.CIP_SLOT_CMD_SLOT))) ∧
      (u.flag F.CIP_SLOT_CMD_GO = true → u.fld F.CIP_SLOT_CMD_OP = 2 → exec c s = .next (u.clearSlot (u.fld F.CIP_SLOT_CMD_SLOT))) ∧
      (u.flag F.CIP_SLOT_CMD_GO = true → u.fld F.CIP_SLOT_CMD_OP ≠ 1 → u.fld F.CIP_SLOT_CMD_OP ≠ 2 → ∃ k, exec c s = .next (u.tookFree.endSlotCmd k))) ∧
    (∃ t, t = s.endSlotCmd x ∧ t.fld F.CIP_SLOT_CMD_STATUS = x % 0x8000 ∧ t.fld F.CIP_SLOT_CMD_GO = 0 ∧ t.fld F.CIP_SLOT_CMD_BUSY = 0 ∧ (∀ i < 5, t.fld F.CIP_WRAP_DATA 0 i = 0) ∧
      t.cip.keys = s.cip.keys ∧ t.fld F.CIP_KEK_CTL_LOAD = 0 ∧ (s.flag F.CIP_KEK_CTL_LOAD = false → t.cip = s.cip) ∧ (∀ k < 4096, t.fld F.CIP_SLOT_ST_STATE 0 k = s.fld F.CIP_SLOT_ST_STATE 0 k) ∧
      t = { s with regs := t.regs, cip := t.cip }) ∧
    (s.fld F.CIP_SLOT_ST_STATE 0 n ≠ 0 → s.loadSlot n = s.endSlotCmd 0x2705) ∧
    (s.fld F.CIP_SLOT_ST_STATE 0 n = 0 → s.cip.kek = none → s.loadSlot n = s.endSlotCmd 0x2706) ∧
    (∀ kek u, s.fld F.CIP_SLOT_ST_STATE 0 n = 0 → s.cip.kek = some kek → u = aesKeyUnwrap kek ((List.range 5).flatMap (fun i => leBytes 8 (s.fld F.CIP_WRAP_DATA 0 i))) →
      (u = none → s.loadSlot n = (s.setEvt F.CIP_EVT_UNWRAP_FAIL).endSlotCmd 0x5704) ∧
      (∀ key, u = some key → ∃ w : State, s.loadSlot n = w.endSlotCmd 0 ∧ w.slotLoaded n = true ∧ w.slotKey n = key ∧
        w.fld F.CIP_SLOT_ST_KIND 0 n = s.fld F.CIP_SLOT_CMD_KIND % 2 ∧ (∀ k, k ≠ n → w.slotKey k = s.slotKey k) ∧ w.cip.kek = s.cip.kek)) ∧
    (s.fld F.CIP_SLOT_ST_STATE 0 n = 1 → ∃ t, t = s.clearSlot n ∧ t.fld F.CIP_SLOT_ST_STATE 0 n = 2 ∧ t.fld F.CIP_SLOT_CMD_BUSY = 1 ∧ t = { s with regs := t.regs }) ∧
    (s.fld F.CIP_SLOT_ST_STATE 0 n ≠ 1 → ∃ k, s.clearSlot n = s.tookFree.endSlotCmd k) ∧
    (s.fld F.CIP_SLOT_ST_STATE 0 n = 2 → s.fld F.CIP_SLOT_ST_USE 0 n = 0 → ∃ t, exec (.keySlotZeroise n) s = .next t ∧ t.fld F.CIP_SLOT_ST_STATE 0 n = 0 ∧ t.slotKey n = [] ∧
      t.fld F.CIP_SLOT_ST_KCV 0 n = 0 ∧ (∀ k, k ≠ n → t.slotKey k = s.slotKey k) ∧
      (s.flag F.CIP_SLOT_CMD_BUSY = true → s.fld F.CIP_SLOT_CMD_SLOT = n → t.fld F.CIP_SLOT_CMD_BUSY = 0 ∧ t.fld F.CIP_SLOT_CMD_STATUS = 0)) ∧
    ((s.fld F.CIP_SLOT_ST_STATE 0 n ≠ 2 ∨ s.fld F.CIP_SLOT_ST_USE 0 n ≠ 0) → exec (.keySlotZeroise n) s = .next s)

/-- LANE_KAT_START, LANE_KAT_COMPLETE and the fencing of a lane (R213, R214). -/
def Obligations.LaneTests : Prop :=
  ∀ (s : State) (m lane v w : Nat) (high b : Bool), s.power.running = true → lane < 96 → w = (if high then v % 2 ^ 32 * 2 ^ 64 else v % 2 ^ 64) →
    (s.fuses.caps.optE = true → s.hasMotif m = true → ∃ t, exec (.laneKatStart m high v) s = .next t ∧
        (96 * m + lane ∈ t.cip.tests ↔ 96 * m + lane ∈ s.cip.tests ∨ (bit w lane = true ∧ bit (s.fenced m) lane = true ∧ Sparse.get 0 s.cip.fences (96 * m + lane) < 3)) ∧
        (∀ k ∈ s.cip.tests, k ∈ t.cip.tests) ∧ (∀ k ∈ t.cip.tests, k ∈ s.cip.tests ∨ k / 96 = m) ∧ t = { s with cip := { s.cip with tests := t.cip.tests } }) ∧
    ((s.fuses.caps.optE = false ∨ s.hasMotif m = false) → exec (.laneKatStart m high v) s = .next s) ∧
    (96 * m + lane ∈ s.cip.tests → ∃ u : State, exec (.laneKatComplete m lane true) s = .next u.serveLanes.settleBands.settleWrites.shipAll ∧ bit (u.fenced m) lane = false ∧
      96 * m + lane ∉ u.cip.tests ∧ (∀ n < 96, n ≠ lane → bit (u.fenced m) n = bit (s.fenced m) n) ∧ u = { s with regs := u.regs, cip := u.cip }) ∧
    (96 * m + lane ∈ s.cip.tests → exec (.laneKatComplete m lane false) s = .next (s.modCip (fun c => { c with tests := c.tests.filter (fun x => x != 96 * m + lane) }))) ∧
    (96 * m + lane ∉ s.cip.tests → exec (.laneKatComplete m lane b) s = .next s) ∧
    (bit ((s.fenceLane m lane).fenced m) lane = true ∧ (∀ n < 96, n ≠ lane → bit ((s.fenceLane m lane).fenced m) n = bit (s.fenced m) n) ∧
      (s.fenceLane m lane).flag F.CIP_EVT_CHECK_FAIL m = true ∧ Sparse.get 0 (s.fenceLane m lane).cip.fences (96 * m + lane) = Sparse.get 0 s.cip.fences (96 * m + lane) + 1)

/-- CMP_JOB_POST, CMP_JOB_COMPRESS, CMP_JOB_DECOMPRESS and ENGINE_CONTEXT_FREED (R187, R192, R193). -/
def Obligations.CompressionJobs : Prop :=
  ∀ (s : State) (m idx v f e out : Nat) (dig : Bool) (k : EngKind) (j : EngJob), s.power.running = true →
    (s.hasMotif m = true → exec (.cmpJobPost m v) s = .next ((s.softWrite .MTF_CJQ_TAIL m 0 v).serveRing false m)) ∧
    (s.hasMotif m = false → exec (.cmpJobPost m v) s = .next s) ∧
    (s.ringEn dig m = false → s.serveRing dig m = s) ∧
    s.takeEntries dig m (s.ringTail dig m) (f + 1) = s ∧
    (idx ≠ s.ringTail dig m → s.ringKnown dig m idx = true → s.takeEntries dig m idx (f + 1) = s.takeEntries dig m ((idx + 1) % s.ringSize dig m) f) ∧
    (∀ u d, idx ≠ s.ringTail dig m → s.ringKnown dig m idx = false → s.engineRead 0 (s.descAddr dig m idx) (if dig then 64 else 32) = (u, .ok d) →
      ∃ (w : State) (x : EngJob), s.takeEntries dig m idx (f + 1) = w.takeEntries dig m ((idx + 1) % s.ringSize dig m) f ∧ x ∈ w.eng.jobs ∧ x.motif = m ∧ x.idx = idx ∧ x.desc = d ∧
        x.kind = descKind dig d ∧ x.cls = descClass dig d ∧ x.done = false ∧ (x.unit.isSome = true ↔ u.freeUnits x.kind m x.stages ≠ [])) ∧
    (∀ u, idx ≠ s.ringTail dig m → s.ringKnown dig m idx = false → s.engineRead 0 (s.descAddr dig m idx) (if dig then 64 else 32) = (u, .error e) →
      s.takeEntries dig m idx (f + 1) = (u.badEntry dig m idx e).takeEntries dig m ((idx + 1) % s.ringSize dig m) f) ∧
    (s.runningJob false m idx = none → exec (.cmpJobCompress m idx) s = .next s ∧ exec (.cmpJobDecompress m idx) s = .next s) ∧
    (s.runningJob false m idx = some j →
      (j.kind = .cmp → exec (.cmpJobCompress m idx) s = .next (s.runCompress j) ∧ exec (.cmpJobDecompress m idx) s = .next s) ∧
      (j.kind = .dcmp → exec (.cmpJobDecompress m idx) s = .next (s.runDecompress j) ∧ exec (.cmpJobCompress m idx) s = .next s)) ∧
    (cmpDescOk j.desc = false → s.runCompress j = s.endCmp j 0x2506 0 ∧ s.runDecompress j = s.endCmp j 0x2506 0) ∧
    (cmpDescOk j.desc = true →
      (s.fuses.caps.optC = false → s.runCompress j = s.endCmp j 0x2F00 0) ∧
      (s.fuses.caps.optC = true → s.reachesAll (.engine j.cls) true (leAt j.desc 0x10 8) (leAt j.desc 4 2 + 16) = false → s.runCompress j = s.endCmp j 0x2F01 0) ∧
      (∀ u x c, s.fuses.caps.optC = true → s.reachesAll (.engine j.cls) true (leAt j.desc 0x10 8) (leAt j.desc 4 2 + 16) = true →
        s.engineRead j.cls (leAt j.desc 8 8) (leAt j.desc 4 2) = (u, .ok x) →
        c = (if bit (byteAt j.desc 1) 2 then { cmpSettings j.ctl with fixStride := some (leAt j.desc 2 2), fixPred := bits (byteAt j.desc 1) 5 3 } else cmpSettings j.ctl) →
        s.runCompress j = ((u.countChunk j.motif (leAt j.desc 4 2) (compressChunk c x).1.length (compressChunk c x).2).store (leAt j.desc 0x10 8) (compressChunk c x).1).endCmp j 0
          (compressChunk c x).1.length) ∧
      (s.reachesAll (.engine j.cls) true (leAt j.desc 0x10 8) (leAt j.desc 4 2 + 16) = false → s.runDecompress j = s.endCmp j 0x2F01 0) ∧
      (∀ u b, s.reachesAll (.engine j.cls) true (leAt j.desc 0x10 8) (leAt j.desc 4 2 + 16) = true → s.engineRead j.cls (leAt j.desc 8 8) (leAt j.desc 6 2) = (u, .ok b) →
        (∀ x, decompressBody b (leAt j.desc 4 2) = .ok x → s.runDecompress j = ((u.bump F.MTF_DCMP_CNT_CHUNKS 1 j.motif).store (leAt j.desc 0x10 8) x).endCmp j 0 x.length) ∧
        (∀ w, decompressBody b (leAt j.desc 4 2) = .error w → s.runDecompress j = (u.dcmpFail j.motif w).endCmp j w 0))) ∧
    s.endCmp j e out = ((s.engineWrite j.cls (j.addr + 0x18) (leBytes 2 e ++ bytesOf [1, 0] ++ leBytes 4 out)).1.endJob j).syncEng j.motif ∧
    ((∀ x ∈ (s.endJob j).eng.jobs, x.seq = j.seq → x.done = true) ∧ (s.endJob j).eng.jobs.length = s.eng.jobs.length ∧
      (j.kind ≠ .dig → s.eng.ended = [] → j.idx = s.ringHead false j.motif →
        (s.endJob j).ringHead false j.motif = (s.ringHead false j.motif + 1) % s.ringSize false j.motif % 4096 ∧ (s.endJob j).eng.ended = []) ∧
      (j.kind ≠ .dig → s.flag F.MTF_CJQ_CTL_IRQ_EN j.motif = true → s.hasMotif j.motif = true → s.fld F.MTF_CJQ_CTL_HART j.motif ≤ 8 →
        (j.motif, s.fld F.MTF_CJQ_CTL_HART j.motif, 0, 0x0C0) ∈ (s.endJob j).eip)) ∧
    ((s.jobsOf k m).find? (fun j => j.done && j.unit.isSome) = some j → ∀ u, u = s.modEng (fun e => { e with jobs := e.jobs.filter (fun x => x.seq != j.seq) }) →
      exec (.engineContextFreed k m) s = .next ((u.serveContexts k m (u.waitCount k m)).syncEng m).settleBands.settleWrites.shipAll) ∧
    ((s.jobsOf k m).find? (fun j => j.done && j.unit.isSome) = none → exec (.engineContextFreed k m) s = .next s)

/-- DIG_JOB_POST, DIG_JOB_DIGEST, DIG_JOB_MEASURE_DATA, DIG_JOB_MEASURE_VALUE and DIG_RES_RELEASE (R202 to R208). -/
def Obligations.DigestJobs : Prop :=
  ∀ (s : State) (m idx v : Nat), s.power.running = true →
    (s.hasMotif m = true → exec (.digJobPost m v) s = .next ((s.softWrite .DIG_JQ_TAIL m 0 v).serveRing true m)) ∧
    (s.hasMotif m = false → exec (.digJobPost m v) s = .next s ∧ exec (.digResRelease m) s = .next s) ∧
    (s.runningJob true m idx = none → ∀ c ∈ [Instr.digJobDigest m idx, .digJobMeasureData m idx, .digJobMeasureValue m idx], exec c s = .next s) ∧
    (∀ j d, s.runningJob true m idx = some j → d = j.desc →
      (byteAt d 0 ≠ 2 → byteAt d 0 ≠ 3 → exec (.digJobDigest m idx) s = .next (s.runDigest j d) ∧ exec (.digJobMeasureData m idx) s = .next s ∧
        exec (.digJobMeasureValue m idx) s = .next s) ∧
      (byteAt d 0 = 2 → exec (.digJobDigest m idx) s = .next s ∧ exec (.digJobMeasureValue m idx) s = .next s ∧
        exec (.digJobMeasureData m idx) s = .next (s.measureWith j d sha384)) ∧
      (byteAt d 0 = 3 → exec (.digJobDigest m idx) s = .next s ∧ exec (.digJobMeasureData m idx) s = .next s ∧
        exec (.digJobMeasureValue m idx) s = .next (s.measureWith j d (fun x => x)))) ∧
    (∀ (j : EngJob) (d : Bytes) (f : Bytes → Bytes),
      (digDescOk j.motif d = false → s.runDigest j d = s.refuseDig j 0x2603 ∧ s.measureWith j d f = s.refuseDig j 0x2603) ∧
      (digDescOk j.motif d = true → byteAt d 3 < 4 → s.measureWith j d f = s.refuseDig j 0x2604) ∧
      (digDescOk j.motif d = true → 4 ≤ byteAt d 3 → j.busy = true → s.measureWith j d f = s.refuseDig j 0x1601) ∧
      (∀ u x, digDescOk j.motif d = true → s.digSource j d (min (leAt d 8 8) (leAt d 0x10 8)) = (u, .ok x) →
        (leAt d 0x10 8 < leAt d 8 8 → 4 ≤ byteAt d 3 → j.busy = false → s.measureWith j d f = (u.bump F.DIG_CNT_SHORT 1 j.motif).failDig j 0x5602 4) ∧
        (leAt d 0x10 8 = leAt d 8 8 → 4 ≤ byteAt d 3 → j.busy = false → s.measureWith j d f = (u.extendMr (byteAt d 3) (f x)).endDig j 1 (leAt d 8 8)) ∧
        (leAt d 0x10 8 < leAt d 8 8 → bit (byteAt d 1) 4 = false → s.runDigest j d = (u.bump F.DIG_CNT_SHORT 1 j.motif).failDig j 0x5602 4) ∧
        (leAt d 0x10 8 = leAt d 8 8 → bit (byteAt d 1) 4 = false → bit (byteAt d 1) 5 = true → ∀ a, a = bits (byteAt d 1) 1 0 →
          s.runDigest j d = u.deliverDigest j d ((algRun a (algInit a) (x ++ algPad a (leAt d 8 8))).take (algLen a)) 1 (leAt d 8 8)))) ∧
    (∀ (r : Nat) (x : Bytes), r < 16 → (∀ i < 6, (s.extendMr r x).fld F.MSR_MR_VALUE 0 (6 * r + i) = leAt (sha384 (s.mrValue r ++ x)) (8 * i) 8 % 2 ^ 64) ∧
      (∀ q < 16, q ≠ r → (s.extendMr r x).mrValue q = s.mrValue q) ∧
      (s.extendMr r x).fld F.MSR_CNT_EXTENDS 0 r = satAdd (fldMax F.MSR_CNT_EXTENDS) (s.fld F.MSR_CNT_EXTENDS 0 r) 1) ∧
    (s.hasMotif m = true → ∃ t, exec (.digResRelease m) s = .next t ∧ t.fld F.DIG_RES_ST_HELD m = 0 ∧ t.fld F.DIG_RES_ST_LEN_W m = s.fld F.DIG_RES_ST_LEN_W m ∧
      (∀ i < 8, t.fld F.DIG_RES_DATA m i = s.fld F.DIG_RES_DATA m i) ∧ t = { s with regs := t.regs })

/-- GC_COLLECT_START, GC_COPY_COMPLETE, BAND_ERASE and BAND_ERASE_COMPLETE (R168, R236, R241, R242). -/
def Obligations.BandCollection : Prop :=
  ∀ (s : State) (m n k st : Nat) (bad : BadPages) (b : Band) (x : Txn), s.power.running = true →
    (∀ c, c ∈ s.victims m ↔ c ∈ s.med.maps.bands ∧ c.motif = m ∧ c.state = 2 ∧ s.owns c.ground = true) ∧
    (∀ l, l = s.med.maps.bands.filter (fun b => b.motif == m && b.state == 2 && s.owns b.ground) →
      s.victims m = l.filter (fun b => b.refresh) ++ l.filter (fun b => !b.refresh && b.wear) ++ sortBy s.med.maps.liveLess (l.filter (fun b => !b.refresh && !b.wear))) ∧
    (s.collect m k bad = (s.each ((s.victims m).take (min k (max 1 (s.fld F.MED_GC_CTL_MAX_ACTIVE m) - s.gcActive m)))
      (fun s b => match s.med.maps.band b.num with | some x => if x.state = 2 then s.collectBand x bad else s | none => s)).settleBands) ∧
    ((s.inService = false ∨ s.poolLow m = false) → exec (.gcCollectStart m bad) s = .next s) ∧
    (s.inService = true → s.poolLow m = true → exec (.gcCollectStart m bad) s = .next (s.under bad (fun s => s.collect m (s.victims m).length bad))) ∧
    ((s.med.maps.band n = none ∨ s.relocOf n = none) → exec (.gcCopyComplete n) s = .next s) ∧
    (s.med.maps.band n = some b → s.relocOf n = some x →
      (b.state = 3 → s.uncopied b x ≠ [] → exec (.gcCopyComplete n) s = .next (s.each (s.uncopied b x) (fun s h => s.copyRecord b x.id h [])).settleBands) ∧
      (b.state = 3 → s.uncopied b x = [] → (∀ r ∈ s.med.packed, r.txn ≠ x.id) → ∃ t, exec (.gcCopyComplete n) s = .next t ∧
        (t.med.maps.band n).map (fun b => b.state) = some 4 ∧ (∃ y ∈ t.med.txns, y.id = x.id ∧ y.sent = true ∧ y.recs = x.recs ++ endRecs { b with state := 4 }) ∧ t.dp = s.dp) ∧
      ((b.state ≠ 3 ∨ (s.uncopied b x = [] ∧ ∃ r ∈ s.med.packed, r.txn = x.id)) → exec (.gcCopyComplete n) s = .next s)) ∧
    (s.med.maps.band n = none → exec (.bandErase n) s = .next s ∧ exec (.bandEraseComplete n) s = .next s) ∧
    (s.med.maps.band n = some b →
      ((b.state = 5 ∨ (b.state = 6 ∧ b.erased < b.members.length ∧ s.erasing n = false)) → s.inService = true → s.owns b.ground = true → s.bandRead b = false →
        exec (.bandErase n) s = .next (State.syncMedia (State.each (s.setBandState { b with erased := 0 } 6) b.members
          (fun s x => s.sendCmd (BobCmd.onBlock 0x12 3 b.ground x (.erase n)))))) ∧
      (((b.state ≠ 5 ∧ (b.state ≠ 6 ∨ b.members.length ≤ b.erased ∨ s.erasing n = true)) ∨ s.inService = false ∨ s.owns b.ground = false ∨ s.bandRead b = true) →
        exec (.bandErase n) s = .next s) ∧
      ((b.state ≠ 6 ∨ b.erased < b.members.length) → exec (.bandEraseComplete n) s = .next s) ∧
      (b.state = 6 → b.members.length ≤ b.erased → ∀ s1, s1 = (s.journal b.ground b.motif (b.members.map (fun x => JRec.block x (s.freedDesc x)) ++ [JRec.band { b with state := 0 }])).bump
          F.MED_GC_CNT_BANDS 1 b.motif → exec (.bandEraseComplete n) s = .next (State.admitWaiting (State.settleBands (State.retryPacking
            (State.each (State.each s1 (b.members.map (fun x => x.module)) State.wearQueue) (b.members.map (fun x => x.module)) State.rebuildDone)))))) ∧
    (st ≠ 0 → ((s.setBandState b st).med.maps.band b.num) = some { b with state := st } ∧ (s.setBandState b st).dp = s.dp) ∧
    ((s.setBandState b 0).med.maps.band b.num) = none ∧
    (∀ d, s.freedDesc d = { s.descOf d with erases := (s.descOf d).erases + 1, reads := 0, band := 0, use := if (s.descOf d).use = 8 then 8 else 0, ground := 0 })

/-- MODULE_LINK_DOWN_TIMEOUT, ECU_MOD_FAIL, ECU_MOD_REINSTATE, ECU_MOD_ROLE, ECU_MOD_FD, MODULE_READY_TIMEOUT, REBUILD_BAND_DONE and TELEMETRY_POLL (R257, R258, R267, R268). -/
def Obligations.ModuleRoles : Prop :=
  ∀ (s : State) (i v n : Nat) (bad : BadPages) (r : ModState), s.power.running = true → i < 256 → r.role < 8 → r.fd < 64 → r.cause < 16 →
    exec (.moduleLinkDownTimeout i bad) s = .next (s.under bad (fun s => (s.linkDownLong i bad).finishTaking)) ∧
    (s.module i = none → s.linkDownLong i bad = s) ∧
    (∀ m, s.module i = some m → ((m.linkUp = true ∨ s.num < m.downAt + 2000) → s.linkDownLong i bad = s) ∧
      (m.linkUp = false → m.downAt + 2000 ≤ s.num → s.linkDownLong i bad = s.moduleFail i 1 bad)) ∧
    exec (.ecuModFail i v bad) s = .next (s.under bad (fun s => (s.writeEcuMod i v bad).finishTaking)) ∧
    (∀ c ∈ [Instr.ecuModReinstate i v, .ecuModRole i v, .ecuModFd i v], exec c s = .next (s.writeEcuMod i v [])) ∧
    (∀ c ∈ [Instr.ecuModReinstate (256 + n) v, .ecuModRole (256 + n) v, .ecuModFd (256 + n) v], exec c s = .next s) ∧
    (s.role i = 3 → s.moduleFail i n bad = s.setFld F.ECU_MOD_FAIL 0 0 i) ∧
    (s.role i ≠ 3 → n < 16 → ∃ u : State, s.moduleFail i n bad = State.syncMod (State.rebuildDone (State.startRebuild (State.each (State.dropCmds
        (u.modBob (fun b => { b with heldCmds := b.heldCmds.filter (fun c => c.mod != i) })) (fun c => c.mod == i) (fun s c => s.orphanCmd c bad))
        (s.bob.heldCmds.filter (fun c => c.mod == i)) (fun s c => s.orphanCmd c bad)) bad) i) i ∧ u.bob = s.bob ∧ u.role i = 3 ∧ u.fld F.ECU_MOD_CAUSE 0 i = n ∧
      u.fld F.ECU_MOD_FAIL 0 i = 0 ∧ u.fdOf i = s.fdOf i ∧ u.flag F.ECU_EVT_MEMBER_FAIL (i / 32) = true ∧ ∀ k < 256, k ≠ i → u.role k = s.role k) ∧
    (∀ a b c : State, a = (if bits v 29 24 ≠ s.fdOf i ∧ ¬ s.holdsMembers i then s.setModState i ⟨s.role i, bits v 29 24, s.fld F.ECU_MOD_CAUSE 0 i⟩ else s) →
      b = (if (bits v 2 0 = 1 ∨ bits v 2 0 = 2) ∧ bits v 2 0 ≠ a.role i then
        (if a.holdsMembers i ∨ a.role i = 3 ∨ a.role i = 0 then a.refuseMod i
         else ((if bits v 2 0 = 2 then (a.setModState i ⟨bits v 2 0, a.fdOf i, 0⟩).startRebuild bad else a.setModState i ⟨bits v 2 0, a.fdOf i, 0⟩)).syncMedia) else a) →
      c = (if bit v 8 then b.moduleFail i 6 bad else b) →
      (bit v 9 = false → s.writeEcuMod i v bad = c) ∧
      (bit v 9 = true → (c.role i ≠ 3 ∨ c.holdsMembers i = true) → s.writeEcuMod i v bad = c.refuseMod i) ∧
      (bit v 9 = true → c.role i = 3 → c.holdsMembers i = false → c.flag F.ECU_MOD_REINSTATE 0 i = true → s.writeEcuMod i v bad = c) ∧
      (bit v 9 = true → c.role i = 3 → c.holdsMembers i = false → c.flag F.ECU_MOD_REINSTATE 0 i = false → s.writeEcuMod i v bad = (c.setFld F.ECU_MOD_REINSTATE 1 0 i).beginReinstate i)) ∧
    (∃ t, t = s.setModState i r ∧ t.role i = r.role ∧ t.fdOf i = r.fd ∧ t.fld F.ECU_MOD_CAUSE 0 i = r.cause ∧ (∀ k < 256, k ≠ i → t.role k = s.role k ∧ t.fdOf k = s.fdOf k) ∧
      t.bob = s.bob ∧ t.med.maps.bands = s.med.maps.bands) ∧
    (∃ t, t = s.refuseMod i ∧ t.fld F.ECU_MOD_STATUS 0 i = 0x2905 ∧ t.role i = s.role i ∧ t.fdOf i = s.fdOf i ∧ t = { s with regs := t.regs }) ∧
    ((s.modReady i = false ∨ s.holdsMembers i = true ∨ s.role i ≠ 3) → s.beginReinstate i = s) ∧
    (s.modReady i = true → exec (.moduleReadyTimeout i) s = .next s) ∧
    (s.modReady i = false → s.inStep 11 = true → exec (.moduleReadyTimeout i) s = .next (s.moduleFail i 4 [])) ∧
    (s.modReady i = false → s.inStep 11 = false → ∃ t, exec (.moduleReadyTimeout i) s = .next t ∧ t.fld F.BOB_MOD_ST_PRESENT (i / 32) (i % 32) = 0 ∧ t = { s with regs := t.regs }) ∧
    exec (.rebuildBandDone n bad) s = .next (s.under bad (fun s => match s.med.rebuilds.find? (fun j => j.motif == n) with
      | none => (s.beginRebuild n bad).settleBands.syncRebuild
      | some j => match j.txn with
        | none => s
        | some id => if (s.memberDurable id).2 then ((s.memberDurable id).1.endRebuild j bad).settleBands else (s.memberDurable id).1)) ∧
    (∀ id, (s.txn id = none → s.memberDurable id = (s, true)) ∧
      (∀ t, s.txn id = some t → (t.durable = true → s.memberDurable id = (s, true)) ∧
        (t.durable = false → s.firstUndurable t = true → (t.span.2 ≤ s.flushed t.ground t.motif ∨ (t.mirrored = true ∧ s.journalAcked id = true)) →
          s.memberDurable id = (s.makeDurable t, true)) ∧
        (t.durable = false → (s.firstUndurable t = false ∨ (s.flushed t.ground t.motif < t.span.2 ∧ (t.mirrored = false ∨ s.journalAcked id = false))) →
          s.memberDurable id = (s, false)))) ∧
    ((s.inService = false ∨ s.num % 12000000 ≠ 0) → exec .telemetryPoll s = .next s) ∧
    (s.inService = true → s.num % 12000000 = 0 → exec .telemetryPoll s = .next (s.each (s.bob.modules.map (fun m => m.idx)) (fun s i =>
      s.sendCmd (BobCmd.to i 0x30 0 0 .telemetry))))

/-- BOBBIN_IDENTIFY, GEOMETRY, READ_PAGE, PROGRAM_PAGES, ERASE_BLOCK, CLAIM_SET, CLAIM_GET, TELEMETRY, SET_FEATURE and RESET_LUN: the checks of R281, R284 and R290. -/
def Obligations.ModuleChecks : Prop :=
  ∀ (c : Instr) (s : State) (i q cid o : Nat) (other : Option BobCmd) (claimed : Bool), moduleWork c = some (i, q, cid, o, other, claimed) →
    ((s.moduleCmd i q cid other = none ∨ s.module i = none) → exec c s = .next s) ∧
    (∀ k own m, s.moduleCmd i q cid other = some (k, own) → s.module i = some m →
      k.mod = i ∧ k.qid = q ∧ k.cid = cid ∧ (own = true ↔ other = none) ∧
      (k.opcode ≠ o → exec c s = .next s) ∧
      (k.opcode = o →
        (m.fatal = true → exec c s = .next (s.moduleCpl k own 0x7A09 0 [])) ∧
        (m.fatal = false → rightQueue k = false → exec c s = .next (s.moduleCpl k own 0x2A01 0 [])) ∧
        (m.fatal = false → rightQueue k = true → fieldsOk m k = false → exec c s = .next (s.moduleCpl k own 0x2A02 0 [])) ∧
        (m.fatal = false → rightQueue k = true → fieldsOk m k = true → claimed = true → k.claim ≠ m.claim k.ground →
          exec c s = .next (s.moduleCpl k own 0x2304 (m.claim k.ground) [])))) ∧
    (∀ (k : BobCmd) (st r : Nat) (d : Bytes), s.moduleCpl k false st r d = s ∧
      s.moduleCpl k true st r d = { s with bob := { s.bob with cpls := s.bob.cpls ++ [⟨k.mod, k.qid, k.cid, st, r, d⟩] } })

/-- What the work of each module command leaves (R285 to R288, R296). -/
def Obligations.ModuleWork : Prop :=
  ∀ (s : State) (i q cid : Nat) (k : BobCmd) (m : Module) (other : Option BobCmd) (own : Bool) (b : BlockId), s.moduleCmd i q cid other = some (k, own) → s.module i = some m →
    m.fatal = false → rightQueue k = true → fieldsOk m k = true → b = (⟨i, k.lun, k.block⟩ : BlockId) →
    (∀ c f, moduleWork c = some (i, q, cid, k.opcode, other, f) → ∃ t, exec c s = .next t ∧ (∀ j, j ≠ i → t.module j = s.module j) ∧ t.bob.cmds = s.bob.cmds ∧
      (own = false → t.bob.cpls = s.bob.cpls) ∧ t = { s with bob := t.bob }) ∧
    (k.opcode = 0x01 → exec (.bobbinIdentify i q cid other) s = .next (s.moduleCpl k own 0 0 (identifyData m)) ∧ (identifyData m).length = 4096 ∧
      byteAt (identifyData m) 0x60 = m.info.port % 256 ∧ byteAt (identifyData m) 0x61 = m.info.fd % 256) ∧
    (k.opcode = 0x02 → exec (.geometry i q cid other) s = .next (s.moduleCpl k own 0 0 (geometryData m k)) ∧
      (k.arg = 0 → (geometryData m k).length = 4096 ∧ byteAt (geometryData m k) 0 = m.info.luns % 256 ∧ leAt (geometryData m k) 4 4 = m.info.blocks % 2 ^ 32 ∧
        leAt (geometryData m k) 8 2 = m.info.pages % 2 ^ 16)) ∧
    (k.opcode = 0x10 → k.claim = m.claim k.ground → ∀ o x,
      (o ∈ [0x3A03, 0x3A06, 0x4A07, 0x7A09] → ∃ t m', exec (.readPage i q cid other o x) s = .next t ∧ t.module i = some m' ∧ m'.media = m.media ∧ m'.claims = m.claims ∧
        m'.info.uncorrectable = m.info.uncorrectable + (if o = 0x3A03 then 1 else 0) ∧ t.bob.cpls = (s.moduleCpl k own o 0 []).bob.cpls) ∧
      (o ∉ [0x3A03, 0x3A06, 0x4A07, 0x7A09] → (m.pagesOf b).length < k.page + k.count → exec (.readPage i q cid other o x) s = .next (s.moduleCpl k own 0x2A0B 0 [])) ∧
      (o ∉ [0x3A03, 0x3A06, 0x4A07, 0x7A09] → k.page + k.count ≤ (m.pagesOf b).length → ∃ t m', exec (.readPage i q cid other o x) s = .next t ∧ t.module i = some m' ∧
        m'.media = m.media ∧ m'.claims = m.claims ∧ m'.info.retried = m.info.retried + (if 0 < k.retry then 1 else 0) ∧
        m'.info.corrected = m.info.corrected + (if k.retry = 0 ∧ 0 < x then 1 else 0) ∧
        t.bob.cpls = (s.moduleCpl k own 0 (k.retry + 256 * (x % 256)) (((m.pagesOf b).drop k.page).take k.count).flatten).bob.cpls)) ∧
    (k.opcode = 0x11 → k.claim = m.claim k.ground → ∀ o,
      ((m.pagesOf b).length ≠ k.page → exec (.programPages i q cid other o) s = .next (s.moduleCpl k own 0x2A0A 0 [])) ∧
      ((m.pagesOf b).length = k.page → o ∈ [0x3A04, 0x3A06, 0x4A07, 0x7A09] → exec (.programPages i q cid other o) s = .next (s.moduleCpl k own o 0 [])) ∧
      ((m.pagesOf b).length = k.page → o ∉ [0x3A04, 0x3A06, 0x4A07, 0x7A09] → ∃ t m', exec (.programPages i q cid other o) s = .next t ∧ t.module i = some m' ∧
        m'.pagesOf b = m.pagesOf b ++ (List.range k.count).map (fun n => slice k.data (16384 * n) 16384) ∧ (∀ x, x ≠ b → m'.pagesOf x = m.pagesOf x) ∧ m'.claims = m.claims ∧
        t.bob.cpls = (s.moduleCpl k own 0 0 []).bob.cpls)) ∧
    (k.opcode = 0x12 → k.claim = m.claim k.ground → ∀ o,
      (o ∈ [0x3A05, 0x3A06, 0x7A09] → exec (.eraseBlock i q cid other o) s = .next (s.moduleCpl k own o 0 [])) ∧
      (o ∉ [0x3A05, 0x3A06, 0x7A09] → ∃ t m', exec (.eraseBlock i q cid other o) s = .next t ∧ t.module i = some m' ∧
        m'.pagesOf b = [] ∧ (∀ x, x ≠ b → m'.pagesOf x = m.pagesOf x) ∧ m'.claims = m.claims ∧ t.bob.cpls = (s.moduleCpl k own 0 0 []).bob.cpls)) ∧
    (k.opcode = 0x20 →
      (k.flags = 0 → m.claim k.ground < k.claim → ∃ t m', exec (.claimSet i q cid other) s = .next t ∧ t.module i = some m' ∧ m'.claim k.ground = k.claim ∧
        (∀ g, g ≠ k.ground → m'.claim g = m.claim g) ∧ m'.media = m.media ∧ t.bob.cpls = (s.moduleCpl k own 0 k.claim []).bob.cpls) ∧
      (k.flags = 0 → k.claim ≤ m.claim k.ground → exec (.claimSet i q cid other) s = .next (s.moduleCpl k own 0x2304 (m.claim k.ground) [])) ∧
      (k.flags = 1 → k.claim = m.claim k.ground → exec (.claimSet i q cid other) s = .next (s.moduleCpl k own 0 (m.claim k.ground) [])) ∧
      (k.flags = 1 → k.claim ≠ m.claim k.ground → exec (.claimSet i q cid other) s = .next (s.moduleCpl k own 0x2304 (m.claim k.ground) []))) ∧
    (k.opcode = 0x21 → (k.flags = 0 → exec (.claimGet i q cid other) s = .next (s.moduleCpl k own 0 (m.claim k.ground) [])) ∧
      (k.flags = 1 → ∃ d, exec (.claimGet i q cid other) s = .next (s.moduleCpl k own 0 0 d) ∧ d.length = 2048 ∧ ∀ g < 256, leAt d (8 * g) 8 = m.claim g % 2 ^ 64)) ∧
    (k.opcode = 0x30 → ∀ failed tempC, ∃ t m', exec (.telemetry i q cid other failed tempC) s = .next t ∧ t.module i = some m' ∧ m'.info.failed = failed ∧ m'.info.tempC = tempC ∧
      m'.media = m.media ∧ m'.claims = m.claims ∧ t.bob.cpls = (s.moduleCpl k own 0 0 (telemetryData m')).bob.cpls ∧ byteAt (telemetryData m') 0 = 1) ∧
    (k.opcode = 0x31 → k.claim = m.claim k.ground → ∃ t m', exec (.setFeature i q cid other) s = .next t ∧ t.module i = some m' ∧
      m'.powerLimit = (if k.flags = 1 then k.arg else m.powerLimit) ∧ m'.timestamp = (if k.flags = 2 then k.arg else m.timestamp) ∧
      m'.locate = (if k.flags = 3 then k.arg else m.locate) ∧ m'.media = m.media ∧ m'.claims = m.claims ∧ t.bob.cpls = (s.moduleCpl k own 0 0 []).bob.cpls) ∧
    (k.opcode = 0x32 → k.claim = m.claim k.ground → ∀ started l, l = s.bob.cmds.filter (fun x => x.mod == i && isMediaOp x.opcode && x.lun == k.lun &&
        !(started.contains (x.qid, x.cid)) && (s.moduleCmd i x.qid x.cid none).isSome) →
      (own = true → ∃ t, exec (.resetLun i q cid other started) s = .next t ∧
        t.bob.cpls = s.bob.cpls ++ l.map (fun x => (⟨x.mod, x.qid, x.cid, 0x1A08, 0, []⟩ : BobCpl)) ++ [⟨i, q, cid, 0, l.length, []⟩] ∧ t.bob.modules = s.bob.modules) ∧
      (own = false → exec (.resetLun i q cid other started) s = .next s))

/-- MODULE_EN_WRITE, MODULE_SQ_TAIL, MODULE_PORT_ABORT, INBOUND_DMA, BOBBIN_COMPLETION, BOBBIN_CMD_TIMEOUT and CID_QUARANTINE_EXPIRY (R279, R282, R283, R292 to R295). -/
def Obligations.ModulePorts : Prop :=
  ∀ (s : State) (i v q cid : Nat) (ready : Bool) (started : List (Nat × Nat)) (bad : BadPages), s.power.running = true → i < 256 →
    exec (.moduleEnWrite i v ready started bad) s = .next (s.under bad (fun s => (s.writeEn i v ready started bad).finishTaking)) ∧
    exec (.modulePortAbort i v started bad) s = .next (s.under bad (fun s => (s.portDown i v started bad).finishTaking)) ∧
    exec (.bobbinCompletion i q cid bad) s = .next (s.under bad (fun s => (s.takeCompletion i q cid bad).finishTaking)) ∧
    exec (.bobbinCmdTimeout i q cid bad) s = .next (s.under bad (fun s => (s.timeoutCmd i q cid bad).finishTaking)) ∧
    (s.module i = none → s.writeEn i v ready started bad = s ∧ s.portDown i v started bad = s ∧ exec (.moduleSqTail i q v) s = .next s) ∧
    (∀ m, s.module i = some m →
      (v % 2 = 1 → ∃ u m', u = s.modModule i (fun m => { m with en := true, ready := m.ready || ready }) ∧ u.module i = some m' ∧ m'.en = true ∧ m'.ready = (m.ready || ready) ∧
        m'.claims = m.claims ∧ m'.media = m.media ∧ ∀ w, w = (if (m.ready || ready) && !m.qen then u.setQueues i else u) →
        s.writeEn i v ready started bad = (w.releaseHeld w.bob.heldCmds.length).syncMod i) ∧
      (∃ t m', t = s.setQueues i ∧ t.module i = some m' ∧ m'.qen = true ∧ m'.tails = [0, 0, 0, 0, 0] ∧ m'.posted = [0, 0, 0, 0, 0] ∧ m'.claims = m.claims ∧ m'.media = m.media ∧
        t.bob.cmds = s.bob.cmds) ∧
      (v % 2 = 0 → m.en = false → s.writeEn i v ready started bad = s) ∧
      (v % 2 = 0 → m.en = true → ∃ (u : State) (m' : Module), s.writeEn i v ready started bad = u.abortPort i started bad ∧ u.module i = some m' ∧ m'.en = false ∧ m'.claims = m.claims ∧
        m'.media = m.media ∧ u.bob.cmds = s.bob.cmds) ∧
      (∃ (u : State) (m' : Module), s.abortPort i started bad = (u.dropCmds (fun c => c.mod == i) (fun s c => s.abortedCmd c false bad)).settleBands.syncMod i ∧ u.module i = some m' ∧ m'.ready = false ∧
        m'.qen = false ∧ m'.tails = [0, 0, 0, 0, 0] ∧ m'.posted = [0, 0, 0, 0, 0] ∧ m'.claims = m.claims ∧ (started = [] → m'.media = m.media) ∧ u.bob.cmds = s.bob.cmds ∧
        u.bob.cpls = s.bob.cpls.filter (fun x => x.mod != i) ∧ u.bob.quar = s.bob.quar.filter (fun x => x.1.mod != i)) ∧
      (v = 0 → m.linkUp = true → ∃ (u : State) (m' : Module), s.portDown i v started bad = u.abortPort i started bad ∧ u.module i = some m' ∧ m'.linkUp = false ∧ m'.downAt = s.num ∧
        m'.claims = m.claims ∧ u.flag F.BOB_EVT_LINK_DOWN (i / 32) = true ∧ u.bob.cmds = s.bob.cmds) ∧
      ((v ≠ 0 ∨ m.linkUp = false) → s.portDown i v started bad = s.abortPort i started bad) ∧
      (∀ a, m.en = true → m.qen = true → q < 5 → m.tails.getD q 0 < a → a ≤ m.posted.getD q 0 → a % m.depth = v % m.depth →
        (∀ x, m.tails.getD q 0 < x → x < a → x % m.depth ≠ v % m.depth) → exec (.moduleSqTail i q v) s = .next (s.modModule i (fun m => { m with tails := setAt m.tails q a }))) ∧
      ((m.en = false ∨ m.qen = false ∨ 5 ≤ q ∨ ∀ a, m.tails.getD q 0 < a → a ≤ m.posted.getD q 0 → a % m.depth ≠ v % m.depth) → exec (.moduleSqTail i q v) s = .next s)) ∧
    (∀ p f, s.dropCmds p f = (s.modBob (fun b => { b with cmds := b.cmds.filter (fun c => !p c) })).each (s.bob.cmds.filter p) f) ∧
    (∀ n a len wr data, s.hasMotif n = false → exec (.inboundDma n a len wr data) s = .next s) ∧
    (∀ n a len wr data, s.hasMotif n = true → (∀ k < 8, s.hasMotif k = true → ¬ (dramBase k ≤ a ∧ a + len ≤ dramBase k + s.populated k)) → ∃ t,
      exec (.inboundDma n a len wr data) s = .next t ∧ t.fld F.BOB_CNT_BAD_DMA n = satAdd (fldMax F.BOB_CNT_BAD_DMA) (s.fld F.BOB_CNT_BAD_DMA n) 1 ∧ t.mem = s.mem ∧
      t = { s with regs := t.regs }) ∧
    (∀ n a len data, s.hasMotif n = true → (∃ k < 8, s.hasMotif k = true ∧ dramBase k ≤ a ∧ a + len ≤ dramBase k + s.populated k) →
      exec (.inboundDma n a len true data) s = .next (s.store a (data.take len)) ∧ exec (.inboundDma n a len false data) s = .next (s.touchDram a len)) ∧
    ((s.bob.cpls.find? (fun x => x.mod == i && x.qid == q)).filter (fun x => x.cid == cid) = none → s.takeCompletion i q cid bad = s) ∧
    (∀ (x : BobCpl) (u : State), (s.bob.cpls.find? (fun x => x.mod == i && x.qid == q)).filter (fun x => x.cid == cid) = some x → u = s.consumeEntry x →
      u.bob.cpls = s.bob.cpls.erase x ∧ u.bob.cmds = s.bob.cmds ∧ u.bob.quar = s.bob.quar ∧
      ((∃ y ∈ s.bob.quar, y.1.mod = i ∧ y.1.qid = q ∧ y.1.cid = cid) → ∃ w : State, s.takeCompletion i q cid bad = w ∧ w.flag F.BOB_EVT_LATE (i / 32) = true ∧
        w.fld F.BOB_CNT_LATE (i / 32) = satAdd (fldMax F.BOB_CNT_LATE) (s.fld F.BOB_CNT_LATE (i / 32)) 1 ∧ w.bob.cmds = s.bob.cmds ∧
        w.bob.quar = s.bob.quar.filter (fun y => !(y.1.mod == i && y.1.qid == q && y.1.cid == cid))) ∧
      ((∀ y ∈ s.bob.quar, ¬ (y.1.mod = i ∧ y.1.qid = q ∧ y.1.cid = cid)) →
        (s.bob.cmds.find? (fun c => c.mod == i && c.qid == q && c.cid == cid) = none → s.takeCompletion i q cid bad = u) ∧
        (∀ (c : BobCmd) (a b e : State), s.bob.cmds.find? (fun c => c.mod == i && c.qid == q && c.cid == cid) = some c →
          a = (if moduleStatus x.status = 0 ∨ moduleStatus x.status = 0x1A08 then u.modBob (fun b => { b with cmds := b.cmds.filter (fun y => y != c) })
            else (u.modBob (fun b => { b with cmds := b.cmds.filter (fun y => y != c) })).noteCmdError c (moduleStatus x.status)) →
          b = (if moduleStatus x.status ≠ 0x2304 then a else if c.why = BobWhy.claimRaise then a.raiseRefused c x.result else a.claimStale c.ground i) →
          e = (if moduleStatus x.status = 0x1A08 then b.abortedCmd c true bad else b.serveCpl c x (moduleStatus x.status) bad).judgeModule c (moduleStatus x.status) bad →
          s.takeCompletion i q cid bad = ((e.releaseHeld e.bob.heldCmds.length).settleBands.settleWrites).syncMod i))) ∧
    (s.bob.cmds.find? (fun c => c.mod == i && c.qid == q && c.cid == cid && decide (c.since + s.cmdLimit c ≤ s.num)) = none → s.timeoutCmd i q cid bad = s) ∧
    (∀ c, s.bob.cmds.find? (fun c => c.mod == i && c.qid == q && c.cid == cid && decide (c.since + s.cmdLimit c ≤ s.num)) = some c → ∃ u w : State, w = (u.timedOut c bad).countTimeout i bad ∧
      s.timeoutCmd i q cid bad = (w.releaseHeld w.bob.heldCmds.length).settleBands.syncMod i ∧ u.bob.cmds = s.bob.cmds.filter (fun y => y != c) ∧
      u.bob.quar = s.bob.quar ++ [(c, s.num)] ∧ u.flag F.BOB_EVT_TIMEOUT (i / 32) = true ∧
      u.fld F.BOB_CNT_TIMEOUT (i / 32) = satAdd (fldMax F.BOB_CNT_TIMEOUT) (s.fld F.BOB_CNT_TIMEOUT (i / 32)) 1 ∧ u.fld F.BOB_ERR_STATUS (i / 32) = 0x4A0D ∧ u.role i = s.role i) ∧
    (∀ m, s.module i = some m → 3 ≤ (m.timeouts.filter (fun t => decide (s.num < t + 20000))).length + 1 → ∃ u : State, s.countTimeout i bad = u.moduleFail i 2 bad ∧ u.regs = s.regs) ∧
    (∃ t, exec (.cidQuarantineExpiry i q cid) s = .next t ∧
      (∀ y, y ∈ t.bob.quar ↔ y ∈ s.bob.quar ∧ ¬ (y.1.mod = i ∧ y.1.qid = q ∧ y.1.cid = cid ∧ y.2 + 10000 ≤ s.num)) ∧ t = { s with regs := t.regs, bob := t.bob })

/-- UCIE_REPLAY_LIMIT, UCIE_NO_PROGRESS_TIMEOUT, UCIE_LANE_FAIL, SERVICE_POLL_MISS, PLL_LOSS_OF_LOCK, REGULATOR_POLL, SMBALERT_FALL, HU_GOOD_LOSS, VAULT_DUMP_COMPLETE,
HU_ENERGY_READ_START and HU_ENERGY_READ_DONE (R25, R29, R30, R99, R430, R434, R435). -/
def Obligations.FailStopsAndHoldUp : Prop :=
  ∀ (s : State) (m i n code r : Nat) (b fault warn : Bool) (bad : BadPages) (l : List (Nat × Bool × Bool)), s.power.running = true → code < 2 ^ 16 → r < 32 →
    (s.mode = 5 → s.failStop code = s) ∧
    (s.mode ≠ 5 → ∃ t, t = s.failStop code ∧ t.mode = 5 ∧ t.fld F.PKG_MODE_PREV = s.mode ∧ t.fld F.PKG_MODE_AT_STITCH = s.num ∧ t.fld F.PKG_MODE_ADMIT = 0 ∧
      t.fld F.PKG_RST_CAUSE_TIED_CAUSE = code ∧ t.flag F.BRD_ST_HALIVE_OUT = false ∧ t.txOff = true ∧ t.fop = none ∧ t.mem = s.mem ∧ t.med = s.med ∧ t.dp = s.dp ∧ t.power = s.power) ∧
    (s.ucieUp m i = true → exec (.ucieReplayLimit m i) s = .next ((s.bump F.MTF_LINK_ST_REPLAYS 16 m i).failStop 0x7201) ∧
      exec (.ucieNoProgressTimeout m i) s = .next (s.failStop 0x7201) ∧ exec (.ucieLaneFail m i) s = .next (s.failStop 0x7201)) ∧
    (s.ucieUp m i = false → exec (.ucieReplayLimit m i) s = .next s ∧ exec (.ucieNoProgressTimeout m i) s = .next s ∧ exec (.ucieLaneFail m i) s = .next s) ∧
    (s.serviceRuns m = true → 2 ≤ n → exec (.servicePollMiss m n) s = .next (s.failStop 0x7204)) ∧
    ((s.serviceRuns m = false ∨ n < 2) → exec (.servicePollMiss m n) s = .next s) ∧
    exec .pllLossOfLock s = .next (s.failStop 0x7205) ∧
    (s.pollDue = false → exec (.regulatorPoll l) s = .next s) ∧
    (s.pollDue = true → exec (.regulatorPoll l) s = .next ((s.modHu (fun h => { h with polledAt := s.num })).pollRegulators l)) ∧
    (s.flag F.PWR_CTL_ALERT_EN = false → exec (.smbalertFall l) s = .next s) ∧
    (s.flag F.PWR_CTL_ALERT_EN = true → exec (.smbalertFall l) s = .next (s.pollRegulators l)) ∧
    (s.pollRegulators [] = { s with outbox := s.outbox ++ s.regulators.map (fun r => .pmbusRead (s.fld F.PWR_REG_ADDR 0 r) (s.fld F.PWR_REG_PAGE 0 r) pmbusStatusWord) }) ∧
    (s.mode ≠ 5 → (∃ e ∈ l, e.1 ∈ s.regulators ∧ e.2.1 = true) → (s.pollRegulators l).mode = 5 ∧ (s.pollRegulators l).fld F.PKG_RST_CAUSE_TIED_CAUSE = 0x7206) ∧
    ((∀ e ∈ l, e.1 ∈ s.regulators → e.2.1 = false) → (s.pollRegulators l).mode = s.mode ∧
      ((∃ e ∈ l, e.1 ∈ s.regulators ∧ e.2.2 = true) → (s.pollRegulators l).flag F.PWR_EVT_REG_WARN = true)) ∧
    ((fault = true → s.judgeRegulator r fault warn = (s.setFld F.PWR_ST_FAULT_REG r).failStop 0x7206 ∧ (s.judgeRegulator r fault warn).fld F.PWR_ST_FAULT_REG = r) ∧
      (fault = false → s.judgeRegulator r fault warn = (if warn then s.setEvt F.PWR_EVT_REG_WARN else s))) ∧
    (n < 1000 → exec (.huGoodLoss n bad) s = .next s) ∧
    (1000 ≤ n → exec (.huGoodLoss n bad) s = .next (s.under bad (fun s => s.inputLost))) ∧
    (s.mode = 0 → ∃ t, t = s.inputLost ∧ t.power.running = false ∧ t.power.pen = 0 ∧ t.txOff = true ∧ t.flag F.BRD_ST_HALIVE_OUT = false ∧
      t.flag F.PWR_EVT_HU_LOSS = true ∧ t.fld F.PWR_ST_HU_GOOD = 0 ∧ t.med = s.med) ∧
    (s.inService = true → ∃ t, t = s.inputLost ∧ t.mode = 4 ∧ t.fld F.PKG_MODE_PREV = s.mode ∧ t.flag F.PKG_MODE_EV_VAULT = true ∧ t.txOff = true ∧
      t.fld F.PKG_MODE_ADMIT = 0 ∧ t.hu.dumpDone = false ∧ t.hu.inputGood = false ∧ t.eng.jobs = [] ∧ t.power = s.power) ∧
    ((s.mode = 4 ∨ s.mode = 5) → ∃ t, t = s.inputLost ∧ t.mode = s.mode ∧ t.flag F.PWR_EVT_HU_LOSS = true ∧ t.fld F.PWR_ST_HU_GOOD = 0 ∧ t.power = s.power ∧ t.med = s.med) ∧
    ((s.mode ≠ 4 ∨ s.hu.dumpDone = true) → exec (.vaultDumpComplete b n) s = .next s) ∧
    (∀ u, s.mode = 4 → s.hu.dumpDone = false → u = s.dumpRest.settleDump →
      (u.med.vaultA.left = [] → u.med.vaultB.left = [] → u.dumping = false → exec (.vaultDumpComplete b n) s = .next (u.dumpComplete b n)) ∧
      ((u.med.vaultA.left ≠ [] ∨ u.med.vaultB.left ≠ [] ∨ u.dumping = true) → exec (.vaultDumpComplete b n) s = .next u)) ∧
    (∃ u : State, s.dumpComplete b n = (if b then u.warmReset 3 4 n else u.powerDown) ∧ u.mode = s.mode ∧ u.hu.dumpDone = true ∧ u.hu.inputGood = b ∧ (b = true → u.fld F.PWR_ST_HU_GOOD = 1) ∧
      u.med.vaultA = (if s.med.vaultA.epoch = s.dumpEpoch then s.closeArea s.med.vaultA else s.med.vaultA) ∧
      u.med.vaultB = (if s.med.vaultB.epoch = s.dumpEpoch then s.closeArea s.med.vaultB else s.med.vaultB)) ∧
    s.rewound (s.warmReset 3 4 n) 3 4 n ∧
    (∃ t, t = s.powerDown ∧ t.power.running = false ∧ t.power.pen = 0 ∧ t.txOff = true ∧ t.flag F.BRD_ST_HALIVE_OUT = false ∧ t.med = s.med ∧
      ((s.mode ≠ 4 ∨ ∀ k ∈ s.cip.keys, k.1 < 4096) → t.mode = s.mode) ∧ (s.mode = 4 → ∀ k, t.slotKey k = [])) ∧
    (((s.num % 200 ≠ 0 ∧ s.hu.due s.num = false) ∨ 550 < s.stc.phase) → exec .huEnergyReadStart s = .next s) ∧
    ((s.num % 200 = 0 ∨ s.hu.due s.num = true) → s.stc.phase ≤ 550 → ∃ t, exec .huEnergyReadStart s = .next t ∧ t.stc.phase = 550 ∧
      t.hu = { s.hu with owed := if s.hu.due s.num then none else s.hu.owed, reading := true } ∧
      t.outbox = s.outbox ++ [.pmbusRead (s.fld F.PWR_HU_CFG_ADDR) 0 (s.fld F.PWR_HU_CFG_CMD)] ∧ t.regs = s.regs) ∧
    (∀ v, s.hu.reading = false → exec (.huEnergyReadDone v) s = .next s) ∧
    (s.hu.reading = true → (∃ t, exec (.huEnergyReadDone (some n)) s = .next t ∧ t.hu = { s.hu with reading := false, energy := linear11 n } ∧ t.fld F.PWR_HU_ST_FAILS = 0 ∧
        t.fld F.PWR_HU_ST_AGE = 0 ∧ t.flag F.PWR_ST_HU_TELEM_OK = true ∧ t = { s with regs := t.regs, hu := t.hu }) ∧
      (∃ t, exec (.huEnergyReadDone none) s = .next t ∧ t.hu = { s.hu with reading := false } ∧ t.fld F.PWR_HU_ST_FAILS = satAdd (fldMax F.PWR_HU_ST_FAILS) (s.fld F.PWR_HU_ST_FAILS) 1 ∧
        t.flag F.PWR_ST_HU_TELEM_OK = decide (t.fld F.PWR_HU_ST_FAILS < 3) ∧ (3 ≤ t.fld F.PWR_HU_ST_FAILS → t.flag F.PWR_EVT_HU_TELEM_FAIL = true)))

/-- CACHE_FILL, WRITEBACK_COMPLETE, CORE_UNMAPPED_ACCESS and PF1_BAR2_ACCESS (R26, R27, R389, R410 to R415). -/
def Obligations.MapCache : Prop :=
  ∀ (s u : State) (who : Who) (kind a n cls m o ln h k : Nat) (st : Option (Nat × Nat)) (d : Bytes) (x : List (Nat × Nat)) (strm : Bool), s.power.running = true →
    (∀ kd len, kd = (if d = [] then kind else 1) → len = (if d = [] then n else d.length) →
      (s.allowed who kd a len cls = false → exec (.cacheFill who kind a n cls st d x) s = .next (s.deliverError who kd a 0x2F01)) ∧
      (s.allowed who kd a len cls = true →
        (∀ w, regionOf a = .dram m o → o % 128 + len ≤ 128 → w = s.modMs (fun e => { e with errs := Sparse.set [] e.errs (a / 128) (Sparse.get [] e.errs (a / 128) ++ x) }) →
          exec (.cacheFill who kind a n cls st d x) s = .next ((((w.hpmAccess who m (w.cacheCodes m a)).lookupLine m (o / 128)
            ((w.hpmAccess who m (w.cacheCodes m a)).classFor who m cls) ((w.hpmAccess who m (w.cacheCodes m a)).streamFill m st)).perform who kind a n d).syncCch m)) ∧
        (regionOf a = .dram m o → 128 < o % 128 + len → exec (.cacheFill who kind a n cls st d x) s = .next s) ∧
        ((regionOf a = .sram m ∨ regionOf a = .scratch m o) → exec (.cacheFill who kind a n cls st d x) s = .next ((s.hpmAccess who m []).perform who kind a n d)) ∧
        (regionOf a = .rom → exec (.cacheFill who kind a n cls st d x) s = .next (s.perform who kind a n d)) ∧
        ((regionOf a = .regs ∨ regionOf a = .none) → exec (.cacheFill who kind a n cls st d x) s = .next s))) ∧
    (s.allowed who kind a n cls = true → exec (.coreUnmappedAccess who kind a n cls) s = .next s) ∧
    (s.allowed who kind a n cls = false → exec (.coreUnmappedAccess who kind a n cls) s = .next (s.deliverError who kind a 0x2F01)) ∧
    (s.deliverError (.core h k) kind a 0x2F01 = s.out (.coreFault h k kind a) ∧ s.deliverError (.engine h) kind a 0x2F01 = s.out (.engineStatus h a 0x2F01)) ∧
    (u = s.readFlips (dramBase m + 128 * ln) 128 →
      (∀ c, u.ms.lines.find? (fun c => c.holds (dramBase m + 128 * ln)) = some c → s.lookupLine m ln cls strm =
        (u.modMs (fun d => { d with lines := mapWhere (fun x => x.holds (dramBase m + 128 * ln)) (fun x => { x with age := 0 }) d.lines })).noteUse m c.set c.way) ∧
      (∀ w, u.ms.lines.find? (fun c => c.holds (dramBase m + 128 * ln)) = none → w = (if u.flag F.CCH_CTL_EN m || u.flag F.CCH_ST_DRAIN m then u.bump F.CCH_CNT_MISS 1 m else u) →
        (w.cacheOn m = false → w.cached (dramBase m + 128 * ln) = none → s.lookupLine m ln cls strm = w.readDram m ln false) ∧
        (w.cacheOn m = false → w.cached (dramBase m + 128 * ln) ≠ none → s.lookupLine m ln cls strm = w) ∧
        (∀ c, w.cacheOn m = true → w.cached (dramBase m + 128 * ln) = some c → s.lookupLine m ln cls strm = w.recallLine c) ∧
        (w.cacheOn m = true → w.cached (dramBase m + 128 * ln) = none →
          s.lookupLine m ln cls strm = w.fillLine m ln cls (if strm && w.flag F.CCH_CTL_POLICY m then 3 else 0)))) ∧
    (∀ w, (s.victimWay m (Sys2Proof.Machine.setOf (128 * ln)) cls).2 = some w → w ∈ s.eligibleWays m cls ∧ ∃ t c, t = s.fillLine m ln cls n ∧ c ∈ t.ms.lines ∧ c.motif = m ∧ c.line = ln ∧ c.way = w ∧
      c.set = Sys2Proof.Machine.setOf (128 * ln) ∧ c.dirty = false ∧ c.cls = cls ∧ c.age = n ∧ t.mem = (s.readDram m ln false).mem ∧
      ∀ j < 128, Sparse.get 0 c.data j = Sparse.get memDefault t.mem (dramBase m + 128 * ln + j)) ∧
    (s.flag F.CCH_CTL_POLICY m = false → s.eligibleWays m cls ≠ [] → (s.victimWay m n cls).2 ≠ none) ∧
    (s.flag F.CCH_CTL_POLICY m = true → (∃ w ∈ s.eligibleWays m cls, s.lineAt m n w = none) → ∃ w, (s.victimWay m n cls).2 = some w ∧ s.lineAt m n w = none) ∧
    (d ≠ [] → ∃ t, t = s.perform who kind a n d ∧ (∀ i < d.length, t.memByte (a + i) = d.getD i 0) ∧ ∀ y, y < a ∨ a + d.length ≤ y → t.memByte y = s.memByte y) ∧
    (u = s.readFlips a n → (u.poisoned a n = true → s.perform who kind a n [] = ((u.countPoison a n).deliverError who kind a 0x5405).hpmFault who) ∧
      (u.poisoned a n = false → s.perform (.core h k) kind a n [] = u.out (.coreData h k a (u.load a n)) ∧ s.perform (.engine h) kind a n [] = u ∧ s.perform .host kind a n [] = u)) ∧
    (u = s.writtenBack m ln → exec (.writebackComplete m ln) s =
      .next (if u.flag F.CCH_ST_DRAIN m ∧ s.fld F.CCH_ST_DIRTY m ≠ 0 ∧ u.fld F.CCH_ST_DIRTY m = 0 then u.endDrain m else u)) ∧
    (∀ c, s.ms.victims.find? (fun c => c.motif == m && c.line == ln && c.dirty) = some c → ∃ t, t = s.writtenBack m ln ∧
      Sparse.getRange memDefault t.mem c.addr 128 = c.bytes ∧ (∀ y, y < c.addr ∨ c.addr + 128 ≤ y → Sparse.get memDefault t.mem y = Sparse.get memDefault s.mem y) ∧
      (s.ms.stalled = [] → ∀ v ∈ t.ms.victims, ¬ (v.motif = m ∧ v.line = ln ∧ v.dirty = true))) ∧
    ((∀ c ∈ s.ms.victims ++ s.ms.lines, ¬ (c.motif = m ∧ c.line = ln ∧ c.dirty = true)) → s.writtenBack m ln = s.readFlips (dramBase m + 128 * ln) 128) ∧
    (s.flag F.EP_ST_UP = false → exec (.pf1Bar2Access a n d) s = .next s) ∧
    (s.flag F.EP_ST_UP = true → s.bar0Open = false → exec (.pf1Bar2Access a n d) s = .next (if d = [] then s.emit (.barData 1 (List.replicate n 0xFF)) else s)) ∧
    (s.bar0Open = true →
      (s.reachesAll .bar2 false (bar2Addr a) n = true → 1 ≤ n → n ≤ 512 → exec (.pf1Bar2Access a n []) s = .next ((s.readFlips (bar2Addr a) n).bar2Read a n)) ∧
      ((s.reachesAll .bar2 false (bar2Addr a) n = false ∨ n = 0 ∨ 512 < n) → exec (.pf1Bar2Access a n []) s = .next (s.emit (.barData 1 (zeros n)))) ∧
      (d ≠ [] → (s.reachesAll .bar2 true (bar2Addr a) d.length = false ∨ 512 < d.length) → exec (.pf1Bar2Access a n d) s = .next s) ∧
      (d ≠ [] → s.reachesAll .bar2 true (bar2Addr a) d.length = true → d.length ≤ 512 → exec (.pf1Bar2Access a n d) s = .next (s.perform .host 1 (bar2Addr a) d.length d))) ∧
    ((s.poisoned (bar2Addr a) n = false → s.bar2Read a n = s.emit (.barData 1 (s.load (bar2Addr a) n))) ∧
      (s.poisoned (bar2Addr a) n = true → s.bar2Read a n = ((s.emit (.barPoison 1 (s.load (bar2Addr a) n))).bump F.EP_CNT_POISON_OUT).setEvt F.EP_EVT_POISON_OUT))

/-- CCH_CLEAN, CCH_INVALIDATE, CCH_CLEAN_INVALIDATE, MAINT_COMPLETE, CCH_DISABLE, CCH_POLICY_CHANGE, CACHE_DRAIN_COMPLETE, ECC_INJECT_ARM, SRAM_UNCORRECTABLE, SRAM_SCRUB_WALK and
TV_SWEEP (R417 to R426). -/
def Obligations.MaintenanceAndErrors : Prop :=
  ∀ (s : State) (m v op k code inst w x i : Nat) (d : Bool) (p : CLine → Bool) (f : Flip), s.power.running = true → m < 8 → k < 2 ^ 15 →
    (∀ c ∈ [Instr.cchClean m v, .cchInvalidate m v, .cchCleanInvalidate m v], (s.hasMotif m = false → exec c s = .next s) ∧ (s.hasMotif m = true → exec c s = .next (s.writeMaint m v))) ∧
    (s.flag F.CCH_MAINT_BUSY m = true → s.writeMaint m v = s) ∧
    (∀ u, s.flag F.CCH_MAINT_BUSY m = false → u = s.softWrite .CCH_MAINT m 0 v → (u.flag F.CCH_MAINT_GO m = false → s.writeMaint m v = u) ∧
      (u.flag F.CCH_MAINT_GO m = true → s.writeMaint m v = (if u.flag F.CCH_ST_DRAIN m then u.setFld F.CCH_MAINT_BUSY 1 m else u.startMaint m))) ∧
    (s.hasMotif m = true → s.inLockSet .CCH_MAINT m 0 = false → ∃ u, u = s.softWrite .CCH_MAINT m 0 v ∧ u.fld F.CCH_MAINT_OP m = bits v 61 60 ∧ u.fld F.CCH_MAINT_LINES m = bits v 41 18 ∧
      u.flag F.CCH_MAINT_MODE m = bit v 59 ∧ u.flag F.CCH_MAINT_ALL m = bit v 58 ∧ u.flag F.CCH_MAINT_GO m = (bit v 63 || s.flag F.CCH_MAINT_GO m) ∧ u.ms = s.ms ∧ u.mem = s.mem) ∧
    (∀ a u, op = s.fld F.CCH_MAINT_OP m → a = s.fld F.CCH_MAINT_ADDR_ADDR m * 128 → u = s.setFld F.CCH_MAINT_BUSY 1 m →
      (op = 0 → ∃ e, s.startMaint m = u.tookFree.endMaint m e) ∧
      (op = 2 → s.mode ≠ 0 → s.flag F.ECC_CTL_INJECT_EN m = false → s.startMaint m = u.endMaint m 0x2F03) ∧
      (op ≠ 0 → (op ≠ 2 ∨ s.mode = 0 ∨ s.flag F.ECC_CTL_INJECT_EN m = true) →
        (s.flag F.CCH_MAINT_MODE m = true → s.flag F.CCH_MAINT_ALL m = true → s.startMaint m = u.maintLines op m (fun _ => true)) ∧
        (∀ c, s.flag F.CCH_MAINT_MODE m = true → s.flag F.CCH_MAINT_ALL m = false → s.lineAt m (s.fld F.CCH_MAINT_SET m) (s.fld F.CCH_MAINT_WAY m) = some c →
          s.startMaint m = u.maintLines op m (fun x => x.line == c.line)) ∧
        (s.flag F.CCH_MAINT_MODE m = true → s.flag F.CCH_MAINT_ALL m = false → s.lineAt m (s.fld F.CCH_MAINT_SET m) (s.fld F.CCH_MAINT_WAY m) = none → s.startMaint m = u) ∧
        (s.flag F.CCH_MAINT_MODE m = false → (a < dramBase m ∨ dramBase m + s.populated m < a + 128 * max 1 (s.fld F.CCH_MAINT_LINES m)) → s.startMaint m = u.endMaint m 0x2F02) ∧
        (s.flag F.CCH_MAINT_MODE m = false → dramBase m ≤ a → a + 128 * max 1 (s.fld F.CCH_MAINT_LINES m) ≤ dramBase m + s.populated m → s.startMaint m = u.maintLines op m
          (fun c => decide ((a - dramBase m) / 128 ≤ c.line) && decide (c.line < (a - dramBase m) / 128 + max 1 (s.fld F.CCH_MAINT_LINES m)))))) ∧
    (∃ t, t = s.endMaint m k ∧ t.fld F.CCH_MAINT_STATUS m = k ∧ t.flag F.CCH_MAINT_BUSY m = false ∧ t.flag F.CCH_MAINT_GO m = false ∧ t.flag F.CCH_EVT_MAINT_DONE m = true ∧ t.ms = s.ms ∧
      t.mem = s.mem) ∧
    (∀ t all, t = s.maintLines op m p → all = (s.ms.lines ++ s.ms.victims ++ s.ms.stalled).filter (fun c => c.motif == m && p c && c.dirty) → (∀ c y b, p { c with poison := b, dirty := y } = p c) →
      (op = 1 → ∀ c ∈ t.ms.lines ++ t.ms.victims ++ t.ms.stalled, c.motif = m → p c = true → c.dirty = false) ∧
      (op ≠ 1 → ∀ c ∈ t.ms.lines ++ t.ms.victims ++ t.ms.stalled, ¬ (c.motif = m ∧ p c = true)) ∧
      (op = 2 → t.mem = s.mem) ∧ (∀ y, (∀ c ∈ all, c.holds y = false) → Sparse.get memDefault t.mem y = Sparse.get memDefault s.mem y) ∧
      (op ≠ 2 → ∀ c ∈ all, ∀ y, c.holds y = true → (∀ e ∈ all, e.holds y = true → e.data = c.data) → Sparse.get memDefault t.mem y = Sparse.get 0 c.data (y % 128))) ∧
    ((s.flag F.CCH_MAINT_BUSY m = false ∨ s.flag F.CCH_ST_DRAIN m = true) → exec (.maintComplete m) s = .next s) ∧
    (s.flag F.CCH_MAINT_BUSY m = true → s.flag F.CCH_ST_DRAIN m = false → exec (.maintComplete m) s = .next (s.endMaint m 0)) ∧
    (∀ c ∈ [Instr.cchDisable m v, .cchPolicyChange m v], (s.hasMotif m = false → exec c s = .next s) ∧ (s.hasMotif m = true → ∀ u q, u = s.softWrite .CCH_CTL m 0 v →
      q = (if u.fld F.CCH_CTL_POLICY m = s.fld F.CCH_CTL_POLICY m then u else u.policyChanged m) →
      (s.flag F.CCH_ST_DRAIN m = true → exec c s = .next ((q.setFld F.CCH_CTL_EN 0 m).setFld F.CCH_ST_EN_PEND (b2n (q.flag F.CCH_CTL_EN m)) m)) ∧
      (s.flag F.CCH_ST_DRAIN m = false → s.flag F.CCH_CTL_EN m = true → q.flag F.CCH_CTL_EN m = false → exec c s = .next (q.beginDrain m)) ∧
      (s.flag F.CCH_ST_DRAIN m = false → (s.flag F.CCH_CTL_EN m = false ∨ q.flag F.CCH_CTL_EN m = true) → exec c s = .next q))) ∧
    (∃ t, t = s.beginDrain m ∧ t.flag F.CCH_ST_DRAIN m = true ∧ t.ms.lines = s.ms.lines.filter (fun c => c.motif != m || c.dirty) ∧
      t.ms.victims = s.ms.victims.filter (fun c => c.motif != m || c.dirty) ∧ t.mem = s.mem) ∧
    ((s.flag F.CCH_CTL_POLICY m = true → s.policyChanged m = s.modMs (fun d => { d with lines := mapWhere (fun c => c.motif == m) (fun c => { c with age := 1 }) d.lines })) ∧
      (s.flag F.CCH_CTL_POLICY m = false → ∀ n < 16384, Sparse.get 0 (s.policyChanged m).ms.trees (treeKey m n) = 0)) ∧
    (s.flag F.CCH_ST_DRAIN m = false → exec (.cacheDrainComplete m) s = .next s) ∧
    (s.flag F.CCH_ST_DRAIN m = true → exec (.cacheDrainComplete m) s = .next (s.endDrain m)) ∧
    (∃ u : State, s.endDrain m = (if s.flag F.CCH_MAINT_BUSY m then u.startMaint m else u) ∧ u.flag F.CCH_ST_DRAIN m = false ∧ u.flag F.CCH_EVT_DRAIN_DONE m = true ∧
      (∀ c ∈ u.ms.lines ++ u.ms.victims ++ u.ms.stalled, c.motif ≠ m) ∧ u.flag F.CCH_CTL_EN m = (s.flag F.CCH_CTL_EN m || s.flag F.CCH_ST_EN_PEND m) ∧ u.flag F.CCH_ST_EN_PEND m = false) ∧
    ((s.hasMotif m = false ∨ s.flag F.ECC_CTL_INJECT_EN m = false) → exec (.eccInjectArm m v) s = .next s) ∧
    (s.hasMotif m = true → s.flag F.ECC_CTL_INJECT_EN m = true → ∃ t, exec (.eccInjectArm m v) s = .next t ∧ t = s.softWrite .ECC_FLIP_TARGET m 0 v ∧ t.ms = s.ms ∧
      (s.inLockSet .ECC_FLIP_TARGET m 0 = false → t.flag F.ECC_FLIP_TARGET_ARMED m = bit v 63 ∧ t.fld F.ECC_FLIP_TARGET_MEM m = bits v 47 40 ∧ t.fld F.ECC_FLIP_TARGET_INST m = bits v 39 32)) ∧
    ((isSramCode code = false ∨ s.hasMotif m = false) → exec (.sramUncorrectable m code inst w x d) s = .next s) ∧
    (isSramCode code = true → s.hasMotif m = true → exec (.sramUncorrectable m code inst w x d) s = .next ((s.sramUeSeen m code inst w).uncorrectableEffect m code inst x d)) ∧
    (code < 256 → ∃ t, t = s.sramUeSeen m code inst w ∧ t.fld F.ECC_CNT_UNCORRECTABLE m = satAdd (fldMax F.ECC_CNT_UNCORRECTABLE) (s.fld F.ECC_CNT_UNCORRECTABLE m) 1 ∧
      t.fld F.ECC_ST_STRUCT m = code ∧ t.fld F.ECC_ST_KIND m = 2 ∧ t.flag F.ECC_ST_VALID m = true ∧ t.ms = s.ms ∧ t.mode = s.mode) ∧
    ((∀ c ∈ [0x11, 0x40, 0x41, 0x42, 0x43], s.uncorrectableEffect m c inst x d = s.failStop 0x7203) ∧ s.uncorrectableEffect m 0x20 inst x d = s.poisonLine x ∧
      s.uncorrectableEffect m 0x12 inst x d = s.poisonCached x ∧ s.uncorrectableEffect m 0x21 inst x d = (if d then s.poisonLine x else s) ∧
      s.uncorrectableEffect m 0x22 inst x d = (if d then s.failStop 0x7203 else s) ∧ s.uncorrectableEffect m 0x30 inst x d = (s.setEvt F.RDM_EVT_CTX_LOST m).connError x 3 0x7B0A ∧
      x / 128 ∈ (s.poisonLine x).ms.poison) ∧
    (∀ (found : List (Flip × Nat × Bool)) (mine : List Flip) (pl : Flip → Nat × Bool), mine = s.ms.flips.filter (fun f => f.motif == m) → (∀ f, pl f = (match found.find? (fun x => x.1 == f) with | some x => x.2 | none => (f.place, true))) →
      exec (.sramScrubWalk m found) s = .next (((s.modMs (fun d => { d with flips := d.flips.filter (fun f => f.motif != m) })).each mine (fun s f => s.walkFlip f (pl f).1 (pl f).2)).each
        (found.filter (fun x => x.1.motif == m && !mine.contains x.1)) (fun s x => s.walkFlip x.1 x.2.1 x.2.2))) ∧
    ((f.count = 0 → s.walkFlip f x d = s) ∧ (f.count ≠ 0 → (f.code = 0x11 ∨ f.code = 0x22) → s.walkFlip f x d = s.sramUncorrectable f.motif f.code f.inst f.word x d) ∧
      (f.code ≠ 0x11 → f.code ≠ 0x22 → (f.count = 1 → s.walkFlip f x d = s.sramCorrected f.motif f.code f.inst f.word) ∧
        (f.count = 2 → s.walkFlip f x d = s.sramUncorrectable f.motif f.code f.inst f.word x d))) ∧
    (∃ t, t = s.sramCorrected m code inst w ∧ t.fld F.ECC_CNT_CORRECTED m = satAdd (fldMax F.ECC_CNT_CORRECTED) (s.fld F.ECC_CNT_CORRECTED m) 1 ∧
      t.fld F.ECC_CNT_UNCORRECTABLE m = s.fld F.ECC_CNT_UNCORRECTABLE m ∧ t.mode = s.mode ∧ t.mem = s.mem) ∧
    (∀ ups u, u = s.each ups (fun s u => s.tvTurn u.1 u.2.1 u.2.2) → exec (.tvSweep ups) s = .next (u.each (u.tv.map (fun e => e.1)) (fun s k => s.tvVote (k / 65536) (k % 65536)))) ∧
    ((∀ c, Sparse.get (0, 0, 0) s.tv (tvKey w i) = (0, 0, 0) → (s.tvTurn w i (0, 0, c)).regs = s.regs ∧
        Sparse.get (0, 0, 0) (s.tvTurn w i (0, 0, c)).tv (tvKey w i) = (0, 0, c &&& (tvPlace w i).2.2.2)) ∧
      (Sparse.get (0, 0, 0) s.tv (tvKey w i) = (0, 0, 0) → s.tvVote w i = s) ∧
      (∀ c, Sparse.get (0, 0, 0) s.tv (tvKey w i) = c → c ≠ (0, 0, 0) → (c.1 ≠ c.2.1 → c.2.1 ≠ c.2.2 → c.1 ≠ c.2.2 → s.tvVote w i = s.failStop 0x7202) ∧
        ((c.1 = c.2.1 ∨ c.2.1 = c.2.2 ∨ c.1 = c.2.2) → w < 8 → ∃ t, t = s.tvVote w i ∧ Sparse.get (0, 0, 0) t.tv (tvKey w i) = (0, 0, 0) ∧
          t.fld F.ECC_TV_REWRITES = satAdd (fldMax F.ECC_TV_REWRITES) (s.fld F.ECC_TV_REWRITES) 1 ∧ t.fld F.ECC_TV_LAST_WORD = w ∧
          ∀ q n j, q.addr n j ≠ Reg.ECC_TV.addr 0 0 → t.reg q n j = s.reg q n j)))

/-- RDMA_SEND, RDMA_WRITE, RDMA_READ, RDMA_ATOMIC and CONTEXT_FILL_COMPLETE (R303, R309 to R319, R328, R330). -/
def Obligations.RequestPackets : Prop :=
  ∀ (s u : State) (p : Packet) (bad : BadPages) (c : Conn) (id e va k n a b st nak ofs : Nat) (f l late broken cas : Bool) (d : Bytes) (r : MrEntry), s.power.running = true →
    (∀ h b, exec (.rdmaSend h b f l d) s = .next (s.recvPacket ⟨h, if b then .send f l d else .other⟩ [])) ∧
    (∀ h b, exec (.rdmaWrite h va k ofs f l b d) s = .next (s.recvPacket ⟨h, .write va k ofs f l b d⟩ [])) ∧
    (∀ h, exec (.rdmaRead h va k n bad) s = .next (s.under bad (fun s => s.recvPacket ⟨h, .read va k n⟩ bad))) ∧
    (∀ h b x, exec (.rdmaAtomic h va k b a x) s = .next (s.recvPacket ⟨h, .atomic va k b a x⟩ [])) ∧
    (s.conn p.hdr.conn = none → s.recvPacket p bad = s) ∧
    (s.conn p.hdr.conn = some c →
      ((p.hdr.opts = true ∨ 9216 < p.hdr.bytes) → s.recvPacket p bad = s) ∧
      (p.hdr.opts = false → p.hdr.bytes ≤ 9216 →
        (s.txOff = false → s.holdsGround c.desc.ground = true → c.state = .rts → s.recvPacket p bad = s.modNet (fun n => { n with held := n.held ++ [(p, bad)] })) ∧
        ((s.txOff = true ∨ (c.state ≠ .rts ∧ c.state ≠ .resync) ∨ (s.hearsGround c.desc.ground = false ∧ (s.holdsGround c.desc.ground = false ∨ c.state ≠ .rts))) → s.recvPacket p bad = s) ∧
        (s.txOff = false → s.hearsGround c.desc.ground = true → (c.state = .rts ∨ c.state = .resync) → ∃ (w : State) (c' : Conn), w.conn p.hdr.conn = some c' ∧ c'.epsn = c.epsn ∧ c'.recv = c.recv ∧
          c'.heard = s.num ∧ c'.pkts = c.pkts + 1 ∧ w.mem = s.mem ∧ w.dp = s.dp ∧ w.net.missq = s.net.missq ∧
          s.recvPacket p bad = (if c.cached && !(s.net.missq.any (fun x => x.pkt.hdr.conn == c.id)) then w.handle p bad else w.enqueueMiss c p))) ∧
      (c.state = .rts → c.desc.spray = false → s.handle p bad = (s.handleStd c p bad).sackEvery p.hdr.conn) ∧
      (c.state = .rts → c.desc.spray = true → s.handle p bad = (s.handleSpray c p bad).sackEvery p.hdr.conn) ∧
      (c.state = .resync → s.handle p bad = (s.handleResync c p bad).sackEvery p.hdr.conn)) ∧
    (s.missRoom c.motif (s.missClass c.desc.ground p.hdr.dscp) p.hdr.bytes = true →
      (s.enqueueMiss c p).net.missq = s.net.missq ++ [⟨c.motif, s.missClass c.desc.ground p.hdr.dscp, p⟩] ∧ (s.enqueueMiss c p).mem = s.mem ∧ (s.enqueueMiss c p).dp = s.dp) ∧
    (s.missRoom c.motif (s.missClass c.desc.ground p.hdr.dscp) p.hdr.bytes = false → s.enqueueMiss c p = (s.bump F.RDM_CNT_MISS_DROP 1 c.motif).setEvt F.RDM_EVT_MISS_DROP c.motif) ∧
    (psnAhead c.arrives p.hdr.psn = 0 → c.early ≠ [] → s.handleStd c p bad = s.holdPacket c p c.arrives) ∧
    (psnAhead c.arrives p.hdr.psn = 0 → c.early = [] →
      (s.runOp c c.epsn p.op bad = (u, .done) → s.handleStd c p bad = u.passPsns c p.op) ∧ (s.runOp c c.epsn p.op bad = (u, .waits) → s.handleStd c p bad = u.holdPacket c p c.epsn) ∧
      (s.runOp c c.epsn p.op bad = (u, .refused) → s.handleStd c p bad = u)) ∧
    (0 < psnAhead c.arrives p.hdr.psn → psnAhead c.arrives p.hdr.psn < 2 ^ 23 → s.handleStd c p bad = s.emit (.seqNak c.id (c.arrives % 2 ^ 24))) ∧
    (2 ^ 23 ≤ psnAhead c.arrives p.hdr.psn → s.handleStd c p bad =
      (if c.epsn ≤ c.arrives + psnAhead c.arrives p.hdr.psn - 2 ^ 24 then s else s.duplicate c (c.arrives + psnAhead c.arrives p.hdr.psn - 2 ^ 24) p.op bad)) ∧
    (1023 < psnAhead c.epsn p.hdr.psn → psnAhead c.epsn p.hdr.psn < 2 ^ 23 → s.handleSpray c p bad = s.bump F.RDM_CNT_WINDOW_DROP 1 c.motif) ∧
    (psnAhead c.epsn p.hdr.psn ≤ 1023 →
      (c.epsn + psnAhead c.epsn p.hdr.psn ∈ c.marks → s.handleSpray c p bad = s.sprayProgress c.id bad) ∧
      (c.epsn + psnAhead c.epsn p.hdr.psn ∉ c.marks →
        (∀ v k o g l i d, p.op = .write v k o g l i d →
          (s.runOp c (c.epsn + psnAhead c.epsn p.hdr.psn) p.op bad = (u, .done) → s.handleSpray c p bad = u.sprayArrive c (c.epsn + psnAhead c.epsn p.hdr.psn) p bad) ∧
          (s.runOp c (c.epsn + psnAhead c.epsn p.hdr.psn) p.op bad = (u, .waits) → s.handleSpray c p bad = u.modNet (fun n => { n with late := n.late ++ [(p, bad)] })) ∧
          (s.runOp c (c.epsn + psnAhead c.epsn p.hdr.psn) p.op bad = (u, .refused) → s.handleSpray c p bad = u)) ∧
        ((∃ g l d, p.op = .send g l d) ∨ (∃ v k n, p.op = .read v k n) ∨ (∃ v k x a b, p.op = .atomic v k x a b) →
          s.handleSpray c p bad = s.sprayArrive c (c.epsn + psnAhead c.epsn p.hdr.psn) p bad) ∧
        (p.op = .other → s.handleSpray c p bad = s.connError c.id 1 0x2B03))) ∧
    s.runOp c e .other bad = (s.connError c.id 1 0x2B03, .refused) ∧
    (∀ msg, msg = (if f then [] else c.part) ++ d →
      (s.recvMax c < msg.length → s.runOp c e (.send f l d) bad = (s.connError c.id 1 0x2B03, .refused)) ∧
      (msg.length ≤ s.recvMax c → l = false → s.runOp c e (.send f l d) bad = (s.modConn c.id (fun c => { c with part := msg }), .done)) ∧
      (msg.length ≤ s.recvMax c → l = true → (c.toFirmware = false ∨ s.isReplConn c.id = true) →
        s.runOp c e (.send f l d) bad = (s.modConn c.id (fun c => { c with part := [], recv := c.recv ++ [(e % 2 ^ 32, msg)] }), .done)) ∧
      (msg.length ≤ s.recvMax c → l = true → c.toFirmware = true → s.isReplConn c.id = false → s.runOp c e (.send f l d) bad =
        (if s.fwRxRoom then ((s.modConn c.id (fun c => { c with part := [] })).fwRx c.motif c.port msg none, .done) else (s.sendRnr c e, .refused)))) ∧
    (s.twinDegraded c = false →
      (s.keyCheck c 2 va k d.length = none → s.runOp c e (.write va k ofs f l cas d) bad = (s.connError c.id 2 0x2B02, .refused)) ∧
      (s.keyCheck c 2 va k d.length = some r → r.kind = 1 →
        ((s.engineWrite c.desc.cls (r.target + (va - r.base)) d).2 = 0 → s.runOp c e (.write va k ofs f l cas d) bad = ((s.engineWrite c.desc.cls (r.target + (va - r.base)) d).1, .done)) ∧
        (s.engineWrite c.desc.cls (r.target + (va - r.base)) d = (u, st) → st ≠ 0 → s.runOp c e (.write va k ofs f l cas d) bad = (u.connError c.id 3 st, .refused))) ∧
      (s.keyCheck c 2 va k d.length = some r → r.kind ≠ 1 → s.liveNs r.nsid = none → s.runOp c e (.write va k ofs f l cas d) bad = (s.connError c.id 2 0x2B02, .refused)) ∧
      (∀ x, s.keyCheck c 2 va k d.length = some r → r.kind ≠ 1 → s.liveNs r.nsid = some x → s.runOp c e (.write va k ofs f l cas d) bad =
        (if x.ground = c.desc.ground then s.runNsWrite c e r x va ofs l d else (s.connError c.id 2 0x2B02, .refused)))) ∧
    (s.twinDegraded c = true → s.runOp c e (.write va k ofs f l cas d) bad = ((if l then s.emit (.twinDegraded c.id (e % 2 ^ 32)) else s), .done)) ∧
    (c.desc.twin = true → s.runOp c e (.read va k n) bad = (s.connError c.id 1 0x2B03, .refused)) ∧
    (c.desc.twin = false → c.writesBefore e = true → s.runOp c e (.read va k n) bad = (s, .waits)) ∧
    (c.desc.twin = false → c.writesBefore e = false →
      (s.keyCheck c 3 va k n = none → s.runOp c e (.read va k n) bad = (s.connError c.id 2 0x2B02, .refused)) ∧
      (s.keyCheck c 3 va k n = some r → r.kind = 1 →
        (s.engineRead c.desc.cls (r.target + (va - r.base)) n = (u, .ok d) → s.runOp c e (.read va k n) bad = (u.readResponse c.id (e % 2 ^ 24) va k d, .done)) ∧
        (s.engineRead c.desc.cls (r.target + (va - r.base)) n = (u, .error st) → s.runOp c e (.read va k n) bad = (u.connError c.id 3 st, .refused))) ∧
      (s.keyCheck c 3 va k n = some r → r.kind ≠ 1 →
        (s.liveNs r.nsid = none → s.runOp c e (.read va k n) bad = (s.connError c.id 2 0x2B02, .refused)) ∧
        (∀ x y w, s.liveNs r.nsid = some x → y = r.target + (va - r.base) / x.step → w = (if n = 0 then 0 else (va - r.base + n - 1) / x.step - (va - r.base) / x.step + 1) →
          s.runOp c e (.read va k n) bad = (if x.ground ≠ c.desc.ground ∨ x.size < y + w then (s.connError c.id 2 0x2B02, .refused)
            else (s.startRead (.rdma c.id (e % 2 ^ 24) ((va - r.base) % x.step) n va k) x y w c.desc.cls bad, .done))))) ∧
    ((c.desc.twin = true ∨ va % 8 ≠ 0) → s.runOp c e (.atomic va k cas a b) bad = (s.connError c.id 1 0x2B03, .refused)) ∧
    (c.desc.twin = false → va % 8 = 0 →
      (c.writesBefore e = true → s.runOp c e (.atomic va k cas a b) bad = (s, .waits)) ∧
      (c.writesBefore e = false → s.keyEntry c va k 8 = none → s.runOp c e (.atomic va k cas a b) bad = (s.connError c.id 2 0x2B02, .refused)) ∧
      (c.writesBefore e = false → s.keyEntry c va k 8 = some r →
        (r.kind = 2 → s.runOp c e (.atomic va k cas a b) bad = (s.connError c.id 1 0x2B03, .refused)) ∧
        (r.kind ≠ 2 → bit r.rights 4 = false → s.runOp c e (.atomic va k cas a b) bad = (s.connError c.id 2 0x2B02, .refused)) ∧
        (r.kind ≠ 2 → bit r.rights 4 = true →
          (s.engineRead c.desc.cls (r.target + (va - r.base)) 8 = (u, .error st) → s.runOp c e (.atomic va k cas a b) bad = (u.connError c.id 3 st, .refused)) ∧
          (∀ w y old new, s.engineRead c.desc.cls (r.target + (va - r.base)) 8 = (u, .ok d) → old = leNat d → new = (if cas then (if old = a then b else old) else (old + a) % 2 ^ 64) →
            (u.engineWrite c.desc.cls (r.target + (va - r.base)) (leBytes 8 new) = (w, st) → st ≠ 0 → s.runOp c e (.atomic va k cas a b) bad = (w.connError c.id 3 st, .refused)) ∧
            (u.engineWrite c.desc.cls (r.target + (va - r.base)) (leBytes 8 new) = (w, 0) → y = w.modConn c.id (fun c => { c with atomics := c.atomics ++ [(e, old)] }) →
              (y.mirrors = false → s.runOp c e (.atomic va k cas a b) bad = (y.emit (.rdmaAtomic c.id (e % 2 ^ 24) old), .done)) ∧
              (y.mirrors = true → ∃ z q, y.sendMirror { MirrorFrame.of c.motif c.desc.ground with first := true, last := true, atomic := true, conn := c.id, opSeq := e % 2 ^ 32, ackSeq := c.acked % 2 ^ 32, result := old } = (z, q) ∧
                s.runOp c e (.atomic va k cas a b) bad =
                ((z.modConn c.id (fun c => { c with writes := c.writes ++ [(e, 0)] })).modPair (fun p => { p with answers := p.answers ++ [⟨c.motif, q, c.id, e, old⟩] }), .done))))))) ∧
    (s.reachesAll (.engine n) true a d.length = false → s.engineWrite n a d = (s, 0x2F01)) ∧
    (s.reachesAll (.engine n) true a d.length = true → regionOf a = .regs → s.engineWrite n a d = (s, 0)) ∧
    (s.reachesAll (.engine n) true a d.length = true → regionOf a ≠ .regs → (s.engineWrite n a d).2 = 0 ∧ (∀ j < d.length, (s.engineWrite n a d).1.memByte (a + j) = d.getD j 0) ∧
      ∀ x, x < a ∨ a + d.length ≤ x → (s.engineWrite n a d).1.memByte x = s.memByte x) ∧
    (s.conn id = some c → (c.state = .rts ∨ c.state = .resync) → ∃ w : State, s.connError id nak st = (w.modConn id (fun c => { c with state := .error })).flushConn c ∧ w.conn id = some c ∧
      w.fld F.RDM_ERR_STATUS c.motif = st % 2 ^ 16 ∧ w.fld F.RDM_ERR_CONN_ID c.motif = id % 2 ^ 32 ∧ w.flag F.RDM_EVT_CONN_ERR c.motif = true ∧
      (nak ≠ 0 → s.txOff = false → .nak id nak st ∈ w.outbox) ∧ w.mem = s.mem) ∧
    exec (.contextFillComplete id late broken bad) s = .next (s.under bad (fun s => match s.conn id with
      | none => s
      | some c => if c.cached || !(s.net.missq.any (fun x => x.pkt.hdr.conn == id)) then s
        else if broken then (((s.setEvt F.RDM_EVT_CTX_LOST c.motif).connError id 3 0x7B0A).modNet (fun n => { n with missq := n.missq.filter (fun x => x.pkt.hdr.conn != id) })).syncMissq c.motif
        else match s.evictFor c with | none => s | some t => (if late then t.bump F.RDM_CNT_LATE_FETCH 1 c.motif else t).fillContext c bad)) ∧
    ((s.setMembers c.motif (s.ctxSet c.id)).length < 8 → s.evictFor c = some s) ∧
    (s.conn c.id = some c → ∃ w : State, s.fillContext c bad = w.drainMiss c.id bad s.net.missq.length ∧ w.conn c.id = some { c with cached := true } ∧ w.net.missq = s.net.missq)

/-- RDMA_ACK_RECEIVE, SPRAY_GAP_TIMEOUT, READ_RESPONSE_GAP, LOCAL_ACK_TIMEOUT, RNR_RETRY_TIMER, PATH_SUSPEND_EXPIRY, CNP_RECEIVE, CC_RATE_TIMER, CONN_CREATE, CONN_DESTROY,
CONN_ERROR_CMD, TIMEWAIT_EXPIRY, MR_VALIDATE, MR_REVOKE and REVOKE_DRAIN_COMPLETE (R306 to R309, R322 to R332). -/
def Obligations.RequesterAndCommands : Prop :=
  ∀ (s : State) (id m v sub k p e b hi mp va n path x st : Nat) (r ce : Bool) (c : Conn), s.power.running = true →
    (s.conn id = none → ∀ i ∈ [Instr.localAckTimeout id, .sprayGapTimeout id, .cnpReceive id ce, .ccRateTimer id, .timewaitExpiry id, .rnrRetryTimer id, .pathSuspendExpiry id path,
      .readResponseGap id p va n, .rdmaAckReceive id k p e b hi mp r], exec i s = .next s) ∧
    (s.conn id = some c →
      (c.state ≠ .rts → c.state ≠ .resync → ∀ i ∈ [Instr.localAckTimeout id, .sprayGapTimeout id, .rnrRetryTimer id, .readResponseGap id p va n, .rdmaAckReceive id k p e b hi mp r],
        exec i s = .next s) ∧
      ((c.state = .rts ∨ c.state = .resync) →
        (c.desc.spray = false → exec (.rdmaAckReceive id 0 p e b hi mp r) s = .next (s.modConn id (fun c => c.ackedTo (c.sentExt p)))) ∧
        (c.desc.spray = true → exec (.rdmaAckReceive id 0 p e b hi mp r) s = .next ((s.modConn id (fun c => c.ackedTo (c.sentExt p))).takeSack (c.ackedTo (c.sentExt p)) b hi mp r)) ∧
        exec (.rdmaAckReceive id 1 p e b hi mp r) s = .next (s.modConn id (fun c => { c with rnr := some (c.sentExt p) })) ∧
        exec (.rdmaAckReceive id (2 + k) p 0 b hi mp r) s = .next ((s.modConn id (fun c => c.ackedTo (c.sentExt p - 1))).resendAll id) ∧
        exec (.rdmaAckReceive id (2 + k) p (1 + e) b hi mp r) s = .next (s.connError id 0 0x4B05) ∧
        (c.sent = [] → exec (.localAckTimeout id) s = .next s) ∧
        (c.sent ≠ [] → c.retries = 0 → exec (.localAckTimeout id) s = .next (s.connError id 0 0x4B04)) ∧
        (c.sent ≠ [] → c.retries ≠ 0 → exec (.localAckTimeout id) s = .next ((s.modConn id (fun c => { c with retries := c.retries - 1 })).resendAll id)) ∧
        (c.rnr = none → exec (.rnrRetryTimer id) s = .next s) ∧
        (c.rnr ≠ none → c.desc.rnrRetry ≠ 7 → c.rnrLeft = 0 → exec (.rnrRetryTimer id) s = .next (s.connError id 0 0x4B04)) ∧
        (c.rnr ≠ none → (c.desc.rnrRetry = 7 ∨ c.rnrLeft ≠ 0) → exec (.rnrRetryTimer id) s =
          .next ((s.modConn id (fun c => { c with rnr := none, rnrLeft := c.rnrLeft - 1 })).resendAll id))) ∧
      (∀ y ≤ c.sentExt v, (∃ q ∈ c.sent, q.psn ≤ c.sentExt v) → ∀ q ∈ (c.ackedTo (c.sentExt v)).sent, y < q.psn) ∧
      s.resendAll id = s.each (c.sent.map (fun q => q.psn)) (fun s q => s.resend id q) ∧
      (∀ q, c.sent.find? (fun q => q.psn == p) = some q → ∃ t c', t = s.resend id p ∧ t.conn id = some c' ∧ c'.retries = c.retries ∧ c'.state = c.state ∧
        (s.txOff = false → t.outbox = s.outbox ++ [.packet id (p % 2 ^ 24) (c.openPaths.headD 0) q.data]) ∧
        t.fld F.RDM_CNT2_RETRANS c.motif = satAdd (fldMax F.RDM_CNT2_RETRANS) (s.fld F.RDM_CNT2_RETRANS c.motif) 1) ∧
      (c.desc.spray = true → c.state = .rts → c.marks ≠ [] → c.gapSince + s.gapUnits c.motif ≤ s.units → exec (.sprayGapTimeout id) s =
        .next ((s.emit (.sack c.id (c.acked % 2 ^ 24) (sackHeader (c.epsn % 2 ^ 24) (c.high % 2 ^ 24) c.sackMap false))).bump F.RDM_CNT2_SACK_GAP 1 c.motif)) ∧
      ((c.desc.spray = false ∨ c.state ≠ .rts ∨ c.marks = [] ∨ s.units < c.gapSince + s.gapUnits c.motif) → exec (.sprayGapTimeout id) s = .next s) ∧
      ((c.desc.spray = false ∨ c.state ≠ .rts) → exec (.readResponseGap id p va n) s = .next s) ∧
      (c.desc.spray = true → c.state = .rts → exec (.readResponseGap id p va n) s = .next ((s.emit (.readRetry id p va n)).bump F.RDM_CNT2_RETRANS 1 c.motif)) ∧
      exec (.pathSuspendExpiry id path) s = .next (s.modConn id (fun c => { c with suspended := c.suspended.filter (fun x => x.1 != path || decide (s.num < x.2 + 200)) })) ∧
      exec (.cnpReceive id ce) s = .next ((s.modConn id (fun c => { c with
        rate := max (c.rate * (1 - c.alpha / 2)) (s.fld F.RDM_CC_RATE_MIN_MBPS c.motif : Nat), alpha := (1 - s.ccGain c.motif) * c.alpha + s.ccGain c.motif,
        ccSince := s.units })).ecnCheck c false ce) ∧
      (s.units < c.ccSince + 200 * s.fld F.RDM_CC_TIMER_US c.motif → exec (.ccRateTimer id) s = .next s) ∧
      (c.ccSince + 200 * s.fld F.RDM_CC_TIMER_US c.motif ≤ s.units → exec (.ccRateTimer id) s = .next (s.modConn id (fun c => { c with
        alpha := (1 - s.ccGain c.motif) * c.alpha, rate := min (c.rate + (s.fld F.RDM_CC_AI_MBPS c.motif : Nat)) (s.lineRate c.motif c.port : Nat), ccSince := s.units }))) ∧
      ((c.state ≠ .timewait ∨ s.num < c.timewaitAt + 200 * s.fld F.RDM_CTL_TIMEWAIT_MS c.motif) → exec (.timewaitExpiry id) s = .next s) ∧
      (c.state = .timewait → c.timewaitAt + 200 * s.fld F.RDM_CTL_TIMEWAIT_MS c.motif ≤ s.num → ∃ t, exec (.timewaitExpiry id) s = .next t ∧ t.conn id = none ∧
        Sparse.get 0 t.net.gens (id % 2 ^ 24) = (id / 2 ^ 24 + 1) % 256 ∧ t.net.conns = s.net.conns.filter (fun x => x.id != id))) ∧
    (exec (.connCreate m v sub) s = .next (s.writeConnCmd m v sub) ∧ exec (.connDestroy m v) s = .next (s.writeConnCmd m v 0) ∧ exec (.connErrorCmd m v) s = .next (s.writeConnCmd m v 0) ∧
      exec (.mrValidate v) s = .next (s.writeMrCmd v) ∧ exec (.mrRevoke v) s = .next (s.writeMrCmd v)) ∧
    ((s.hasMotif m = false ∨ s.flag F.RDM_CONN_CMD_BUSY m = true) → s.writeConnCmd m v sub = s) ∧
    (∀ u, s.hasMotif m = true → s.flag F.RDM_CONN_CMD_BUSY m = false → u = s.softWrite .RDM_CONN_CMD m 0 v →
      (bit v 63 = false → s.writeConnCmd m v sub = u) ∧
      (bit v 63 = true → (u.fld F.RDM_CONN_CMD_OP m = 1 → s.writeConnCmd m v sub = u.createConn m sub) ∧
        (u.fld F.RDM_CONN_CMD_OP m = 2 → s.writeConnCmd m v sub = u.destroyConn m (u.fld F.RDM_CONN_CMD_CONN_ID m)) ∧
        (u.fld F.RDM_CONN_CMD_OP m = 3 → s.writeConnCmd m v sub = u.errorConn m (u.fld F.RDM_CONN_CMD_CONN_ID m)) ∧
        (u.fld F.RDM_CONN_CMD_OP m = 0 → ∃ y, s.writeConnCmd m v sub = u.tookFree.endConnCmd m y))) ∧
    ((s.flag F.RDM_CTX_BASE_EN m = false ∨ s.freeIndex m = none) → s.createConn m sub = s.endConnCmd m 0x6B06) ∧
    (∀ idx, s.flag F.RDM_CTX_BASE_EN m = true → s.freeIndex m = some idx →
      (s.pinsFull (s.connDesc m).ground m = true → s.createConn m sub = (s.setEvt F.RDM_EVT_PIN_FULL m).endConnCmd m 0x6B07) ∧
      (s.pinsFull (s.connDesc m).ground m = false → s.serves (s.connDesc m).ground = false → s.isTwin (s.connDesc m).ground = false → s.createConn m sub = s.endConnCmd m 0x1406) ∧
      (m < 8 → s.pinsFull (s.connDesc m).ground m = false → (s.serves (s.connDesc m).ground = true ∨ s.isTwin (s.connDesc m).ground = true) → ∃ t y, t = s.createConn m sub ∧
        t.net.conns = s.net.conns ++ [y] ∧ y.state = .rts ∧ y.desc = s.connDesc m ∧ y.motif = m ∧ y.port = sub ∧ y.id % 2 ^ 24 = (s.headId * 2 ^ 21 + idx) % 2 ^ 24 ∧
        t.fld F.RDM_CONN_CMD_CONN_ID m = y.id % 2 ^ 32 ∧ t.fld F.RDM_CONN_CMD_STATUS m = 0 ∧ t.flag F.RDM_CONN_CMD_GO m = false)) ∧
    (m < 8 → ∃ t, t = s.endConnCmd m st ∧ t.fld F.RDM_CONN_CMD_STATUS m = st % 2 ^ 16 ∧ t.flag F.RDM_CONN_CMD_GO m = false ∧ t.flag F.RDM_CONN_CMD_BUSY m = false ∧ t = { s with regs := t.regs }) ∧
    (s.conn id = some c → (c.state = .rts ∨ c.state = .error ∨ c.state = .resync) → s.destroyConn m id =
      (((s.modConn id (fun c => { c with state := .timewait, timewaitAt := s.num })).flushConn c).journalConn c 0).endConnCmd m 0) ∧
    ((s.conn id = none ∨ ∃ c, s.conn id = some c ∧ c.state ≠ .rts ∧ c.state ≠ .error ∧ c.state ≠ .resync) → ∃ y, s.destroyConn m id = s.tookFree.endConnCmd m y) ∧
    (s.conn id = some c → (c.state = .rts ∨ c.state = .resync) → s.errorConn m id = (s.connError id 0 0x4B05).endConnCmd m 0) ∧
    ((s.conn id = none ∨ ∃ c, s.conn id = some c ∧ c.state ≠ .rts ∧ c.state ≠ .resync) → ∃ y, s.errorConn m id = s.tookFree.endConnCmd m y) ∧
    (s.flag F.RDM_MR_CMD_BUSY = true → s.writeMrCmd v = s) ∧
    (∀ u, s.flag F.RDM_MR_CMD_BUSY = false → u = s.softWrite .RDM_MR_CMD 0 0 v → x = u.fld F.RDM_MR_CMD_INDEX →
      (bit v 63 = false → s.writeMrCmd v = u) ∧
      (bit v 63 = true →
        (u.fld F.RDM_MR_CMD_OP = 1 → s.writeMrCmd v = (if (u.mrEntry x).state = 0 ∧ x ≠ 0 then (u.setMrState x 1).endMrCmd 0 else u.endMrCmd 0x2B08)) ∧
        (u.fld F.RDM_MR_CMD_OP = 2 → s.writeMrCmd v = (if (u.mrEntry x).state = 1 then ((u.setMrState x 2).setFld F.RDM_MR_CMD_BUSY 1).modNet (fun n => { n with revoking := some x })
          else u.endMrCmd 0x2B08)) ∧
        (u.fld F.RDM_MR_CMD_OP ≠ 1 → u.fld F.RDM_MR_CMD_OP ≠ 2 → ∃ y, s.writeMrCmd v = u.tookFree.endMrCmd y))) ∧
    (∃ t, t = s.endMrCmd st ∧ t.fld F.RDM_MR_CMD_STATUS = st % 2 ^ 16 ∧ t.flag F.RDM_MR_CMD_GO = false ∧ t.flag F.RDM_MR_CMD_BUSY = false ∧ t.flag F.RDM_EVT_MR_DONE = true ∧ t.mem = s.mem ∧
      t.net = s.net) ∧
    (st < 4 → ∃ t, t = s.setMrState x st ∧ (t.mrEntry x).state = st ∧ (t.mrEntry x).key = (s.mrEntry x).key ∧ ∀ a, a ≠ s.mrAddr x + 0x20 → t.memByte a = s.memByte a) ∧
    (s.net.revoking = none → exec .revokeDrainComplete s = .next s) ∧
    (s.net.revoking = some x → exec .revokeDrainComplete s = .next (if s.readingRegion x then s else ((s.setMrState x 0).modNet (fun n => { n with revoking := none })).endMrCmd 0))

/-- ETH_LINK_CHANGE, PFC_FRAME_RECEIVE, PAUSE_EXPIRY, FW_RX_FRAME and FW_TX_POST (R299 to R305). -/
def Obligations.NetworkPorts : Prop :=
  ∀ (s : State) (m b p n sp co un c h v : Nat) (up x : Bool) (l : List (Nat × Nat)) (f : Bytes) (ts : Option (Nat × Nat × Nat)) (arp : Option Nat), s.power.running = true →
    (s.hasSubPort m b = false → ∀ i ∈ [Instr.ethLinkChange m b up sp co un, .pfcFrameReceive m b p x l, .fwRxFrame m b f ts arp], exec i s = .next s) ∧
    (s.hasSubPort m b = true → m < 8 → b < 8 → ∃ t, exec (.ethLinkChange m b up sp co un) s = .next t ∧ t.flag F.NET_SUB_ST_UP m b = (up && !s.flag F.PKG_WIND_STOPPED) ∧
      t.fld F.NET_SUB_ST_SPEED m b = (if up && !s.flag F.PKG_WIND_STOPPED then sp % 8 else 0) ∧
      t.fld F.NET_SUB_ST_FEC_CORR m b = satAdd (fldMax F.NET_SUB_ST_FEC_CORR) (s.fld F.NET_SUB_ST_FEC_CORR m b) co ∧
      (∀ q y j, q.addr y j ≠ Reg.NET_SUB_ST.addr m b → t.reg q y j = s.reg q y j) ∧ t = { s with regs := t.regs, net := t.net } ∧
      ((up && !s.flag F.PKG_WIND_STOPPED) = true → t.net = s.net) ∧
      ((up && !s.flag F.PKG_WIND_STOPPED) = false → t.net.paused = s.net.paused.filter (fun x => !(x.1 == m && x.2.1 == b)) ∧ t.flag F.NET_SUB_ST_PAUSED m b = false)) ∧
    (s.hasSubPort m b = true →
      (((p = 8 ∧ s.fld F.NET_CTL_PFC_EN m = 0) ∨ (p < 8 ∧ bit (s.fld F.NET_CTL_PFC_EN m) p = true)) → ∃ u : State, exec (.pfcFrameReceive m b p x l) s = .next (u.pfcLevels m b l) ∧
        ((m, b, p) ∈ u.net.paused ↔ x = true) ∧ (∀ k, k ≠ (m, b, p) → (k ∈ u.net.paused ↔ k ∈ s.net.paused)) ∧
        u.flag F.NET_SUB_ST_PAUSED m b = u.net.paused.any (fun k => k.1 == m && k.2.1 == b) ∧ u = { s with regs := u.regs, net := u.net }) ∧
      (((p < 8 ∧ bit (s.fld F.NET_CTL_PFC_EN m) p = false) ∨ (p = 8 ∧ s.fld F.NET_CTL_PFC_EN m ≠ 0) ∨ 8 < p) → exec (.pfcFrameReceive m b p x l) s = .next (s.pfcLevels m b l))) ∧
    ((m, b, p) ∉ s.net.paused → exec (.pauseExpiry m b p l) s = .next s) ∧
    ((m, b, p) ∈ s.net.paused → ∃ u : State, exec (.pauseExpiry m b p l) s = .next (u.pfcLevels m b l) ∧ (m, b, p) ∉ u.net.paused ∧
      (∀ k, k ≠ (m, b, p) → (k ∈ u.net.paused ↔ k ∈ s.net.paused)) ∧ u = { s with regs := u.regs, net := u.net }) ∧
    (s.pfcLevels m b l = s.each l (fun s x => s.pfcLevel m b x.1 x.2)) ∧
    ((c = 0 ∨ s.prioOf m c = s.prioOf m 0 ∨ bit (s.fld F.NET_CTL_PFC_EN m) (s.prioOf m c) = false) → s.pfcLevel m b c h = s) ∧
    (c ≠ 0 → s.prioOf m c ≠ s.prioOf m 0 → bit (s.fld F.NET_CTL_PFC_EN m) (s.prioOf m c) = true →
      (75 < h → (m, b, s.prioOf m c) ∉ s.net.xoff → s.pfcLevel m b c h =
        (s.modNet (fun n => { n with xoff := n.xoff ++ [(m, b, s.prioOf m c)] })).emit (.pfc m b (s.prioOf m c) true)) ∧
      (h < 50 → (m, b, s.prioOf m c) ∈ s.net.xoff → s.pfcLevel m b c h =
        (s.modNet (fun n => { n with xoff := n.xoff.filter (fun x => x != (m, b, s.prioOf m c)) })).emit (.pfc m b (s.prioOf m c) false)) ∧
      ((50 ≤ h ∧ h ≤ 75) ∨ (75 < h ∧ (m, b, s.prioOf m c) ∈ s.net.xoff) ∨ (h < 50 ∧ (m, b, s.prioOf m c) ∉ s.net.xoff) → s.pfcLevel m b c h = s)) ∧
    (s.txOff = true → exec (.fwRxFrame m b f ts arp) s = .next s) ∧
    (∀ u, s.hasSubPort m b = true → s.txOff = false → u = (match arp with | some g => if s.answersFor g (isArp f) then s.emit (.arpReply g) else s | none => s) →
      ((f.length < 60 ∨ 9212 < f.length) → exec (.fwRxFrame m b f ts arp) s = .next u) ∧
      (60 ≤ f.length → f.length ≤ 9212 → exec (.fwRxFrame m b f ts arp) s = .next (u.fwRx m b f ts))) ∧
    (s.fwRxRoom = false → s.fwRx m b f ts = s) ∧
    (s.fwRxRoom = true → f.length ≤ 9212 → ∃ t a, t = s.fwRx m b f ts ∧ a = s.fld F.NET_FWRX_BASE_BASE * 16384 + 16384 * s.fld F.NET_FWQ_PTR_RX_TAIL ∧ t.load (a + 32) f.length = f ∧
      t.load a 32 = fwHeader f.length m b ts ∧ leAt (t.load a 32) 0 2 = f.length ∧
      t.fld F.NET_FWQ_PTR_RX_TAIL = (s.fld F.NET_FWQ_PTR_RX_TAIL + 1) % ringSlots (s.fld F.NET_FWRX_BASE_SIZE) % 4096 ∧ (s.hasMotif 0 = true → (0, 8, 0, 0x0C2) ∈ t.eip) ∧
      ∀ y, y < a ∨ a + 32 + f.length ≤ y → t.memByte y = s.memByte y) ∧
    (∀ u, u = s.softWrite .NET_FWQ_PTR 0 0 v → exec (.fwTxPost v n) s = .next (if u.flag F.NET_CTL_FWQ_EN then u.fwTx n (ringSlots (u.fld F.NET_FWTX_BASE_SIZE)) else u)) ∧
    (s.inLockSet .NET_FWQ_PTR 0 0 = false → ∃ u, u = s.softWrite .NET_FWQ_PTR 0 0 v ∧ u.fld F.NET_FWQ_PTR_TX_TAIL = bits v 59 48 ∧ u.fld F.NET_FWQ_PTR_RX_HEAD = bits v 11 0 ∧
      u.fld F.NET_FWQ_PTR_TX_HEAD = s.fld F.NET_FWQ_PTR_TX_HEAD ∧ u.fld F.NET_FWQ_PTR_RX_TAIL = s.fld F.NET_FWQ_PTR_RX_TAIL ∧ u = { s with regs := u.regs }) ∧
    s.fwTx n 0 = s ∧
    (∀ k e a d, k = ringSlots (s.fld F.NET_FWTX_BASE_SIZE) → e = s.fld F.NET_FWQ_PTR_TX_HEAD → a = s.fld F.NET_FWTX_BASE_BASE * 16384 + 16384 * e → d = s.load a 32 →
      (e = s.fld F.NET_FWQ_PTR_TX_TAIL % k → s.fwTx n (c + 1) = s) ∧
      (e ≠ s.fld F.NET_FWQ_PTR_TX_TAIL % k →
        (s.reachesAll (.engine 2) true a 16384 = false → s.fwTx n (c + 1) = (s.setFld F.NET_FWQ_PTR_TX_HEAD ((e + 1) % k)).fwTx n c) ∧
        (∀ w, s.reachesAll (.engine 2) true a 16384 = true → w = s.emit (.frame (byteAt d 2 % 8) (byteAt d 3 % 8) (s.load (a + 32) (leAt d 0 2))) →
          (bit (byteAt d 4) 1 = false → s.fwTx n (c + 1) = (w.setFld F.NET_FWQ_PTR_TX_HEAD ((e + 1) % k)).fwTx n c) ∧
          (bit (byteAt d 4) 1 = true → s.fwTx n (c + 1) = ((w.store (a + 4) (bytesOf [byteAt d 4 / 2 * 2 + 1, 0, 0, 0] ++ leBytes 8 s.num ++ leBytes 2 s.stc.phase ++ bytesOf [n % 5])).setFld
            F.NET_FWQ_PTR_TX_HEAD ((e + 1) % k)).fwTx n c))))

/-- RPL_SNAPSHOT, RPL_CLONE, RPL_DELETE, CUT_STITCH_REACHED, SNAPSHOT_READY and WALKER_RELEASE (R335 to R348). -/
def Obligations.Views : Prop :=
  ∀ (s u : State) (v m st op cut k : Nat) (l : List (Nat × Nat)) (vs : List View) (w : View) (x : Option Nat) (pc : PendingCut) (e : Nat × Nat) (bad : BadPages) (b : Bool),
    s.power.running = true →
    (∀ c ∈ [Instr.rplSnapshot v, .rplClone v, .rplDelete v], exec c s = .next (s.writeViewCmd v)) ∧
    (s.flag F.RPL_VIEW_CMD_BUSY = true → s.writeViewCmd v = s) ∧
    (s.flag F.RPL_VIEW_CMD_BUSY = false → u = s.softWrite .RPL_VIEW_CMD 0 0 v →
      (bit v 63 = false → s.writeViewCmd v = u) ∧
      (∀ y, bit v 63 = true → y = u.reachesAll (.engine 3) true (u.fld F.RPL_VIEW_LIST_ADDR * 8) (8 * min 64 (u.fld F.RPL_VIEW_CMD_COUNT)) →
        (y = false → s.writeViewCmd v = u.endViewCmd 0x2F01) ∧
        (y = true → u.fld F.RPL_VIEW_CMD_OP = 1 → s.writeViewCmd v = u.cmdSnapshot u.viewList) ∧
        (y = true → u.fld F.RPL_VIEW_CMD_OP = 2 → s.writeViewCmd v = u.cmdClone u.viewList) ∧
        (y = true → u.fld F.RPL_VIEW_CMD_OP = 3 → s.writeViewCmd v = u.cmdDelete u.viewList) ∧
        (y = true → u.fld F.RPL_VIEW_CMD_OP = 0 → ∃ q < 65536, s.writeViewCmd v = u.tookFree.endViewCmd q))) ∧
    (st < 65536 → ∃ t, t = s.endViewCmd st ∧ t.fld F.RPL_VIEW_CMD_STATUS = st ∧ t.flag F.RPL_VIEW_CMD_BUSY = false ∧ t.flag F.RPL_VIEW_CMD_GO = false ∧ t = { s with regs := t.regs }) ∧
    ((l = [] ∨ ∃ e ∈ l, ∀ y, s.med.maps.view e.1 = some y → y.state ≠ 4) → s.cmdSnapshot l = s.endViewCmd 0x2C01) ∧
    (l ≠ [] → l.map (fun e => s.med.maps.view e.1) = vs.map some → (∀ y ∈ vs, y.state = 4) → s.cmdSnapshot l = s.startCut 1 l vs) ∧
    ((l = [] ∨ ∃ e ∈ l, ∀ y, s.med.maps.view e.1 = some y → (y.state ≠ 4 ∧ ¬(y.state = 2 ∧ isSnapshotId y.id = true)) ∨ s.cloneTargetOk y e.2 = false) → s.cmdClone l = s.endViewCmd 0x2C01) ∧
    (l ≠ [] → l.map (fun e => s.med.maps.view e.1) = vs.map some → (∀ p ∈ vs.zip l, (p.1.state = 4 ∨ (p.1.state = 2 ∧ isSnapshotId p.1.id = true)) ∧ s.cloneTargetOk p.1 p.2.2 = true) →
      ((∃ y ∈ vs, y.state = 4) → s.cmdClone l = s.startCut 2 l vs) ∧
      ((∀ y ∈ vs, y.state ≠ 4) → s.cmdClone l = (s.each (vs.zip l) (fun s p => s.makeView p.1 p.2.2 false 0)).endViewCmd 0)) ∧
    ((l = [] ∨ ∃ e ∈ l, ∀ y, s.med.maps.view e.1 = some y → isSnapshotId y.id = false ∨ y.state = 3 ∨ s.owns y.ground = false) → s.cmdDelete l = s.endViewCmd 0x2C01) ∧
    (l ≠ [] → l.map (fun e => s.med.maps.view e.1) = vs.map some → (∀ y ∈ vs, isSnapshotId y.id = true ∧ y.state ≠ 3 ∧ s.owns y.ground = true) →
      ((∃ y ∈ vs, s.viewInUse y = true) → s.cmdDelete l = s.endViewCmd 0x2C06) ∧
      ((∀ y ∈ vs, s.viewInUse y = false) → s.cmdDelete l = (s.each vs (fun s y => s.deleteView y)).endViewCmd 0)) ∧
    (s.viewInUse w = true ↔ (w.state = 1 ∨ ∃ t ∈ s.rpl.targets, t.2.base = some w.id ∨ t.2.snap = some w.id)) ∧
    ((∃ y ∈ vs, s.owns y.ground = false) → s.flag F.STC_ST_PAIR_OK = false → s.startCut op l vs = s.endViewCmd 0x1C02) ∧
    (((∀ y ∈ vs, s.owns y.ground = true) ∨ s.flag F.STC_ST_PAIR_OK = true) → cut = s.fld F.RPL_VIEW_CUT_STITCH →
      ((cut < s.num + 2 ∨ s.num + 200000 < cut) → s.startCut op l vs = s.endViewCmd 0x2C03) ∧
      (s.num + 2 ≤ cut → cut ≤ s.num + 200000 →
        (8 ≤ s.rpl.cuts.length → s.startCut op l vs = s.endViewCmd 0x6C05) ∧
        (op = 1 → (∃ y ∈ vs, s.owns y.ground = true ∧ s.snapshotRoom y.id = false) → s.startCut op l vs = s.endViewCmd 0x6C05) ∧
        (s.rpl.cuts.length < 8 → (op ≠ 1 ∨ ∀ y ∈ vs, s.owns y.ground = false ∨ s.snapshotRoom y.id = true) → ∃ t, s.startCut op l vs = t ∧ t.flag F.RPL_VIEW_CMD_BUSY = true ∧
          t.rpl.cuts = s.rpl.cuts ++ [⟨op, cut, l, none⟩] ∧ t.med = s.med ∧ t.dp = s.dp ∧ t.mem = s.mem))) ∧
    ((∀ c ∈ s.rpl.cuts, s.num < c.cut) → exec .cutStitchReached s = .next s) ∧
    (s.rpl.cuts.find? (fun c => decide (c.cut ≤ s.num)) = some pc → exec .cutStitchReached s = .next (s.takeCut pc)) ∧
    (∀ (y : State) ids, y.cutAll pc ((List.range pc.views.length).zip pc.views) = (u, ids) → y = s.modRpl (fun r => { r with cuts := r.cuts.erase pc }) →
      (∀ t, pc.target = some t → s.takeCut pc = (u.modTarget t (fun x => { x with snap := (ids.head?).map (fun p => p.2) })).syncViews) ∧
      (pc.target = none → ∃ q, (q = 0 ∨ (q = 0x6C05 ∧ pc.op = 1 ∧ ids.length < pc.views.length)) ∧
        s.takeCut pc = (u.each ids (fun s p => s.store (u.fld F.RPL_VIEW_LIST_ADDR * 8 + 8 * p.1 + 2) (leBytes 2 p.2))).endViewCmd q)) ∧
    (s.med.maps.view e.1 = none → s.cutOne pc e = (s, none)) ∧
    (s.med.maps.view e.1 = some w →
      (s.owns w.ground = false → s.cutOne pc e = (s, none)) ∧
      (s.owns w.ground = true → pc.op = 2 → s.cutOne pc e = (s.makeView w e.2 false pc.cut, some e.2)) ∧
      (s.owns w.ground = true → pc.op ≠ 2 → (s.snapshotRoom w.id = false ∨ s.freeSnapshot = none) → s.cutOne pc e = (s, none)) ∧
      (s.owns w.ground = true → pc.op ≠ 2 → s.snapshotRoom w.id = true → s.freeSnapshot = some k → s.cutOne pc e = (s.tookFree.makeView w k pc.target.isSome pc.cut, some k) ∧
        4097 ≤ k ∧ k ≤ 65535 ∧ s.med.maps.view k = none)) ∧
    (∃ y, (s.makeView w k b cut).med.maps.view k = some y ∧ y.state = 1 ∧ y.source = w.id ∧ y.root = w.root ∧ y.cut = cut ∧ y.intern = b ∧ y.ground = w.ground ∧ y.size = w.size) ∧
    (∃ r : State → State, exec (.snapshotReady v bad) s = .next (s.under bad r) ∧ ∀ y : State,
      ((∀ z, y.med.maps.view v = some z → z.state ≠ 1 ∨ y.preCut z = true ∨ (∃ f ∈ y.med.flushes, f.nsid = z.source) ∨ y.owns z.ground = false) → r y = y) ∧
      (∀ z, y.med.maps.view v = some z → z.state = 1 → y.preCut z = false → (∀ f ∈ y.med.flushes, f.nsid ≠ z.source) → y.owns z.ground = true →
        r y = (match (List.range 64).find? (fun t => (y.viewReady z).targetOn t false && ((y.viewReady z).target t).snap == some v) with
          | some t => (y.viewReady z).startShipping t bad | none => y.viewReady z))) ∧
    (s.med.maps.view w.id = some w → w.state = 1 → ∃ t, s.viewReady w = t ∧ t.med.maps.view w.id = some { w with state := if isSnapshotId w.id then 2 else 4 } ∧ t.flag F.RPL_EVT_READY = true) ∧
    (s.walkDue m = false → exec (.walkerRelease m) s = .next s) ∧
    ((∀ p ∈ s.med.maps.toRelease, s.pageHome p.1 ≠ m) → exec (.walkerRelease m) s = .next s) ∧
    (∀ p, s.walkDue m = true → s.med.maps.toRelease.find? (fun p => s.pageHome p.1 == m) = some p →
      u = (s.modMed (fun d => { d with walks := Sparse.set 0 d.walks m s.num })).journalAll m (.walk p.1 p.2) →
      exec (.walkerRelease m) s = .next (State.syncViews (State.syncFp (State.pruneFps u.endDeletions))) ∧
      (s.ownedGrounds = [] → u.med.maps = s.med.maps.release p.1 p.2)) ∧
    (s.walkDue m = true ↔ (Sparse.get 0 s.med.walks m = 0 ∨ Sparse.get 0 s.med.walks m + max 1 (s.fld F.RPL_WALK_CTL_PERIOD) ≤ s.num)) ∧
    (∀ (q : Maps) p, Sparse.get default (q.release p 1).dirs p = default ∧ Sparse.get default (q.release p 0).pages p = default) ∧
    (s.med.maps.view w.id = some w → (s.deleteView w).med.maps.view w.id = none ∨ ∃ y, (s.deleteView w).med.maps.view w.id = some y ∧ y.state = 3 ∧ y.root = [] ∧ y.left ≠ []) ∧
    ((∀ y ∈ s.med.maps.views, y.state ≠ 3 ∨ y.left ≠ []) → s.endDeletions = s)

/-- EPOCH_BEGIN, QUERY, DATA, EPOCH_END, APPLIED, EPOCH_ACK, EPOCH_RESTART and REPL_LAG_ALARM (R349 to R357). -/
def Obligations.Replication : Prop :=
  ∀ (s u y z : State) (t ty st k : Nat) (bad : BadPages) (g : Bool) (r : State → ReplMsg → State) (m b : Bytes) (n : Namespace) (d : Domain) (e : QueryEnt) (msg : ReplMsg)
    (h : State → Namespace → Domain → State), s.power.running = true →
    ((s.targetOn t g = false ∨ s.replHead t ty = none) → s.onRepl t ty g r = s) ∧
    (s.targetOn t g = true →
      (s.replOpen t ty = some (u, m, .ok b) → s.onRepl t ty g r = r (u.replPop t) ⟨leAt m 2 2, leAt m 8 8, b⟩) ∧
      (s.replOpen t ty = some (u, m, .error 0x5701) → s.onRepl t ty g r =
        (if g then ((u.replPop t).targetStatus t 0x5C07).connError (s.fld F.RPL_TGT_CONN_CONN_ID 0 t) 0 0x5C07 else (u.replPop t).targetStatus t 0x5C07)) ∧
      (s.replOpen t ty = some (u, m, .error cipWaits) → s.onRepl t ty g r = u) ∧
      (s.replOpen t ty = some (u, m, .error 0x2703) → s.onRepl t ty g r = u.targetStatus t 0x2703) ∧
      (s.replOpen t ty = some (u, m, .error st) → st ≠ 0x5701 → st ≠ cipWaits → st ≠ 0x2703 → s.onRepl t ty g r = (u.replPop t).targetStatus t st)) ∧
    (s.targetOn t g = true ↔ (s.fuses.caps.optX = true ∧ t < 64 ∧ s.flag F.RPL_TGT_CTL_EN 0 t = true ∧ s.flag F.RPL_TGT_CTL_ROLE 0 t = g)) ∧
    (t < 64 → st < 65536 → (s.targetStatus t st).fld F.RPL_TGT_ST_STATUS 0 t = st ∧ s.targetStatus t st = { s with regs := (s.targetStatus t st).regs }) ∧
    ((y.target t).heldEpoch ≠ some msg.epoch → y.ofEpoch t msg h = y.sendRepl t 7 0 msg.epoch []) ∧
    ((y.target t).heldEpoch = some msg.epoch → (y.targetNs t = none → y.ofEpoch t msg h = y) ∧ (y.targetNs t = some n → y.domain n.domain = none → y.ofEpoch t msg h = y) ∧
      (y.targetNs t = some n → y.domain n.domain = some d → y.ofEpoch t msg h = h y n d)) ∧
    (∃ r, exec (.epochBegin t) s = .next (s.onRepl t 1 true r) ∧ ∀ (y : State) (msg : ReplMsg), (y.targetNs t = none → r y msg = y.targetStatus t 0x2C01) ∧
      ∀ n, y.targetNs t = some n → ((leAt msg.body 16 8 ≠ n.size ∨ y.owns n.ground = false) → r y msg = y.targetStatus t 0x2C01) ∧
        (leAt msg.body 16 8 = n.size → y.owns n.ground = true → ((r y msg).target t).heldEpoch = some msg.epoch ∧ ((r y msg).target t).staging = [] ∧
          ((r y msg).target t).asked = [] ∧ ((r y msg).target t).remoteCut = leAt msg.body 0 8 ∧
          (t < 64 → (r y msg).fld F.RPL_TGT_ST_STATE 0 t = 4 ∧ (r y msg).fld F.RPL_TGT_ST_EPOCH 0 t = msg.epoch % 2 ^ 32))) ∧
    (∃ h : ReplMsg → State → Namespace → Domain → State, exec (.query t) s = .next (s.onRepl t 2 true (fun y msg => y.ofEpoch t msg (h msg))) ∧
      ∀ (msg : ReplMsg) (y : State) (n : Namespace) (d : Domain) (l : List QueryEnt), l = (List.range (min 64 msg.count)).map (fun i => QueryEnt.parse (slice msg.body (56 * i) 56)) →
        h msg y n d = (y.applyQueries t n d 0 l).1.sendRepl t 3 1 msg.epoch (leBytes 8 (y.applyQueries t n d 0 l).2 ++ leBytes 8 ((l.headD default).chunk))) ∧
    (e.zero = true → y.applyQuery t n d e = (y.stage t n e.chunk ⟨0, e.tags⟩ [], true)) ∧
    (e.zero = false → (e.poison ≠ 0 ∨ y.fpLookup e.fp n.ground d = none) → y.applyQuery t n d e = (y.modTarget t (fun x => { x with asked := x.asked ++ [e] }), false)) ∧
    (∀ q, e.zero = false → e.poison = 0 → y.fpLookup e.fp n.ground d = some q → y.applyQuery t n d e = (y.stage t n e.chunk ⟨q.handle, e.tags⟩ [.refs q.handle 1], true)) ∧
    (∀ c v recs, getKey ((y.stage t n c v recs).target t).staging c = some v ∧ ((y.stage t n c v recs).target t).asked = (y.target t).asked) ∧
    (s.canSeal t = false → exec (.data t bad) s = .next s) ∧
    (s.canSeal t = true → ∃ f : Namespace → Domain → State → Nat × Bytes → State,
      exec (.data t bad) s = .next (s.under bad (fun s => s.onRepl t 4 true (fun y msg => y.ofEpoch t msg (fun y n d => y.each (dataEntries (min 64 msg.count) msg.body) (f n d))))) ∧
      ∀ (y : State) (n : Namespace) (d : Domain) (c : Nat) (x : Bytes), ((∀ q ∈ (y.target t).asked, q.chunk ≠ c) → f n d y (c, x) = y) ∧
        ∀ q, (y.target t).asked.find? (fun q => q.chunk == c) = some q →
          (x = [] → f n d y (c, x) = y.storeShipped t n d q (storedChunk (zeros (4096 * y.chunkAtoms n.ground)))) ∧
          (∀ (z : State) w, x ≠ [] → y.openShipped (y.homeMotif q.chunk) d x = (z, .ok w) → f n d y (c, x) = z.storeShipped t n d q w) ∧
          (∀ (z : State) w, x ≠ [] → y.openShipped (y.homeMotif q.chunk) d x = (z, .error w) → f n d y (c, x) = (if w = cipWaits then z else z.targetStatus t w))) ∧
    (bit (byteAt b 0x16) 0 = false → y.openShipped k d b = (y, .ok (slice b 48 (leAt b 0x14 2)))) ∧
    ((s.target t).heldEpoch.isSome = true → s.epochWhole t = false → exec (.epochEnd t) s = .next s) ∧
    (((s.target t).heldEpoch = none ∨ s.epochWhole t = true) → exec (.epochEnd t) s = .next (s.onRepl t 5 true (fun y msg => y.ofEpoch t msg (fun y n _ => y.switchEpoch t n)))) ∧
    (y.epochWhole t = true ↔ ((y.target t).asked = [] ∧ ∀ x ∈ (y.target t).staging, x.2.handle = 0 ∨ (y.med.maps.content x.2.handle).state = 2)) ∧
    (∃ q, y.switchEpoch t n = (y.addTxn n.ground 0 q false (.epoch t)).1.sendTxn (y.addTxn n.ground 0 q false (.epoch t)).2 ∧
      (∀ x ∈ (y.target t).staging, JRec.lmap [n.id] x.1 x.2 ∈ q) ∧ (y.switchEpoch t n).med.maps = y.med.maps ∧ (y.switchEpoch t n).rpl = y.rpl) ∧
    (∃ f : ReplMsg → State → State, exec (.applied t bad) s = .next (s.onRepl t 3 false (fun y msg => y.under bad (f msg))) ∧ ∀ (msg : ReplMsg) (y : State) (i : Nat) (l : List QueryEnt),
      i = (y.target t).asked.findIdx (fun q => q.chunk == leAt msg.body 8 8) → l = ((y.target t).asked.drop i).take 64 →
        ((msg.epoch ≠ (y.target t).epoch ∨ y.fld F.RPL_TGT_ST_STATE 0 t ≠ 2 ∨ l = []) → f msg y = y) ∧
        (msg.epoch = (y.target t).epoch → y.fld F.RPL_TGT_ST_STATE 0 t = 2 → l ≠ [] →
          f msg y = (y.modTarget t (fun x =>
            { x with asked := x.asked.take i ++ x.asked.drop (i + 64), owed := x.owed ++ ((List.range l.length).zip l).filterMap (fun p => if bit (leAt msg.body 0 8) p.1 then none else some p.2) })).ship t bad)) ∧
    (y.fld F.RPL_TGT_ST_STATE 0 t ≠ 2 → y.ship t bad = y ∧ y.endShipping t = y) ∧
    (y.fld F.RPL_TGT_ST_STATE 0 t = 2 → y.ship t bad = y.shipMore t bad ((y.target t).todo.length + (y.target t).owed.length + 1)) ∧
    (((y.target t).asked ≠ [] ∨ (y.target t).todo ≠ [] ∨ (y.target t).owed ≠ []) → y.endShipping t = y) ∧
    (y.fld F.RPL_TGT_ST_STATE 0 t = 2 → (y.target t).asked = [] → (y.target t).todo = [] → (y.target t).owed = [] → y.endShipping t =
      (y.sendRepl t 5 0 (y.target t).epoch (leBytes 8 (y.target t).queried ++ leBytes 8 (y.target t).shipped)).setTarget t 3 (y.target t).epoch) ∧
    ((y.targetNs t = none ∨ (y.target t).snap.bind y.med.maps.view = none) → y.shipMore t bad (k + 1) = y) ∧
    (∀ v l w, y.targetNs t = some n → (y.target t).snap.bind y.med.maps.view = some v → (y.target t).owed = [] →
      ((y.target t).todo = [] → y.shipMore t bad (k + 1) = y.endShipping t) ∧
      (∀ mo salt, (y.target t).todo ≠ [] → mo = (match y.targetConn t with | some c => c.motif | none => 0) → salt = (match y.domain n.domain with | some d => d.salt | none => zeros 32) →
        (y.queriesOf mo salt v.id bad ((y.target t).todo.take 64) = (u, .error w) → y.shipMore t bad (k + 1) = (if w < 65536 then u.targetStatus t w else u)) ∧
        (y.queriesOf mo salt v.id bad ((y.target t).todo.take 64) = (u, .ok l) →
          z = u.modTarget t (fun x => { x with todo := x.todo.drop 64, asked := x.asked ++ l, queried := x.queried + l.length }) →
          y.shipMore t bad (k + 1) = (z.sendRepl t 2 l.length (y.target t).epoch (l.flatMap QueryEnt.bytes)).shipMore t bad k))) ∧
    (∀ v w mo, y.targetNs t = some n → (y.target t).snap.bind y.med.maps.view = some v → (y.target t).owed ≠ [] → mo = (match y.targetConn t with | some c => c.motif | none => 0) →
      (y.datasOf mo v.id bad ((y.target t).owed.take 64) = (u, .error w) → y.shipMore t bad (k + 1) = (if w < 65536 then u.targetStatus t w else u)) ∧
      (y.datasOf mo v.id bad ((y.target t).owed.take 64) = (u, .ok b) →
        z = u.modTarget t (fun x => { x with owed := x.owed.drop 64, shipped := x.shipped + ((y.target t).owed.take 64).length }) →
        y.shipMore t bad (k + 1) = (z.sendRepl t 4 ((y.target t).owed.take 64).length (y.target t).epoch b).shipMore t bad k)) ∧
    (∃ r, exec (.epochAck t) s = .next (s.onRepl t 6 false r) ∧ ∀ (y : State) (msg : ReplMsg),
      ((y.targetNs t = none ∨ (y.target t).snap = none ∨ msg.epoch ≠ (y.target t).epoch ∨ y.fld F.RPL_TGT_ST_STATE 0 t ≠ 3) → r y msg = y) ∧
      (∀ n id, y.targetNs t = some n → (y.target t).snap = some id → msg.epoch = (y.target t).epoch → y.fld F.RPL_TGT_ST_STATE 0 t = 3 →
        ((r y msg).target t).base = some id ∧ ((r y msg).target t).snap = none ∧ ((r y msg).target t).ackedEpoch = msg.epoch ∧ (r y msg).flag F.RPL_EVT_ACKED = true ∧
        (r y msg).med.maps.repl = Sparse.set default y.med.maps.repl t ⟨msg.epoch, id, (y.target t).remoteCut⟩ ∧
        (t < 64 → (r y msg).fld F.RPL_TGT_ST_STATE 0 t = 0 ∧ (r y msg).fld F.RPL_TGT_LAG_ACKED_CUT 0 t = (y.target t).remoteCut % 2 ^ 64))) ∧
    (∃ r, exec (.epochRestart t bad) s = .next (s.onRepl t 7 false r) ∧ ∀ (y : State) (msg : ReplMsg),
      ((msg.epoch ≠ (y.target t).epoch ∨ (y.fld F.RPL_TGT_ST_STATE 0 t ≠ 2 ∧ y.fld F.RPL_TGT_ST_STATE 0 t ≠ 3)) → r y msg = y) ∧
      (msg.epoch = (y.target t).epoch → (y.fld F.RPL_TGT_ST_STATE 0 t = 2 ∨ y.fld F.RPL_TGT_ST_STATE 0 t = 3) →
        r y msg = y.under bad (fun y => (y.setEvt F.RPL_EVT_RESTART).startShipping t bad))) ∧
    ((y.targetNs t = none ∨ (y.target t).snap.bind y.med.maps.view = none) → y.startShipping t bad = y) ∧
    (∀ v, y.targetNs t = some n → (y.target t).snap.bind y.med.maps.view = some v → ∃ l, y.startShipping t bad =
      (((y.sendRepl t 1 0 (y.target t).epoch (leBytes 8 v.cut ++ leBytes 8 (y.target t).ackedEpoch ++ leBytes 8 n.size)).modTarget t
        (fun x => { x with todo := l, owed := [], asked := [], queried := 0, shipped := 0 })).setTarget t 2 (y.target t).epoch).ship t bad) ∧
    ((s.targetOn t false = false ∨ s.fld F.RPL_TGT_CTL_LAG_MAX 0 t = 0 ∨ s.num ≤ s.fld F.RPL_TGT_LAG_ACKED_CUT 0 t + s.fld F.RPL_TGT_CTL_LAG_MAX 0 t * 200000) →
      exec (.replLagAlarm t) s = .next s) ∧
    (s.targetOn t false = true → s.fld F.RPL_TGT_CTL_LAG_MAX 0 t ≠ 0 → s.fld F.RPL_TGT_LAG_ACKED_CUT 0 t + s.fld F.RPL_TGT_CTL_LAG_MAX 0 t * 200000 < s.num → ∃ q,
      exec (.replLagAlarm t) s = .next q ∧ q.flag F.RPL_EVT_LAG = true ∧ q = { s with regs := q.regs, eip := q.eip })

/-- CREATE_IO_CQ, CREATE_IO_SQ, DELETE_IO_SQ, DELETE_IO_CQ, GET_LOG_PAGE, NVME_IDENTIFY, ABORT, SET_FEATURES, GET_FEATURES, ASYNC_EVENT_REQUEST, NS_CREATE, NS_DELETE,
FIRMWARE_COMMIT, FIRMWARE_IMAGE_DOWNLOAD, NAMESPACE_ATTACHMENT, NVME_WRITE, NVME_READ, NVME_FLUSH, WRITE_ZEROES, DATASET_MANAGEMENT, VERIFY and FWC_DONE (R359 to R379). -/
def Obligations.NvmeCommands : Prop :=
  ∀ (s u y : State) (f : Fetch) (t : Taken) (k : Ctrl) (kind : QueueKind) (ready pf0 b c : Bool) (g : State → Taken → State) (q n v cq op out i a l : Nat) (e d : Bytes) (bad : BadPages)
    (ns : Namespace), s.power.running = true →
    (s.take f kind ready = none → s.onCmd f kind ready g = s) ∧
    (s.take f kind ready = some (u, t) → (u.ctrl t.cmd.ctl = none → s.onCmd f kind ready g = u) ∧ (u.ctrl t.cmd.ctl = some k →
      ((t.cmd.sq, t.cmd.cid) ∈ k.gone → s.onCmd f kind ready g = u.modCtrl k.id (fun c => { c with gone := c.gone.erase (t.cmd.sq, t.cmd.cid) })) ∧
      ((t.cmd.sq, t.cmd.cid) ∉ k.gone → s.onCmd f kind ready g = g u t))) ∧
    (s.onAdmin f g = s.onCmd f .admin true g ∧ s.onIo f g = s.onCmd f .io true g ∧ s.onReads f g = s.onCmd f .reads true g ∧
      s.onPf0 f g = s.onAdmin f (fun y t => if t.fabrics then y.completeWith t.cmd 0 0x2D01 0 [] else g y t) ∧ y.refuse t v = y.completeWith t.cmd 0 v 0 []) ∧
    (∀ x : Ctrl, f.conn = none → s.ctrl s.pf0Id = some x → ∀ z : SubQ, x.sqs.find? (fun z => z.qid == f.sq) = some z →
      ((x.cstate ≠ 1 ∨ x.cfs = true ∨ s.flag F.HQ_ST_FETCH_PAUSED = true ∨ s.mayIssue 0 = false ∨ kind.fits f.sq = false ∨ z.head = z.tail) → s.take f kind ready = none) ∧
      (x.cstate = 1 → x.cfs = false → s.flag F.HQ_ST_FETCH_PAUSED = false → s.mayIssue 0 = true → kind.fits f.sq = true → z.head ≠ z.tail → s.take f kind ready =
        some (s.modCtrl x.id (fun c => { c with sqs := mapWhere (fun z => z.qid == f.sq) (fun z => { z with head := (z.head + 1) % z.size, retries := 0 }) x.sqs }),
          ⟨⟨x.id, f.sq, f.cid⟩, false, none, 0⟩))) ∧
    (∀ id, f.conn = some id → (s.conn id = none ∨ s.queuesOf id = []) → s.take f kind ready = none) ∧
    (∀ id (w : Conn) ctl qid r seq m rest, f.conn = some id → s.conn id = some w → s.queuesOf id = (ctl, qid) :: r → s.ctrl ctl = some k → w.recv = (seq, m) :: rest →
      ((w.state ≠ .rts ∨ kind.fits qid = false ∨ (ready = true ∧ k.cstate ≠ 1) ∨ (kind = .reads ∧ w.writesSince seq = true) ∨ s.mayAccept w.motif = false) → s.take f kind ready = none) ∧
      (w.state = .rts → kind.fits qid = true → (ready = false ∨ k.cstate = 1) → (kind ≠ .reads ∨ w.writesSince seq = false) → s.mayAccept w.motif = true → s.take f kind ready =
        some ((s.accept w.motif).modConn id (fun c => { c with recv := rest, taken := c.taken + 1 }), ⟨⟨ctl, qid, f.cid⟩, true, some id, seq⟩))) ∧
    (∃ h, exec (.createIoCq f q n v b c) s = .next (s.onPf0 f h) ∧ ∀ (y : State) (t : Taken) (k : Ctrl), y.ctrl t.cmd.ctl = some k →
      ((q = 0 ∨ 256 < q ∨ ∃ x ∈ k.cqs, x.qid = q) → h y t = y.completeNamed t.cmd 1 0x01) ∧
      (q ≠ 0 → q ≤ 256 → (∀ x ∈ k.cqs, x.qid ≠ q) → ((n < 2 ∨ 4096 < n) → h y t = y.completeNamed t.cmd 1 0x02) ∧ (2 ≤ n → n ≤ 4096 →
        (c = false → h y t = y.refuse t 0x2D02) ∧ (c = true → 2048 ≤ v → h y t = y.completeNamed t.cmd 1 0x08) ∧
        (c = true → v < 2048 → h y t = (y.modCtrl k.id (fun c => { c with cqs := c.cqs ++ [⟨q, n, 0, 0, v, b⟩] })).succeed t.cmd 0 [])))) ∧
    (∃ h, exec (.createIoSq f q n cq c) s = .next (s.onPf0 f h) ∧ ∀ (y : State) (t : Taken) (k : Ctrl), y.ctrl t.cmd.ctl = some k →
      ((cq = 0 ∨ ∀ x ∈ k.cqs, x.qid ≠ cq) → h y t = y.completeNamed t.cmd 1 0x00) ∧
      (cq ≠ 0 → (∃ x ∈ k.cqs, x.qid = cq) → ((q = 0 ∨ 256 < q ∨ ∃ x ∈ k.sqs, x.qid = q) → h y t = y.completeNamed t.cmd 1 0x01) ∧
        (q ≠ 0 → q ≤ 256 → (∀ x ∈ k.sqs, x.qid ≠ q) → ((n < 2 ∨ 4096 < n) → h y t = y.completeNamed t.cmd 1 0x02) ∧ (2 ≤ n → n ≤ 4096 →
          (c = false → h y t = y.refuse t 0x2D02) ∧
          (c = true → h y t = (State.syncHq (y.modCtrl k.id (fun x => { x with sqs := x.sqs ++ [⟨q, cq, n, 0, 0, none, 0⟩] }))).succeed t.cmd 0 []))))) ∧
    (∃ h, exec (.deleteIoSq f q) s = .next (s.onPf0 f h) ∧ ∀ (y : State) (t : Taken) (k : Ctrl), y.ctrl t.cmd.ctl = some k →
      ((q = 0 ∨ ∀ x ∈ k.sqs, x.qid ≠ q) → h y t = y.completeNamed t.cmd 1 0x01) ∧
      (q ≠ 0 → (∃ x ∈ k.sqs, x.qid = q) → h y t = (State.syncHq ((y.abortCmds (fun c => c.ctl == k.id && c.sq == q) 0x1D06).modCtrl k.id
        (fun c => { c with sqs := c.sqs.filter (fun x => x.qid != q) }))).succeed t.cmd 0 [])) ∧
    (∃ h, exec (.deleteIoCq f q) s = .next (s.onPf0 f h) ∧ ∀ (y : State) (t : Taken) (k : Ctrl), y.ctrl t.cmd.ctl = some k →
      ((q = 0 ∨ ∀ x ∈ k.cqs, x.qid ≠ q) → h y t = y.completeNamed t.cmd 1 0x01) ∧
      (q ≠ 0 → (∃ x ∈ k.cqs, x.qid = q) → ((∃ x ∈ k.sqs, x.cq = q) → h y t = y.completeNamed t.cmd 1 0x0C) ∧
        ((∀ x ∈ k.sqs, x.cq ≠ q) → h y t = (y.modCtrl k.id (fun c => { c with cqs := c.cqs.filter (fun x => x.qid != q) })).succeed t.cmd 0 []))) ∧
    (exec (.nvmeIdentify f e) s = .next (s.toFirmware f 0x06 false e [] 4096) ∧ exec (.firmwareCommit f e) s = .next (s.toFirmware f 0x10 true e [] 0) ∧
      exec (.firmwareImageDownload f e d) s = .next (s.toFirmware f 0x11 true e d 0)) ∧
    (byteAt e 0 ≠ op → s.toFirmware f op pf0 e d out = s.onAdmin f (fun y t => y.refuse t 0x2D01)) ∧
    (byteAt e 0 = op → s.fwcRoom = false → s.toFirmware f op pf0 e d out = s) ∧
    (byteAt e 0 = op → s.fwcRoom = true → s.toFirmware f op pf0 e d out =
      (if pf0 then s.onPf0 f (fun y t => y.forward t f.nsid e d out) else s.onAdmin f (fun y t => y.forward t f.nsid e d out))) ∧
    ((65536 < d.length ∨ 65536 < out) → y.forward t n e d out = y.refuse t 0x2D02) ∧
    (d.length ≤ 65536 → out ≤ 65536 → i = y.fld F.HQ_FWC_PTR_TAIL % y.fwcSlots → (y.fwcReached i = false → y.forward t n e d out = y.refuse t 0x2F01) ∧
      (y.fwcReached i = true → ∃ r, r = y.forward t n e d out ∧ r.hq.fwc = y.hq.fwc ++ [⟨i, t.cmd, y.fwcSlot i, y.fwcBuf i⟩] ∧ r.hq.cmds = y.hq.cmds ++ [⟨t.cmd, .fw i, n⟩] ∧
        r.fld F.HQ_FWC_PTR_TAIL = (i + 1) % y.fwcSlots ∧ r.flag F.HQ_EVT_FWC = true ∧ r.dp = y.dp ∧ r.med = y.med ∧
        r.hq.ctrls = y.hq.ctrls)) ∧
    ((∀ z ∈ s.hq.fwc, z.idx ≠ i) → exec (.fwcDone i) s = .next s) ∧
    (∀ z w x m, s.hq.fwc.find? (fun z => z.idx == i) = some z → w = s.load z.slot 128 → x = s.modHq (fun h => { h with fwc := h.fwc.filter (fun x => x.idx != i) }) → m = min 65536 (leAt w 0x5C 4) →
      (bit (byteAt w 0x60) 0 = false → exec (.fwcDone i) s = .next s) ∧
      (bit (byteAt w 0x60) 0 = true → exec (.fwcDone i) s = .next
        (if s.poisoned z.buf m then x.completeWith z.cmd 1 0x5405 0 (s.load z.buf m) else x.fwComplete z.cmd w (s.load z.buf m))) ∧
      x.fwComplete z.cmd w d = x.finish ⟨z.cmd, leAt w 0x50 4 % 65536, leAt w 0x58 2 % 2 ^ 15, if leAt w 0x58 2 % 2 ^ 15 = 0 then leAt w 0x50 4 else leAt w 0x50 4 % 65536, leAt w 0x54 4, d⟩) ∧
    (v ∉ [0x02, 0x0C, 0xC0, 0xC1, 0xC2] → exec (.getLogPage f v a l e) s = .next (s.toFirmware f 0x02 false e [] l)) ∧
    (v ∈ [0x02, 0x0C, 0xC0, 0xC1, 0xC2] → ∃ h, exec (.getLogPage f v a l e) s = .next (s.onAdmin f h) ∧ ∀ (y : State) (t : Taken) (k : Ctrl), y.ctrl t.cmd.ctl = some k → ∃ r m,
      y.logPage k v = some (r, m) ∧ ((2 ^ 21 < l ∨ m.length < a) → h y t = r.refuse t 0x2D02) ∧ (l ≤ 2 ^ 21 → a ≤ m.length → h y t = r.succeed t.cmd 0 ((m.drop a).take l))) ∧
    (q ∉ [0x06, 0x07, 0x0B, 0x0F] → exec (.setFeatures f q v e d) s = .next (s.toFirmware f 0x09 false e d 0) ∧ exec (.getFeatures f q e out) s = .next (s.toFirmware f 0x0A false e [] out)) ∧
    (q ∈ [0x06, 0x07, 0x0B, 0x0F] → (∃ h, exec (.setFeatures f q v e d) s = .next (s.onAdmin f h) ∧ ∀ (y : State) (t : Taken),
        (q = 0x06 → h y t = (if bit v 0 then y.succeed t.cmd 0 [] else y.completeNamed t.cmd 1 0x0E)) ∧ (q = 0x07 → h y t = y.succeed t.cmd (y.queueCount t.fabrics) []) ∧
        (q = 0x0B → h y t = (y.modCtrl t.cmd.ctl (fun k => { k with aerCfg := v % 2 ^ 32 })).succeed t.cmd 0 []) ∧
        (q = 0x0F → h y t = (y.modCtrl t.cmd.ctl (fun k => { k with alive := y.num, kato := v % 2 ^ 32 })).succeed t.cmd 0 [])) ∧
      (∃ h, exec (.getFeatures f q e out) s = .next (s.onAdmin f h) ∧ ∀ (y : State) (t : Taken) (k : Ctrl), y.ctrl t.cmd.ctl = some k →
        (q = 0x06 → h y t = y.succeed t.cmd 1 []) ∧ (q = 0x07 → h y t = y.succeed t.cmd (y.queueCount t.fabrics) []) ∧ (q = 0x0B → h y t = y.succeed t.cmd k.aerCfg []) ∧
        (q = 0x0F → h y t = y.succeed t.cmd k.kato []))) ∧
    (∃ h, exec (.asyncEventRequest f) s = .next (s.onAdmin f h) ∧ ∀ (y : State) (t : Taken) m, m = (y.hq.cmds.filter (fun k => k.id.ctl == t.cmd.ctl && decide (k.kind = CmdKind.aer))).length →
      (4 ≤ m → h y t = y.completeNamed t.cmd 1 0x05) ∧ (m < 4 → h y t = (y.begin t .aer 0).reportEvents t.cmd.ctl)) ∧
    (∃ h, exec (.abort f q v b) s = .next (s.onAdmin f h) ∧ ∀ (y : State) (t : Taken) (id : CmdId), id = ⟨t.cmd.ctl, q, v⟩ → (8 ≤ y.abortsOut t.cmd.ctl → h y t = y.completeNamed t.cmd 1 0x03) ∧
      (y.abortsOut t.cmd.ctl < 8 →
        (∀ x, y.hq.cmds.find? (fun k => decide (k.id = id)) = some x → h y t = (if y.abortable x then (y.abortTarget id).endAbort t.cmd id else y.missAbort t.cmd)) ∧
        ((∀ x ∈ y.hq.cmds, x.id ≠ id) → (b = false ∨ y.hasUnfetched id = false) → h y t = y.missAbort t.cmd) ∧
        ((∀ x ∈ y.hq.cmds, x.id ≠ id) → b = true → y.hasUnfetched id = true → h y t =
          ((((y.modCtrl id.ctl (fun k => { k with gone := k.gone ++ [(q, v)] })).completeWith id 0 0x1D05 0 []).bump F.HQ_CNT_ABORTED).setEvt F.HQ_EVT_ABORT).endAbort t.cmd id))) ∧
    (y.endAbort t.cmd ⟨i, q, v⟩ = (y.modHq (fun h => { h with aborts := h.aborts ++ [(t.cmd, ⟨i, q, v⟩)] })).succeed t.cmd 0 [] ∧
      y.missAbort t.cmd = ((y.bump F.HQ_CNT_ABORT_MISSED).modHq (fun h => { h with aborts := h.aborts ++ [(t.cmd, t.cmd)] })).succeed t.cmd 1 []) ∧
    (∃ h, exec (.nsCreate f d) s = .next (s.onPf0 f h) ∧ ∀ (y : State) (t : Taken) (w : NsBuf), w = NsBuf.of d → (w.inRange = false → h y t = y.refuse t 0x2D02) ∧
      (w.inRange = true → y.createError w ≠ 0 → h y t = y.completeWith t.cmd 0 (y.createError w) w.ground []) ∧
      (∀ z, w.inRange = true → y.createError w = 0 → y.freeNsid = some z →
        (w.isView = false → h y t = State.succeed (State.syncViews (y.journal w.ground 0
          [.ns ⟨z, w.nsze, decide (w.flbas ≠ 0), decide (w.flbas = 0x11), w.ground, none, w.domain⟩, .view ⟨[], z, z, 4, false, 0, [], w.ground, w.domain, w.nsze⟩])) t.cmd z []) ∧
        (w.isView = true → h y t = State.succeed (State.syncViews (y.journal w.ground 0
          [.ns ⟨z, w.nsze, decide (w.flbas ≠ 0), decide (w.flbas = 0x11), w.ground, some w.source, ((y.med.maps.view w.source).getD default).domain⟩])) t.cmd z []))) ∧
    (∃ h, exec (.nsDelete f) s = .next (s.onPf0 f h) ∧ ∀ (y : State) (t : Taken), (y.liveNs f.nsid = none → h y t = y.refuse t 0x2D0C) ∧ ∀ x, y.liveNs f.nsid = some x →
      (y.serves x.ground = false → h y t = y.completeWith t.cmd 0 0x1406 x.ground []) ∧ (y.serves x.ground = true → y.nsReplicated x.id = true → h y t = y.refuse t 0x2C06) ∧
      (y.serves x.ground = true → y.nsReplicated x.id = false → ∃ z : State, z.hq.deleting = y.hq.deleting ++ [x.id] ∧ (∀ a ∈ z.hq.attach, a.1 ≠ x.id) ∧
        z.hq.cmds = y.hq.cmds ++ [⟨t.cmd, .nsDelete x.id, x.id⟩] ∧ h y t = (z.settleDeletes z.hq.cmds.length).postAll)) ∧
    (∀ ctls, ∃ h, exec (.namespaceAttachment f b ctls) s = .next (s.onAdmin f h) ∧ ∀ (y : State) (t : Taken), (y.liveNs f.nsid = none → h y t = y.refuse t 0x2D0C) ∧
      ∀ x, y.liveNs f.nsid = some x → (∀ z, ctls.findSome? (fun c => y.attachError x b c) = some z → h y t = y.completeNamed t.cmd 1 z) ∧
        ((∀ c ∈ ctls, y.attachError x b c = none) → h y t = (y.modHq (fun h => { h with
          attach := if b then h.attach.filter (fun z => !(z.1 == x.id && ctls.contains z.2)) ++ ctls.map (fun c => (x.id, c))
            else h.attach.filter (fun z => !(z.1 == x.id && ctls.contains z.2)) })).succeed t.cmd 0 [])) ∧
    (∃ h : State → Taken → Namespace → State, exec (.nvmeWrite f a n l b c) s = .next (s.onIo f (fun y t => y.onNs t 2 f.nsid (fun y ns => h y t ns))) ∧ ∀ (y : State) (t : Taken) (ns : Namespace) w, w = y.writeError t ns a n l c →
      (w ≠ 0 → h y t ns = y.completeWith t.cmd 2 w ns.ground []) ∧ (w = 0 → h y t ns = y.submitAll t ns [y.writeFor t ns a n b false])) ∧
    (exec (.nvmeRead f a n l bad) s = .next (s.under bad (fun s => s.onReads f (fun y t => y.onNs t 1 f.nsid (fun y ns => y.readCmd t ns (.host t.cmd.ctl t.cmd.sq t.cmd.cid) a n l bad)))) ∧
      exec (.verify f a n bad) s = .next (s.under bad (fun s => s.onReads f (fun y t => y.onNs t 1 f.nsid (fun y ns =>
        y.readCmd t ns (.verify t.cmd.ctl t.cmd.sq t.cmd.cid) a n (n * ns.lbaBytes t.fabrics) bad))))) ∧
    (f.nsid = 0xFFFFFFFF → exec (.nvmeFlush f) s = .next (s.onIo f (fun y t => y.flushCmd t f.nsid))) ∧
    (f.nsid ≠ 0xFFFFFFFF → exec (.nvmeFlush f) s = .next (s.onIo f (fun y t => y.onNs t 0 f.nsid (fun y ns => y.flushCmd t ns.id)))) ∧
    (exec (.writeZeroes f a n) s = .next (s.onIo f (fun y t => y.onNs t 2 f.nsid (fun y ns => y.deallocCmd t ns [(a, n)]))) ∧
      ∀ x, exec (.datasetManagement f x b) s = .next (s.onIo f (fun y t => y.onNs t 2 f.nsid (fun y ns => y.deallocCmd t ns (if b then x else []))))) ∧
    (∀ h : State → Namespace → State, (y.nsFor t v = .ok ns → y.onNs t q v h = h y ns) ∧ (∀ w, y.nsFor t v = .error w → y.onNs t q v h = y.completeWith t.cmd q w ((y.ns v).getD default).ground [])) ∧
    ((y.liveNs v = none → y.nsFor t v = .error 0x2D0C) ∧ (y.liveNs v = some ns → ((v, t.cmd.ctl) ∉ y.hq.attach → y.nsFor t v = .error 0x2D0C) ∧ ((v, t.cmd.ctl) ∈ y.hq.attach →
      (y.domain ns.domain = none → y.nsFor t v = .error 0x2707) ∧ ((y.domain ns.domain).isSome = true →
        (y.serves ns.ground = true → y.nsFor t v = .ok ns) ∧ (y.serves ns.ground = false → (t.fabrics = false ∨ y.isStandby ns.ground = false) → y.nsFor t v = .error 0x1406) ∧
        (y.serves ns.ground = false → t.fabrics = true → y.isStandby ns.ground = true → y.nsFor t v = (if y.bothAlive then .error 0x1305 else .ok ns)))))) ∧
    ((t.fabrics = true → y.writeError t ns a n l true = 0x2D03) ∧ ((t.fabrics = false ∨ c = false) →
      (rangeError ns t.fabrics a n l ≠ 0 → y.writeError t ns a n l c = rangeError ns t.fabrics a n l) ∧ (rangeError ns t.fabrics a n l = 0 →
        (y.changeError ns ≠ 0 → y.writeError t ns a n l c = y.changeError ns) ∧
        (y.changeError ns = 0 → y.cmdClass t ns ≤ 1 → ns.pi = false → y.writeError t ns a n l c = 0x2401) ∧
        (y.changeError ns = 0 → (1 < y.cmdClass t ns ∨ ns.pi = true) → y.writeError t ns a n l c = if y.fld F.MED_ST_CAP = 2 then 0x6801 else 0)))) ∧
    rangeError ns b a n l = (if n = 0 ∨ 512 < n then 0x2D02 else if ns.size < a + n then 0x2D04 else if l ≠ n * ns.lbaBytes b then 0x2D03 else 0) ∧
    y.changeError ns = (if ns.view.isSome then 0x2D08 else if y.isReceiver ns.id then 0x2C06 else 0) ∧
    (∀ src, (rangeError ns t.fabrics a n l ≠ 0 → y.readCmd t ns src a n l bad = y.completeWith t.cmd 1 (rangeError ns t.fabrics a n l) ns.ground []) ∧
      (rangeError ns t.fabrics a n l = 0 → (y.viewPending ns = true → y.readCmd t ns src a n l bad = y.completeWith t.cmd 1 0x1C02 ns.ground []) ∧
        (y.viewPending ns = false → y.standbySilent ns a n = true → y.readCmd t ns src a n l bad = y) ∧
        (y.viewPending ns = false → y.standbySilent ns a n = false → y.readCmd t ns src a n l bad = (y.begin t .read ns.id).startRead src ns a n (y.cmdClass t ns) bad))) ∧
    y.flushCmd t v = State.settleDurable (y.begin t (.flush (y.flushAtoms t v)) v) ∧
    (∀ x m, m = x.filter (fun r : Nat × Nat => decide (0 < r.2)) → ((∃ r ∈ m, ns.size < r.1 + r.2) → y.deallocCmd t ns x = y.completeWith t.cmd 2 0x2D04 ns.ground []) ∧
      ((∀ r ∈ m, r.1 + r.2 ≤ ns.size) → (y.changeError ns ≠ 0 → y.deallocCmd t ns x = y.completeWith t.cmd 2 (y.changeError ns) ns.ground []) ∧
        (y.changeError ns = 0 → m = [] → y.deallocCmd t ns x = y.succeed t.cmd 0 []) ∧
        (y.changeError ns = 0 → m ≠ [] → y.deallocCmd t ns x = y.submitAll t ns (m.map (fun r => y.writeFor t ns r.1 r.2 false true))))) ∧
    (∀ (w : HostCpl), y.finish w = ((y.endCmd w).settleDeletes (y.endCmd w).hq.cmds.length).postAll ∧ (y.endCmd w).hq.cpls = y.hq.cpls ++ [w] ∧ (∀ x ∈ (y.endCmd w).hq.cmds, x.id ≠ w.cmd) ∧
      (w.field ≠ 0 → (y.endCmd w).fld F.HQ_ERR_CID = w.cmd.cid % 2 ^ 16 ∧ (y.endCmd w).flag F.HQ_ERR_VALID = true)) ∧
    (∀ (w : HostCpl) z, y.ctrl w.cmd.ctl = some k → k.fabrics = false → k.sqs.find? (fun q => q.qid == w.cmd.sq) = some z → y.txOff = false → .cqe w.cmd z.head w.dw0 w.dw1 w.field ∈ (y.post w).outbox)

/-- SQ_DOORBELL_WRITE, CQ_HEAD_DOORBELL, CC_EN_SET, CC_EN_CLEAR, CC_SHN_NORMAL, CC_SHN_ABRUPT, CONTROLLER_RESET_END, SHUTDOWN_PROCESSING_END, FABRICS_CONNECT, KEEP_ALIVE,
KEEP_ALIVE_TIMEOUT, PROPERTY_GET, PROPERTY_SET and DISCONNECT (R359, R360, R369 to R373, R384, R387). -/
def Obligations.Controllers : Prop :=
  ∀ (s u y : State) (f : Fetch) (t : Taken) (q n m i v cid kt : Nat) (b r : Bool) (k : Ctrl) (c : Conn) (kind : QueueKind) (g : State → Taken → State), s.power.running = true →
    (s.flag F.EP_ST_UP = false → exec (.sqDoorbellWrite q n) s = .next s ∧ exec (.cqHeadDoorbell q n) s = .next s) ∧
    (s.flag F.EP_ST_UP = true → exec (.sqDoorbellWrite q n) s = .next (s.ringSq q n) ∧ exec (.cqHeadDoorbell q n) s = .next (s.ringCq q n)) ∧
    (s.ctrl s.pf0Id = some k → ∃ u w : State, u = s.ringSq q n ∧ u = { s with hq := u.hq } ∧ w = { s with hq := w.hq } ∧ s.ringCq q n = w.postAll ∧
      (s.latching = false → u.ctrl s.pf0Id = some { k with sqs := mapWhere (fun x => x.qid == q && decide (n < x.size)) (fun x => { x with tail := n }) k.sqs }) ∧
      (s.latching = true → u.ctrl s.pf0Id = some { k with sqs := mapWhere (fun x => x.qid == q && decide (n < x.size)) (fun x => { x with latched := some n }) k.sqs }) ∧
      w.ctrl s.pf0Id = some { k with cqs := mapWhere (fun x => x.qid == q && decide (n < x.size)) (fun x => { x with head := n }) k.cqs }) ∧
    ((s.flag F.EP_ST_UP = false ∨ s.epHeld = true) → exec (.ccEnSet n m b) s = .next s ∧ exec .ccEnClear s = .next s ∧ exec .ccShnNormal s = .next s ∧ exec .ccShnAbrupt s = .next s) ∧
    (s.flag F.EP_ST_UP = true → s.epHeld = false → exec (.ccEnSet n m b) s = .next ((s.setAq n m b).writeCc s.pf0Id 1) ∧ exec .ccEnClear s = .next (s.writeCc s.pf0Id 0) ∧
      exec .ccShnNormal s = .next (s.writeShn s.pf0Id 1) ∧ exec .ccShnAbrupt s = .next (s.writeShn s.pf0Id 2)) ∧
    (s.ctrl s.pf0Id = some k → ((k.cstate = 0 ∨ k.cstate = 2) → (s.setAq n m b).ctrl s.pf0Id =
        some { k with aq := (n, m), aqOk := b && (decide (2 ≤ n) && decide (n ≤ 4096)) && (decide (2 ≤ m) && decide (m ≤ 4096)) }) ∧
      (k.cstate ≠ 0 → k.cstate ≠ 2 → (s.setAq n m b).ctrl s.pf0Id = some k)) ∧
    (s.ctrl i = none → s.writeCc i v = s ∧ s.writeShn i v = s ∧ s.enableCtrl i = s ∧ s.endFabricsReset i = s ∧ s.applyLatched i = s) ∧
    (s.ctrl i = some k → s.writeShn i v = s.writeCc i (k.cc % 0x4000 + v * 0x4000) ∧
      (u = s.modCtrl i (fun c => { c with cc := v % 2 ^ 32 }) →
        (k.cstate = 0 → s.writeCc i v = (if bit v 0 then u.enableCtrl i else u.modCtrl i (fun c => { c with en := false, latched := none }))) ∧
        (k.cstate = 1 → s.writeCc i v = (if bit v 0 then (if bits v 15 14 = 1 ∨ bits v 15 14 = 2 then u.startShut i (bits v 15 14) else u) else u.startReset i)) ∧
        (k.cstate = 4 → s.writeCc i v = (if bit v 0 then u else u.startReset i)) ∧
        (k.cstate ≠ 0 → k.cstate ≠ 1 → k.cstate ≠ 4 → s.writeCc i v = u.modCtrl i (fun c => { c with latched := some (bit v 0) }))) ∧
      (k.fabrics = false → s.flag F.EP_CTL_PF0_AVAIL = false → (s.enableCtrl i).ctrl i = some { k with latched := some true }) ∧
      ((k.fabrics = true ∨ s.flag F.EP_CTL_PF0_AVAIL = true) → (k.aqOk = false → (s.enableCtrl i).ctrl i = some { k with en := true, cfs := true, latched := none }) ∧
        (k.aqOk = true → ∃ x, (s.enableCtrl i).ctrl i = some x ∧ x.cstate = 1 ∧ x.en = true ∧ x.rdy = true ∧ x.cfs = false ∧ x.latched = none ∧
          (k.fabrics = false → x.sqs = [⟨0, 0, k.aq.1, 0, 0, none, 0⟩] ∧ x.cqs = [⟨0, k.aq.2, 0, 0, 0, true⟩]) ∧ (k.fabrics = true → x.sqs = k.sqs ∧ x.cqs = k.cqs ∧ x.conns = k.conns) ∧
          (i = s.pf0Id → (s.enableCtrl i).fld F.HQ_ST_CSTATE = 1)))) ∧
    (s.startReset i = State.syncHq ((s.abandonCmds true (fun x => x.ctl == i)).modCtrl i (fun c => { c with cstate := 2, en := false, events := [], gone := [] })) ∧
      ((s.abandonCmds true (fun x => x.ctl == i)).ctrl i = some k → (s.startReset i).ctrl i = some { k with cstate := 2, en := false, events := [], gone := [] } ∧
        (i = s.pf0Id → (s.abandonCmds true (fun x => x.ctl == i)).pf0Id = s.pf0Id → (s.startReset i).fld F.HQ_ST_CSTATE = 2)) ∧
      ∀ x ∈ s.hq.cmds, x.id.ctl = i → x ∉ (s.abandonCmds true (fun x => x.ctl == i)).hq.cmds) ∧
    (∃ w : State, s.startShut i v = (if v = 1 then w.settleDurable else w) ∧ w.dp = s.dp ∧ (s.ctrl i = some k → w.ctrl i = some { k with cstate := 3, shn := v, shst := 1 }) ∧
      (v = 1 → ∃ l, w.hq.cmds = s.hq.cmds ++ [⟨⟨i, 65536, 0⟩, .shut l, 0⟩] ∧ ∀ x, x ∈ l ↔ ∃ a ∈ s.dp.atoms, (a.ns, i) ∈ s.hq.attach ∧ (a.state = .complete ∨ a.state = .flushing) ∧
        x = (a.writeId, a.atom)) ∧ (v ≠ 1 → w.hq.cmds = s.hq.cmds)) ∧
    (s.ctrl i = none → exec (.controllerResetEnd i) s = .next s ∧ exec (.shutdownProcessingEnd i) s = .next s ∧ exec (.keepAliveTimeout i) s = .next s) ∧
    (s.ctrl i = some k →
      ((k.cstate ≠ 2 ∨ (k.fabrics = false ∧ (s.ep.reads ≠ [] ∨ s.ep.todo ≠ []))) → exec (.controllerResetEnd i) s = .next s) ∧
      (k.cstate = 2 → k.fabrics = true → exec (.controllerResetEnd i) s = .next (s.endFabricsReset i)) ∧
      (k.cstate = 2 → k.fabrics = false → s.ep.reads = [] → s.ep.todo = [] → exec (.controllerResetEnd i) s = .next (s.endReset i)) ∧
      (∃ w : State, s.endReset i = w.applyLatched i ∧ w.ctrl i = some { k with cstate := 0, rdy := false, cfs := false, shn := 0, shst := 0, sqs := [], cqs := [], events := [], aerCfg := 0, gone := [] } ∧
        w.flag F.HQ_EVT_CTRL_RESET = true) ∧
      (k.admin = none → s.endFabricsReset i = s.endFabrics i) ∧
      (k.admin ≠ none → ∃ w : State, s.endFabricsReset i = w.applyLatched i ∧ w.ctrl i =
        some { k with cstate := 0, rdy := false, cfs := false, shn := 0, shst := 0, events := [], aerCfg := 0, gone := [], conns := k.conns.filter (fun q => q.2 == 0) }) ∧
      (k.latched = none → s.applyLatched i = s) ∧
      (k.latched = some b → ∃ w : State, w.ctrl i = some { k with latched := none } ∧ s.applyLatched i =
        (if k.cstate = 0 ∧ b = true then w.enableCtrl i else if k.cstate = 4 ∧ b = false then w.startReset i else w)) ∧
      ((k.cstate ≠ 3 ∨ ∃ x ∈ s.hq.cmds, x.id.ctl = i ∧ x.kind ≠ .aer) → exec (.shutdownProcessingEnd i) s = .next s) ∧
      (k.cstate = 3 → (∀ x ∈ s.hq.cmds, x.id.ctl = i → x.kind = .aer) → ∃ w : State, exec (.shutdownProcessingEnd i) s = .next (w.applyLatched i) ∧
        w.ctrl i = some { k with cstate := 4, shst := 2 } ∧ (k.fabrics = false → w.flag F.HQ_EVT_SHUTDOWN = true)) ∧
      ((k.fabrics = false ∨ k.kato = 0 ∨ s.num < k.alive + 200 * k.kato) → exec (.keepAliveTimeout i) s = .next s) ∧
      (k.fabrics = true → k.kato ≠ 0 → k.alive + 200 * k.kato ≤ s.num → exec (.keepAliveTimeout i) s = .next (s.endFabrics i))) ∧
    (s.endFabrics i = s.endFabricsQueue i 0 ∧ (s.endFabrics i).ctrl i = none ∧ (∀ a ∈ (s.endFabrics i).hq.attach, a.2 ≠ i) ∧
      s.endFabricsQueue i 0 = State.syncHq (((s.setEvt F.HQ_EVT_FAB_END).abandonCmds false (fun x => x.ctl == i)).modHq
        (fun h => { h with ctrls := h.ctrls.filter (fun c => c.id != i), attach := h.attach.filter (fun a => a.2 != i) })) ∧
      (q ≠ 0 → s.endFabricsQueue i q = State.syncHq (((s.setEvt F.HQ_EVT_FAB_END).abandonCmds false (fun x => x.ctl == i && x.sq == q)).modCtrl i
        (fun c => { c with conns := c.conns.filter (fun z => z.2 != q) })))) ∧
    (s.conn i = none → exec (.fabricsConnect i cid q n m kt) s = .next s) ∧
    (s.conn i = some c → ((c.recv = [] ∨ c.state ≠ .rts ∨ s.queuesOf i ≠ []) → exec (.fabricsConnect i cid q n m kt) s = .next s) ∧
      (∀ z rest, c.recv = z :: rest → c.state = .rts → s.queuesOf i = [] → exec (.fabricsConnect i cid q n m kt) s =
        .next ((s.modConn i (fun c => { c with recv := rest, taken := c.taken + 1 })).connect c cid q n m kt))) ∧
    ((s.flag F.HQ_CTL_FAB_EN = false ∨ c.fabricsQueue = false ∨ n < 2 ∨ 1024 < n ∨ 1048576 ≤ s.fld F.HQ_ST_FABQ ∨ 65536 ≤ s.fabQueues c.desc.ground) →
      s.connect c cid q n m kt = s.refuseConnect c cid q 0x2D02) ∧
    (s.flag F.HQ_CTL_FAB_EN = true → c.fabricsQueue = true → 2 ≤ n → n ≤ 1024 → s.fld F.HQ_ST_FABQ < 1048576 → s.fabQueues c.desc.ground < 65536 →
      (s.serves c.desc.ground = false → (s.isTwin c.desc.ground = false ∨ s.groundState c.desc.ground ≠ 2) → s.connect c cid q n m kt = s.refuseConnect c cid q 0x1406) ∧
      ((s.serves c.desc.ground = true ∨ (s.isTwin c.desc.ground = true ∧ s.groundState c.desc.ground = 2)) →
        (∃ (w : State) (x : Ctrl), s.connect c cid 0 n m kt = State.answerConnect w c.id cid 0 x.id 0 0 ∧ w.hq.ctrls = s.hq.ctrls ++ [x] ∧ x.fabrics = true ∧ x.ground = c.desc.ground ∧ x.conns = [(c.id, 0)] ∧ x.kato = kt ∧
          x.cstate = 0 ∧ x.aqOk = true ∧ x.sizes = [(0, n)] ∧ x.alive = s.num ∧ 0x10 ≤ x.id ∧ x.id ≤ 0xFFEF) ∧
        (q ≠ 0 → s.ctrl m = none → s.connect c cid q n m kt = s.refuseConnect c cid q 0x2D02) ∧
        (q ≠ 0 → s.ctrl m = some k → s.ioConnectOk k c q = false → s.connect c cid q n m kt = s.refuseConnect c cid q 0x2D02) ∧
        (q ≠ 0 → s.ctrl m = some k → s.ioConnectOk k c q = true → s.connect c cid q n m kt = State.answerConnect (State.syncHq (s.modCtrl m (fun k =>
          { k with conns := k.conns ++ [(c.id, q)], sizes := k.sizes.filter (fun x => x.1 != q) ++ [(q, n)] }))) c.id cid q m 0 0))) ∧
    (s.onFabric f kind r g = s.onCmd f kind r (fun y t => if t.fabrics then g y t else y.completeWith t.cmd 0 0x2D01 0 [])) ∧
    exec (.keepAlive f) s = .next (s.onFabric f .admin false (fun y t => (y.modCtrl t.cmd.ctl (fun k => { k with alive := y.num })).succeed t.cmd 0 [])) ∧
    (∃ h, exec (.propertyGet f q) s = .next (s.onFabric f .admin false h) ∧ ∀ (y : State) (t : Taken) (k : Ctrl), y.ctrl t.cmd.ctl = some k →
      (k.property q = none → h y t = y.completeWith t.cmd 0 0x2D02 0 []) ∧ (∀ z, k.property q = some z → h y t = y.finish ⟨t.cmd, 0, 0, z % 2 ^ 32, z / 2 ^ 32, []⟩)) ∧
    (k.property 0x00 = some k.cap ∧ k.property 0x08 = some 0x20000 ∧ k.property 0x14 = some k.cc ∧ k.property 0x1C = some k.csts ∧
      (q ∉ [0x00, 0x08, 0x14, 0x1C] → k.property q = none)) ∧
    (∃ h, exec (.propertySet f q v) s = .next (s.onFabric f .admin false h) ∧ ∀ (y : State) (t : Taken), (q = 0x14 → h y t = (y.succeed t.cmd 0 []).writeCc t.cmd.ctl v) ∧
      (q ≠ 0x14 → h y t = y.completeWith t.cmd 0 0x2D02 0 [])) ∧
    (∃ h, exec (.disconnect f) s = .next (s.onFabric f .any false h) ∧ ∀ (y : State) (t : Taken),
      (t.cmd.sq = 0 → h y t = ((y.succeed t.cmd 0 []).startReset t.cmd.ctl).modCtrl t.cmd.ctl (fun k => { k with admin := none })) ∧
      (t.cmd.sq ≠ 0 → h y t = (y.succeed t.cmd 0 []).endFabricsQueue t.cmd.ctl t.cmd.sq))

/-- HOST_LINK_DOWN, PERST_ASSERT, PERST_DEASSERT, EP_RETRAIN, PF0_AVAIL, FLR_PF0, FLR_PF1, BME_CLEAR, BME_SET, D3HOT_ENTRY, D0_RETURN, PF1_RAISE, MSIX_UNMASK,
CPL_TIMEOUT, UNEXPECTED_COMPLETION, TAG_QUARANTINE_EXPIRY, POISONED_TLP_RECEIVE and CONFIG_REQUEST (R381 to R399). -/
def Obligations.HostEndpoint : Prop :=
  ∀ (s u w : State) (l : HostLink) (k : Ctrl) (hot b : Bool) (v pf a n tag sq : Nat) (d : Bytes) (bar : Option Nat) (o : Option HostReadWhy) (z : Option HostLink) (why : HostReadWhy) (id : CmdId),
    s.power.running = true →
    (s.mayTrain = true ↔ s.ep.perst = false ∧ (s.mode ≠ 0 ∨ 3 ≤ s.fld F.PKG_WIND_STEP) ∧ s.mode ≠ 5) ∧
    (s.mayTrain = false → exec (.hostLinkDown true l) s = .next s) ∧ (s.mayTrain = true → exec (.hostLinkDown true l) s = .next (s.hostLinkUp l)) ∧
    (∃ t : State, s.hostLinkUp l = t.resumeHost ∧ t.flag F.EP_ST_UP = true ∧ t.fld F.EP_ST_SPEED = l.speed % 16 ∧ t.fld F.EP_ST_WIDTH = l.width % 64 ∧ t.flag F.EP_ST_FLIT = l.flit ∧
      t.flag F.EP_CTL_RETRAIN = false ∧ t.flag F.EP_EVT_LINK_UP = true ∧ t = { s with regs := t.regs, eip := t.eip }) ∧
    (∃ t, exec (.hostLinkDown false l) s = .next t ∧ t = s.hostLinkDown ∧ t.flag F.EP_ST_UP = false ∧ t.fld F.EP_ST_SPEED = 0 ∧ t.fld F.EP_ST_WIDTH = 0 ∧ t.flag F.EP_ST_FLIT = false ∧
      (s.flag F.EP_ST_UP = true → t.flag F.EP_EVT_LINK_DOWN = true) ∧ t = { s with regs := t.regs, eip := t.eip }) ∧
    (u = (s.modEp (fun e => { e with perst := e.perst || !hot })).hostLinkDown.flrPf0.flrPf1 → ∃ t, exec (.perstAssert hot) s = .next t ∧ t.flag F.HQ_EVT_CTRL_RESET = true ∧
      t.flag F.EP_EVT_PERST = true ∧ t.flag F.EP_EVT_FLR1 = true ∧ t = { u with regs := t.regs, eip := t.eip }) ∧
    (s.ep.perst = false → exec (.perstDeassert l) s = .next s) ∧
    (s.ep.perst = true → u = s.modEp (fun e => { e with perst := false }) → exec (.perstDeassert l) s = .next (if u.mayTrain then u.hostLinkUp l else u)) ∧
    (u = (if s.fld F.HQ_ST_CSTATE = 2 then s.setEvt F.HQ_EVT_CTRL_RESET else s) → w = u.abandonCmds true (fun c => c.ctl == s.pf0Id) → ∃ t, t = s.flrPf0 ∧
      t.ep = { w.ep with bme0 := false, unmasked0 := [], pba0 := [], cfg0 := [], msix0 := [], aerU0 := 0, aerC0 := 0, reads := [], todo := [],
                         dropped := w.ep.dropped ++ w.ep.reads.map (fun r => r.1) } ∧
      t.flag F.EP_ST_BME0 = false ∧ t.flag F.EP_ST_D3_0 = false ∧ t.flag F.EP_ST_DRAIN0 = false ∧ t.fld F.EP_ST_CTO_MS = 50 ∧ t.flag F.EP_ST_BME1 = w.flag F.EP_ST_BME1 ∧
      t.flag F.EP_EVT_FLR0 = true ∧ (w.ctrl w.pf0Id = some k → ∃ c, t.ctrl w.pf0Id = some c ∧ c.cstate = 0 ∧ c.en = false ∧ c.rdy = false ∧ c.cfs = false ∧ c.sqs = [] ∧ c.cqs = [] ∧
        c.latched = none ∧ c.reads = k.reads ∧ c.writes = k.writes) ∧ t = { w with regs := t.regs, eip := t.eip, ep := t.ep, hq := t.hq }) ∧
    (∃ t, t = s.flrPf1 ∧ t.ep = { s.ep with bme1 := false, unmasked1 := [], pba1 := [], cfg1 := [], msix1 := [], aerU1 := 0, aerC1 := 0 } ∧ t.flag F.EP_ST_BME1 = false ∧
      t.flag F.EP_ST_D3_1 = false ∧ t.flag F.EP_ST_BME0 = s.flag F.EP_ST_BME0 ∧ t.flag F.EP_EVT_FLR1 = true ∧ t = { s with regs := t.regs, eip := t.eip, ep := t.ep }) ∧
    (exec (.epRetrain v z) s = .next (s.writeEpCtl v z) ∧ exec (.pf0Avail v) s = .next (s.writeEpCtl v none)) ∧
    (u = s.softWrite .EP_CTL 0 0 v →
      (w = u → (z = none ∨ bit v 1 = false ∨ u.flag F.EP_ST_UP = false) → s.writeEpCtl v z =
        (if s.flag F.EP_CTL_PF0_AVAIL = false ∧ w.flag F.EP_CTL_PF0_AVAIL = true then w.applyLatched w.pf0Id else w)) ∧
      (z = some l → bit v 1 = true → u.flag F.EP_ST_UP = true → ∃ w : State, w.fld F.EP_ST_SPEED = l.speed % 16 ∧ w.fld F.EP_ST_WIDTH = l.width % 64 ∧ w.flag F.EP_ST_FLIT = l.flit ∧
        w.flag F.EP_CTL_RETRAIN = false ∧ w.flag F.EP_ST_UP = true ∧ w = { u with regs := w.regs } ∧
        s.writeEpCtl v z = (if s.flag F.EP_CTL_PF0_AVAIL = false ∧ u.flag F.EP_CTL_PF0_AVAIL = true then w.applyLatched w.pf0Id else w))) ∧
    (s.flag F.EP_ST_UP = false → exec .flrPf0 s = .next s ∧ exec .flrPf1 s = .next s ∧ exec (.configRequest pf bar a n none) s = .next s ∧ exec (.configRequest pf bar a n (some d)) s = .next s) ∧
    ((s.flag F.EP_ST_UP = false ∨ 2 ≤ pf) → exec (.bmeClear pf) s = .next s ∧ exec (.bmeSet pf) s = .next s ∧ exec (.d3hotEntry pf) s = .next s ∧ exec (.d0Return pf) s = .next s ∧
      exec (.msixUnmask pf v b) s = .next s ∧ exec (.configRequest pf bar a n none) s = .next s ∧ exec (.configRequest pf bar a n (some d)) s = .next s) ∧
    (s.flag F.EP_ST_UP = true → exec .flrPf0 s = .next s.flrPf0 ∧ exec .flrPf1 s = .next s.flrPf1) ∧
    (s.flag F.EP_ST_UP = true → pf < 2 → exec (.bmeClear pf) s = .next (s.clearBme pf) ∧ exec (.bmeSet pf) s = .next (s.setBme pf) ∧ exec (.d3hotEntry pf) s = .next (s.enterD3 pf) ∧
      exec (.d0Return pf) s = .next (s.leaveD3 pf) ∧ (v < vectorsOf pf → exec (.msixUnmask pf v b) s = .next (s.maskVec pf v b)) ∧ (vectorsOf pf ≤ v → exec (.msixUnmask pf v b) s = .next s)) ∧
    (∃ t, t = s.clearBme 0 ∧ t.flag F.EP_ST_BME0 = false ∧ (t.flag F.EP_ST_DRAIN0 = if s.ep.reads = [] then s.flag F.EP_ST_DRAIN0 else true) ∧ t.flag F.EP_EVT_BME_CLEAR = true ∧
      t = { s with regs := t.regs, eip := t.eip, ep := { s.ep with bme0 := false } }) ∧
    (∃ t, t = s.clearBme 1 ∧ t.flag F.EP_ST_BME1 = false ∧ t.flag F.EP_ST_DRAIN0 = s.flag F.EP_ST_DRAIN0 ∧ t.flag F.EP_EVT_BME_CLEAR = true ∧
      t = { s with regs := t.regs, eip := t.eip, ep := { s.ep with bme1 := false } }) ∧
    (s.flag F.EP_ST_DRAIN0 = true → s.setBme 0 = { s with ep := { s.ep with bme0 := true } }) ∧
    (s.flag F.EP_ST_DRAIN0 = false → ∃ t : State, s.setBme 0 = State.resumeHost t ∧ t.flag F.EP_ST_BME0 = true ∧ t = { s with regs := t.regs, ep := { s.ep with bme0 := true } }) ∧
    (∃ t : State, s.setBme 1 = t.resumeHost ∧ t.flag F.EP_ST_BME1 = true ∧ t = { s with regs := t.regs, ep := { s.ep with bme1 := true } }) ∧
    (∃ t : State, s.enterD3 0 = t ∧ t.flag F.EP_ST_D3_0 = true ∧ (s.ep.reads ≠ [] → t.flag F.EP_ST_DRAIN0 = true) ∧ t.mayIssue 0 = false ∧ t = { s with regs := t.regs }) ∧
    (∃ t : State, s.enterD3 1 = t ∧ t.flag F.EP_ST_D3_1 = true ∧ t.mayIssue 1 = false ∧ t = { s with regs := t.regs }) ∧
    (∃ t : State, s.leaveD3 0 = t.resumeHost ∧ t.flag F.EP_ST_D3_0 = false ∧ t = { s with regs := t.regs }) ∧
    (∃ t : State, s.leaveD3 1 = t.resumeHost ∧ t.flag F.EP_ST_D3_1 = false ∧ t = { s with regs := t.regs }) ∧
    (pf < 2 → (∃ t : State, s.maskVec pf v true = t ∧ v ∉ t.unmasked pf ∧ (v ∈ s.pba pf → v ∈ t.pba pf) ∧ t = { s with ep := t.ep, outbox := t.outbox }) ∧
      (∃ t : State, s.maskVec pf v false = t ∧ v ∈ t.unmasked pf ∧ (v ∈ s.pba pf → s.mayIssue pf = true → v ∉ t.pba pf ∧ (s.txOff = false → Out.msix pf v ∈ t.outbox)) ∧
        t = { s with ep := t.ep, outbox := t.outbox })) ∧
    (∃ t, exec (.pf1Raise v) s = .next t ∧ t.reg .EP_PF1_RAISE 0 0 = 0 ∧ t = { s with regs := t.regs, outbox := t.outbox, ep := { s.ep with pba1 := t.ep.pba1 } } ∧
      (∀ i, i < 32 → bit v i = true → (s.mayIssue 1 = true → i ∈ s.ep.unmasked1 → s.txOff = false → Out.msix 1 i ∈ t.outbox) ∧
        (s.mayIssue 1 = false ∨ i ∉ s.ep.unmasked1 → i ∈ t.ep.pba1)) ∧ (∀ i, bit v i = false → (i ∈ t.ep.pba1 ↔ i ∈ s.ep.pba1))) ∧
    (s.flag F.EP_ST_UP = true → pf < 2 → s.ep.served = false → ∀ x, exec (.configRequest pf none a n x) s = .next (s.emit (.cfgCpl pf true 0)) ∧ exec (.configRequest pf (some v) a n x) s = .next s) ∧
    (s.flag F.EP_ST_UP = true → pf < 2 → s.ep.served = true → ∀ x, exec (.configRequest pf bar a n x) s = .next (s.hostRequest pf bar a n x)) ∧
    (s.hostRequest pf none a n none = s.emit (.cfgCpl pf false (s.cfgRead pf a n)) ∧ s.hostRequest pf none a n (some d) = (s.cfgWrite pf a d).emit (.cfgCpl pf false 0)) ∧
    (pf < 2 → s.cfgRead pf 0 4 = 0x1FC4 + 65536 * (0x7840 + pf)) ∧
    (s.hostRequest 0 (some 0) a n none = s.emit (.barData 0 (leBytes n (s.bar0Read a n))) ∧ (s.epHeld = true → a < 0x1000 → s.hostRequest 0 (some 0) a n (some d) = s) ∧
      ((s.epHeld = false ∨ 0x1000 ≤ a) → s.hostRequest 0 (some 0) a n (some d) = s.bar0Write a (leNat d) d)) ∧
    (s.bar0Write 0x14 v d = s.writeCc s.pf0Id v ∧ s.bar0Write 0x24 v d = s.setAq (bits v 11 0 + 1) (bits v 27 16 + 1) true ∧
      (sq ≤ 256 → s.bar0Write (0x1000 + 8 * sq) v d = s.ringSq sq v ∧ s.bar0Write (0x1004 + 8 * sq) v d = s.ringCq sq v)) ∧
    (s.hostRequest pf (some 4) a n none = s.emit (.barData pf (bytesOf ((List.range n).map (fun i => s.msixByteAt pf (a + i))))) ∧ s.hostRequest pf (some 4) a n (some d) = s.msixWrite pf a d) ∧
    (v ≠ 0 → v ≠ 2 → v ≠ 4 → ∀ x, s.hostRequest pf (some v) a n x = s.aerLog pf 4 20 true) ∧ (∀ x, s.hostRequest 0 (some 2) a n x = s.aerLog 0 4 20 true) ∧
    ((s.txOff = false → Out.aer pf v ∈ (s.aerLog pf v a b).outbox) ∧ (∃ e, s.aerLog pf v a b = { s with outbox := (s.aerLog pf v a b).outbox, ep := e }) ∧
      (pf = 0 → (s.aerLog pf v a b).ep.aerU0 = s.ep.aerU0 ||| 2 ^ a) ∧ (pf ≠ 0 → (s.aerLog pf v a b).ep.aerU1 = s.ep.aerU1 ||| 2 ^ a)) ∧
    (tag ∈ s.ep.dropped → exec (.cplTimeout tag o b) s = .next (s.forgetTag tag)) ∧
    (tag ∉ s.ep.dropped → (b = false → (∃ x ∈ s.ep.reads, x.1 = tag) → s.tagPast tag (s.fld F.EP_ST_CTO_MS) = false → exec (.cplTimeout tag o b) s = .next s) ∧
      (s.readOf tag o = none → exec (.cplTimeout tag o b) s = .next s) ∧
      (s.readOf tag o = some why → (b = true ∨ (∀ x ∈ s.ep.reads, x.1 ≠ tag) ∨ s.tagPast tag (s.fld F.EP_ST_CTO_MS) = true) → ∃ t : State,
        exec (.cplTimeout tag o b) s = .next (State.resumeHost (t.readFailed why (if b then 0x4E02 else 0x4E01))) ∧ t.fld F.EP_ERR_STATUS = (if b then 0x4E02 else 0x4E01) ∧
        t.fld F.EP_ERR_TAG = tag % 1024 ∧ t.fld F.EP_ERR_FUNC = 0 ∧ t.flag F.EP_ERR_VALID = true ∧ (∀ x ∈ t.ep.reads, x.1 ≠ tag) ∧
        (t.ep.quar = if b then s.ep.quar else s.ep.quar ++ [tag]) ∧ (b = false → t.flag F.EP_EVT_CPL_TIMEOUT = true ∧ (s.txOff = false → Out.aer 0 1 ∈ t.outbox) ∧
          t.fld F.EP_CNT_CPL_TIMEOUT = satAdd (fldMax F.EP_CNT_CPL_TIMEOUT) (s.fld F.EP_CNT_CPL_TIMEOUT) 1) ∧
        t = { s with regs := t.regs, eip := t.eip, ep := t.ep, outbox := t.outbox })) ∧
    (s.readFailed (.atom v a) n = s.failWrite v n ∧ s.readFailed (.fetch sq) n = s.fetchFailed sq ∧ s.readFailed (.list id) n = s.failFetch id n) ∧
    ((s.takePf0 ⟨none, id.sq, id.cid, 0⟩ .any = none → s.failFetch id n = s) ∧ ∀ x, s.takePf0 ⟨none, id.sq, id.cid, 0⟩ .any = some (u, x) → s.failFetch id n = u.completeWith x.cmd 0 n 0 []) ∧
    (s.ctrl s.pf0Id = some k → ((∀ q ∈ k.sqs, q.qid ≠ sq) → s.fetchFailed sq = s) ∧ (∀ q, k.sqs.find? (fun q => q.qid == sq) = some q → ∃ c, (s.fetchFailed sq).ctrl s.pf0Id = some c ∧
      s.fetchFailed sq = { s with hq := (s.fetchFailed sq).hq } ∧ (q.retries = 0 → c.cfs = k.cfs ∧ c.sqs.find? (fun q => q.qid == sq) = some { q with retries := 1 }) ∧
      (q.retries ≠ 0 → c.cfs = true ∧ c.sqs = k.sqs))) ∧
    (s.forgetTag tag = State.resumeHost (s.modEp (fun e => { e with dropped := e.dropped.filter (fun x => x != tag) }))) ∧
    ((∃ x ∈ s.ep.reads, x.1 = tag) → exec (.unexpectedCompletion tag) s = .next s) ∧
    ((∀ x ∈ s.ep.reads, x.1 ≠ tag) → (tag ∈ s.ep.dropped → exec (.unexpectedCompletion tag) s = .next (s.forgetTag tag)) ∧
      (tag ∉ s.ep.dropped → ∃ t : State, exec (.unexpectedCompletion tag) s = .next t.resumeHost ∧ t.ep.quar = s.ep.quar.filter (fun x => x != tag) ∧ t.flag F.EP_EVT_UNEXP_CPL = true ∧
        t.fld F.EP_CNT_UNEXP_CPL = satAdd (fldMax F.EP_CNT_UNEXP_CPL) (s.fld F.EP_CNT_UNEXP_CPL) 1 ∧ (s.txOff = false → Out.aer 0 2 ∈ t.outbox) ∧
        t.fld F.EP_ST_QUAR = t.ep.quar.length % 1024 ∧ t = { s with regs := t.regs, eip := t.eip, ep := t.ep, outbox := t.outbox })) ∧
    (s.tagPast tag 50 = false → exec (.tagQuarantineExpiry tag) s = .next s) ∧
    (s.tagPast tag 50 = true → ∃ t : State, exec (.tagQuarantineExpiry tag) s = .next t.resumeHost ∧ t.ep = { s.ep with quar := s.ep.quar.filter (fun x => x != tag) } ∧
      t.fld F.EP_ST_QUAR = (s.ep.quar.filter (fun x => x != tag)).length % 1024 ∧ t = { s with regs := t.regs, ep := t.ep }) ∧
    (∃ t : State, t.fld F.EP_ERR_STATUS = 0x5405 ∧ (pf < 2 → t.fld F.EP_ERR_FUNC = pf) ∧ t.flag F.EP_ERR_VALID = true ∧ t.flag F.EP_EVT_POISON_IN = true ∧
      t.fld F.EP_CNT_POISON_IN = satAdd (fldMax F.EP_CNT_POISON_IN) (s.fld F.EP_CNT_POISON_IN) 1 ∧ (s.txOff = false → Out.aer pf 0 ∈ t.outbox) ∧ t.ep.reads = s.ep.reads ∧ t.ep.quar = s.ep.quar ∧
      t = { s with regs := t.regs, eip := t.eip, ep := t.ep, outbox := t.outbox } ∧ (s.readOf tag o = none → exec (.poisonedTlpReceive pf tag o) s = .next t) ∧
      (u = t.modEp (fun e => { e with reads := e.reads.filter (fun x => x.1 != tag) }) → s.readOf tag o = some why →
        exec (.poisonedTlpReceive pf tag o) s = .next (State.resumeHost (match why with | .fetch _ => u | _ => u.readFailed why 0x5405))))

/-- FWU_ERASE, FWU_PROGRAM, FWU_READ, FLASH_OP_COMPLETE, the four FWU_COMMIT rows, SMP_SNAP_TAKE, CPU_RELEASE, CPU_HALT, HPM_EVENT_WRITE and IMSIC_SETEIPNUM (R457, R458,
R466, R471 to R474). -/
def Obligations.FirmwareAndCpu : Prop :=
  ∀ (s u w : State) (v op n o a k m h x i l st : Nat) (f : FlashOp) (d : Bytes) (b be : Bool), s.power.running = true →
    (exec (.fwuErase v) s = .next (s.flashCmd 1 v) ∧ exec (.fwuProgram v) s = .next (s.flashCmd 2 v) ∧ exec (.fwuRead v) s = .next (s.flashCmd 3 v)) ∧
    ((s.flag F.FWU_ST_BUSY = true ∨ bit v 63 = false ∨ bits v 61 60 ≠ op) → s.flashCmd op v = s) ∧
    (s.flag F.FWU_ST_BUSY = false → bit v 63 = true → bits v 61 60 = op → s.flashCmd op v = (s.softWrite .FWU_CMD 0 0 v).startFlashOp) ∧
    (s.flashRangeOk op o n = true ↔ op ≠ 0 ∧ n ≠ 0 ∧ (op = 1 ∨ n ≤ 65536) ∧ (op = 1 → o % 4096 = 0 ∧ n % 4096 = 0) ∧ o + n ≤ 2 ^ 28 ∧ (op = 3 ∨ s.writable o n = true)) ∧
    (s.writable o n = true ↔ (0x10000 ≤ o ∧ o + n ≤ 0x20000) ∨ ∃ j, slotOfRange o n = some j ∧ s.runningSlot ≠ some j) ∧
    (op = s.fld F.FWU_CMD_OP → n = s.fld F.FWU_CMD_LEN → o = s.fld F.FWU_FLASH_OFS → a = s.fld F.FWU_MEM_ADDR →
      (s.flashRangeOk op o n = false → s.startFlashOp = s.endFlashOp 0x2006) ∧
      (s.flashRangeOk op o n = true →
        (op = 1 → s.startFlashOp = { (s.cancelCommit 1 o n).setFwuBusy true with fop := some ⟨1, o, n, a, []⟩ }) ∧
        (op = 3 → s.reachesAll (.engine fwuClass) true a n = false → s.startFlashOp = s.endFlashOp 0x2F01) ∧
        (op = 3 → s.reachesAll (.engine fwuClass) true a n = true → s.startFlashOp = { s.setFwuBusy true with fop := some ⟨3, o, n, a, []⟩ }) ∧
        (op = 2 → s.engineRead fwuClass a n = (u, .error st) → s.startFlashOp = u.endFlashOp st) ∧
        (op = 2 → s.engineRead fwuClass a n = (u, .ok d) → s.startFlashOp = { (u.cancelCommit 2 o n).setFwuBusy true with fop := some ⟨2, o, n, a, d⟩ }))) ∧
    (∃ t, t = s.setFwuBusy b ∧ t.flag F.FWU_ST_BUSY = b ∧ t.flag F.FWU_CMD_BUSY = b ∧ t.flag F.FWU_COMMIT_BUSY = b ∧ t = { s with regs := t.regs }) ∧
    (st < 65536 → ∃ t, t = s.endFlashOp st ∧ t.fld F.FWU_CMD_STATUS = st ∧ t.flag F.FWU_CMD_GO = false ∧ t.flag F.FWU_CMD_BUSY = false ∧ t.flag F.FWU_ST_BUSY = false ∧
      t.flag F.FWU_EVT_CMD_DONE = true ∧ t = { s with regs := t.regs, eip := t.eip, fop := none }) ∧
    ((op = 3 ∨ s.bootBlock.trial = false ∨ slotOfRange o n ≠ some s.bootBlock.next) → s.cancelCommit op o n = s) ∧
    (op ≠ 3 → s.bootBlock.trial = true → slotOfRange o n = some s.bootBlock.next → s.cancelCommit op o n =
      (s.writeBlock { s.bootBlock with next := match s.runningSlot with | some r => r | none => 1 - s.bootBlock.next, trial := false }).setEvt F.FWU_EVT_COMMIT_CANCELLED) ∧
    (s.fop = none → exec (.flashOpComplete b) s = .next s) ∧
    (s.fop = some f →
      (∃ t, exec (.flashOpComplete true) s = .next (State.endFlashOp t 0x3008) ∧ (f.op ≠ 3 → t = { s with flash := t.flash, free := t.free }) ∧ (f.op = 3 → t.flash = s.flash) ∧
        ∀ y, y < f.ofs ∨ f.ofs + max f.len f.data.length ≤ y → Sparse.get flashErased t.flash y = Sparse.get flashErased s.flash y) ∧
      (f.op = 1 → ∃ t : State, exec (.flashOpComplete false) s = .next (t.endFlashOp 0) ∧ t = { s with flash := t.flash } ∧
        ∀ y, Sparse.get flashErased t.flash y = if f.ofs ≤ y ∧ y < f.ofs + f.len then 0xFF else Sparse.get flashErased s.flash y) ∧
      (f.op = 2 → ∃ t : State, exec (.flashOpComplete false) s = .next (t.endFlashOp (if t.flashRead f.ofs f.len = f.data then 0 else 0x3008)) ∧ t = { s with flash := t.flash } ∧
        (∀ y, y < f.ofs ∨ f.ofs + f.data.length ≤ y → Sparse.get flashErased t.flash y = Sparse.get flashErased s.flash y) ∧
        (∀ y, y < f.data.length → Sparse.get flashErased t.flash (f.ofs + y) = Sparse.get flashErased s.flash (f.ofs + y) &&& f.data.getD y 0)) ∧
      (f.op ≠ 1 → f.op ≠ 2 → exec (.flashOpComplete false) s =
        .next ((s.engineWrite fwuClass f.mem (s.flashRead f.ofs f.len)).1.endFlashOp (s.engineWrite fwuClass f.mem (s.flashRead f.ofs f.len)).2))) ∧
    exec (.fwuCommitNoAction v) s = .next (s.commitCmd 0 v) ∧ exec (.fwuCommitReplace v) s = .next (s.commitCmd 1 v) ∧
    exec (.fwuCommitReplaceActivate v) s = .next (s.commitCmd 2 v) ∧ exec (.fwuCommitActivateNow v) s = .next (s.commitCmd 3 v) ∧
    ((s.flag F.FWU_ST_BUSY = true ∨ bit v 31 = false ∨ bits v 29 28 ≠ op) → s.commitCmd op v = s) ∧
    (s.flag F.FWU_ST_BUSY = false → bit v 31 = true → bits v 29 28 = op → s.commitCmd op v = (s.softWrite .FWU_COMMIT 0 0 v).commit) ∧
    (op = s.fld F.FWU_COMMIT_ACTION → x = s.fld F.FWU_COMMIT_SLOT → (op = 0 → s.commit = s.endCommit 0) ∧ (op ≠ 0 → s.runningSlot = some x → s.commit = s.endCommit 0x2007) ∧
      ((op = 1 ∨ op = 2) → s.runningSlot ≠ some x → s.commit = (s.commitSlot x).endCommit 0) ∧
      (op = 3 → s.runningSlot ≠ some x → (s.mode ≠ 1 → s.commit = s.endCommit 0x2203) ∧ (s.mode = 1 → s.fld F.PKG_MODE_PARTNER_MODE ≠ 1 → s.commit = s.endCommit 0x2204) ∧
        (s.mode = 1 → s.fld F.PKG_MODE_PARTNER_MODE = 1 → s.commit = (s.commitSlot x).enterRethread))) ∧
    (st < 65536 → ∃ t, t = s.endCommit st ∧ t.fld F.FWU_COMMIT_STATUS = st ∧ t.flag F.FWU_COMMIT_GO = false ∧ t.flag F.FWU_EVT_COMMIT_DONE = true ∧ t = { s with regs := t.regs, eip := t.eip }) ∧
    (x < 2 → ∃ t, t = s.commitSlot x ∧ t = { s with regs := t.regs, flash := t.flash } ∧ (∀ y, 0x2000 ≤ y → Sparse.get flashErased t.flash y = Sparse.get flashErased s.flash y) ∧
      ∀ y, s.currentBlock = some y → t.flashRead (0x1000 * y.1) 0x1000 = s.flashRead (0x1000 * y.1) 0x1000 ∧ t.flashRead (0x1000 * (1 - y.1)) 28 =
        BootBlock.bytes { y.2 with seq := y.2.seq + 1, next := x, trial := true, prev := match s.runningSlot with | some r => r | none => 1 - x }) ∧
    (u = (((s.enterMode 3).setEvt F.PKG_MODE_EV_RETHREAD).setFld F.FWU_COMMIT_GO 0 |>.setFld F.HQ_ST_FETCH_PAUSED 1 |>.setFld F.EP_ST_HOLD 1) → w = u.raiseEvent u.pf0Id 9 0x030102 →
      u.flag F.HQ_ST_FETCH_PAUSED = true ∧ u.flag F.EP_ST_HOLD = true ∧ u.flag F.FWU_COMMIT_GO = false ∧ u.mode = 3 ∧ u.mem = s.mem ∧ u.dp = s.dp ∧
      s.enterRethread = (w.modPair (fun p => { p with handQueue := w.ownedGrounds, gone := [] })).startNext 2) ∧
    (4 ≤ k → exec (.smpSnapTake k v) s = .next s) ∧
    (k < 4 → bit v 63 = false → ∃ t, exec (.smpSnapTake k v) s = .next t ∧ t = s.softWrite .SMP_SNAP 0 k v ∧ ∀ q n j, q.addr n j ≠ Reg.SMP_SNAP.addr 0 k → q ≠ .PRK_LOCK_CNT →
      t.reg q n j = s.reg q n j) ∧
    (k < 4 → bit v 63 = true → ∃ t, exec (.smpSnapTake k v) s = .next t ∧ t = (s.softWrite .SMP_SNAP 0 k v).takeSnap k ∧ t.flag F.SMP_SNAP_TAKE 0 k = false ∧ t.flag F.SMP_SNAP_VALID 0 k = true ∧
      t.fld F.SMP_SNAP_OFS_END_OFS 0 k = s.smpWp % 2 ^ 32 ∧ (s.smpLast = none → t.fld F.SMP_SNAP_END_SEQ 0 k = 0 ∧ t.fld F.SMP_SNAP_OFS_LAST_OFS 0 k = 0) ∧
      (∀ o, s.smpLast = some o → t.fld F.SMP_SNAP_END_SEQ 0 k = s.mramNat (recArea + o) 4 ∧ t.fld F.SMP_SNAP_LAST_REPEAT 0 k = s.mramNat (recArea + o + 16) 2 ∧
        t.fld F.SMP_SNAP_OFS_LAST_OFS 0 k = o % 2 ^ 32) ∧
      ∀ i, i < 32 → t.reg .SMP_RD_DATA 0 (32 * k + i) = leNat ((List.range 8).map (fun b => t.snapByte k (8 * s.fld F.SMP_RD_OFS_OFS 0 k + 8 * i + b)))) ∧
    (s.hasMotif m = false → exec (.cpuRelease m v b) s = .next s ∧ exec (.cpuHalt m h v b) s = .next s ∧ exec (.hpmEventWrite m h x v) s = .next s) ∧
    exec (.cpuRelease m v false) s = .next s ∧
    (s.hasMotif m = true → ∃ t, exec (.cpuRelease m v true) s = .next t ∧ t = { s with regs := t.regs, eip := t.eip } ∧ t.fld F.CPU_RELEASE_RUN m = 0 ∧
      (∀ h, h < 8 → bit (t.fld F.CPU_ST_RUNNING m) h = (bit (s.fld F.CPU_ST_RUNNING m) h || (bit v h && decide (s.fld F.CPU_RESET_PC_PC m h ≠ 0)))) ∧
      (∀ h, h < 8 → bit v h = true → bit (s.fld F.CPU_ST_RUNNING m) h = false → s.fld F.CPU_RESET_PC_PC m h ≠ 0 → t.fld F.CPU_HST_STATE m h = 1) ∧
      (∀ h, h < 8 → bit v h = true → bit (s.fld F.CPU_ST_RUNNING m) h = true ∨ s.fld F.CPU_RESET_PC_PC m h = 0 → t.flag F.CPU_EVT_REL_REFUSED m = true)) ∧
    ((8 ≤ h ∨ bit v 0 = false) → exec (.cpuHalt m h v b) s = .next s) ∧
    (s.hasMotif m = true → h < 8 → bit v 0 = true → ∃ t, exec (.cpuHalt m h v b) s = .next t ∧ t = { s with regs := t.regs, eip := t.eip } ∧ bit (t.fld F.CPU_ST_RUNNING m) h = false ∧
      t.fld F.CPU_HST_STATE m h = 0 ∧ t.flag F.CPU_HCTL_HALT m h = false ∧ t.flag (haltedBit h) m = true ∧ (b = true → t.flag F.CPU_EVT_REL_REFUSED m = true)) ∧
    ((8 < h ∨ x < 3 ∨ 31 < x) → exec (.hpmEventWrite m h x v) s = .next s) ∧
    (s.hasMotif m = true → h ≤ 8 → 3 ≤ x → x ≤ 31 → exec (.hpmEventWrite m h x v) s = .next (s.softWrite .CPU_HPM_EVT m (29 * h + (x - 3)) v) ∧
      (s.inLockSet .CPU_HPM_EVT m (29 * h + (x - 3)) = false → ∃ t, t = s.softWrite .CPU_HPM_EVT m (29 * h + (x - 3)) v ∧ t = { s with regs := t.regs } ∧
        t.fld F.CPU_HPM_EVT_EVENT m (29 * h + (x - 3)) = v % 256 ∧ ∀ q n j, q.addr n j ≠ Reg.CPU_HPM_EVT.addr m (29 * h + (x - 3)) → t.reg q n j = s.reg q n j)) ∧
    (exec (.imsicSeteipnum m h l v be b) s = .next (if b then s else if 2 ≤ l then s else s.raiseIrq m h l (if be then swap4 v else v % 2 ^ 32))) ∧
    (1 ≤ i → i ≤ 511 → h ≤ 8 → s.hasMotif m = true → (m, h, l, i) ∉ s.eip → s.raiseIrq m h l i = { s with eip := s.eip ++ [(m, h, l, i)] }) ∧
    ((i = 0 ∨ 511 < i ∨ 8 < h ∨ s.hasMotif m = false ∨ (m, h, l, i) ∈ s.eip) → s.raiseIrq m h l i = s) ∧
    (i < 256 → swap4 (i * 2 ^ 24) = i)

/-- What State.reset holds (R13, R14, R91, R359; log 9, log 14). -/
def Obligations.ResetState : Prop :=
  (∀ (r : Reg) (m i : Nat), ∀ f ∈ r.spec.fields, bits (State.reset.reg r m i) f.hi f.lo = f.reset % 2 ^ (f.hi + 1 - f.lo)) ∧
  State.reset.memWf = true ∧ State.reset.modeWf = true ∧ State.reset.mode = 0 ∧ State.reset.mem = [] ∧ State.reset.flash = [] ∧ State.reset.pending = [] ∧ State.reset.eip = [] ∧
  State.reset.prk = none ∧ State.reset.outbox = [] ∧ State.reset.med.maps.namespaces = [] ∧ (∃ k, State.reset.hq.ctrls = [k] ∧ k.cstate = 0 ∧ k.fabrics = false ∧ k.sqs = []) ∧
  (∀ a b, ∃ t, exec (.powerOnReset a b) State.reset = .next t ∧ t.mode = 0 ∧ t.fld F.PKG_WIND_STEP = 2 ∧ t.headId = a % 2)
end

