-- ==== Sys2Proof/Laws/Exec.lean ====
section
/-! SUPPORT. Which meaning each command runs, one lemma per constructor. -/

namespace Sys2Proof.Machine

@[simp] theorem exec_registerWrite (who : Who) (addr width value : Nat) (s : State) : exec (.registerWrite who addr width value) s = execRegisterWrite who addr width value s := rfl
@[simp] theorem exec_rcRead (who : Who) (addr width : Nat) (s : State) : exec (.rcRead who addr width) s = execRcRead who addr width s := rfl
@[simp] theorem exec_stcNumRead (who : Who) (phase : Nat) (s : State) : exec (.stcNumRead who phase) s = execStcNumRead who phase s := rfl
@[simp] theorem exec_powerOnReset (headId us : Nat) (s : State) : exec (.powerOnReset headId us) s = execPowerOnReset headId us s := rfl
@[simp] theorem exec_resetNAssert (lowNs us : Nat) (s : State) : exec (.resetNAssert lowNs us) s = execResetNAssert lowNs us s := rfl
@[simp] theorem exec_pkgRstWarm (value us : Nat) (s : State) : exec (.pkgRstWarm value us) s = execPkgRstWarm value us s := rfl
@[simp] theorem exec_pkgRstMotifRst (value : Nat) (ok : Bool) (s : State) : exec (.pkgRstMotifRst value ok) s = execPkgRstMotifRst value ok s := rfl
@[simp] theorem exec_ucieReplayLimit (motif link : Nat) (s : State) : exec (.ucieReplayLimit motif link) s = execUcieReplayLimit motif link s := rfl
@[simp] theorem exec_ucieNoProgressTimeout (motif link : Nat) (s : State) : exec (.ucieNoProgressTimeout motif link) s = execUcieNoProgressTimeout motif link s := rfl
@[simp] theorem exec_ucieLaneFail (motif link : Nat) (s : State) : exec (.ucieLaneFail motif link) s = execUcieLaneFail motif link s := rfl
@[simp] theorem exec_sramUncorrectable (motif code inst word at_ : Nat) (dirty : Bool) (s : State) : exec (.sramUncorrectable motif code inst word at_ dirty) s = execSramUncorrectable motif code inst word at_ dirty s := rfl
@[simp] theorem exec_servicePollMiss (motif stitches : Nat) (s : State) : exec (.servicePollMiss motif stitches) s = execServicePollMiss motif stitches s := rfl
@[simp] theorem exec_pllLossOfLock (s : State) : exec (.pllLossOfLock) s = execPllLossOfLock s := rfl
@[simp] theorem exec_stitchEdge (err : Int) (highNs : Nat) (s : State) : exec (.stitchEdge err highNs) s = execStitchEdge err highNs s := rfl
@[simp] theorem exec_stitchFrame (s : State) : exec (.stitchFrame) s = execStitchFrame s := rfl
@[simp] theorem exec_stitchEdgeTimeout (s : State) : exec (.stitchEdgeTimeout) s = execStitchEdgeTimeout s := rfl
@[simp] theorem exec_ptpUpdate (value : Nat) (s : State) : exec (.ptpUpdate value) s = execPtpUpdate value s := rfl
@[simp] theorem exec_ptpUpdateTimeout (s : State) : exec (.ptpUpdateTimeout) s = execPtpUpdateTimeout s := rfl
@[simp] theorem exec_stitchStart (s : State) : exec (.stitchStart) s = execStitchStart s := rfl
@[simp] theorem exec_relockComplete (s : State) : exec (.relockComplete) s = execRelockComplete s := rfl
@[simp] theorem exec_acquireTimeout (s : State) : exec (.acquireTimeout) s = execAcquireTimeout s := rfl
@[simp] theorem exec_holdoverExpiry (s : State) : exec (.holdoverExpiry) s = execHoldoverExpiry s := rfl
@[simp] theorem exec_stcRetry (value : Nat) (s : State) : exec (.stcRetry value) s = execStcRetry value s := rfl
@[simp] theorem exec_recSnap (overrun : Bool) (s : State) : exec (.recSnap overrun) s = execRecSnap overrun s := rfl
@[simp] theorem exec_recSend (endPhase : Nat) (s : State) : exec (.recSend endPhase) s = execRecSend endPhase s := rfl
@[simp] theorem exec_imonSample (overrun : Bool) (pkg : List Nat) (lpm : List (Nat × Nat)) (bytes : List Nat) (s : State) : exec (.imonSample overrun pkg lpm bytes) s = execImonSample overrun pkg lpm bytes s := rfl
@[simp] theorem exec_imonForced (motif : Nat) (s : State) : exec (.imonForced motif) s = execImonForced motif s := rfl
@[simp] theorem exec_vaultBudget (overrun : Bool) (s : State) : exec (.vaultBudget overrun) s = execVaultBudget overrun s := rfl
@[simp] theorem exec_thermalStep (overrun : Bool) (dimms : List (List Int)) (s : State) : exec (.thermalStep overrun dimms) s = execThermalStep overrun dimms s := rfl
@[simp] theorem exec_throttleGraceExpiry (s : State) : exec (.throttleGraceExpiry) s = execThrottleGraceExpiry s := rfl
@[simp] theorem exec_thermalNotice (s : State) : exec (.thermalNotice) s = execThermalNotice s := rfl
@[simp] theorem exec_inletStale (s : State) : exec (.inletStale) s = execInletStale s := rfl
@[simp] theorem exec_claimKeepalive (overrun : Bool) (s : State) : exec (.claimKeepalive overrun) s = execClaimKeepalive overrun s := rfl
@[simp] theorem exec_dramScrub (slot : Nat) (overrun : Bool) (upsets : List (Nat × Nat × Nat)) (s : State) : exec (.dramScrub slot overrun upsets) s = execDramScrub slot overrun upsets s := rfl
@[simp] theorem exec_patrol (slot : Nat) (overrun : Bool) (bad : BadPages) (s : State) : exec (.patrol slot overrun bad) s = execPatrol slot overrun bad s := rfl
@[simp] theorem exec_patrolBehind (motif : Nat) (s : State) : exec (.patrolBehind motif) s = execPatrolBehind motif s := rfl
@[simp] theorem exec_mediaScrub (slot : Nat) (overrun : Bool) (bad : BadPages) (s : State) : exec (.mediaScrub slot overrun bad) s = execMediaScrub slot overrun bad s := rfl
@[simp] theorem exec_replEpoch (slot : Nat) (overrun : Bool) (s : State) : exec (.replEpoch slot overrun) s = execReplEpoch slot overrun s := rfl
@[simp] theorem exec_samplerHour (slot : Nat) (overrun : Bool) (s : State) : exec (.samplerHour slot overrun) s = execSamplerHour slot overrun s := rfl
@[simp] theorem exec_gcQuota (slot : Nat) (overrun : Bool) (bad : BadPages) (s : State) : exec (.gcQuota slot overrun bad) s = execGcQuota slot overrun bad s := rfl
@[simp] theorem exec_coreEvent (slot : Nat) (overrun : Bool) (s : State) : exec (.coreEvent slot overrun) s = execCoreEvent slot overrun s := rfl
@[simp] theorem exec_comparatorFire (j : Nat) (s : State) : exec (.comparatorFire j) s = execComparatorFire j s := rfl
@[simp] theorem exec_comparatorEnable (j value phase : Nat) (s : State) : exec (.comparatorEnable j value phase) s = execComparatorEnable j value phase s := rfl
@[simp] theorem exec_fuseLoad (us : Nat) (s : State) : exec (.fuseLoad us) s = execFuseLoad us s := rfl
@[simp] theorem exec_bootRomStart (l : Option HostLink) (us : Nat) (s : State) : exec (.bootRomStart l us) s = execBootRomStart l us s := rfl
@[simp] theorem exec_imageSlotSelect (errA errB : Bool) (us : Nat) (s : State) : exec (.imageSlotSelect errA errB us) s = execImageSlotSelect errA errB us s := rfl
@[simp] theorem exec_measurementExtend (us : Nat) (s : State) : exec (.measurementExtend us) s = execMeasurementExtend us s := rfl
@[simp] theorem exec_prickingLoad (readError : Bool) (us : Nat) (s : State) : exec (.prickingLoad readError us) s = execPrickingLoad readError us s := rfl
@[simp] theorem exec_motifBringup (fail : Nat) (repaired : List (Nat × Nat × Nat)) (us : Nat) (s : State) : exec (.motifBringup fail repaired us) s = execMotifBringup fail repaired us s := rfl
@[simp] theorem exec_dramTraining (dimms : List (Option DimmInfo)) (us : Nat) (s : State) : exec (.dramTraining dimms us) s = execDramTraining dimms us s := rfl
@[simp] theorem exec_brideTraining (pass : List Nat) (clock now : Nat) (t : Option TrainId) (us : Nat) (s : State) : exec (.brideTraining pass clock now t us) s = execBrideTraining pass clock now t us s := rfl
@[simp] theorem exec_stitchLock (us : Nat) (s : State) : exec (.stitchLock us) s = execStitchLock us s := rfl
@[simp] theorem exec_moduleDiscovery (found : List Found) (us : Nat) (s : State) : exec (.moduleDiscovery found us) s = execModuleDiscovery found us s := rfl
@[simp] theorem exec_metadataRecovery (foreign : List (Nat × List JRec)) (log : List StageEnt) (vaults : List VaultArea) (unreadable : Bool) (bad : BadPages) (us : Nat) (s : State) : exec (.metadataRecovery foreign log vaults unreadable bad us) s = execMetadataRecovery foreign log vaults unreadable bad us s := rfl
@[simp] theorem exec_keysDoneTimeout (foreign : List (Nat × List JRec)) (log : List StageEnt) (vaults : List VaultArea) (unreadable : Bool) (bad : BadPages) (us : Nat) (s : State) : exec (.keysDoneTimeout foreign log vaults unreadable bad us) s = execKeysDoneTimeout foreign log vaults unreadable bad us s := rfl
@[simp] theorem exec_mirrorResync (us : Nat) (s : State) : exec (.mirrorResync us) s = execMirrorResync us s := rfl
@[simp] theorem exec_groundAssignment (us : Nat) (s : State) : exec (.groundAssignment us) s = execGroundAssignment us s := rfl
@[simp] theorem exec_priorSectionsSwitch (s : State) : exec (.priorSectionsSwitch) s = execPriorSectionsSwitch s := rfl
@[simp] theorem exec_huGoodLoss (lowNs : Nat) (bad : BadPages) (s : State) : exec (.huGoodLoss lowNs bad) s = execHuGoodLoss lowNs bad s := rfl
@[simp] theorem exec_vaultDumpComplete (inputGood : Bool) (us : Nat) (s : State) : exec (.vaultDumpComplete inputGood us) s = execVaultDumpComplete inputGood us s := rfl
@[simp] theorem exec_handoverDrainComplete (us : Nat) (s : State) : exec (.handoverDrainComplete us) s = execHandoverDrainComplete us s := rfl
@[simp] theorem exec_rethreadDrainTimeout (log : List StageEnt) (ctrls : List Ctrl) (s : State) : exec (.rethreadDrainTimeout log ctrls) s = execRethreadDrainTimeout log ctrls s := rfl
@[simp] theorem exec_rethreadFetchTimeout (s : State) : exec (.rethreadFetchTimeout) s = execRethreadFetchTimeout s := rfl
@[simp] theorem exec_brideLaneFail (group lane : Nat) (s : State) : exec (.brideLaneFail group lane) s = execBrideLaneFail group lane s := rfl
@[simp] theorem exec_brideLinkDown (log : List StageEnt) (ctrls : List Ctrl) (s : State) : exec (.brideLinkDown log ctrls) s = execBrideLinkDown log ctrls s := rfl
@[simp] theorem exec_brideRetrainTimer (pass : List Nat) (clock : Nat) (s : State) : exec (.brideRetrainTimer pass clock) s = execBrideRetrainTimer pass clock s := rfl
@[simp] theorem exec_brdRetrain (value : Nat) (pass : List Nat) (clock : Nat) (s : State) : exec (.brdRetrain value pass clock) s = execBrdRetrain value pass clock s := rfl
@[simp] theorem exec_trainIdReceive (h : BrideHdr) (now : Nat) (t : TrainId) (s : State) : exec (.trainIdReceive h now t) s = execTrainIdReceive h now t s := rfl
@[simp] theorem exec_brideFrameError (group : Nat) (frame : Bytes) (s : State) : exec (.brideFrameError group frame) s = execBrideFrameError group frame s := rfl
@[simp] theorem exec_nakReceive (h : BrideHdr) (s : State) : exec (.nakReceive h) s = execNakReceive h s := rfl
@[simp] theorem exec_ackStallTimeout (group : Nat) (s : State) : exec (.ackStallTimeout group) s = execAckStallTimeout group s := rfl
@[simp] theorem exec_idleSend (group : Nat) (s : State) : exec (.idleSend group) s = execIdleSend group s := rfl
@[simp] theorem exec_idleReceive (h : BrideHdr) (s : State) : exec (.idleReceive h) s = execIdleReceive h s := rfl
@[simp] theorem exec_recordReceive (frames : List (BrideHdr × Record)) (phase : Nat) (late : Bool) (s : State) : exec (.recordReceive frames phase late) s = execRecordReceive frames phase late s := rfl
@[simp] theorem exec_recordMissing (log : List StageEnt) (ctrls : List Ctrl) (s : State) : exec (.recordMissing log ctrls) s = execRecordMissing log ctrls s := rfl
@[simp] theorem exec_haliveInChange (level : Bool) (s : State) : exec (.haliveInChange level) s = execHaliveInChange level s := rfl
@[simp] theorem exec_mirrorReceive (h : BrideHdr) (f : MirrorFrame) (s : State) : exec (.mirrorReceive h f) s = execMirrorReceive h f s := rfl
@[simp] theorem exec_haveReceive (h : BrideHdr) (l : List HaveEntry) (s : State) : exec (.haveReceive h l) s = execHaveReceive h l s := rfl
@[simp] theorem exec_clmHandoverGo (value : Nat) (s : State) : exec (.clmHandoverGo value) s = execClmHandoverGo value s := rfl
@[simp] theorem exec_handoverRequestSend (s : State) : exec (.handoverRequestSend) s = execHandoverRequestSend s := rfl
@[simp] theorem exec_handoverRequestReceive (h : BrideHdr) (g claim : Nat) (entries : List RecEntry) (ctrls : List Ctrl) (s : State) : exec (.handoverRequestReceive h g claim entries ctrls) s = execHandoverRequestReceive h g claim entries ctrls s := rfl
@[simp] theorem exec_handoverClaimedReceive (h : BrideHdr) (g claim : Nat) (s : State) : exec (.handoverClaimedReceive h g claim) s = execHandoverClaimedReceive h g claim s := rfl
@[simp] theorem exec_handoverDoneReceive (h : BrideHdr) (g : Nat) (s : State) : exec (.handoverDoneReceive h g) s = execHandoverDoneReceive h g s := rfl
@[simp] theorem exec_handingBrideDownTimeout (s : State) : exec (.handingBrideDownTimeout) s = execHandingBrideDownTimeout s := rfl
@[simp] theorem exec_resyncReceive (h : BrideHdr) (f : MirrorFrame) (s : State) : exec (.resyncReceive h f) s = execResyncReceive h f s := rfl
@[simp] theorem exec_resyncBacklogEmpty (us : Nat) (s : State) : exec (.resyncBacklogEmpty us) s = execResyncBacklogEmpty us s := rfl
@[simp] theorem exec_namedStitchReached (us : Nat) (s : State) : exec (.namedStitchReached us) s = execNamedStitchReached us s := rfl
@[simp] theorem exec_waitingWriteAdmit (s : State) : exec (.waitingWriteAdmit) s = execWaitingWriteAdmit s := rfl
@[simp] theorem exec_atomLand (writeId idx : Nat) (data pi : Bytes) (s : State) : exec (.atomLand writeId idx data pi) s = execAtomLand writeId idx data pi s := rfl
@[simp] theorem exec_flushAgeExpiry (motif : Nat) (bad : BadPages) (disagree : List Nat) (s : State) : exec (.flushAgeExpiry motif bad disagree) s = execFlushAgeExpiry motif bad disagree s := rfl
@[simp] theorem exec_nonceBlockReserve (motif group : Nat) (s : State) : exec (.nonceBlockReserve motif group) s = execNonceBlockReserve motif group s := rfl
@[simp] theorem exec_stripeProgramDone (band stripe : Nat) (s : State) : exec (.stripeProgramDone band stripe) s = execStripeProgramDone band stripe s := rfl
@[simp] theorem exec_stripePadAge (ground motif : Nat) (gc : Bool) (s : State) : exec (.stripePadAge ground motif gc) s = execStripePadAge ground motif gc s := rfl
@[simp] theorem exec_mapUpdateDurable (txn : Nat) (flash : Bool) (s : State) : exec (.mapUpdateDurable txn flash) s = execMapUpdateDurable txn flash s := rfl
@[simp] theorem exec_engineContextFreed (kind : EngKind) (motif : Nat) (s : State) : exec (.engineContextFreed kind motif) s = execEngineContextFreed kind motif s := rfl
@[simp] theorem exec_cmpJobPost (motif value : Nat) (s : State) : exec (.cmpJobPost motif value) s = execCmpJobPost motif value s := rfl
@[simp] theorem exec_cmpJobCompress (motif idx : Nat) (s : State) : exec (.cmpJobCompress motif idx) s = execCmpJobCompress motif idx s := rfl
@[simp] theorem exec_cmpJobDecompress (motif idx : Nat) (s : State) : exec (.cmpJobDecompress motif idx) s = execCmpJobDecompress motif idx s := rfl
@[simp] theorem exec_digJobPost (motif value : Nat) (s : State) : exec (.digJobPost motif value) s = execDigJobPost motif value s := rfl
@[simp] theorem exec_digJobDigest (motif idx : Nat) (s : State) : exec (.digJobDigest motif idx) s = execDigJobDigest motif idx s := rfl
@[simp] theorem exec_digJobMeasureData (motif idx : Nat) (s : State) : exec (.digJobMeasureData motif idx) s = execDigJobMeasureData motif idx s := rfl
@[simp] theorem exec_digJobMeasureValue (motif idx : Nat) (s : State) : exec (.digJobMeasureValue motif idx) s = execDigJobMeasureValue motif idx s := rfl
@[simp] theorem exec_digResRelease (motif : Nat) (s : State) : exec (.digResRelease motif) s = execDigResRelease motif s := rfl
@[simp] theorem exec_laneKatStart (motif : Nat) (high : Bool) (value : Nat) (s : State) : exec (.laneKatStart motif high value) s = execLaneKatStart motif high value s := rfl
@[simp] theorem exec_laneKatComplete (motif lane : Nat) (pass : Bool) (s : State) : exec (.laneKatComplete motif lane pass) s = execLaneKatComplete motif lane pass s := rfl
@[simp] theorem exec_kekLoad (value : Nat) (s : State) : exec (.kekLoad value) s = execKekLoad value s := rfl
@[simp] theorem exec_keysDone (value : Nat) (s : State) : exec (.keysDone value) s = execKeysDone value s := rfl
@[simp] theorem exec_keySlotLoad (value : Nat) (s : State) : exec (.keySlotLoad value) s = execKeySlotLoad value s := rfl
@[simp] theorem exec_keySlotClear (value : Nat) (s : State) : exec (.keySlotClear value) s = execKeySlotClear value s := rfl
@[simp] theorem exec_keySlotZeroise (slot : Nat) (s : State) : exec (.keySlotZeroise slot) s = execKeySlotZeroise slot s := rfl
@[simp] theorem exec_gcCollectStart (motif : Nat) (bad : BadPages) (s : State) : exec (.gcCollectStart motif bad) s = execGcCollectStart motif bad s := rfl
@[simp] theorem exec_gcCopyComplete (band : Nat) (s : State) : exec (.gcCopyComplete band) s = execGcCopyComplete band s := rfl
@[simp] theorem exec_bandErase (band : Nat) (s : State) : exec (.bandErase band) s = execBandErase band s := rfl
@[simp] theorem exec_bandEraseComplete (band : Nat) (s : State) : exec (.bandEraseComplete band) s = execBandEraseComplete band s := rfl
@[simp] theorem exec_stagingAppend (writeId atom : Nat) (disagree : List Nat) (s : State) : exec (.stagingAppend writeId atom disagree) s = execStagingAppend writeId atom disagree s := rfl
@[simp] theorem exec_stagingAppendDone (writeId atom : Nat) (s : State) : exec (.stagingAppendDone writeId atom) s = execStagingAppendDone writeId atom s := rfl
@[simp] theorem exec_stagingBlockErase (b : BlockId) (s : State) : exec (.stagingBlockErase b) s = execStagingBlockErase b s := rfl
@[simp] theorem exec_checkpointPassEnd (motif : Nat) (s : State) : exec (.checkpointPassEnd motif) s = execCheckpointPassEnd motif s := rfl
@[simp] theorem exec_telemetryPoll (s : State) : exec (.telemetryPoll) s = execTelemetryPoll s := rfl
@[simp] theorem exec_moduleLinkDownTimeout (ix : Nat) (bad : BadPages) (s : State) : exec (.moduleLinkDownTimeout ix bad) s = execModuleLinkDownTimeout ix bad s := rfl
@[simp] theorem exec_ecuModFail (ix value : Nat) (bad : BadPages) (s : State) : exec (.ecuModFail ix value bad) s = execEcuModFail ix value bad s := rfl
@[simp] theorem exec_ecuModReinstate (ix value : Nat) (s : State) : exec (.ecuModReinstate ix value) s = execEcuModReinstate ix value s := rfl
@[simp] theorem exec_ecuModRole (ix value : Nat) (s : State) : exec (.ecuModRole ix value) s = execEcuModRole ix value s := rfl
@[simp] theorem exec_ecuModFd (ix value : Nat) (s : State) : exec (.ecuModFd ix value) s = execEcuModFd ix value s := rfl
@[simp] theorem exec_rebuildBandDone (motif : Nat) (bad : BadPages) (s : State) : exec (.rebuildBandDone motif bad) s = execRebuildBandDone motif bad s := rfl
@[simp] theorem exec_bobbinIdentify (ix q cid : Nat) (other : Option BobCmd) (s : State) : exec (.bobbinIdentify ix q cid other) s = execBobbinIdentify ix q cid other s := rfl
@[simp] theorem exec_geometry (ix q cid : Nat) (other : Option BobCmd) (s : State) : exec (.geometry ix q cid other) s = execGeometry ix q cid other s := rfl
@[simp] theorem exec_readPage (ix q cid : Nat) (other : Option BobCmd) (outcome corrected : Nat) (s : State) : exec (.readPage ix q cid other outcome corrected) s = execReadPage ix q cid other outcome corrected s := rfl
@[simp] theorem exec_programPages (ix q cid : Nat) (other : Option BobCmd) (outcome : Nat) (s : State) : exec (.programPages ix q cid other outcome) s = execProgramPages ix q cid other outcome s := rfl
@[simp] theorem exec_eraseBlock (ix q cid : Nat) (other : Option BobCmd) (outcome : Nat) (s : State) : exec (.eraseBlock ix q cid other outcome) s = execEraseBlock ix q cid other outcome s := rfl
@[simp] theorem exec_claimSet (ix q cid : Nat) (other : Option BobCmd) (s : State) : exec (.claimSet ix q cid other) s = execClaimSet ix q cid other s := rfl
@[simp] theorem exec_claimGet (ix q cid : Nat) (other : Option BobCmd) (s : State) : exec (.claimGet ix q cid other) s = execClaimGet ix q cid other s := rfl
@[simp] theorem exec_telemetry (ix q cid : Nat) (other : Option BobCmd) (failed : Bool) (tempC : Int) (s : State) : exec (.telemetry ix q cid other failed tempC) s = execTelemetry ix q cid other failed tempC s := rfl
@[simp] theorem exec_setFeature (ix q cid : Nat) (other : Option BobCmd) (s : State) : exec (.setFeature ix q cid other) s = execSetFeature ix q cid other s := rfl
@[simp] theorem exec_resetLun (ix q cid : Nat) (other : Option BobCmd) (started : List (Nat × Nat)) (s : State) : exec (.resetLun ix q cid other started) s = execResetLun ix q cid other started s := rfl
@[simp] theorem exec_moduleEnWrite (ix value : Nat) (ready : Bool) (started : List (Nat × Nat)) (bad : BadPages) (s : State) : exec (.moduleEnWrite ix value ready started bad) s = execModuleEnWrite ix value ready started bad s := rfl
@[simp] theorem exec_moduleSqTail (ix q tail : Nat) (s : State) : exec (.moduleSqTail ix q tail) s = execModuleSqTail ix q tail s := rfl
@[simp] theorem exec_bobbinCompletion (ix q cid : Nat) (bad : BadPages) (s : State) : exec (.bobbinCompletion ix q cid bad) s = execBobbinCompletion ix q cid bad s := rfl
@[simp] theorem exec_bobbinCmdTimeout (ix q cid : Nat) (bad : BadPages) (s : State) : exec (.bobbinCmdTimeout ix q cid bad) s = execBobbinCmdTimeout ix q cid bad s := rfl
@[simp] theorem exec_cidQuarantineExpiry (ix q cid : Nat) (s : State) : exec (.cidQuarantineExpiry ix q cid) s = execCidQuarantineExpiry ix q cid s := rfl
@[simp] theorem exec_modulePortAbort (ix kind : Nat) (started : List (Nat × Nat)) (bad : BadPages) (s : State) : exec (.modulePortAbort ix kind started bad) s = execModulePortAbort ix kind started bad s := rfl
@[simp] theorem exec_inboundDma (motif addr n : Nat) (write : Bool) (data : Bytes) (s : State) : exec (.inboundDma motif addr n write data) s = execInboundDma motif addr n write data s := rfl
@[simp] theorem exec_ethLinkChange (motif sub : Nat) (up : Bool) (speed corr uncorr : Nat) (s : State) : exec (.ethLinkChange motif sub up speed corr uncorr) s = execEthLinkChange motif sub up speed corr uncorr s := rfl
@[simp] theorem exec_rdmaSend (hdr : PktHdr) (plain first last : Bool) (data : Bytes) (s : State) : exec (.rdmaSend hdr plain first last data) s = execRdmaSend hdr plain first last data s := rfl
@[simp] theorem exec_rdmaWrite (hdr : PktHdr) (va rkey ofs : Nat) (first last imm : Bool) (data : Bytes) (s : State) : exec (.rdmaWrite hdr va rkey ofs first last imm data) s = execRdmaWrite hdr va rkey ofs first last imm data s := rfl
@[simp] theorem exec_rdmaRead (hdr : PktHdr) (va rkey len : Nat) (bad : BadPages) (s : State) : exec (.rdmaRead hdr va rkey len bad) s = execRdmaRead hdr va rkey len bad s := rfl
@[simp] theorem exec_rdmaAtomic (hdr : PktHdr) (va rkey : Nat) (cas : Bool) (a b : Nat) (s : State) : exec (.rdmaAtomic hdr va rkey cas a b) s = execRdmaAtomic hdr va rkey cas a b s := rfl
@[simp] theorem exec_contextFillComplete (conn : Nat) (late broken : Bool) (bad : BadPages) (s : State) : exec (.contextFillComplete conn late broken bad) s = execContextFillComplete conn late broken bad s := rfl
@[simp] theorem exec_rdmaAckReceive (conn kind psn code base high map : Nat) (resync : Bool) (s : State) : exec (.rdmaAckReceive conn kind psn code base high map resync) s = execRdmaAckReceive conn kind psn code base high map resync s := rfl
@[simp] theorem exec_sprayGapTimeout (conn : Nat) (s : State) : exec (.sprayGapTimeout conn) s = execSprayGapTimeout conn s := rfl
@[simp] theorem exec_readResponseGap (conn psn va len : Nat) (s : State) : exec (.readResponseGap conn psn va len) s = execReadResponseGap conn psn va len s := rfl
@[simp] theorem exec_localAckTimeout (conn : Nat) (s : State) : exec (.localAckTimeout conn) s = execLocalAckTimeout conn s := rfl
@[simp] theorem exec_pathSuspendExpiry (conn path : Nat) (s : State) : exec (.pathSuspendExpiry conn path) s = execPathSuspendExpiry conn path s := rfl
@[simp] theorem exec_connCreate (motif value sub : Nat) (s : State) : exec (.connCreate motif value sub) s = execConnCreate motif value sub s := rfl
@[simp] theorem exec_connDestroy (motif value : Nat) (s : State) : exec (.connDestroy motif value) s = execConnDestroy motif value s := rfl
@[simp] theorem exec_connErrorCmd (motif value : Nat) (s : State) : exec (.connErrorCmd motif value) s = execConnErrorCmd motif value s := rfl
@[simp] theorem exec_timewaitExpiry (conn : Nat) (s : State) : exec (.timewaitExpiry conn) s = execTimewaitExpiry conn s := rfl
@[simp] theorem exec_fwRxFrame (motif sub : Nat) (frame : Bytes) (ts : Option (Nat × Nat × Nat)) (arpFor : Option Nat) (s : State) : exec (.fwRxFrame motif sub frame ts arpFor) s = execFwRxFrame motif sub frame ts arpFor s := rfl
@[simp] theorem exec_fwTxPost (value subNs : Nat) (s : State) : exec (.fwTxPost value subNs) s = execFwTxPost value subNs s := rfl
@[simp] theorem exec_pfcFrameReceive (motif sub prio : Nat) (pause : Bool) (levels : List (Nat × Nat)) (s : State) : exec (.pfcFrameReceive motif sub prio pause levels) s = execPfcFrameReceive motif sub prio pause levels s := rfl
@[simp] theorem exec_cnpReceive (conn : Nat) (ce : Bool) (s : State) : exec (.cnpReceive conn ce) s = execCnpReceive conn ce s := rfl
@[simp] theorem exec_ccRateTimer (conn : Nat) (s : State) : exec (.ccRateTimer conn) s = execCcRateTimer conn s := rfl
@[simp] theorem exec_mrValidate (value : Nat) (s : State) : exec (.mrValidate value) s = execMrValidate value s := rfl
@[simp] theorem exec_mrRevoke (value : Nat) (s : State) : exec (.mrRevoke value) s = execMrRevoke value s := rfl
@[simp] theorem exec_revokeDrainComplete (s : State) : exec (.revokeDrainComplete) s = execRevokeDrainComplete s := rfl
@[simp] theorem exec_rplSnapshot (value : Nat) (s : State) : exec (.rplSnapshot value) s = execRplSnapshot value s := rfl
@[simp] theorem exec_cutStitchReached (s : State) : exec (.cutStitchReached) s = execCutStitchReached s := rfl
@[simp] theorem exec_snapshotReady (view : Nat) (bad : BadPages) (s : State) : exec (.snapshotReady view bad) s = execSnapshotReady view bad s := rfl
@[simp] theorem exec_rplClone (value : Nat) (s : State) : exec (.rplClone value) s = execRplClone value s := rfl
@[simp] theorem exec_rplDelete (value : Nat) (s : State) : exec (.rplDelete value) s = execRplDelete value s := rfl
@[simp] theorem exec_walkerRelease (motif : Nat) (s : State) : exec (.walkerRelease motif) s = execWalkerRelease motif s := rfl
@[simp] theorem exec_epochBegin (t : Nat) (s : State) : exec (.epochBegin t) s = execEpochBegin t s := rfl
@[simp] theorem exec_query (t : Nat) (s : State) : exec (.query t) s = execQuery t s := rfl
@[simp] theorem exec_applied (t : Nat) (bad : BadPages) (s : State) : exec (.applied t bad) s = execApplied t bad s := rfl
@[simp] theorem exec_data (t : Nat) (bad : BadPages) (s : State) : exec (.data t bad) s = execData t bad s := rfl
@[simp] theorem exec_epochEnd (t : Nat) (s : State) : exec (.epochEnd t) s = execEpochEnd t s := rfl
@[simp] theorem exec_epochAck (t : Nat) (s : State) : exec (.epochAck t) s = execEpochAck t s := rfl
@[simp] theorem exec_epochRestart (t : Nat) (bad : BadPages) (s : State) : exec (.epochRestart t bad) s = execEpochRestart t bad s := rfl
@[simp] theorem exec_replLagAlarm (t : Nat) (s : State) : exec (.replLagAlarm t) s = execReplLagAlarm t s := rfl
@[simp] theorem exec_sqDoorbellWrite (sq tail : Nat) (s : State) : exec (.sqDoorbellWrite sq tail) s = execSqDoorbellWrite sq tail s := rfl
@[simp] theorem exec_createIoSq (f : Fetch) (qid size cq : Nat) (contiguous : Bool) (s : State) : exec (.createIoSq f qid size cq contiguous) s = execCreateIoSq f qid size cq contiguous s := rfl
@[simp] theorem exec_deleteIoSq (f : Fetch) (qid : Nat) (s : State) : exec (.deleteIoSq f qid) s = execDeleteIoSq f qid s := rfl
@[simp] theorem exec_createIoCq (f : Fetch) (qid size vec : Nat) (ien contiguous : Bool) (s : State) : exec (.createIoCq f qid size vec ien contiguous) s = execCreateIoCq f qid size vec ien contiguous s := rfl
@[simp] theorem exec_deleteIoCq (f : Fetch) (qid : Nat) (s : State) : exec (.deleteIoCq f qid) s = execDeleteIoCq f qid s := rfl
@[simp] theorem exec_getLogPage (f : Fetch) (page ofs len : Nat) (sqe : Bytes) (s : State) : exec (.getLogPage f page ofs len sqe) s = execGetLogPage f page ofs len sqe s := rfl
@[simp] theorem exec_nvmeIdentify (f : Fetch) (sqe : Bytes) (s : State) : exec (.nvmeIdentify f sqe) s = execNvmeIdentify f sqe s := rfl
@[simp] theorem exec_abort (f : Fetch) (sq cid : Nat) (waiting : Bool) (s : State) : exec (.abort f sq cid waiting) s = execAbort f sq cid waiting s := rfl
@[simp] theorem exec_setFeatures (f : Fetch) (fid value : Nat) (sqe data : Bytes) (s : State) : exec (.setFeatures f fid value sqe data) s = execSetFeatures f fid value sqe data s := rfl
@[simp] theorem exec_getFeatures (f : Fetch) (fid : Nat) (sqe : Bytes) (out : Nat) (s : State) : exec (.getFeatures f fid sqe out) s = execGetFeatures f fid sqe out s := rfl
@[simp] theorem exec_asyncEventRequest (f : Fetch) (s : State) : exec (.asyncEventRequest f) s = execAsyncEventRequest f s := rfl
@[simp] theorem exec_nsCreate (f : Fetch) (data : Bytes) (s : State) : exec (.nsCreate f data) s = execNsCreate f data s := rfl
@[simp] theorem exec_nsDelete (f : Fetch) (s : State) : exec (.nsDelete f) s = execNsDelete f s := rfl
@[simp] theorem exec_firmwareCommit (f : Fetch) (sqe : Bytes) (s : State) : exec (.firmwareCommit f sqe) s = execFirmwareCommit f sqe s := rfl
@[simp] theorem exec_firmwareImageDownload (f : Fetch) (sqe data : Bytes) (s : State) : exec (.firmwareImageDownload f sqe data) s = execFirmwareImageDownload f sqe data s := rfl
@[simp] theorem exec_namespaceAttachment (f : Fetch) (attach : Bool) (ctls : List Nat) (s : State) : exec (.namespaceAttachment f attach ctls) s = execNamespaceAttachment f attach ctls s := rfl
@[simp] theorem exec_keepAlive (f : Fetch) (s : State) : exec (.keepAlive f) s = execKeepAlive f s := rfl
@[simp] theorem exec_keepAliveTimeout (ctl : Nat) (s : State) : exec (.keepAliveTimeout ctl) s = execKeepAliveTimeout ctl s := rfl
@[simp] theorem exec_fabricsConnect (conn cid qid size ctl kato : Nat) (s : State) : exec (.fabricsConnect conn cid qid size ctl kato) s = execFabricsConnect conn cid qid size ctl kato s := rfl
@[simp] theorem exec_propertyGet (f : Fetch) (ofs : Nat) (s : State) : exec (.propertyGet f ofs) s = execPropertyGet f ofs s := rfl
@[simp] theorem exec_propertySet (f : Fetch) (ofs value : Nat) (s : State) : exec (.propertySet f ofs value) s = execPropertySet f ofs value s := rfl
@[simp] theorem exec_disconnect (f : Fetch) (s : State) : exec (.disconnect f) s = execDisconnect f s := rfl
@[simp] theorem exec_nvmeWrite (f : Fetch) (atom count len : Nat) (fua byWrite : Bool) (s : State) : exec (.nvmeWrite f atom count len fua byWrite) s = execNvmeWrite f atom count len fua byWrite s := rfl
@[simp] theorem exec_nvmeRead (f : Fetch) (atom count len : Nat) (bad : BadPages) (s : State) : exec (.nvmeRead f atom count len bad) s = execNvmeRead f atom count len bad s := rfl
@[simp] theorem exec_nvmeFlush (f : Fetch) (s : State) : exec (.nvmeFlush f) s = execNvmeFlush f s := rfl
@[simp] theorem exec_writeZeroes (f : Fetch) (atom count : Nat) (s : State) : exec (.writeZeroes f atom count) s = execWriteZeroes f atom count s := rfl
@[simp] theorem exec_datasetManagement (f : Fetch) (ranges : List (Nat × Nat)) (dealloc : Bool) (s : State) : exec (.datasetManagement f ranges dealloc) s = execDatasetManagement f ranges dealloc s := rfl
@[simp] theorem exec_verify (f : Fetch) (atom count : Nat) (bad : BadPages) (s : State) : exec (.verify f atom count bad) s = execVerify f atom count bad s := rfl
@[simp] theorem exec_fwcDone (slot : Nat) (s : State) : exec (.fwcDone slot) s = execFwcDone slot s := rfl
@[simp] theorem exec_ccEnSet (asqs acqs : Nat) (valid : Bool) (s : State) : exec (.ccEnSet asqs acqs valid) s = execCcEnSet asqs acqs valid s := rfl
@[simp] theorem exec_ccEnClear (s : State) : exec (.ccEnClear) s = execCcEnClear s := rfl
@[simp] theorem exec_ccShnNormal (s : State) : exec (.ccShnNormal) s = execCcShnNormal s := rfl
@[simp] theorem exec_ccShnAbrupt (s : State) : exec (.ccShnAbrupt) s = execCcShnAbrupt s := rfl
@[simp] theorem exec_controllerResetEnd (ctl : Nat) (s : State) : exec (.controllerResetEnd ctl) s = execControllerResetEnd ctl s := rfl
@[simp] theorem exec_shutdownProcessingEnd (ctl : Nat) (s : State) : exec (.shutdownProcessingEnd ctl) s = execShutdownProcessingEnd ctl s := rfl
@[simp] theorem exec_perstAssert (hot : Bool) (s : State) : exec (.perstAssert hot) s = execPerstAssert hot s := rfl
@[simp] theorem exec_perstDeassert (l : HostLink) (s : State) : exec (.perstDeassert l) s = execPerstDeassert l s := rfl
@[simp] theorem exec_configRequest (pf : Nat) (bar : Option Nat) (addr n : Nat) (write : Option Bytes) (s : State) : exec (.configRequest pf bar addr n write) s = execConfigRequest pf bar addr n write s := rfl
@[simp] theorem exec_epRetrain (value : Nat) (done : Option HostLink) (s : State) : exec (.epRetrain value done) s = execEpRetrain value done s := rfl
@[simp] theorem exec_pf0Avail (value : Nat) (s : State) : exec (.pf0Avail value) s = execPf0Avail value s := rfl
@[simp] theorem exec_bmeClear (pf : Nat) (s : State) : exec (.bmeClear pf) s = execBmeClear pf s := rfl
@[simp] theorem exec_bmeSet (pf : Nat) (s : State) : exec (.bmeSet pf) s = execBmeSet pf s := rfl
@[simp] theorem exec_d3hotEntry (pf : Nat) (s : State) : exec (.d3hotEntry pf) s = execD3hotEntry pf s := rfl
@[simp] theorem exec_flrPf0 (s : State) : exec (.flrPf0) s = execFlrPf0 s := rfl
@[simp] theorem exec_flrPf1 (s : State) : exec (.flrPf1) s = execFlrPf1 s := rfl
@[simp] theorem exec_cplTimeout (tag : Nat) (other : Option HostReadWhy) (answered : Bool) (s : State) : exec (.cplTimeout tag other answered) s = execCplTimeout tag other answered s := rfl
@[simp] theorem exec_unexpectedCompletion (tag : Nat) (s : State) : exec (.unexpectedCompletion tag) s = execUnexpectedCompletion tag s := rfl
@[simp] theorem exec_tagQuarantineExpiry (tag : Nat) (s : State) : exec (.tagQuarantineExpiry tag) s = execTagQuarantineExpiry tag s := rfl
@[simp] theorem exec_poisonedTlpReceive (pf tag : Nat) (other : Option HostReadWhy) (s : State) : exec (.poisonedTlpReceive pf tag other) s = execPoisonedTlpReceive pf tag other s := rfl
@[simp] theorem exec_pf1Raise (value : Nat) (s : State) : exec (.pf1Raise value) s = execPf1Raise value s := rfl
@[simp] theorem exec_msixUnmask (pf v : Nat) (masked : Bool) (s : State) : exec (.msixUnmask pf v masked) s = execMsixUnmask pf v masked s := rfl
@[simp] theorem exec_pf1Bar2Access (ofs n : Nat) (data : Bytes) (s : State) : exec (.pf1Bar2Access ofs n data) s = execPf1Bar2Access ofs n data s := rfl
@[simp] theorem exec_coreUnmappedAccess (who : Who) (kind addr n cls : Nat) (s : State) : exec (.coreUnmappedAccess who kind addr n cls) s = execCoreUnmappedAccess who kind addr n cls s := rfl
@[simp] theorem exec_cacheFill (who : Who) (kind addr n cls : Nat) (stage : Option (Nat × Nat)) (data : Bytes) (upset : List (Nat × Nat)) (s : State) : exec (.cacheFill who kind addr n cls stage data upset) s = execCacheFill who kind addr n cls stage data upset s := rfl
@[simp] theorem exec_writebackComplete (motif line : Nat) (s : State) : exec (.writebackComplete motif line) s = execWritebackComplete motif line s := rfl
@[simp] theorem exec_eccInjectArm (motif value : Nat) (s : State) : exec (.eccInjectArm motif value) s = execEccInjectArm motif value s := rfl
@[simp] theorem exec_cchClean (motif value : Nat) (s : State) : exec (.cchClean motif value) s = execCchClean motif value s := rfl
@[simp] theorem exec_cchInvalidate (motif value : Nat) (s : State) : exec (.cchInvalidate motif value) s = execCchInvalidate motif value s := rfl
@[simp] theorem exec_cchCleanInvalidate (motif value : Nat) (s : State) : exec (.cchCleanInvalidate motif value) s = execCchCleanInvalidate motif value s := rfl
@[simp] theorem exec_maintComplete (motif : Nat) (s : State) : exec (.maintComplete motif) s = execMaintComplete motif s := rfl
@[simp] theorem exec_cchDisable (motif value : Nat) (s : State) : exec (.cchDisable motif value) s = execCchDisable motif value s := rfl
@[simp] theorem exec_cacheDrainComplete (motif : Nat) (s : State) : exec (.cacheDrainComplete motif) s = execCacheDrainComplete motif s := rfl
@[simp] theorem exec_cchPolicyChange (motif value : Nat) (s : State) : exec (.cchPolicyChange motif value) s = execCchPolicyChange motif value s := rfl
@[simp] theorem exec_sramScrubWalk (motif : Nat) (found : List (Flip × Nat × Bool)) (s : State) : exec (.sramScrubWalk motif found) s = execSramScrubWalk motif found s := rfl
@[simp] theorem exec_tvSweep (upsets : List (Nat × Nat × Nat × Nat × Nat)) (s : State) : exec (.tvSweep upsets) s = execTvSweep upsets s := rfl
@[simp] theorem exec_regulatorPoll (status : List (Nat × Bool × Bool)) (s : State) : exec (.regulatorPoll status) s = execRegulatorPoll status s := rfl
@[simp] theorem exec_smbalertFall (status : List (Nat × Bool × Bool)) (s : State) : exec (.smbalertFall status) s = execSmbalertFall status s := rfl
@[simp] theorem exec_huEnergyReadStart (s : State) : exec (.huEnergyReadStart) s = execHuEnergyReadStart s := rfl
@[simp] theorem exec_huEnergyReadDone (value : Option Nat) (s : State) : exec (.huEnergyReadDone value) s = execHuEnergyReadDone value s := rfl
@[simp] theorem exec_powerRailsGood (aonRemoved : Bool) (s : State) : exec (.powerRailsGood aonRemoved) s = execPowerRailsGood aonRemoved s := rfl
@[simp] theorem exec_penEnableStep (s : State) : exec (.penEnableStep) s = execPenEnableStep s := rfl
@[simp] theorem exec_pgoodRise (headId us : Nat) (huGood : Bool) (s : State) : exec (.pgoodRise headId us huGood) s = execPgoodRise headId us huGood s := rfl
@[simp] theorem exec_pgoodTimeout (s : State) : exec (.pgoodTimeout) s = execPgoodTimeout s := rfl
@[simp] theorem exec_pgoodLow (lowNs : Nat) (s : State) : exec (.pgoodLow lowNs) s = execPgoodLow lowNs s := rfl
@[simp] theorem exec_fwuErase (value : Nat) (s : State) : exec (.fwuErase value) s = execFwuErase value s := rfl
@[simp] theorem exec_fwuProgram (value : Nat) (s : State) : exec (.fwuProgram value) s = execFwuProgram value s := rfl
@[simp] theorem exec_fwuRead (value : Nat) (s : State) : exec (.fwuRead value) s = execFwuRead value s := rfl
@[simp] theorem exec_flashOpComplete (failed : Bool) (s : State) : exec (.flashOpComplete failed) s = execFlashOpComplete failed s := rfl
@[simp] theorem exec_fwuCommitNoAction (value : Nat) (s : State) : exec (.fwuCommitNoAction value) s = execFwuCommitNoAction value s := rfl
@[simp] theorem exec_fwuCommitReplace (value : Nat) (s : State) : exec (.fwuCommitReplace value) s = execFwuCommitReplace value s := rfl
@[simp] theorem exec_fwuCommitReplaceActivate (value : Nat) (s : State) : exec (.fwuCommitReplaceActivate value) s = execFwuCommitReplaceActivate value s := rfl
@[simp] theorem exec_fwuCommitActivateNow (value : Nat) (s : State) : exec (.fwuCommitActivateNow value) s = execFwuCommitActivateNow value s := rfl
@[simp] theorem exec_smpSnapTake (k value : Nat) (s : State) : exec (.smpSnapTake k value) s = execSmpSnapTake k value s := rfl
@[simp] theorem exec_cpuRelease (motif value : Nat) (byRoot : Bool) (s : State) : exec (.cpuRelease motif value byRoot) s = execCpuRelease motif value byRoot s := rfl
@[simp] theorem exec_cpuHalt (motif h value : Nat) (withRun : Bool) (s : State) : exec (.cpuHalt motif h value withRun) s = execCpuHalt motif h value withRun s := rfl
@[simp] theorem exec_hpmEventWrite (motif h ix value : Nat) (s : State) : exec (.hpmEventWrite motif h ix value) s = execHpmEventWrite motif h ix value s := rfl
@[simp] theorem exec_imsicSeteipnum (motif h level value : Nat) (be bar0 : Bool) (s : State) : exec (.imsicSeteipnum motif h level value be bar0) s = execImsicSeteipnum motif h level value be bar0 s := rfl
@[simp] theorem exec_hostLinkDown (up : Bool) (l : HostLink) (s : State) : exec (.hostLinkDown up l) s = execHostLinkDown up l s := rfl
@[simp] theorem exec_d0Return (pf : Nat) (s : State) : exec (.d0Return pf) s = execD0Return pf s := rfl
@[simp] theorem exec_cqHeadDoorbell (cq head : Nat) (s : State) : exec (.cqHeadDoorbell cq head) s = execCqHeadDoorbell cq head s := rfl
@[simp] theorem exec_rnrRetryTimer (conn : Nat) (s : State) : exec (.rnrRetryTimer conn) s = execRnrRetryTimer conn s := rfl
@[simp] theorem exec_moduleReadyTimeout (ix : Nat) (s : State) : exec (.moduleReadyTimeout ix) s = execModuleReadyTimeout ix s := rfl
@[simp] theorem exec_pauseExpiry (motif sub prio : Nat) (levels : List (Nat × Nat)) (s : State) : exec (.pauseExpiry motif sub prio levels) s = execPauseExpiry motif sub prio levels s := rfl

end Sys2Proof.Machine
end

