-- ==== Sys2Proof/Laws/Sparse.lean ====
section
/-! SUPPORT. The laws of sparse data: what a read gives after a write, and that every write keeps the canonical form. -/

namespace Sys2Proof.Machine

theorem Sparse.get_put_same (d : β) (m : Sparse β) (a : Nat) (v : β) : Sparse.get d (Sparse.put m a v) a = v := by
  induction m with
  | nil => simp [Sparse.put, Sparse.get]
  | cons p t ih =>
    obtain ⟨k, w⟩ := p
    unfold Sparse.put
    split
    · simp [Sparse.get]
    · split
      · simp [Sparse.get]
      · rename_i h1 h2
        have : ¬ k = a := fun e => h2 e.symm
        simp [Sparse.get, this, ih]

theorem Sparse.get_put_other (d : β) (m : Sparse β) (a b : Nat) (v : β) (h : a ≠ b) : Sparse.get d (Sparse.put m a v) b = Sparse.get d m b := by
  induction m with
  | nil => simp [Sparse.put, Sparse.get, h]
  | cons p t ih =>
    obtain ⟨k, w⟩ := p
    unfold Sparse.put
    split
    · simp [Sparse.get, h]
    · split
      · rename_i h2
        subst h2
        simp [Sparse.get, h]
      · simp [Sparse.get, ih]

theorem Sparse.get_erase_same (d : β) (m : Sparse β) (a : Nat) : Sparse.get d (Sparse.erase m a) a = d := by
  unfold Sparse.erase
  induction m with
  | nil => rfl
  | cons p t ih =>
    obtain ⟨k, w⟩ := p
    rw [List.filter_cons]
    split
    · rename_i h
      have : ¬ k = a := by simpa using h
      simp only [Sparse.get, this, if_false]
      exact ih
    · exact ih

theorem Sparse.get_erase_other (d : β) (m : Sparse β) (a b : Nat) (h : a ≠ b) : Sparse.get d (Sparse.erase m a) b = Sparse.get d m b := by
  unfold Sparse.erase
  induction m with
  | nil => rfl
  | cons p t ih =>
    obtain ⟨k, w⟩ := p
    rw [List.filter_cons]
    split
    · simp only [Sparse.get]
      rw [ih]
    · rename_i hk
      have : k = a := by simpa using hk
      have hb : ¬ k = b := by omega
      simp only [Sparse.get, hb, if_false]
      exact ih

/-- A read of the key just written gives the value written. -/
@[simp] theorem Sparse.get_set_same [DecidableEq β] (d : β) (m : Sparse β) (a : Nat) (v : β) : Sparse.get d (Sparse.set d m a v) a = v := by
  unfold Sparse.set
  split
  · rename_i h
    rw [Sparse.get_erase_same, h]
  · exact Sparse.get_put_same d m a v

/-- A write leaves every other key alone, whatever its own default is. -/
theorem Sparse.get_set_other [DecidableEq β] (d e : β) (m : Sparse β) (a b : Nat) (v : β) (h : a ≠ b) :
    Sparse.get e (Sparse.set d m a v) b = Sparse.get e m b := by
  unfold Sparse.set
  split
  · exact Sparse.get_erase_other e m a b h
  · exact Sparse.get_put_other e m a b v h

/-- Every key of a map lies above `n`. -/
def Sparse.above (n : Nat) (m : Sparse β) : Prop := ∀ p ∈ m, n < p.1

theorem Sparse.sorted_cons (k : Nat) (w : β) (t : Sparse β) : Sparse.sorted ((k, w) :: t) = true ↔ Sparse.above k t ∧ Sparse.sorted t = true := by
  induction t generalizing k w with
  | nil => simp [Sparse.sorted, Sparse.above]
  | cons p t ih =>
    obtain ⟨k', w'⟩ := p
    simp only [Sparse.sorted, Bool.and_eq_true, decide_eq_true_eq]
    constructor
    · rintro ⟨h, hs⟩
      refine ⟨?_, hs⟩
      intro q hq
      rcases List.mem_cons.1 hq with rfl | hq
      · exact h
      · exact Nat.lt_trans h (((ih k' w').1 hs).1 q hq)
    · rintro ⟨h, hs⟩
      exact ⟨h (k', w') (by simp), hs⟩

theorem Sparse.mem_put {m : Sparse β} {a : Nat} {v : β} {p : Nat × β} (h : p ∈ Sparse.put m a v) : p = (a, v) ∨ p ∈ m := by
  induction m with
  | nil => left; simpa [Sparse.put] using h
  | cons q t ih =>
    obtain ⟨k, w⟩ := q
    unfold Sparse.put at h
    split at h
    · rcases List.mem_cons.1 h with e | h
      · exact .inl e
      · exact .inr h
    · split at h
      · rcases List.mem_cons.1 h with e | h
        · exact .inl e
        · exact .inr (List.mem_cons_of_mem _ h)
      · rcases List.mem_cons.1 h with e | h
        · exact .inr (by simp [e])
        · rcases ih h with e | h
          · exact .inl e
          · exact .inr (List.mem_cons_of_mem _ h)

theorem Sparse.sorted_put (m : Sparse β) (a : Nat) (v : β) (h : Sparse.sorted m = true) : Sparse.sorted (Sparse.put m a v) = true := by
  induction m with
  | nil => simp [Sparse.put, Sparse.sorted]
  | cons q t ih =>
    obtain ⟨k, w⟩ := q
    have hk := (Sparse.sorted_cons k w t).1 h
    unfold Sparse.put
    split
    · rename_i hlt
      refine (Sparse.sorted_cons a v _).2 ⟨?_, h⟩
      intro p hp
      rcases List.mem_cons.1 hp with rfl | hp
      · exact hlt
      · exact Nat.lt_trans hlt (hk.1 p hp)
    · split
      · rename_i e
        subst e
        exact (Sparse.sorted_cons _ _ _).2 ⟨hk.1, hk.2⟩
      · rename_i h1 h2
        refine (Sparse.sorted_cons _ _ _).2 ⟨?_, ih hk.2⟩
        intro p hp
        rcases Sparse.mem_put hp with rfl | hp
        · show k < a
          omega
        · exact hk.1 p hp

theorem Sparse.sorted_filter (m : Sparse β) (f : Nat × β → Bool) (h : Sparse.sorted m = true) : Sparse.sorted (m.filter f) = true := by
  induction m with
  | nil => simp [Sparse.sorted]
  | cons q t ih =>
    obtain ⟨k, w⟩ := q
    have hk := (Sparse.sorted_cons k w t).1 h
    rw [List.filter_cons]
    split
    · exact (Sparse.sorted_cons _ _ _).2 ⟨fun p hp => hk.1 p (List.mem_filter.1 hp).1, ih hk.2⟩
    · exact ih hk.2

/-- A write keeps the canonical form. -/
theorem Sparse.wf_set [DecidableEq β] (d : β) (m : Sparse β) (a : Nat) (v : β) (h : Sparse.wf d m = true) : Sparse.wf d (Sparse.set d m a v) = true := by
  unfold Sparse.wf at h ⊢
  simp only [Bool.and_eq_true, List.all_eq_true, decide_eq_true_eq] at h ⊢
  unfold Sparse.set
  split
  · exact ⟨Sparse.sorted_filter _ _ h.1, fun p hp => h.2 p (List.mem_filter.1 hp).1⟩
  · rename_i hv
    refine ⟨Sparse.sorted_put m a v h.1, fun p hp => ?_⟩
    rcases Sparse.mem_put hp with rfl | hp
    · exact hv
    · exact h.2 p hp

/-- A run of writes keeps the canonical form. -/
theorem Sparse.wf_setRange [DecidableEq β] (d : β) (m : Sparse β) (a : Nat) (l : List β) (h : Sparse.wf d m = true) :
    Sparse.wf d (Sparse.setRange d m a l) = true := by
  induction l generalizing m a with
  | nil => exact h
  | cons v t ih => exact ih _ _ (Sparse.wf_set d m a v h)

/-- An erased range keeps the canonical form. -/
theorem Sparse.wf_clearRange [DecidableEq β] (d : β) (m : Sparse β) (a n : Nat) (h : Sparse.wf d m = true) : Sparse.wf d (Sparse.clearRange m a n) = true := by
  unfold Sparse.wf at h ⊢
  simp only [Bool.and_eq_true, List.all_eq_true, decide_eq_true_eq] at h ⊢
  exact ⟨Sparse.sorted_filter _ _ h.1, fun p hp => h.2 p (List.mem_filter.1 hp).1⟩

/-- A run of writes leaves every key outside it alone. -/
theorem Sparse.get_setRange_out [DecidableEq β] (d : β) (m : Sparse β) (a b : Nat) (l : List β) (h : b < a ∨ a + l.length ≤ b) :
    Sparse.get d (Sparse.setRange d m a l) b = Sparse.get d m b := by
  induction l generalizing m a with
  | nil => rfl
  | cons v t ih =>
    simp only [List.length_cons] at h
    unfold Sparse.setRange
    rw [ih _ _ (by omega), Sparse.get_set_other d d m a b v (by omega)]

/-- A run of values written reads back. -/
theorem Sparse.getRange_setRange [DecidableEq β] (d : β) (m : Sparse β) (a : Nat) (l : List β) :
    Sparse.getRange d (Sparse.setRange d m a l) a l.length = l := by
  induction l generalizing m a with
  | nil => rfl
  | cons v t ih =>
    simp only [List.length_cons, Sparse.getRange, Sparse.setRange]
    rw [ih, Sparse.get_setRange_out _ _ _ _ _ (by omega), Sparse.get_set_same]

end Sys2Proof.Machine
end

