-- ==== Sys2Proof/Laws/State.lean ====
section
/-! SUPPORT. What each update of the state leaves in each field, one lemma per field and update, so that no proof unfolds a record update. -/

namespace Sys2Proof.Machine

@[simp] theorem State.modStc_pending (s : State) (f : StitchSt → StitchSt) : (s.modStc f).pending = s.pending := rfl
@[simp] theorem State.modStc_regs (s : State) (f : StitchSt → StitchSt) : (s.modStc f).regs = s.regs := rfl
@[simp] theorem State.modStc_mem (s : State) (f : StitchSt → StitchSt) : (s.modStc f).mem = s.mem := rfl
@[simp] theorem State.modStc_flash (s : State) (f : StitchSt → StitchSt) : (s.modStc f).flash = s.flash := rfl
@[simp] theorem State.modStc_fop (s : State) (f : StitchSt → StitchSt) : (s.modStc f).fop = s.fop := rfl
@[simp] theorem State.modStc_mram (s : State) (f : StitchSt → StitchSt) : (s.modStc f).mram = s.mram := rfl
@[simp] theorem State.modStc_tv (s : State) (f : StitchSt → StitchSt) : (s.modStc f).tv = s.tv := rfl
@[simp] theorem State.modStc_imageDigest (s : State) (f : StitchSt → StitchSt) : (s.modStc f).imageDigest = s.imageDigest := rfl
@[simp] theorem State.modStc_fuses (s : State) (f : StitchSt → StitchSt) : (s.modStc f).fuses = s.fuses := rfl
@[simp] theorem State.modStc_power (s : State) (f : StitchSt → StitchSt) : (s.modStc f).power = s.power := rfl
@[simp] theorem State.modStc_txOff (s : State) (f : StitchSt → StitchSt) : (s.modStc f).txOff = s.txOff := rfl
@[simp] theorem State.modStc_eip (s : State) (f : StitchSt → StitchSt) : (s.modStc f).eip = s.eip := rfl
@[simp] theorem State.modStc_outbox (s : State) (f : StitchSt → StitchSt) : (s.modStc f).outbox = s.outbox := rfl
@[simp] theorem State.modStc_free (s : State) (f : StitchSt → StitchSt) : (s.modStc f).free = s.free := rfl
@[simp] theorem State.modStc_prk (s : State) (f : StitchSt → StitchSt) : (s.modStc f).prk = s.prk := rfl
@[simp] theorem State.modStc_stc (s : State) (f : StitchSt → StitchSt) : (s.modStc f).stc = f s.stc := rfl
@[simp] theorem State.modStc_therm (s : State) (f : StitchSt → StitchSt) : (s.modStc f).therm = s.therm := rfl
@[simp] theorem State.modStc_hu (s : State) (f : StitchSt → StitchSt) : (s.modStc f).hu = s.hu := rfl
@[simp] theorem State.modStc_pair (s : State) (f : StitchSt → StitchSt) : (s.modStc f).pair = s.pair := rfl
@[simp] theorem State.modStc_dp (s : State) (f : StitchSt → StitchSt) : (s.modStc f).dp = s.dp := rfl
@[simp] theorem State.modStc_med (s : State) (f : StitchSt → StitchSt) : (s.modStc f).med = s.med := rfl
@[simp] theorem State.modStc_bob (s : State) (f : StitchSt → StitchSt) : (s.modStc f).bob = s.bob := rfl
@[simp] theorem State.modStc_hq (s : State) (f : StitchSt → StitchSt) : (s.modStc f).hq = s.hq := rfl
@[simp] theorem State.modStc_ep (s : State) (f : StitchSt → StitchSt) : (s.modStc f).ep = s.ep := rfl
@[simp] theorem State.modStc_net (s : State) (f : StitchSt → StitchSt) : (s.modStc f).net = s.net := rfl
@[simp] theorem State.modStc_rpl (s : State) (f : StitchSt → StitchSt) : (s.modStc f).rpl = s.rpl := rfl
@[simp] theorem State.modStc_cip (s : State) (f : StitchSt → StitchSt) : (s.modStc f).cip = s.cip := rfl
@[simp] theorem State.modStc_ms (s : State) (f : StitchSt → StitchSt) : (s.modStc f).ms = s.ms := rfl
@[simp] theorem State.modStc_eng (s : State) (f : StitchSt → StitchSt) : (s.modStc f).eng = s.eng := rfl
@[simp] theorem State.modStc_reg (s : State) (f : StitchSt → StitchSt) (r : Reg) (m i : Nat) : (s.modStc f).reg r m i = s.reg r m i := rfl
@[simp] theorem State.modStc_fld (s : State) (f : StitchSt → StitchSt) (g : Fld Reg) (m i : Nat) : (s.modStc f).fld g m i = s.fld g m i := rfl

@[simp] theorem State.modTherm_pending (s : State) (f : ThermSt → ThermSt) : (s.modTherm f).pending = s.pending := rfl
@[simp] theorem State.modTherm_regs (s : State) (f : ThermSt → ThermSt) : (s.modTherm f).regs = s.regs := rfl
@[simp] theorem State.modTherm_mem (s : State) (f : ThermSt → ThermSt) : (s.modTherm f).mem = s.mem := rfl
@[simp] theorem State.modTherm_flash (s : State) (f : ThermSt → ThermSt) : (s.modTherm f).flash = s.flash := rfl
@[simp] theorem State.modTherm_fop (s : State) (f : ThermSt → ThermSt) : (s.modTherm f).fop = s.fop := rfl
@[simp] theorem State.modTherm_mram (s : State) (f : ThermSt → ThermSt) : (s.modTherm f).mram = s.mram := rfl
@[simp] theorem State.modTherm_tv (s : State) (f : ThermSt → ThermSt) : (s.modTherm f).tv = s.tv := rfl
@[simp] theorem State.modTherm_imageDigest (s : State) (f : ThermSt → ThermSt) : (s.modTherm f).imageDigest = s.imageDigest := rfl
@[simp] theorem State.modTherm_fuses (s : State) (f : ThermSt → ThermSt) : (s.modTherm f).fuses = s.fuses := rfl
@[simp] theorem State.modTherm_power (s : State) (f : ThermSt → ThermSt) : (s.modTherm f).power = s.power := rfl
@[simp] theorem State.modTherm_txOff (s : State) (f : ThermSt → ThermSt) : (s.modTherm f).txOff = s.txOff := rfl
@[simp] theorem State.modTherm_eip (s : State) (f : ThermSt → ThermSt) : (s.modTherm f).eip = s.eip := rfl
@[simp] theorem State.modTherm_outbox (s : State) (f : ThermSt → ThermSt) : (s.modTherm f).outbox = s.outbox := rfl
@[simp] theorem State.modTherm_free (s : State) (f : ThermSt → ThermSt) : (s.modTherm f).free = s.free := rfl
@[simp] theorem State.modTherm_prk (s : State) (f : ThermSt → ThermSt) : (s.modTherm f).prk = s.prk := rfl
@[simp] theorem State.modTherm_stc (s : State) (f : ThermSt → ThermSt) : (s.modTherm f).stc = s.stc := rfl
@[simp] theorem State.modTherm_therm (s : State) (f : ThermSt → ThermSt) : (s.modTherm f).therm = f s.therm := rfl
@[simp] theorem State.modTherm_hu (s : State) (f : ThermSt → ThermSt) : (s.modTherm f).hu = s.hu := rfl
@[simp] theorem State.modTherm_pair (s : State) (f : ThermSt → ThermSt) : (s.modTherm f).pair = s.pair := rfl
@[simp] theorem State.modTherm_dp (s : State) (f : ThermSt → ThermSt) : (s.modTherm f).dp = s.dp := rfl
@[simp] theorem State.modTherm_med (s : State) (f : ThermSt → ThermSt) : (s.modTherm f).med = s.med := rfl
@[simp] theorem State.modTherm_bob (s : State) (f : ThermSt → ThermSt) : (s.modTherm f).bob = s.bob := rfl
@[simp] theorem State.modTherm_hq (s : State) (f : ThermSt → ThermSt) : (s.modTherm f).hq = s.hq := rfl
@[simp] theorem State.modTherm_ep (s : State) (f : ThermSt → ThermSt) : (s.modTherm f).ep = s.ep := rfl
@[simp] theorem State.modTherm_net (s : State) (f : ThermSt → ThermSt) : (s.modTherm f).net = s.net := rfl
@[simp] theorem State.modTherm_rpl (s : State) (f : ThermSt → ThermSt) : (s.modTherm f).rpl = s.rpl := rfl
@[simp] theorem State.modTherm_cip (s : State) (f : ThermSt → ThermSt) : (s.modTherm f).cip = s.cip := rfl
@[simp] theorem State.modTherm_ms (s : State) (f : ThermSt → ThermSt) : (s.modTherm f).ms = s.ms := rfl
@[simp] theorem State.modTherm_eng (s : State) (f : ThermSt → ThermSt) : (s.modTherm f).eng = s.eng := rfl
@[simp] theorem State.modTherm_reg (s : State) (f : ThermSt → ThermSt) (r : Reg) (m i : Nat) : (s.modTherm f).reg r m i = s.reg r m i := rfl
@[simp] theorem State.modTherm_fld (s : State) (f : ThermSt → ThermSt) (g : Fld Reg) (m i : Nat) : (s.modTherm f).fld g m i = s.fld g m i := rfl

@[simp] theorem State.modHu_pending (s : State) (f : HoldUpSt → HoldUpSt) : (s.modHu f).pending = s.pending := rfl
@[simp] theorem State.modHu_regs (s : State) (f : HoldUpSt → HoldUpSt) : (s.modHu f).regs = s.regs := rfl
@[simp] theorem State.modHu_mem (s : State) (f : HoldUpSt → HoldUpSt) : (s.modHu f).mem = s.mem := rfl
@[simp] theorem State.modHu_flash (s : State) (f : HoldUpSt → HoldUpSt) : (s.modHu f).flash = s.flash := rfl
@[simp] theorem State.modHu_fop (s : State) (f : HoldUpSt → HoldUpSt) : (s.modHu f).fop = s.fop := rfl
@[simp] theorem State.modHu_mram (s : State) (f : HoldUpSt → HoldUpSt) : (s.modHu f).mram = s.mram := rfl
@[simp] theorem State.modHu_tv (s : State) (f : HoldUpSt → HoldUpSt) : (s.modHu f).tv = s.tv := rfl
@[simp] theorem State.modHu_imageDigest (s : State) (f : HoldUpSt → HoldUpSt) : (s.modHu f).imageDigest = s.imageDigest := rfl
@[simp] theorem State.modHu_fuses (s : State) (f : HoldUpSt → HoldUpSt) : (s.modHu f).fuses = s.fuses := rfl
@[simp] theorem State.modHu_power (s : State) (f : HoldUpSt → HoldUpSt) : (s.modHu f).power = s.power := rfl
@[simp] theorem State.modHu_txOff (s : State) (f : HoldUpSt → HoldUpSt) : (s.modHu f).txOff = s.txOff := rfl
@[simp] theorem State.modHu_eip (s : State) (f : HoldUpSt → HoldUpSt) : (s.modHu f).eip = s.eip := rfl
@[simp] theorem State.modHu_outbox (s : State) (f : HoldUpSt → HoldUpSt) : (s.modHu f).outbox = s.outbox := rfl
@[simp] theorem State.modHu_free (s : State) (f : HoldUpSt → HoldUpSt) : (s.modHu f).free = s.free := rfl
@[simp] theorem State.modHu_prk (s : State) (f : HoldUpSt → HoldUpSt) : (s.modHu f).prk = s.prk := rfl
@[simp] theorem State.modHu_stc (s : State) (f : HoldUpSt → HoldUpSt) : (s.modHu f).stc = s.stc := rfl
@[simp] theorem State.modHu_therm (s : State) (f : HoldUpSt → HoldUpSt) : (s.modHu f).therm = s.therm := rfl
@[simp] theorem State.modHu_hu (s : State) (f : HoldUpSt → HoldUpSt) : (s.modHu f).hu = f s.hu := rfl
@[simp] theorem State.modHu_pair (s : State) (f : HoldUpSt → HoldUpSt) : (s.modHu f).pair = s.pair := rfl
@[simp] theorem State.modHu_dp (s : State) (f : HoldUpSt → HoldUpSt) : (s.modHu f).dp = s.dp := rfl
@[simp] theorem State.modHu_med (s : State) (f : HoldUpSt → HoldUpSt) : (s.modHu f).med = s.med := rfl
@[simp] theorem State.modHu_bob (s : State) (f : HoldUpSt → HoldUpSt) : (s.modHu f).bob = s.bob := rfl
@[simp] theorem State.modHu_hq (s : State) (f : HoldUpSt → HoldUpSt) : (s.modHu f).hq = s.hq := rfl
@[simp] theorem State.modHu_ep (s : State) (f : HoldUpSt → HoldUpSt) : (s.modHu f).ep = s.ep := rfl
@[simp] theorem State.modHu_net (s : State) (f : HoldUpSt → HoldUpSt) : (s.modHu f).net = s.net := rfl
@[simp] theorem State.modHu_rpl (s : State) (f : HoldUpSt → HoldUpSt) : (s.modHu f).rpl = s.rpl := rfl
@[simp] theorem State.modHu_cip (s : State) (f : HoldUpSt → HoldUpSt) : (s.modHu f).cip = s.cip := rfl
@[simp] theorem State.modHu_ms (s : State) (f : HoldUpSt → HoldUpSt) : (s.modHu f).ms = s.ms := rfl
@[simp] theorem State.modHu_eng (s : State) (f : HoldUpSt → HoldUpSt) : (s.modHu f).eng = s.eng := rfl
@[simp] theorem State.modHu_reg (s : State) (f : HoldUpSt → HoldUpSt) (r : Reg) (m i : Nat) : (s.modHu f).reg r m i = s.reg r m i := rfl
@[simp] theorem State.modHu_fld (s : State) (f : HoldUpSt → HoldUpSt) (g : Fld Reg) (m i : Nat) : (s.modHu f).fld g m i = s.fld g m i := rfl

@[simp] theorem State.modPair_pending (s : State) (f : PairSt → PairSt) : (s.modPair f).pending = s.pending := rfl
@[simp] theorem State.modPair_regs (s : State) (f : PairSt → PairSt) : (s.modPair f).regs = s.regs := rfl
@[simp] theorem State.modPair_mem (s : State) (f : PairSt → PairSt) : (s.modPair f).mem = s.mem := rfl
@[simp] theorem State.modPair_flash (s : State) (f : PairSt → PairSt) : (s.modPair f).flash = s.flash := rfl
@[simp] theorem State.modPair_fop (s : State) (f : PairSt → PairSt) : (s.modPair f).fop = s.fop := rfl
@[simp] theorem State.modPair_mram (s : State) (f : PairSt → PairSt) : (s.modPair f).mram = s.mram := rfl
@[simp] theorem State.modPair_tv (s : State) (f : PairSt → PairSt) : (s.modPair f).tv = s.tv := rfl
@[simp] theorem State.modPair_imageDigest (s : State) (f : PairSt → PairSt) : (s.modPair f).imageDigest = s.imageDigest := rfl
@[simp] theorem State.modPair_fuses (s : State) (f : PairSt → PairSt) : (s.modPair f).fuses = s.fuses := rfl
@[simp] theorem State.modPair_power (s : State) (f : PairSt → PairSt) : (s.modPair f).power = s.power := rfl
@[simp] theorem State.modPair_txOff (s : State) (f : PairSt → PairSt) : (s.modPair f).txOff = s.txOff := rfl
@[simp] theorem State.modPair_eip (s : State) (f : PairSt → PairSt) : (s.modPair f).eip = s.eip := rfl
@[simp] theorem State.modPair_outbox (s : State) (f : PairSt → PairSt) : (s.modPair f).outbox = s.outbox := rfl
@[simp] theorem State.modPair_free (s : State) (f : PairSt → PairSt) : (s.modPair f).free = s.free := rfl
@[simp] theorem State.modPair_prk (s : State) (f : PairSt → PairSt) : (s.modPair f).prk = s.prk := rfl
@[simp] theorem State.modPair_stc (s : State) (f : PairSt → PairSt) : (s.modPair f).stc = s.stc := rfl
@[simp] theorem State.modPair_therm (s : State) (f : PairSt → PairSt) : (s.modPair f).therm = s.therm := rfl
@[simp] theorem State.modPair_hu (s : State) (f : PairSt → PairSt) : (s.modPair f).hu = s.hu := rfl
@[simp] theorem State.modPair_pair (s : State) (f : PairSt → PairSt) : (s.modPair f).pair = f s.pair := rfl
@[simp] theorem State.modPair_dp (s : State) (f : PairSt → PairSt) : (s.modPair f).dp = s.dp := rfl
@[simp] theorem State.modPair_med (s : State) (f : PairSt → PairSt) : (s.modPair f).med = s.med := rfl
@[simp] theorem State.modPair_bob (s : State) (f : PairSt → PairSt) : (s.modPair f).bob = s.bob := rfl
@[simp] theorem State.modPair_hq (s : State) (f : PairSt → PairSt) : (s.modPair f).hq = s.hq := rfl
@[simp] theorem State.modPair_ep (s : State) (f : PairSt → PairSt) : (s.modPair f).ep = s.ep := rfl
@[simp] theorem State.modPair_net (s : State) (f : PairSt → PairSt) : (s.modPair f).net = s.net := rfl
@[simp] theorem State.modPair_rpl (s : State) (f : PairSt → PairSt) : (s.modPair f).rpl = s.rpl := rfl
@[simp] theorem State.modPair_cip (s : State) (f : PairSt → PairSt) : (s.modPair f).cip = s.cip := rfl
@[simp] theorem State.modPair_ms (s : State) (f : PairSt → PairSt) : (s.modPair f).ms = s.ms := rfl
@[simp] theorem State.modPair_eng (s : State) (f : PairSt → PairSt) : (s.modPair f).eng = s.eng := rfl
@[simp] theorem State.modPair_reg (s : State) (f : PairSt → PairSt) (r : Reg) (m i : Nat) : (s.modPair f).reg r m i = s.reg r m i := rfl
@[simp] theorem State.modPair_fld (s : State) (f : PairSt → PairSt) (g : Fld Reg) (m i : Nat) : (s.modPair f).fld g m i = s.fld g m i := rfl

@[simp] theorem State.modDp_pending (s : State) (f : DataSt → DataSt) : (s.modDp f).pending = s.pending := rfl
@[simp] theorem State.modDp_regs (s : State) (f : DataSt → DataSt) : (s.modDp f).regs = s.regs := rfl
@[simp] theorem State.modDp_mem (s : State) (f : DataSt → DataSt) : (s.modDp f).mem = s.mem := rfl
@[simp] theorem State.modDp_flash (s : State) (f : DataSt → DataSt) : (s.modDp f).flash = s.flash := rfl
@[simp] theorem State.modDp_fop (s : State) (f : DataSt → DataSt) : (s.modDp f).fop = s.fop := rfl
@[simp] theorem State.modDp_mram (s : State) (f : DataSt → DataSt) : (s.modDp f).mram = s.mram := rfl
@[simp] theorem State.modDp_tv (s : State) (f : DataSt → DataSt) : (s.modDp f).tv = s.tv := rfl
@[simp] theorem State.modDp_imageDigest (s : State) (f : DataSt → DataSt) : (s.modDp f).imageDigest = s.imageDigest := rfl
@[simp] theorem State.modDp_fuses (s : State) (f : DataSt → DataSt) : (s.modDp f).fuses = s.fuses := rfl
@[simp] theorem State.modDp_power (s : State) (f : DataSt → DataSt) : (s.modDp f).power = s.power := rfl
@[simp] theorem State.modDp_txOff (s : State) (f : DataSt → DataSt) : (s.modDp f).txOff = s.txOff := rfl
@[simp] theorem State.modDp_eip (s : State) (f : DataSt → DataSt) : (s.modDp f).eip = s.eip := rfl
@[simp] theorem State.modDp_outbox (s : State) (f : DataSt → DataSt) : (s.modDp f).outbox = s.outbox := rfl
@[simp] theorem State.modDp_free (s : State) (f : DataSt → DataSt) : (s.modDp f).free = s.free := rfl
@[simp] theorem State.modDp_prk (s : State) (f : DataSt → DataSt) : (s.modDp f).prk = s.prk := rfl
@[simp] theorem State.modDp_stc (s : State) (f : DataSt → DataSt) : (s.modDp f).stc = s.stc := rfl
@[simp] theorem State.modDp_therm (s : State) (f : DataSt → DataSt) : (s.modDp f).therm = s.therm := rfl
@[simp] theorem State.modDp_hu (s : State) (f : DataSt → DataSt) : (s.modDp f).hu = s.hu := rfl
@[simp] theorem State.modDp_pair (s : State) (f : DataSt → DataSt) : (s.modDp f).pair = s.pair := rfl
@[simp] theorem State.modDp_dp (s : State) (f : DataSt → DataSt) : (s.modDp f).dp = f s.dp := rfl
@[simp] theorem State.modDp_med (s : State) (f : DataSt → DataSt) : (s.modDp f).med = s.med := rfl
@[simp] theorem State.modDp_bob (s : State) (f : DataSt → DataSt) : (s.modDp f).bob = s.bob := rfl
@[simp] theorem State.modDp_hq (s : State) (f : DataSt → DataSt) : (s.modDp f).hq = s.hq := rfl
@[simp] theorem State.modDp_ep (s : State) (f : DataSt → DataSt) : (s.modDp f).ep = s.ep := rfl
@[simp] theorem State.modDp_net (s : State) (f : DataSt → DataSt) : (s.modDp f).net = s.net := rfl
@[simp] theorem State.modDp_rpl (s : State) (f : DataSt → DataSt) : (s.modDp f).rpl = s.rpl := rfl
@[simp] theorem State.modDp_cip (s : State) (f : DataSt → DataSt) : (s.modDp f).cip = s.cip := rfl
@[simp] theorem State.modDp_ms (s : State) (f : DataSt → DataSt) : (s.modDp f).ms = s.ms := rfl
@[simp] theorem State.modDp_eng (s : State) (f : DataSt → DataSt) : (s.modDp f).eng = s.eng := rfl
@[simp] theorem State.modDp_reg (s : State) (f : DataSt → DataSt) (r : Reg) (m i : Nat) : (s.modDp f).reg r m i = s.reg r m i := rfl
@[simp] theorem State.modDp_fld (s : State) (f : DataSt → DataSt) (g : Fld Reg) (m i : Nat) : (s.modDp f).fld g m i = s.fld g m i := rfl

@[simp] theorem State.modPower_pending (s : State) (f : PowerSt → PowerSt) : (s.modPower f).pending = s.pending := rfl
@[simp] theorem State.modPower_regs (s : State) (f : PowerSt → PowerSt) : (s.modPower f).regs = s.regs := rfl
@[simp] theorem State.modPower_mem (s : State) (f : PowerSt → PowerSt) : (s.modPower f).mem = s.mem := rfl
@[simp] theorem State.modPower_flash (s : State) (f : PowerSt → PowerSt) : (s.modPower f).flash = s.flash := rfl
@[simp] theorem State.modPower_fop (s : State) (f : PowerSt → PowerSt) : (s.modPower f).fop = s.fop := rfl
@[simp] theorem State.modPower_mram (s : State) (f : PowerSt → PowerSt) : (s.modPower f).mram = s.mram := rfl
@[simp] theorem State.modPower_tv (s : State) (f : PowerSt → PowerSt) : (s.modPower f).tv = s.tv := rfl
@[simp] theorem State.modPower_imageDigest (s : State) (f : PowerSt → PowerSt) : (s.modPower f).imageDigest = s.imageDigest := rfl
@[simp] theorem State.modPower_fuses (s : State) (f : PowerSt → PowerSt) : (s.modPower f).fuses = s.fuses := rfl
@[simp] theorem State.modPower_power (s : State) (f : PowerSt → PowerSt) : (s.modPower f).power = f s.power := rfl
@[simp] theorem State.modPower_txOff (s : State) (f : PowerSt → PowerSt) : (s.modPower f).txOff = s.txOff := rfl
@[simp] theorem State.modPower_eip (s : State) (f : PowerSt → PowerSt) : (s.modPower f).eip = s.eip := rfl
@[simp] theorem State.modPower_outbox (s : State) (f : PowerSt → PowerSt) : (s.modPower f).outbox = s.outbox := rfl
@[simp] theorem State.modPower_free (s : State) (f : PowerSt → PowerSt) : (s.modPower f).free = s.free := rfl
@[simp] theorem State.modPower_prk (s : State) (f : PowerSt → PowerSt) : (s.modPower f).prk = s.prk := rfl
@[simp] theorem State.modPower_stc (s : State) (f : PowerSt → PowerSt) : (s.modPower f).stc = s.stc := rfl
@[simp] theorem State.modPower_therm (s : State) (f : PowerSt → PowerSt) : (s.modPower f).therm = s.therm := rfl
@[simp] theorem State.modPower_hu (s : State) (f : PowerSt → PowerSt) : (s.modPower f).hu = s.hu := rfl
@[simp] theorem State.modPower_pair (s : State) (f : PowerSt → PowerSt) : (s.modPower f).pair = s.pair := rfl
@[simp] theorem State.modPower_dp (s : State) (f : PowerSt → PowerSt) : (s.modPower f).dp = s.dp := rfl
@[simp] theorem State.modPower_med (s : State) (f : PowerSt → PowerSt) : (s.modPower f).med = s.med := rfl
@[simp] theorem State.modPower_bob (s : State) (f : PowerSt → PowerSt) : (s.modPower f).bob = s.bob := rfl
@[simp] theorem State.modPower_hq (s : State) (f : PowerSt → PowerSt) : (s.modPower f).hq = s.hq := rfl
@[simp] theorem State.modPower_ep (s : State) (f : PowerSt → PowerSt) : (s.modPower f).ep = s.ep := rfl
@[simp] theorem State.modPower_net (s : State) (f : PowerSt → PowerSt) : (s.modPower f).net = s.net := rfl
@[simp] theorem State.modPower_rpl (s : State) (f : PowerSt → PowerSt) : (s.modPower f).rpl = s.rpl := rfl
@[simp] theorem State.modPower_cip (s : State) (f : PowerSt → PowerSt) : (s.modPower f).cip = s.cip := rfl
@[simp] theorem State.modPower_ms (s : State) (f : PowerSt → PowerSt) : (s.modPower f).ms = s.ms := rfl
@[simp] theorem State.modPower_eng (s : State) (f : PowerSt → PowerSt) : (s.modPower f).eng = s.eng := rfl
@[simp] theorem State.modPower_reg (s : State) (f : PowerSt → PowerSt) (r : Reg) (m i : Nat) : (s.modPower f).reg r m i = s.reg r m i := rfl
@[simp] theorem State.modPower_fld (s : State) (f : PowerSt → PowerSt) (g : Fld Reg) (m i : Nat) : (s.modPower f).fld g m i = s.fld g m i := rfl

@[simp] theorem State.modMed_pending (s : State) (f : MediaSt → MediaSt) : (s.modMed f).pending = s.pending := rfl
@[simp] theorem State.modMed_regs (s : State) (f : MediaSt → MediaSt) : (s.modMed f).regs = s.regs := rfl
@[simp] theorem State.modMed_mem (s : State) (f : MediaSt → MediaSt) : (s.modMed f).mem = s.mem := rfl
@[simp] theorem State.modMed_flash (s : State) (f : MediaSt → MediaSt) : (s.modMed f).flash = s.flash := rfl
@[simp] theorem State.modMed_fop (s : State) (f : MediaSt → MediaSt) : (s.modMed f).fop = s.fop := rfl
@[simp] theorem State.modMed_mram (s : State) (f : MediaSt → MediaSt) : (s.modMed f).mram = s.mram := rfl
@[simp] theorem State.modMed_tv (s : State) (f : MediaSt → MediaSt) : (s.modMed f).tv = s.tv := rfl
@[simp] theorem State.modMed_imageDigest (s : State) (f : MediaSt → MediaSt) : (s.modMed f).imageDigest = s.imageDigest := rfl
@[simp] theorem State.modMed_fuses (s : State) (f : MediaSt → MediaSt) : (s.modMed f).fuses = s.fuses := rfl
@[simp] theorem State.modMed_power (s : State) (f : MediaSt → MediaSt) : (s.modMed f).power = s.power := rfl
@[simp] theorem State.modMed_txOff (s : State) (f : MediaSt → MediaSt) : (s.modMed f).txOff = s.txOff := rfl
@[simp] theorem State.modMed_eip (s : State) (f : MediaSt → MediaSt) : (s.modMed f).eip = s.eip := rfl
@[simp] theorem State.modMed_outbox (s : State) (f : MediaSt → MediaSt) : (s.modMed f).outbox = s.outbox := rfl
@[simp] theorem State.modMed_free (s : State) (f : MediaSt → MediaSt) : (s.modMed f).free = s.free := rfl
@[simp] theorem State.modMed_prk (s : State) (f : MediaSt → MediaSt) : (s.modMed f).prk = s.prk := rfl
@[simp] theorem State.modMed_stc (s : State) (f : MediaSt → MediaSt) : (s.modMed f).stc = s.stc := rfl
@[simp] theorem State.modMed_therm (s : State) (f : MediaSt → MediaSt) : (s.modMed f).therm = s.therm := rfl
@[simp] theorem State.modMed_hu (s : State) (f : MediaSt → MediaSt) : (s.modMed f).hu = s.hu := rfl
@[simp] theorem State.modMed_pair (s : State) (f : MediaSt → MediaSt) : (s.modMed f).pair = s.pair := rfl
@[simp] theorem State.modMed_dp (s : State) (f : MediaSt → MediaSt) : (s.modMed f).dp = s.dp := rfl
@[simp] theorem State.modMed_med (s : State) (f : MediaSt → MediaSt) : (s.modMed f).med = f s.med := rfl
@[simp] theorem State.modMed_bob (s : State) (f : MediaSt → MediaSt) : (s.modMed f).bob = s.bob := rfl
@[simp] theorem State.modMed_hq (s : State) (f : MediaSt → MediaSt) : (s.modMed f).hq = s.hq := rfl
@[simp] theorem State.modMed_ep (s : State) (f : MediaSt → MediaSt) : (s.modMed f).ep = s.ep := rfl
@[simp] theorem State.modMed_net (s : State) (f : MediaSt → MediaSt) : (s.modMed f).net = s.net := rfl
@[simp] theorem State.modMed_rpl (s : State) (f : MediaSt → MediaSt) : (s.modMed f).rpl = s.rpl := rfl
@[simp] theorem State.modMed_cip (s : State) (f : MediaSt → MediaSt) : (s.modMed f).cip = s.cip := rfl
@[simp] theorem State.modMed_ms (s : State) (f : MediaSt → MediaSt) : (s.modMed f).ms = s.ms := rfl
@[simp] theorem State.modMed_eng (s : State) (f : MediaSt → MediaSt) : (s.modMed f).eng = s.eng := rfl
@[simp] theorem State.modMed_reg (s : State) (f : MediaSt → MediaSt) (r : Reg) (m i : Nat) : (s.modMed f).reg r m i = s.reg r m i := rfl
@[simp] theorem State.modMed_fld (s : State) (f : MediaSt → MediaSt) (g : Fld Reg) (m i : Nat) : (s.modMed f).fld g m i = s.fld g m i := rfl

@[simp] theorem State.modBob_pending (s : State) (f : BobSt → BobSt) : (s.modBob f).pending = s.pending := rfl
@[simp] theorem State.modBob_regs (s : State) (f : BobSt → BobSt) : (s.modBob f).regs = s.regs := rfl
@[simp] theorem State.modBob_mem (s : State) (f : BobSt → BobSt) : (s.modBob f).mem = s.mem := rfl
@[simp] theorem State.modBob_flash (s : State) (f : BobSt → BobSt) : (s.modBob f).flash = s.flash := rfl
@[simp] theorem State.modBob_fop (s : State) (f : BobSt → BobSt) : (s.modBob f).fop = s.fop := rfl
@[simp] theorem State.modBob_mram (s : State) (f : BobSt → BobSt) : (s.modBob f).mram = s.mram := rfl
@[simp] theorem State.modBob_tv (s : State) (f : BobSt → BobSt) : (s.modBob f).tv = s.tv := rfl
@[simp] theorem State.modBob_imageDigest (s : State) (f : BobSt → BobSt) : (s.modBob f).imageDigest = s.imageDigest := rfl
@[simp] theorem State.modBob_fuses (s : State) (f : BobSt → BobSt) : (s.modBob f).fuses = s.fuses := rfl
@[simp] theorem State.modBob_power (s : State) (f : BobSt → BobSt) : (s.modBob f).power = s.power := rfl
@[simp] theorem State.modBob_txOff (s : State) (f : BobSt → BobSt) : (s.modBob f).txOff = s.txOff := rfl
@[simp] theorem State.modBob_eip (s : State) (f : BobSt → BobSt) : (s.modBob f).eip = s.eip := rfl
@[simp] theorem State.modBob_outbox (s : State) (f : BobSt → BobSt) : (s.modBob f).outbox = s.outbox := rfl
@[simp] theorem State.modBob_free (s : State) (f : BobSt → BobSt) : (s.modBob f).free = s.free := rfl
@[simp] theorem State.modBob_prk (s : State) (f : BobSt → BobSt) : (s.modBob f).prk = s.prk := rfl
@[simp] theorem State.modBob_stc (s : State) (f : BobSt → BobSt) : (s.modBob f).stc = s.stc := rfl
@[simp] theorem State.modBob_therm (s : State) (f : BobSt → BobSt) : (s.modBob f).therm = s.therm := rfl
@[simp] theorem State.modBob_hu (s : State) (f : BobSt → BobSt) : (s.modBob f).hu = s.hu := rfl
@[simp] theorem State.modBob_pair (s : State) (f : BobSt → BobSt) : (s.modBob f).pair = s.pair := rfl
@[simp] theorem State.modBob_dp (s : State) (f : BobSt → BobSt) : (s.modBob f).dp = s.dp := rfl
@[simp] theorem State.modBob_med (s : State) (f : BobSt → BobSt) : (s.modBob f).med = s.med := rfl
@[simp] theorem State.modBob_bob (s : State) (f : BobSt → BobSt) : (s.modBob f).bob = f s.bob := rfl
@[simp] theorem State.modBob_hq (s : State) (f : BobSt → BobSt) : (s.modBob f).hq = s.hq := rfl
@[simp] theorem State.modBob_ep (s : State) (f : BobSt → BobSt) : (s.modBob f).ep = s.ep := rfl
@[simp] theorem State.modBob_net (s : State) (f : BobSt → BobSt) : (s.modBob f).net = s.net := rfl
@[simp] theorem State.modBob_rpl (s : State) (f : BobSt → BobSt) : (s.modBob f).rpl = s.rpl := rfl
@[simp] theorem State.modBob_cip (s : State) (f : BobSt → BobSt) : (s.modBob f).cip = s.cip := rfl
@[simp] theorem State.modBob_ms (s : State) (f : BobSt → BobSt) : (s.modBob f).ms = s.ms := rfl
@[simp] theorem State.modBob_eng (s : State) (f : BobSt → BobSt) : (s.modBob f).eng = s.eng := rfl
@[simp] theorem State.modBob_reg (s : State) (f : BobSt → BobSt) (r : Reg) (m i : Nat) : (s.modBob f).reg r m i = s.reg r m i := rfl
@[simp] theorem State.modBob_fld (s : State) (f : BobSt → BobSt) (g : Fld Reg) (m i : Nat) : (s.modBob f).fld g m i = s.fld g m i := rfl

@[simp] theorem State.modHq_pending (s : State) (f : HqSt → HqSt) : (s.modHq f).pending = s.pending := rfl
@[simp] theorem State.modHq_regs (s : State) (f : HqSt → HqSt) : (s.modHq f).regs = s.regs := rfl
@[simp] theorem State.modHq_mem (s : State) (f : HqSt → HqSt) : (s.modHq f).mem = s.mem := rfl
@[simp] theorem State.modHq_flash (s : State) (f : HqSt → HqSt) : (s.modHq f).flash = s.flash := rfl
@[simp] theorem State.modHq_fop (s : State) (f : HqSt → HqSt) : (s.modHq f).fop = s.fop := rfl
@[simp] theorem State.modHq_mram (s : State) (f : HqSt → HqSt) : (s.modHq f).mram = s.mram := rfl
@[simp] theorem State.modHq_tv (s : State) (f : HqSt → HqSt) : (s.modHq f).tv = s.tv := rfl
@[simp] theorem State.modHq_imageDigest (s : State) (f : HqSt → HqSt) : (s.modHq f).imageDigest = s.imageDigest := rfl
@[simp] theorem State.modHq_fuses (s : State) (f : HqSt → HqSt) : (s.modHq f).fuses = s.fuses := rfl
@[simp] theorem State.modHq_power (s : State) (f : HqSt → HqSt) : (s.modHq f).power = s.power := rfl
@[simp] theorem State.modHq_txOff (s : State) (f : HqSt → HqSt) : (s.modHq f).txOff = s.txOff := rfl
@[simp] theorem State.modHq_eip (s : State) (f : HqSt → HqSt) : (s.modHq f).eip = s.eip := rfl
@[simp] theorem State.modHq_outbox (s : State) (f : HqSt → HqSt) : (s.modHq f).outbox = s.outbox := rfl
@[simp] theorem State.modHq_free (s : State) (f : HqSt → HqSt) : (s.modHq f).free = s.free := rfl
@[simp] theorem State.modHq_prk (s : State) (f : HqSt → HqSt) : (s.modHq f).prk = s.prk := rfl
@[simp] theorem State.modHq_stc (s : State) (f : HqSt → HqSt) : (s.modHq f).stc = s.stc := rfl
@[simp] theorem State.modHq_therm (s : State) (f : HqSt → HqSt) : (s.modHq f).therm = s.therm := rfl
@[simp] theorem State.modHq_hu (s : State) (f : HqSt → HqSt) : (s.modHq f).hu = s.hu := rfl
@[simp] theorem State.modHq_pair (s : State) (f : HqSt → HqSt) : (s.modHq f).pair = s.pair := rfl
@[simp] theorem State.modHq_dp (s : State) (f : HqSt → HqSt) : (s.modHq f).dp = s.dp := rfl
@[simp] theorem State.modHq_med (s : State) (f : HqSt → HqSt) : (s.modHq f).med = s.med := rfl
@[simp] theorem State.modHq_bob (s : State) (f : HqSt → HqSt) : (s.modHq f).bob = s.bob := rfl
@[simp] theorem State.modHq_hq (s : State) (f : HqSt → HqSt) : (s.modHq f).hq = f s.hq := rfl
@[simp] theorem State.modHq_ep (s : State) (f : HqSt → HqSt) : (s.modHq f).ep = s.ep := rfl
@[simp] theorem State.modHq_net (s : State) (f : HqSt → HqSt) : (s.modHq f).net = s.net := rfl
@[simp] theorem State.modHq_rpl (s : State) (f : HqSt → HqSt) : (s.modHq f).rpl = s.rpl := rfl
@[simp] theorem State.modHq_cip (s : State) (f : HqSt → HqSt) : (s.modHq f).cip = s.cip := rfl
@[simp] theorem State.modHq_ms (s : State) (f : HqSt → HqSt) : (s.modHq f).ms = s.ms := rfl
@[simp] theorem State.modHq_eng (s : State) (f : HqSt → HqSt) : (s.modHq f).eng = s.eng := rfl
@[simp] theorem State.modHq_reg (s : State) (f : HqSt → HqSt) (r : Reg) (m i : Nat) : (s.modHq f).reg r m i = s.reg r m i := rfl
@[simp] theorem State.modHq_fld (s : State) (f : HqSt → HqSt) (g : Fld Reg) (m i : Nat) : (s.modHq f).fld g m i = s.fld g m i := rfl

@[simp] theorem State.modEp_pending (s : State) (f : EpSt → EpSt) : (s.modEp f).pending = s.pending := rfl
@[simp] theorem State.modEp_regs (s : State) (f : EpSt → EpSt) : (s.modEp f).regs = s.regs := rfl
@[simp] theorem State.modEp_mem (s : State) (f : EpSt → EpSt) : (s.modEp f).mem = s.mem := rfl
@[simp] theorem State.modEp_flash (s : State) (f : EpSt → EpSt) : (s.modEp f).flash = s.flash := rfl
@[simp] theorem State.modEp_fop (s : State) (f : EpSt → EpSt) : (s.modEp f).fop = s.fop := rfl
@[simp] theorem State.modEp_mram (s : State) (f : EpSt → EpSt) : (s.modEp f).mram = s.mram := rfl
@[simp] theorem State.modEp_tv (s : State) (f : EpSt → EpSt) : (s.modEp f).tv = s.tv := rfl
@[simp] theorem State.modEp_imageDigest (s : State) (f : EpSt → EpSt) : (s.modEp f).imageDigest = s.imageDigest := rfl
@[simp] theorem State.modEp_fuses (s : State) (f : EpSt → EpSt) : (s.modEp f).fuses = s.fuses := rfl
@[simp] theorem State.modEp_power (s : State) (f : EpSt → EpSt) : (s.modEp f).power = s.power := rfl
@[simp] theorem State.modEp_txOff (s : State) (f : EpSt → EpSt) : (s.modEp f).txOff = s.txOff := rfl
@[simp] theorem State.modEp_eip (s : State) (f : EpSt → EpSt) : (s.modEp f).eip = s.eip := rfl
@[simp] theorem State.modEp_outbox (s : State) (f : EpSt → EpSt) : (s.modEp f).outbox = s.outbox := rfl
@[simp] theorem State.modEp_free (s : State) (f : EpSt → EpSt) : (s.modEp f).free = s.free := rfl
@[simp] theorem State.modEp_prk (s : State) (f : EpSt → EpSt) : (s.modEp f).prk = s.prk := rfl
@[simp] theorem State.modEp_stc (s : State) (f : EpSt → EpSt) : (s.modEp f).stc = s.stc := rfl
@[simp] theorem State.modEp_therm (s : State) (f : EpSt → EpSt) : (s.modEp f).therm = s.therm := rfl
@[simp] theorem State.modEp_hu (s : State) (f : EpSt → EpSt) : (s.modEp f).hu = s.hu := rfl
@[simp] theorem State.modEp_pair (s : State) (f : EpSt → EpSt) : (s.modEp f).pair = s.pair := rfl
@[simp] theorem State.modEp_dp (s : State) (f : EpSt → EpSt) : (s.modEp f).dp = s.dp := rfl
@[simp] theorem State.modEp_med (s : State) (f : EpSt → EpSt) : (s.modEp f).med = s.med := rfl
@[simp] theorem State.modEp_bob (s : State) (f : EpSt → EpSt) : (s.modEp f).bob = s.bob := rfl
@[simp] theorem State.modEp_hq (s : State) (f : EpSt → EpSt) : (s.modEp f).hq = s.hq := rfl
@[simp] theorem State.modEp_ep (s : State) (f : EpSt → EpSt) : (s.modEp f).ep = f s.ep := rfl
@[simp] theorem State.modEp_net (s : State) (f : EpSt → EpSt) : (s.modEp f).net = s.net := rfl
@[simp] theorem State.modEp_rpl (s : State) (f : EpSt → EpSt) : (s.modEp f).rpl = s.rpl := rfl
@[simp] theorem State.modEp_cip (s : State) (f : EpSt → EpSt) : (s.modEp f).cip = s.cip := rfl
@[simp] theorem State.modEp_ms (s : State) (f : EpSt → EpSt) : (s.modEp f).ms = s.ms := rfl
@[simp] theorem State.modEp_eng (s : State) (f : EpSt → EpSt) : (s.modEp f).eng = s.eng := rfl
@[simp] theorem State.modEp_reg (s : State) (f : EpSt → EpSt) (r : Reg) (m i : Nat) : (s.modEp f).reg r m i = s.reg r m i := rfl
@[simp] theorem State.modEp_fld (s : State) (f : EpSt → EpSt) (g : Fld Reg) (m i : Nat) : (s.modEp f).fld g m i = s.fld g m i := rfl

@[simp] theorem State.modNet_pending (s : State) (f : NetSt → NetSt) : (s.modNet f).pending = s.pending := rfl
@[simp] theorem State.modNet_regs (s : State) (f : NetSt → NetSt) : (s.modNet f).regs = s.regs := rfl
@[simp] theorem State.modNet_mem (s : State) (f : NetSt → NetSt) : (s.modNet f).mem = s.mem := rfl
@[simp] theorem State.modNet_flash (s : State) (f : NetSt → NetSt) : (s.modNet f).flash = s.flash := rfl
@[simp] theorem State.modNet_fop (s : State) (f : NetSt → NetSt) : (s.modNet f).fop = s.fop := rfl
@[simp] theorem State.modNet_mram (s : State) (f : NetSt → NetSt) : (s.modNet f).mram = s.mram := rfl
@[simp] theorem State.modNet_tv (s : State) (f : NetSt → NetSt) : (s.modNet f).tv = s.tv := rfl
@[simp] theorem State.modNet_imageDigest (s : State) (f : NetSt → NetSt) : (s.modNet f).imageDigest = s.imageDigest := rfl
@[simp] theorem State.modNet_fuses (s : State) (f : NetSt → NetSt) : (s.modNet f).fuses = s.fuses := rfl
@[simp] theorem State.modNet_power (s : State) (f : NetSt → NetSt) : (s.modNet f).power = s.power := rfl
@[simp] theorem State.modNet_txOff (s : State) (f : NetSt → NetSt) : (s.modNet f).txOff = s.txOff := rfl
@[simp] theorem State.modNet_eip (s : State) (f : NetSt → NetSt) : (s.modNet f).eip = s.eip := rfl
@[simp] theorem State.modNet_outbox (s : State) (f : NetSt → NetSt) : (s.modNet f).outbox = s.outbox := rfl
@[simp] theorem State.modNet_free (s : State) (f : NetSt → NetSt) : (s.modNet f).free = s.free := rfl
@[simp] theorem State.modNet_prk (s : State) (f : NetSt → NetSt) : (s.modNet f).prk = s.prk := rfl
@[simp] theorem State.modNet_stc (s : State) (f : NetSt → NetSt) : (s.modNet f).stc = s.stc := rfl
@[simp] theorem State.modNet_therm (s : State) (f : NetSt → NetSt) : (s.modNet f).therm = s.therm := rfl
@[simp] theorem State.modNet_hu (s : State) (f : NetSt → NetSt) : (s.modNet f).hu = s.hu := rfl
@[simp] theorem State.modNet_pair (s : State) (f : NetSt → NetSt) : (s.modNet f).pair = s.pair := rfl
@[simp] theorem State.modNet_dp (s : State) (f : NetSt → NetSt) : (s.modNet f).dp = s.dp := rfl
@[simp] theorem State.modNet_med (s : State) (f : NetSt → NetSt) : (s.modNet f).med = s.med := rfl
@[simp] theorem State.modNet_bob (s : State) (f : NetSt → NetSt) : (s.modNet f).bob = s.bob := rfl
@[simp] theorem State.modNet_hq (s : State) (f : NetSt → NetSt) : (s.modNet f).hq = s.hq := rfl
@[simp] theorem State.modNet_ep (s : State) (f : NetSt → NetSt) : (s.modNet f).ep = s.ep := rfl
@[simp] theorem State.modNet_net (s : State) (f : NetSt → NetSt) : (s.modNet f).net = f s.net := rfl
@[simp] theorem State.modNet_rpl (s : State) (f : NetSt → NetSt) : (s.modNet f).rpl = s.rpl := rfl
@[simp] theorem State.modNet_cip (s : State) (f : NetSt → NetSt) : (s.modNet f).cip = s.cip := rfl
@[simp] theorem State.modNet_ms (s : State) (f : NetSt → NetSt) : (s.modNet f).ms = s.ms := rfl
@[simp] theorem State.modNet_eng (s : State) (f : NetSt → NetSt) : (s.modNet f).eng = s.eng := rfl
@[simp] theorem State.modNet_reg (s : State) (f : NetSt → NetSt) (r : Reg) (m i : Nat) : (s.modNet f).reg r m i = s.reg r m i := rfl
@[simp] theorem State.modNet_fld (s : State) (f : NetSt → NetSt) (g : Fld Reg) (m i : Nat) : (s.modNet f).fld g m i = s.fld g m i := rfl

@[simp] theorem State.modRpl_pending (s : State) (f : RplSt → RplSt) : (s.modRpl f).pending = s.pending := rfl
@[simp] theorem State.modRpl_regs (s : State) (f : RplSt → RplSt) : (s.modRpl f).regs = s.regs := rfl
@[simp] theorem State.modRpl_mem (s : State) (f : RplSt → RplSt) : (s.modRpl f).mem = s.mem := rfl
@[simp] theorem State.modRpl_flash (s : State) (f : RplSt → RplSt) : (s.modRpl f).flash = s.flash := rfl
@[simp] theorem State.modRpl_fop (s : State) (f : RplSt → RplSt) : (s.modRpl f).fop = s.fop := rfl
@[simp] theorem State.modRpl_mram (s : State) (f : RplSt → RplSt) : (s.modRpl f).mram = s.mram := rfl
@[simp] theorem State.modRpl_tv (s : State) (f : RplSt → RplSt) : (s.modRpl f).tv = s.tv := rfl
@[simp] theorem State.modRpl_imageDigest (s : State) (f : RplSt → RplSt) : (s.modRpl f).imageDigest = s.imageDigest := rfl
@[simp] theorem State.modRpl_fuses (s : State) (f : RplSt → RplSt) : (s.modRpl f).fuses = s.fuses := rfl
@[simp] theorem State.modRpl_power (s : State) (f : RplSt → RplSt) : (s.modRpl f).power = s.power := rfl
@[simp] theorem State.modRpl_txOff (s : State) (f : RplSt → RplSt) : (s.modRpl f).txOff = s.txOff := rfl
@[simp] theorem State.modRpl_eip (s : State) (f : RplSt → RplSt) : (s.modRpl f).eip = s.eip := rfl
@[simp] theorem State.modRpl_outbox (s : State) (f : RplSt → RplSt) : (s.modRpl f).outbox = s.outbox := rfl
@[simp] theorem State.modRpl_free (s : State) (f : RplSt → RplSt) : (s.modRpl f).free = s.free := rfl
@[simp] theorem State.modRpl_prk (s : State) (f : RplSt → RplSt) : (s.modRpl f).prk = s.prk := rfl
@[simp] theorem State.modRpl_stc (s : State) (f : RplSt → RplSt) : (s.modRpl f).stc = s.stc := rfl
@[simp] theorem State.modRpl_therm (s : State) (f : RplSt → RplSt) : (s.modRpl f).therm = s.therm := rfl
@[simp] theorem State.modRpl_hu (s : State) (f : RplSt → RplSt) : (s.modRpl f).hu = s.hu := rfl
@[simp] theorem State.modRpl_pair (s : State) (f : RplSt → RplSt) : (s.modRpl f).pair = s.pair := rfl
@[simp] theorem State.modRpl_dp (s : State) (f : RplSt → RplSt) : (s.modRpl f).dp = s.dp := rfl
@[simp] theorem State.modRpl_med (s : State) (f : RplSt → RplSt) : (s.modRpl f).med = s.med := rfl
@[simp] theorem State.modRpl_bob (s : State) (f : RplSt → RplSt) : (s.modRpl f).bob = s.bob := rfl
@[simp] theorem State.modRpl_hq (s : State) (f : RplSt → RplSt) : (s.modRpl f).hq = s.hq := rfl
@[simp] theorem State.modRpl_ep (s : State) (f : RplSt → RplSt) : (s.modRpl f).ep = s.ep := rfl
@[simp] theorem State.modRpl_net (s : State) (f : RplSt → RplSt) : (s.modRpl f).net = s.net := rfl
@[simp] theorem State.modRpl_rpl (s : State) (f : RplSt → RplSt) : (s.modRpl f).rpl = f s.rpl := rfl
@[simp] theorem State.modRpl_cip (s : State) (f : RplSt → RplSt) : (s.modRpl f).cip = s.cip := rfl
@[simp] theorem State.modRpl_ms (s : State) (f : RplSt → RplSt) : (s.modRpl f).ms = s.ms := rfl
@[simp] theorem State.modRpl_eng (s : State) (f : RplSt → RplSt) : (s.modRpl f).eng = s.eng := rfl
@[simp] theorem State.modRpl_reg (s : State) (f : RplSt → RplSt) (r : Reg) (m i : Nat) : (s.modRpl f).reg r m i = s.reg r m i := rfl
@[simp] theorem State.modRpl_fld (s : State) (f : RplSt → RplSt) (g : Fld Reg) (m i : Nat) : (s.modRpl f).fld g m i = s.fld g m i := rfl

@[simp] theorem State.modCip_pending (s : State) (f : CipSt → CipSt) : (s.modCip f).pending = s.pending := rfl
@[simp] theorem State.modCip_regs (s : State) (f : CipSt → CipSt) : (s.modCip f).regs = s.regs := rfl
@[simp] theorem State.modCip_mem (s : State) (f : CipSt → CipSt) : (s.modCip f).mem = s.mem := rfl
@[simp] theorem State.modCip_flash (s : State) (f : CipSt → CipSt) : (s.modCip f).flash = s.flash := rfl
@[simp] theorem State.modCip_fop (s : State) (f : CipSt → CipSt) : (s.modCip f).fop = s.fop := rfl
@[simp] theorem State.modCip_mram (s : State) (f : CipSt → CipSt) : (s.modCip f).mram = s.mram := rfl
@[simp] theorem State.modCip_tv (s : State) (f : CipSt → CipSt) : (s.modCip f).tv = s.tv := rfl
@[simp] theorem State.modCip_imageDigest (s : State) (f : CipSt → CipSt) : (s.modCip f).imageDigest = s.imageDigest := rfl
@[simp] theorem State.modCip_fuses (s : State) (f : CipSt → CipSt) : (s.modCip f).fuses = s.fuses := rfl
@[simp] theorem State.modCip_power (s : State) (f : CipSt → CipSt) : (s.modCip f).power = s.power := rfl
@[simp] theorem State.modCip_txOff (s : State) (f : CipSt → CipSt) : (s.modCip f).txOff = s.txOff := rfl
@[simp] theorem State.modCip_eip (s : State) (f : CipSt → CipSt) : (s.modCip f).eip = s.eip := rfl
@[simp] theorem State.modCip_outbox (s : State) (f : CipSt → CipSt) : (s.modCip f).outbox = s.outbox := rfl
@[simp] theorem State.modCip_free (s : State) (f : CipSt → CipSt) : (s.modCip f).free = s.free := rfl
@[simp] theorem State.modCip_prk (s : State) (f : CipSt → CipSt) : (s.modCip f).prk = s.prk := rfl
@[simp] theorem State.modCip_stc (s : State) (f : CipSt → CipSt) : (s.modCip f).stc = s.stc := rfl
@[simp] theorem State.modCip_therm (s : State) (f : CipSt → CipSt) : (s.modCip f).therm = s.therm := rfl
@[simp] theorem State.modCip_hu (s : State) (f : CipSt → CipSt) : (s.modCip f).hu = s.hu := rfl
@[simp] theorem State.modCip_pair (s : State) (f : CipSt → CipSt) : (s.modCip f).pair = s.pair := rfl
@[simp] theorem State.modCip_dp (s : State) (f : CipSt → CipSt) : (s.modCip f).dp = s.dp := rfl
@[simp] theorem State.modCip_med (s : State) (f : CipSt → CipSt) : (s.modCip f).med = s.med := rfl
@[simp] theorem State.modCip_bob (s : State) (f : CipSt → CipSt) : (s.modCip f).bob = s.bob := rfl
@[simp] theorem State.modCip_hq (s : State) (f : CipSt → CipSt) : (s.modCip f).hq = s.hq := rfl
@[simp] theorem State.modCip_ep (s : State) (f : CipSt → CipSt) : (s.modCip f).ep = s.ep := rfl
@[simp] theorem State.modCip_net (s : State) (f : CipSt → CipSt) : (s.modCip f).net = s.net := rfl
@[simp] theorem State.modCip_rpl (s : State) (f : CipSt → CipSt) : (s.modCip f).rpl = s.rpl := rfl
@[simp] theorem State.modCip_cip (s : State) (f : CipSt → CipSt) : (s.modCip f).cip = f s.cip := rfl
@[simp] theorem State.modCip_ms (s : State) (f : CipSt → CipSt) : (s.modCip f).ms = s.ms := rfl
@[simp] theorem State.modCip_eng (s : State) (f : CipSt → CipSt) : (s.modCip f).eng = s.eng := rfl
@[simp] theorem State.modCip_reg (s : State) (f : CipSt → CipSt) (r : Reg) (m i : Nat) : (s.modCip f).reg r m i = s.reg r m i := rfl
@[simp] theorem State.modCip_fld (s : State) (f : CipSt → CipSt) (g : Fld Reg) (m i : Nat) : (s.modCip f).fld g m i = s.fld g m i := rfl

@[simp] theorem State.modMs_pending (s : State) (f : MemSt → MemSt) : (s.modMs f).pending = s.pending := rfl
@[simp] theorem State.modMs_regs (s : State) (f : MemSt → MemSt) : (s.modMs f).regs = s.regs := rfl
@[simp] theorem State.modMs_mem (s : State) (f : MemSt → MemSt) : (s.modMs f).mem = s.mem := rfl
@[simp] theorem State.modMs_flash (s : State) (f : MemSt → MemSt) : (s.modMs f).flash = s.flash := rfl
@[simp] theorem State.modMs_fop (s : State) (f : MemSt → MemSt) : (s.modMs f).fop = s.fop := rfl
@[simp] theorem State.modMs_mram (s : State) (f : MemSt → MemSt) : (s.modMs f).mram = s.mram := rfl
@[simp] theorem State.modMs_tv (s : State) (f : MemSt → MemSt) : (s.modMs f).tv = s.tv := rfl
@[simp] theorem State.modMs_imageDigest (s : State) (f : MemSt → MemSt) : (s.modMs f).imageDigest = s.imageDigest := rfl
@[simp] theorem State.modMs_fuses (s : State) (f : MemSt → MemSt) : (s.modMs f).fuses = s.fuses := rfl
@[simp] theorem State.modMs_power (s : State) (f : MemSt → MemSt) : (s.modMs f).power = s.power := rfl
@[simp] theorem State.modMs_txOff (s : State) (f : MemSt → MemSt) : (s.modMs f).txOff = s.txOff := rfl
@[simp] theorem State.modMs_eip (s : State) (f : MemSt → MemSt) : (s.modMs f).eip = s.eip := rfl
@[simp] theorem State.modMs_outbox (s : State) (f : MemSt → MemSt) : (s.modMs f).outbox = s.outbox := rfl
@[simp] theorem State.modMs_free (s : State) (f : MemSt → MemSt) : (s.modMs f).free = s.free := rfl
@[simp] theorem State.modMs_prk (s : State) (f : MemSt → MemSt) : (s.modMs f).prk = s.prk := rfl
@[simp] theorem State.modMs_stc (s : State) (f : MemSt → MemSt) : (s.modMs f).stc = s.stc := rfl
@[simp] theorem State.modMs_therm (s : State) (f : MemSt → MemSt) : (s.modMs f).therm = s.therm := rfl
@[simp] theorem State.modMs_hu (s : State) (f : MemSt → MemSt) : (s.modMs f).hu = s.hu := rfl
@[simp] theorem State.modMs_pair (s : State) (f : MemSt → MemSt) : (s.modMs f).pair = s.pair := rfl
@[simp] theorem State.modMs_dp (s : State) (f : MemSt → MemSt) : (s.modMs f).dp = s.dp := rfl
@[simp] theorem State.modMs_med (s : State) (f : MemSt → MemSt) : (s.modMs f).med = s.med := rfl
@[simp] theorem State.modMs_bob (s : State) (f : MemSt → MemSt) : (s.modMs f).bob = s.bob := rfl
@[simp] theorem State.modMs_hq (s : State) (f : MemSt → MemSt) : (s.modMs f).hq = s.hq := rfl
@[simp] theorem State.modMs_ep (s : State) (f : MemSt → MemSt) : (s.modMs f).ep = s.ep := rfl
@[simp] theorem State.modMs_net (s : State) (f : MemSt → MemSt) : (s.modMs f).net = s.net := rfl
@[simp] theorem State.modMs_rpl (s : State) (f : MemSt → MemSt) : (s.modMs f).rpl = s.rpl := rfl
@[simp] theorem State.modMs_cip (s : State) (f : MemSt → MemSt) : (s.modMs f).cip = s.cip := rfl
@[simp] theorem State.modMs_ms (s : State) (f : MemSt → MemSt) : (s.modMs f).ms = f s.ms := rfl
@[simp] theorem State.modMs_eng (s : State) (f : MemSt → MemSt) : (s.modMs f).eng = s.eng := rfl
@[simp] theorem State.modMs_reg (s : State) (f : MemSt → MemSt) (r : Reg) (m i : Nat) : (s.modMs f).reg r m i = s.reg r m i := rfl
@[simp] theorem State.modMs_fld (s : State) (f : MemSt → MemSt) (g : Fld Reg) (m i : Nat) : (s.modMs f).fld g m i = s.fld g m i := rfl

@[simp] theorem State.modEng_pending (s : State) (f : EngSt → EngSt) : (s.modEng f).pending = s.pending := rfl
@[simp] theorem State.modEng_regs (s : State) (f : EngSt → EngSt) : (s.modEng f).regs = s.regs := rfl
@[simp] theorem State.modEng_mem (s : State) (f : EngSt → EngSt) : (s.modEng f).mem = s.mem := rfl
@[simp] theorem State.modEng_flash (s : State) (f : EngSt → EngSt) : (s.modEng f).flash = s.flash := rfl
@[simp] theorem State.modEng_fop (s : State) (f : EngSt → EngSt) : (s.modEng f).fop = s.fop := rfl
@[simp] theorem State.modEng_mram (s : State) (f : EngSt → EngSt) : (s.modEng f).mram = s.mram := rfl
@[simp] theorem State.modEng_tv (s : State) (f : EngSt → EngSt) : (s.modEng f).tv = s.tv := rfl
@[simp] theorem State.modEng_imageDigest (s : State) (f : EngSt → EngSt) : (s.modEng f).imageDigest = s.imageDigest := rfl
@[simp] theorem State.modEng_fuses (s : State) (f : EngSt → EngSt) : (s.modEng f).fuses = s.fuses := rfl
@[simp] theorem State.modEng_power (s : State) (f : EngSt → EngSt) : (s.modEng f).power = s.power := rfl
@[simp] theorem State.modEng_txOff (s : State) (f : EngSt → EngSt) : (s.modEng f).txOff = s.txOff := rfl
@[simp] theorem State.modEng_eip (s : State) (f : EngSt → EngSt) : (s.modEng f).eip = s.eip := rfl
@[simp] theorem State.modEng_outbox (s : State) (f : EngSt → EngSt) : (s.modEng f).outbox = s.outbox := rfl
@[simp] theorem State.modEng_free (s : State) (f : EngSt → EngSt) : (s.modEng f).free = s.free := rfl
@[simp] theorem State.modEng_prk (s : State) (f : EngSt → EngSt) : (s.modEng f).prk = s.prk := rfl
@[simp] theorem State.modEng_stc (s : State) (f : EngSt → EngSt) : (s.modEng f).stc = s.stc := rfl
@[simp] theorem State.modEng_therm (s : State) (f : EngSt → EngSt) : (s.modEng f).therm = s.therm := rfl
@[simp] theorem State.modEng_hu (s : State) (f : EngSt → EngSt) : (s.modEng f).hu = s.hu := rfl
@[simp] theorem State.modEng_pair (s : State) (f : EngSt → EngSt) : (s.modEng f).pair = s.pair := rfl
@[simp] theorem State.modEng_dp (s : State) (f : EngSt → EngSt) : (s.modEng f).dp = s.dp := rfl
@[simp] theorem State.modEng_med (s : State) (f : EngSt → EngSt) : (s.modEng f).med = s.med := rfl
@[simp] theorem State.modEng_bob (s : State) (f : EngSt → EngSt) : (s.modEng f).bob = s.bob := rfl
@[simp] theorem State.modEng_hq (s : State) (f : EngSt → EngSt) : (s.modEng f).hq = s.hq := rfl
@[simp] theorem State.modEng_ep (s : State) (f : EngSt → EngSt) : (s.modEng f).ep = s.ep := rfl
@[simp] theorem State.modEng_net (s : State) (f : EngSt → EngSt) : (s.modEng f).net = s.net := rfl
@[simp] theorem State.modEng_rpl (s : State) (f : EngSt → EngSt) : (s.modEng f).rpl = s.rpl := rfl
@[simp] theorem State.modEng_cip (s : State) (f : EngSt → EngSt) : (s.modEng f).cip = s.cip := rfl
@[simp] theorem State.modEng_ms (s : State) (f : EngSt → EngSt) : (s.modEng f).ms = s.ms := rfl
@[simp] theorem State.modEng_eng (s : State) (f : EngSt → EngSt) : (s.modEng f).eng = f s.eng := rfl
@[simp] theorem State.modEng_reg (s : State) (f : EngSt → EngSt) (r : Reg) (m i : Nat) : (s.modEng f).reg r m i = s.reg r m i := rfl
@[simp] theorem State.modEng_fld (s : State) (f : EngSt → EngSt) (g : Fld Reg) (m i : Nat) : (s.modEng f).fld g m i = s.fld g m i := rfl

@[simp] theorem State.setReg_pending (s : State) (r : Reg) (m i v : Nat) : (s.setReg r m i v).pending = s.pending := rfl
@[simp] theorem State.setReg_regs (s : State) (r : Reg) (m i v : Nat) : (s.setReg r m i v).regs = Sparse.set r.resetVal s.regs (r.addr m i) (BitVec.ofNat 64 v) := rfl
@[simp] theorem State.setReg_mem (s : State) (r : Reg) (m i v : Nat) : (s.setReg r m i v).mem = s.mem := rfl
@[simp] theorem State.setReg_flash (s : State) (r : Reg) (m i v : Nat) : (s.setReg r m i v).flash = s.flash := rfl
@[simp] theorem State.setReg_fop (s : State) (r : Reg) (m i v : Nat) : (s.setReg r m i v).fop = s.fop := rfl
@[simp] theorem State.setReg_mram (s : State) (r : Reg) (m i v : Nat) : (s.setReg r m i v).mram = s.mram := rfl
@[simp] theorem State.setReg_tv (s : State) (r : Reg) (m i v : Nat) : (s.setReg r m i v).tv = s.tv := rfl
@[simp] theorem State.setReg_imageDigest (s : State) (r : Reg) (m i v : Nat) : (s.setReg r m i v).imageDigest = s.imageDigest := rfl
@[simp] theorem State.setReg_fuses (s : State) (r : Reg) (m i v : Nat) : (s.setReg r m i v).fuses = s.fuses := rfl
@[simp] theorem State.setReg_power (s : State) (r : Reg) (m i v : Nat) : (s.setReg r m i v).power = s.power := rfl
@[simp] theorem State.setReg_txOff (s : State) (r : Reg) (m i v : Nat) : (s.setReg r m i v).txOff = s.txOff := rfl
@[simp] theorem State.setReg_eip (s : State) (r : Reg) (m i v : Nat) : (s.setReg r m i v).eip = s.eip := rfl
@[simp] theorem State.setReg_outbox (s : State) (r : Reg) (m i v : Nat) : (s.setReg r m i v).outbox = s.outbox := rfl
@[simp] theorem State.setReg_free (s : State) (r : Reg) (m i v : Nat) : (s.setReg r m i v).free = s.free := rfl
@[simp] theorem State.setReg_prk (s : State) (r : Reg) (m i v : Nat) : (s.setReg r m i v).prk = s.prk := rfl
@[simp] theorem State.setReg_stc (s : State) (r : Reg) (m i v : Nat) : (s.setReg r m i v).stc = s.stc := rfl
@[simp] theorem State.setReg_therm (s : State) (r : Reg) (m i v : Nat) : (s.setReg r m i v).therm = s.therm := rfl
@[simp] theorem State.setReg_hu (s : State) (r : Reg) (m i v : Nat) : (s.setReg r m i v).hu = s.hu := rfl
@[simp] theorem State.setReg_pair (s : State) (r : Reg) (m i v : Nat) : (s.setReg r m i v).pair = s.pair := rfl
@[simp] theorem State.setReg_dp (s : State) (r : Reg) (m i v : Nat) : (s.setReg r m i v).dp = s.dp := rfl
@[simp] theorem State.setReg_med (s : State) (r : Reg) (m i v : Nat) : (s.setReg r m i v).med = s.med := rfl
@[simp] theorem State.setReg_bob (s : State) (r : Reg) (m i v : Nat) : (s.setReg r m i v).bob = s.bob := rfl
@[simp] theorem State.setReg_hq (s : State) (r : Reg) (m i v : Nat) : (s.setReg r m i v).hq = s.hq := rfl
@[simp] theorem State.setReg_ep (s : State) (r : Reg) (m i v : Nat) : (s.setReg r m i v).ep = s.ep := rfl
@[simp] theorem State.setReg_net (s : State) (r : Reg) (m i v : Nat) : (s.setReg r m i v).net = s.net := rfl
@[simp] theorem State.setReg_rpl (s : State) (r : Reg) (m i v : Nat) : (s.setReg r m i v).rpl = s.rpl := rfl
@[simp] theorem State.setReg_cip (s : State) (r : Reg) (m i v : Nat) : (s.setReg r m i v).cip = s.cip := rfl
@[simp] theorem State.setReg_ms (s : State) (r : Reg) (m i v : Nat) : (s.setReg r m i v).ms = s.ms := rfl
@[simp] theorem State.setReg_eng (s : State) (r : Reg) (m i v : Nat) : (s.setReg r m i v).eng = s.eng := rfl

@[simp] theorem State.setFld_pending (s : State) (g : Fld Reg) (x m i : Nat) : (s.setFld g x m i).pending = s.pending := rfl
@[simp] theorem State.setFld_mem (s : State) (g : Fld Reg) (x m i : Nat) : (s.setFld g x m i).mem = s.mem := rfl
@[simp] theorem State.setFld_flash (s : State) (g : Fld Reg) (x m i : Nat) : (s.setFld g x m i).flash = s.flash := rfl
@[simp] theorem State.setFld_fop (s : State) (g : Fld Reg) (x m i : Nat) : (s.setFld g x m i).fop = s.fop := rfl
@[simp] theorem State.setFld_mram (s : State) (g : Fld Reg) (x m i : Nat) : (s.setFld g x m i).mram = s.mram := rfl
@[simp] theorem State.setFld_tv (s : State) (g : Fld Reg) (x m i : Nat) : (s.setFld g x m i).tv = s.tv := rfl
@[simp] theorem State.setFld_imageDigest (s : State) (g : Fld Reg) (x m i : Nat) : (s.setFld g x m i).imageDigest = s.imageDigest := rfl
@[simp] theorem State.setFld_fuses (s : State) (g : Fld Reg) (x m i : Nat) : (s.setFld g x m i).fuses = s.fuses := rfl
@[simp] theorem State.setFld_power (s : State) (g : Fld Reg) (x m i : Nat) : (s.setFld g x m i).power = s.power := rfl
@[simp] theorem State.setFld_txOff (s : State) (g : Fld Reg) (x m i : Nat) : (s.setFld g x m i).txOff = s.txOff := rfl
@[simp] theorem State.setFld_eip (s : State) (g : Fld Reg) (x m i : Nat) : (s.setFld g x m i).eip = s.eip := rfl
@[simp] theorem State.setFld_outbox (s : State) (g : Fld Reg) (x m i : Nat) : (s.setFld g x m i).outbox = s.outbox := rfl
@[simp] theorem State.setFld_free (s : State) (g : Fld Reg) (x m i : Nat) : (s.setFld g x m i).free = s.free := rfl
@[simp] theorem State.setFld_prk (s : State) (g : Fld Reg) (x m i : Nat) : (s.setFld g x m i).prk = s.prk := rfl
@[simp] theorem State.setFld_stc (s : State) (g : Fld Reg) (x m i : Nat) : (s.setFld g x m i).stc = s.stc := rfl
@[simp] theorem State.setFld_therm (s : State) (g : Fld Reg) (x m i : Nat) : (s.setFld g x m i).therm = s.therm := rfl
@[simp] theorem State.setFld_hu (s : State) (g : Fld Reg) (x m i : Nat) : (s.setFld g x m i).hu = s.hu := rfl
@[simp] theorem State.setFld_pair (s : State) (g : Fld Reg) (x m i : Nat) : (s.setFld g x m i).pair = s.pair := rfl
@[simp] theorem State.setFld_dp (s : State) (g : Fld Reg) (x m i : Nat) : (s.setFld g x m i).dp = s.dp := rfl
@[simp] theorem State.setFld_med (s : State) (g : Fld Reg) (x m i : Nat) : (s.setFld g x m i).med = s.med := rfl
@[simp] theorem State.setFld_bob (s : State) (g : Fld Reg) (x m i : Nat) : (s.setFld g x m i).bob = s.bob := rfl
@[simp] theorem State.setFld_hq (s : State) (g : Fld Reg) (x m i : Nat) : (s.setFld g x m i).hq = s.hq := rfl
@[simp] theorem State.setFld_ep (s : State) (g : Fld Reg) (x m i : Nat) : (s.setFld g x m i).ep = s.ep := rfl
@[simp] theorem State.setFld_net (s : State) (g : Fld Reg) (x m i : Nat) : (s.setFld g x m i).net = s.net := rfl
@[simp] theorem State.setFld_rpl (s : State) (g : Fld Reg) (x m i : Nat) : (s.setFld g x m i).rpl = s.rpl := rfl
@[simp] theorem State.setFld_cip (s : State) (g : Fld Reg) (x m i : Nat) : (s.setFld g x m i).cip = s.cip := rfl
@[simp] theorem State.setFld_ms (s : State) (g : Fld Reg) (x m i : Nat) : (s.setFld g x m i).ms = s.ms := rfl
@[simp] theorem State.setFld_eng (s : State) (g : Fld Reg) (x m i : Nat) : (s.setFld g x m i).eng = s.eng := rfl

@[simp] theorem State.setSfld_pending (s : State) (g : Fld Reg) (x : Int) (m i : Nat) : (s.setSfld g x m i).pending = s.pending := rfl
@[simp] theorem State.setSfld_mem (s : State) (g : Fld Reg) (x : Int) (m i : Nat) : (s.setSfld g x m i).mem = s.mem := rfl
@[simp] theorem State.setSfld_flash (s : State) (g : Fld Reg) (x : Int) (m i : Nat) : (s.setSfld g x m i).flash = s.flash := rfl
@[simp] theorem State.setSfld_fop (s : State) (g : Fld Reg) (x : Int) (m i : Nat) : (s.setSfld g x m i).fop = s.fop := rfl
@[simp] theorem State.setSfld_mram (s : State) (g : Fld Reg) (x : Int) (m i : Nat) : (s.setSfld g x m i).mram = s.mram := rfl
@[simp] theorem State.setSfld_tv (s : State) (g : Fld Reg) (x : Int) (m i : Nat) : (s.setSfld g x m i).tv = s.tv := rfl
@[simp] theorem State.setSfld_imageDigest (s : State) (g : Fld Reg) (x : Int) (m i : Nat) : (s.setSfld g x m i).imageDigest = s.imageDigest := rfl
@[simp] theorem State.setSfld_fuses (s : State) (g : Fld Reg) (x : Int) (m i : Nat) : (s.setSfld g x m i).fuses = s.fuses := rfl
@[simp] theorem State.setSfld_power (s : State) (g : Fld Reg) (x : Int) (m i : Nat) : (s.setSfld g x m i).power = s.power := rfl
@[simp] theorem State.setSfld_txOff (s : State) (g : Fld Reg) (x : Int) (m i : Nat) : (s.setSfld g x m i).txOff = s.txOff := rfl
@[simp] theorem State.setSfld_eip (s : State) (g : Fld Reg) (x : Int) (m i : Nat) : (s.setSfld g x m i).eip = s.eip := rfl
@[simp] theorem State.setSfld_outbox (s : State) (g : Fld Reg) (x : Int) (m i : Nat) : (s.setSfld g x m i).outbox = s.outbox := rfl
@[simp] theorem State.setSfld_free (s : State) (g : Fld Reg) (x : Int) (m i : Nat) : (s.setSfld g x m i).free = s.free := rfl
@[simp] theorem State.setSfld_prk (s : State) (g : Fld Reg) (x : Int) (m i : Nat) : (s.setSfld g x m i).prk = s.prk := rfl
@[simp] theorem State.setSfld_stc (s : State) (g : Fld Reg) (x : Int) (m i : Nat) : (s.setSfld g x m i).stc = s.stc := rfl
@[simp] theorem State.setSfld_therm (s : State) (g : Fld Reg) (x : Int) (m i : Nat) : (s.setSfld g x m i).therm = s.therm := rfl
@[simp] theorem State.setSfld_hu (s : State) (g : Fld Reg) (x : Int) (m i : Nat) : (s.setSfld g x m i).hu = s.hu := rfl
@[simp] theorem State.setSfld_pair (s : State) (g : Fld Reg) (x : Int) (m i : Nat) : (s.setSfld g x m i).pair = s.pair := rfl
@[simp] theorem State.setSfld_dp (s : State) (g : Fld Reg) (x : Int) (m i : Nat) : (s.setSfld g x m i).dp = s.dp := rfl
@[simp] theorem State.setSfld_med (s : State) (g : Fld Reg) (x : Int) (m i : Nat) : (s.setSfld g x m i).med = s.med := rfl
@[simp] theorem State.setSfld_bob (s : State) (g : Fld Reg) (x : Int) (m i : Nat) : (s.setSfld g x m i).bob = s.bob := rfl
@[simp] theorem State.setSfld_hq (s : State) (g : Fld Reg) (x : Int) (m i : Nat) : (s.setSfld g x m i).hq = s.hq := rfl
@[simp] theorem State.setSfld_ep (s : State) (g : Fld Reg) (x : Int) (m i : Nat) : (s.setSfld g x m i).ep = s.ep := rfl
@[simp] theorem State.setSfld_net (s : State) (g : Fld Reg) (x : Int) (m i : Nat) : (s.setSfld g x m i).net = s.net := rfl
@[simp] theorem State.setSfld_rpl (s : State) (g : Fld Reg) (x : Int) (m i : Nat) : (s.setSfld g x m i).rpl = s.rpl := rfl
@[simp] theorem State.setSfld_cip (s : State) (g : Fld Reg) (x : Int) (m i : Nat) : (s.setSfld g x m i).cip = s.cip := rfl
@[simp] theorem State.setSfld_ms (s : State) (g : Fld Reg) (x : Int) (m i : Nat) : (s.setSfld g x m i).ms = s.ms := rfl
@[simp] theorem State.setSfld_eng (s : State) (g : Fld Reg) (x : Int) (m i : Nat) : (s.setSfld g x m i).eng = s.eng := rfl

@[simp] theorem State.bump_pending (s : State) (g : Fld Reg) (n m i : Nat) : (s.bump g n m i).pending = s.pending := rfl
@[simp] theorem State.bump_mem (s : State) (g : Fld Reg) (n m i : Nat) : (s.bump g n m i).mem = s.mem := rfl
@[simp] theorem State.bump_flash (s : State) (g : Fld Reg) (n m i : Nat) : (s.bump g n m i).flash = s.flash := rfl
@[simp] theorem State.bump_fop (s : State) (g : Fld Reg) (n m i : Nat) : (s.bump g n m i).fop = s.fop := rfl
@[simp] theorem State.bump_mram (s : State) (g : Fld Reg) (n m i : Nat) : (s.bump g n m i).mram = s.mram := rfl
@[simp] theorem State.bump_tv (s : State) (g : Fld Reg) (n m i : Nat) : (s.bump g n m i).tv = s.tv := rfl
@[simp] theorem State.bump_imageDigest (s : State) (g : Fld Reg) (n m i : Nat) : (s.bump g n m i).imageDigest = s.imageDigest := rfl
@[simp] theorem State.bump_fuses (s : State) (g : Fld Reg) (n m i : Nat) : (s.bump g n m i).fuses = s.fuses := rfl
@[simp] theorem State.bump_power (s : State) (g : Fld Reg) (n m i : Nat) : (s.bump g n m i).power = s.power := rfl
@[simp] theorem State.bump_txOff (s : State) (g : Fld Reg) (n m i : Nat) : (s.bump g n m i).txOff = s.txOff := rfl
@[simp] theorem State.bump_eip (s : State) (g : Fld Reg) (n m i : Nat) : (s.bump g n m i).eip = s.eip := rfl
@[simp] theorem State.bump_outbox (s : State) (g : Fld Reg) (n m i : Nat) : (s.bump g n m i).outbox = s.outbox := rfl
@[simp] theorem State.bump_free (s : State) (g : Fld Reg) (n m i : Nat) : (s.bump g n m i).free = s.free := rfl
@[simp] theorem State.bump_prk (s : State) (g : Fld Reg) (n m i : Nat) : (s.bump g n m i).prk = s.prk := rfl
@[simp] theorem State.bump_stc (s : State) (g : Fld Reg) (n m i : Nat) : (s.bump g n m i).stc = s.stc := rfl
@[simp] theorem State.bump_therm (s : State) (g : Fld Reg) (n m i : Nat) : (s.bump g n m i).therm = s.therm := rfl
@[simp] theorem State.bump_hu (s : State) (g : Fld Reg) (n m i : Nat) : (s.bump g n m i).hu = s.hu := rfl
@[simp] theorem State.bump_pair (s : State) (g : Fld Reg) (n m i : Nat) : (s.bump g n m i).pair = s.pair := rfl
@[simp] theorem State.bump_dp (s : State) (g : Fld Reg) (n m i : Nat) : (s.bump g n m i).dp = s.dp := rfl
@[simp] theorem State.bump_med (s : State) (g : Fld Reg) (n m i : Nat) : (s.bump g n m i).med = s.med := rfl
@[simp] theorem State.bump_bob (s : State) (g : Fld Reg) (n m i : Nat) : (s.bump g n m i).bob = s.bob := rfl
@[simp] theorem State.bump_hq (s : State) (g : Fld Reg) (n m i : Nat) : (s.bump g n m i).hq = s.hq := rfl
@[simp] theorem State.bump_ep (s : State) (g : Fld Reg) (n m i : Nat) : (s.bump g n m i).ep = s.ep := rfl
@[simp] theorem State.bump_net (s : State) (g : Fld Reg) (n m i : Nat) : (s.bump g n m i).net = s.net := rfl
@[simp] theorem State.bump_rpl (s : State) (g : Fld Reg) (n m i : Nat) : (s.bump g n m i).rpl = s.rpl := rfl
@[simp] theorem State.bump_cip (s : State) (g : Fld Reg) (n m i : Nat) : (s.bump g n m i).cip = s.cip := rfl
@[simp] theorem State.bump_ms (s : State) (g : Fld Reg) (n m i : Nat) : (s.bump g n m i).ms = s.ms := rfl
@[simp] theorem State.bump_eng (s : State) (g : Fld Reg) (n m i : Nat) : (s.bump g n m i).eng = s.eng := rfl

@[simp] theorem State.out_pending (s : State) (o : Out) : (s.out o).pending = s.pending := rfl
@[simp] theorem State.out_regs (s : State) (o : Out) : (s.out o).regs = s.regs := rfl
@[simp] theorem State.out_mem (s : State) (o : Out) : (s.out o).mem = s.mem := rfl
@[simp] theorem State.out_flash (s : State) (o : Out) : (s.out o).flash = s.flash := rfl
@[simp] theorem State.out_fop (s : State) (o : Out) : (s.out o).fop = s.fop := rfl
@[simp] theorem State.out_mram (s : State) (o : Out) : (s.out o).mram = s.mram := rfl
@[simp] theorem State.out_tv (s : State) (o : Out) : (s.out o).tv = s.tv := rfl
@[simp] theorem State.out_imageDigest (s : State) (o : Out) : (s.out o).imageDigest = s.imageDigest := rfl
@[simp] theorem State.out_fuses (s : State) (o : Out) : (s.out o).fuses = s.fuses := rfl
@[simp] theorem State.out_power (s : State) (o : Out) : (s.out o).power = s.power := rfl
@[simp] theorem State.out_txOff (s : State) (o : Out) : (s.out o).txOff = s.txOff := rfl
@[simp] theorem State.out_eip (s : State) (o : Out) : (s.out o).eip = s.eip := rfl
@[simp] theorem State.out_outbox (s : State) (o : Out) : (s.out o).outbox = s.outbox ++ [o] := rfl
@[simp] theorem State.out_free (s : State) (o : Out) : (s.out o).free = s.free := rfl
@[simp] theorem State.out_prk (s : State) (o : Out) : (s.out o).prk = s.prk := rfl
@[simp] theorem State.out_stc (s : State) (o : Out) : (s.out o).stc = s.stc := rfl
@[simp] theorem State.out_therm (s : State) (o : Out) : (s.out o).therm = s.therm := rfl
@[simp] theorem State.out_hu (s : State) (o : Out) : (s.out o).hu = s.hu := rfl
@[simp] theorem State.out_pair (s : State) (o : Out) : (s.out o).pair = s.pair := rfl
@[simp] theorem State.out_dp (s : State) (o : Out) : (s.out o).dp = s.dp := rfl
@[simp] theorem State.out_med (s : State) (o : Out) : (s.out o).med = s.med := rfl
@[simp] theorem State.out_bob (s : State) (o : Out) : (s.out o).bob = s.bob := rfl
@[simp] theorem State.out_hq (s : State) (o : Out) : (s.out o).hq = s.hq := rfl
@[simp] theorem State.out_ep (s : State) (o : Out) : (s.out o).ep = s.ep := rfl
@[simp] theorem State.out_net (s : State) (o : Out) : (s.out o).net = s.net := rfl
@[simp] theorem State.out_rpl (s : State) (o : Out) : (s.out o).rpl = s.rpl := rfl
@[simp] theorem State.out_cip (s : State) (o : Out) : (s.out o).cip = s.cip := rfl
@[simp] theorem State.out_ms (s : State) (o : Out) : (s.out o).ms = s.ms := rfl
@[simp] theorem State.out_eng (s : State) (o : Out) : (s.out o).eng = s.eng := rfl

@[simp] theorem State.out_reg (s : State) (o : Out) (r : Reg) (m i : Nat) : (s.out o).reg r m i = s.reg r m i := rfl
@[simp] theorem State.out_fld (s : State) (o : Out) (g : Fld Reg) (m i : Nat) : (s.out o).fld g m i = s.fld g m i := rfl

@[simp] theorem State.tookFree_pending (s : State)  : (s.tookFree).pending = s.pending := rfl
@[simp] theorem State.tookFree_regs (s : State)  : (s.tookFree).regs = s.regs := rfl
@[simp] theorem State.tookFree_mem (s : State)  : (s.tookFree).mem = s.mem := rfl
@[simp] theorem State.tookFree_flash (s : State)  : (s.tookFree).flash = s.flash := rfl
@[simp] theorem State.tookFree_fop (s : State)  : (s.tookFree).fop = s.fop := rfl
@[simp] theorem State.tookFree_mram (s : State)  : (s.tookFree).mram = s.mram := rfl
@[simp] theorem State.tookFree_tv (s : State)  : (s.tookFree).tv = s.tv := rfl
@[simp] theorem State.tookFree_imageDigest (s : State)  : (s.tookFree).imageDigest = s.imageDigest := rfl
@[simp] theorem State.tookFree_fuses (s : State)  : (s.tookFree).fuses = s.fuses := rfl
@[simp] theorem State.tookFree_power (s : State)  : (s.tookFree).power = s.power := rfl
@[simp] theorem State.tookFree_txOff (s : State)  : (s.tookFree).txOff = s.txOff := rfl
@[simp] theorem State.tookFree_eip (s : State)  : (s.tookFree).eip = s.eip := rfl
@[simp] theorem State.tookFree_outbox (s : State)  : (s.tookFree).outbox = s.outbox := rfl
@[simp] theorem State.tookFree_free (s : State)  : (s.tookFree).free = s.free + 1 := rfl
@[simp] theorem State.tookFree_prk (s : State)  : (s.tookFree).prk = s.prk := rfl
@[simp] theorem State.tookFree_stc (s : State)  : (s.tookFree).stc = s.stc := rfl
@[simp] theorem State.tookFree_therm (s : State)  : (s.tookFree).therm = s.therm := rfl
@[simp] theorem State.tookFree_hu (s : State)  : (s.tookFree).hu = s.hu := rfl
@[simp] theorem State.tookFree_pair (s : State)  : (s.tookFree).pair = s.pair := rfl
@[simp] theorem State.tookFree_dp (s : State)  : (s.tookFree).dp = s.dp := rfl
@[simp] theorem State.tookFree_med (s : State)  : (s.tookFree).med = s.med := rfl
@[simp] theorem State.tookFree_bob (s : State)  : (s.tookFree).bob = s.bob := rfl
@[simp] theorem State.tookFree_hq (s : State)  : (s.tookFree).hq = s.hq := rfl
@[simp] theorem State.tookFree_ep (s : State)  : (s.tookFree).ep = s.ep := rfl
@[simp] theorem State.tookFree_net (s : State)  : (s.tookFree).net = s.net := rfl
@[simp] theorem State.tookFree_rpl (s : State)  : (s.tookFree).rpl = s.rpl := rfl
@[simp] theorem State.tookFree_cip (s : State)  : (s.tookFree).cip = s.cip := rfl
@[simp] theorem State.tookFree_ms (s : State)  : (s.tookFree).ms = s.ms := rfl
@[simp] theorem State.tookFree_eng (s : State)  : (s.tookFree).eng = s.eng := rfl

@[simp] theorem State.tookFree_fld (s : State) (g : Fld Reg) (m i : Nat) : s.tookFree.fld g m i = s.fld g m i := rfl

@[simp] theorem State.raiseIrq_pending (s : State) (m h l n : Nat) : (s.raiseIrq m h l n).pending = s.pending := by unfold State.raiseIrq; split <;> rfl
@[simp] theorem State.raiseIrq_regs (s : State) (m h l n : Nat) : (s.raiseIrq m h l n).regs = s.regs := by unfold State.raiseIrq; split <;> rfl
@[simp] theorem State.raiseIrq_mem (s : State) (m h l n : Nat) : (s.raiseIrq m h l n).mem = s.mem := by unfold State.raiseIrq; split <;> rfl
@[simp] theorem State.raiseIrq_flash (s : State) (m h l n : Nat) : (s.raiseIrq m h l n).flash = s.flash := by unfold State.raiseIrq; split <;> rfl
@[simp] theorem State.raiseIrq_fop (s : State) (m h l n : Nat) : (s.raiseIrq m h l n).fop = s.fop := by unfold State.raiseIrq; split <;> rfl
@[simp] theorem State.raiseIrq_mram (s : State) (m h l n : Nat) : (s.raiseIrq m h l n).mram = s.mram := by unfold State.raiseIrq; split <;> rfl
@[simp] theorem State.raiseIrq_tv (s : State) (m h l n : Nat) : (s.raiseIrq m h l n).tv = s.tv := by unfold State.raiseIrq; split <;> rfl
@[simp] theorem State.raiseIrq_imageDigest (s : State) (m h l n : Nat) : (s.raiseIrq m h l n).imageDigest = s.imageDigest := by unfold State.raiseIrq; split <;> rfl
@[simp] theorem State.raiseIrq_fuses (s : State) (m h l n : Nat) : (s.raiseIrq m h l n).fuses = s.fuses := by unfold State.raiseIrq; split <;> rfl
@[simp] theorem State.raiseIrq_power (s : State) (m h l n : Nat) : (s.raiseIrq m h l n).power = s.power := by unfold State.raiseIrq; split <;> rfl
@[simp] theorem State.raiseIrq_txOff (s : State) (m h l n : Nat) : (s.raiseIrq m h l n).txOff = s.txOff := by unfold State.raiseIrq; split <;> rfl
@[simp] theorem State.raiseIrq_outbox (s : State) (m h l n : Nat) : (s.raiseIrq m h l n).outbox = s.outbox := by unfold State.raiseIrq; split <;> rfl
@[simp] theorem State.raiseIrq_free (s : State) (m h l n : Nat) : (s.raiseIrq m h l n).free = s.free := by unfold State.raiseIrq; split <;> rfl
@[simp] theorem State.raiseIrq_prk (s : State) (m h l n : Nat) : (s.raiseIrq m h l n).prk = s.prk := by unfold State.raiseIrq; split <;> rfl
@[simp] theorem State.raiseIrq_stc (s : State) (m h l n : Nat) : (s.raiseIrq m h l n).stc = s.stc := by unfold State.raiseIrq; split <;> rfl
@[simp] theorem State.raiseIrq_therm (s : State) (m h l n : Nat) : (s.raiseIrq m h l n).therm = s.therm := by unfold State.raiseIrq; split <;> rfl
@[simp] theorem State.raiseIrq_hu (s : State) (m h l n : Nat) : (s.raiseIrq m h l n).hu = s.hu := by unfold State.raiseIrq; split <;> rfl
@[simp] theorem State.raiseIrq_pair (s : State) (m h l n : Nat) : (s.raiseIrq m h l n).pair = s.pair := by unfold State.raiseIrq; split <;> rfl
@[simp] theorem State.raiseIrq_dp (s : State) (m h l n : Nat) : (s.raiseIrq m h l n).dp = s.dp := by unfold State.raiseIrq; split <;> rfl
@[simp] theorem State.raiseIrq_med (s : State) (m h l n : Nat) : (s.raiseIrq m h l n).med = s.med := by unfold State.raiseIrq; split <;> rfl
@[simp] theorem State.raiseIrq_bob (s : State) (m h l n : Nat) : (s.raiseIrq m h l n).bob = s.bob := by unfold State.raiseIrq; split <;> rfl
@[simp] theorem State.raiseIrq_hq (s : State) (m h l n : Nat) : (s.raiseIrq m h l n).hq = s.hq := by unfold State.raiseIrq; split <;> rfl
@[simp] theorem State.raiseIrq_ep (s : State) (m h l n : Nat) : (s.raiseIrq m h l n).ep = s.ep := by unfold State.raiseIrq; split <;> rfl
@[simp] theorem State.raiseIrq_net (s : State) (m h l n : Nat) : (s.raiseIrq m h l n).net = s.net := by unfold State.raiseIrq; split <;> rfl
@[simp] theorem State.raiseIrq_rpl (s : State) (m h l n : Nat) : (s.raiseIrq m h l n).rpl = s.rpl := by unfold State.raiseIrq; split <;> rfl
@[simp] theorem State.raiseIrq_cip (s : State) (m h l n : Nat) : (s.raiseIrq m h l n).cip = s.cip := by unfold State.raiseIrq; split <;> rfl
@[simp] theorem State.raiseIrq_ms (s : State) (m h l n : Nat) : (s.raiseIrq m h l n).ms = s.ms := by unfold State.raiseIrq; split <;> rfl
@[simp] theorem State.raiseIrq_eng (s : State) (m h l n : Nat) : (s.raiseIrq m h l n).eng = s.eng := by unfold State.raiseIrq; split <;> rfl

@[simp] theorem State.raiseIrq_fld (s : State) (m h l n : Nat) (g : Fld Reg) (a b : Nat) : (s.raiseIrq m h l n).fld g a b = s.fld g a b := by
  unfold State.raiseIrq; split <;> rfl
@[simp] theorem State.raiseIrq_reg (s : State) (m h l n : Nat) (r : Reg) (a b : Nat) : (s.raiseIrq m h l n).reg r a b = s.reg r a b := by
  unfold State.raiseIrq; split <;> rfl

@[simp] theorem State.setEvt_pending (s : State) (g : Fld Reg) (m : Nat) : (s.setEvt g m).pending = s.pending := by unfold State.setEvt; split <;> simp
@[simp] theorem State.setEvt_mem (s : State) (g : Fld Reg) (m : Nat) : (s.setEvt g m).mem = s.mem := by unfold State.setEvt; split <;> simp
@[simp] theorem State.setEvt_flash (s : State) (g : Fld Reg) (m : Nat) : (s.setEvt g m).flash = s.flash := by unfold State.setEvt; split <;> simp
@[simp] theorem State.setEvt_fop (s : State) (g : Fld Reg) (m : Nat) : (s.setEvt g m).fop = s.fop := by unfold State.setEvt; split <;> simp
@[simp] theorem State.setEvt_mram (s : State) (g : Fld Reg) (m : Nat) : (s.setEvt g m).mram = s.mram := by unfold State.setEvt; split <;> simp
@[simp] theorem State.setEvt_tv (s : State) (g : Fld Reg) (m : Nat) : (s.setEvt g m).tv = s.tv := by unfold State.setEvt; split <;> simp
@[simp] theorem State.setEvt_imageDigest (s : State) (g : Fld Reg) (m : Nat) : (s.setEvt g m).imageDigest = s.imageDigest := by unfold State.setEvt; split <;> simp
@[simp] theorem State.setEvt_fuses (s : State) (g : Fld Reg) (m : Nat) : (s.setEvt g m).fuses = s.fuses := by unfold State.setEvt; split <;> simp
@[simp] theorem State.setEvt_power (s : State) (g : Fld Reg) (m : Nat) : (s.setEvt g m).power = s.power := by unfold State.setEvt; split <;> simp
@[simp] theorem State.setEvt_txOff (s : State) (g : Fld Reg) (m : Nat) : (s.setEvt g m).txOff = s.txOff := by unfold State.setEvt; split <;> simp
@[simp] theorem State.setEvt_outbox (s : State) (g : Fld Reg) (m : Nat) : (s.setEvt g m).outbox = s.outbox := by unfold State.setEvt; split <;> simp
@[simp] theorem State.setEvt_free (s : State) (g : Fld Reg) (m : Nat) : (s.setEvt g m).free = s.free := by unfold State.setEvt; split <;> simp
@[simp] theorem State.setEvt_prk (s : State) (g : Fld Reg) (m : Nat) : (s.setEvt g m).prk = s.prk := by unfold State.setEvt; split <;> simp
@[simp] theorem State.setEvt_stc (s : State) (g : Fld Reg) (m : Nat) : (s.setEvt g m).stc = s.stc := by unfold State.setEvt; split <;> simp
@[simp] theorem State.setEvt_therm (s : State) (g : Fld Reg) (m : Nat) : (s.setEvt g m).therm = s.therm := by unfold State.setEvt; split <;> simp
@[simp] theorem State.setEvt_hu (s : State) (g : Fld Reg) (m : Nat) : (s.setEvt g m).hu = s.hu := by unfold State.setEvt; split <;> simp
@[simp] theorem State.setEvt_pair (s : State) (g : Fld Reg) (m : Nat) : (s.setEvt g m).pair = s.pair := by unfold State.setEvt; split <;> simp
@[simp] theorem State.setEvt_dp (s : State) (g : Fld Reg) (m : Nat) : (s.setEvt g m).dp = s.dp := by unfold State.setEvt; split <;> simp
@[simp] theorem State.setEvt_med (s : State) (g : Fld Reg) (m : Nat) : (s.setEvt g m).med = s.med := by unfold State.setEvt; split <;> simp
@[simp] theorem State.setEvt_bob (s : State) (g : Fld Reg) (m : Nat) : (s.setEvt g m).bob = s.bob := by unfold State.setEvt; split <;> simp
@[simp] theorem State.setEvt_hq (s : State) (g : Fld Reg) (m : Nat) : (s.setEvt g m).hq = s.hq := by unfold State.setEvt; split <;> simp
@[simp] theorem State.setEvt_ep (s : State) (g : Fld Reg) (m : Nat) : (s.setEvt g m).ep = s.ep := by unfold State.setEvt; split <;> simp
@[simp] theorem State.setEvt_net (s : State) (g : Fld Reg) (m : Nat) : (s.setEvt g m).net = s.net := by unfold State.setEvt; split <;> simp
@[simp] theorem State.setEvt_rpl (s : State) (g : Fld Reg) (m : Nat) : (s.setEvt g m).rpl = s.rpl := by unfold State.setEvt; split <;> simp
@[simp] theorem State.setEvt_cip (s : State) (g : Fld Reg) (m : Nat) : (s.setEvt g m).cip = s.cip := by unfold State.setEvt; split <;> simp
@[simp] theorem State.setEvt_ms (s : State) (g : Fld Reg) (m : Nat) : (s.setEvt g m).ms = s.ms := by unfold State.setEvt; split <;> simp
@[simp] theorem State.setEvt_eng (s : State) (g : Fld Reg) (m : Nat) : (s.setEvt g m).eng = s.eng := by unfold State.setEvt; split <;> simp

@[simp] theorem State.emit_pending (s : State) (o : Out) : (s.emit o).pending = s.pending := by unfold State.emit; split <;> rfl
@[simp] theorem State.emit_regs (s : State) (o : Out) : (s.emit o).regs = s.regs := by unfold State.emit; split <;> rfl
@[simp] theorem State.emit_mem (s : State) (o : Out) : (s.emit o).mem = s.mem := by unfold State.emit; split <;> rfl
@[simp] theorem State.emit_flash (s : State) (o : Out) : (s.emit o).flash = s.flash := by unfold State.emit; split <;> rfl
@[simp] theorem State.emit_fop (s : State) (o : Out) : (s.emit o).fop = s.fop := by unfold State.emit; split <;> rfl
@[simp] theorem State.emit_mram (s : State) (o : Out) : (s.emit o).mram = s.mram := by unfold State.emit; split <;> rfl
@[simp] theorem State.emit_tv (s : State) (o : Out) : (s.emit o).tv = s.tv := by unfold State.emit; split <;> rfl
@[simp] theorem State.emit_imageDigest (s : State) (o : Out) : (s.emit o).imageDigest = s.imageDigest := by unfold State.emit; split <;> rfl
@[simp] theorem State.emit_fuses (s : State) (o : Out) : (s.emit o).fuses = s.fuses := by unfold State.emit; split <;> rfl
@[simp] theorem State.emit_power (s : State) (o : Out) : (s.emit o).power = s.power := by unfold State.emit; split <;> rfl
@[simp] theorem State.emit_txOff (s : State) (o : Out) : (s.emit o).txOff = s.txOff := by unfold State.emit; split <;> rfl
@[simp] theorem State.emit_eip (s : State) (o : Out) : (s.emit o).eip = s.eip := by unfold State.emit; split <;> rfl
@[simp] theorem State.emit_free (s : State) (o : Out) : (s.emit o).free = s.free := by unfold State.emit; split <;> rfl
@[simp] theorem State.emit_prk (s : State) (o : Out) : (s.emit o).prk = s.prk := by unfold State.emit; split <;> rfl
@[simp] theorem State.emit_stc (s : State) (o : Out) : (s.emit o).stc = s.stc := by unfold State.emit; split <;> rfl
@[simp] theorem State.emit_therm (s : State) (o : Out) : (s.emit o).therm = s.therm := by unfold State.emit; split <;> rfl
@[simp] theorem State.emit_hu (s : State) (o : Out) : (s.emit o).hu = s.hu := by unfold State.emit; split <;> rfl
@[simp] theorem State.emit_pair (s : State) (o : Out) : (s.emit o).pair = s.pair := by unfold State.emit; split <;> rfl
@[simp] theorem State.emit_dp (s : State) (o : Out) : (s.emit o).dp = s.dp := by unfold State.emit; split <;> rfl
@[simp] theorem State.emit_med (s : State) (o : Out) : (s.emit o).med = s.med := by unfold State.emit; split <;> rfl
@[simp] theorem State.emit_bob (s : State) (o : Out) : (s.emit o).bob = s.bob := by unfold State.emit; split <;> rfl
@[simp] theorem State.emit_hq (s : State) (o : Out) : (s.emit o).hq = s.hq := by unfold State.emit; split <;> rfl
@[simp] theorem State.emit_ep (s : State) (o : Out) : (s.emit o).ep = s.ep := by unfold State.emit; split <;> rfl
@[simp] theorem State.emit_net (s : State) (o : Out) : (s.emit o).net = s.net := by unfold State.emit; split <;> rfl
@[simp] theorem State.emit_rpl (s : State) (o : Out) : (s.emit o).rpl = s.rpl := by unfold State.emit; split <;> rfl
@[simp] theorem State.emit_cip (s : State) (o : Out) : (s.emit o).cip = s.cip := by unfold State.emit; split <;> rfl
@[simp] theorem State.emit_ms (s : State) (o : Out) : (s.emit o).ms = s.ms := by unfold State.emit; split <;> rfl
@[simp] theorem State.emit_eng (s : State) (o : Out) : (s.emit o).eng = s.eng := by unfold State.emit; split <;> rfl

@[simp] theorem State.emit_fld (s : State) (o : Out) (g : Fld Reg) (a b : Nat) : (s.emit o).fld g a b = s.fld g a b := by unfold State.emit; split <;> rfl
@[simp] theorem State.emit_reg (s : State) (o : Out) (r : Reg) (a b : Nat) : (s.emit o).reg r a b = s.reg r a b := by unfold State.emit; split <;> rfl

@[simp] theorem State.emit_outbox (s : State) (o : Out) : (s.emit o).outbox = if s.txOff then s.outbox else s.outbox ++ [o] := by unfold State.emit; split <;> rfl

/-- Two states that agree in every field are equal. -/
theorem State.ext_fields (s t : State) (h_pending : s.pending = t.pending) (h_regs : s.regs = t.regs) (h_mem : s.mem = t.mem) (h_flash : s.flash = t.flash) (h_fop : s.fop = t.fop) (h_mram : s.mram = t.mram) (h_tv : s.tv = t.tv) (h_imageDigest : s.imageDigest = t.imageDigest) (h_fuses : s.fuses = t.fuses) (h_power : s.power = t.power) (h_txOff : s.txOff = t.txOff) (h_eip : s.eip = t.eip) (h_outbox : s.outbox = t.outbox) (h_free : s.free = t.free) (h_prk : s.prk = t.prk) (h_stc : s.stc = t.stc) (h_therm : s.therm = t.therm) (h_hu : s.hu = t.hu) (h_pair : s.pair = t.pair) (h_dp : s.dp = t.dp) (h_med : s.med = t.med) (h_bob : s.bob = t.bob) (h_hq : s.hq = t.hq) (h_ep : s.ep = t.ep) (h_net : s.net = t.net) (h_rpl : s.rpl = t.rpl) (h_cip : s.cip = t.cip) (h_ms : s.ms = t.ms) (h_eng : s.eng = t.eng) : s = t := by
  cases s; cases t; simp only [State.mk.injEq]; exact ⟨h_pending, h_regs, h_mem, h_flash, h_fop, h_mram, h_tv, h_imageDigest, h_fuses, h_power, h_txOff, h_eip, h_outbox, h_free, h_prk, h_stc, h_therm, h_hu, h_pair, h_dp, h_med, h_bob, h_hq, h_ep, h_net, h_rpl, h_cip, h_ms, h_eng⟩

end Sys2Proof.Machine
end

