-- ==== Sys2Proof/Laws/Regs.lean ====
section
/-! SUPPORT. The laws of bit fields and registers: what a field reads after a field or a register is written, and what the shared operations on
registers do. -/

namespace Sys2Proof.Machine

/-! ## Bit fields -/

theorem bits_lt (v hi lo : Nat) : bits v hi lo < 2 ^ (hi + 1 - lo) := Nat.mod_lt _ (Nat.two_pow_pos _)

theorem bits_eq_mod_div (v hi lo : Nat) (h : lo ≤ hi + 1) : bits v hi lo = v % 2 ^ (hi + 1) / 2 ^ lo := by
  unfold bits
  have e : 2 ^ (hi + 1) = 2 ^ lo * 2 ^ (hi + 1 - lo) := by rw [← Nat.pow_add]; congr 1; omega
  rw [e, Nat.mod_mul_right_div_self]

/-- Cutting a number above a field does not change the field. -/
theorem bits_mod (v hi lo n : Nat) (h : hi < n) : bits (v % 2 ^ n) hi lo = bits v hi lo := by
  by_cases hl : lo ≤ hi + 1
  · rw [bits_eq_mod_div _ _ _ hl, bits_eq_mod_div _ _ _ hl, Nat.mod_mod_of_dvd _ (Nat.pow_dvd_pow 2 (by omega))]
  · have e : hi + 1 - lo = 0 := by omega
    simp [bits, e, Nat.mod_one]

/-- A number cut in three at a field, with the field replaced. -/
theorem setBits_eq (v hi lo x : Nat) (h : lo ≤ hi + 1) :
    setBits v hi lo x = 2 ^ (hi + 1) * (v / 2 ^ (hi + 1)) + (2 ^ lo * (x % 2 ^ (hi + 1 - lo)) + v % 2 ^ lo) := by
  have e : 2 ^ (hi + 1) = 2 ^ lo * 2 ^ (hi + 1 - lo) := by rw [← Nat.pow_add]; congr 1; omega
  have h1 : v = 2 ^ lo * (v / 2 ^ lo) + v % 2 ^ lo := (Nat.div_add_mod v (2 ^ lo)).symm
  have h2 : v / 2 ^ lo = 2 ^ (hi + 1 - lo) * (v / 2 ^ lo / 2 ^ (hi + 1 - lo)) + v / 2 ^ lo % 2 ^ (hi + 1 - lo) :=
    (Nat.div_add_mod (v / 2 ^ lo) (2 ^ (hi + 1 - lo))).symm
  have h3 : v / 2 ^ (hi + 1) = v / 2 ^ lo / 2 ^ (hi + 1 - lo) := by rw [e, Nat.div_div_eq_div_mul]
  unfold setBits bits
  rw [h3]
  generalize v / 2 ^ lo / 2 ^ (hi + 1 - lo) = q at *
  generalize v / 2 ^ lo % 2 ^ (hi + 1 - lo) = b at *
  rw [e, Nat.mul_assoc]
  rw [h2, Nat.mul_add] at h1
  rw [Nat.mul_comm b, Nat.mul_comm (x % _)]
  omega

/-- A field just written reads what was written, cut to its width. -/
theorem bits_setBits_same (v hi lo x : Nat) (h : lo ≤ hi) : bits (setBits v hi lo x) hi lo = x % 2 ^ (hi + 1 - lo) := by
  have hl : lo ≤ hi + 1 := by omega
  have e : 2 ^ (hi + 1) = 2 ^ lo * 2 ^ (hi + 1 - lo) := by rw [← Nat.pow_add]; congr 1; omega
  rw [setBits_eq _ _ _ _ hl]
  unfold bits
  have p := Nat.two_pow_pos lo
  rw [e, Nat.mul_assoc, ← Nat.add_assoc, ← Nat.mul_add, Nat.mul_add_div p, Nat.div_eq_of_lt (Nat.mod_lt v p), Nat.add_zero, Nat.mul_add_mod,
    Nat.mod_mod]

/-- A field above the one written keeps its value. -/
theorem bits_setBits_above (v hi lo x hi' lo' : Nat) (h : lo ≤ hi) (h' : hi < lo') : bits (setBits v hi lo x) hi' lo' = bits v hi' lo' := by
  have hl : lo ≤ hi + 1 := by omega
  have e : 2 ^ (hi + 1) = 2 ^ lo * 2 ^ (hi + 1 - lo) := by rw [← Nat.pow_add]; congr 1; omega
  have e' : 2 ^ lo' = 2 ^ (hi + 1) * 2 ^ (lo' - (hi + 1)) := by rw [← Nat.pow_add]; congr 1; omega
  have p := Nat.two_pow_pos lo
  have hc : 2 ^ lo * (x % 2 ^ (hi + 1 - lo)) + v % 2 ^ lo < 2 ^ (hi + 1) := by
    have a := Nat.mod_lt v p
    have b : x % 2 ^ (hi + 1 - lo) + 1 ≤ 2 ^ (hi + 1 - lo) := Nat.mod_lt _ (Nat.two_pow_pos _)
    calc 2 ^ lo * (x % 2 ^ (hi + 1 - lo)) + v % 2 ^ lo < 2 ^ lo * (x % 2 ^ (hi + 1 - lo)) + 2 ^ lo := by omega
      _ = 2 ^ lo * (x % 2 ^ (hi + 1 - lo) + 1) := by rw [Nat.mul_add, Nat.mul_one]
      _ ≤ 2 ^ lo * 2 ^ (hi + 1 - lo) := Nat.mul_le_mul_left _ b
      _ = 2 ^ (hi + 1) := e.symm
  rw [setBits_eq _ _ _ _ hl]
  unfold bits
  rw [e', ← Nat.div_div_eq_div_mul, ← Nat.div_div_eq_div_mul, Nat.mul_add_div (Nat.two_pow_pos _), Nat.div_eq_of_lt hc, Nat.add_zero]

/-- A field below the one written keeps its value. -/
theorem bits_setBits_below (v hi lo x hi' lo' : Nat) (h : lo ≤ hi) (h' : hi' < lo) :
    bits (setBits v hi lo x) hi' lo' = bits v hi' lo' := by
  have hl : lo ≤ hi + 1 := by omega
  have e : 2 ^ (hi + 1) = 2 ^ lo * 2 ^ (hi + 1 - lo) := by rw [← Nat.pow_add]; congr 1; omega
  rw [← bits_mod (setBits v hi lo x) hi' lo' lo h', ← bits_mod v hi' lo' lo h', setBits_eq _ _ _ _ hl, e, Nat.mul_assoc, ← Nat.add_assoc,
    ← Nat.mul_add, Nat.mul_add_mod, Nat.mod_mod]

/-! ## Registers -/

/-- A register just written reads what was written. -/
theorem State.reg_setReg_same (s : State) (r : Reg) (m i v : Nat) : (s.setReg r m i v).reg r m i = v % 2 ^ 64 := by
  simp [State.reg, State.setReg]

/-- A write of a register leaves every register at another address alone. -/
theorem State.reg_setReg_other (s : State) (r q : Reg) (m i v n j : Nat) (h : r.addr m i ≠ q.addr n j) : (s.setReg r m i v).reg q n j = s.reg q n j := by
  simp [State.reg, State.setReg, Sparse.get_set_other _ _ _ _ _ _ h]

/-- A write of a field leaves every register at another address alone. -/
theorem State.reg_setFld_other (s : State) (f : Fld Reg) (q : Reg) (x m i n j : Nat) (h : f.reg.addr m i ≠ q.addr n j) :
    (s.setFld f x m i).reg q n j = s.reg q n j := State.reg_setReg_other _ _ _ _ _ _ _ _ h

/-- A field just written reads what was written, cut to its width. -/
theorem State.fld_setFld_same (s : State) (f : Fld Reg) (x m i : Nat) (h : f.lo ≤ f.hi ∧ f.hi < 64) :
    (s.setFld f x m i).fld f m i = x % 2 ^ (f.hi + 1 - f.lo) := by
  unfold State.fld State.setFld
  rw [State.reg_setReg_same, bits_mod _ _ _ _ h.2, bits_setBits_same _ _ _ _ h.1]

/-- A field of another register keeps its value. -/
theorem State.fld_setFld_reg (s : State) (f g : Fld Reg) (x m i n j : Nat) (h : f.reg.addr m i ≠ g.reg.addr n j) :
    (s.setFld f x m i).fld g n j = s.fld g n j := by
  unfold State.fld State.setFld
  rw [State.reg_setReg_other _ _ _ _ _ _ _ _ h]

/-- The other fields of the register written keep their values. -/
theorem State.fld_setFld_field (s : State) (f g : Fld Reg) (x m i : Nat)
    (h : f.reg = g.reg ∧ f.lo ≤ f.hi ∧ f.hi < 64 ∧ g.hi < 64 ∧ g.lo ≤ g.hi ∧ (f.hi < g.lo ∨ g.hi < f.lo)) :
    (s.setFld f x m i).fld g m i = s.fld g m i := by
  obtain ⟨hr, h1, h2, h3, h4, h5⟩ := h
  unfold State.fld State.setFld
  rw [← hr, State.reg_setReg_same, bits_mod _ _ _ _ h3]
  rcases h5 with h5 | h5
  · exact bits_setBits_above _ _ _ _ _ _ h1 h5
  · exact bits_setBits_below _ _ _ _ _ _ h1 h5

/-- A field of one bit just set is set. -/
theorem State.flag_setFld_one (s : State) (f : Fld Reg) (m i : Nat) (h : f.lo ≤ f.hi ∧ f.hi < 64) : (s.setFld f 1 m i).flag f m i = true := by
  unfold State.flag
  rw [State.fld_setFld_same _ _ _ _ _ h]
  have : 1 < 2 ^ (f.hi + 1 - f.lo) := Nat.one_lt_two_pow (by omega)
  simp [Nat.mod_eq_of_lt this]

/-- An event just raised is set. -/
theorem State.flag_setEvt_same (s : State) (f : Fld Reg) (m : Nat) (h : f.lo ≤ f.hi ∧ f.hi < 64) : (s.setEvt f m).flag f m = true := by
  unfold State.setEvt
  split
  · assumption
  · have : ∀ t : State, ∀ a b c d, (t.raiseIrq a b c d).flag f m = t.flag f m := fun t a b c d => by simp [State.flag]
    rw [this, State.flag_setFld_one _ _ _ _ h]

/-- An event raised leaves the fields of other registers alone. -/
theorem State.fld_setEvt_reg (s : State) (f g : Fld Reg) (m n j : Nat) (h : f.reg.addr m 0 ≠ g.reg.addr n j) : (s.setEvt f m).fld g n j = s.fld g n j := by
  unfold State.setEvt
  split
  · rfl
  · rw [State.raiseIrq_fld, State.fld_setFld_reg _ _ _ _ _ _ _ _ h]

/-- An event raised leaves the other fields of its register alone. -/
theorem State.fld_setEvt_field (s : State) (f g : Fld Reg) (m : Nat)
    (h : f.reg = g.reg ∧ f.lo ≤ f.hi ∧ f.hi < 64 ∧ g.hi < 64 ∧ g.lo ≤ g.hi ∧ (f.hi < g.lo ∨ g.hi < f.lo)) :
    (s.setEvt f m).fld g m = s.fld g m := by
  unfold State.setEvt
  split
  · rfl
  · rw [State.raiseIrq_fld, State.fld_setFld_field _ _ _ _ _ _ h]

/-- A count just raised reads one step more, or its largest value. -/
theorem State.fld_bump_same (s : State) (f : Fld Reg) (n m i : Nat) (h : f.lo ≤ f.hi ∧ f.hi < 64) :
    (s.bump f n m i).fld f m i = satAdd (fldMax f) (s.fld f m i) n := by
  unfold State.bump
  rw [State.fld_setFld_same _ _ _ _ _ h]
  refine Nat.mod_eq_of_lt ?_
  have p := Nat.two_pow_pos (f.hi + 1 - f.lo)
  unfold satAdd fldMax
  split <;> omega

/-- A count raised leaves the fields of other registers alone. -/
theorem State.fld_bump_reg (s : State) (f g : Fld Reg) (x m i n j : Nat) (h : f.reg.addr m i ≠ g.reg.addr n j) :
    (s.bump f x m i).fld g n j = s.fld g n j := State.fld_setFld_reg _ _ _ _ _ _ _ _ h

/-- A count raised leaves the other fields of its register alone. -/
theorem State.fld_bump_field (s : State) (f g : Fld Reg) (x m i : Nat)
    (h : f.reg = g.reg ∧ f.lo ≤ f.hi ∧ f.hi < 64 ∧ g.hi < 64 ∧ g.lo ≤ g.hi ∧ (f.hi < g.lo ∨ g.hi < f.lo)) :
    (s.bump f x m i).fld g m i = s.fld g m i := State.fld_setFld_field _ _ _ _ _ _ h

/-- A powered head carries a command out. -/
theorem live_on (s : State) (f : State → State) (h : s.power.running = true) : live s f = .next (f s) := by simp [live, h]

/-- A head without power ignores a command. -/
theorem live_off (s : State) (f : State → State) (h : s.power.running = false) : live s f = .next s := by simp [live, h]

end Sys2Proof.Machine
end

