-- ==== Sys2Proof/Laws/Fields.lean ====
section
/-! SUPPORT. The register table is well formed (fields lie in their register and do not overlap), and what a loop over the fields of a register leaves in each. -/

namespace Sys2Proof.Machine

/-- Two fields do not overlap. -/
def FieldSpec.apart (f g : FieldSpec) : Bool := decide (f.hi < g.lo) || decide (g.hi < f.lo)

/-- The fields of a register lie within `n` bits, and no two overlap. -/
def fieldsFit (n : Nat) : List FieldSpec → Bool
  | [] => true
  | f :: l => decide (f.lo ≤ f.hi) && decide (f.hi < n) && l.all (fun g => f.apart g) && fieldsFit n l

/-- Every register's fields lie within its width and do not overlap. -/
theorem Reg.fields_fit (r : Reg) : fieldsFit (8 * r.width) r.spec.fields = true := by
  cases r <;> rfl

theorem fieldsFit_mem {n : Nat} {l : List FieldSpec} (h : fieldsFit n l = true) {f : FieldSpec} (hf : f ∈ l) : f.lo ≤ f.hi ∧ f.hi < n := by
  induction l with
  | nil => cases hf
  | cons g l ih =>
    simp only [fieldsFit, Bool.and_eq_true, decide_eq_true_eq] at h
    rcases List.mem_cons.1 hf with rfl | hf
    · exact ⟨h.1.1.1, h.1.1.2⟩
    · exact ih h.2 hf

theorem Reg.width_le (r : Reg) : 8 * r.width ≤ 64 := by unfold Reg.width; split <;> omega

/-- A field apart from the one written keeps its value. -/
theorem bits_setBits_apart (v x : Nat) (f g : FieldSpec) (hf : f.lo ≤ f.hi) (h : f.apart g = true) :
    bits (setBits v f.hi f.lo x) g.hi g.lo = bits v g.hi g.lo := by
  simp only [FieldSpec.apart, Bool.or_eq_true, decide_eq_true_eq] at h
  rcases h with h | h
  · exact bits_setBits_above _ _ _ _ _ _ hf h
  · exact bits_setBits_below _ _ _ _ _ _ hf h

/-- A loop that sets some fields, none of them overlapping `g`, leaves `g` alone. -/
theorem fold_apart (l : List FieldSpec) (c : FieldSpec → Bool) (x : FieldSpec → Nat) (v : Nat) (g : FieldSpec) (hl : ∀ f ∈ l, f.lo ≤ f.hi)
    (h : ∀ f ∈ l, f.apart g = true) : bits (l.foldl (fun v f => if c f then setBits v f.hi f.lo (x f) else v) v) g.hi g.lo = bits v g.hi g.lo := by
  induction l generalizing v with
  | nil => rfl
  | cons f l ih =>
    rw [List.foldl_cons, ih _ (fun k hk => hl k (List.mem_cons_of_mem _ hk)) (fun k hk => h k (List.mem_cons_of_mem _ hk))]
    split
    · exact bits_setBits_apart _ _ _ _ (hl f (by simp)) (h f (by simp))
    · rfl

/-- A loop over the fields of a register that sets those picked: each picked field reads what was set, cut to its width, and the others are as before. -/
theorem fold_fields (n : Nat) (l : List FieldSpec) (c : FieldSpec → Bool) (x : FieldSpec → Nat) (v : Nat) (h : fieldsFit n l = true) (g : FieldSpec) (hg : g ∈ l) :
    bits (l.foldl (fun v f => if c f then setBits v f.hi f.lo (x f) else v) v) g.hi g.lo =
      if c g then x g % 2 ^ (g.hi + 1 - g.lo) else bits v g.hi g.lo := by
  induction l generalizing v with
  | nil => cases hg
  | cons f l ih =>
    simp only [fieldsFit, Bool.and_eq_true, decide_eq_true_eq, List.all_eq_true] at h
    obtain ⟨⟨⟨h1, h2⟩, h3⟩, h4⟩ := h
    rw [List.foldl_cons]
    rcases List.mem_cons.1 hg with rfl | hg
    · rw [fold_apart l c x _ g (fun f hf => (fieldsFit_mem h4 hf).1) (fun f hf => ?_)]
      · split
        · exact bits_setBits_same _ _ _ _ h1
        · rfl
      · have := h3 f hf
        simp only [FieldSpec.apart, Bool.or_eq_true, decide_eq_true_eq] at this ⊢
        omega
    · rw [ih _ h4 hg]
      split
      · rfl
      · split
        · exact bits_setBits_apart _ _ _ _ h1 (h3 g hg)
        · rfl

end Sys2Proof.Machine
end

