-- ==== Sys2Proof/Laws/Ops.lean ====
section
/-! SUPPORT. What the shared operations leave alone: the fields of the package window that an operation does not write keep their values. -/

namespace Sys2Proof.Machine

/-- A register of a motif window stands at or above 16 MiB. -/
theorem Reg.addr_motif (r : Reg) (m i : Nat) (h : r.spec.pkg = false) : 0x1000000 ≤ r.addr m i := by
  unfold Reg.addr windowBase
  simp only [h]
  have : 0x1000000 * 1 ≤ 0x1000000 * (m + 1) := Nat.mul_le_mul_left _ (by omega)
  simp only [Bool.false_eq_true, if_false]
  omega

/-- A write of a field of a motif's register leaves the package window alone. -/
theorem State.fld_setFld_motif (s : State) (f g : Fld Reg) (x m i n j : Nat) (h : f.reg.spec.pkg = false) (hg : g.reg.addr n j < 0x1000000) :
    (s.setFld f x m i).fld g n j = s.fld g n j := by
  have := Reg.addr_motif f.reg m i h
  exact State.fld_setFld_reg _ _ _ _ _ _ _ _ (by omega)

/-- What every round of a loop keeps, the loop keeps. -/
theorem State.each_keeps {α β : Type} (p : State → β) (s : State) (l : List α) (f : State → α → State) (h : ∀ t, ∀ a ∈ l, p (f t a) = p t) :
    p (s.each l f) = p s := by
  unfold State.each
  induction l generalizing s with
  | nil => rfl
  | cons a l ih =>
    rw [List.foldl_cons, ih _ (fun t b hb => h t b (List.mem_cons_of_mem _ hb)), h s a (by simp)]

/-- What every round of a loop upholds, the loop upholds. -/
theorem State.each_holds {α : Type} (p : State → Prop) (s : State) (l : List α) (f : State → α → State) (hs : p s) (h : ∀ t, ∀ a ∈ l, p t → p (f t a)) :
    p (s.each l f) := by
  unfold State.each
  induction l generalizing s with
  | nil => exact hs
  | cons a l ih => exact ih _ (h s a (by simp) hs) (fun t b hb => h t b (List.mem_cons_of_mem _ hb))

@[simp] theorem State.mramWrite_fld (s : State) (o : Nat) (b : Bytes) (g : Fld Reg) (m i : Nat) : (s.mramWrite o b).fld g m i = s.fld g m i := rfl

/-- Of three copies of which two hold the word, the majority holds it. -/
theorem tvMajority_one (a k : Nat) : tvMajority (if k = 0 then a else 0, if k = 1 then a else 0, if k = 2 then a else 0) = some 0 := by
  unfold tvMajority
  by_cases h0 : k = 0
  · subst h0; by_cases ha : a = 0 <;> simp [ha]
  · by_cases h1 : k = 1
    · subst h1; simp
    · simp [h0, h1]

/-- One copy of a word just written turned leaves the registers alone. -/
theorem State.tvTurn_regs (s : State) (w i k a : Nat) (h : Sparse.get (0, 0, 0) s.tv (tvKey w i) = (0, 0, 0)) :
    (s.tvTurn w i (if k = 0 then a else 0, if k = 1 then a else 0, if k = 2 then a else 0)).regs = s.regs := by
  unfold State.tvTurn
  dsimp only
  rw [h]
  have e : ∀ p : Prop, ∀ [Decidable p], (0 ^^^ ((if p then a else 0) &&& (tvPlace w i).2.2.2)) = if p then a &&& (tvPlace w i).2.2.2 else 0 := by
    intro p _; split <;> simp
  simp only [e, tvMajority_one, Option.getD_some, if_true]

/-- A triple-voted word written changes no register but ECC_FLIP_TARGET of the motif whose injection is armed for it (R12, R426). -/
theorem State.reg_tvWrote (s : State) (w i : Nat) (r : Reg) (n j : Nat) (h : ∀ m, Reg.ECC_FLIP_TARGET.addr m 0 ≠ r.addr n j) :
    (s.tvWrote w i).reg r n j = s.reg r n j := by
  unfold State.tvWrote
  dsimp only
  split
  · rfl
  · rename_i m _
    unfold State.fired
    rw [State.reg_setFld_other _ _ _ _ _ _ _ _ (h m), State.reg_setFld_other _ _ _ _ _ _ _ _ (h m)]
    have e : ∀ t u : State, t.regs = u.regs → t.reg r n j = u.reg r n j := fun t u h => by unfold State.reg; rw [h]
    refine (e _ _ (State.tvTurn_regs _ w i _ _ ?_)).trans rfl
    simp

/-- A triple-voted word written leaves the fields of the package window alone. -/
theorem State.fld_tvWrote (s : State) (w i : Nat) (g : Fld Reg) (n j : Nat) (hg : g.reg.addr n j < 0x1000000) : (s.tvWrote w i).fld g n j = s.fld g n j := by
  unfold State.fld
  rw [State.reg_tvWrote]
  intro m
  have := Reg.addr_motif .ECC_FLIP_TARGET m 0 rfl
  omega

theorem State.fld_setWp (s : State) (wp seq : Nat) (g : Fld Reg) (n j : Nat) (h : Reg.SMP_ST.addr 0 0 ≠ g.reg.addr n j)
    (hg : g.reg.addr n j < 0x1000000) : (s.setWp wp seq).fld g n j = s.fld g n j := by
  unfold State.setWp
  simp (disch := assumption) only [State.fld_tvWrote, State.fld_setFld_reg, State.mramWrite_fld]

theorem State.fld_newRec (s : State) (ty : Nat) (p : Bytes) (g : Fld Reg) (n j : Nat) (h : Reg.SMP_ST.addr 0 0 ≠ g.reg.addr n j)
    (h' : Reg.SMP_CNT.addr 0 0 ≠ g.reg.addr n j) (hg : g.reg.addr n j < 0x1000000) : (s.newRec ty p).fld g n j = s.fld g n j := by
  unfold State.newRec State.writeRec
  split
  · simp (disch := assumption) only [State.fld_bump_reg]
  · split <;> simp (disch := assumption) only [State.fld_bump_reg, State.fld_setFld_reg, State.mramWrite_fld, State.fld_setWp]

/-- A record appended to the sampler writes no register of the package window but SMP_ST and SMP_CNT (R463, R464). -/
theorem State.fld_sample (s : State) (ty : Nat) (p : Bytes) (g : Fld Reg) (n j : Nat) (h : Reg.SMP_ST.addr 0 0 ≠ g.reg.addr n j)
    (h' : Reg.SMP_CNT.addr 0 0 ≠ g.reg.addr n j) (hg : g.reg.addr n j < 0x1000000) : (s.sample ty p).fld g n j = s.fld g n j := by
  have hn : ∀ t : State, (t.appendNear ty p).fld g n j = t.fld g n j := by
    intro t
    unfold State.appendNear
    dsimp only
    split <;> simp (disch := assumption) only [State.fld_setFld_reg, State.fld_newRec]
  unfold State.sample
  split
  · split
    · dsimp only
      split
      · simp (disch := assumption) only [State.fld_bump_reg, State.mramWrite_fld]
      · rfl
    · exact hn s
  · exact hn s

/-- Temperatures shown write no register of the package window but THM_PKG. -/
theorem State.fld_syncTemps (s : State) (g : Fld Reg) (n j : Nat) (h : Reg.THM_PKG.addr 0 0 ≠ g.reg.addr n j) (hg : g.reg.addr n j < 0x1000000) :
    s.syncTemps.fld g n j = s.fld g n j := by
  unfold State.syncTemps
  dsimp only
  have hm : ∀ (t : State) (f : Fld Reg) (x : Int) (m : Nat), f.reg.spec.pkg = false → (t.setSfld f x m).fld g n j = t.fld g n j :=
    fun t f x m hf => State.fld_setFld_motif _ _ _ _ _ _ _ _ hf hg
  rw [State.each_keeps (fun t => t.fld g n j)]
  · exact State.fld_setFld_reg _ _ _ _ _ _ _ _ h
  · intro t a _
    rw [hm _ _ _ _ rfl, hm _ _ _ _ rfl, hm _ _ _ _ rfl, hm _ _ _ _ rfl]

end Sys2Proof.Machine
end

