-- ==== Sys2Proof/Laws/Memory.lean ====
section
/-! SUPPORT. Every operation of the memory, the boot flash and the MRAM keeps its canonical form, and what a read gives after a write. -/

namespace Sys2Proof.Machine

/-- The canonical form holds after reset. -/
theorem reset_memWf : State.reset.memWf = true := by decide

theorem storeByte_wf (s : State) (a : Nat) (b : Byte) (h : Sparse.wf memDefault s.mem = true) : Sparse.wf memDefault (s.storeByte a b).mem = true := by
  unfold State.storeByte
  split
  · exact h
  · split
    · exact h
    · split
      · exact h
      · exact Sparse.wf_set memDefault s.mem a b h

theorem storeBytes_wf (s : State) (a : Nat) (l : Bytes) (h : Sparse.wf memDefault s.mem = true) : Sparse.wf memDefault (s.storeBytes a l).mem = true := by
  induction l generalizing s a with
  | nil => exact h
  | cons b t ih => exact ih _ _ (storeByte_wf s a b h)

theorem flashErase_wf (s : State) (o n : Nat) (h : Sparse.wf flashErased s.flash = true) : Sparse.wf flashErased (s.flashErase o n).flash = true :=
  Sparse.wf_clearRange flashErased s.flash o n h

theorem flashProgram_wf (s : State) (o : Nat) (b : Bytes) (h : Sparse.wf flashErased s.flash = true) : Sparse.wf flashErased (s.flashProgram o b).flash = true :=
  Sparse.wf_setRange flashErased s.flash o _ h

theorem mramWrite_wf (s : State) (o : Nat) (b : Bytes) (h : Sparse.wf 0 s.mram = true) : Sparse.wf 0 (s.mramWrite o b).mram = true :=
  Sparse.wf_setRange 0 s.mram o b h

/-- A read of the boot flash has the length asked for. -/
theorem flashRead_length (s : State) (o n : Nat) : (s.flashRead o n).length = n := by
  unfold State.flashRead
  induction n generalizing o with
  | zero => rfl
  | succ n ih => rw [Sparse.getRange, List.length_cons, ih]

/-- A byte of the boot flash outside the programmed range reads as before. -/
theorem flashProgram_out (s : State) (o x : Nat) (b : Bytes) (h : x < o ∨ o + b.length ≤ x) :
    Sparse.get flashErased (s.flashProgram o b).flash x = Sparse.get flashErased s.flash x :=
  Sparse.get_setRange_out flashErased s.flash o x _ (by simpa only [List.length_zipWith, flashRead_length, Nat.min_self] using h)

/-- What was written to the MRAM reads back. -/
theorem mramRead_mramWrite (s : State) (o : Nat) (b : Bytes) : (s.mramWrite o b).mramRead o b.length = b :=
  Sparse.getRange_setRange 0 s.mram o b

/-- A register's write leaves the memory alone. -/
theorem setFld_mem (s : State) (f : Fld Reg) (v m i : Nat) : (s.setFld f v m i).mem = s.mem := rfl

theorem fired_mem (s : State) (m : Nat) : (s.fired m).mem = s.mem :=
  (setFld_mem (s.setFld F.ECC_FLIP_TARGET_ARMED 0 m) F.ECC_FLIP_TARGET_FIRED 1 m 0).trans (setFld_mem s F.ECC_FLIP_TARGET_ARMED 0 m 0)

/-- A change of the memory system that may fire an armed injection leaves the memory alone. -/
theorem ite_fired_mem (p : Prop) [Decidable p] (s : State) (f : MemSt → MemSt) (m : Nat) : (if p then (s.modMs f).fired m else s).mem = s.mem := by
  split
  · rw [fired_mem, State.modMs_mem]
  · rfl

theorem sramWroteAt_mem (s : State) (m code n : Nat) (a : Option Nat) (p : Nat) : (s.sramWroteAt m code n a p).mem = s.mem := by
  unfold State.sramWroteAt
  exact ite_fired_mem ..

theorem sramWrote_mem (s : State) (m code n : Nat) (a : Option Nat) : (s.sramWrote m code n a).mem = s.mem := sramWroteAt_mem ..

theorem dropFlips_mem (s : State) (a n : Nat) : (s.dropFlips a n).mem = s.mem := by
  unfold State.dropFlips
  dsimp only
  split <;> rfl

theorem dramWrote_mem (s : State) (m line : Nat) (whole : Bool) : (s.dramWrote m line whole).mem = s.mem := by
  unfold State.dramWrote
  simp only [ite_fired_mem]
  split
  · rw [State.modMs_mem]
  · rfl

theorem noteWrites_mem (s : State) (a n : Nat) : (s.noteWrites a n).mem = s.mem := by
  unfold State.noteWrites
  refine (State.each_keeps State.mem _ _ _ (fun t k _ => ?_)).trans (dropFlips_mem s a n)
  simp only []
  split
  · split
    · exact sramWrote_mem ..
    · exact dramWrote_mem ..
  · exact sramWrote_mem ..
  · exact sramWrote_mem ..
  · rfl
  · rfl
  · rfl

/-- A store of the hardware keeps the canonical form. -/
theorem store_wf (s : State) (a : Nat) (b : Bytes) (h : Sparse.wf memDefault s.mem = true) : Sparse.wf memDefault (s.store a b).mem = true := by
  unfold State.store State.clearPoison
  dsimp only
  rw [State.modMs_mem, noteWrites_mem]
  split
  · exact Sparse.wf_setRange memDefault s.mem a b h
  · exact storeBytes_wf s a b h

end Sys2Proof.Machine
end

