-- ==== Sys2Proof/WellFormed.lean ====
section
/-! DEFINITION. What a well-formed command is: each operand within the range that the spec gives the thing it names. A meaning is total and asks for none of this; where an operand
is out of range it changes nothing, or the model cuts it to the width of its field. -/

namespace Sys2Proof

/-- A motif number: a package has at most eight (R34). -/
def okMotif (m : Nat) : Bool := decide (m < 8)

/-- A UCIE link of a motif (MTF_LINK_ST). -/
def okLink (l : Nat) : Bool := decide (l < 3)

/-- A stitch phase: 0 to 999 (R46). -/
def okPhase (p : Nat) : Bool := decide (p < 1000)

/-- A value that an access of at most 64 bits carries (R7). -/
def okWord (v : Nat) : Bool := decide (v < 2 ^ 64)

/-- A slot of the stitch schedule: 0 to 63 (R58). -/
def okSlot (n : Nat) : Bool := decide (n < 64)

/-- A bride group: one for each motif (R110). -/
def okGroup (n : Nat) : Bool := decide (n < 8)

/-- A sub-port of a motif's Ethernet port (R299). -/
def okSubPort (n : Nat) : Bool := decide (n < 8)

/-- An Ethernet priority (R305). -/
def okPriority (n : Nat) : Bool := decide (n < 8)

/-- A PCIe function: PF0 or PF1 (R381). -/
def okFunction (n : Nat) : Bool := decide (n < 2)

/-- A tag of a host read (R397). -/
def okTag (n : Nat) : Bool := decide (n < 1024)

/-- A module index (R277). -/
def okModule (n : Nat) : Bool := decide (n < 256)

/-- A phase comparator (R63). -/
def okComparator (n : Nat) : Bool := decide (n < 64)

/-- A read context of the sampler (R466). -/
def okContext (n : Nat) : Bool := decide (n < 4)

/-- A hart of a motif: application cores 0 to 7 and the service core (R470). -/
def okHart (n : Nat) : Bool := decide (n < 9)

/-- A level of interrupt file: machine or supervisor (R470). -/
def okLevel (n : Nat) : Bool := decide (n < 2)

/-- A ground (R79). -/
def okGround (n : Nat) : Bool := decide (n < 256)

/-- A replication target (RPL_TGT_CTL). -/
def okTarget (n : Nat) : Bool := decide (n < 64)

/-- The bytes of a register access (R7). -/
def okWidth (n : Nat) : Bool := decide (n = 1) || decide (n = 2) || decide (n = 4) || decide (n = 8)

/-- A level of the HEAD_ID strap (R4). -/
def okHead (n : Nat) : Bool := decide (n < 2)

/-- A command identifier: 16 bits (R281). -/
def okCid (n : Nat) : Bool := decide (n < 65536)

/-- A step's time in microseconds, as PKG_WIND_TIME holds it. -/
def okTime (n : Nat) : Bool := decide (n < 2 ^ 32)

/-- A command whose operands are within their ranges. -/
def Instr.wellFormed : Instr → Bool
  | .registerWrite _ _ width value => okWidth width && okWord value
  | .rcRead _ _ width => okWidth width
  | .stcNumRead _ phase => okPhase phase
  | .powerOnReset headId us => okHead headId && okTime us
  | .resetNAssert _ us => okTime us
  | .pkgRstWarm value us => okWord value && okTime us
  | .pkgRstMotifRst value _ => okWord value
  | .ucieReplayLimit motif link => okMotif motif && okLink link
  | .ucieNoProgressTimeout motif link => okMotif motif && okLink link
  | .ucieLaneFail motif link => okMotif motif && okLink link
  | .sramUncorrectable motif _ _ _ _ _ => okMotif motif
  | .servicePollMiss motif _ => okMotif motif
  | .pllLossOfLock => true
  | .stitchEdge _ _ => true
  | .stitchFrame => true
  | .stitchEdgeTimeout => true
  | .ptpUpdate value => okWord value
  | .ptpUpdateTimeout => true
  | .stitchStart => true
  | .relockComplete => true
  | .acquireTimeout => true
  | .holdoverExpiry => true
  | .stcRetry value => okWord value
  | .recSnap _ => true
  | .recSend endPhase => okPhase endPhase
  | .imonSample _ _ _ _ => true
  | .imonForced motif => okMotif motif
  | .vaultBudget _ => true
  | .thermalStep _ _ => true
  | .throttleGraceExpiry => true
  | .thermalNotice => true
  | .inletStale => true
  | .claimKeepalive _ => true
  | .dramScrub slot _ _ => okSlot slot
  | .patrol slot _ _ => okSlot slot
  | .patrolBehind motif => okMotif motif
  | .mediaScrub slot _ _ => okSlot slot
  | .replEpoch slot _ => okSlot slot
  | .samplerHour slot _ => okSlot slot
  | .gcQuota slot _ _ => okSlot slot
  | .coreEvent slot _ => okSlot slot
  | .comparatorFire j => okComparator j
  | .comparatorEnable j value phase => okComparator j && okWord value && okPhase phase
  | .fuseLoad us => okTime us
  | .bootRomStart _ us => okTime us
  | .imageSlotSelect _ _ us => okTime us
  | .measurementExtend us => okTime us
  | .prickingLoad _ us => okTime us
  | .motifBringup _ _ us => okTime us
  | .dramTraining _ us => okTime us
  | .brideTraining _ _ _ _ us => okTime us
  | .stitchLock us => okTime us
  | .moduleDiscovery _ us => okTime us
  | .metadataRecovery _ _ _ _ _ us => okTime us
  | .keysDoneTimeout _ _ _ _ _ us => okTime us
  | .mirrorResync us => okTime us
  | .groundAssignment us => okTime us
  | .priorSectionsSwitch => true
  | .huGoodLoss _ _ => true
  | .vaultDumpComplete _ us => okTime us
  | .handoverDrainComplete us => okTime us
  | .rethreadDrainTimeout _ _ => true
  | .rethreadFetchTimeout => true
  | .brideLaneFail group _ => okGroup group
  | .brideLinkDown _ _ => true
  | .brideRetrainTimer _ _ => true
  | .brdRetrain value _ _ => okWord value
  | .trainIdReceive _ _ _ => true
  | .brideFrameError group _ => okGroup group
  | .nakReceive _ => true
  | .ackStallTimeout group => okGroup group
  | .idleSend group => okGroup group
  | .idleReceive _ => true
  | .recordReceive _ phase _ => okPhase phase
  | .recordMissing _ _ => true
  | .haliveInChange _ => true
  | .mirrorReceive _ _ => true
  | .haveReceive _ _ => true
  | .clmHandoverGo value => okWord value
  | .handoverRequestSend => true
  | .handoverRequestReceive _ g _ _ _ => okGround g
  | .handoverClaimedReceive _ g _ => okGround g
  | .handoverDoneReceive _ g => okGround g
  | .handingBrideDownTimeout => true
  | .resyncReceive _ _ => true
  | .resyncBacklogEmpty us => okTime us
  | .namedStitchReached us => okTime us
  | .waitingWriteAdmit => true
  | .atomLand _ _ _ _ => true
  | .flushAgeExpiry motif _ _ => okMotif motif
  | .nonceBlockReserve motif group => okMotif motif && okGroup group
  | .stripeProgramDone _ _ => true
  | .stripePadAge ground motif _ => okGround ground && okMotif motif
  | .mapUpdateDurable _ _ => true
  | .engineContextFreed _ motif => okMotif motif
  | .cmpJobPost motif value => okMotif motif && okWord value
  | .cmpJobCompress motif _ => okMotif motif
  | .cmpJobDecompress motif _ => okMotif motif
  | .digJobPost motif value => okMotif motif && okWord value
  | .digJobDigest motif _ => okMotif motif
  | .digJobMeasureData motif _ => okMotif motif
  | .digJobMeasureValue motif _ => okMotif motif
  | .digResRelease motif => okMotif motif
  | .laneKatStart motif _ value => okMotif motif && okWord value
  | .laneKatComplete motif _ _ => okMotif motif
  | .kekLoad value => okWord value
  | .keysDone value => okWord value
  | .keySlotLoad value => okWord value
  | .keySlotClear value => okWord value
  | .keySlotZeroise _ => true
  | .gcCollectStart motif _ => okMotif motif
  | .gcCopyComplete _ => true
  | .bandErase _ => true
  | .bandEraseComplete _ => true
  | .stagingAppend _ _ _ => true
  | .stagingAppendDone _ _ => true
  | .stagingBlockErase _ => true
  | .checkpointPassEnd motif => okMotif motif
  | .telemetryPoll => true
  | .moduleLinkDownTimeout i _ => okModule i
  | .ecuModFail i value _ => okModule i && okWord value
  | .ecuModReinstate i value => okModule i && okWord value
  | .ecuModRole i value => okModule i && okWord value
  | .ecuModFd i value => okModule i && okWord value
  | .rebuildBandDone motif _ => okMotif motif
  | .bobbinIdentify i _ cid _ => okModule i && okCid cid
  | .geometry i _ cid _ => okModule i && okCid cid
  | .readPage i _ cid _ _ _ => okModule i && okCid cid
  | .programPages i _ cid _ _ => okModule i && okCid cid
  | .eraseBlock i _ cid _ _ => okModule i && okCid cid
  | .claimSet i _ cid _ => okModule i && okCid cid
  | .claimGet i _ cid _ => okModule i && okCid cid
  | .telemetry i _ cid _ _ _ => okModule i && okCid cid
  | .setFeature i _ cid _ => okModule i && okCid cid
  | .resetLun i _ cid _ _ => okModule i && okCid cid
  | .moduleEnWrite i value _ _ _ => okModule i && okWord value
  | .moduleSqTail i _ _ => okModule i
  | .bobbinCompletion i _ cid _ => okModule i && okCid cid
  | .bobbinCmdTimeout i _ cid _ => okModule i && okCid cid
  | .cidQuarantineExpiry i _ cid => okModule i && okCid cid
  | .modulePortAbort i _ _ _ => okModule i
  | .inboundDma motif _ _ _ _ => okMotif motif
  | .ethLinkChange motif sub _ _ _ _ => okMotif motif && okSubPort sub
  | .rdmaSend _ _ _ _ _ => true
  | .rdmaWrite _ _ _ _ _ _ _ _ => true
  | .rdmaRead _ _ _ _ _ => true
  | .rdmaAtomic _ _ _ _ _ _ => true
  | .contextFillComplete _ _ _ _ => true
  | .rdmaAckReceive _ _ _ _ _ _ _ _ => true
  | .sprayGapTimeout _ => true
  | .readResponseGap _ _ _ _ => true
  | .localAckTimeout _ => true
  | .pathSuspendExpiry _ _ => true
  | .connCreate motif value sub => okMotif motif && okWord value && okSubPort sub
  | .connDestroy motif value => okMotif motif && okWord value
  | .connErrorCmd motif value => okMotif motif && okWord value
  | .timewaitExpiry _ => true
  | .fwRxFrame motif sub _ _ _ => okMotif motif && okSubPort sub
  | .fwTxPost value _ => okWord value
  | .pfcFrameReceive motif sub prio _ _ => okMotif motif && okSubPort sub && okPriority prio
  | .cnpReceive _ _ => true
  | .ccRateTimer _ => true
  | .mrValidate value => okWord value
  | .mrRevoke value => okWord value
  | .revokeDrainComplete => true
  | .rplSnapshot value => okWord value
  | .cutStitchReached => true
  | .snapshotReady _ _ => true
  | .rplClone value => okWord value
  | .rplDelete value => okWord value
  | .walkerRelease motif => okMotif motif
  | .epochBegin t => okTarget t
  | .query t => okTarget t
  | .applied t _ => okTarget t
  | .data t _ => okTarget t
  | .epochEnd t => okTarget t
  | .epochAck t => okTarget t
  | .epochRestart t _ => okTarget t
  | .replLagAlarm t => okTarget t
  | .sqDoorbellWrite _ _ => true
  | .createIoSq _ _ _ _ _ => true
  | .deleteIoSq _ _ => true
  | .createIoCq _ _ _ _ _ _ => true
  | .deleteIoCq _ _ => true
  | .getLogPage _ _ _ _ _ => true
  | .nvmeIdentify _ _ => true
  | .abort _ _ cid _ => okCid cid
  | .setFeatures _ _ value _ _ => okWord value
  | .getFeatures _ _ _ _ => true
  | .asyncEventRequest _ => true
  | .nsCreate _ _ => true
  | .nsDelete _ => true
  | .firmwareCommit _ _ => true
  | .firmwareImageDownload _ _ _ => true
  | .namespaceAttachment _ _ _ => true
  | .keepAlive _ => true
  | .keepAliveTimeout _ => true
  | .fabricsConnect _ cid _ _ _ _ => okCid cid
  | .propertyGet _ _ => true
  | .propertySet _ _ value => okWord value
  | .disconnect _ => true
  | .nvmeWrite _ _ _ _ _ _ => true
  | .nvmeRead _ _ _ _ _ => true
  | .nvmeFlush _ => true
  | .writeZeroes _ _ _ => true
  | .datasetManagement _ _ _ => true
  | .verify _ _ _ _ => true
  | .fwcDone _ => true
  | .ccEnSet _ _ _ => true
  | .ccEnClear => true
  | .ccShnNormal => true
  | .ccShnAbrupt => true
  | .controllerResetEnd _ => true
  | .shutdownProcessingEnd _ => true
  | .perstAssert _ => true
  | .perstDeassert _ => true
  | .configRequest pf _ _ _ _ => okFunction pf
  | .epRetrain value _ => okWord value
  | .pf0Avail value => okWord value
  | .bmeClear pf => okFunction pf
  | .bmeSet pf => okFunction pf
  | .d3hotEntry pf => okFunction pf
  | .flrPf0 => true
  | .flrPf1 => true
  | .cplTimeout tag _ _ => okTag tag
  | .unexpectedCompletion tag => okTag tag
  | .tagQuarantineExpiry tag => okTag tag
  | .poisonedTlpReceive pf tag _ => okFunction pf && okTag tag
  | .pf1Raise value => okWord value
  | .msixUnmask pf _ _ => okFunction pf
  | .pf1Bar2Access _ _ _ => true
  | .coreUnmappedAccess _ _ _ _ _ => true
  | .cacheFill _ _ _ _ _ _ _ _ => true
  | .writebackComplete motif _ => okMotif motif
  | .eccInjectArm motif value => okMotif motif && okWord value
  | .cchClean motif value => okMotif motif && okWord value
  | .cchInvalidate motif value => okMotif motif && okWord value
  | .cchCleanInvalidate motif value => okMotif motif && okWord value
  | .maintComplete motif => okMotif motif
  | .cchDisable motif value => okMotif motif && okWord value
  | .cacheDrainComplete motif => okMotif motif
  | .cchPolicyChange motif value => okMotif motif && okWord value
  | .sramScrubWalk motif _ => okMotif motif
  | .tvSweep _ => true
  | .regulatorPoll _ => true
  | .smbalertFall _ => true
  | .huEnergyReadStart => true
  | .huEnergyReadDone _ => true
  | .powerRailsGood _ => true
  | .penEnableStep => true
  | .pgoodRise headId us _ => okHead headId && okTime us
  | .pgoodTimeout => true
  | .pgoodLow _ => true
  | .fwuErase value => okWord value
  | .fwuProgram value => okWord value
  | .fwuRead value => okWord value
  | .flashOpComplete _ => true
  | .fwuCommitNoAction value => okWord value
  | .fwuCommitReplace value => okWord value
  | .fwuCommitReplaceActivate value => okWord value
  | .fwuCommitActivateNow value => okWord value
  | .smpSnapTake k value => okContext k && okWord value
  | .cpuRelease motif value _ => okMotif motif && okWord value
  | .cpuHalt motif h value _ => okMotif motif && okHart h && okWord value
  | .hpmEventWrite motif h i value => okMotif motif && okHart h && okModule i && okWord value
  | .imsicSeteipnum motif h level value _ _ => okMotif motif && okHart h && okLevel level && okWord value
  | .hostLinkDown _ _ => true
  | .d0Return pf => okFunction pf
  | .cqHeadDoorbell _ _ => true
  | .rnrRetryTimer _ => true
  | .moduleReadyTimeout i => okModule i
  | .pauseExpiry motif sub prio _ => okMotif motif && okSubPort sub && okPriority prio

end Sys2Proof
end

