-- ==== Sys2Proof/Tests/Slice0.lean ====
section
/-! SUPPORT. The model's own tests: an ill-formed command for each check of WellFormed, single steps on values that the spec gives, and, for each statement of
Certificates/Slice0/Obligations.lean that has hypotheses, small states that meet them. -/

namespace Sys2Proof.Tests

open Sys2Proof.Machine

/-! ## States -/

/-- The machine in a mode. -/
def inMode (m : Nat) : State := State.reset.setFld F.PKG_MODE_MODE m

/-- The machine in a step of Winding. -/
def atStep (n : Nat) : State := State.reset.setFld F.PKG_WIND_STEP n

/-- A group of the bride link with all lanes up. -/
def upGroup : BrideGroup := { lanes := 255, txSeq := 1, acked := 1, rxSeq := 0, unacked := [], waiting := [], probe := 0 }

/-- A state with group 0 of the bride link up. -/
def linked (s : State) : State := { s with txOff := false, pair := { s.pair with groups := upGroup :: s.pair.groups.drop 1 } }

/-- The next frame in order on group 0. -/
def nextHdr : BrideHdr := ⟨0, 1, 0⟩

/-- The value that an outcome gives, where it is a next state. -/
def nextOf (o : Host.Outcome State Fault Refusal) : Option State := match o with
  | .next s => some s
  | .fault _ => none
  | .refused _ => none

/-- The machine with slot `i` of the schedule enabled for an action, with ARG `arg`, in every stitch from phase 701. -/
def withSlot (s : State) (i action arg : Nat) : State :=
  ((((s.setFld F.STC_SLOT_C_ACTION action 0 i).setFld F.STC_SLOT_C_ARG arg 0 i).setFld F.STC_SLOT_C_PHASE 701 0 i).setFld F.STC_SLOT_T_PERIOD 1 0 i).setFld F.STC_SLOT_C_EN 1 0 i

/-! ## Ill-formed commands, one for each check -/

theorem test_wf_motif : (Instr.ucieLaneFail 8 0).wellFormed = false ∧ (Instr.ucieLaneFail 7 0).wellFormed = true := by decide
theorem test_wf_link : (Instr.ucieLaneFail 0 3).wellFormed = false ∧ (Instr.ucieLaneFail 0 2).wellFormed = true := by decide
theorem test_wf_phase : (Instr.stcNumRead .host 1000).wellFormed = false ∧ (Instr.stcNumRead .host 999).wellFormed = true := by decide
theorem test_wf_word : (Instr.stcRetry (2 ^ 64)).wellFormed = false ∧ (Instr.stcRetry (2 ^ 64 - 1)).wellFormed = true := by decide
theorem test_wf_slot : (Instr.samplerHour 64 false).wellFormed = false ∧ (Instr.samplerHour 63 false).wellFormed = true := by decide
theorem test_wf_group : (Instr.idleSend 8).wellFormed = false ∧ (Instr.idleSend 7).wellFormed = true := by decide
theorem test_wf_sub_port : (Instr.connCreate 0 0 8).wellFormed = false ∧ (Instr.connCreate 0 0 7).wellFormed = true := by decide
theorem test_wf_priority : (Instr.pauseExpiry 0 0 8 []).wellFormed = false ∧ (Instr.pauseExpiry 0 0 7 []).wellFormed = true := by decide
theorem test_wf_function : (Instr.d3hotEntry 2).wellFormed = false ∧ (Instr.d3hotEntry 1).wellFormed = true := by decide
theorem test_wf_tag : (Instr.unexpectedCompletion 1024).wellFormed = false ∧ (Instr.unexpectedCompletion 1023).wellFormed = true := by decide
theorem test_wf_module : (Instr.moduleReadyTimeout 256).wellFormed = false ∧ (Instr.moduleReadyTimeout 255).wellFormed = true := by decide
theorem test_wf_comparator : (Instr.comparatorFire 64).wellFormed = false ∧ (Instr.comparatorFire 63).wellFormed = true := by decide
theorem test_wf_context : (Instr.smpSnapTake 4 0).wellFormed = false ∧ (Instr.smpSnapTake 3 0).wellFormed = true := by decide
theorem test_wf_hart : (Instr.cpuHalt 0 9 0 false).wellFormed = false ∧ (Instr.cpuHalt 0 8 0 false).wellFormed = true := by decide
theorem test_wf_level : (Instr.imsicSeteipnum 0 0 2 1 false false).wellFormed = false ∧ (Instr.imsicSeteipnum 0 0 1 1 false false).wellFormed = true := by decide
theorem test_wf_ground : (Instr.handoverDoneReceive nextHdr 256).wellFormed = false ∧ (Instr.handoverDoneReceive nextHdr 255).wellFormed = true := by decide
theorem test_wf_target : (Instr.epochBegin 64).wellFormed = false ∧ (Instr.epochBegin 63).wellFormed = true := by decide
theorem test_wf_width : (Instr.registerWrite .host 0 3 0).wellFormed = false ∧ (Instr.registerWrite .host 0 8 0).wellFormed = true := by decide
theorem test_wf_head : (Instr.powerOnReset 2 0).wellFormed = false ∧ (Instr.powerOnReset 1 0).wellFormed = true := by decide
theorem test_wf_cid : (Instr.bobbinIdentify 0 0 65536 none).wellFormed = false ∧ (Instr.bobbinIdentify 0 0 65535 none).wellFormed = true := by decide
theorem test_wf_time : (Instr.stitchLock (2 ^ 32)).wellFormed = false ∧ (Instr.stitchLock (2 ^ 32 - 1)).wellFormed = true := by decide

/-! ## Witnesses -/

theorem witness_HeldOffIsKept : ∃ s : State, s.heldOff ∧ step s = .next s :=
  ⟨{ State.reset with power := ⟨false, 0, false, false, true, false⟩ }, ⟨rfl, rfl, by intro c h; cases h⟩, rfl⟩

theorem witness_HeldOffBegins : ∃ s : State, s.power.aonGood = true ∧ s.power.running = false ∧ s.power.holdOff = false ∧ s.power.pen = 5 ∧
    ∀ c ∈ s.pending, restoresAon c = false :=
  ⟨{ State.reset with power := ⟨true, 5, false, false, false, false⟩ }, by decide⟩

theorem witness_UnpoweredHeadIsStill : ∃ (c : Instr) (s : State), s.power.running = false ∧ needsNoPower c = false :=
  ⟨.stitchStart, { State.reset with power := ⟨true, 5, false, false, false, false⟩ }, by decide⟩

theorem witness_PowerSequence :
    (∃ s : State, s.power.running = false ∧ s.power.holdOff = true) ∧
    (∃ s : State, s.power.running = false ∧ s.power.aonGood = true ∧ s.power.holdOff = false ∧ s.power.pen = 4) ∧
    (∃ s : State, s.power.running = false ∧ s.power.aonGood = true ∧ s.power.holdOff = false ∧ s.power.pen = 5 ∧ s.power.testMode = false) :=
  ⟨⟨{ State.reset with power := ⟨true, 0, false, false, true, false⟩ }, by decide⟩, ⟨{ State.reset with power := ⟨true, 4, false, false, false, false⟩ }, by decide⟩,
   ⟨{ State.reset with power := ⟨true, 5, false, false, false, false⟩ }, by decide⟩⟩

theorem witness_RegisterWriteStores : ∃ (s : State) (who : Who) (addr width : Nat) (r : Reg) (m i : Nat), s.power.running = true ∧ s.regsOpen who = true ∧
    s.regFor addr width = some (r, m, i) ∧ hasOwnWrite r = false :=
  ⟨State.reset, .core 0 0, Reg.THM_USER.addr 0 0, 8, .THM_USER, 0, 0, by decide +kernel⟩

theorem witness_RegisterAccessRefused :
    (∃ (s : State) (addr width : Nat), s.power.running = true ∧ s.regFor addr width = none ∧ (regOfAddr (addr - addr % 4)).isSome = true) ∧
    (∃ (s : State) (addr width : Nat), s.power.running = true ∧ s.regFor addr width = none ∧ regOfAddr (addr - addr % 4) = none ∧ regOfAddr (addr - addr % 8) = none) ∧
    (∃ s : State, s.power.running = true ∧ s.regsOpen .host = false) :=
  ⟨⟨State.reset, Reg.THM_USER.addr 0 0, 4, by decide +kernel⟩, ⟨State.reset, 0xFFFF000, 8, by decide +kernel⟩, ⟨State.reset, by decide⟩⟩

theorem witness_RcReadClears :
    (∃ (s : State) (addr width : Nat) (r : Reg) (m i : Nat), s.power.running = true ∧ s.regFor addr width = some (r, m, i) ∧ r ≠ .STC_NUM ∧ ∃ f ∈ r.spec.fields, f.acc = .rc) ∧
    (∃ (s : State) (addr : Nat), s.power.running = true ∧ s.regFor addr 8 = some (.STC_NUM, 0, 0)) :=
  ⟨⟨State.reset, Reg.STC_CNT.addr 0 0, 8, .STC_CNT, 0, 0, by decide +kernel⟩, ⟨State.reset, Reg.STC_NUM.addr 0 0, by decide +kernel⟩⟩

theorem witness_NumReadLatches : ∃ (s : State), s.power.running = true ∧ s.stc.phase ≤ 999 := ⟨State.reset, by decide⟩

theorem witness_OwnRowsAgree : ∃ s : State, s.power.running = true ∧ s.hasMotif 0 = true ∧ s.stc.phase < 1000 ∧ s.fuses.caps.optE = true := ⟨State.reset, by decide⟩

theorem witness_StitchEdges :
    (∃ s : State, s.power.running = true ∧ s.fld F.STC_CTL_SRC = 0 ∧ s.fld F.STC_ST_STATE ≠ 1) ∧
    (∃ s : State, s.power.running = true ∧ s.fld F.STC_CTL_SRC = 0 ∧ s.fld F.STC_ST_STATE = 1 ∧ s.stc.outRun < 2) ∧
    (∃ s : State, s.power.running = true ∧ s.fld F.STC_CTL_SRC = 0 ∧ s.fld F.STC_ST_STATE = 1 ∧ 2 ≤ s.stc.outRun) :=
  ⟨⟨State.reset, by decide⟩, ⟨State.reset.setFld F.STC_ST_STATE 1, by decide⟩, ⟨(State.reset.setFld F.STC_ST_STATE 1).modStc (fun c => { c with outRun := 2 }), by decide⟩⟩

/-- The 80 bits of a frame whose number is 0: CRC-16 of 64 zeros by the polynomial of R50 from all ones. -/
def zeroFrame : List Symbol := List.replicate 64 .zero ++ ((List.range 16).map (fun i => if bit (crc16Bits (List.replicate 64 false)) (15 - i) then .one else .zero))

theorem witness_FramesAndLostSources :
    (∃ s : State, s.power.running = true ∧ s.stc.ended = [.bits zeroFrame 0] ∧ frameNumber zeroFrame = some 0 ∧ s.flag F.STC_ST_SRC_VALID = true ∧
      ((0 : Nat) : Int) = ((0 : Nat) : Int) - signed 64 (s.fld F.STC_NUM_OFS_OFS)) ∧
    (∃ s : State, s.power.running = true ∧ s.stc.ended = [.broken] ∧ s.flag F.STC_ST_SRC_VALID = true ∧ s.stc.badRun < 2) ∧
    (∃ s : State, s.power.running = true ∧ s.stc.ended = [.broken] ∧ s.flag F.STC_ST_SRC_VALID = true ∧ 2 ≤ s.stc.badRun) ∧
    (∃ s : State, s.power.running = true ∧ s.fld F.STC_CTL_SRC = 0 ∧ s.flag F.STC_ST_SRC_VALID = true ∧ s.fld F.STC_ST_STATE = 1) ∧
    (∃ s : State, s.power.running = true ∧ s.fld F.STC_CTL_SRC = 1 ∧ s.flag F.STC_ST_SRC_VALID = true ∧ s.fld F.STC_ST_STATE = 1) :=
  let v := State.reset.setFld F.STC_ST_SRC_VALID 1
  ⟨⟨v.modStc (fun c => { c with ended := [.bits zeroFrame 0] }), by decide +kernel⟩, ⟨v.modStc (fun c => { c with ended := [.broken] }), by decide⟩,
   ⟨v.modStc (fun c => { c with ended := [.broken], badRun := 2 }), by decide⟩, ⟨v.setFld F.STC_ST_STATE 1, by decide⟩,
   ⟨(v.setFld F.STC_ST_STATE 1).setFld F.STC_CTL_SRC 1, by decide⟩⟩

theorem witness_StitchClock :
    (∃ s : State, s.power.running = true ∧ s.pair.last = none) ∧
    (∃ s : State, s.power.running = true ∧ s.fld F.STC_CTL_SRC = 1 ∧ s.flag F.STC_CTL_PTP_VALID = true ∧ s.fld F.STC_ST_STATE = 1) ∧
    (∃ s : State, s.power.running = true ∧ s.stc.relocking = true ∧ s.fld F.STC_ST_STATE = 1 ∧ -4 ≤ s.sfld F.STC_ST_PH_ERR ∧ s.sfld F.STC_ST_PH_ERR ≤ 4) ∧
    (∃ s : State, s.power.running = true ∧ s.inStep 10 = true ∧ s.fld F.STC_ST_STATE = 0 ∧ s.flag F.STC_ST_SRC_VALID = false ∧ s.partnerInService = false) ∧
    (∃ s : State, s.power.running = true ∧ s.fld F.STC_ST_STATE = 2 ∧ s.flag F.BRD_ST_LINK_UP = false) ∧
    (∃ (s : State) (r : Record), s.power.running = true ∧ s.fld F.STC_ST_STATE = 2 ∧ s.flag F.BRD_ST_LINK_UP = true ∧ s.pair.last = some r ∧ r.stcState = 1) ∧
    (∃ s : State, s.power.running = true ∧ bit 16 4 = true ∧ s.fld F.STC_CTL_SRC = 0 ∧ s.plClosed = true ∧ s.flag F.STC_ST_SRC_VALID = false) :=
  ⟨⟨State.reset, by decide⟩, ⟨((State.reset.setFld F.STC_CTL_SRC 1).setFld F.STC_CTL_PTP_VALID 1).setFld F.STC_ST_STATE 1, by decide⟩,
   ⟨((State.reset.modStc (fun c => { c with relocking := true })).setFld F.STC_ST_STATE 1).setFld F.STC_ST_PH_ERR 4, by decide⟩, ⟨atStep 10, by decide⟩,
   ⟨State.reset.setFld F.STC_ST_STATE 2, by decide⟩,
   ⟨((State.reset.setFld F.STC_ST_STATE 2).setFld F.BRD_ST_LINK_UP 1).modPair (fun p => { p with last := some { (default : Record) with stcState := 1 } }), { (default : Record) with stcState := 1 }, by decide⟩,
   ⟨State.reset, by decide⟩⟩

theorem witness_Comparators :
    (∃ s : State, s.power.running = true ∧ s.hasMotif (s.fld F.STC_CMP_C_MOTIF 0 63) = true ∧ s.fld F.STC_CMP_C_HART 0 63 ≤ 8 ∧ s.flag F.STC_CMP_C_EN 0 63 = true ∧
      s.num = s.fld F.STC_CMP_T_TARGET 0 63 ∧ s.stc.phase ≤ s.fld F.STC_CMP_C_PHASE 0 63 ∧ s.fld F.STC_CMP_C_PERIOD 0 63 = 0) ∧
    (∃ s : State, s.power.running = true ∧ s.hasMotif (s.fld F.STC_CMP_C_MOTIF 0 0) = true ∧ s.fld F.STC_CMP_C_HART 0 0 ≤ 8 ∧ s.flag F.STC_CMP_C_EN 0 0 = true ∧
      s.num = s.fld F.STC_CMP_T_TARGET 0 0 ∧ s.stc.phase ≤ s.fld F.STC_CMP_C_PHASE 0 0 ∧ s.fld F.STC_CMP_C_PERIOD 0 0 ≠ 0) ∧
    (∃ s : State, s.power.running = true ∧ s.inLockSet .STC_CMP_C 0 5 = false ∧ s.flag F.STC_CMP_C_EN 0 5 = false ∧ bit (2 ^ 31) 31 = true ∧
      s.fld F.STC_CMP_T_TARGET 0 5 < s.num ∧ bits (2 ^ 31) 63 32 = 0 ∧ bits (2 ^ 31) 23 20 ≤ 8 ∧ s.hasMotif (bits (2 ^ 31) 18 16) = true) :=
  ⟨⟨(State.reset.setFld F.STC_CMP_C_EN 1 0 63).setFld F.STC_CMP_C_HART 8 0 63, by decide⟩,
   ⟨(State.reset.setFld F.STC_CMP_C_EN 1).setFld F.STC_CMP_C_PERIOD 5, by decide⟩, ⟨State.reset.setFld F.STC_NUM_NUM 1, by decide⟩⟩

theorem witness_SlotModes :
    (∃ (s : State) (c : Instr), s.power.running = true ∧ slotOf c = some (0, 1) ∧ s.mode = 5) ∧
    (∃ (s : State) (c : Instr), s.power.running = true ∧ slotOf c = some (5, 6) ∧ s.mode = 4) ∧
    (∃ (s : State) (c : Instr), s.power.running = true ∧ slotOf c = some (2, 3) ∧ s.mode = 4 ∧ s.mode ≠ 5) ∧
    (∃ (s : State) (c : Instr), s.power.running = true ∧ slotOf c = some (6, 0x14) ∧ s.flag F.STC_SLOT_C_EN 0 6 = false ∧ s.slotDue 6 0x14 = false) ∧
    (∃ (s : State) (c : Instr), s.power.running = true ∧ slotOf c = some (63, 0x14) ∧ s.slotDue 63 0x14 = true ∧ overruns c = true) :=
  ⟨⟨inMode 5, .recSnap false, by decide⟩, ⟨inMode 4, .claimKeepalive false, by decide⟩, ⟨inMode 4, .imonSample false [] [] [], by decide⟩,
   ⟨State.reset, .samplerHour 6 false, by decide⟩, ⟨withSlot State.reset 63 0x14 0, .samplerHour 63 true, by decide⟩⟩

theorem witness_RecordSnapSend :
    (∃ s : State, s.power.running = true ∧ s.slotDue 0 1 = true) ∧
    (∃ (s : State) (r : Record), s.power.running = true ∧ s.slotDue 1 2 = true ∧ s.pair.snap = some r ∧ s.upGroups = [0] ∧ 0 < s.pair.groups.length ∧ s.paired = true ∧
      r.entries.length ≤ 4091 ∧ (s.group 0).mayCarry (.record { r with part := 0, parts := 1, txPhase := 20 }) = true ∧ s.txOff = false ∧ s.stc.phase ≤ 20) :=
  ⟨⟨State.reset, by decide⟩, ⟨((linked State.reset).setFld F.BRD_ST_STATE 3).modPair (fun p => { p with snap := some default }), default, by decide⟩⟩

theorem witness_HourAndCoreEvent :
    (∃ s : State, s.power.running = true ∧ s.slotDue 6 0x14 = true) ∧
    (∃ s : State, s.power.running = true ∧ s.slotDue 63 0x20 = true ∧ s.hasMotif (s.fld F.STC_CMP_C_MOTIF 0 (s.fld F.STC_SLOT_C_ARG 0 63 % 64)) = true ∧
      s.fld F.STC_CMP_C_HART 0 (s.fld F.STC_SLOT_C_ARG 0 63 % 64) ≤ 8) ∧
    (∃ s : State, s.power.running = true ∧ s.slotDue 5 6 = true ∧ s.txOff = false) :=
  ⟨⟨withSlot State.reset 6 0x14 0, by decide⟩, ⟨withSlot State.reset 63 0x20 3, by decide⟩, ⟨linked (State.reset.setFld F.STC_NUM_NUM 1000), by decide⟩⟩

/-- A band of one data and one parity member, FULL, with one stripe programmed. -/
def fullBand : Band := { (default : Band) with num := 1, k := 1, m := 1, state := 2, members := [⟨0, 0, 0⟩, ⟨1, 0, 0⟩], units := [3], stripes := 1, next := 1, done := 1 }

/-- A state whose maps hold one band. -/
def withBand (s : State) (b : Band) : State := s.modMed (fun d => { d with maps := { d.maps with bands := [b] } })

/-- A ground map of ground 0 alone, which class 2 names (R75). -/
def onePart : PairPart := { (default : PairPart) with grounds := [default], sels := [{ (default : Selector) with kind := 2, cls := 2 }] }

/-- A state of a package of one motif. -/
def oneMotif (s : State) : State := { s with fuses := { s.fuses with caps := { s.fuses.caps with motifs := 1 } } }

/-- A state with a pricking accepted. -/
def withPrk (s : State) : State := { s with prk := some { (default : Pricking) with own := onePart } }

theorem witness_QuotaSlots :
    (∃ s : State, s.power.running = true ∧ s.slotDue 6 0x10 = true ∧ s.hasMotif 7 = true ∧ s.ms.errs = [] ∧ s.populated 7 / 128 ≤ 2 ^ 32 ∧
      s.fld F.DRM_SCRUB_ST_NEXT 7 < s.populated 7 / 128) ∧
    (∃ s : State, s.power.running = true ∧ s.slotDue 6 0x11 = true ∧ s.hasMotif 0 = true ∧ s.flag F.ECU_CTL_PATROL_EN 0 = true ∧
      (∀ k, s.hasMotif k = true → k ≠ 0 → s.flag F.ECU_CTL_PATROL_EN k = false) ∧ s.fld F.ECU_PAT_ST_CHECKED 0 < s.fld F.ECU_PAT_ST_TOTAL 0 ∧
      (∀ p b, s.med.maps.band p = some b → ∀ x row, (s.goodMembers b x row []).length = b.k + b.m ∧
        encodeRow (((s.goodMembers b x row []).filter (fun g => decide (g.1 < b.k))).map (fun g => g.2)) b.m =
          ((s.goodMembers b x row []).filter (fun g => decide (b.k ≤ g.1))).map (fun g => g.2))) ∧
    (∃ s : State, s.power.running = true ∧ s.slotDue 6 0x12 = true ∧ s.scrubPages = []) ∧
    (∃ s : State, s.power.running = true ∧ s.slotDue 6 0x12 = true ∧ s.scrubPages ≠ []) ∧
    (∃ s : State, s.power.running = true ∧ s.slotDue 6 0x13 = true ∧ ∀ k < 64, s.targetOn k false = false) ∧
    (∃ (s : State) (n : Namespace), s.power.running = true ∧ s.slotDue 6 0x13 = true ∧ s.targetOn 63 false = true ∧ (∀ k < 64, k ≠ 63 → s.targetOn k false = false) ∧
      s.targetNs 63 = some n ∧ s.owns n.ground = true ∧ 2 ≤ (s.target 63).count) ∧
    (∃ s : State, s.power.running = true ∧ s.slotDue 6 0x15 = true) ∧
    (∃ s : State, s.power.running = true ∧ s.hasMotif 7 = true ∧ (∃ g ∈ s.activePart.grounds, s.owns g.ground = true ∧ s.groundNamed 2 g.ground = true ∧
      s.fld F.ECU_PAT_START_STITCH 7 + (if g.patrolDays = 0 then 14 else g.patrolDays) * 17280000000 ≤ s.num) ∧
      s.fld F.ECU_PAT_ST_CHECKED 7 < s.fld F.ECU_PAT_ST_TOTAL 7) := by
  refine ⟨⟨(withSlot State.reset 6 0x10 5).setFld F.DRM_ST_DIMM_GIB 128 7, by decide⟩, ⟨(oneMotif (withSlot State.reset 6 0x11 5)).setFld F.ECU_PAT_ST_TOTAL 9, by decide,
      by decide, by decide, by decide, fun k hk hn => ?_, by decide, fun p b h => nomatch (h : (none : Option Band) = some b)⟩, ⟨withSlot State.reset 6 0x12 5, by decide⟩,
    ⟨withBand ((withSlot State.reset 6 0x12 5).setFld F.CLM_GROUND_STATE 1) fullBand, by decide⟩, ⟨withSlot State.reset 6 0x13 5, by decide⟩,
    ⟨(((((withSlot State.reset 6 0x13 5).setFld F.RPL_TGT_CTL_EN 1 0 63).setFld F.RPL_TGT_CTL_NSID 1 0 63).setFld F.CLM_GROUND_STATE 1).modRpl
        (fun r => { r with targets := [(63, { (default : Target) with count := 2 })] })).modMed (fun d => { d with maps := { d.maps with namespaces := [{ (default : Namespace) with id := 1 }] } }),
      { (default : Namespace) with id := 1 }, by decide⟩, ⟨withSlot State.reset 6 0x15 5, by decide⟩,
    ⟨withPrk (((State.reset.setFld F.CLM_GROUND_STATE 1).setFld F.ECU_PAT_ST_TOTAL 9 7).setFld F.STC_NUM_NUM (14 * 17280000000)), by decide⟩⟩
  exact absurd (Nat.lt_one_iff.mp (of_decide_eq_true hk)) hn

theorem witness_CurrentSensing :
    (∃ (s : State) (pkg : List Nat) (lpm : List (Nat × Nat)), s.power.running = true ∧ s.slotDue 2 3 = true ∧ s.prk.isSome = true ∧ (∀ c ∈ pkg, c < 4096) ∧
      ∀ p ∈ lpm, p.1 < 4096 ∧ p.2 < 4096) ∧
    (∃ (c : ImonCh) (code gain : Nat), c.fault ≤ 2 ∧ 8 ≤ code ∧ code < 4088 ∧ gain ≠ 0 ∧ code = c.code ∧ 19 ≤ c.same) ∧
    (∃ (c : ImonCh) (code gain : Nat), c.fault ≤ 2 ∧ 8 ≤ code ∧ code < 4088 ∧ gain ≠ 0 ∧ code ≠ c.code) ∧
    (∃ (s : State), s.power.running = true ∧ s.hasMotif 7 = true ∧ s.imonGone 7 = true ∧ 7 < s.therm.force.length) :=
  ⟨⟨withPrk State.reset, [4095, 8], [(4095, 0)], by decide⟩, ⟨⟨4087, 19, 0, 0⟩, 4087, 1, by decide⟩, ⟨⟨4087, 19, 0, 2⟩, 8, 1, by decide⟩,
   ⟨(withPrk State.reset).modTherm (fun t => { t with lostRun := List.replicate 8 201 }), by decide⟩⟩

theorem witness_VaultBudget :
    (∃ s : State, s.power.running = true ∧ s.slotDue 3 4 = true ∧ s.inService = true ∧ s.areaDone s.med.vaultA = false ∧ s.areaDone s.med.vaultB = false ∧ s.quiet = true) ∧
    (∃ s : State, s.power.running = true ∧ s.slotDue 3 4 = true ∧ s.inService = false ∧ s.quiet = true) ∧
    (∃ s : State, 3 ≤ s.fld F.PWR_HU_ST_FAILS) ∧ (∃ s : State, s.fld F.PWR_HU_ST_FAILS < 3) ∧
    (∃ (e : Rat) (w fix : Nat), 0 < w ∧ e * 10 / 13 ≤ (w : Rat) * fix / 1000) :=
  ⟨⟨inMode 1, by decide⟩, ⟨State.reset, by decide⟩, ⟨State.reset.setFld F.PWR_HU_ST_FAILS 3, by decide⟩, ⟨State.reset, by decide⟩, ⟨0, 1, 0, by decide, by norm_num⟩⟩

theorem witness_ThermalModel : ∃ (s : State) (dimms : List (List Int)), s.power.running = true ∧ s.slotDue 4 5 = true ∧ s.quiet = true ∧ s.prk.isSome = true ∧ s.inletFresh = true ∧
    (∀ m, s.hasMotif m = true → m < 8 ∧ s.therm.lostRun.getD m 0 ≤ 200) ∧ s.mode ≠ 5 ∧ s.fld F.THM_ST_LEVEL = 0 ∧ s.therm.dimm = false ∧
    (∀ m, s.hasMotif m = true → ∀ x ∈ (dimms.getD m []).take 4, x < (s.fld F.DRM_CFG_TEMP_CRIT m : Int)) ∧
    tenths (s.atPhase 700).stepModel.hottest.2 < (s.fld F.THM_THRESH_WARN : Int) * 10 ∧ tenths (s.atPhase 700).stepModel.hottest.2 < (s.fld F.THM_THRESH_THROTTLE : Int) * 10 ∧
    tenths (s.atPhase 700).stepModel.hottest.2 < (s.shutdownC : Int) * 10 ∧ -32768 ≤ tenths (s.atPhase 700).stepModel.hottest.2 := by
  refine ⟨(withPrk (State.reset.setFld F.CPU_ST_RUNNING 256)).modTherm (fun t => { t with inletAt := some 0 }), [], by decide, by decide, by decide, by decide, by decide, fun m hm => ?_, by decide, by decide,
    by decide, fun m hm x hx => ?_, by decide +kernel, by decide +kernel, by decide +kernel, by decide +kernel⟩
  · exact (by decide : ∀ m < 8, m < 8 ∧ (State.reset.therm.lostRun.getD m 0 : Nat) ≤ 200) m (of_decide_eq_true hm)
  · simp at hx

theorem witness_ThermalLevels :
    (∃ s : State, s.power.running = true ∧ s.mode ≠ 5 ∧ s.fld F.THM_ST_LEVEL = 2 ∧ s.fld F.THM_CTL_GRACE_MS ≤ s.therm.grace ∧ (s.shutdownC : Int) * 10 ≤ s.tMax) ∧
    (∃ s : State, s.power.running = true ∧ s.mode ≠ 5 ∧ s.fld F.THM_ST_LEVEL = 2 ∧ s.fld F.THM_CTL_GRACE_MS ≤ s.therm.grace ∧ s.tMax < (s.shutdownC : Int) * 10 ∧
      (s.fld F.THM_THRESH_THROTTLE : Int) * 10 - 50 ≤ s.tMax) ∧
    (∃ s : State, s.power.running = true ∧ s.mode ≠ 5 ∧ s.fld F.THM_ST_LEVEL = 2 ∧ s.fld F.THM_CTL_GRACE_MS ≤ s.therm.grace ∧ s.tMax < (s.shutdownC : Int) * 10 ∧
      s.tMax < (s.fld F.THM_THRESH_THROTTLE : Int) * 10 - 50 ∧ s.therm.dimm = false) ∧
    (∃ s : State, s.power.running = true ∧ s.mode ≠ 5 ∧ s.tMax < (s.shutdownC : Int) * 10 ∧ s.fld F.THM_ST_LEVEL ≤ 1 ∧ s.therm.dimm = true) ∧
    (∃ s : State, s.power.running = true ∧ s.mode ≠ 5 ∧ s.tMax < (s.shutdownC : Int) * 10 ∧ s.fld F.THM_ST_LEVEL ≤ 1 ∧ s.tMax < (s.fld F.THM_THRESH_THROTTLE : Int) * 10 ∧
      s.therm.dimm = false ∧ (s.fld F.THM_THRESH_WARN : Int) * 10 ≤ s.tMax) ∧
    (∃ s : State, s.power.running = true ∧ s.mode ≠ 5 ∧ s.tMax < (s.shutdownC : Int) * 10 ∧ s.fld F.THM_ST_LEVEL ≤ 1 ∧ s.tMax < (s.fld F.THM_THRESH_THROTTLE : Int) * 10 ∧
      s.therm.dimm = false ∧ s.tMax < (s.fld F.THM_THRESH_WARN : Int) * 10 - 50) ∧
    (∃ s : State, s.power.running = true ∧ s.mode ≠ 5 ∧ s.fld F.THM_ST_LEVEL = 3) ∧
    (∃ s : State, s.power.running = true ∧ s.mode ≠ 5 ∧ s.inletFresh = false) :=
  let s2 := (State.reset.setFld F.THM_ST_LEVEL 2).modTherm (fun t => { t with grace := 65535 })
  let th := State.reset.fld F.THM_THRESH_THROTTLE * 10
  let w := State.reset.fld F.THM_THRESH_WARN * 10
  ⟨⟨s2.setFld F.THM_ST_T_MAX 1180, by decide⟩, ⟨s2.setFld F.THM_ST_T_MAX (th - 50), by decide⟩, ⟨s2.setFld F.THM_ST_T_MAX (th - 51), by decide⟩,
   ⟨State.reset.modTherm (fun t => { t with dimm := true }), by decide⟩, ⟨State.reset.setFld F.THM_ST_T_MAX w, by decide⟩, ⟨State.reset.setFld F.THM_ST_T_MAX (w - 51), by decide⟩,
   ⟨State.reset.setFld F.THM_ST_LEVEL 3, by decide⟩, ⟨State.reset, by decide⟩⟩

theorem witness_ResetFields : ∃ f ∈ Reg.PKG_MODE.spec.fields, f.letters.has .powerOn = true := by decide +kernel

theorem witness_PackageResets :
    (∃ s : State, s.power.running = true ∧ s.power.testMode = true) ∧ (∃ s : State, s.power.running = true ∧ s.power.testMode = false ∧ s.mode ≠ 5) ∧
    (∃ s : State, s.power.running = true ∧ s.mode = 5) ∧ (∃ (s : State) (v : Nat), s.power.running = true ∧ bits v 31 24 ≠ 0xA5) :=
  ⟨⟨State.reset.modPower (fun p => { p with testMode := true }), by decide⟩, ⟨State.reset, by decide⟩, ⟨inMode 5, by decide⟩, ⟨State.reset, 0, by decide⟩⟩

theorem witness_MotifResetAndBringup :
    (∃ s : State, s.power.running = true ∧ s.mode ≠ 5 ∧ s.hasMotif 7 = true ∧ s.flag F.PKG_WIND_STOPPED = true) ∧
    (∃ s : State, s.power.running = true ∧ s.mode ≠ 5 ∧ s.flag F.PKG_WIND_STOPPED = false) ∧
    (∃ s : State, s.power.running = true ∧ s.mode ≠ 5 ∧ s.inStep 7 = true) ∧
    (∃ s : State, s.power.running = true ∧ s.mode ≠ 5 ∧ s.inStep 8 = true ∧ s.hasMotif 7 = true ∧ ([] : List (Option DimmInfo)).getD 7 none = none) ∧
    (∃ (s : State) (dimms : List (Option DimmInfo)) (d : DimmInfo), s.power.running = true ∧ s.mode ≠ 5 ∧ s.inStep 8 = true ∧ 16 ≤ d.gib ∧ d.gib ≤ 128 ∧ 0 < s.fuses.caps.motifs ∧
      ∀ n, s.hasMotif n = true → dimms.getD n none = some d) := by
  refine ⟨⟨State.reset.setFld F.PKG_WIND_STOPPED 1, by decide⟩, ⟨State.reset, by decide⟩, ⟨atStep 7, by decide⟩, ⟨atStep 8, by decide⟩,
    ⟨atStep 8, List.replicate 8 (some ⟨16, 1, 3, false⟩), ⟨16, 1, 3, false⟩, by decide, by decide, by decide, by decide, by decide, by decide, fun n hn => ?_⟩⟩
  exact (by decide : ∀ n < 8, (List.replicate 8 (some (⟨16, 1, 3, false⟩ : DimmInfo))).getD n none = some ⟨16, 1, 3, false⟩) n (of_decide_eq_true hn)

theorem witness_WindingSteps2To6 :
    (∃ s : State, s.power.running = true ∧ s.inStep 2 = true ∧ s.fuses.crcOk = true ∧ s.fuses.factorsOk = true ∧ s.fuses.caps.motifs ≤ 8) ∧
    (∃ s : State, s.power.running = true ∧ s.inStep 2 = true ∧ s.fuses.crcOk = false) ∧ (∃ s : State, s.power.running = true ∧ s.inStep 3 = true) ∧
    (∃ s : State, s.power.running = true ∧ s.inStep 4 = true ∧ s.currentBlock.isSome = true ∧ s.bootBlock.next < 2) ∧
    (∃ s : State, s.power.running = true ∧ s.inStep 5 = true) ∧ (∃ s : State, s.power.running = true ∧ s.inStep 6 = true ∧ s.bootBlock.trial = false) ∧
    (∃ s : State, s.power.running = true ∧ s.inStep 2 = false ∧ s.inStep 3 = false ∧ s.inStep 4 = false ∧ s.inStep 5 = false ∧ s.inStep 6 = false) :=
  ⟨⟨atStep 2, by decide +kernel⟩, ⟨{ atStep 2 with fuses := { Fuses.unit with crcOk := false } }, by decide⟩, ⟨atStep 3, by decide⟩,
   ⟨(atStep 4).flashProgram 0 BootBlock.first.bytes, by decide +kernel⟩, ⟨atStep 5, by decide⟩, ⟨atStep 6, by decide +kernel⟩, ⟨atStep 7, by decide⟩⟩

theorem witness_WindingSteps9To14 :
    (∃ s : State, s.power.running = true ∧ s.inStep 9 = true) ∧
    (∃ s : State, s.power.running = true ∧ s.inStep 10 = true ∧ s.partnerInService = false ∧ s.flag F.STC_ST_SRC_VALID = true) ∧
    (∃ s : State, s.power.running = true ∧ s.inStep 11 = true) ∧
    (∃ s : State, s.power.running = true ∧ s.inStep 12 = true ∧ s.fuses.caps.optE = true ∧ s.flag F.CIP_KEK_CTL_KEYS_DONE = false) ∧
    (∃ s : State, s.power.running = true ∧ s.inStep 12 = true ∧ s.flag F.CIP_KEK_CTL_KEYS_DONE = true ∧ s.hasPartner = false ∧ s.groundList = []) ∧
    (∃ s : State, s.power.running = true ∧ s.inStep 13 = true ∧ s.hasPartner = false) ∧ (∃ s : State, s.power.running = true ∧ s.inStep 14 = true ∧ s.hasPartner = false) ∧
    (∃ (s : State) (x : TrainId), s.power.running = true ∧ s.flag F.PRK_PAIR_ST_PRIOR_ACTIVE = true ∧ s.pair.partnerId = some x ∧ x.pairHash = s.pairHashes.1 ∧
      s.num = s.fld F.BRD_NAMED_STITCH) :=
  ⟨⟨atStep 9, by decide⟩, ⟨(atStep 10).setFld F.STC_ST_SRC_VALID 1, by decide⟩, ⟨atStep 11, by decide⟩, ⟨atStep 12, by decide⟩,
   ⟨(atStep 12).setFld F.CIP_KEK_CTL_KEYS_DONE 1, by decide⟩, ⟨atStep 13, by decide⟩, ⟨atStep 14, by decide⟩,
   ⟨((withPrk State.reset).setFld F.PRK_PAIR_ST_PRIOR_ACTIVE 1).modPair (fun p => { p with partnerId := some default }), default, by decide⟩⟩

theorem witness_BrideLanes :
    (∃ (s : State) (pass : List Nat), s.power.running = true ∧ s.motifs.length ≤ s.pair.groups.length ∧ s.flag F.BRD_ST_LINK_UP = false ∧ s.inService = true ∧ s.txOff = false ∧
      s.trainable pass ≠ []) ∧
    (∃ s : State, s.power.running = true ∧ s.motifs.length ≤ s.pair.groups.length ∧ s.groupUp 0 = true ∧ bit (s.group 0).lanes 7 = true) ∧
    (∃ s : State, s.power.running = true ∧ s.motifs.length ≤ s.pair.groups.length ∧ s.groupUp 1 = false ∧ s.inService = false) ∧
    (∃ (s : State) (v : Nat), s.power.running = true ∧ s.motifs.length ≤ s.pair.groups.length ∧ bits v F.BRD_CTL_RETRAIN.hi F.BRD_CTL_RETRAIN.lo = 0 ∧ s.fld F.BRD_CTL_RETRAIN = 0) ∧
    (∃ s : State, s.power.running = true ∧ s.motifs.length ≤ s.pair.groups.length ∧ s.flag F.BRD_ST_LINK_UP = true ∧ s.upGroups = [] ∧ s.flag F.BRD_ST_HALIVE_IN = false) ∧
    (∃ s : State, s.power.running = true ∧ s.motifs.length ≤ s.pair.groups.length ∧ s.flag F.BRD_ST_LINK_UP = true ∧ s.upGroups = [] ∧ s.flag F.BRD_ST_HALIVE_IN = true ∧
      s.mode = 1 ∧ s.quiet = true) :=
  ⟨⟨(({ inMode 1 with txOff := false } : State).setFld F.BRD_CTL_GROUP_EN 255), [255], by decide⟩, ⟨linked State.reset, by decide⟩, ⟨State.reset, by decide⟩, ⟨State.reset, 0, by decide⟩,
   ⟨(State.reset.setFld F.BRD_ST_LINK_UP 1).setFld F.BRD_ST_HALIVE_IN 0, by decide⟩, ⟨((inMode 1).setFld F.BRD_ST_LINK_UP 1).setFld F.BRD_ST_HALIVE_IN 1, by decide⟩⟩

theorem witness_Pairing :
    (∃ s : State, s.power.running = true ∧ s.inStep 9 = false ∧ s.inService = false) ∧
    (∃ s : State, s.power.running = true ∧ s.inStep 9 = true ∧ s.inOrder nextHdr = true ∧ s.quiet = true ∧ s.fld F.BRD_ST_STATE = 2) ∧
    (∃ s : State, s.power.running = true ∧ s.inService = true ∧ s.inOrder nextHdr = true ∧ s.quiet = true ∧ s.fld F.BRD_ST_STATE = 2) :=
  ⟨⟨State.reset, by decide⟩, ⟨linked ((atStep 9).setFld F.BRD_ST_STATE 2), by decide⟩, ⟨linked ((inMode 2).setFld F.BRD_ST_STATE 2), by decide⟩⟩

theorem witness_BrideFrames :
    (∃ (s : State) (f : MirrorFrame), s.power.running = true ∧ s.groupUp 0 = true ∧ s.txOff = false ∧ 0 < s.pair.groups.length ∧ (s.group 0).waiting = [] ∧ s.quiet = true ∧
      s.inOrder nextHdr = true ∧ s.owns f.ground = false ∧ f.journal = false ∧ f.atomic = false) ∧
    (∃ (s : State) (h : BrideHdr), s.power.running = true ∧ s.groupUp h.group = true ∧ s.txOff = false ∧ h.group < s.pair.groups.length ∧ h.seq ≠ (s.group h.group).rxSeq + 1 ∧ s.quiet = true) :=
  ⟨⟨linked State.reset, default, by decide⟩, ⟨linked State.reset, ⟨0, 2, 0⟩, by decide⟩⟩

theorem witness_RecordsReceived :
    (∃ (s : State) (r : Record), s.power.running = true ∧ s.inOrder nextHdr = true ∧ s.quiet = true ∧ s.paired = true ∧ s.mode = 1 ∧ r.mode = 1 ∧ r.parts = 1 ∧ r.entries = [] ∧
      r.rethread = false) ∧
    (∃ s : State, s.power.running = true ∧ 300 < s.stc.phase) ∧
    (∃ s : State, s.power.running = true ∧ s.mode ≠ 4 ∧ s.mode ≠ 5 ∧ s.stc.phase ≤ 300 ∧ s.pair.gotStitch ≠ some s.num ∧ s.fld F.BRD_ST_MISS_RUN = 0) ∧
    (∃ s : State, s.power.running = true ∧ s.mode = 1 ∧ s.stc.phase ≤ 300 ∧ s.pair.gotStitch ≠ some s.num ∧ 1 ≤ s.fld F.BRD_ST_MISS_RUN ∧ s.flag F.BRD_ST_HALIVE_IN = true ∧ s.quiet = true) ∧
    (∃ s : State, s.power.running = true ∧ s.mode = 1 ∧ s.stc.phase ≤ 300 ∧ s.pair.gotStitch ≠ some s.num ∧ 1 ≤ s.fld F.BRD_ST_MISS_RUN ∧ s.flag F.BRD_ST_HALIVE_IN = false ∧
      s.pair.last.isSome = true ∧ s.quiet = true ∧ s.standbyGrounds = []) :=
  let m := (inMode 1).setFld F.BRD_ST_MISS_RUN 1
  ⟨⟨linked ((inMode 1).setFld F.BRD_ST_STATE 3), { (default : Record) with mode := 1, parts := 1 }, by decide⟩, ⟨State.reset.modStc (fun c => { c with phase := 301 }), by decide⟩,
   ⟨State.reset.modStc (fun c => { c with phase := 300 }), by decide⟩, ⟨m.setFld F.BRD_ST_HALIVE_IN 1, by decide⟩,
   ⟨(m.setFld F.BRD_ST_HALIVE_IN 0).modPair (fun p => { p with last := some default }), by decide +kernel⟩⟩

theorem witness_HandingOver :
    (∃ s : State, s.power.running = true ∧ s.inLockSet .CLM_HANDOVER 0 0 = false ∧ s.pair.handing.isSome = true) ∧
    (∃ s : State, s.power.running = true ∧ s.inLockSet .CLM_HANDOVER 0 0 = false ∧ s.pair.handing = none ∧ s.pair.handQueue = [] ∧ s.mode ≠ 1) ∧
    (∃ s : State, s.power.running = true ∧ s.pair.handing = none ∧ s.pair.handQueue = [] ∧ s.mode = 1 ∧ s.groundState 255 = 1 ∧ s.upGroups = []) ∧
    (∃ s : State, s.power.running = true ∧ s.pair.handing = none ∧ s.pair.handQueue = [] ∧ s.mode = 1 ∧ s.groundState 255 = 1 ∧ s.upGroups ≠ [] ∧ s.quiet = true) ∧
    (∃ s : State, s.power.running = true ∧ s.pair.handing = some 255 ∧ s.pair.asked = false ∧ s.groundState 255 = 3 ∧ s.upGroups = [0] ∧ 0 < s.pair.groups.length ∧
      s.mirrorsAcked 255 = true ∧ s.mode ≠ 3 ∧ s.txOff = false ∧ (s.group 0).mayCarry (.handover 255 1 (s.claimOf 255) (s.handEntries 255)) = true) ∧
    (∃ s : State, s.power.running = true ∧ s.pair.handing = some 0 ∧ s.groundState 0 = 3 ∧ s.upGroups = [] ∧ s.moduleClaim 0 ≤ s.claimOf 0 ∧ s.quiet = true ∧ s.pair.handWhy = 1) ∧
    (∃ s : State, s.power.running = true ∧ s.mode = 3 ∧ s.allHanded = true ∧ s.quiet = true) ∧
    (∃ s : State, s.power.running = true ∧ s.mode = 0 ∧ s.fld F.PKG_MODE_WIND_KIND = 2) :=
  let own := (inMode 1).setFld F.CLM_GROUND_STATE 1 0 255
  ⟨⟨State.reset.modPair (fun p => { p with handing := some 1 }), by decide⟩, ⟨State.reset, by decide⟩, ⟨own, by decide⟩, ⟨linked own, by decide⟩,
   ⟨(linked (State.reset.setFld F.CLM_GROUND_STATE 3 0 255)).modPair (fun p => { p with handing := some 255 }), by decide⟩,
   ⟨(State.reset.setFld F.CLM_GROUND_STATE 3).modPair (fun p => { p with handing := some 0, handWhy := 1 }), by decide⟩, ⟨inMode 3, by decide +kernel⟩,
   ⟨State.reset.setFld F.PKG_MODE_WIND_KIND 2, by decide⟩⟩

theorem witness_ReceivingGrounds :
    (∃ s : State, s.power.running = true ∧ s.inOrder nextHdr = true ∧ s.groundState 255 ≠ 2 ∧ s.pair.handing ≠ some 255) ∧
    (∃ s : State, s.power.running = true ∧ s.inOrder nextHdr = true ∧ s.groundState 255 = 2) ∧
    (∃ s : State, s.power.running = true ∧ s.inOrder nextHdr = true ∧ s.pair.handing = some 0 ∧ s.groundState 0 = 3 ∧ s.pair.handWhy = 1 ∧ s.pair.handQueue = []) ∧
    (∃ s : State, s.power.running = true ∧ s.inOrder nextHdr = true ∧ s.groundState 0 = 1 ∧ s.quiet = true) ∧
    (∃ s : State, s.power.running = true ∧ s.inOrder nextHdr = true ∧ ∀ m ∈ s.bob.modules, s.modUsable m.idx = false) ∧
    (∃ s : State, s.power.running = true ∧ s.inOrder nextHdr = true ∧ s.inStep 13 = true ∧ s.backlog = 0 ∧ s.pair.named = none ∧ s.hasPartner = true ∧ s.partnerInService = true ∧
      s.num + 2 < 2 ^ 64) ∧
    (∃ s : State, s.power.running = true ∧ s.inOrder nextHdr = true ∧ s.backlog ≠ 0) ∧
    (∃ s : State, s.power.running = true ∧ s.inOrder nextHdr = true ∧ s.pair.named = some 0 ∧ 0 ≤ s.num ∧ s.mode = 2 ∧ s.quiet = true ∧ ∀ x ∈ s.groundList, s.homeOf x = s.headId) :=
  ⟨⟨linked State.reset, by decide⟩, ⟨linked (State.reset.setFld F.CLM_GROUND_STATE 2 0 255), by decide⟩,
   ⟨(linked (State.reset.setFld F.CLM_GROUND_STATE 3)).modPair (fun p => { p with handing := some 0, handWhy := 1 }), by decide⟩, ⟨linked (State.reset.setFld F.CLM_GROUND_STATE 1), by decide⟩,
   ⟨linked State.reset, by decide⟩,
   ⟨(linked ((atStep 13).setFld F.BRD_ST_STATE 4)).modPair (fun p => { p with last := some { (default : Record) with mode := 2 } }), by decide⟩,
   ⟨(linked State.reset).modPair (fun p => { p with groups := { upGroup with unacked := [(1, .resync default)] } :: p.groups.drop 1 }), by decide⟩,
   ⟨(linked (inMode 2)).modPair (fun p => { p with named := some 0 }), by decide⟩⟩

/-- A write of one atom that waits. -/
def oneWrite : Write := { (default : Write) with id := 1, src := .rdma 1 1, count := 1 }

/-- A state in Solo that admits writes, with one write in its list. -/
def admitting (w : Write) : State :=
  (((((inMode 2).setFld F.PKG_MODE_ADMIT 1).setFld F.MED_VAULT_ST_READY_A 1).setFld F.PKG_ADMIT_LIM_BUDGET_MIB 100).setFld F.MED_STG_CTL_LIMIT_MIB 16).modDp (fun d => { d with writes := [w] })

theorem witness_AdmissionLimits :
    (∃ s : State, s.mode = 1 ∧ s.dp.partnerLimit = 0) ∧ (∃ s : State, s.mode = 2 ∧ s.dp.held ≤ 256 * s.budget) ∧ (∃ s : State, s.mode ≠ 1 ∧ s.mode ≠ 2 ∧ s.mode ≠ 3) ∧
    (∃ (s : State) (w : Write), s.firstWaitingWrite = some w) ∧ (∃ s : State, s.firstWaitingWrite = none) :=
  ⟨⟨inMode 1, by decide⟩, ⟨inMode 2, by decide⟩, ⟨inMode 4, by decide⟩, ⟨admitting oneWrite, oneWrite, by decide⟩, ⟨State.reset, by decide⟩⟩

theorem witness_WriteAdmission :
    (∃ (s : State) (w : Write), s.power.running = true ∧ s.dp.writes = [w] ∧ w.state = 0 ∧ w.src = .rdma 1 1 ∧ s.canAdmit w = true ∧ w.dealloc = false) ∧
    (∃ (s : State) (w : Write), s.power.running = true ∧ s.dp.writes = [w] ∧ w.state = 0 ∧ w.src = .rdma 1 1 ∧ s.canAdmit w = false) :=
  ⟨⟨admitting oneWrite, oneWrite, by decide +kernel⟩, ⟨State.reset.modDp (fun d => { d with writes := [oneWrite] }), oneWrite, by decide⟩⟩

/-- A module that serves its queues. -/
def oneModule (i : Nat) : Module :=
  { (default : Module) with idx := i, en := true, ready := true, linkUp := true, posted := [0, 0, 0, 0, 0], tails := [0, 0, 0, 0, 0], qen := true, sizeLog2 := 8, freed := [0, 0, 0, 0, 0],
                            heads := [0, 0, 0, 0, 0], info := { (default : ModInfo) with port := i, luns := 2, blocks := 4, pages := 8, maxRetry := 7 } }

/-- A state with modules 0 and 1 in role DATA, of failure domains 0 and 1. -/
def withModules (s : State) : State :=
  (((s.setFld F.ECU_MOD_ROLE 1).setFld F.ECU_MOD_ROLE 1 0 1).setFld F.ECU_MOD_FD 1 0 1).modBob (fun b => { b with modules := [oneModule 0, oneModule 1] })

/-- An admitted write of one atom. -/
def oneHeld : Write := { (default : Write) with id := 1, count := 1, state := 1, src := .internal }

/-- A state in Solo with that write and its atom. -/
def holding (a : BufAtom) : State := (inMode 2).modDp (fun d => { d with writes := [oneHeld], atoms := [{ a with writeId := 1 }] })

theorem witness_AtomStates :
    (∃ (s : State) (w : Write) (a : BufAtom) (n : Namespace), s.power.running = true ∧ s.write? 1 = some w ∧ s.ns w.ns = some n ∧ n.pi = false ∧ s.dp.atoms = [a] ∧ a.writeId = 1 ∧
      a.placed = false ∧ a.state = .reserved) ∧
    (∃ (s : State) (w : Write) (a : BufAtom), s.power.running = true ∧ s.mode = 2 ∧ s.write? 1 = some w ∧ s.dp.atoms = [a] ∧ a.writeId = 1 ∧ a.placed = true ∧ a.state = .landing ∧
      a.staged = false ∧ (s.atomsOf 1).find? (fun a => a.atom == 0) = some a ∧ s.stageable 1 0 a = true ∧ s.ns a.ns = none) ∧
    (∃ (s : State) (x y : Module) (p q : BlockId × Nat), s.twoModules 0 = some (x, y) ∧ (s.sysPlace 3 0 0 x).2 = some p ∧ ((s.sysPlace 3 0 0 x).1.sysPlace 3 0 0 y).2 = some q) ∧
    (∃ (s : State) (w : Write), s.power.running = true ∧ s.meetsRule w = true ∧ s.orderOk w = true) ∧
    (∃ (s : State) (e : StageEnt), s.power.running = true ∧ s.med.staging.find? (fun e => e.writeId == 1 && e.atom == 0 && !e.obsolete) = some e ∧ 0 ∈ e.copies ∧ 1 ∈ e.copies) ∧
    (∃ (s : State) (b : BlockId), s.power.running = true ∧ (s.descOf b).use = 3 ∧ (∀ e ∈ s.entriesIn b, e.obsolete = true) ∧ s.owns (s.descOf b).ground = true) := by
  let stg : MediaSt → MediaSt := fun m => { m with maps := (m.maps.setBlock ⟨0, 0, 0⟩ { (default : BlockDesc) with use := 3 }).setBlock ⟨1, 0, 0⟩ { (default : BlockDesc) with use := 3 }, sysNext := [(⟨0, 0, 0⟩, 0), (⟨1, 0, 0⟩, 0)] }
  refine ⟨⟨(holding default).modMed (fun d => { d with maps := { d.maps with namespaces := [default] } }), oneHeld, { (default : BufAtom) with writeId := 1, state := .reserved }, default, by decide⟩,
    ⟨holding { (default : BufAtom) with placed := true, state := .landing }, oneHeld, { (default : BufAtom) with writeId := 1, placed := true, state := .landing }, by decide⟩,
    ⟨(withModules State.reset).modMed stg, oneModule 0, oneModule 1, (⟨0, 0, 0⟩, 0), (⟨1, 0, 0⟩, 0), by decide +kernel⟩,
    ⟨holding { (default : BufAtom) with placed := true, staged := true, state := .landed }, oneHeld, by decide⟩,
    ⟨(holding default).modMed (fun d => { d with staging := [{ (default : StageEnt) with writeId := 1, copies := [0, 1] }] }), { (default : StageEnt) with writeId := 1, copies := [0, 1] }, by decide⟩,
    ⟨(State.reset.setFld F.CLM_GROUND_STATE 1).modMed stg, ⟨0, 0, 0⟩, by decide⟩⟩

/-- A transaction that is in the journal and that a frame carried. -/
def oneTxn : Txn := { id := 1, ground := 0, motif := 0, recs := [], early := true, sent := true, stitch := 0, span := (0, 0), durable := false, mirrored := true, fin := .plain }

theorem witness_JournalAndStripes :
    (∃ (s : State) (x : Txn), s.power.running = true ∧ s.txn 1 = some x ∧ x.sent = true ∧ x.durable = false ∧ s.firstUndurable x = true ∧ x.span.2 ≤ s.flushed x.ground x.motif) ∧
    (∃ (s : State) (x : Txn), s.power.running = true ∧ s.txn 1 = some x ∧ x.sent = true ∧ x.durable = false ∧ s.firstUndurable x = true ∧ x.mirrored = true ∧ s.journalAcked 1 = true) ∧
    (∃ s : State, s.power.running = true ∧ s.txn 1 = none ∧ s.inService = false) ∧
    (∃ s : State, s.power.running = true ∧ s.inService = true ∧ s.hasMotif 7 = true ∧ Sparse.get 0 s.med.passes 7 + max 200000 (s.fld F.MED_CKPT_CTL_PASS 7) ≤ s.num) ∧
    (∃ s : State, s.power.running = true ∧ s.fuses.caps.optE = true ∧ s.hasMotif 7 = true ∧ 0xC0000000 ≤ s.genCounter 7 7 % 2 ^ 32 ∧
      s.genCounter 7 7 / 2 ^ 32 + 1 = s.fld F.CIP_GEN_HWM_BLOCK 7 7 ∧ s.fld F.CIP_GEN_HWM_BLOCK 7 7 + 1 < 2 ^ 48) ∧
    (∃ s : State, s.power.running = true ∧ s.genCounter 0 0 % 2 ^ 32 < 0xC0000000) ∧
    (∃ (s : State) (j : StripeJob) (b : Band), s.power.running = true ∧ s.med.stripes.find? (fun j => j.band == 1 && j.stripe == 0) = some j ∧ s.med.maps.band 1 = some b ∧ j.left = 0 ∧
      j.failed = false) ∧
    (∃ (s : State) (e : Stream) (b : Band), s.power.running = true ∧ s.stream 0 0 false = some e ∧ s.med.maps.band e.band = some b ∧ e.fill ≠ [] ∧
      e.since + max 1 (s.fld F.ECU_CTL_PAD_AGE 0) ≤ s.num) :=
  ⟨⟨State.reset.modMed (fun d => { d with txns := [oneTxn] }), oneTxn, by decide⟩, ⟨State.reset.modMed (fun d => { d with txns := [oneTxn] }), oneTxn, by decide⟩, ⟨State.reset, by decide⟩,
   ⟨(inMode 1).setFld F.STC_NUM_NUM (2 ^ 40), by decide⟩,
   ⟨(State.reset.modCip (fun c => { c with gens := [(63, 0xC0000000)] })).setFld F.CIP_GEN_HWM_BLOCK 1 7 7, by decide⟩, ⟨State.reset, by decide⟩,
   ⟨(withBand State.reset fullBand).modMed (fun d => { d with stripes := [{ (default : StripeJob) with band := 1 }] }), { (default : StripeJob) with band := 1 }, fullBand, by decide⟩,
   ⟨((withBand State.reset fullBand).modMed (fun d => { d with streams := [{ (default : Stream) with band := 1, fill := [1] }] })).setFld F.STC_NUM_NUM (2 ^ 40),
     { (default : Stream) with band := 1, fill := [1] }, fullBand, by decide⟩⟩

theorem witness_KeySlots :
    (∃ s : State, s.power.running = true ∧ s.fuses.caps.optE = true ∧ bits 1 0 0 = 1 ∧ s.flag F.CIP_SLOT_CMD_BUSY = false) ∧
    (∃ s : State, s.power.running = true ∧ s.fuses.caps.optE = true ∧ bits 4 0 0 = 0 ∧ bits 4 2 2 = 1 ∧ s.fld F.CIP_KEK_CTL_LOAD = 0) ∧
    (∃ s : State, s.power.running = true ∧ s.fuses.caps.optE = true ∧ s.flag F.CIP_SLOT_CMD_BUSY = false ∧ s.inLockSet .CIP_SLOT_CMD 0 0 = false ∧ s.fld F.CIP_KEK_CTL_LOAD = 0 ∧
      s.fld F.CIP_SLOT_ST_STATE 0 4095 = 1) ∧
    (∃ s : State, s.power.running = true ∧ s.fuses.caps.optE = true ∧ s.flag F.CIP_SLOT_CMD_BUSY = false ∧ s.inLockSet .CIP_SLOT_CMD 0 0 = false ∧ s.fld F.CIP_KEK_CTL_LOAD = 0 ∧
      s.fld F.CIP_SLOT_ST_STATE 0 0 = 0 ∧ s.cip.kek = none) ∧
    (∃ (s : State) (k : Bytes), s.power.running = true ∧ s.fld F.CIP_SLOT_ST_STATE 0 0 = 0 ∧ s.cip.kek = some k) ∧
    (∃ s : State, s.power.running = true ∧ s.fuses.caps.optE = true ∧ s.flag F.CIP_SLOT_CMD_BUSY = true) ∧
    (∃ s : State, s.power.running = true ∧ s.fuses.caps.optE = true ∧ s.fld F.CIP_SLOT_ST_STATE 0 4095 = 2 ∧ s.fld F.CIP_SLOT_ST_USE 0 4095 = 0) :=
  ⟨⟨State.reset, by decide⟩, ⟨State.reset, by decide⟩, ⟨State.reset.setFld F.CIP_SLOT_ST_STATE 1 0 4095, by decide⟩, ⟨State.reset, by decide⟩,
   ⟨State.reset.modCip (fun c => { c with kek := some [] }), [], by decide⟩, ⟨State.reset.setFld F.CIP_SLOT_CMD_BUSY 1, by decide⟩, ⟨State.reset.setFld F.CIP_SLOT_ST_STATE 2 0 4095, by decide⟩⟩

theorem witness_LaneTests :
    (∃ (s : State) (v : Nat), s.power.running = true ∧ s.fuses.caps.optE = true ∧ s.hasMotif 7 = true ∧ true = decide (64 ≤ 95) ∧ bit v (95 % 64) = true ∧ bit (s.fenced 7) 95 = true ∧
      Sparse.get 0 s.cip.fences (96 * 7 + 95) < 3) ∧
    (∃ s : State, s.power.running = true ∧ 96 * 0 + 0 ∈ s.cip.tests) ∧ (∃ s : State, s.power.running = true ∧ 96 * 0 + 0 ∉ s.cip.tests) :=
  ⟨⟨State.reset.setFld F.CIP_FENCE_HI_LANE (2 ^ 31) 7, 2 ^ 31, by decide⟩, ⟨State.reset.modCip (fun c => { c with tests := [0] }), by decide⟩, ⟨State.reset, by decide⟩⟩

/-- A state with one job of an engine on motif 0, bound to a unit. -/
def withJob (k : EngKind) (done : Bool) : State := State.reset.modEng (fun e => { e with jobs := [{ (default : EngJob) with kind := k, unit := some 0, done := done }] })

theorem witness_CompressionJobs :
    (∃ s : State, s.power.running = true ∧ s.hasMotif 7 = true ∧ s.flag F.MTF_CJQ_CTL_EN 7 = false ∧ s.inLockSet .MTF_CJQ_TAIL 7 0 = false) ∧
    (∃ (s : State) (v : Nat), s.power.running = true ∧ s.hasMotif 0 = true ∧ s.flag F.MTF_CJQ_CTL_EN 0 = true ∧ s.inLockSet .MTF_CJQ_TAIL 0 0 = false ∧ s.eng.jobs = [] ∧ s.eng.ended = [] ∧
      s.ringHead false 0 < s.ringSize false 0 ∧ v = (s.ringHead false 0 + 1) % s.ringSize false 0 ∧ v < 4096) ∧
    (∃ (s : State) (j : EngJob), s.power.running = true ∧ s.runningJob false 0 0 = some j ∧ j.kind = .cmp) ∧
    (∃ (s : State) (j : EngJob), s.power.running = true ∧ s.runningJob false 0 0 = some j ∧ j.kind = .dcmp) ∧
    (∃ (s : State) (j : EngJob), s.power.running = true ∧ (s.jobsOf .cmp 0).find? (fun j => j.done && j.unit.isSome) = some j) ∧
    (∃ (s : State) (j : EngJob), j ∈ s.eng.jobs ∧ j.kind ≠ .dig ∧ s.eng.ended = [] ∧ j.idx = s.ringHead false j.motif) :=
  ⟨⟨State.reset, by decide⟩, ⟨State.reset.setFld F.MTF_CJQ_CTL_EN 1, _, by decide, by decide, by decide, by decide, by decide, by decide, by decide, rfl, by decide⟩,
   ⟨withJob .cmp false, _, by decide, rfl, by decide⟩, ⟨withJob .dcmp false, _, by decide, rfl, by decide⟩, ⟨withJob .cmp true, _, by decide, rfl⟩,
   ⟨withJob .cmp false, { (default : EngJob) with kind := .cmp, unit := some 0 }, by decide⟩⟩

theorem witness_DigestJobs :
    (∃ s : State, s.power.running = true ∧ s.hasMotif 7 = true ∧ s.flag F.DIG_JQ_CTL_EN 7 = false ∧ s.inLockSet .DIG_JQ_TAIL 7 0 = false) ∧
    (∃ (s : State) (j : EngJob) (d : Bytes), s.power.running = true ∧ s.runningJob true 0 0 = some j ∧ d = j.desc ∧ byteAt d 0 ≠ 2 ∧ byteAt d 0 ≠ 3) :=
  ⟨⟨State.reset, by decide⟩, ⟨withJob .dig false, _, _, by decide, rfl, rfl, by decide +kernel⟩⟩

/-- A compression descriptor of 4 KiB from one place of the service SRAM to another, and a digest descriptor of 16 bytes there. -/
def cmpDesc (op body : Nat) : Bytes := bytesOf [op, 0, 0, 0] ++ leBytes 2 4096 ++ leBytes 2 body ++ leBytes 8 0x10000000 ++ leBytes 8 0x10004000 ++ zeros 8

/-- See `cmpDesc`. -/
def digDesc (op b1 mr : Nat) : Bytes := bytesOf [op, b1, 0, mr] ++ zeros 4 ++ leBytes 8 16 ++ leBytes 8 16 ++ leBytes 8 0x10000000 ++ zeros 32

theorem witness_JobsThatRun :
    (∃ (s : State) (j : EngJob), cmpDescOk j.desc = true ∧ s.fuses.caps.optC = true ∧ s.reachesAll (.engine j.cls) true (leAt j.desc 0x10 8) (leAt j.desc 4 2 + 16) = true ∧
      (s.engineRead j.cls (leAt j.desc 8 8) (leAt j.desc 4 2)).2.isOk = true) ∧
    (∃ (s : State) (j : EngJob), cmpDescOk j.desc = true ∧ s.reachesAll (.engine j.cls) true (leAt j.desc 0x10 8) (leAt j.desc 4 2 + 16) = true ∧
      (s.engineRead j.cls (leAt j.desc 8 8) (leAt j.desc 6 2)).2.isOk = true) ∧
    (∃ (s : State) (idx : Nat), idx ≠ s.ringTail false 0 ∧ s.ringKnown false 0 idx = false ∧ (s.engineRead 0 (s.descAddr false 0 idx) 32).2.isOk = true) ∧
    (∃ (s : State) (idx : Nat), idx ≠ s.ringTail false 7 ∧ s.ringKnown false 7 idx = false ∧ (s.engineRead 0 (s.descAddr false 7 idx) 32).2.isOk = false) ∧
    (∃ (s : State) (j : EngJob) (d : Bytes), digDescOk j.motif d = true ∧ 4 ≤ byteAt d 3 ∧ j.busy = false ∧ (s.digSource j d 16).2.isOk = true ∧ leAt d 0x10 8 = leAt d 8 8) ∧
    (∃ (s : State) (j : EngJob) (d : Bytes), digDescOk j.motif d = true ∧ bit (byteAt d 1) 4 = false ∧ bit (byteAt d 1) 5 = true ∧ (s.digSource j d 16).2.isOk = true ∧ leAt d 0x10 8 = leAt d 8 8) :=
  let ring := State.reset
  ⟨⟨State.reset, { (default : EngJob) with desc := cmpDesc 1 0 }, by decide +kernel⟩, ⟨State.reset, { (default : EngJob) with desc := cmpDesc 2 64 }, by decide +kernel⟩,
   ⟨ring.setFld F.MTF_CJQ_BASE_BASE (0x10000000 / 4096), 1, by decide +kernel⟩, ⟨ring.setFld F.MTF_CJQ_BASE_BASE (0x800000000 / 4096) 7, 1, by decide +kernel⟩,
   ⟨State.reset, default, digDesc 2 2 4, by decide +kernel⟩, ⟨State.reset, default, digDesc 1 0x22 0, by decide +kernel⟩⟩

theorem witness_BandCollection :
    (∃ (s : State) (b : Band), s.power.running = true ∧ b ∈ s.med.maps.bands ∧ b.motif = 0 ∧ b.state = 2 ∧ s.owns b.ground = true) ∧
    (∃ s : State, s.power.running = true ∧ s.inService = true ∧ s.poolLow 7 = true) ∧ (∃ s : State, s.power.running = true ∧ s.inService = false) ∧
    (∃ (s : State) (b : Band) (x : Txn), s.power.running = true ∧ s.med.maps.band 1 = some b ∧ s.relocOf 1 = some x ∧ b.state = 3 ∧ s.uncopied b x = [] ∧ ∀ r ∈ s.med.packed, r.txn ≠ x.id) ∧
    (∃ (s : State) (b : Band) (x : Txn), s.power.running = true ∧ s.med.maps.band 1 = some b ∧ s.relocOf 1 = some x ∧ b.state = 3 ∧ s.uncopied b x ≠ []) ∧
    (∃ (s : State) (b : Band), s.power.running = true ∧ s.med.maps.band 1 = some b ∧ b.state = 5 ∧ s.inService = true ∧ s.owns b.ground = true ∧ s.bandRead b = false) ∧
    (∃ (s : State) (b : Band), s.power.running = true ∧ s.med.maps.band 1 = some b ∧ b.state = 6 ∧ b.erased < b.members.length ∧ s.erasing 1 = false ∧ s.inService = true ∧
      s.owns b.ground = true ∧ s.bandRead b = false) ∧
    (∃ (s : State) (b : Band), s.power.running = true ∧ s.med.maps.band 1 = some b ∧ b.state = 6 ∧ b.members.length ≤ b.erased) :=
  let reloc : Txn := { oneTxn with sent := false, mirrored := false, fin := .reloc 1 }
  let victim := (withBand State.reset { fullBand with state := 3 }).modMed (fun d => { d with txns := [reloc] })
  let own := (inMode 1).setFld F.CLM_GROUND_STATE 1
  ⟨⟨withBand (State.reset.setFld F.CLM_GROUND_STATE 1) fullBand, fullBand, by decide⟩,
   ⟨(((withModules (inMode 1)).modBob (fun b => { b with modules := [oneModule 0] })).modMed (fun d => { d with maps := { d.maps with blocks := (List.range 8).map (fun i => ((i / 4) * 262144 + i % 4, { (default : BlockDesc) with use := 1 })) } })), by decide +kernel⟩,
   ⟨State.reset, by decide⟩, ⟨victim, _, reloc, by decide, rfl, rfl, by decide, by decide, by decide⟩,
   ⟨victim.modMed (fun d => { d with maps := { d.maps with ctab := [(7, { (default : CEntry) with addr := 196608, state := 2, refs := 1, len := 16 })] } }), _, reloc, by decide, rfl, rfl, by decide, by decide⟩,
   ⟨withBand own { fullBand with state := 5 }, _, by decide, rfl, by decide, by decide, by decide, by decide⟩,
   ⟨withBand own { fullBand with state := 6 }, _, by decide, rfl, by decide, by decide, by decide, by decide, by decide, by decide⟩,
   ⟨withBand State.reset { fullBand with state := 6, erased := 2 }, _, by decide, rfl, by decide, by decide⟩⟩

/-- A state with modules 0 and 1 and one command of module 0 that waits in a queue, covered by its tail. -/
def withCmd (q : Nat) (c : BobCmd) : State :=
  State.reset.modBob (fun b => { b with modules := [{ oneModule 0 with posted := [1, 1, 1, 1, 1], tails := [1, 1, 1, 1, 1] }], cmds := [{ c with qid := q }] })

/-- The module of `withCmd`. -/
def theModule : Module := { oneModule 0 with posted := [1, 1, 1, 1, 1], tails := [1, 1, 1, 1, 1] }

theorem witness_ModuleRoles :
    (∃ (s : State) (m : Module), s.power.running = true ∧ s.module 0 = some m ∧ m.linkUp = true ∧ s.modReady 0 = true ∧ s.role 0 = 1 ∧ s.role 255 = 0 ∧ s.holdsMembers 0 = false) ∧
    (∃ (s : State) (m : Module), s.power.running = true ∧ s.module 0 = some m ∧ m.linkUp = false ∧ m.downAt + 2000 ≤ s.num ∧ s.role 0 ≠ 3) ∧
    (∃ s : State, s.power.running = true ∧ s.role 255 = 3 ∧ s.modReady 255 = false ∧ s.holdsMembers 255 = false ∧ s.flag F.ECU_MOD_REINSTATE 0 255 = false) ∧
    (∃ s : State, s.power.running = true ∧ s.modReady 5 = false ∧ s.inStep 11 = true ∧ s.role 5 ≠ 3) ∧
    (∃ (s : State) (t : Txn), s.power.running = true ∧ s.txn 1 = some t ∧ t.durable = false ∧ s.firstUndurable t = true ∧ t.span.2 ≤ s.flushed t.ground t.motif ∧
      (s.med.rebuilds.find? (fun j => j.motif == 0)).isSome = true) ∧
    (∃ s : State, s.power.running = true ∧ s.inService = true ∧ s.num % 12000000 = 0) ∧ (∃ s : State, s.power.running = true ∧ s.inService = false) :=
  ⟨⟨withModules State.reset, oneModule 0, by decide⟩,
   ⟨((State.reset.setFld F.STC_NUM_NUM 2000).modBob (fun b => { b with modules := [{ oneModule 0 with linkUp := false }] })), { oneModule 0 with linkUp := false }, by decide⟩,
   ⟨State.reset.setFld F.ECU_MOD_ROLE 3 0 255, by decide⟩, ⟨atStep 11, by decide⟩,
   ⟨State.reset.modMed (fun d => { d with txns := [oneTxn], rebuilds := [{ (default : RebuildJob) with txn := some 1 }] }), oneTxn, by decide⟩, ⟨inMode 1, by decide⟩, ⟨State.reset, by decide⟩⟩

theorem witness_ModuleChecks :
    (∃ (c : Instr) (s : State), moduleWork c = some (0, 0, 0, 0x21, none, false) ∧ s.moduleCmd 0 0 0 none = none) ∧
    (∃ (c : Instr) (s : State) (k : BobCmd) (m : Module), moduleWork c = some (0, 1, 0, 0x10, none, true) ∧ s.moduleCmd 0 1 0 none = some (k, true) ∧ s.module 0 = some m ∧ k.opcode = 0x10 ∧
      m.fatal = false ∧ rightQueue k = true ∧ fieldsOk m k = true ∧ k.claim ≠ m.claim k.ground) ∧
    (∃ (c : Instr) (s : State) (k : BobCmd) (m : Module), moduleWork c = some (0, 0, 0, 0x10, none, true) ∧ s.moduleCmd 0 0 0 none = some (k, true) ∧ s.module 0 = some m ∧ k.opcode = 0x10 ∧
      m.fatal = false ∧ rightQueue k = false) :=
  ⟨⟨.claimGet 0 0 0 none, State.reset, rfl, rfl⟩,
   ⟨.readPage 0 1 0 none 0 0, withCmd 1 { (default : BobCmd) with opcode := 0x10, count := 4, page := 4, claim := 7 }, _, theModule, rfl, rfl, by decide, by decide, by decide, by decide,
     by decide, by decide⟩,
   ⟨.readPage 0 0 0 none 0 0, withCmd 0 { (default : BobCmd) with opcode := 0x10, count := 4 }, _, theModule, rfl, rfl, by decide, by decide, by decide, by decide⟩⟩

/-- A command that a module carries out: taken, the module not failed, its queue and its fields right. -/
def carried (s : State) (q : Nat) (k : BobCmd) (m : Module) : Prop :=
  s.moduleCmd 0 q 0 none = some (k, true) ∧ s.module 0 = some m ∧ m.fatal = false ∧ rightQueue k = true ∧ fieldsOk m k = true

theorem witness_ModuleWork :
    (∃ (s : State) (k : BobCmd) (m : Module), carried s 0 k m ∧ k.opcode = 0x01) ∧ (∃ (s : State) (k : BobCmd) (m : Module), carried s 0 k m ∧ k.opcode = 0x02 ∧ k.arg = 0) ∧
    (∃ (s : State) (k : BobCmd) (m : Module), carried s 1 k m ∧ k.opcode = 0x10 ∧ k.claim = m.claim k.ground) ∧
    (∃ (s : State) (k : BobCmd) (m : Module), carried s 1 k m ∧ k.opcode = 0x11 ∧ k.claim = m.claim k.ground ∧ (m.pagesOf ⟨0, k.lun, k.block⟩).length = k.page) ∧
    (∃ (s : State) (k : BobCmd) (m : Module), carried s 4 k m ∧ k.opcode = 0x12 ∧ k.claim = m.claim k.ground) ∧
    (∃ (s : State) (k : BobCmd) (m : Module), carried s 0 k m ∧ k.opcode = 0x20 ∧ k.flags = 0 ∧ m.claim k.ground < k.claim) ∧
    (∃ (s : State) (k : BobCmd) (m : Module), carried s 0 k m ∧ k.opcode = 0x21 ∧ k.flags = 1) ∧ (∃ (s : State) (k : BobCmd) (m : Module), carried s 0 k m ∧ k.opcode = 0x30) ∧
    (∃ (s : State) (k : BobCmd) (m : Module), carried s 0 k m ∧ k.opcode = 0x31 ∧ k.claim = m.claim k.ground) ∧
    (∃ (s : State) (k : BobCmd) (m : Module), carried s 0 k m ∧ k.opcode = 0x32 ∧ k.claim = m.claim k.ground) :=
  let d : BobCmd := default
  ⟨⟨withCmd 0 { d with opcode := 0x01 }, _, theModule, ⟨rfl, by decide, by decide, by decide, by decide⟩, by decide⟩,
   ⟨withCmd 0 { d with opcode := 0x02 }, _, theModule, ⟨rfl, by decide, by decide, by decide, by decide⟩, by decide⟩,
   ⟨withCmd 1 { d with opcode := 0x10, count := 1 }, _, theModule, ⟨rfl, by decide, by decide, by decide, by decide⟩, by decide⟩,
   ⟨withCmd 1 { d with opcode := 0x11, count := 1 }, _, theModule, ⟨rfl, by decide, by decide, by decide, by decide⟩, by decide⟩,
   ⟨withCmd 4 { d with opcode := 0x12 }, _, theModule, ⟨rfl, by decide, by decide, by decide, by decide⟩, by decide⟩,
   ⟨withCmd 0 { d with opcode := 0x20, claim := 257 }, _, theModule, ⟨rfl, by decide, by decide, by decide, by decide⟩, by decide⟩,
   ⟨withCmd 0 { d with opcode := 0x21, flags := 1 }, _, theModule, ⟨rfl, by decide, by decide, by decide, by decide⟩, by decide⟩,
   ⟨withCmd 0 { d with opcode := 0x30 }, _, theModule, ⟨rfl, by decide, by decide, by decide, by decide⟩, by decide⟩,
   ⟨withCmd 0 { d with opcode := 0x31, flags := 1 }, _, theModule, ⟨rfl, by decide, by decide, by decide, by decide⟩, by decide⟩,
   ⟨withCmd 0 { d with opcode := 0x32 }, _, theModule, ⟨rfl, by decide, by decide, by decide, by decide⟩, by decide⟩⟩

theorem witness_ModulePorts :
    (∃ s : State, s.power.running = true ∧ s.module 255 = none ∧ s.bob.cpls = [] ∧ s.bob.cmds = []) ∧
    (∃ (s : State) (m : Module), s.power.running = true ∧ s.module 0 = some m ∧ m.en = true ∧ m.linkUp = true ∧ m.ready = true) ∧
    (∃ (s : State) (m : Module) (a : Nat), s.power.running = true ∧ s.module 0 = some m ∧ m.en = true ∧ m.qen = true ∧ m.tails.getD 4 0 < a ∧ a ≤ m.posted.getD 4 0 ∧ a % m.depth = 1 % m.depth ∧
      ∀ x, m.tails.getD 4 0 < x → x < a → x % m.depth ≠ 1 % m.depth) ∧
    (∃ (s : State) (a len : Nat), s.power.running = true ∧ s.hasMotif 7 = true ∧ ∀ k < 8, s.hasMotif k = true → ¬ (dramBase k ≤ a ∧ a + len ≤ dramBase k + s.populated k)) ∧
    (∃ (s : State) (a len : Nat), s.power.running = true ∧ s.hasMotif 7 = true ∧ ∃ k < 8, s.hasMotif k = true ∧ dramBase k ≤ a ∧ a + len ≤ dramBase k + s.populated k) ∧
    (∃ (s : State) (x : BobCpl), s.power.running = true ∧ (s.bob.cpls.find? (fun x => x.mod == 0 && x.qid == 0)).filter (fun x => x.cid == 0) = some x ∧
      ∃ y ∈ s.bob.quar, y.1.mod = 0 ∧ y.1.qid = 0 ∧ y.1.cid = 0) ∧
    (∃ (s : State) (x : BobCpl) (c : BobCmd), s.power.running = true ∧ (s.bob.cpls.find? (fun x => x.mod == 0 && x.qid == 0)).filter (fun x => x.cid == 0) = some x ∧ s.bob.quar = [] ∧
      s.bob.cmds.find? (fun c => c.mod == 0 && c.qid == 0 && c.cid == 0) = some c) ∧
    (∃ (s : State) (c : BobCmd), s.power.running = true ∧ s.bob.cmds.find? (fun c => c.mod == 0 && c.qid == 0 && c.cid == 0 && decide (c.since + s.cmdLimit c ≤ s.num)) = some c) ∧
    (∃ (s : State) (m : Module), s.module 0 = some m ∧ 3 ≤ (m.timeouts.filter (fun t => decide (s.num < t + 20000))).length + 1) :=
  ⟨⟨State.reset, by decide⟩, ⟨withModules State.reset, oneModule 0, by decide⟩,
   ⟨State.reset.modBob (fun b => { b with modules := [{ oneModule 0 with posted := [0, 0, 0, 0, 1] }] }), { oneModule 0 with posted := [0, 0, 0, 0, 1] }, 1, by decide, by decide, by decide, by decide,
     by decide, by decide, by decide, fun x (h : 0 < x) _ => by omega⟩,
   ⟨State.reset, 0x080000000000, 4096, by decide⟩, ⟨State.reset.setFld F.DRM_ST_DIMM_GIB 16 7, dramBase 7, 4096, by decide⟩,
   ⟨State.reset.modBob (fun b => { b with cpls := [default], quar := [(default, 0)] }), default, by decide⟩,
   ⟨State.reset.modBob (fun b => { b with cpls := [default], cmds := [{ (default : BobCmd) with why := .keepAlive }] }), default, { (default : BobCmd) with why := .keepAlive }, by decide⟩,
   ⟨(withCmd 0 { (default : BobCmd) with opcode := 0x01, why := .identify }).setFld F.STC_NUM_NUM (2 ^ 40), { (default : BobCmd) with opcode := 0x01, why := .identify }, by decide⟩,
   ⟨State.reset.modBob (fun b => { b with modules := [{ oneModule 0 with timeouts := [0, 0] }] }), { oneModule 0 with timeouts := [0, 0] }, by decide⟩⟩

theorem witness_FailStopsAndHoldUp :
    (∃ s : State, s.power.running = true ∧ s.mode = 5) ∧ (∃ s : State, s.power.running = true ∧ s.mode ≠ 5 ∧ s.ucieUp 7 2 = true) ∧
    (∃ s : State, s.power.running = true ∧ s.ucieUp 7 3 = false ∧ s.serviceRuns 7 = false) ∧ (∃ s : State, s.power.running = true ∧ s.serviceRuns 0 = true) ∧
    (∃ s : State, s.power.running = true ∧ s.pollDue = true ∧ s.mode ≠ 5 ∧ ∃ e ∈ [(31, true, false)], e.1 ∈ s.regulators ∧ e.2.1 = true) ∧
    (∃ s : State, s.power.running = true ∧ s.pollDue = false ∧ s.flag F.PWR_CTL_ALERT_EN = true) ∧
    (∃ s : State, s.power.running = true ∧ s.mode = 0) ∧ (∃ s : State, s.power.running = true ∧ s.inService = true) ∧
    (∃ s : State, s.power.running = true ∧ s.mode = 4 ∧ s.hu.dumpDone = false ∧ s.dumpRest.settleDump.med.vaultA.left = [] ∧ s.dumpRest.settleDump.med.vaultB.left = [] ∧
      s.dumpRest.settleDump.dumping = false) ∧
    (∃ s : State, s.power.running = true ∧ s.num % 200 ≠ 0 ∧ s.hu.due s.num = false) ∧ (∃ s : State, s.power.running = true ∧ s.num % 200 = 0 ∧ s.stc.phase ≤ 550) ∧
    (∃ s : State, s.power.running = true ∧ s.hu.reading = true) ∧ (∃ s : State, s.power.running = true ∧ s.hu.reading = false) :=
  ⟨⟨inMode 5, by decide⟩, ⟨State.reset.setFld F.MTF_LINK_ST_UP 1 7 2, by decide⟩, ⟨State.reset, by decide⟩, ⟨State.reset.setFld F.CPU_ST_RUNNING 256, by decide⟩,
   ⟨(State.reset.setFld F.PWR_REG_EN 1 0 31).setFld F.STC_NUM_NUM (2 ^ 40), by decide⟩, ⟨State.reset.setFld F.PWR_CTL_ALERT_EN 1, by decide⟩, ⟨State.reset, by decide⟩, ⟨inMode 3, by decide⟩,
   ⟨inMode 4, by decide +kernel⟩, ⟨State.reset.setFld F.STC_NUM_NUM 1, by decide⟩,
   ⟨State.reset.modStc (fun c => { c with phase := 550 }), by decide⟩, ⟨State.reset.modHu (fun h => { h with reading := true }), by decide⟩, ⟨State.reset, by decide⟩⟩

/-- A line of motif 0 in its map cache. -/
def oneLine : CLine := { (default : CLine) with dirty := true }

theorem witness_MapCache :
    (∃ s : State, s.power.running = true ∧ s.allowed (.core 0 0) 0 (dramBase 7) 8 0 = false) ∧
    (∃ s : State, s.power.running = true ∧ s.allowed (.core 0 0) 0 (dramBase 0) 8 0 = true ∧ regionOf (dramBase 0) = .dram 0 0) ∧
    (∃ s : State, s.power.running = true ∧ s.allowed (.core 0 0) 2 0 8 0 = true ∧ regionOf 0 = .rom) ∧
    (∃ (s : State) (c : CLine), s.power.running = true ∧ (s.readFlips (dramBase 0) 128).ms.lines.find? (fun c => c.holds (dramBase 0)) = some c) ∧
    (∃ s : State, s.power.running = true ∧ s.ms.lines = [] ∧ s.cacheOn 0 = false ∧ s.cached (dramBase 0) = none) ∧
    (∃ s : State, s.power.running = true ∧ s.ms.lines = [] ∧ s.cacheOn 0 = true ∧ s.cached (dramBase 0) = none ∧ s.flag F.CCH_CTL_POLICY 0 = false ∧ (s.victimWay 0 0 3).2 ≠ none) ∧
    (∃ (s : State) (c : CLine), s.power.running = true ∧ s.ms.victims.find? (fun c => c.motif == 0 && c.line == 0 && c.dirty) = some c ∧ s.ms.stalled = []) ∧
    (∃ s : State, s.power.running = true ∧ s.ms.victims = [] ∧ s.ms.lines = [] ∧ s.flag F.CCH_ST_DRAIN 0 = false) ∧
    (∃ s : State, s.power.running = true ∧ s.bar0Open = true ∧ s.reachesAll .bar2 false (bar2Addr 0) 8 = true ∧ s.poisoned (bar2Addr 0) 8 = false) ∧
    (∃ s : State, s.power.running = true ∧ s.bar0Open = true ∧ s.reachesAll .bar2 false (bar2Addr 0x8000000) 8 = false) ∧
    (∃ s : State, s.power.running = true ∧ s.flag F.EP_ST_UP = true ∧ s.bar0Open = false) :=
  let d := (inMode 1).setFld F.DRM_ST_DIMM_GIB 16
  let o : State := { (d.setFld F.EP_ST_UP 1).setFld F.CCH_ST_SCR_WAYS 1 with
    ep := { State.reset.ep with served := true }, prk := some { (default : Pricking) with parts := [{ (default : PartEntry) with owner := [0x12] }] } }
  ⟨⟨State.reset, by decide +kernel⟩, ⟨d, by decide +kernel⟩, ⟨State.reset, by decide +kernel⟩, ⟨d.modMs (fun m => { m with lines := [oneLine] }), oneLine, by decide +kernel⟩,
   ⟨d.setFld F.CCH_CTL_EN 0, by decide +kernel⟩, ⟨d.setFld F.CCH_CTL_EN 1, by decide +kernel⟩, ⟨d.modMs (fun m => { m with victims := [oneLine] }), oneLine, by decide +kernel⟩,
   ⟨State.reset, by decide⟩, ⟨o, by decide +kernel⟩, ⟨o, by decide +kernel⟩, ⟨State.reset.setFld F.EP_ST_UP 1, by decide⟩⟩

theorem witness_MaintenanceAndErrors :
    (∃ s : State, s.power.running = true ∧ s.hasMotif 7 = true ∧ s.flag F.CCH_MAINT_BUSY 7 = true ∧ s.flag F.CCH_ST_DRAIN 7 = false) ∧
    (∃ s : State, s.power.running = true ∧ s.hasMotif 7 = true ∧ s.flag F.CCH_MAINT_BUSY 7 = false ∧ s.inLockSet .CCH_MAINT 7 0 = false) ∧
    (∃ s : State, s.fld F.CCH_MAINT_OP 7 = 2 ∧ s.mode ≠ 0 ∧ s.flag F.ECC_CTL_INJECT_EN 7 = false) ∧
    (∃ (s : State) (c : CLine), s.fld F.CCH_MAINT_OP 0 = 1 ∧ s.flag F.CCH_MAINT_MODE 0 = true ∧ s.flag F.CCH_MAINT_ALL 0 = false ∧
      s.lineAt 0 (s.fld F.CCH_MAINT_SET 0) (s.fld F.CCH_MAINT_WAY 0) = some c ∧ c.dirty = true) ∧
    (∃ s : State, s.fld F.CCH_MAINT_OP 0 = 3 ∧ s.flag F.CCH_MAINT_MODE 0 = false ∧ s.fld F.CCH_MAINT_ADDR_ADDR 0 * 128 = dramBase 0 ∧
      dramBase 0 + 128 * max 1 (s.fld F.CCH_MAINT_LINES 0) ≤ dramBase 0 + s.populated 0) ∧
    (∃ s : State, s.power.running = true ∧ s.hasMotif 7 = true ∧ s.flag F.CCH_ST_DRAIN 7 = true) ∧
    (∃ s : State, s.power.running = true ∧ s.hasMotif 7 = true ∧ s.flag F.ECC_CTL_INJECT_EN 7 = true ∧ s.inLockSet .ECC_FLIP_TARGET 7 0 = false) ∧
    (∃ s : State, s.power.running = true ∧ isSramCode 0x43 = true ∧ s.hasMotif 7 = true) ∧
    (∃ s : State, s.power.running = true ∧ Sparse.get (0, 0, 0) s.tv (tvKey 0 0) = (1, 0, 0)) ∧ (∃ s : State, s.power.running = true ∧ Sparse.get (0, 0, 0) s.tv (tvKey 0 0) = (1, 2, 4)) :=
  let op (v : Nat) : State := (State.reset.setFld F.DRM_ST_DIMM_GIB 16).setFld F.CCH_MAINT_OP v
  ⟨⟨State.reset.setFld F.CCH_MAINT_BUSY 1 7, by decide⟩, ⟨State.reset, by decide⟩, ⟨((inMode 1).setFld F.ECC_CTL_INJECT_EN 0 7).setFld F.CCH_MAINT_OP 2 7, by decide⟩,
   ⟨((op 1).setFld F.CCH_MAINT_MODE 1).modMs (fun m => { m with lines := [oneLine] }), oneLine, by decide⟩,
   ⟨(op 3).setFld F.CCH_MAINT_ADDR_ADDR (dramBase 0 / 128), by decide +kernel⟩, ⟨State.reset.setFld F.CCH_ST_DRAIN 1 7, by decide⟩,
   ⟨State.reset.setFld F.ECC_CTL_INJECT_EN 1 7, by decide⟩, ⟨State.reset, by decide⟩,
   ⟨{ State.reset with tv := [(tvKey 0 0, (1, 0, 0))] }, by decide⟩, ⟨{ State.reset with tv := [(tvKey 0 0, (1, 2, 4))] }, by decide⟩⟩

/-- A connection of ground 0 in RTS. -/
def oneConn : Conn := { (default : Conn) with id := 2, state := .rts, cached := true, epsn := 2 ^ 32, acked := 2 ^ 32 - 1, spsn := 2 ^ 32, desc := { (default : ConnDesc) with rnrRetry := 7, pmtu := 5 } }

/-- A state that owns ground 0, transmits, and has one connection. -/
def withConn (c : Conn) : State := { ((inMode 2).setFld F.CLM_GROUND_STATE 1) with txOff := false, net := { State.reset.net with conns := [c] } }

/-- A region table whose entry 1 is VALID, key 1, all rights, over 4 KiB of motif 0's DRAM from address 0 of the region. -/
def withRegion (s : State) : State :=
  ((((s.setFld F.RDM_MR_BASE_EN 1).setFld F.RDM_MR_BASE_BASE (dramBase 0 / 2 ^ 26)).setFld F.DRM_ST_DIMM_GIB 16).setFld F.CCH_CTL_EN 0).store (dramBase 0 + 64)
    (leBytes 8 0 ++ leBytes 8 4096 ++ leBytes 8 (dramBase 0 + 2 ^ 20) ++ [0, 0, 0x1D, 1, 0, 0, 0, 0, 1])

/-- A packet of `oneConn`. -/
def onePkt : Packet := ⟨{ (default : PktHdr) with conn := 2 }, .send true true []⟩

theorem witness_RequestPackets :
    (∃ s : State, s.power.running = true ∧ s.conn onePkt.hdr.conn = none) ∧
    (∃ (s : State) (c : Conn), s.power.running = true ∧ s.conn onePkt.hdr.conn = some c ∧ onePkt.hdr.opts = false ∧ onePkt.hdr.bytes ≤ 9216 ∧ s.txOff = false ∧ s.holdsGround c.desc.ground = true ∧
      c.state = .rts) ∧
    (∃ (s : State) (c : Conn), s.power.running = true ∧ s.conn onePkt.hdr.conn = some c ∧ s.txOff = false ∧ s.hearsGround c.desc.ground = true ∧ c.state = .rts ∧ c.desc.spray = false ∧
      s.missRoom c.motif (s.missClass c.desc.ground onePkt.hdr.dscp) onePkt.hdr.bytes = true ∧ psnAhead c.arrives onePkt.hdr.psn = 0 ∧ c.early = []) ∧
    (∃ (s : State) (c : Conn) (u : State), s.conn 2 = some c ∧ s.runOp c c.epsn onePkt.op [] = (u, .done)) ∧
    (∃ (c : Conn), 0 < psnAhead c.arrives 1 ∧ psnAhead c.arrives 1 < 2 ^ 23) ∧
    (∃ (c : Conn), psnAhead c.epsn 1023 ≤ 1023 ∧ c.epsn + psnAhead c.epsn 1023 ∉ c.marks) ∧
    (∃ (s : State) (c : Conn), s.twinDegraded c = false ∧ s.keyCheck c 2 0 0 8 = none) ∧
    (∃ (s : State) (c : Conn) (r : MrEntry), s.twinDegraded c = false ∧ s.keyCheck c 2 0 0x101 8 = some r ∧ r.kind = 1 ∧
      (s.engineWrite c.desc.cls (r.target + (0 - r.base)) (zeros 8)).2 = 0) ∧
    (∃ (s : State) (c : Conn) (r : MrEntry), c.desc.twin = false ∧ c.writesBefore c.epsn = false ∧ s.keyEntry c 0 0x101 8 = some r ∧ r.kind ≠ 2 ∧ bit r.rights 4 = true ∧ s.mirrors = false ∧
      (s.engineRead c.desc.cls (r.target + (0 - r.base)) 8).2 = .ok (zeros 8)) ∧
    (∃ (s : State) (c : Conn), c.desc.twin = false ∧ c.writesBefore c.epsn = true ∧ s.conn 2 = some c) ∧
    (∃ (s : State) (a : Nat), s.reachesAll (.engine 0) true a 8 = true ∧ regionOf a ≠ .regs) ∧ (∃ (s : State) (a : Nat), s.reachesAll (.engine 0) true a 8 = false) ∧
    (∃ (s : State) (c : Conn), s.power.running = true ∧ s.conn 2 = some c ∧ c.cached = false ∧ (∃ x ∈ s.net.missq, x.pkt.hdr.conn = 2) ∧ (s.setMembers c.motif (s.ctxSet c.id)).length < 8) :=
  let r := withRegion (withConn oneConn)
  let e : MrEntry := ⟨1, 0, 4096, dramBase 0 + 2 ^ 20, 0, 1, 0x1D, 1, 0, 1⟩
  let w := { oneConn with writes := [(0, 1)] }
  ⟨⟨State.reset, by decide⟩, ⟨(withConn oneConn).setFld F.CLM_GROUND_STATE 3, oneConn, by decide +kernel⟩, ⟨withConn oneConn, oneConn, by decide +kernel⟩,
   ⟨withConn oneConn, oneConn, _, by decide +kernel, rfl⟩, ⟨oneConn, by decide⟩, ⟨oneConn, by decide⟩, ⟨withConn oneConn, oneConn, by decide +kernel⟩, ⟨r, oneConn, e, by decide +kernel⟩,
   ⟨r, oneConn, e, by decide +kernel⟩, ⟨withConn w, w, by decide +kernel⟩, ⟨r, dramBase 0, by decide +kernel⟩, ⟨State.reset, dramBase 7, by decide +kernel⟩,
   ⟨(withConn { oneConn with cached := false }).modNet (fun n => { n with missq := [⟨0, 0, onePkt⟩] }), { oneConn with cached := false }, by decide +kernel⟩⟩

/-- A motif without connections has an index for one, whatever the free values are. -/
theorem index_free (s : State) (h : s.ownIndexes = []) (k : s.fuses.caps.motifs = 8) : ∃ i, s.freeIndex 7 = some i := by
  simp [State.freeIndex, h, k, List.range_succ]
  exact ⟨_, Or.inl ⟨by omega, rfl⟩⟩

theorem witness_RequesterAndCommands :
    (∃ s : State, s.power.running = true ∧ s.conn 2 = none ∧ s.net.revoking = none ∧ s.hasMotif 8 = false) ∧
    (∃ (s : State) (c : Conn), s.power.running = true ∧ s.conn 2 = some c ∧ c.state = .rts ∧ c.desc.spray = false ∧ c.sent = [] ∧ c.rnr = none ∧ c.state ≠ .timewait) ∧
    (∃ (s : State) (c : Conn), s.power.running = true ∧ s.conn 2 = some c ∧ c.state ≠ .rts ∧ c.state ≠ .resync) ∧
    (∃ (s : State) (c : Conn), s.power.running = true ∧ s.conn 2 = some c ∧ c.desc.spray = true ∧ c.state = .rts ∧ c.marks ≠ [] ∧ c.gapSince + s.gapUnits c.motif ≤ s.units) ∧
    (∃ (s : State) (c : Conn) (p : SentPkt), s.power.running = true ∧ s.conn 2 = some c ∧ c.state = .rts ∧ c.sent.find? (fun q => q.psn == 0) = some p ∧ c.retries ≠ 0 ∧ s.txOff = false) ∧
    (∃ (s : State) (c : Conn), s.power.running = true ∧ s.conn 2 = some c ∧ c.state = .rts ∧ c.sent ≠ [] ∧ c.retries = 0) ∧
    (∃ (s : State) (c : Conn), s.power.running = true ∧ s.conn 2 = some c ∧ c.state = .rts ∧ c.rnr ≠ none ∧ c.desc.rnrRetry = 7) ∧
    (∃ (s : State) (c : Conn), s.power.running = true ∧ s.conn 2 = some c ∧ c.state = .rts ∧ c.rnr ≠ none ∧ c.desc.rnrRetry ≠ 7 ∧ c.rnrLeft = 0) ∧
    (∃ (s : State) (c : Conn), s.power.running = true ∧ s.conn 2 = some c ∧ c.ccSince + 200 * s.fld F.RDM_CC_TIMER_US c.motif ≤ s.units) ∧
    (∃ (s : State) (c : Conn), s.power.running = true ∧ s.conn 2 = some c ∧ c.state = .timewait ∧ c.timewaitAt + 200 * s.fld F.RDM_CTL_TIMEWAIT_MS c.motif ≤ s.num) ∧
    (∃ s : State, s.power.running = true ∧ s.hasMotif 7 = true ∧ s.flag F.RDM_CONN_CMD_BUSY 7 = false ∧ s.flag F.RDM_CTX_BASE_EN 7 = false ∧ bit (2 ^ 63 + 2 * 2 ^ 60 + 2) 63 = true) ∧
    (∃ (s : State) (i : Nat), s.flag F.RDM_CTX_BASE_EN 7 = true ∧ s.pinsFull (s.connDesc 7).ground 7 = false ∧ s.serves (s.connDesc 7).ground = true ∧ s.freeIndex 7 = some i) ∧
    (∃ s : State, s.power.running = true ∧ s.flag F.RDM_MR_CMD_BUSY = false ∧ (s.mrEntry 2).state = 0 ∧ (s.mrEntry 1).state = 1) ∧
    (∃ s : State, s.power.running = true ∧ s.net.revoking = some 1 ∧ s.readingRegion 1 = false) := by
  let late := (withConn oneConn).setFld F.STC_NUM_NUM (2 ^ 40)
  have own : ((((inMode 2).setFld F.CLM_GROUND_STATE 1).setFld F.RDM_CTX_BASE_EN 1 7)).ownIndexes = [] := by decide +kernel
  obtain ⟨i, hi⟩ := index_free _ own rfl
  exact ⟨⟨State.reset, by decide⟩, ⟨withConn oneConn, oneConn, by decide +kernel⟩, ⟨withConn { oneConn with state := .error }, { oneConn with state := .error }, by decide +kernel⟩,
   ⟨{ late with net := { late.net with conns := [{ oneConn with marks := [2 ^ 32 + 1], desc := { oneConn.desc with spray := true } }] } }, { oneConn with marks := [2 ^ 32 + 1], desc := { oneConn.desc with spray := true } }, by decide +kernel⟩,
   ⟨withConn { oneConn with sent := [default], retries := 1 }, { oneConn with sent := [default], retries := 1 }, default, by decide +kernel⟩,
   ⟨withConn { oneConn with sent := [default] }, { oneConn with sent := [default] }, by decide +kernel⟩, ⟨withConn { oneConn with rnr := some 0 }, { oneConn with rnr := some 0 }, by decide +kernel⟩,
   ⟨withConn { oneConn with rnr := some 0, desc := { oneConn.desc with rnrRetry := 6 } }, { oneConn with rnr := some 0, desc := { oneConn.desc with rnrRetry := 6 } }, by decide +kernel⟩,
   ⟨late, oneConn, by decide +kernel⟩,
   ⟨{ late with net := { late.net with conns := [{ oneConn with state := .timewait }] } }, { oneConn with state := .timewait }, by decide +kernel⟩, ⟨State.reset, by decide⟩,
   ⟨_, i, by decide +kernel, by decide +kernel, by decide +kernel, hi⟩,
   ⟨withRegion (inMode 1), by decide +kernel⟩, ⟨State.reset.modNet (fun n => { n with revoking := some 1 }), by decide⟩⟩

/-- A state whose rings for firmware lie at the start of motif 0's DRAM. -/
def withRings : State :=
  { (((((inMode 1).setFld F.NET_CTL_FWQ_EN 1).setFld F.DRM_ST_DIMM_GIB 16).setFld F.CCH_CTL_EN 0).setFld F.NET_FWRX_BASE_BASE (dramBase 0 / 16384)).setFld F.NET_FWTX_BASE_BASE (dramBase 0 / 16384) with
    txOff := false }

theorem witness_NetworkPorts :
    (∃ s : State, s.power.running = true ∧ s.hasSubPort 7 7 = false) ∧ (∃ s : State, s.power.running = true ∧ s.hasSubPort 7 7 = true ∧ s.fld F.NET_CTL_PFC_EN 7 = 0) ∧
    (∃ s : State, s.power.running = true ∧ s.hasSubPort 0 0 = true ∧ bit (s.fld F.NET_CTL_PFC_EN 0) 7 = true) ∧ (∃ s : State, s.power.running = true ∧ (7, 7, 7) ∈ s.net.paused) ∧
    (∃ s : State, s.power.running = true ∧ (7, 7, 7) ∉ s.net.paused ∧ s.txOff = true) ∧
    (∃ s : State, s.power.running = true ∧ s.prioOf 0 3 ≠ s.prioOf 0 0 ∧ bit (s.fld F.NET_CTL_PFC_EN 0) (s.prioOf 0 3) = true ∧ (0, 0, s.prioOf 0 3) ∉ s.net.xoff) ∧
    (∃ s : State, s.power.running = true ∧ s.hasSubPort 0 0 = true ∧ s.txOff = false ∧ s.fwRxRoom = true) ∧ (∃ s : State, s.power.running = true ∧ s.fwRxRoom = false) ∧
    (∃ s : State, s.power.running = true ∧ s.inLockSet .NET_FWQ_PTR 0 0 = false ∧ s.flag F.NET_CTL_FWQ_EN = true) ∧
    (∃ (s : State) (a : Nat), s.power.running = true ∧ s.fld F.NET_FWQ_PTR_TX_HEAD ≠ s.fld F.NET_FWQ_PTR_TX_TAIL % ringSlots (s.fld F.NET_FWTX_BASE_SIZE) ∧
      a = s.fld F.NET_FWTX_BASE_BASE * 16384 + 16384 * s.fld F.NET_FWQ_PTR_TX_HEAD ∧ s.reachesAll (.engine 2) true a 16384 = true ∧ bit (byteAt (s.load a 32) 4) 1 = false) :=
  ⟨⟨State.reset.setFld F.NET_CTL_SPLIT 0 7, by decide⟩, ⟨(State.reset.setFld F.NET_CTL_SPLIT 3 7).setFld F.NET_CTL_PFC_EN 0 7, by decide⟩, ⟨State.reset.setFld F.NET_CTL_PFC_EN 255, by decide⟩,
   ⟨State.reset.modNet (fun n => { n with paused := [(7, 7, 7)] }), by decide⟩, ⟨State.reset, by decide⟩,
   ⟨State.reset.setFld F.NET_CTL_PFC_EN 255, by decide +kernel⟩, ⟨withRings, by decide +kernel⟩, ⟨State.reset, by decide +kernel⟩,
   ⟨State.reset.setFld F.NET_CTL_FWQ_EN 1, by decide +kernel⟩, ⟨withRings.setFld F.NET_FWQ_PTR_TX_TAIL 1, dramBase 0, by decide +kernel⟩⟩

/-- A view of ground 0. -/
def oneView (id st : Nat) : View := { (default : View) with id := id, state := st }

/-- A state that owns ground 0 and holds views. -/
def withViews (l : List View) : State := (State.reset.setFld F.CLM_GROUND_STATE 1).modMed (fun d => { d with maps := { d.maps with views := l } })

/-- RPL_VIEW_CMD with GO, an operation and one entry. -/
def viewCmd (op : Nat) : Nat := 2 ^ 63 + op * 2 ^ 60 + 1

theorem witness_Views_cmd :
    (∃ s : State, s.power.running = true ∧ s.flag F.RPL_VIEW_CMD_BUSY = true) ∧
    (∃ (s u : State), s.power.running = true ∧ s.flag F.RPL_VIEW_CMD_BUSY = false ∧ u = s.softWrite .RPL_VIEW_CMD 0 0 (viewCmd 1) ∧ bit (viewCmd 1) 63 = true ∧
      u.reachesAll (.engine 3) true (u.fld F.RPL_VIEW_LIST_ADDR * 8) (8 * min 64 (u.fld F.RPL_VIEW_CMD_COUNT)) = true ∧ u.fld F.RPL_VIEW_CMD_OP = 1) ∧
    (∃ (s : State) (w : View), s.power.running = true ∧ [(1, 0)].map (fun e : Nat × Nat => s.med.maps.view e.1) = [w].map some ∧ w.state = 4 ∧ s.owns w.ground = true ∧ s.snapshotRoom w.id = true ∧
      s.num + 2 ≤ s.fld F.RPL_VIEW_CUT_STITCH ∧ s.fld F.RPL_VIEW_CUT_STITCH ≤ s.num + 200000 ∧ s.rpl.cuts.length < 8) ∧
    (∃ (s : State) (w : View), s.power.running = true ∧ [(5000, 0)].map (fun e : Nat × Nat => s.med.maps.view e.1) = [w].map some ∧ w.state = 2 ∧ isSnapshotId w.id = true ∧ s.owns w.ground = true ∧
      s.viewInUse w = false ∧ w.state ≠ 3) ∧
    (∃ (s : State) (w : View), s.med.maps.view 5000 = some w ∧ s.cloneTargetOk w 1 = true ∧ w.state = 2 ∧ isSnapshotId w.id = true) ∧
    (∃ (s : State) (w : View), s.owns w.ground = false ∧ s.flag F.STC_ST_PAIR_OK = false) :=
  let snap := withViews [oneView 5000 2, oneView 1 4]
  ⟨⟨State.reset.setFld F.RPL_VIEW_CMD_BUSY 1, by decide⟩, ⟨((inMode 1).setFld F.DRM_ST_DIMM_GIB 16).setFld F.RPL_VIEW_LIST_ADDR (dramBase 0 / 8), _, by decide, by decide, rfl, by decide, by decide +kernel, by decide⟩,
   ⟨(withViews [oneView 1 4]).setFld F.RPL_VIEW_CUT_STITCH 2, oneView 1 4, by decide +kernel⟩, ⟨snap, oneView 5000 2, by decide +kernel⟩,
   ⟨snap.modMed (fun d => { d with maps := { d.maps with namespaces := [{ (default : Namespace) with id := 1, view := some 1 }] } }), oneView 5000 2, by decide +kernel⟩,
   ⟨State.reset, oneView 1 4, by decide⟩⟩

/-- A snapshot ID is always free where no view has one. -/
theorem snapshot_free (s : State) (h : ∀ x ∈ s.med.maps.views, x.id < 4097) : s.freeSnapshot.isSome = true := by
  unfold State.freeSnapshot
  rw [List.find?_isSome]
  refine ⟨4097 + (s.freeVal + 0) % 61439, ?_, ?_⟩
  · exact List.mem_map.mpr ⟨0, by simp, rfl⟩
  · rw [Bool.not_eq_true', List.any_eq_false]
    intro x hx
    have := h x hx
    simp only [beq_iff_eq]
    omega

theorem witness_Views_cut :
    (∃ s : State, s.power.running = true ∧ ∀ c ∈ s.rpl.cuts, s.num < c.cut) ∧
    (∃ (s : State) (pc : PendingCut) (w : View) (k : Nat), s.power.running = true ∧ s.rpl.cuts.find? (fun c => decide (c.cut ≤ s.num)) = some pc ∧ s.med.maps.view 1 = some w ∧ s.owns w.ground = true ∧
      pc.op ≠ 2 ∧ s.snapshotRoom w.id = true ∧ s.freeSnapshot = some k) ∧
    (∃ (y : State) (z : View), y.med.maps.view 5000 = some z ∧ z.state = 1 ∧ y.preCut z = false ∧ (∀ f ∈ y.med.flushes, f.nsid ≠ z.source) ∧ y.owns z.ground = true) ∧
    (∃ s : State, s.power.running = true ∧ s.walkDue 0 = true ∧ ∀ p ∈ s.med.maps.toRelease, s.pageHome p.1 ≠ 0) ∧
    (∃ (s : State) (p : Nat × Nat) (m : Nat), s.power.running = true ∧ s.walkDue m = true ∧ s.ownedGrounds = [] ∧ s.med.maps.toRelease.find? (fun p => s.pageHome p.1 == m) = some p) ∧
    (∃ s : State, s.power.running = true ∧ s.walkDue 0 = false) := by
  let cut := (withViews [oneView 1 4]).modRpl (fun r => { r with cuts := [⟨1, 0, [(1, 0)], none⟩] })
  have hf := snapshot_free cut (by decide)
  let rel := State.reset.modMed (fun d => { d with maps := { d.maps with pages := [(1, { (default : MapPage) with ents := [(0, default)] })] } })
  refine ⟨⟨State.reset.modRpl (fun r => { r with cuts := [⟨1, 9, [(1, 0)], none⟩] }), by decide⟩,
    ⟨cut, ⟨1, 0, [(1, 0)], none⟩, oneView 1 4, cut.freeSnapshot.get hf, by decide, by decide, by decide, by decide, by decide, by decide, (Option.some_get hf).symm⟩,
    ⟨withViews [oneView 5000 1], oneView 5000 1, by decide⟩, ⟨State.reset, by decide⟩, ⟨rel, (1, 0), rel.pageHome 1, by decide, by simp [rel, State.walkDue, Sparse.get, State.modMed, State.reset, MediaSt.reset], by decide, ?_⟩,
    ⟨State.reset.modMed (fun d => { d with walks := [(0, 1)] }), by decide⟩⟩
  · show List.find? _ [(1, 0)] = some (1, 0)
    simp

/-- A target of a role with its connection, whose session slot is 0. -/
def withTarget (receive : Bool) (msg : Bytes) (x : Target) : State :=
  ((((((withConn { oneConn with recv := [(0, msg)] }).setFld F.RPL_TGT_CTL_EN 1).setFld F.RPL_TGT_CTL_ROLE (b2n receive)).setFld F.RPL_TGT_CTL_NSID 1).setFld F.RPL_TGT_CONN_CONN_ID 2).setFld
    F.CIP_SLOT_ST_STATE 1).modRpl (fun r => { r with targets := [(0, x)] })

/-- A key domain table at the start of motif 0's DRAM, whose domain 0 is VALID and not encrypted. -/
def withDomain (s : State) : State :=
  ((((s.setFld F.MTF_KD_BASE_EN 1).setFld F.MTF_KD_BASE_BASE (dramBase 0 / 2 ^ 18)).setFld F.DRM_ST_DIMM_GIB 16).setFld F.CCH_CTL_EN 0).store (dramBase 0 + 0x22) [1]

/-- The first message of `withTarget`: EPOCH_BEGIN with an empty body. -/
def oneMsg : Bytes := [1] ++ zeros 47

theorem witness_Replication :
    (∃ s : State, s.power.running = true ∧ s.targetOn 63 true = false ∧ s.targetOn 63 false = false) ∧
    (∃ s : State, s.power.running = true ∧ s.targetOn 0 true = true ∧ s.replHead 0 1 = some oneMsg) ∧
    (∃ (y : State) (n : Namespace) (d : Domain), (y.target 0).heldEpoch = some 1 ∧ y.targetNs 0 = some n ∧ y.domain n.domain = some d ∧ n.size = 0 ∧ y.owns n.ground = true) ∧
    (∃ s : State, s.power.running = true ∧ (s.target 0).heldEpoch.isSome = true ∧ s.epochWhole 0 = false) ∧ (∃ s : State, s.power.running = true ∧ (s.target 0).heldEpoch = none ∧ s.epochWhole 0 = true) ∧
    (∃ s : State, s.power.running = true ∧ s.canSeal 0 = true) ∧
    (∃ (y : State) (i : Nat) (l : List QueryEnt), i = (y.target 0).asked.findIdx (fun q => q.chunk == 0) ∧ l = ((y.target 0).asked.drop i).take 64 ∧ (y.target 0).epoch = 1 ∧
      y.fld F.RPL_TGT_ST_STATE 0 0 = 2 ∧ l ≠ []) ∧
    (∃ (y : State) (n : Namespace) (v : View), y.targetNs 0 = some n ∧ (y.target 0).snap.bind y.med.maps.view = some v ∧ (y.target 0).owed = [] ∧ (y.target 0).todo = []) ∧
    (∃ (y : State) (n : Namespace) (v : View), y.targetNs 0 = some n ∧ (y.target 0).snap.bind y.med.maps.view = some v ∧ (y.target 0).owed ≠ []) ∧
    (∃ (y : State) (n : Namespace), y.targetNs 0 = some n ∧ (y.target 0).snap = some 5000 ∧ (y.target 0).epoch = 1 ∧ y.fld F.RPL_TGT_ST_STATE 0 0 = 3) ∧
    (∃ s : State, s.power.running = true ∧ s.targetOn 0 false = true ∧ s.fld F.RPL_TGT_CTL_LAG_MAX 0 0 = 0) ∧
    (∃ s : State, s.power.running = true ∧ s.targetOn 0 false = true ∧ s.fld F.RPL_TGT_CTL_LAG_MAX 0 0 ≠ 0 ∧
      s.fld F.RPL_TGT_LAG_ACKED_CUT 0 0 + s.fld F.RPL_TGT_CTL_LAG_MAX 0 0 * 200000 < s.num) :=
  let ns : State → State := fun s => s.modMed (fun d => { d with maps := { d.maps with namespaces := [{ (default : Namespace) with id := 1 }], views := [oneView 5000 2] } })
  let x : Target := { (default : Target) with epoch := 1, snap := some 5000 }
  let e : QueryEnt := default
  ⟨⟨State.reset, by decide⟩, ⟨withTarget true oneMsg default, by decide +kernel⟩,
   ⟨withDomain (ns (withTarget true [] { (default : Target) with heldEpoch := some 1 })), { (default : Namespace) with id := 1 }, ⟨zeros 32, 0, false⟩, by decide +kernel⟩,
   ⟨withTarget true [] { (default : Target) with heldEpoch := some 1, asked := [e] }, by decide +kernel⟩, ⟨withTarget true [] default, by decide +kernel⟩,
   ⟨{ State.reset with fuses := { Fuses.unit with caps := { Fuses.unit.caps with optE := false } } }, by decide +kernel⟩,
   ⟨(withTarget false [] { x with asked := [e] }).setFld F.RPL_TGT_ST_STATE 2, 0, [e], by decide +kernel⟩,
   ⟨ns (withTarget false [] x), { (default : Namespace) with id := 1 }, oneView 5000 2, by decide +kernel⟩,
   ⟨ns (withTarget false [] { x with owed := [e] }), { (default : Namespace) with id := 1 }, oneView 5000 2, by decide +kernel⟩,
   ⟨(ns (withTarget false [] x)).setFld F.RPL_TGT_ST_STATE 3, { (default : Namespace) with id := 1 }, by decide +kernel⟩,
   ⟨(withTarget false [] default).setFld F.RPL_TGT_CTL_LAG_MAX 0, by decide +kernel⟩,
   ⟨((withTarget false [] default).setFld F.RPL_TGT_CTL_LAG_MAX 1).setFld F.STC_NUM_NUM 200001, by decide +kernel⟩⟩
/-! ## The host: commands, controllers, endpoint -/

/-- The controller of PF0, READY, with the queues 0 and 3. -/
def pfReady : Ctrl := { Ctrl.pf0 1 with cstate := 1, en := true, rdy := true, sqs := [⟨0, 0, 8, 0, 3, none, 0⟩, ⟨3, 3, 8, 0, 3, none, 0⟩], cqs := [⟨0, 8, 0, 0, 0, true⟩, ⟨3, 8, 0, 0, 1, true⟩] }

/-- A state that serves ground 0, whose host link is up, with a controller of PF0 and namespace 1 attached to it. -/
def withPf0 (k : Ctrl) : State :=
  let s := ((((((inMode 1).setFld F.CLM_GROUND_STATE 1).setFld F.EP_ST_UP 1).setFld F.EP_ST_BME0 1).setFld F.EP_ST_HOLD 0).setFld F.HQ_ST_FETCH_PAUSED 0).modMed
    (fun d => { d with maps := { d.maps with namespaces := [{ (default : Namespace) with id := 1, size := 1024 }] } })
  { s with txOff := false, hq := { s.hq with ctrls := [k], attach := [(1, 1)] } }

/-- The state and the command that a fetch gives, the default where it gives none. -/
def takenOf (s : State) (f : Fetch) (kind : QueueKind) (ready : Bool) : State × Taken := (s.take f kind ready).getD (State.reset, ⟨⟨0, 0, 0⟩, false, none, 0⟩)

theorem takenOf_eq (s : State) (f : Fetch) (kind : QueueKind) (ready : Bool) (h : (s.take f kind ready).isSome = true) :
    s.take f kind ready = some ((takenOf s f kind ready).1, (takenOf s f kind ready).2) := by
  unfold takenOf
  cases hx : s.take f kind ready with
  | none => rw [hx] at h; cases h
  | some p => rfl

/-- The controller of a command taken. -/
def ctrlOf (p : State × Taken) : Ctrl := (p.1.ctrl p.2.cmd.ctl).getD (Ctrl.pf0 0)

/-- A fetch takes a command, which its controller has not aborted. -/
def takes (s : State) (f : Fetch) (kind : QueueKind) (ready : Bool) (u : State) (t : Taken) (k : Ctrl) : Prop :=
  s.take f kind ready = some (u, t) ∧ u.ctrl t.cmd.ctl = some k ∧ (t.cmd.sq, t.cmd.cid) ∉ k.gone

/-- A fetch from a queue of PF0. -/
def fetchOf (q n : Nat) : Fetch := ⟨none, q, 7, n⟩

theorem witness_NvmeCommands_none : ∃ (s : State) (f : Fetch), s.power.running = true ∧ s.take f .admin true = none ∧ s.take f .io true = none ∧ s.fwcRoom = false :=
  ⟨State.reset, fetchOf 0 1, by decide⟩

theorem witness_NvmeCommands_admin : ∃ (s u : State) (f : Fetch) (t : Taken) (k : Ctrl), s.power.running = true ∧ takes s f .admin true u t k ∧ t.fabrics = false ∧
    (∀ x ∈ k.cqs, x.qid ≠ 256) ∧ (∀ x ∈ k.sqs, x.qid ≠ 256) ∧ (∃ x ∈ k.cqs, x.qid = 3) ∧ (∃ x ∈ k.sqs, x.qid = 3) ∧ (∃ x ∈ k.sqs, x.cq = 3) ∧ u.liveNs f.nsid ≠ none ∧
    u.hq.cmds = [] ∧ k.events = [] ∧ (∀ x ∈ u.hq.cmds, x.id ≠ ⟨t.cmd.ctl, 3, 9⟩) := by
  let s := withPf0 pfReady
  let p := takenOf s (fetchOf 0 1) .admin true
  exact ⟨s, p.1, fetchOf 0 1, p.2, ctrlOf p, by decide, ⟨takenOf_eq _ _ _ _ (by decide), by decide, by decide⟩, by decide⟩

theorem witness_NvmeCommands_room : ∃ s : State, s.power.running = true ∧ s.fwcRoom = true :=
  ⟨((withPf0 pfReady).setFld F.HQ_CTL_FWC_EN 1).setFld F.HQ_FWC_BASE_SIZE 4, by decide⟩

theorem witness_NvmeCommands_io : ∃ (s u : State) (f : Fetch) (t : Taken) (k : Ctrl), s.power.running = true ∧ takes s f .io true u t k ∧ t.fabrics = false ∧ f.nsid ≠ 0xFFFFFFFF ∧
    u.ns f.nsid = some { (default : Namespace) with id := 1, size := 1024 } ∧ rangeError { (default : Namespace) with id := 1, size := 1024 } false 512 512 (512 * 4096) = 0 := by
  let s := withPf0 pfReady
  let p := takenOf s (fetchOf 3 1) .io true
  exact ⟨s, p.1, fetchOf 3 1, p.2, ctrlOf p, by decide, ⟨takenOf_eq _ _ _ _ (by decide), by decide, by decide⟩, by decide, by decide, by decide, by decide +kernel⟩

theorem witness_NvmeCommands_fwc :
    (∃ (s : State) (i : Nat), s.power.running = true ∧ ∀ z ∈ s.hq.fwc, z.idx ≠ i) ∧
    (∃ (s : State) (z : FwSlot), s.power.running = true ∧ s.hq.fwc.find? (fun z => z.idx == 2) = some z ∧ bit (byteAt (s.load z.slot 128) 0x60) 0 = false) ∧
    (∃ (s : State) (z : FwSlot), s.power.running = true ∧ s.hq.fwc.find? (fun z => z.idx == 2) = some z ∧ bit (byteAt (s.load z.slot 128) 0x60) 0 = true ∧ s.poisoned z.buf 0 = false) ∧
    (∃ y : State, y.fwcReached 0 = true) ∧ (∃ y : State, y.fwcReached 0 = false) := by
  let s := (withPf0 pfReady).modHq (fun h => { h with fwc := [⟨2, ⟨1, 0, 7⟩, dramBase 0, dramBase 0 + 65536⟩] })
  exact ⟨⟨s, 1, by decide, by decide⟩, ⟨s, _, by decide, rfl, by decide +kernel⟩, ⟨(s.setFld F.CCH_CTL_EN 0).store (dramBase 0 + 0x60) [1], ⟨2, ⟨1, 0, 7⟩, dramBase 0, dramBase 0 + 65536⟩, by decide +kernel⟩,
    ⟨(((inMode 1).setFld F.DRM_ST_DIMM_GIB 16).setFld F.HQ_FWC_BASE_BASE (dramBase 0 / 4096)).setFld F.HQ_FWC_BUF_BASE (dramBase 0 / 65536), by decide +kernel⟩, ⟨State.reset, by decide +kernel⟩⟩

theorem witness_NvmeCommands_ns :
    (∃ (y : State) (w : NsBuf), w.inRange = true ∧ y.createError w ≠ 0) ∧
    (∃ (y : State) (x : Namespace), y.liveNs 1 = some x ∧ y.serves x.ground = true ∧ y.nsReplicated x.id = false) ∧ (∃ (y : State) (x : Namespace), y.liveNs 1 = some x ∧ y.attachError x false 1 = none) ∧
    (∃ (y : State) (ns : Namespace), y.changeError ns = 0) ∧ (∃ (y : State) (ns : Namespace), y.viewPending ns = false ∧ y.standbySilent ns 0 1 = false) :=
  ⟨⟨withPf0 pfReady, NsBuf.of ([1] ++ zeros 4095), by decide +kernel⟩, ⟨withPf0 pfReady, { (default : Namespace) with id := 1, size := 1024 }, by decide +kernel⟩,
   ⟨withPf0 pfReady, { (default : Namespace) with id := 1, size := 1024 }, by decide +kernel⟩, ⟨State.reset, default, by decide⟩, ⟨withPf0 pfReady, { (default : Namespace) with id := 1, size := 1024 }, by decide +kernel⟩⟩

theorem witness_Controllers_pf0 :
    (∃ (s : State) (k : Ctrl), s.power.running = true ∧ s.ctrl s.pf0Id = some k ∧ s.quiet = true ∧ s.flag F.EP_ST_UP = false ∧ s.pf0Reached = false) ∧
    (∃ (s : State) (k : Ctrl), s.power.running = true ∧ s.ctrl s.pf0Id = some k ∧ s.quiet = true ∧ s.flag F.EP_ST_UP = true ∧ s.latching = false ∧ s.pf0Reached = true ∧ k.fabrics = false ∧
      k.cstate = 1) ∧
    (∃ (s : State) (k : Ctrl), s.power.running = true ∧ s.ctrl s.pf0Id = some k ∧ s.quiet = true ∧ s.flag F.EP_ST_UP = true ∧ s.latching = true) ∧
    (∃ (s : State) (k : Ctrl), s.power.running = true ∧ s.ctrl s.pf0Id = some k ∧ s.quiet = true ∧ s.pf0Reached = true ∧ k.fabrics = false ∧ k.cstate = 0 ∧ s.flag F.EP_CTL_PF0_AVAIL = true) ∧
    (∃ (s : State) (k : Ctrl), s.power.running = true ∧ s.ctrl s.pf0Id = some k ∧ s.quiet = true ∧ s.pf0Reached = true ∧ k.fabrics = false ∧ k.cstate = 0 ∧ s.flag F.EP_CTL_PF0_AVAIL = false) ∧
    (∃ (s : State) (k : Ctrl), s.power.running = true ∧ s.ctrl s.pf0Id = some k ∧ s.quiet = true ∧ s.pf0Reached = true ∧ k.fabrics = false ∧ k.cstate = 2 ∧ s.noTransfers k = true ∧
      k.latched = none) ∧
    (∃ (s : State) (k : Ctrl), s.power.running = true ∧ s.ctrl s.pf0Id = some k ∧ s.quiet = true ∧ s.pf0Reached = true ∧ k.fabrics = false ∧ k.cstate = 3 ∧ k.latched = none) :=
  ⟨⟨State.reset, _, by decide, rfl, by decide⟩, ⟨withPf0 pfReady, pfReady, by decide⟩, ⟨(withPf0 pfReady).setFld F.HQ_ST_FETCH_PAUSED 1, pfReady, by decide⟩,
   ⟨(withPf0 (Ctrl.pf0 1)).setFld F.EP_CTL_PF0_AVAIL 1, Ctrl.pf0 1, by decide⟩, ⟨(withPf0 (Ctrl.pf0 1)).setFld F.EP_CTL_PF0_AVAIL 0, Ctrl.pf0 1, by decide⟩,
   ⟨withPf0 { pfReady with cstate := 2 }, { pfReady with cstate := 2 }, by decide⟩, ⟨withPf0 { pfReady with cstate := 3 }, { pfReady with cstate := 3 }, by decide⟩⟩

/-- A fabrics controller on connection 2. -/
def fabCtrl (kt q : Nat) : Ctrl := { Ctrl.pf0 9 with fabrics := true, cstate := 1, kato := kt, conns := [(2, q)] }

/-- A state with the controllers of PF0 and of a fabrics host, which has sent a capsule. -/
def withFabrics (l : List Ctrl) : State :=
  let s := (withConn { oneConn with recv := [(5, [])] }).setFld F.HQ_CTL_FAB_EN 1
  { s with hq := { s.hq with ctrls := pfReady :: l } }

theorem witness_Controllers_fabrics :
    (∃ (s : State) (k c : Ctrl), s.power.running = true ∧ s.ctrl s.pf0Id = some k ∧ s.quiet = true ∧ s.ctrl 9 = some c ∧ c.fabrics = true ∧ c.kato ≠ 0) ∧
    (∃ (s : State) (k c : Ctrl), s.power.running = true ∧ s.ctrl s.pf0Id = some k ∧ s.quiet = true ∧ s.ctrl 9 = some c ∧ c.kato = 0) ∧
    (∃ (s : State) (k : Ctrl) (c : Conn) (r : Nat × Bytes), s.power.running = true ∧ s.ctrl s.pf0Id = some k ∧ s.quiet = true ∧ s.conn 2 = some c ∧ c.recv = [r] ∧ c.state = .rts ∧
      s.queuesOf 2 = [] ∧ s.flag F.HQ_CTL_FAB_EN = true ∧ c.fabricsQueue = true ∧ s.fld F.HQ_ST_FABQ < 1048576 ∧ s.serves c.desc.ground = true) ∧
    (∃ (s : State) (k : Ctrl) (c : Conn) (r : Nat × Bytes), s.power.running = true ∧ s.ctrl s.pf0Id = some k ∧ s.quiet = true ∧ s.conn 2 = some c ∧ c.recv = [r] ∧ c.state = .rts ∧
      s.queuesOf 2 = [] ∧ s.flag F.HQ_CTL_FAB_EN = false) ∧
    (∃ (s u : State) (k : Ctrl) (f : Fetch) (t : Taken) (c : Ctrl), s.power.running = true ∧ s.ctrl s.pf0Id = some k ∧ s.quiet = true ∧ takes s f .admin false u t c ∧ t.fabrics = true ∧
      t.cmd.sq = 0) ∧
    (∃ (s u : State) (k : Ctrl) (f : Fetch) (t : Taken) (c : Ctrl), s.power.running = true ∧ s.ctrl s.pf0Id = some k ∧ s.quiet = true ∧ takes s f .any false u t c ∧ t.fabrics = true ∧
      t.cmd.sq ≠ 0) := by
  let p := takenOf (withFabrics [fabCtrl 0 0]) ⟨some 2, 0, 4, 0⟩ .admin false
  let q := takenOf (withFabrics [fabCtrl 0 6]) ⟨some 2, 0, 4, 0⟩ .any false
  exact ⟨⟨withFabrics [fabCtrl 1 0], _, fabCtrl 1 0, by decide, rfl, by decide⟩, ⟨withFabrics [fabCtrl 0 0], _, fabCtrl 0 0, by decide, rfl, by decide⟩,
   ⟨withFabrics [], _, _, (5, []), by decide, rfl, by decide, rfl, by decide⟩,
   ⟨(withFabrics []).setFld F.HQ_CTL_FAB_EN 0, _, _, (5, []), by decide, rfl, by decide, rfl, by decide⟩,
   ⟨withFabrics [fabCtrl 0 0], p.1, _, ⟨some 2, 0, 4, 0⟩, p.2, ctrlOf p, by decide, rfl, by decide, ⟨rfl, rfl, by decide⟩, by decide, by decide⟩,
   ⟨withFabrics [fabCtrl 0 6], q.1, _, ⟨some 2, 0, 4, 0⟩, q.2, ctrlOf q, by decide, rfl, by decide, ⟨rfl, rfl, by decide⟩, by decide, by decide⟩⟩

/-- A state of the host endpoint with a fetch for queue 3 outstanding under a tag. -/
def withRead (k : Ctrl) (tag : Nat) : State := (withPf0 k).modEp (fun e => { e with reads := [(tag, .fetch 3)], served := true, pba0 := [3], unmasked0 := [4] })

theorem witness_HostEndpoint_link :
    (∃ (s : State) (k : Ctrl), s.power.running = true ∧ s.quiet = true ∧ s.ctrl s.pf0Id = some k ∧ s.mayTrain = false) ∧
    (∃ (s : State) (k : Ctrl), s.power.running = true ∧ s.quiet = true ∧ s.ctrl s.pf0Id = some k ∧ s.mayTrain = true ∧ s.ep.perst = false) ∧
    (∃ (s : State) (k : Ctrl), s.power.running = true ∧ s.quiet = true ∧ s.ctrl s.pf0Id = some k ∧ s.ep.perst = true ∧ s.mode = 5) ∧
    (∃ (s : State) (k : Ctrl), s.power.running = true ∧ s.quiet = true ∧ s.ctrl s.pf0Id = some k ∧ s.ep.perst = true ∧ s.mode = 0 ∧ s.fld F.PKG_WIND_STEP = 2) ∧
    (∃ (s : State) (k : Ctrl), s.power.running = true ∧ s.quiet = true ∧ s.ctrl s.pf0Id = some k ∧ s.ep.perst = true ∧ s.mode = 0 ∧ s.fld F.PKG_WIND_STEP = 3) ∧
    (∃ (s : State) (k : Ctrl), s.power.running = true ∧ s.quiet = true ∧ s.ctrl s.pf0Id = some k ∧ s.inLockSet .EP_CTL 0 0 = false ∧ s.flag F.EP_ST_UP = true ∧ bit 3 1 = true ∧
      s.flag F.EP_CTL_PF0_AVAIL = false ∧ k.cstate = 0 ∧ k.fabrics = false ∧ k.aqOk = true ∧ k.latched = some true ∧ bit 3 0 = true) ∧
    (∃ (s : State) (k : Ctrl), s.power.running = true ∧ s.quiet = true ∧ s.ctrl s.pf0Id = some k ∧ s.inLockSet .EP_CTL 0 0 = false ∧ s.flag F.EP_CTL_PF0_AVAIL = false ∧ k.latched = none) := by
  let per := fun (s : State) => s.modEp (fun e => { e with perst := true })
  refine ⟨⟨State.reset, _, by decide, by decide, rfl, by decide⟩, ⟨(withPf0 pfReady).modEp (fun e => { e with perst := false }), pfReady, by decide⟩,
    ⟨per ((withPf0 pfReady).setFld F.PKG_MODE_MODE 5), pfReady, by decide⟩, ⟨per ((withPf0 pfReady).setFld F.PKG_MODE_MODE 0 |>.setFld F.PKG_WIND_STEP 2), pfReady, by decide⟩,
    ⟨per ((withPf0 pfReady).setFld F.PKG_MODE_MODE 0 |>.setFld F.PKG_WIND_STEP 3), pfReady, by decide⟩,
    ⟨(withPf0 { Ctrl.pf0 1 with aqOk := true, latched := some true }).setFld F.EP_CTL_PF0_AVAIL 0, { Ctrl.pf0 1 with aqOk := true, latched := some true }, by decide⟩,
    ⟨(withPf0 pfReady).setFld F.EP_CTL_PF0_AVAIL 0, pfReady, by decide⟩⟩

theorem witness_HostEndpoint_requests :
    (∃ (s : State) (k : Ctrl), s.power.running = true ∧ s.quiet = true ∧ s.ctrl s.pf0Id = some k ∧ s.flag F.EP_ST_UP = true ∧ s.fld F.HQ_ST_CSTATE = 2) ∧
    (∃ (s : State) (k : Ctrl), s.power.running = true ∧ s.quiet = true ∧ s.ctrl s.pf0Id = some k ∧ s.flag F.EP_ST_UP = true ∧ s.flag F.EP_ST_DRAIN0 = true) ∧
    (∃ (s : State) (k : Ctrl), s.power.running = true ∧ s.quiet = true ∧ s.ctrl s.pf0Id = some k ∧ s.flag F.EP_ST_UP = true ∧ s.flag F.EP_ST_DRAIN0 = false ∧ s.ep.served = true ∧
      3 ∈ s.pba 0 ∧ s.mayIssue 0 = true ∧ s.txOff = false ∧ s.epHeld = false ∧ s.ep.reads.find? (fun r => r.1 == 1023) = some (1023, .fetch 3) ∧
      ∃ q, k.sqs.find? (fun q => q.qid == 3) = some q ∧ q.retries = 0) ∧
    (∃ (s : State) (k : Ctrl), s.power.running = true ∧ s.quiet = true ∧ s.ctrl s.pf0Id = some k ∧ s.ep.reads.find? (fun r => r.1 == 0) = some (0, .fetch 3) ∧
      ∃ q, k.sqs.find? (fun q => q.qid == 3) = some q ∧ q.retries ≠ 0) ∧
    (∃ (s : State) (k : Ctrl), s.power.running = true ∧ s.quiet = true ∧ s.ctrl s.pf0Id = some k ∧ s.flag F.EP_ST_UP = true ∧ s.ep.served = false ∧ ∀ r ∈ s.ep.reads, r.1 ≠ 5) ∧
    (∃ (s : State) (k : Ctrl), s.power.running = true ∧ s.quiet = true ∧ s.ctrl s.pf0Id = some k ∧ s.readOf 5 none = none) ∧
    (∃ (s : State) (k : Ctrl), s.power.running = true ∧ s.quiet = true ∧ s.ctrl s.pf0Id = some k ∧ s.mayIssue 1 = true ∧ 31 ∈ s.ep.unmasked1 ∧ bit (2 ^ 31) 31 = true ∧ s.txOff = false) := by
  let again : Ctrl := { pfReady with sqs := mapWhere (fun x => x.qid == 3) (fun x => { x with retries := 1 }) pfReady.sqs }
  refine ⟨⟨(withPf0 pfReady).setFld F.HQ_ST_CSTATE 2, pfReady, by decide⟩, ⟨(withRead pfReady 0).setFld F.EP_ST_DRAIN0 1, pfReady, by decide⟩, ⟨withRead pfReady 1023, pfReady, ?_⟩,
    ⟨withRead again 0, again, by decide, by decide, by decide, by decide, ⟨3, 3, 8, 0, 3, none, 1⟩, by decide, by decide⟩, ⟨(withPf0 pfReady).modEp (fun e => { e with served := false }), pfReady, by decide⟩,
    ⟨withPf0 pfReady, pfReady, by decide⟩, ⟨((withPf0 pfReady).setFld F.EP_ST_BME1 1).modEp (fun e => { e with unmasked1 := [31] }), pfReady, by decide⟩⟩
  exact ⟨by decide, by decide, rfl, by decide, by decide, by decide, by decide, by decide, by decide, by decide, by decide, _, rfl, by decide⟩

/-! ## Firmware update, sampler, CPU complex -/

/-- FWU_CMD with GO, an operation and a length. -/
def flashCmd (op n : Nat) : Nat := 2 ^ 63 + op * 2 ^ 60 + n

/-- A state whose flash command names slot B and motif 0's service SRAM. -/
def flashAt (ofs mem : Nat) : State := (((inMode 1).setFld F.FWU_FLASH_OFS ofs).setFld F.FWU_MEM_ADDR mem).setFld F.FWU_ST_BUSY 0

theorem witness_FirmwareAndCpu_flash :
    (∃ s : State, s.power.running = true ∧ s.flag F.FWU_ST_BUSY = true) ∧
    (∃ s : State, s.power.running = true ∧ s.inLockSet .FWU_CMD 0 0 = false ∧ s.flag F.FWU_ST_BUSY = false ∧ bit (flashCmd 1 4096) 63 = true ∧ bits (flashCmd 1 4096) 61 60 = 1 ∧
      s.flashRangeOk 1 (s.fld F.FWU_FLASH_OFS) (flashCmd 1 4096 % 2 ^ 32) = true) ∧
    (∃ s : State, s.power.running = true ∧ s.inLockSet .FWU_CMD 0 0 = false ∧ s.flag F.FWU_ST_BUSY = false ∧ bit (flashCmd 1 4095) 63 = true ∧ bits (flashCmd 1 4095) 61 60 = 1 ∧
      s.flashRangeOk 1 (s.fld F.FWU_FLASH_OFS) (flashCmd 1 4095 % 2 ^ 32) = false) ∧
    (∃ s : State, s.power.running = true ∧ s.inLockSet .FWU_CMD 0 0 = false ∧ s.flag F.FWU_ST_BUSY = false ∧ bits (flashCmd 2 16) 61 60 = 2 ∧
      s.flashRangeOk 2 (s.fld F.FWU_FLASH_OFS) (flashCmd 2 16 % 2 ^ 32) = true ∧ s.reachesAll (.engine fwuClass) false (s.fld F.FWU_MEM_ADDR) 16 = true ∧
      regionOf (s.fld F.FWU_MEM_ADDR) ≠ .regs ∧ s.ms.errs = [] ∧ s.poisoned (s.fld F.FWU_MEM_ADDR) 16 = false) ∧
    (∃ s : State, s.power.running = true ∧ s.inLockSet .FWU_CMD 0 0 = false ∧ s.flag F.FWU_ST_BUSY = false ∧ bits (flashCmd 3 16) 61 60 = 3 ∧
      s.flashRangeOk 3 (s.fld F.FWU_FLASH_OFS) (flashCmd 3 16 % 2 ^ 32) = true ∧ s.reachesAll (.engine fwuClass) true (s.fld F.FWU_MEM_ADDR) 16 = false) := by
  refine ⟨⟨State.reset.setFld F.FWU_ST_BUSY 1, by decide⟩, ⟨flashAt 0x8000000 0x10000000, by decide +kernel⟩, ⟨flashAt 0x8000000 0x10000000, by decide +kernel⟩,
    ⟨flashAt 0x8000000 0x10000000, by decide +kernel⟩, ⟨flashAt 0x8000000 0, by decide +kernel⟩⟩

/-- A state with a flash operation under way. -/
def withFop (op : Nat) (d : Bytes) : State := { (flashAt 0x8000000 0x10000000) with fop := some ⟨op, 0x8000000, 4, 0x10000000, d⟩ }

theorem witness_FirmwareAndCpu_ops :
    (∃ s : State, s.power.running = true ∧ s.fop = none) ∧
    (∃ (s : State) (f : FlashOp), s.power.running = true ∧ s.fop = some f ∧ f.data.length ≤ f.len ∧ f.op = 1) ∧
    (∃ (s : State) (f : FlashOp), s.power.running = true ∧ s.fop = some f ∧ f.op = 2 ∧ f.data.length = f.len ∧ ∀ x, x < f.len → Sparse.get flashErased s.flash (f.ofs + x) = 0xFF) ∧
    (∃ (s : State) (f : FlashOp), s.power.running = true ∧ s.fop = some f ∧ f.op = 2 ∧ f.data.length = f.len ∧ s.flashRead f.ofs f.len ≠ f.data) ∧
    (∃ (s : State) (f : FlashOp), s.power.running = true ∧ s.fop = some f ∧ f.data.length ≤ f.len ∧ f.op = 3 ∧ s.reachesAll (.engine fwuClass) true f.mem f.len = true ∧
      regionOf f.mem ≠ .regs) :=
  ⟨⟨State.reset, by decide⟩, ⟨withFop 1 [], _, by decide, rfl, by decide, rfl⟩, ⟨withFop 2 [1, 2, 3, 4], _, by decide, rfl, rfl, rfl, fun _ _ => rfl⟩,
   ⟨withFop 2 [1, 2, 3, 4], _, by decide, rfl, rfl, rfl, by decide⟩, ⟨withFop 3 [], _, by decide, rfl, by decide, rfl, by decide +kernel, by decide⟩⟩

/-- FWU_COMMIT with GO, a slot and an action. -/
def commitOf (slot action : Nat) : Nat := 2 ^ 31 + action * 2 ^ 28 + slot * 2 ^ 27

theorem witness_FirmwareAndCpu_commit :
    (∃ s : State, s.power.running = true ∧ s.inLockSet .FWU_COMMIT 0 0 = false ∧ s.flag F.FWU_ST_BUSY = false ∧ bit (commitOf 1 0) 31 = true ∧ bits (commitOf 1 0) 29 28 = 0) ∧
    (∃ s : State, s.power.running = true ∧ s.inLockSet .FWU_COMMIT 0 0 = false ∧ s.flag F.FWU_ST_BUSY = false ∧ bits (commitOf 0 1) 29 28 = 1 ∧ s.runningSlot = some (bits (commitOf 0 1) 27 27)) ∧
    (∃ s : State, s.power.running = true ∧ s.inLockSet .FWU_COMMIT 0 0 = false ∧ s.flag F.FWU_ST_BUSY = false ∧ bits (commitOf 1 2) 29 28 = 2 ∧ s.runningSlot ≠ some (bits (commitOf 1 2) 27 27)) ∧
    (∃ s : State, s.power.running = true ∧ s.inLockSet .FWU_COMMIT 0 0 = false ∧ s.flag F.FWU_ST_BUSY = false ∧ bits (commitOf 1 3) 29 28 = 3 ∧
      s.runningSlot ≠ some (bits (commitOf 1 3) 27 27) ∧ s.mode ≠ 1) ∧
    (∃ s : State, s.power.running = true ∧ s.inLockSet .FWU_COMMIT 0 0 = false ∧ s.flag F.FWU_ST_BUSY = false ∧ s.runningSlot ≠ some (bits (commitOf 1 3) 27 27) ∧ s.mode = 1 ∧
      s.fld F.PKG_MODE_PARTNER_MODE ≠ 1) ∧
    (∃ s : State, s.power.running = true ∧ s.inLockSet .FWU_COMMIT 0 0 = false ∧ s.flag F.FWU_ST_BUSY = false ∧ s.runningSlot ≠ some (bits (commitOf 1 3) 27 27) ∧ s.mode = 1 ∧
      s.fld F.PKG_MODE_PARTNER_MODE = 1 ∧ s.quiet = true) := by
  let a := (State.reset.setFld F.FWU_ST_RUNNING 1).setFld F.FWU_ST_RUN_SLOT 0
  let p := (flashAt 0 0).setFld F.PKG_MODE_PARTNER_MODE 1
  refine ⟨⟨State.reset, by decide⟩, ⟨a, by decide⟩, ⟨State.reset, by decide⟩, ⟨State.reset, by decide⟩, ⟨(flashAt 0 0).setFld F.PKG_MODE_PARTNER_MODE 0, by decide⟩, ⟨p, by decide⟩⟩

theorem witness_FirmwareAndCpu_cpu :
    (∃ (s : State) (k v : Nat), s.power.running = true ∧ k < 4 ∧ bit v 63 = true ∧ s.smpLast = none) ∧
    (∃ (s : State) (k v o : Nat), s.power.running = true ∧ k < 4 ∧ bit v 63 = true ∧ s.smpLast = some o) ∧
    (∃ (s : State) (m : Nat), s.power.running = true ∧ s.hasMotif m = false) ∧
    (∃ (s : State) (m h v : Nat), s.power.running = true ∧ s.hasMotif m = true ∧ h < 8 ∧ bit v h = true ∧ bit (s.fld F.CPU_ST_RUNNING m) h = false ∧ s.fld F.CPU_RESET_PC_PC m h ≠ 0) ∧
    (∃ (s : State) (m h v : Nat), s.power.running = true ∧ s.hasMotif m = true ∧ h < 8 ∧ bit v h = true ∧ bit (s.fld F.CPU_ST_RUNNING m) h = true) ∧
    (∃ (s : State) (m : Nat), s.power.running = true ∧ s.hasMotif m = true ∧ s.inLockSet .CPU_HPM_EVT m (29 * 8 + (31 - 3)) = false) ∧
    (∃ (s : State) (m h l i : Nat), s.power.running = true ∧ i = 511 ∧ h = 8 ∧ l = 1 ∧ s.hasMotif m = true ∧ (m, h, l, i) ∉ s.eip) ∧
    (∃ (s : State) (m h l i : Nat), s.power.running = true ∧ (m, h, l, i) ∈ s.eip) := by
  refine ⟨⟨State.reset, 3, 2 ^ 63, by decide⟩, ⟨State.reset.sample 0x000E [], 0, 2 ^ 63, 0, by decide +kernel⟩, ⟨State.reset, 8, by decide⟩,
    ⟨State.reset.setFld F.CPU_RESET_PC_PC 64 7 0, 7, 0, 1, by decide⟩, ⟨State.reset.setFld F.CPU_ST_RUNNING 128 7, 7, 7, 128, by decide⟩, ⟨State.reset, 7, by decide⟩,
    ⟨State.reset, 7, 8, 1, 511, by decide⟩, ⟨{ State.reset with eip := [(0, 0, 0, 1)] }, 0, 0, 0, 1, by decide⟩⟩

/-! ## Single steps -/

/-- The table gives no row bits, so no word spells a command. -/
theorem test_no_words : Sys2Proof.decodeTableWord 8 0 = none := rfl

/-- The block idles on an empty queue. -/
theorem test_idle : step State.reset = .next State.reset := rfl

/-- R65: a read of STC_NUM latches the phase. -/
theorem test_num_read : (nextOf (exec (.stcNumRead (.core 0 0) 999) State.reset)).map (fun t => (t.fld F.STC_PH_LATCH_PHASE, t.num)) = some (999, 0) := by decide +kernel

/-- R457: a byte programmed twice reads the AND; a byte never programmed reads FFH. -/
theorem test_flash_and : ((State.reset.flashProgram 8 [0x0F]).flashProgram 8 [0xF3]).flashRead 8 2 = [0x03, 0xFF] := by decide

/-- Bytes of the MRAM written read back, and those beside them read 0. -/
theorem test_mram : (State.reset.mramWrite 0x2005 [1, 2]).mramRead 0x2004 4 = [0, 1, 2, 0] := by decide

/-- The AES-256 example of FIPS 197, appendix C.3. -/
theorem test_aes : aesEncryptBlock (aesRoundKeys (bytesOf (List.range 32))) (bytesOf ((List.range 16).map (fun i => 17 * i))) =
    [0x8E, 0xA2, 0xB7, 0xCA, 0x51, 0x67, 0x45, 0xBF, 0xEA, 0xFC, 0x49, 0x90, 0x4B, 0x49, 0x60, 0x89] := by decide +kernel

/-- The check value of CRC-32C, over the digits 1 to 9. -/
theorem test_crc : crc32c (bytesOf ((List.range 9).map (fun i => 0x31 + i))) = 0xE3069283 := by decide +kernel

/-- The example of FIPS 180 for SHA-384, over abc. -/
theorem test_sha : (sha384 [0x61, 0x62, 0x63]).take 8 = [0xCB, 0x00, 0x75, 0x3F, 0x45, 0xA3, 0x5E, 0x8B] := by decide +kernel

/-! ## The first message of a replication session -/

/-- The status with which a message opens, 0 where it opens. -/
def openStatus (o : Option (State × Bytes × Except Nat Bytes)) : Option Nat := match o with
  | some (_, _, .ok _) => some 0
  | some (_, _, .error e) => some e
  | none => none

/-- EPOCH_ACK of epoch 7 with a tag. -/
def ackMsg (tag : Bytes) : Bytes := replHeader 6 0 0 7 (zeros 12) ++ tag

/-- The tag of that message under a key of zeros. -/
def ackTag : Bytes := [78, 35, 40, 25, 199, 73, 5, 242, 37, 55, 219, 174, 21, 123, 136, 250]

/-- Target 0 as a sender whose session slot holds a key of zeros, with a message. -/
def session (msg : Bytes) : State := (withTarget false msg default).modCip (fun c => { c with keys := [(0, zeros 32)] })

theorem witness_Replication_opens :
    (∃ s : State, s.power.running = true ∧ s.targetOn 0 false = true ∧ openStatus (s.replOpen 0 6) = some 0) ∧
    (∃ s : State, s.power.running = true ∧ s.targetOn 0 false = true ∧ openStatus (s.replOpen 0 6) = some 0x5701) ∧
    (∃ s : State, s.power.running = true ∧ s.targetOn 0 false = true ∧ openStatus (s.replOpen 0 6) = some cipWaits) ∧
    (∃ s : State, s.power.running = true ∧ s.targetOn 0 false = true ∧ openStatus (s.replOpen 0 6) = some 0x2703) :=
  ⟨⟨session (ackMsg ackTag), by decide +kernel⟩, ⟨session (ackMsg (zeros 16)), by decide +kernel⟩,
   ⟨((session (ackMsg ackTag)).setFld F.CIP_FENCE_LO_LANE (2 ^ 64 - 1)).setFld F.CIP_FENCE_HI_LANE (2 ^ 32 - 1), by decide +kernel⟩,
   ⟨(session (ackMsg ackTag)).setFld F.CIP_SLOT_ST_STATE 0, by decide +kernel⟩⟩

end Sys2Proof.Tests
end

section
/-! SUPPORT. Where registers stand and what an access to one names: the address of an element found in a table is its own (R6, R7). -/

namespace Sys2Proof.Machine

/-- The offset of the element that a block offset names is that offset. -/
theorem RegSpec.elemOfs_of_elemAt {t : RegSpec} {ofs i : Nat} (h : t.elemAt ofs = some i) : t.elemOfs i = ofs := by
  have split : ∀ a j, j < t.count2 → (a * t.count2 + j) / t.count2 = a ∧ (a * t.count2 + j) % t.count2 = j := fun a j hj => by
    rw [Nat.mul_comm, Nat.mul_add_div (by omega), Nat.mul_add_mod, Nat.mod_eq_of_lt hj, Nat.div_eq_of_lt hj]
    exact ⟨by omega, rfl⟩
  unfold RegSpec.elemAt at h
  rw [Option.ite_none_left_eq_some] at h
  dsimp only at h
  rw [Option.ite_none_right_eq_some] at h
  obtain ⟨hlo, ⟨hrest, -, hj⟩, hi⟩ := h
  obtain rfl := Option.some.inj hi
  obtain ⟨hd, hm⟩ := split (if t.stride = 0 then 0 else (ofs - t.off) / t.stride) _ hj
  unfold RegSpec.elemOfs
  rw [hd, hm]
  have outer : (if t.stride = 0 then 0 else (ofs - t.off) / t.stride) * t.stride + (if t.stride = 0 then ofs - t.off else (ofs - t.off) % t.stride) = ofs - t.off := by
    split
    · omega
    · rw [Nat.mul_comm]; exact Nat.div_add_mod _ _
  generalize (if t.stride = 0 then ofs - t.off else (ofs - t.off) % t.stride) = rest at *
  have inner : (if t.stride2 = 0 then 0 else rest / t.stride2) * t.stride2 = rest := by
    by_cases h2 : t.stride2 = 0
    · rw [if_pos h2] at hrest ⊢
      omega
    · rw [if_neg h2] at hrest ⊢
      exact Nat.div_mul_cancel (Nat.dvd_of_mod_eq_zero hrest)
  omega

/-- The register found at an offset of a block stands there. -/
theorem regAtOffset_some {pkg : Bool} {block ofs : Nat} {r : Reg} {i : Nat} (h : regAtOffset pkg block ofs = some (r, i)) :
    r.spec.pkg = pkg ∧ r.spec.block = block ∧ r.spec.elemAt ofs = some i := by
  obtain ⟨q, -, hq⟩ := List.exists_of_findSome?_eq_some h
  split at hq
  · rename_i hc
    simp only [Bool.and_eq_true, beq_iff_eq] at hc
    obtain ⟨x, hx, he⟩ := Option.map_eq_some_iff.1 hq
    simp only [Prod.mk.injEq] at he
    obtain ⟨rfl, rfl⟩ := he
    exact ⟨hc.1, hc.2, hx⟩
  · cases hq

/-- The register found at an address has that address, and is of motif 0 where it stands in the package window. -/
theorem regOfAddr_some {a : Nat} {r : Reg} {m i : Nat} (h : regOfAddr a = some (r, m, i)) : r.addr m i = a ∧ (r.spec.pkg = true → m = 0) := by
  unfold regOfAddr at h
  split at h
  · obtain ⟨⟨q, j⟩, hq, he⟩ := Option.map_eq_some_iff.1 h
    simp only [Prod.mk.injEq] at he
    obtain ⟨rfl, rfl, rfl⟩ := he
    obtain ⟨hp, hb, he⟩ := regAtOffset_some hq
    refine ⟨?_, fun _ => rfl⟩
    unfold Reg.addr windowBase blockSize
    rw [RegSpec.elemOfs_of_elemAt he, hp, hb, if_pos rfl, if_pos rfl]
    omega
  · split at h
    · cases h
    · obtain ⟨⟨q, j⟩, hq, he⟩ := Option.map_eq_some_iff.1 h
      simp only [Prod.mk.injEq] at he
      obtain ⟨rfl, rfl, rfl⟩ := he
      obtain ⟨hp, hb, he⟩ := regAtOffset_some hq
      refine ⟨?_, fun hk => absurd hk (by simp [hp])⟩
      unfold Reg.addr windowBase blockSize
      rw [RegSpec.elemOfs_of_elemAt he, hp, hb, if_neg Bool.false_ne_true, if_neg Bool.false_ne_true]
      omega

/-- What stands at the address of a motif's register is looked up in its block. -/
theorem regOfAddr_motif (r : Reg) (m i : Nat) (hp : r.spec.pkg = false) (hb : r.spec.block < 16) (ho : r.spec.elemOfs i < 0x100000) :
    regOfAddr (r.addr m i) = (regAtOffset false r.spec.block (r.spec.elemOfs i)).map (fun p => (p.1, m, p.2)) := by
  have ha : r.addr m i = 0x1000000 * (m + 1) + r.spec.block * 0x100000 + r.spec.elemOfs i := by
    unfold Reg.addr windowBase blockSize
    rw [hp, if_neg Bool.false_ne_true, if_neg Bool.false_ne_true]
  unfold regOfAddr
  rw [if_neg (by omega), if_neg (by omega)]
  dsimp only
  have hw : r.addr m i % 0x1000000 / 0x100000 = r.spec.block := by omega
  have hx : r.addr m i % 0x1000000 % 0x100000 = r.spec.elemOfs i := by omega
  have hm : r.addr m i / 0x1000000 - 1 = m := by omega
  rw [hw, hx, hm]

/-- An access performs on the register that stands at its address, where its width is the register's own (R7). -/
theorem State.regFor_some {s : State} {addr width : Nat} {r : Reg} {m i : Nat} (h : s.regFor addr width = some (r, m, i)) :
    regOfAddr addr = some (r, m, i) ∧ width = r.width := by
  unfold State.regFor at h
  split at h
  · cases h
  · rename_i q n j hq
    split at h
    · rename_i hc
      simp only [Bool.and_eq_true, decide_eq_true_eq] at hc
      simp only [Option.some.injEq, Prod.mk.injEq] at h
      obtain ⟨rfl, rfl, rfl⟩ := h
      exact ⟨hq, hc.1.2⟩
    · cases h

end Sys2Proof.Machine
end

section
/-! SUPPORT. Operations that touch the registers alone, and the performance counters that an access counts in (R474). -/

namespace Sys2Proof.Machine

/-- `t` is `s` but for its registers. -/
def State.onlyRegs (s t : State) : Prop := t = { s with regs := t.regs }

theorem State.onlyRegs_refl (s : State) : s.onlyRegs s := rfl

section
variable {s t u : State} (h : s.onlyRegs t)
include h

theorem State.onlyRegs.trans (g : t.onlyRegs u) : s.onlyRegs u := by
  unfold State.onlyRegs at *
  rw [g, h]

theorem State.onlyRegs.setReg {r : Reg} {m i v : Nat} : s.onlyRegs (t.setReg r m i v) := h.trans rfl

theorem State.onlyRegs.setFld {f : Fld Reg} {x m i : Nat} : s.onlyRegs (t.setFld f x m i) := h.trans rfl

theorem State.onlyRegs.bump {f : Fld Reg} {x m i : Nat} : s.onlyRegs (t.bump f x m i) := h.trans rfl

/-- What does not look at the registers is the same in both states. -/
theorem State.onlyRegs.same {α : Type} (p : State → α) (hp : ∀ (u : State) (l : Sparse Word64), p { u with regs := l } = p u) : p t = p s := by
  rw [h]; exact hp s _

end

theorem State.onlyRegs_each {α : Type} (s : State) (l : List α) (f : State → α → State) (h : ∀ (t : State) (a : α), t.onlyRegs (f t a)) :
    s.onlyRegs (s.each l f) :=
  State.each_holds (fun t => s.onlyRegs t) s l f (State.onlyRegs_refl s) (fun t a _ ht => ht.trans (h t a))

theorem State.onlyRegs_hpmCount (s : State) (m h code : Nat) : s.onlyRegs (s.hpmCount m h code) := by
  unfold State.hpmCount
  split
  · exact State.onlyRegs_each _ _ _ (fun t i => (State.onlyRegs_refl t).setReg)
  · exact State.onlyRegs_refl s

/-- An access counted changes registers alone. -/
theorem State.onlyRegs_hpmAccess (s : State) (who : Who) (m : Nat) (codes : List Nat) : s.onlyRegs (s.hpmAccess who m codes) := by
  cases who with
  | core c h => exact State.onlyRegs_each _ _ _ (fun t x => State.onlyRegs_hpmCount ..)
  | engine _ => exact State.onlyRegs_refl s
  | host => exact State.onlyRegs_refl s

/-- A performance event changes no register but the 261 counters of a motif. -/
theorem State.reg_hpmCount (s : State) (m h code : Nat) (q : Reg) (n j : Nat) (hq : ∀ c < 261, q.addr n j ≠ Reg.CPU_HPM_CNT.addr m c) :
    (s.hpmCount m h code).reg q n j = s.reg q n j := by
  unfold State.hpmCount
  split
  · rename_i hc
    obtain ⟨-, hh, -⟩ := hc
    refine State.each_keeps (fun t => t.reg q n j) _ _ _ (fun t i hi => State.reg_setReg_other _ _ _ _ _ _ _ _ (hq _ ?_).symm)
    have := List.mem_range.1 (List.mem_filter.1 hi).1
    omega
  · rfl

/-- An access counted changes no register but performance counters. -/
theorem State.reg_hpmAccess (s : State) (who : Who) (m : Nat) (codes : List Nat) (q : Reg) (n j : Nat)
    (hq : ∀ k, ∀ c < 261, q.addr n j ≠ Reg.CPU_HPM_CNT.addr k c) : (s.hpmAccess who m codes).reg q n j = s.reg q n j := by
  cases who with
  | core c h => exact State.each_keeps (fun t => t.reg q n j) _ _ _ (fun t x _ => State.reg_hpmCount _ _ _ _ _ _ _ (hq c))
  | engine _ => rfl
  | host => rfl

/-- An access counted leaves the fields of the package window alone. -/
theorem State.fld_hpmAccess (s : State) (who : Who) (m : Nat) (codes : List Nat) (g : Fld Reg) (n j : Nat) (hg : g.reg.addr n j < 0x1000000) :
    (s.hpmAccess who m codes).fld g n j = s.fld g n j := by
  unfold State.fld
  rw [State.reg_hpmAccess]
  intro k c _
  have := Reg.addr_motif .CPU_HPM_CNT k c rfl
  omega

/-- Every performance counter is found at its address. -/
theorem regAtOffset_hpmCnt : ∀ c < 261, regAtOffset false 1 (Reg.CPU_HPM_CNT.spec.elemOfs c) = some (.CPU_HPM_CNT, c) := by decide +kernel

/-- No other register stands where a performance counter does. -/
theorem addr_ne_hpmCnt {r : Reg} {m i : Nat} (hr : r ≠ .CPU_HPM_CNT) (h : regOfAddr (r.addr m i) = some (r, m, i)) (k c : Nat) (hc : c < 261) :
    r.addr m i ≠ Reg.CPU_HPM_CNT.addr k c := by
  intro e
  have ho : Reg.CPU_HPM_CNT.spec.elemOfs c < 0x100000 := by
    show 0x30018 + c / 29 * 0x100 + c % 29 * 8 < 0x100000
    omega
  rw [e, regOfAddr_motif _ _ _ rfl (by decide) ho] at h
  rw [show Reg.CPU_HPM_CNT.spec.block = 1 from rfl, regAtOffset_hpmCnt c hc] at h
  simp only [Option.map_some, Option.some.injEq, Prod.mk.injEq] at h
  exact hr h.1.symm

end Sys2Proof.Machine
end

section
/-! SUPPORT. Accesses that no register takes up (R7, R471). -/

namespace Sys2Proof.Machine

/-- The bytes of a number come from its low bits alone. -/
theorem leBytes_mod (n v : Nat) : leBytes n (v % 2 ^ (8 * n)) = leBytes n v := by
  induction n generalizing v with
  | zero => rfl
  | succ n ih =>
    have e : 2 ^ (8 * (n + 1)) = 256 * 2 ^ (8 * n) := by rw [show 8 * (n + 1) = 8 + 8 * n by omega, Nat.pow_add]
    rw [leBytes, leBytes, e, Nat.mod_mul_right_div_self, ih]
    congr 1
    apply BitVec.eq_of_toNat_eq
    rw [BitVec.toNat_ofNat, BitVec.toNat_ofNat, Nat.mod_mul_right_mod]

/-- An identity is taken from the low 32 bits of what is written (R471). -/
theorem State.seteipnum_mod (s : State) (m h l v : Nat) (be b : Bool) : s.seteipnum m h l (v % 2 ^ 32) be b = s.seteipnum m h l v be b := by
  unfold State.seteipnum swap4
  rw [show leBytes 4 (v % 2 ^ 32) = leBytes 4 v from leBytes_mod 4 v, Nat.mod_mod]

/-- A write where the requester does not reach the window, or where nothing of that width stands, changes nothing (R7). -/
theorem State.registerWrite_nothing (s : State) (who : Who) (addr width v : Nat)
    (h : s.regsOpen who = false ∨ (s.regFor addr width = none ∧ (eipFile addr = none ∨ width ≠ 4))) : s.registerWrite who addr width v = s := by
  unfold State.registerWrite
  rcases h with h | ⟨h, h'⟩
  · simp [h]
  · rw [h]
    rcases h' with h' | h'
    · simp [h']
    · cases eipFile addr <;> simp [h']

/-- A write of 4 bytes to a register of an interrupt file sets an identity pending (R471). -/
theorem State.registerWrite_eipFile (s : State) (who : Who) (addr v : Nat) (f : Nat × Nat × Nat × Bool) (ho : s.regsOpen who = true)
    (h : s.regFor addr 4 = none) (hf : eipFile addr = some f) :
    s.registerWrite who addr 4 v = (s.hpmAccess who (windowMotif who addr) []).seteipnum f.1 f.2.1 f.2.2.1 v f.2.2.2 (who == .host) := by
  unfold State.registerWrite
  rw [if_pos ho, h]
  simp [hf]

/-- An interrupt file stands in a motif's window. -/
theorem windowMotif_eipFile {addr : Nat} {f : Nat × Nat × Nat × Bool} (hf : eipFile addr = some f) (who : Who) : windowMotif who addr = f.1 := by
  unfold eipFile at hf
  dsimp only at hf
  rw [Option.ite_none_right_eq_some] at hf
  obtain ⟨⟨ha, -⟩, he⟩ := hf
  obtain rfl := Option.some.inj he
  unfold windowMotif
  rw [if_pos ha]

/-- A read of a core where no register stands is answered, and changes nothing else (R7). -/
theorem State.registerRead_none (s : State) (c h addr width : Nat) (hn : s.regFor addr width = none) :
    s.registerRead (.core c h) addr width = s.out (.coreData c h (0x4000000000 + addr) (leBytes width (s.readValue addr width))) := by
  unfold State.registerRead State.answerReg
  have : (s.out (.coreData c h (0x4000000000 + addr) (leBytes width (s.readValue addr width)))).regFor addr width = none := hn
  simp only [State.regsOpen, if_true, this]

/-- What a read of a register of an interrupt file returns (log 83). -/
theorem State.readValue_eipFile (s : State) (addr width : Nat) (f : Nat × Nat × Nat × Bool) (hn : s.regFor addr width = none)
    (hf : eipFile (addr - addr % 4) = some f) (hm : s.hasMotif f.1 = true) : s.readValue addr width = if width = 4 ∧ addr % 4 = 0 then 0 else 256 ^ width - 1 := by
  unfold State.readValue
  rw [hn, hf]
  simp [hm]

/-- A read of a register that is present with a width or alignment not its own returns all ones (R7). -/
theorem State.readValue_otherWidth (s : State) (addr width : Nat) {r : Reg} {n j : Nat} (hn : s.regFor addr width = none)
    (hf : eipFile (addr - addr % 4) = none) (hr : regOfAddr (addr - addr % 4) = some (r, n, j)) (hp : r.presentIn s.fuses.caps n = true)
    (hx : needsX r = false) : s.readValue addr width = 256 ^ width - 1 := by
  unfold State.readValue
  rw [hn, hf, hr]
  simp [hp, hx]

/-- A read where no register stands returns zero (R7). -/
theorem State.readValue_noRegister (s : State) (addr width : Nat) (hn : s.regFor addr width = none) (hf : eipFile (addr - addr % 4) = none)
    (h4 : regOfAddr (addr - addr % 4) = none) (h8 : regOfAddr (addr - addr % 8) = none) : s.readValue addr width = 0 := by
  unfold State.readValue
  rw [hn, hf, h4, h8]
  simp

/-- A powered head takes a write of a register up. -/
theorem exec_registerWrite_on (s : State) (who : Who) (addr width v : Nat) (h : s.power.running = true) :
    exec (.registerWrite who addr width v) s = .next (s.registerWrite who addr width v) := live_on s (fun s => s.registerWrite who addr width v) h

/-- A powered head takes a read of a register up. -/
theorem exec_rcRead_on (s : State) (who : Who) (addr width : Nat) (h : s.power.running = true) :
    exec (.rcRead who addr width) s = .next (s.registerRead who addr width) := live_on s (fun s => s.registerRead who addr width) h

/-- A powered head takes a write of seteipnum up. -/
theorem exec_imsicSeteipnum_on (s : State) (m h l v : Nat) (be b : Bool) (hr : s.power.running = true) :
    exec (.imsicSeteipnum m h l v be b) s = .next (s.seteipnum m h l v be b) := live_on s (fun s => s.seteipnum m h l v be b) hr

/-- Settles O7: a write that no register takes up is dropped or goes to the interrupt file, and a read of a core there is answered by its kind of address. -/
theorem registerAccessRefused : Obligations.RegisterAccessRefused := by
  unfold Obligations.RegisterAccessRefused
  intro s addr width v hrun
  refine ⟨fun who h => ?_, fun f hn hf => ⟨fun c h => ?_, ?_⟩, fun c h hn => ⟨_, exec_rcRead_on _ _ _ _ hrun, ?_, ?_, ?_, ?_⟩⟩
  · rw [exec_registerWrite_on _ _ _ _ _ hrun, State.registerWrite_nothing _ _ _ _ _ h]
  · have hrun' : (s.hpmAccess (.core c h) f.1 []).power.running = true := by
      rw [(State.onlyRegs_hpmAccess s _ _ _).same (fun t => t.power) (fun _ _ => rfl), hrun]
    rw [exec_registerWrite_on _ _ _ _ _ hrun, exec_imsicSeteipnum_on _ _ _ _ _ _ _ hrun', State.registerWrite_eipFile _ _ _ _ _ rfl hn hf,
      windowMotif_eipFile hf, State.seteipnum_mod]
    rfl
  · rw [exec_registerWrite_on _ _ _ _ _ hrun]
    by_cases ho : s.regsOpen .host = true
    · rw [State.registerWrite_eipFile _ _ _ _ _ ho hn hf]
      simp [State.seteipnum, State.hpmAccess]
    · rw [State.registerWrite_nothing _ _ _ _ _ (.inl (by simpa using ho))]
  · rw [State.registerRead_none _ _ _ _ _ hn]
    rfl
  · exact fun f hf hm => State.readValue_eipFile _ _ _ f hn hf hm
  · exact fun hf r n j hr hp hx => State.readValue_otherWidth _ _ _ hn hf hr hp hx
  · exact fun hf h4 h8 => State.readValue_noRegister _ _ _ hn hf h4 h8

end Sys2Proof.Machine
end

section
/-! SUPPORT. Writes and reads of registers by software (R8 to R11). -/

namespace Sys2Proof.Machine

/-- A register holds 64 bits. -/
theorem State.reg_lt (s : State) (r : Reg) (m i : Nat) : s.reg r m i < 2 ^ 64 := BitVec.isLt _

/-- A field of a register lies within 64 bits. -/
theorem FieldSpec.fits {r : Reg} {f : FieldSpec} (hf : f ∈ r.spec.fields) : f.lo ≤ f.hi ∧ f.hi < 8 * r.width ∧ f.hi < 64 := by
  have h := fieldsFit_mem r.fields_fit hf
  exact ⟨h.1, h.2, by have := r.width_le; omega⟩

/-- A field of a register just written reads as in the value written. -/
theorem State.bits_reg_setReg (s : State) {r : Reg} (m i v : Nat) {f : FieldSpec} (hf : f ∈ r.spec.fields) :
    bits ((s.setReg r m i v).reg r m i) f.hi f.lo = bits v f.hi f.lo := by
  rw [State.reg_setReg_same, bits_mod _ _ _ _ (FieldSpec.fits hf).2.2]

/-- What a write makes of a field fits in it. -/
theorem FieldSpec.write_lt (f : FieldSpec) {n old x : Nat} (ho : old < 2 ^ n) (hx : x < 2 ^ n) : f.write old x < 2 ^ n := by
  unfold FieldSpec.write
  cases f.acc with
  | rw => exact hx
  | wo => exact hx
  | w1s => exact Nat.or_lt_two_pow ho hx
  | w1c => exact Nat.xor_lt_two_pow ho (Nat.and_lt_two_pow _ hx)
  | ro => exact ho
  | rc => exact ho

/-- What a write makes of each field of a register (R9, R11). -/
theorem bits_write (r : Reg) (closed lk : Bool) (old x : Nat) {f : FieldSpec} (hf : f ∈ r.spec.fields) :
    bits (r.spec.write closed lk old x) f.hi f.lo =
      if closed && f.isPL lk then bits old f.hi f.lo else f.write (bits old f.hi f.lo) (bits x f.hi f.lo) := by
  have e : r.spec.write closed lk old x =
      r.spec.fields.foldl (fun v g => if !(closed && g.isPL lk) then setBits v g.hi g.lo (g.write (bits old g.hi g.lo) (bits x g.hi g.lo)) else v) old := by
    unfold RegSpec.write
    congr 1
    funext v g
    cases closed && g.isPL lk <;> rfl
  rw [e, fold_fields _ _ (fun g => !(closed && g.isPL lk)) (fun g => g.write (bits old g.hi g.lo) (bits x g.hi g.lo)) _ r.fields_fit f hf,
    Nat.mod_eq_of_lt (FieldSpec.write_lt f (bits_lt ..) (bits_lt ..))]
  cases closed && f.isPL lk <;> rfl

/-- A write counted changes registers alone (R11). -/
theorem State.onlyRegs_countLocked (s : State) (r : Reg) (m i : Nat) : s.onlyRegs (s.countLocked r m i) :=
  (State.onlyRegs_refl s).bump.setFld.setFld.setFld

/-- A write counted changes PRK_LOCK_CNT alone (R11). -/
theorem State.reg_countLocked (s : State) (r q : Reg) (m i n j : Nat) (h : Reg.PRK_LOCK_CNT.addr 0 0 ≠ q.addr n j) :
    (s.countLocked r m i).reg q n j = s.reg q n j := by
  unfold State.countLocked State.bump
  dsimp only
  rw [State.reg_setFld_other _ _ _ _ _ _ _ _ (by exact h), State.reg_setFld_other _ _ _ _ _ _ _ _ (by exact h),
    State.reg_setFld_other _ _ _ _ _ _ _ _ (by exact h), State.reg_setFld_other _ _ _ _ _ _ _ _ (by exact h)]

/-- The count of PRK_LOCK_CNT goes up by one, to its largest value at most (R11). -/
theorem State.fld_countLocked (s : State) (r : Reg) (m i : Nat) :
    (s.countLocked r m i).fld F.PRK_LOCK_CNT_COUNT = satAdd (2 ^ 32 - 1) (s.fld F.PRK_LOCK_CNT_COUNT) 1 := by
  unfold State.countLocked
  dsimp only
  rw [State.fld_setFld_field _ _ _ _ _ _ (by decide), State.fld_setFld_field _ _ _ _ _ _ (by decide), State.fld_setFld_field _ _ _ _ _ _ (by decide),
    State.fld_bump_same _ _ _ _ _ (by decide)]
  rfl

/-- The lock set and PRK_ST as they are, PL fields are as open as before. -/
theorem State.plClosed_congr {s t : State} (h : t.reg .PRK_ST 0 0 = s.reg .PRK_ST 0 0) : t.plClosed = s.plClosed := by
  unfold State.plClosed State.fld
  rw [h]

/-- The state after a write as far as it is counted. -/
def State.countedWrite (s : State) (r : Reg) (m i v : Nat) : State :=
  if s.plClosed && r.spec.changesPL (s.inLockSet r m i) (s.reg r m i) v then s.countLocked r m i else s

theorem State.onlyRegs_countedWrite (s : State) (r : Reg) (m i v : Nat) : s.onlyRegs (s.countedWrite r m i v) := by
  unfold State.countedWrite
  split
  · exact State.onlyRegs_countLocked ..
  · exact State.onlyRegs_refl _

theorem State.reg_countedWrite (s : State) (r q : Reg) (m i v n j : Nat) (h : Reg.PRK_LOCK_CNT.addr 0 0 ≠ q.addr n j) :
    (s.countedWrite r m i v).reg q n j = s.reg q n j := by
  unfold State.countedWrite
  split
  · exact State.reg_countLocked _ _ _ _ _ _ _ h
  · rfl

/-- A write to a register of which no bits are held at the moment: counted where it must be, then each field by its type. -/
theorem State.softWrite_eq (s : State) (r : Reg) (m i v : Nat) (hro : roSlot r i = false) (hb : ∀ t : State, t.heldBits r m i = []) :
    s.softWrite r m i v = (s.countedWrite r m i v).setReg r m i (r.spec.write s.plClosed (s.inLockSet r m i) (s.reg r m i) v) := by
  have hc : (s.countedWrite r m i v).plClosed = s.plClosed := State.plClosed_congr (State.reg_countedWrite _ _ _ _ _ _ _ _ (by decide))
  have hh : ∀ t : State, t.holdBits r m i v = v := fun t => by simp [State.holdBits, hb t]
  unfold State.softWrite
  rw [if_neg (by simp [hro])]
  dsimp only
  change (s.countedWrite r m i v).setReg r m i (r.spec.write (s.countedWrite r m i v).plClosed _ _ ((s.countedWrite r m i v).holdBits r m i v)) = _
  rw [hc, hh]

section
variable (s : State) (r : Reg) (m i v : Nat) (hro : roSlot r i = false) (hb : ∀ t : State, t.heldBits r m i = [])
include hro hb

theorem State.onlyRegs_softWrite : s.onlyRegs (s.softWrite r m i v) := by
  rw [State.softWrite_eq _ _ _ _ _ hro hb]
  exact (State.onlyRegs_countedWrite ..).setReg

/-- Each field after a write (R9, R11). -/
theorem State.bits_softWrite {f : FieldSpec} (hf : f ∈ r.spec.fields) :
    bits ((s.softWrite r m i v).reg r m i) f.hi f.lo =
      if s.plClosed && f.isPL (s.inLockSet r m i) then bits (s.reg r m i) f.hi f.lo else f.write (bits (s.reg r m i) f.hi f.lo) (bits v f.hi f.lo) := by
  rw [State.softWrite_eq _ _ _ _ _ hro hb, State.bits_reg_setReg _ _ _ _ hf, bits_write _ _ _ _ _ hf]

/-- A write changes no register but the one written and PRK_LOCK_CNT. -/
theorem State.reg_softWrite_other (q : Reg) (n j : Nat) (h : r.addr m i ≠ q.addr n j) (hl : Reg.PRK_LOCK_CNT.addr 0 0 ≠ q.addr n j) :
    (s.softWrite r m i v).reg q n j = s.reg q n j := by
  rw [State.softWrite_eq _ _ _ _ _ hro hb, State.reg_setReg_other _ _ _ _ _ _ _ _ h, State.reg_countedWrite _ _ _ _ _ _ _ _ hl]

/-- The count of refused writes after a write to another register (R11). -/
theorem State.lockCnt_softWrite (h : r.addr m i ≠ Reg.PRK_LOCK_CNT.addr 0 0) :
    (s.softWrite r m i v).fld F.PRK_LOCK_CNT_COUNT =
      if s.plClosed && r.spec.changesPL (s.inLockSet r m i) (s.reg r m i) v then satAdd (2 ^ 32 - 1) (s.fld F.PRK_LOCK_CNT_COUNT) 1
      else s.fld F.PRK_LOCK_CNT_COUNT := by
  rw [State.softWrite_eq _ _ _ _ _ hro hb]
  have e : ∀ (t : State) x, (t.setReg r m i x).fld F.PRK_LOCK_CNT_COUNT = t.fld F.PRK_LOCK_CNT_COUNT := fun t x => by
    unfold State.fld
    rw [State.reg_setReg_other _ _ _ _ _ _ _ _ h]
  rw [e]
  unfold State.countedWrite
  split
  · exact State.fld_countLocked ..
  · rfl

end

/-- A register whose write only stores is none of the slots. -/
theorem roSlot_of_stores {r : Reg} (h : hasOwnWrite r = false) (i : Nat) : roSlot r i = false := by
  have hc : r ≠ .STC_SLOT_C := by rintro rfl; exact absurd h (by decide)
  have ht : r ≠ .STC_SLOT_T := by rintro rfl; exact absurd h (by decide)
  simp [roSlot, hc, ht]

/-- A register whose write only stores has no bits held. -/
theorem heldBits_of_stores {r : Reg} (h : hasOwnWrite r = false) (s : State) (m i : Nat) : s.heldBits r m i = [] := by
  unfold State.heldBits
  split
  rotate_right
  · rfl
  all_goals exact absurd h (by decide)

/-- A register whose write only stores is so written by every requester. -/
theorem State.writeReg_of_stores (s : State) (who : Who) {r : Reg} (h : hasOwnWrite r = false) (m i v : Nat) :
    s.writeReg who r m i v = s.softWrite r m i v := by
  have hp : s.plainWrite r m i v = s.softWrite r m i v := by
    unfold State.plainWrite
    dsimp only
    split
    rotate_right
    · rfl
    all_goals exact absurd h (by decide)
  rw [← hp]
  unfold State.writeReg
  split
  rotate_right
  · rfl
  all_goals exact absurd h (by decide)

end Sys2Proof.Machine
end

section
/-! SUPPORT. A write of a register that only stores, whole (R7, R9, R11, R474). -/

namespace Sys2Proof.Machine

/-- A write that a register of its width takes up. -/
theorem State.registerWrite_some (s : State) (who : Who) (addr width v : Nat) {r : Reg} {m i : Nat} (ho : s.regsOpen who = true)
    (hr : s.regFor addr width = some (r, m, i)) :
    s.registerWrite who addr width v = (s.hpmAccess who (windowMotif who addr) []).writeReg who r m i (v % 256 ^ width) := by
  unfold State.registerWrite
  rw [if_pos ho, hr]

/-- What is written of a field is what the requester gave. -/
theorem bits_written {r : Reg} (v : Nat) {f : FieldSpec} (hf : f ∈ r.spec.fields) : bits (v % 256 ^ r.width) f.hi f.lo = bits v f.hi f.lo := by
  rw [show 256 ^ r.width = 2 ^ (8 * r.width) by rw [Nat.pow_mul]]
  exact bits_mod _ _ _ _ (FieldSpec.fits hf).2.1

/-- PL fields are as open after an access is counted as before. -/
theorem State.plClosed_hpmAccess (s : State) (who : Who) (m : Nat) (codes : List Nat) : (s.hpmAccess who m codes).plClosed = s.plClosed := by
  unfold State.plClosed
  rw [State.fld_hpmAccess _ _ _ _ _ _ _ (by decide)]

/-- The lock set is the same after an access is counted. -/
theorem State.inLockSet_hpmAccess (s : State) (who : Who) (n : Nat) (codes : List Nat) (r : Reg) (m i : Nat) :
    (s.hpmAccess who n codes).inLockSet r m i = s.inLockSet r m i :=
  (State.onlyRegs_hpmAccess ..).same (fun t => t.inLockSet r m i) (fun _ _ => rfl)

/-- Settles O6: past the count of the access (R474) such a write is `softWrite` of the value cut to the register's width. -/
theorem registerWriteStores : Obligations.RegisterWriteStores := by
  unfold Obligations.RegisterWriteStores
  intro s u who addr width v r m i hrun ho hr hs hu
  obtain ⟨-, rfl⟩ := State.regFor_some hr
  have hro := roSlot_of_stores hs i
  have hb := fun t => heldBits_of_stores hs t m i
  have hpl : u.plClosed = s.plClosed := by rw [hu, State.plClosed_hpmAccess]
  have hlk : u.inLockSet r m i = s.inLockSet r m i := by rw [hu, State.inLockSet_hpmAccess]
  refine ⟨u.softWrite r m i (v % 256 ^ r.width), ?_, fun f hf => ?_, fun hne => ?_, fun q n j hq hl => ?_, fun q n j hq => ?_, ?_⟩
  · rw [exec_registerWrite_on _ _ _ _ _ hrun, State.registerWrite_some _ _ _ _ _ ho hr, ← hu, State.writeReg_of_stores _ _ hs]
  · rw [State.bits_softWrite _ _ _ _ _ hro hb hf, hpl, hlk, bits_written v hf]
  · have hc : u.fld F.PRK_LOCK_CNT_COUNT = s.fld F.PRK_LOCK_CNT_COUNT := by rw [hu, State.fld_hpmAccess _ _ _ _ _ _ _ (by decide)]
    rw [State.lockCnt_softWrite _ _ _ _ _ hro hb hne, hpl, hlk, hc]
  · exact State.reg_softWrite_other _ _ _ _ _ hro hb _ _ _ (Ne.symm hq) (Ne.symm hl)
  · rw [hu]
    exact State.reg_hpmAccess _ _ _ _ _ _ _ (fun k c _ => hq k c)
  · have hsu : s.onlyRegs u := hu ▸ State.onlyRegs_hpmAccess ..
    exact hsu.trans (State.onlyRegs_softWrite _ _ _ _ _ hro hb)

end Sys2Proof.Machine
end

section
/-! SUPPORT. What a record of the sampler touches (R463, R464). -/

namespace Sys2Proof.Machine

/-- `t` is `s` but for its registers, the MRAM and the copies of triple-voted words: all that a record of the sampler touches. -/
def State.onlySamples (s t : State) : Prop := t = { s with regs := t.regs, mram := t.mram, tv := t.tv }

theorem State.onlySamples_refl (s : State) : s.onlySamples s := rfl

section
variable {s t u : State} (h : s.onlySamples t)
include h

theorem State.onlySamples.trans (g : t.onlySamples u) : s.onlySamples u := by
  unfold State.onlySamples at *
  rw [g, h]

theorem State.onlySamples.setFld {f : Fld Reg} {x m i : Nat} : s.onlySamples (t.setFld f x m i) := h.trans rfl

theorem State.onlySamples.bump {f : Fld Reg} {x m i : Nat} : s.onlySamples (t.bump f x m i) := h.trans rfl

theorem State.onlySamples.mramWrite {o : Nat} {b : Bytes} : s.onlySamples (t.mramWrite o b) := h.trans rfl

theorem State.onlySamples.tvTurn {w i : Nat} {x : Nat × Nat × Nat} : s.onlySamples (t.tvTurn w i x) := by
  refine h.trans ?_
  unfold State.tvTurn
  dsimp only
  split <;> rfl

theorem State.onlySamples.fired {m : Nat} : s.onlySamples (t.fired m) := h.setFld.setFld

theorem State.onlySamples.tvWrote {w i : Nat} : s.onlySamples (t.tvWrote w i) := by
  have hw : s.onlySamples { t with tv := Sparse.set (0, 0, 0) t.tv (tvKey w i) (0, 0, 0) } := h.trans rfl
  unfold State.tvWrote
  dsimp only
  split
  · exact hw
  · exact hw.tvTurn.fired

theorem State.onlySamples.newRec {ty : Nat} {p : Bytes} : s.onlySamples (t.newRec ty p) := by
  unfold State.newRec State.writeRec State.setWp
  dsimp only
  split
  · exact h.bump
  · split
    · exact h.setFld.mramWrite.bump
    · exact h.mramWrite.mramWrite.mramWrite.setFld.setFld.setFld.tvWrote

theorem State.onlySamples.appendNear {ty : Nat} {p : Bytes} : s.onlySamples (t.appendNear ty p) := by
  unfold State.appendNear
  dsimp only
  split
  · exact h.newRec.setFld.newRec
  · exact h.newRec

/-- What looks at none of them is the same in both states. -/
theorem State.onlySamples.same {α : Type} (p : State → α)
    (hp : ∀ (u : State) (l : Sparse Word64) (b : Sparse Byte) (v : Sparse (Nat × Nat × Nat)), p { u with regs := l, mram := b, tv := v } = p u) : p t = p s := by
  rw [h]; exact hp s _ _ _

end

/-- A record of the sampler (R463, R464). -/
theorem State.onlySamples_sample (s : State) (ty : Nat) (p : Bytes) : s.onlySamples (s.sample ty p) := by
  have hs := State.onlySamples_refl s
  unfold State.sample
  split
  · split
    · dsimp only
      split
      · exact hs.mramWrite.bump
      · exact hs
    · exact hs.appendNear
  · exact hs.appendNear

@[simp] theorem State.sample_outbox (s : State) (ty : Nat) (p : Bytes) : (s.sample ty p).outbox = s.outbox :=
  (State.onlySamples_sample ..).same State.outbox (fun _ _ _ _ => rfl)

@[simp] theorem State.tvWrote_outbox (s : State) (w i : Nat) : (s.tvWrote w i).outbox = s.outbox :=
  (State.onlySamples_refl s).tvWrote.same State.outbox (fun _ _ _ _ => rfl)

end Sys2Proof.Machine
end

section
/-! SUPPORT. What stays in the outbox: a fail-stop appends to it. `simp` keeps to explicit equations here, as the kernel would else unfold every register
write of a chain to see that each leaves the outbox alone. -/

namespace Sys2Proof.Machine

/-- What has left the block stays, and more may have left. -/
def State.outGrows (s t : State) : Prop := s.outbox <+: t.outbox

theorem State.outGrows_refl (s : State) : s.outGrows s := List.prefix_rfl

theorem State.outGrows.trans {s t u : State} (h : s.outGrows t) (g : t.outGrows u) : s.outGrows u := List.IsPrefix.trans h g

theorem State.outGrows_of_eq {s t : State} (h : t.outbox = s.outbox) : s.outGrows t := by
  unfold State.outGrows
  rw [h]

theorem State.outGrows_out (s : State) (o : Out) : s.outGrows (s.out o) := List.prefix_append ..

theorem State.outGrows_emit (s : State) (o : Out) : s.outGrows (s.emit o) := by
  unfold State.emit
  split
  · exact State.outGrows_refl s
  · exact State.outGrows_out s o

theorem State.outGrows_driveHalive (s : State) (b : Bool) : s.outGrows (s.driveHalive b) := by
  unfold State.driveHalive
  split
  · exact State.outGrows_refl s
  · exact (State.outGrows_of_eq (State.setFld_outbox ..)).trans (State.outGrows_out _ _)

@[simp] theorem State.enterMode_outbox (s : State) (m : Nat) : (s.enterMode m).outbox = s.outbox := by
  unfold State.enterMode
  dsimp only
  split <;> simp -implicitDefEqProofs

theorem State.each_outbox {α : Type} (s : State) (l : List α) (f : State → α → State) (h : ∀ (t : State) (a : α), (f t a).outbox = t.outbox) :
    (s.each l f).outbox = s.outbox := State.each_keeps State.outbox s l f (fun t a _ => h t a)

@[simp] theorem State.hostLinkDown_outbox (s : State) : s.hostLinkDown.outbox = s.outbox := by
  unfold State.hostLinkDown
  dsimp only
  split <;> simp -implicitDefEqProofs

@[simp] theorem State.serdesOff_outbox (s : State) : s.serdesOff.outbox = s.outbox := by
  have h : ∀ t : State, (t.each (List.range 8) (fun s g => (s.setFld F.BRD_GRP_LANES 0 0 g).setFld F.BRD_GRP_UP 0 0 g)).outbox = t.outbox :=
    fun t => State.each_outbox _ _ _ (by simp -implicitDefEqProofs)
  have h' : ∀ (t : State) l, (t.each l (fun s m => s.each (List.range 8) (fun s i => (s.setFld F.NET_SUB_ST_UP 0 m i).setFld F.NET_SUB_ST_SPEED 0 m i))).outbox = t.outbox :=
    fun t l => State.each_outbox _ _ _ (fun t m => State.each_outbox _ _ _ (by simp -implicitDefEqProofs))
  unfold State.serdesOff
  dsimp only
  split <;> simp -implicitDefEqProofs [h, h']

@[simp] theorem State.rootPortsOff_outbox (s : State) : s.rootPortsOff.outbox = s.outbox := by
  unfold State.rootPortsOff
  exact State.each_outbox _ _ _ (fun t m => State.each_outbox _ _ _ (by simp -implicitDefEqProofs))

@[simp] theorem State.abandonFlashOp_outbox (s : State) : s.abandonFlashOp.outbox = s.outbox := by
  unfold State.abandonFlashOp
  split
  · rfl
  · simp -implicitDefEqProofs

@[simp] theorem State.idleEngines_outbox (s : State) : s.idleEngines.outbox = s.outbox := by
  unfold State.idleEngines
  simp only [State.setFld_outbox]
  refine State.each_outbox _ _ _ (fun t m => ?_)
  split <;> split <;> simp -implicitDefEqProofs

theorem State.outGrows_aerLog (s : State) (pf kind bit : Nat) (a : Bool) : s.outGrows (s.aerLog pf kind bit a) := by
  unfold State.aerLog
  exact (State.outGrows_emit s (.aer pf kind)).trans (State.outGrows_of_eq (State.modEp_outbox ..))

/-- A fail-stop takes nothing back that has left the block. -/
theorem State.outGrows_failStop (s : State) (code : Nat) : s.outGrows (s.failStop code) := by
  unfold State.failStop State.failStopWith
  split
  · exact State.outGrows_refl s
  · have h1 : s.outGrows (if s.flag F.EP_ST_UP then s.aerLog 0 3 22 false else s) := by
      split
      · exact State.outGrows_aerLog ..
      · exact State.outGrows_refl s
    have h2 : ∀ t : State, t.outGrows t.stopTransmission := fun t =>
      (State.outGrows_of_eq (t := { t with txOff := true }) rfl).trans (State.outGrows_driveHalive _ _)
    refine h1.trans ((h2 _).trans (State.outGrows_of_eq ?_))
    have hv : ∀ (p : Prop) [Decidable p] (t : State), (if p then t.sampleVault 2 else t).outbox = t.outbox := fun p _ t => by
      split
      · exact State.sample_outbox ..
      · rfl
    simp -implicitDefEqProofs [hv]

/-- A vote takes nothing back that has left the block. -/
theorem State.outGrows_tvRead (s : State) (r : Reg) (m i : Nat) : s.outGrows (s.tvRead r m i) := by
  unfold State.tvRead State.tvVote
  split
  · dsimp only
    split
    · exact State.outGrows_refl s
    · split
      · exact State.outGrows_failStop ..
      · exact State.outGrows_of_eq (by simp -implicitDefEqProofs)
  · exact State.outGrows_refl s

end Sys2Proof.Machine
end

section
/-! SUPPORT. Reads of registers (R8 to R10, R65). -/

namespace Sys2Proof.Machine

/-- What a read leaves in each field (R10). -/
theorem bits_afterRead (r : Reg) (v : Nat) {f : FieldSpec} (hf : f ∈ r.spec.fields) :
    bits (r.spec.afterRead v) f.hi f.lo = if f.acc = .rc then 0 else bits v f.hi f.lo := by
  unfold RegSpec.afterRead
  rw [fold_fields _ _ (fun f => f.acc == .rc) (fun _ => 0) _ r.fields_fit f hf]
  simp

/-- The answer to a read goes out as its requester sees it. -/
theorem State.answerReg_eq (s : State) (who : Who) (addr width v : Nat) :
    s.answerReg who addr width v = { s with outbox := s.outbox ++ s.regAnswer who addr width v } := by
  have silent : ∀ l, l = [] → s = { s with outbox := s.outbox ++ l } := fun l h => by rw [h, List.append_nil]
  cases who with
  | host =>
    simp only [State.answerReg, State.regAnswer, State.emit]
    by_cases hu : s.flag F.EP_ST_UP = true
    · by_cases hx : s.txOff = true
      · rw [if_pos hu, if_pos hx]
        exact silent _ (by simp [hx])
      · rw [if_pos hu, if_neg hx, if_pos (by simp [hu, hx])]
        rfl
    · rw [if_neg hu]
      exact silent _ (by simp [hu])
  | core m h => rfl
  | engine _ => exact silent _ rfl

/-- STC_NUM read at the phase of the moment (R65). -/
theorem stcNumRead_now (s : State) : stcNumRead s.stc.phase s = s.setFld F.STC_PH_LATCH_PHASE s.stc.phase := by
  unfold stcNumRead State.atPhase
  rw [if_neg (Nat.not_lt.2 (Nat.mod_le _ _))]

/-- The state after a read before its word is voted and its access counted. -/
def State.latchedRead (s : State) (r : Reg) (m i : Nat) : State := (if r = .STC_NUM then stcNumRead s.stc.phase s else s).softAfterRead r m i

theorem State.onlyRegs_latchedRead (s : State) (r : Reg) (m i : Nat) : s.onlyRegs (s.latchedRead r m i) := by
  unfold State.latchedRead State.softAfterRead
  rw [stcNumRead_now]
  split
  · exact (State.onlyRegs_refl s).setFld.setReg
  · exact (State.onlyRegs_refl s).setReg

/-- A read that a register of its width takes up. -/
theorem State.registerRead_some (s : State) (who : Who) (addr width : Nat) {r : Reg} {m i : Nat} (ho : s.regsOpen who = true)
    (hr : s.regFor addr width = some (r, m, i)) :
    s.registerRead who addr width =
      (((s.answerReg who addr width (r.spec.visible (s.reg r m i))).latchedRead r m i).tvRead r m i).hpmAccess who (windowMotif who addr) [] := by
  have hv : s.readValue addr width = r.spec.visible (s.reg r m i) := by
    unfold State.readValue
    rw [hr]
    rfl
  have hr' : (s.answerReg who addr width (r.spec.visible (s.reg r m i))).regFor addr width = some (r, m, i) := by
    rw [State.answerReg_eq]; exact hr
  have ho' : (s.answerReg who addr width (r.spec.visible (s.reg r m i))).regsOpen who = true := by
    rw [State.answerReg_eq]; exact ho
  unfold State.registerRead State.latchedRead
  dsimp only
  rw [if_pos ho, hv, if_pos ho', hr']

/-- A read of a register whose copies agree finds nothing to vote (R423). -/
theorem State.tvRead_agree (s t : State) {r : Reg} {m i : Nat} (htv : t.tv = s.tv) (h : s.copiesAgree r m i = true) : t.tvRead r m i = t := by
  unfold State.copiesAgree at h
  unfold State.tvRead
  split
  · rename_i p hp
    simp only [hp, decide_eq_true_eq] at h
    unfold State.tvVote
    rw [htv, if_pos h]
  · rfl

/-- Each field of a register but STC_NUM after a read (R10). -/
theorem State.bits_latchedRead (s : State) {r : Reg} (m i : Nat) (hr : r ≠ .STC_NUM) {f : FieldSpec} (hf : f ∈ r.spec.fields) :
    bits ((s.latchedRead r m i).reg r m i) f.hi f.lo = if f.acc = .rc then 0 else bits (s.reg r m i) f.hi f.lo := by
  unfold State.latchedRead
  rw [if_neg hr]
  unfold State.softAfterRead
  rw [State.bits_reg_setReg _ _ _ _ hf, bits_afterRead _ _ hf]

/-- A read of a register but STC_NUM changes no other register. -/
theorem State.reg_latchedRead_other (s : State) {r : Reg} (m i : Nat) (hr : r ≠ .STC_NUM) (q : Reg) (n j : Nat) (h : r.addr m i ≠ q.addr n j) :
    (s.latchedRead r m i).reg q n j = s.reg q n j := by
  unfold State.latchedRead
  rw [if_neg hr]
  exact State.reg_setReg_other _ _ _ _ _ _ _ _ h

/-- A read of STC_NUM leaves it as it is. -/
theorem State.latchedRead_stcNum (s : State) :
    s.latchedRead .STC_NUM 0 0 = (s.setFld F.STC_PH_LATCH_PHASE s.stc.phase).setReg .STC_NUM 0 0 (s.reg .STC_NUM 0 0) := by
  unfold State.latchedRead
  rw [if_pos rfl, stcNumRead_now]
  unfold State.softAfterRead
  rw [State.reg_setFld_other _ _ _ _ _ _ _ _ (by decide)]
  rfl

/-- A read of STC_NUM latches the phase, and the stitch number is as before (R65). -/
theorem State.fld_latchedRead_stcNum (s : State) :
    (s.latchedRead .STC_NUM 0 0).fld F.STC_PH_LATCH_PHASE = s.stc.phase % 1024 ∧ (s.latchedRead .STC_NUM 0 0).num = s.num := by
  rw [State.latchedRead_stcNum]
  constructor
  · unfold State.fld
    rw [State.reg_setReg_other _ _ _ _ _ _ _ _ (by decide)]
    exact State.fld_setFld_same s F.STC_PH_LATCH_PHASE _ 0 0 (by decide)
  · unfold State.num State.fld
    rw [State.reg_setReg_same, Nat.mod_eq_of_lt (State.reg_lt ..)]

/-- STC_NUM has one element, in the package window. -/
theorem regOfAddr_stcNum {addr m i : Nat} (h : regOfAddr addr = some (.STC_NUM, m, i)) : m = 0 ∧ i = 0 := by
  obtain ⟨ha, hm⟩ := regOfAddr_some h
  have h0 : addr = 0x10018 := by
    rw [← ha, hm rfl]
    show 0 + 1 * 0x10000 + (0x18 + i / 1 * 0 + i % 1 * 0) = _
    omega
  rw [h0, show regOfAddr 0x10018 = some (.STC_NUM, 0, 0) by decide +kernel] at h
  simp only [Option.some.injEq, Prod.mk.injEq, true_and] at h
  exact ⟨h.1.symm, h.2.symm⟩

/-- Settles O8: the answer goes out first, then the register is read as R10 says, its word is voted, and the access is counted (R474). -/
theorem rcReadClears : Obligations.RcReadClears := by
  unfold Obligations.RcReadClears
  intro s who addr width r m i hrun ho hr
  have ha := (State.regFor_some hr).1
  generalize hb : s.answerReg who addr width (r.spec.visible (s.reg r m i)) = b
  rw [State.answerReg_eq] at hb
  have hreg : ∀ q n j, b.reg q n j = s.reg q n j := fun q n j => by rw [← hb]; rfl
  have ht : exec (.rcRead who addr width) s = .next (((b.latchedRead r m i).tvRead r m i).hpmAccess who (windowMotif who addr) []) := by
    rw [exec_rcRead_on _ _ _ _ hrun, State.registerRead_some _ _ _ _ ho hr, State.answerReg_eq, hb]
  refine ⟨_, ht, fun o ho => ?_, fun hag => ?_⟩
  · have hl : (b.latchedRead r m i).outbox = b.outbox := (State.onlyRegs_latchedRead ..).same State.outbox (fun _ _ => rfl)
    rw [(State.onlyRegs_hpmAccess ..).same State.outbox (fun _ _ => rfl)]
    refine (State.outGrows_tvRead _ r m i).subset ?_
    rw [hl, ← hb]
    exact List.mem_append_right _ ho
  · have hbt : b.onlyRegs ((b.latchedRead r m i).hpmAccess who (windowMotif who addr) []) :=
      (State.onlyRegs_latchedRead ..).trans (State.onlyRegs_hpmAccess ..)
    have htv : (b.latchedRead r m i).tv = s.tv := by
      rw [(State.onlyRegs_latchedRead ..).same State.tv (fun _ _ => rfl), ← hb]
    rw [State.tvRead_agree s _ htv hag]
    refine ⟨?_, fun hn hc => ⟨fun f hf => ?_, fun q n j hq hk => ?_⟩, fun hn => ?_, ?_⟩
    · rw [hbt.same State.outbox (fun _ _ => rfl), ← hb]
    · have hself := regOfAddr_some ha
      rw [State.reg_hpmAccess _ _ _ _ _ _ _ (addr_ne_hpmCnt hc (by rw [hself.1]; exact ha)), State.bits_latchedRead _ _ _ hn hf, hreg]
    · rw [State.reg_hpmAccess _ _ _ _ _ _ _ (fun k c _ => hk k c), State.reg_latchedRead_other _ _ _ hn _ _ _ (Ne.symm hq), hreg]
    · subst hn
      obtain ⟨rfl, rfl⟩ := regOfAddr_stcNum ha
      obtain ⟨hp, hnum⟩ := State.fld_latchedRead_stcNum b
      unfold State.num at hnum ⊢
      rw [State.fld_hpmAccess _ _ _ _ _ _ _ (by decide), State.fld_hpmAccess _ _ _ _ _ _ _ (by decide), hp, hnum, ← hb]
      exact ⟨rfl, rfl⟩
    · rw [State.onlyRegs] at hbt
      rw [hbt, ← hb]

end Sys2Proof.Machine
end

section
/-! SUPPORT. What a reset leaves in the registers (R13, R14, R107). -/

namespace Sys2Proof.Machine

/-- A key that is not listed reads the default. -/
theorem Sparse.get_of_notMem {β : Type} (d : β) {m : Sparse β} {a : Nat} (h : ∀ e ∈ m, e.1 ≠ a) : Sparse.get d m a = d := by
  induction m with
  | nil => rfl
  | cons e t ih =>
    rw [Sparse.get, if_neg (h e (by simp)), ih (fun x hx => h x (List.mem_cons_of_mem _ hx))]

/-- A key listed in a map in order reads its value. -/
theorem Sparse.get_of_mem {β : Type} (d : β) {m : Sparse β} (hs : Sparse.sorted m = true) {e : Nat × β} (he : e ∈ m) : Sparse.get d m e.1 = e.2 := by
  induction m with
  | nil => cases he
  | cons x t ih =>
    obtain ⟨hab, hst⟩ := (Sparse.sorted_cons x.1 x.2 t).1 hs
    rcases List.mem_cons.1 he with rfl | he
    · rw [Sparse.get, if_pos rfl]
    · have := hab e he
      rw [Sparse.get, if_neg (by omega), ih hst he]

/-- An update of the entries of a map that keeps their keys: a key listed reads the entry that becomes of its own. -/
theorem Sparse.get_filterMap {β : Type} (d : β) {m : Sparse β} (hs : Sparse.sorted m = true) (g : Nat × β → Option (Nat × β))
    (hg : ∀ e x, g e = some x → x.1 = e.1) {e : Nat × β} (he : e ∈ m) : Sparse.get d (m.filterMap g) e.1 = ((g e).map Prod.snd).getD d := by
  have hother : ∀ t : Sparse β, (∀ y ∈ t, y.1 ≠ e.1) → Sparse.get d (t.filterMap g) e.1 = d := fun t ht =>
    Sparse.get_of_notMem d (fun x hx => by
      obtain ⟨y, hy, hyx⟩ := List.mem_filterMap.1 hx
      rw [hg y x hyx]
      exact ht y hy)
  induction m with
  | nil => cases he
  | cons x t ih =>
    obtain ⟨hab, hst⟩ := (Sparse.sorted_cons x.1 x.2 t).1 hs
    rcases List.mem_cons.1 he with rfl | he
    · have ht := hother t (fun y hy => by have := hab y hy; omega)
      cases hx : g e with
      | none => rw [List.filterMap_cons_none hx, ht]; rfl
      | some y => rw [List.filterMap_cons_some hx, Sparse.get, if_pos (hg e y hx)]; rfl
    · cases hx : g x with
      | none => rw [List.filterMap_cons_none hx, ih hst he]
      | some y =>
        have hne : y.1 ≠ e.1 := by have := hab e he; rw [hg x y hx]; omega
        rw [List.filterMap_cons_some hx, Sparse.get, if_neg hne, ih hst he]

/-- The reset values of a register's fields stand in its reset value. -/
theorem Reg.resetVal_fields (r : Reg) : r.spec.fields.all (fun f => decide (bits r.resetVal.toNat f.hi f.lo = f.reset % 2 ^ (f.hi + 1 - f.lo))) = true := by
  cases r <;> rfl

/-- A field of a register at its reset value (R13, R14; log 9). -/
theorem bits_resetVal {r : Reg} {f : FieldSpec} (hf : f ∈ r.spec.fields) : bits r.resetVal.toNat f.hi f.lo = f.reset % 2 ^ (f.hi + 1 - f.lo) :=
  of_decide_eq_true (List.all_eq_true.1 r.resetVal_fields f hf)

/-- What a reset of a kind leaves in each field of a register (R14, R107). -/
theorem bits_resetBy (r : Reg) (k : ResetKind) (v : Nat) {f : FieldSpec} (hf : f ∈ r.spec.fields) :
    bits (r.resetBy k v) f.hi f.lo =
      if f.letters.has k && !(f.src == .hw && f.acc == .ro && !(k == .powerOn)) then f.reset % 2 ^ (f.hi + 1 - f.lo) else bits v f.hi f.lo :=
  fold_fields _ _ (fun f => f.letters.has k && !(f.src == .hw && f.acc == .ro && !(k == .powerOn))) FieldSpec.reset v r.fields_fit f hf

/-- What a reset of a kind over the registers that a test picks makes of one entry of the register map. -/
def resetEntry (k : ResetKind) (p : Reg → Nat → Bool) (e : Nat × Word64) : Option (Nat × Word64) :=
  match regOfAddr e.1 with
  | none => some e
  | some (r, m, _) =>
    if p r m then
      let v := BitVec.ofNat 64 (r.resetBy k e.2.toNat)
      if v = r.resetVal then none else some (e.1, v)
    else some e

theorem State.resetRegs_eq (s : State) (k : ResetKind) (p : Reg → Nat → Bool) : s.resetRegs k p = { s with regs := s.regs.filterMap (resetEntry k p) } := rfl

/-- An entry keeps its address in a reset. -/
theorem resetEntry_key (k : ResetKind) (p : Reg → Nat → Bool) (e x : Nat × Word64) (h : resetEntry k p e = some x) : x.1 = e.1 := by
  unfold resetEntry at h
  dsimp only at h
  split at h
  · rw [← Option.some.inj h]
  · split at h
    · rw [Option.ite_none_left_eq_some] at h
      rw [← Option.some.inj h.2]
    · rw [← Option.some.inj h]

/-- The value that an entry of a register has after a reset; one at its reset value is not listed. -/
theorem resetEntry_value (k : ResetKind) (p : Reg → Nat → Bool) {r : Reg} {m i : Nat} (ha : regOfAddr (r.addr m i) = some (r, m, i)) (w : Word64) :
    ((resetEntry k p (r.addr m i, w)).map Prod.snd).getD r.resetVal = if p r m then BitVec.ofNat 64 (r.resetBy k w.toNat) else w := by
  unfold resetEntry
  dsimp only
  rw [ha]
  dsimp only
  split
  · split
    · rename_i hv
      exact hv.symm
    · rfl
  · rfl

/-- Each field of a register after a reset of a kind over the registers that a test picks. -/
theorem State.bits_resetRegs (s : State) (k : ResetKind) (p : Reg → Nat → Bool) {r : Reg} {m i : Nat} (hs : Sparse.sorted s.regs = true)
    (ha : regOfAddr (r.addr m i) = some (r, m, i)) {f : FieldSpec} (hf : f ∈ r.spec.fields) :
    bits ((s.resetRegs k p).reg r m i) f.hi f.lo = if p r m then bits (r.resetBy k (s.reg r m i)) f.hi f.lo else bits (s.reg r m i) f.hi f.lo := by
  rw [State.resetRegs_eq]
  unfold State.reg
  dsimp only
  by_cases hmem : ∃ e ∈ s.regs, e.1 = r.addr m i
  · obtain ⟨⟨a, w⟩, he, rfl⟩ := hmem
    rw [Sparse.get_filterMap _ hs _ (resetEntry_key k p) he, Sparse.get_of_mem _ hs he, resetEntry_value k p ha]
    dsimp only
    split
    · rw [BitVec.toNat_ofNat, bits_mod _ _ _ _ (FieldSpec.fits hf).2.2]
    · rfl
  · have hnew : Sparse.get r.resetVal (s.regs.filterMap (resetEntry k p)) (r.addr m i) = r.resetVal := Sparse.get_of_notMem _ (fun x hx h => by
      obtain ⟨y, hy, hyx⟩ := List.mem_filterMap.1 hx
      exact hmem ⟨y, hy, by rw [← resetEntry_key k p y x hyx, h]⟩)
    rw [hnew, Sparse.get_of_notMem _ (fun e he h => hmem ⟨e, he, h⟩), bits_resetBy _ _ _ hf, bits_resetVal hf]
    split <;> simp

/-- The supply voltages of a motif stand in LPM_IMON_CFG alone. -/
theorem addr_ne_lpmImonCfg {r : Reg} {m i : Nat} (hr : r ≠ .LPM_IMON_CFG) (h : regOfAddr (r.addr m i) = some (r, m, i)) :
    Reg.LPM_IMON_CFG.addr m 0 ≠ r.addr m i ∧ Reg.LPM_IMON_CFG.addr m 1 ≠ r.addr m i := by
  have key : ∀ j, Reg.LPM_IMON_CFG.spec.elemOfs j < 0x100000 → regAtOffset false 15 (Reg.LPM_IMON_CFG.spec.elemOfs j) = some (.LPM_IMON_CFG, j) →
      Reg.LPM_IMON_CFG.addr m j ≠ r.addr m i := fun j hj hat e => by
    rw [← e, regOfAddr_motif _ _ _ rfl (by decide) hj, show Reg.LPM_IMON_CFG.spec.block = 15 from rfl, hat] at h
    simp only [Option.map_some, Option.some.injEq, Prod.mk.injEq] at h
    exact hr h.1.symm
  exact ⟨key 0 (by decide) (by decide +kernel), key 1 (by decide) (by decide +kernel)⟩

/-- A motif's reset with no pricking accepted resets the registers of its window, but for the supply voltages (R107, R429). -/
theorem State.reg_resetMotifRegs (s : State) {r : Reg} {m i : Nat} (links : Bool) (hp : s.prk = none) (hr : r ≠ .LPM_IMON_CFG)
    (h : regOfAddr (r.addr m i) = some (r, m, i)) :
    (s.resetMotifRegs m links).reg r m i = (s.resetRegs .motif (fun r n => !r.spec.pkg && decide (n = m) && (links || !(rethreadKeeps r)))).reg r m i := by
  obtain ⟨h0, h1⟩ := addr_ne_lpmImonCfg hr h
  unfold State.resetMotifRegs
  dsimp only
  have hp' : ∀ (k : ResetKind) (q : Reg → Nat → Bool) (x : Nat),
      ((((s.resetRegs k q).setFld F.LPM_IMON_CFG_VOLT_MV x m 0).setFld F.LPM_IMON_CFG_VOLT_MV 900 m 1)).prk = none := fun _ _ _ => by
    rw [State.setFld_prk, State.setFld_prk]
    exact hp
  rw [hp']
  dsimp only
  rw [State.reg_setFld_other _ _ _ _ _ _ _ _ (by exact h1), State.reg_setFld_other _ _ _ _ _ _ _ _ (by exact h0)]

/-- Settles O24: entry by entry of the register map, by what `Reg.resetBy` leaves in each field. -/
theorem resetFields : Obligations.ResetFields := by
  unfold Obligations.ResetFields
  intro s k p r m i hwf ha f hf
  have hs : Sparse.sorted s.regs = true := by
    unfold State.memWf at hwf
    simp only [Bool.and_eq_true] at hwf
    exact hwf.1.1.1.1
  constructor
  · rw [State.bits_resetRegs s k p hs ha hf, bits_resetBy _ _ _ hf]
    cases p r m <;> rfl
  · intro hprk hpkg hne
    rw [State.reg_resetMotifRegs s true hprk hne ha, State.bits_resetRegs s _ _ hs ha hf, bits_resetBy _ _ _ hf]
    simp [hpkg, show (ResetKind.motif == ResetKind.powerOn) = false from rfl]

end Sys2Proof.Machine
end

section
/-! SUPPORT. What a power-on reset leaves in the package window (R99, R107). -/

namespace Sys2Proof.Machine

/-- The rails' nominal voltages change no register of the package window but PWR_IMON_CFG. -/
theorem State.fld_nominalVolts (s : State) (g : Fld Reg) (n j : Nat) (h : ∀ i < 4, Reg.PWR_IMON_CFG.addr 0 i ≠ g.reg.addr n j)
    (hg : g.reg.addr n j < 0x1000000) : s.nominalVolts.fld g n j = s.fld g n j := by
  unfold State.nominalVolts
  rw [State.each_keeps (fun t => t.fld g n j), State.each_keeps (fun t => t.fld g n j)]
  · exact fun t p hp => State.fld_setFld_reg _ _ _ _ _ _ _ _ (h p.1 (List.mem_range.1 (List.of_mem_zip hp).1))
  · intro t m _
    rw [State.fld_setFld_motif _ _ _ _ _ _ _ _ rfl hg, State.fld_setFld_motif _ _ _ _ _ _ _ _ rfl hg]

/-- The sampler's state loaded changes no register of the package window but SMP_ST and SMP_LIFE. -/
theorem State.fld_loadSampler (s : State) (g : Fld Reg) (n j : Nat) (hst : Reg.SMP_ST.addr 0 0 ≠ g.reg.addr n j)
    (hl : Reg.SMP_LIFE.addr 0 0 ≠ g.reg.addr n j) (hg : g.reg.addr n j < 0x1000000) : s.loadSampler.fld g n j = s.fld g n j := by
  have hfix : ∀ (p : Bool) (t : State) (o : Nat) (b : Bytes), (if p then (t.mramWrite o b).bump F.ECC_TV_REWRITES else t).fld g n j = t.fld g n j := fun p t o b => by
    split
    · unfold State.bump
      rw [State.fld_setFld_motif _ _ _ _ _ _ _ _ rfl hg, State.mramWrite_fld]
    · rfl
  unfold State.loadSampler
  dsimp only
  simp (disch := assumption) only [State.fld_setFld_reg, State.fld_tvWrote, hfix]

/-- The high-water marks loaded leave the package window alone. -/
theorem State.fld_loadMarks (s : State) (g : Fld Reg) (n j : Nat) (hg : g.reg.addr n j < 0x1000000) : s.loadMarks.fld g n j = s.fld g n j := by
  unfold State.loadMarks
  refine State.each_keeps (fun t => t.fld g n j) _ _ _ (fun t m _ => State.each_keeps (fun t => t.fld g n j) _ _ _ (fun t k _ => ?_))
  rw [State.fld_tvWrote _ _ _ _ _ _ hg, State.fld_setFld_motif _ _ _ _ _ _ _ _ rfl hg]

/-- The fixed slots loaded change no register but their own. -/
theorem State.fld_fixSlots (s : State) (g : Fld Reg) (n j : Nat) (hc : ∀ i < 6, Reg.STC_SLOT_C.addr 0 i ≠ g.reg.addr n j)
    (ht : ∀ i < 6, Reg.STC_SLOT_T.addr 0 i ≠ g.reg.addr n j) : s.fixSlots.fld g n j = s.fld g n j := by
  unfold State.fixSlots
  refine State.each_keeps (fun t => t.fld g n j) _ _ _ (fun t i hi => ?_)
  have hci := hc i (List.mem_range.1 hi)
  have hti := ht i (List.mem_range.1 hi)
  dsimp only
  simp (disch := assumption) only [State.fld_setFld_reg]

/-- A power-on reset from the sampling of HEAD_ID on (R99). -/
def State.afterHeadId (s : State) (headId us : Nat) : State :=
  let s := s.setFld F.PWR_ST_HU_GOOD (b2n s.hu.inputGood)
  let s := (s.modHq (fun h => { h with ctrls := [Ctrl.pf0 (headId % 2 + 1)] })).syncTemps
  let s := s.fixSlots.sample 0x0001 (bytesOf [0, 0, 0, 0])
  (s.setFld F.PKG_WIND_STEP 2).setFld F.PKG_WIND_TIME_TIME_US (min us 0xFFFFFFFF)

/-- The registers of the package window that `State.afterHeadId` writes. -/
def afterHeadIdWrites : List Nat :=
  [Reg.PWR_ST.addr 0 0, Reg.THM_PKG.addr 0 0, Reg.SMP_ST.addr 0 0, Reg.SMP_CNT.addr 0 0, Reg.PKG_WIND.addr 0 0, Reg.PKG_WIND_TIME.addr 0 0] ++
    (List.range 6).map (Reg.STC_SLOT_C.addr 0) ++ (List.range 6).map (Reg.STC_SLOT_T.addr 0)

theorem State.fld_afterHeadId (s : State) (headId us : Nat) (g : Fld Reg) (n j : Nat) (h : g.reg.addr n j ∉ afterHeadIdWrites)
    (hg : g.reg.addr n j < 0x1000000) : (s.afterHeadId headId us).fld g n j = s.fld g n j := by
  simp only [afterHeadIdWrites, List.mem_append, List.mem_cons, List.mem_map, List.mem_range, not_or, not_exists, not_and, List.not_mem_nil, not_false_eq_true,
    and_true] at h
  obtain ⟨⟨⟨hpw, hth, hst, hcnt, hw, hwt⟩, hc⟩, ht⟩ := h
  unfold State.afterHeadId
  dsimp only
  rw [State.fld_setFld_reg _ _ _ _ _ _ _ _ (by exact (Ne.symm hwt)), State.fld_setFld_reg _ _ _ _ _ _ _ _ (by exact (Ne.symm hw)),
    State.fld_sample _ _ _ _ _ _ (Ne.symm hst) (Ne.symm hcnt) hg, State.fld_fixSlots _ _ _ _ hc ht, State.fld_syncTemps _ _ _ _ (Ne.symm hth) hg,
    State.modHq_fld, State.fld_setFld_reg _ _ _ _ _ _ _ _ (by exact (Ne.symm hpw))]

/-- What a power-on reset leaves before the sampling of HEAD_ID. -/
def State.beforeHeadId (s : State) : State :=
  let s := s.abandonFlashOp.wipePower.nominalVolts
  (s.mramWrite 0x30 (leBytes 4 ((s.mramNat 0x30 4 + 1) % 2 ^ 32))).loadSampler.loadMarks

theorem State.powerOnReset_eq (s : State) (headId us : Nat) :
    s.powerOnReset headId us = (s.beforeHeadId.setFld F.PKG_ID_HEAD_ID (headId % 2)).afterHeadId headId us := by
  unfold State.powerOnReset State.afterHeadId State.beforeHeadId
  dsimp only
  rw [State.setFld_hu]

/-- Before HEAD_ID is sampled the package window is at its reset values, but for PWR_IMON_CFG, SMP_ST and SMP_LIFE (R107). -/
theorem State.fld_beforeHeadId (s : State) (g : Fld Reg) (n j : Nat) (hv : ∀ i < 4, Reg.PWR_IMON_CFG.addr 0 i ≠ g.reg.addr n j)
    (hst : Reg.SMP_ST.addr 0 0 ≠ g.reg.addr n j) (hl : Reg.SMP_LIFE.addr 0 0 ≠ g.reg.addr n j) (hg : g.reg.addr n j < 0x1000000) :
    s.beforeHeadId.fld g n j = bits g.reg.resetVal.toNat g.hi g.lo := by
  unfold State.beforeHeadId
  dsimp only
  rw [State.fld_loadMarks _ _ _ _ hg, State.fld_loadSampler _ _ _ _ hst hl hg, State.mramWrite_fld, State.fld_nominalVolts _ _ _ _ hv hg]
  rfl

/-- A power-on reset begins a Winding: mode 0, at step 2 (R93, R99). -/
theorem State.powerOnReset_winding (s : State) (headId us : Nat) :
    (s.powerOnReset headId us).mode = 0 ∧ (s.powerOnReset headId us).fld F.PKG_WIND_STEP = 2 := by
  rw [State.powerOnReset_eq]
  constructor
  · unfold State.mode
    rw [State.fld_afterHeadId _ _ _ _ _ _ (by decide) (by decide), State.fld_setFld_reg _ _ _ _ _ _ _ _ (by decide),
      State.fld_beforeHeadId _ _ _ _ (by decide) (by decide) (by decide) (by decide)]
    decide
  · unfold State.afterHeadId
    dsimp only
    rw [State.fld_setFld_reg _ _ _ _ _ _ _ _ (by decide), State.fld_setFld_same _ _ _ _ _ (by decide)]
    rfl

/-- A power-on reset samples HEAD_ID (R4). -/
theorem State.powerOnReset_headId (s : State) (headId us : Nat) : (s.powerOnReset headId us).headId = headId % 2 := by
  unfold State.headId
  rw [State.powerOnReset_eq, State.fld_afterHeadId _ _ _ _ _ _ (by decide) (by decide), State.fld_setFld_same _ _ _ _ _ (by decide)]
  exact Nat.mod_mod _ _

/-- A powered head takes a power-on reset up where TEST_MODE is low (R488). -/
theorem exec_powerOnReset_on (s : State) (headId us : Nat) (h : s.power.running = true) (ht : s.power.testMode = false) :
    exec (.powerOnReset headId us) s = .next (s.powerOnReset headId us) := by
  refine (live_on s (fun s => if s.power.testMode then s else s.powerOnReset headId us) h).trans ?_
  simp [ht]

/-- Settles O60: no register is listed at reset, and POWER_ON_RESET starts a Winding from it. -/
theorem resetState : Obligations.ResetState := by
  unfold Obligations.ResetState
  refine ⟨fun r m i f hf => bits_resetVal hf, reset_memWf, by decide, by decide, rfl, rfl, rfl, rfl, rfl, rfl, rfl, ⟨_, rfl, rfl, rfl, rfl⟩, fun a b => ?_⟩
  obtain ⟨hmode, hstep⟩ := State.powerOnReset_winding State.reset a b
  exact ⟨_, exec_powerOnReset_on _ a b rfl rfl, hmode, hstep, State.powerOnReset_headId ..⟩

end Sys2Proof.Machine
end

section
/-! SUPPORT. Which registers the errors of the memories touch (R421 to R426), and what they leave of memory and of the cached lines. -/

namespace Sys2Proof.Machine

/-- The place of a register's element in a motif window. -/
def Reg.windowOfs (r : Reg) (i : Nat) : Nat := r.spec.block * 0x100000 + r.spec.elemOfs i

theorem Reg.addr_eq_windowOfs {r : Reg} (h : r.spec.pkg = false) (m i : Nat) : r.addr m i = 0x1000000 * (m + 1) + r.windowOfs i := by
  unfold Reg.addr Reg.windowOfs windowBase blockSize
  rw [h, if_neg Bool.false_ne_true, if_neg Bool.false_ne_true, Nat.add_assoc]

/-- Registers at two places of motif windows have two addresses. -/
theorem Reg.addr_ne_of_windowOfs {r q : Reg} {i j : Nat} (m n : Nat)
    (h : (r.spec.pkg = false ∧ q.spec.pkg = false) ∧ r.windowOfs i < 0x1000000 ∧ q.windowOfs j < 0x1000000 ∧ r.windowOfs i ≠ q.windowOfs j) :
    r.addr m i ≠ q.addr n j := by
  obtain ⟨⟨hr, hq⟩, hi, hj, hne⟩ := h
  rw [Reg.addr_eq_windowOfs hr, Reg.addr_eq_windowOfs hq]
  omega

/-- A register of the package window and one of a motif's have two addresses. -/
theorem Reg.addr_ne_of_pkg {r q : Reg} {n j : Nat} (m i : Nat) (hq : q.addr n j < 0x1000000) (hr : r.spec.pkg = false) : q.addr n j ≠ r.addr m i := by
  have := Reg.addr_motif r m i hr
  omega

@[simp] theorem State.mramWrite_reg (s : State) (o : Nat) (b : Bytes) (r : Reg) (n j : Nat) : (s.mramWrite o b).reg r n j = s.reg r n j := rfl

/-- An address at which no record of the sampler writes. -/
def offSampler (a : Nat) : Prop := Reg.SMP_ST.addr 0 0 ≠ a ∧ Reg.SMP_CNT.addr 0 0 ≠ a ∧ ∀ m, Reg.ECC_FLIP_TARGET.addr m 0 ≠ a

section
variable {r : Reg} {n j : Nat} (h : offSampler (r.addr n j))
include h

theorem State.reg_setWp (s : State) (wp seq : Nat) : (s.setWp wp seq).reg r n j = s.reg r n j := by
  obtain ⟨hst, -, hflip⟩ := h
  unfold State.setWp
  dsimp only
  rw [State.reg_tvWrote _ _ _ _ _ _ hflip]
  simp (disch := exact hst) only [State.reg_setFld_other, State.mramWrite_reg]

theorem State.reg_newRec (s : State) (ty : Nat) (p : Bytes) : (s.newRec ty p).reg r n j = s.reg r n j := by
  obtain ⟨hst, hcnt, -⟩ := id h
  unfold State.newRec State.writeRec State.bump
  split
  · rw [State.reg_setFld_other _ _ _ _ _ _ _ _ (by exact hcnt)]
  · split
    · rw [State.reg_setFld_other _ _ _ _ _ _ _ _ (by exact hcnt), State.mramWrite_reg, State.reg_setFld_other _ _ _ _ _ _ _ _ (by exact hst)]
    · dsimp only
      rw [State.reg_setWp h, State.mramWrite_reg]

/-- A record appended to the sampler changes no register but SMP_ST, SMP_CNT and the ECC_FLIP_TARGET of an injection that fires (R426, R463, R464). -/
theorem State.reg_sample (s : State) (ty : Nat) (p : Bytes) : (s.sample ty p).reg r n j = s.reg r n j := by
  obtain ⟨hst, hcnt, -⟩ := id h
  have hn : (s.appendNear ty p).reg r n j = s.reg r n j := by
    unfold State.appendNear
    dsimp only
    split
    · rw [State.reg_newRec h, State.reg_setFld_other _ _ _ _ _ _ _ _ (by exact hst), State.reg_newRec h]
    · exact State.reg_newRec h ..
  unfold State.sample
  split
  · split
    · dsimp only
      split
      · unfold State.bump
        rw [State.reg_setFld_other _ _ _ _ _ _ _ _ (by exact hcnt), State.mramWrite_reg]
      · rfl
    · exact hn
  · exact hn

end

/-- A register of a motif window beside ECC_FLIP_TARGET is none of the sampler's. -/
theorem offSampler_of_motif {r : Reg} {i : Nat} (m : Nat)
    (h : r.spec.pkg = false ∧ r.windowOfs i < 0x1000000 ∧ Reg.ECC_FLIP_TARGET.windowOfs 0 ≠ r.windowOfs i) : offSampler (r.addr m i) :=
  ⟨Reg.addr_ne_of_pkg _ _ (by decide) h.1, Reg.addr_ne_of_pkg _ _ (by decide) h.1,
    fun n => Reg.addr_ne_of_windowOfs n m ⟨⟨rfl, h.1⟩, by decide, h.2.1, h.2.2⟩⟩

/-- An address at which no error of a memory shows: neither the sampler's registers nor ECC_ST and ECC_CNT of a motif. -/
def offErrors (a : Nat) : Prop := offSampler a ∧ ∀ m, Reg.ECC_ST.addr m 0 ≠ a ∧ Reg.ECC_CNT.addr m 0 ≠ a

/-- A register of a motif window outside the ECC block shows no error. -/
theorem offErrors_of_motif {r : Reg} {i : Nat} (m : Nat) (h : r.spec.pkg = false ∧ r.windowOfs i < 0x1000000 ∧ Reg.ECC_FLIP_TARGET.windowOfs 0 ≠ r.windowOfs i ∧
    Reg.ECC_ST.windowOfs 0 ≠ r.windowOfs i ∧ Reg.ECC_CNT.windowOfs 0 ≠ r.windowOfs i) : offErrors (r.addr m i) := by
  obtain ⟨hp, hw, hf, hst, hcnt⟩ := h
  exact ⟨offSampler_of_motif m ⟨hp, hw, hf⟩, fun n => ⟨Reg.addr_ne_of_windowOfs n m ⟨⟨rfl, hp⟩, by decide, hw, hst⟩,
    Reg.addr_ne_of_windowOfs n m ⟨⟨rfl, hp⟩, by decide, hw, hcnt⟩⟩⟩

/-- What neither the errors of DRAM lines nor an injection that fires changes, a write to DRAM leaves alone. -/
theorem State.dramWrote_keeps {α : Type} (p : State → α) (he : ∀ (t : State) (e : MemSt → Sparse (List (Nat × Nat))), p (t.modMs (fun d => { d with errs := e d })) = p t)
    (hf : ∀ (t : State) (m : Nat), p (t.fired m) = p t) (s : State) (m line : Nat) (whole : Bool) : p (s.dramWrote m line whole) = p s := by
  have hw : ∀ t : State, p (if whole then t.modMs (fun d => { d with errs := Sparse.set [] d.errs ((dramBase m + 128 * line) / 128) [] }) else t) = p t := fun t => by
    split
    · exact he t _
    · rfl
  unfold State.dramWrote
  dsimp only
  generalize hu : (if whole then s.modMs (fun d => { d with errs := Sparse.set [] d.errs ((dramBase m + 128 * line) / 128) [] }) else s) = u
  have hs : p u = p s := hu ▸ hw s
  split
  · rw [hf, he, hs]
  · exact hs

/-- A cached line but for its poison. -/
def CLine.unpoisoned (c : CLine) : CLine := { c with poison := false }

/-- The lines of every motif, in the ways, in the victim caches and waiting. -/
def State.allLines (s : State) : List CLine := s.ms.lines ++ s.ms.victims ++ s.ms.stalled

/-- What an error of a memory leaves: memory, and every cached line but for its poison. -/
def State.onlyPoisons (s t : State) : Prop := t.mem = s.mem ∧ t.allLines.map CLine.unpoisoned = s.allLines.map CLine.unpoisoned

theorem State.onlyPoisons_refl (s : State) : s.onlyPoisons s := ⟨rfl, rfl⟩

theorem State.onlyPoisons.trans {s t u : State} (h : s.onlyPoisons t) (g : t.onlyPoisons u) : s.onlyPoisons u := ⟨g.1.trans h.1, g.2.trans h.2⟩

theorem State.onlyPoisons_of_eq {s t : State} (hm : t.mem = s.mem) (hl : t.allLines = s.allLines) : s.onlyPoisons t := ⟨hm, by rw [hl]⟩

theorem State.onlyPoisons_of_onlyRegs {s t : State} (h : s.onlyRegs t) : s.onlyPoisons t :=
  State.onlyPoisons_of_eq (h.same State.mem (fun _ _ => rfl)) (h.same State.allLines (fun _ _ => rfl))

theorem State.onlyRegs_eccEvent (s : State) (m code inst kind word : Nat) : s.onlyRegs (s.eccEvent m code inst kind word) :=
  (State.onlyRegs_refl s).setFld.setFld.setFld.setFld.setFld

theorem State.onlySamples_of_onlyRegs {s t : State} (h : s.onlyRegs t) : s.onlySamples t := by
  unfold State.onlySamples
  rw [h]

theorem State.onlySamples_sramUeSeen (s : State) (m code inst word : Nat) : s.onlySamples (s.sramUeSeen m code inst word) :=
  (State.onlySamples_of_onlyRegs ((State.onlyRegs_refl s).bump.trans (State.onlyRegs_eccEvent ..))).trans (State.onlySamples_sample ..)

theorem State.onlyPoisons_of_onlySamples {s t : State} (h : s.onlySamples t) : s.onlyPoisons t :=
  State.onlyPoisons_of_eq (h.same State.mem (fun _ _ _ _ => rfl)) (h.same State.allLines (fun _ _ _ _ => rfl))

theorem mapWhere_poison_unpoisoned (p : CLine → Bool) (l : List CLine) :
    (mapWhere p (fun c => { c with poison := true }) l).map CLine.unpoisoned = l.map CLine.unpoisoned := by
  unfold mapWhere
  rw [List.map_map]
  refine List.map_congr_left (fun c _ => ?_)
  dsimp only [Function.comp]
  split <;> rfl

theorem State.onlyPoisons_poisonCached (s : State) (a : Nat) : s.onlyPoisons (s.poisonCached a) := by
  refine ⟨rfl, ?_⟩
  unfold State.allLines State.poisonCached
  simp only [State.modMs_ms, List.map_append, mapWhere_poison_unpoisoned]

theorem State.onlyPoisons_poisonLine (s : State) (a : Nat) : s.onlyPoisons (s.poisonLine a) := by
  unfold State.poisonLine
  split
  · exact State.onlyPoisons_refl s
  · exact State.onlyPoisons_of_eq rfl rfl

theorem State.onlyPoisons_dataEffect (s : State) (code a : Nat) : s.onlyPoisons (s.dataEffect code a) := by
  unfold State.dataEffect State.dataError
  split
  · split
    · split
      · exact State.onlyPoisons_poisonCached ..
      · exact State.onlyPoisons_refl s
    · split
      · exact State.onlyPoisons_poisonLine ..
      · exact State.onlyPoisons_refl s
  · split
    · exact State.onlyPoisons_poisonCached ..
    · exact State.onlyPoisons_poisonLine ..

theorem State.onlyPoisons_sramCorrected (s : State) (m code inst word : Nat) : s.onlyPoisons (s.sramCorrected m code inst word) := by
  have h : ∀ d : Sparse Nat, s.onlyPoisons (s.modMs (fun x => { x with hard := d })) := fun d => State.onlyPoisons_of_eq rfl rfl
  exact (h _).trans (State.onlyPoisons_of_onlyRegs ((State.onlyRegs_refl _).bump.trans (State.onlyRegs_eccEvent ..)))

/-- A wrong word found in a memory that holds data poisons lines at most (R421). -/
theorem State.onlyPoisons_dataFlip (s : State) (f : Flip) : s.onlyPoisons (s.dataFlip f) := by
  have ue : ∀ t : State, t.onlyPoisons ((t.sramUeSeen f.motif f.code f.inst f.word).dataEffect f.code f.place) := fun t =>
    (State.onlyPoisons_of_onlySamples (State.onlySamples_sramUeSeen ..)).trans (State.onlyPoisons_dataEffect ..)
  have took : s.onlyPoisons s.tookFree := State.onlyPoisons_of_eq rfl rfl
  unfold State.dataFlip
  dsimp only
  split
  · exact State.onlyPoisons_refl s
  · split
    · exact State.onlyPoisons_sramCorrected ..
    · split
      · exact ue s
      · split
        · exact took.trans (State.onlyPoisons_sramCorrected ..)
        · exact took.trans (ue _)
        · exact took

theorem State.onlyPoisons_meetFlips (s : State) (p : Flip → Bool) : s.onlyPoisons (s.meetFlips p) := by
  unfold State.meetFlips
  dsimp only
  split
  · refine State.each_holds (fun t => s.onlyPoisons t) _ _ _ (State.onlyPoisons_of_eq rfl rfl) (fun t f _ ht => ht.trans (State.onlyPoisons_dataFlip ..))
  · exact State.onlyPoisons_refl s

section
variable {r : Reg} {n j : Nat} (h : offErrors (r.addr n j))
include h

theorem State.reg_eccEvent (s : State) (m code inst kind word : Nat) : (s.eccEvent m code inst kind word).reg r n j = s.reg r n j := by
  have hst := (h.2 m).1
  unfold State.eccEvent
  dsimp only
  simp (disch := exact hst) only [State.reg_setFld_other]

theorem State.reg_sramCorrected (s : State) (m code inst word : Nat) : (s.sramCorrected m code inst word).reg r n j = s.reg r n j := by
  unfold State.sramCorrected State.bump
  dsimp only
  rw [State.reg_eccEvent h, State.reg_setFld_other _ _ _ _ _ _ _ _ (by exact (h.2 m).2), State.modMs_reg]

theorem State.reg_sramUeSeen (s : State) (m code inst word : Nat) : (s.sramUeSeen m code inst word).reg r n j = s.reg r n j := by
  unfold State.sramUeSeen State.sampleUe State.bump
  rw [State.reg_sample h.1, State.reg_eccEvent h, State.reg_setFld_other _ _ _ _ _ _ _ _ (by exact (h.2 m).2)]

end

theorem State.regs_dataEffect (s : State) (code a : Nat) : (s.dataEffect code a).regs = s.regs := by
  have hl : (s.poisonLine a).regs = s.regs := by
    unfold State.poisonLine
    split <;> rfl
  unfold State.dataEffect State.dataError
  split
  · split
    · split <;> rfl
    · split
      · exact hl
      · rfl
  · split
    · rfl
    · exact hl

theorem State.reg_congr {s t : State} (h : t.regs = s.regs) (r : Reg) (n j : Nat) : t.reg r n j = s.reg r n j := by
  unfold State.reg
  rw [h]

section
variable {r : Reg} {n j : Nat} (h : offErrors (r.addr n j))
include h

theorem State.reg_dataFlip (s : State) (f : Flip) : (s.dataFlip f).reg r n j = s.reg r n j := by
  have ue : ∀ t : State, ((t.sramUeSeen f.motif f.code f.inst f.word).dataEffect f.code f.place).reg r n j = t.reg r n j := fun t =>
    (State.reg_congr (State.regs_dataEffect ..) r n j).trans (State.reg_sramUeSeen h ..)
  unfold State.dataFlip
  dsimp only
  split
  · rfl
  · split
    · exact State.reg_sramCorrected h ..
    · split
      · exact ue s
      · split
        · exact State.reg_sramCorrected h ..
        · exact ue _
        · rfl

theorem State.reg_meetFlips (s : State) (p : Flip → Bool) : (s.meetFlips p).reg r n j = s.reg r n j := by
  unfold State.meetFlips
  dsimp only
  split
  · exact State.each_keeps (fun t => t.reg r n j) _ _ _ (fun t f _ => State.reg_dataFlip h ..)
  · rfl

theorem State.reg_fired (s : State) (m : Nat) : (s.fired m).reg r n j = s.reg r n j := by
  have hf := h.1.2.2 m
  unfold State.fired
  rw [State.reg_setFld_other _ _ _ _ _ _ _ _ (by exact hf), State.reg_setFld_other _ _ _ _ _ _ _ _ (by exact hf)]

theorem State.reg_writeBack (s : State) (c : CLine) : (s.writeBack c).reg r n j = s.reg r n j := by
  unfold State.writeBack
  dsimp only
  rw [State.dramWrote_keeps (fun t => t.reg r n j) (fun t e => State.modMs_reg ..) (fun t m => State.reg_fired h ..), State.modMs_reg]
  rfl

end

end Sys2Proof.Machine
end

section
/-! SUPPORT. What a maintenance operation makes of the cached lines, of memory and of the registers (R417). -/

namespace Sys2Proof.Machine

/-- A byte of a run of values written reads the value of its place. -/
theorem Sparse.get_setRange_in {β : Type} [DecidableEq β] (d : β) (m : Sparse β) (a k : Nat) (l : List β) (h : k < l.length) :
    Sparse.get d (Sparse.setRange d m a l) (a + k) = l[k] := by
  induction l generalizing m a k with
  | nil => cases h
  | cons v t ih =>
    unfold Sparse.setRange
    cases k with
    | zero => exact (Sparse.get_setRange_out _ _ _ _ _ (.inl (by omega))).trans (Sparse.get_set_same ..)
    | succ k => rw [show a + (k + 1) = a + 1 + k by omega, ih _ _ _ (Nat.lt_of_succ_lt_succ h)]; rfl

/-- A run of values read has the value of each of its places. -/
theorem Sparse.getElem_getRange {β : Type} (d : β) (m : Sparse β) (a n k : Nat) (h : k < (Sparse.getRange d m a n).length) :
    (Sparse.getRange d m a n)[k] = Sparse.get d m (a + k) := by
  induction n generalizing a k with
  | zero => cases h
  | succ n ih =>
    cases k with
    | zero => rfl
    | succ k =>
      simp only [Sparse.getRange, List.getElem_cons_succ]
      rw [ih, show a + 1 + k = a + (k + 1) by omega]

theorem Sparse.length_getRange {β : Type} (d : β) (m : Sparse β) (a n : Nat) : (Sparse.getRange d m a n).length = n := by
  induction n generalizing a with
  | zero => rfl
  | succ n ih => rw [Sparse.getRange, List.length_cons, ih]

theorem CLine.length_bytes (c : CLine) : c.bytes.length = 128 := Sparse.length_getRange ..

/-- Memory with a cached line written back. -/
def putLine (mem : Sparse Byte) (c : CLine) : Sparse Byte := Sparse.setRange memDefault mem c.addr c.bytes

/-- The addresses of a line are those from its first one on. -/
theorem CLine.holds_iff (c : CLine) (y : Nat) : c.holds y = true ↔ c.addr ≤ y ∧ y < c.addr + 128 := by
  simp [CLine.holds, CLine.addr]

/-- A line written back leaves the bytes outside it alone. -/
theorem get_putLine_out (mem : Sparse Byte) (c : CLine) (y : Nat) (h : c.holds y = false) :
    Sparse.get memDefault (putLine mem c) y = Sparse.get memDefault mem y := by
  refine Sparse.get_setRange_out _ _ _ _ _ ?_
  have hn : ¬ (c.addr ≤ y ∧ y < c.addr + 128) := fun hy => by rw [(c.holds_iff y).2 hy] at h; cases h
  rw [c.length_bytes]
  omega

/-- A line written back puts its bytes into memory. -/
theorem get_putLine_in (mem : Sparse Byte) (c : CLine) (y : Nat) (h : c.holds y = true) :
    Sparse.get memDefault (putLine mem c) y = Sparse.get 0 c.data (y % 128) := by
  obtain ⟨hlo, hhi⟩ := (c.holds_iff y).1 h
  have hk : y - c.addr < c.bytes.length := by rw [c.length_bytes]; omega
  have hy : y = c.addr + (y - c.addr) := by omega
  have hmod : y % 128 = 0 + (y - c.addr) := by
    have : c.addr % 128 = 0 := by unfold CLine.addr dramBase; omega
    omega
  unfold putLine
  rw [hmod]
  conv_lhs => rw [hy]
  rw [Sparse.get_setRange_in _ _ _ _ _ hk]
  exact Sparse.getElem_getRange ..

/-- Lines written back leave the bytes outside all of them alone. -/
theorem get_putLines_out (l : List CLine) (mem : Sparse Byte) (y : Nat) (h : ∀ c ∈ l, c.holds y = false) :
    Sparse.get memDefault (l.foldl putLine mem) y = Sparse.get memDefault mem y := by
  induction l generalizing mem with
  | nil => rfl
  | cons c l ih =>
    rw [List.foldl_cons, ih _ (fun e he => h e (List.mem_cons_of_mem _ he)), get_putLine_out _ _ _ (h c (by simp))]

/-- A byte of lines written back that hold the same data there reads that data. -/
theorem get_putLines_in (l : List CLine) (mem : Sparse Byte) (data : Sparse Byte) (y : Nat) (hex : ∃ c ∈ l, c.holds y = true)
    (h : ∀ c ∈ l, c.holds y = true → c.data = data) : Sparse.get memDefault (l.foldl putLine mem) y = Sparse.get 0 data (y % 128) := by
  induction l generalizing mem with
  | nil => obtain ⟨c, hc, -⟩ := hex; cases hc
  | cons c l ih =>
    rw [List.foldl_cons]
    by_cases hl : ∃ e ∈ l, e.holds y = true
    · exact ih _ hl (fun e he => h e (List.mem_cons_of_mem _ he))
    · have hc : c.holds y = true := by
        obtain ⟨e, he, hy⟩ := hex
        rcases List.mem_cons.1 he with rfl | he
        · exact hy
        · exact absurd ⟨e, he, hy⟩ hl
      rw [get_putLines_out _ _ _ (fun e he => by simpa using fun hy => hl ⟨e, he, hy⟩), get_putLine_in _ _ _ hc, h c (by simp) hc]

/-- A line written back is in memory. -/
theorem State.mem_writeBack (s : State) (c : CLine) : (s.writeBack c).mem = putLine s.mem c := by
  unfold State.writeBack
  dsimp only
  rw [dramWrote_mem, State.modMs_mem]
  rfl

theorem State.mem_writeBacks (s : State) (l : List CLine) : (s.each l State.writeBack).mem = l.foldl putLine s.mem := by
  unfold State.each
  induction l generalizing s with
  | nil => rfl
  | cons c l ih => rw [List.foldl_cons, List.foldl_cons, ih, State.mem_writeBack]

/-- The poison of lines has no part in what is written back. -/
theorem foldl_putLine_unpoisoned (l : List CLine) (mem : Sparse Byte) : (l.map CLine.unpoisoned).foldl putLine mem = l.foldl putLine mem := by
  rw [List.foldl_map]
  rfl

/-- The dirty lines of a motif that a test picks. -/
def State.dirtyLines (s : State) (m : Nat) (p : CLine → Bool) : List CLine := s.allLines.filter (fun c => c.motif == m && p c && c.dirty)

/-- The dirty lines that a test picks which looks at no poison are the same lines where only poison differs. -/
theorem State.onlyPoisons.dirtyLines {s t : State} (h : s.onlyPoisons t) (m : Nat) (p : CLine → Bool) (hp : ∀ c b, p { c with poison := b } = p c) :
    (t.dirtyLines m p).map CLine.unpoisoned = (s.dirtyLines m p).map CLine.unpoisoned := by
  have key : ∀ u : State, (u.dirtyLines m p).map CLine.unpoisoned = (u.allLines.map CLine.unpoisoned).filter (fun c => c.motif == m && p c && c.dirty) := fun u => by
    rw [List.filter_map]
    unfold State.dirtyLines
    congr 2
    funext c
    rw [Function.comp, show p c.unpoisoned = p c from hp c false]
    rfl
  rw [key, key, h.2]

/-- What a maintenance operation leaves of a list of lines: 1 cleans those picked, the others drop them. -/
def maintained (op m : Nat) (p : CLine → Bool) (l : List CLine) : List CLine :=
  if op = 1 then mapWhere (fun c => c.motif == m && p c) (fun c => { c with dirty := false }) l else l.filter (fun c => !(c.motif == m && p c))

/-- The state of an operation before its lines are taken up: wrong words of the SRAMs are met and dirty lines written, but not by an INVALIDATE. -/
def State.maintFlushed (s : State) (op m : Nat) (p : CLine → Bool) : State :=
  if op = 2 then s else (s.meetFlips (fun f => f.motif == m)).each ((s.meetFlips (fun f => f.motif == m)).dirtyLines m p) State.writeBack

theorem State.maintLines_eq (s : State) (op m : Nat) (p : CLine → Bool) :
    s.maintLines op m p = ((s.maintFlushed op m p).modMs (fun d => { d with
      lines := maintained op m p d.lines, victims := maintained op m p d.victims, stalled := maintained op m p d.stalled })).syncCch m := by
  unfold State.maintLines State.maintFlushed
  dsimp only
  by_cases h2 : op = 2
  · simp only [h2, if_true]
    rfl
  · simp only [h2, if_false]
    rfl

/-- The lines after a maintenance operation, of some lines before it. -/
theorem State.allLines_maintLines (s : State) (op m : Nat) (p : CLine → Bool) : (s.maintLines op m p).allLines = maintained op m p (s.maintFlushed op m p).allLines := by
  rw [State.maintLines_eq]
  unfold State.syncCch State.allLines
  dsimp only
  rw [State.setFld_ms, State.setFld_ms, State.modMs_ms]
  unfold maintained mapWhere
  split <;> simp

theorem maintained_clean {m : Nat} {p : CLine → Bool} {l : List CLine} {c : CLine} (hc : c ∈ maintained 1 m p l) (hm : c.motif = m) (hp : p c = true) :
    c.dirty = false := by
  obtain ⟨x, -, hx⟩ := List.mem_map.1 hc
  split at hx
  · rw [← hx]
  · rename_i hn
    subst hx
    simp [hm, hp] at hn

theorem maintained_gone {op m : Nat} {p : CLine → Bool} {l : List CLine} {c : CLine} (ho : op ≠ 1) (hc : c ∈ maintained op m p l) :
    ¬ (c.motif = m ∧ p c = true) := by
  unfold maintained at hc
  rw [if_neg ho] at hc
  rintro ⟨hm, hp⟩
  have := (List.mem_filter.1 hc).2
  simp [hm, hp] at this

/-- Memory after a maintenance operation: an INVALIDATE leaves it, the others have written the dirty lines picked. -/
theorem State.mem_maintLines (s : State) (op m : Nat) (p : CLine → Bool) (hp : ∀ c b, p { c with poison := b } = p c) :
    (s.maintLines op m p).mem = if op = 2 then s.mem else (s.dirtyLines m p).foldl putLine s.mem := by
  have hflip := State.onlyPoisons_meetFlips s (fun f => f.motif == m)
  rw [State.maintLines_eq]
  unfold State.syncCch State.maintFlushed
  dsimp only
  rw [State.setFld_mem, State.setFld_mem, State.modMs_mem]
  split
  · rfl
  · rw [State.mem_writeBacks, hflip.1, ← foldl_putLine_unpoisoned, hflip.dirtyLines m p hp, foldl_putLine_unpoisoned]

theorem State.reg_maintFlushed (s : State) (op m : Nat) (p : CLine → Bool) {r : Reg} {n j : Nat} (h : offErrors (r.addr n j)) :
    (s.maintFlushed op m p).reg r n j = s.reg r n j := by
  unfold State.maintFlushed
  split
  · rfl
  · rw [State.each_keeps (fun t => t.reg r n j) _ _ _ (fun t c _ => State.reg_writeBack h ..), State.reg_meetFlips h]

/-- CCH_ST is the one register outside the ECC block and the sampler that a maintenance operation brings in step. -/
theorem State.reg_maintLines (s : State) (op m : Nat) (p : CLine → Bool) {r : Reg} {n j : Nat} (h : offErrors (r.addr n j))
    (hst : Reg.CCH_ST.addr m 0 ≠ r.addr n j) : (s.maintLines op m p).reg r n j = s.reg r n j := by
  rw [State.maintLines_eq]
  unfold State.syncCch
  dsimp only
  rw [State.reg_setFld_other _ _ _ _ _ _ _ _ (by exact hst), State.reg_setFld_other _ _ _ _ _ _ _ _ (by exact hst), State.modMs_reg, State.reg_maintFlushed _ _ _ _ h]

/-- CCH_ST brought in step changes DIRTY and VICTIM alone. -/
theorem State.fld_syncCch (s : State) (g : Fld Reg) (m : Nat)
    (h : F.CCH_ST_DIRTY.reg = g.reg ∧ g.hi < 64 ∧ g.lo ≤ g.hi ∧ (F.CCH_ST_DIRTY.hi < g.lo ∨ g.hi < F.CCH_ST_DIRTY.lo) ∧
      (F.CCH_ST_VICTIM.hi < g.lo ∨ g.hi < F.CCH_ST_VICTIM.lo)) : (s.syncCch m).fld g m = s.fld g m := by
  obtain ⟨hr, h1, h2, h3, h4⟩ := h
  unfold State.syncCch
  dsimp only
  rw [State.fld_setFld_field _ F.CCH_ST_VICTIM _ _ _ _ ⟨hr, by decide, by decide, h1, h2, h4⟩,
    State.fld_setFld_field _ F.CCH_ST_DIRTY _ _ _ _ ⟨hr, by decide, by decide, h1, h2, h3⟩]

/-- A maintenance operation leaves the fields of CCH_ST beside DIRTY and VICTIM alone. -/
theorem State.fld_maintLines_cchSt (s : State) (op m : Nat) (p : CLine → Bool) (g : Fld Reg)
    (h : F.CCH_ST_DIRTY.reg = g.reg ∧ g.hi < 64 ∧ g.lo ≤ g.hi ∧ (F.CCH_ST_DIRTY.hi < g.lo ∨ g.hi < F.CCH_ST_DIRTY.lo) ∧
      (F.CCH_ST_VICTIM.hi < g.lo ∨ g.hi < F.CCH_ST_VICTIM.lo)) : (s.maintLines op m p).fld g m = s.fld g m := by
  rw [State.maintLines_eq, State.fld_syncCch _ _ _ h, State.modMs_fld]
  unfold State.fld
  rw [← h.1, State.reg_maintFlushed _ _ _ _ (offErrors_of_motif m (by decide))]

end Sys2Proof.Machine
end

section
/-! SUPPORT. The map cache's registers: maintenance, policy, enabling and draining (R412, R417 to R420). -/

namespace Sys2Proof.Machine

/-- A write of CCH_MAINT by each of its rows. -/
theorem exec_maintCommand (s : State) (m v : Nat) (hr : s.power.running = true) (c : Instr) (hc : c ∈ [Instr.cchClean m v, .cchInvalidate m v, .cchCleanInvalidate m v]) :
    exec c s = .next (if s.hasMotif m then s.writeMaint m v else s) := by
  have h := live_on s (fun s => if s.hasMotif m then s.writeMaint m v else s) hr
  simp only [List.mem_cons, List.not_mem_nil, or_false] at hc
  rcases hc with rfl | rfl | rfl
  · exact h
  · exact h
  · exact h

/-- A write of CCH_CTL by each of its rows. -/
theorem exec_cchCtlCommand (s : State) (m v : Nat) (hr : s.power.running = true) (c : Instr) (hc : c ∈ [Instr.cchDisable m v, .cchPolicyChange m v]) :
    exec c s = .next (if s.hasMotif m then s.writeCchCtl m v else s) := by
  have h := live_on s (fun s => if s.hasMotif m then s.writeCchCtl m v else s) hr
  simp only [List.mem_cons, List.not_mem_nil, or_false] at hc
  rcases hc with rfl | rfl
  · exact h
  · exact h

theorem exec_maintComplete_on (s : State) (m : Nat) (hr : s.power.running = true) :
    exec (.maintComplete m) s = .next (if s.flag F.CCH_MAINT_BUSY m ∧ ¬ s.flag F.CCH_ST_DRAIN m then s.endMaint m 0 else s) :=
  live_on s (fun s => if s.flag F.CCH_MAINT_BUSY m ∧ ¬ s.flag F.CCH_ST_DRAIN m then s.endMaint m 0 else s) hr

theorem exec_cacheDrainComplete_on (s : State) (m : Nat) (hr : s.power.running = true) :
    exec (.cacheDrainComplete m) s = .next (if s.flag F.CCH_ST_DRAIN m then s.endDrain m else s) :=
  live_on s (fun s => if s.flag F.CCH_ST_DRAIN m then s.endDrain m else s) hr

theorem exec_eccInjectArm_on (s : State) (m v : Nat) (hr : s.power.running = true) :
    exec (.eccInjectArm m v) s = .next (if s.hasMotif m then s.writeFlipTarget m v else s) :=
  live_on s (fun s => if s.hasMotif m then s.writeFlipTarget m v else s) hr

/-! ## Fields -/

/-- A field of one bit is set as its bit is. -/
theorem bits_one_ne_zero (v i : Nat) : (bits v i i != 0) = bit v i := by
  have h : i + 1 - i = 1 := by omega
  unfold bits bit
  rw [h, Nat.pow_one]
  rcases Nat.mod_two_eq_zero_or_one (v / 2 ^ i) with e | e <;> rw [e] <;> rfl

/-- A bit or another is set where one of them is. -/
theorem or_ne_zero (a b : Nat) : ((a ||| b) != 0) = (b != 0 || a != 0) := by
  rw [Bool.eq_iff_iff]
  simp only [bne_iff_ne, ne_eq, Nat.or_eq_zero_iff, Bool.or_eq_true]
  tauto

theorem State.flag_setFld_zero (s : State) (f : Fld Reg) (m i : Nat) (h : f.lo ≤ f.hi ∧ f.hi < 64) : (s.setFld f 0 m i).flag f m i = false := by
  unfold State.flag
  rw [State.fld_setFld_same _ _ _ _ _ h]
  simp

theorem State.flag_congr {s t : State} {g : Fld Reg} {m i : Nat} (h : t.fld g m i = s.fld g m i) : t.flag g m i = s.flag g m i := by
  unfold State.flag
  rw [h]

/-- A field that a write stores, where the lock set leaves its register open. -/
theorem State.fld_softWrite_rw (s : State) (r : Reg) (m i v : Nat) (hro : roSlot r i = false) (hb : ∀ t : State, t.heldBits r m i = [])
    (hl : s.inLockSet r m i = false) {f : FieldSpec} (hf : f ∈ r.spec.fields) (ha : f.acc = .rw ∧ f.extra = .none) :
    (s.softWrite r m i v).fld ⟨r, f.hi, f.lo⟩ m i = bits v f.hi f.lo := by
  unfold State.fld
  rw [State.bits_softWrite _ _ _ _ _ hro hb hf]
  simp [FieldSpec.isPL, FieldSpec.write, hl, ha.1, ha.2]

/-! ## Maintenance -/

/-- What a write of CCH_MAINT stores (R417). -/
theorem State.softWrite_cchMaint (s : State) (m v : Nat) (hl : s.inLockSet .CCH_MAINT m 0 = false) :
    ∃ u, u = s.softWrite .CCH_MAINT m 0 v ∧ u.fld F.CCH_MAINT_OP m = bits v 61 60 ∧ u.fld F.CCH_MAINT_LINES m = bits v 41 18 ∧
      u.flag F.CCH_MAINT_MODE m = bit v 59 ∧ u.flag F.CCH_MAINT_ALL m = bit v 58 ∧ u.flag F.CCH_MAINT_GO m = (bit v 63 || s.flag F.CCH_MAINT_GO m) ∧
      u.ms = s.ms ∧ u.mem = s.mem := by
  have hb : ∀ t : State, t.heldBits .CCH_MAINT m 0 = [] := fun _ => rfl
  have hrw : ∀ {f : FieldSpec}, f ∈ Reg.CCH_MAINT.spec.fields → f.acc = .rw ∧ f.extra = .none →
      (s.softWrite .CCH_MAINT m 0 v).fld ⟨.CCH_MAINT, f.hi, f.lo⟩ m 0 = bits v f.hi f.lo := fun hf ha => State.fld_softWrite_rw s _ m 0 v rfl hb hl hf ha
  have hregs := State.onlyRegs_softWrite s .CCH_MAINT m 0 v rfl hb
  refine ⟨_, rfl, ?_, ?_, ?_, ?_, ?_, hregs.same State.ms (fun _ _ => rfl), hregs.same State.mem (fun _ _ => rfl)⟩
  · exact hrw (f := ⟨61, 60, .rw, .none, .fixed, 0, .pwm⟩) (by decide) (by decide)
  · exact hrw (f := ⟨41, 18, .rw, .none, .fixed, 0, .pwm⟩) (by decide) (by decide)
  · unfold State.flag
    rw [hrw (f := ⟨59, 59, .rw, .none, .fixed, 0, .pwm⟩) (by decide) (by decide)]
    exact bits_one_ne_zero v 59
  · unfold State.flag
    rw [hrw (f := ⟨58, 58, .rw, .none, .fixed, 0, .pwm⟩) (by decide) (by decide)]
    exact bits_one_ne_zero v 58
  · unfold State.flag State.fld
    rw [State.bits_softWrite _ _ _ _ _ rfl hb (f := ⟨63, 63, .w1s, .none, .fixed, 0, .pwm⟩) (by decide)]
    rw [hl, show FieldSpec.isPL ⟨63, 63, .w1s, .none, .fixed, 0, .pwm⟩ false = false from rfl, Bool.and_false]
    refine (or_ne_zero _ (bits v 63 63)).trans ?_
    rw [bits_one_ne_zero v 63]

/-- BUSY set leaves what an operation looks at as it is. -/
theorem State.startMaint_reads (s : State) (m : Nat) :
    (s.setFld F.CCH_MAINT_BUSY 1 m).mode = s.mode ∧ (s.setFld F.CCH_MAINT_BUSY 1 m).flag F.ECC_CTL_INJECT_EN m = s.flag F.ECC_CTL_INJECT_EN m ∧
    (∀ g : Fld Reg, g = F.CCH_MAINT_MODE ∨ g = F.CCH_MAINT_ALL ∨ g = F.CCH_MAINT_SET ∨ g = F.CCH_MAINT_WAY ∨ g = F.CCH_MAINT_LINES →
      (s.setFld F.CCH_MAINT_BUSY 1 m).fld g m = s.fld g m) ∧
    (s.setFld F.CCH_MAINT_BUSY 1 m).fld F.CCH_MAINT_ADDR_ADDR m = s.fld F.CCH_MAINT_ADDR_ADDR m ∧
    (∀ st w, (s.setFld F.CCH_MAINT_BUSY 1 m).lineAt m st w = s.lineAt m st w) ∧ (s.setFld F.CCH_MAINT_BUSY 1 m).populated m = s.populated m := by
  refine ⟨State.fld_setFld_motif _ _ _ _ _ _ _ _ rfl (by decide), State.flag_congr (State.fld_setFld_reg _ _ _ _ _ _ _ _ (Reg.addr_ne_of_windowOfs m m (by decide))),
    ?_, State.fld_setFld_reg _ _ _ _ _ _ _ _ (Reg.addr_ne_of_windowOfs m m (by decide)), fun st w => ?_, ?_⟩
  · rintro g (rfl | rfl | rfl | rfl | rfl) <;> exact State.fld_setFld_field _ _ _ _ _ _ (by decide)
  · unfold State.lineAt
    rw [State.setFld_ms]
  · unfold State.populated
    rw [State.fld_setFld_reg _ _ _ _ _ _ _ _ (Reg.addr_ne_of_windowOfs m m (by decide))]

/-- What the operation that CCH_MAINT names does as it starts (R417, R419; log 38, log 41). -/
theorem State.startMaint_cases (s : State) (m op a : Nat) (u : State) (hop : op = s.fld F.CCH_MAINT_OP m) (ha : a = s.fld F.CCH_MAINT_ADDR_ADDR m * 128)
    (hu : u = s.setFld F.CCH_MAINT_BUSY 1 m) :
    (op = 0 → ∃ e, s.startMaint m = u.tookFree.endMaint m e) ∧
    (op = 2 → s.mode ≠ 0 → s.flag F.ECC_CTL_INJECT_EN m = false → s.startMaint m = u.endMaint m 0x2F03) ∧
    (op ≠ 0 → (op ≠ 2 ∨ s.mode = 0 ∨ s.flag F.ECC_CTL_INJECT_EN m = true) →
      (s.flag F.CCH_MAINT_MODE m = true → s.flag F.CCH_MAINT_ALL m = true → s.startMaint m = u.maintLines op m (fun _ => true)) ∧
      (∀ c, s.flag F.CCH_MAINT_MODE m = true → s.flag F.CCH_MAINT_ALL m = false → s.lineAt m (s.fld F.CCH_MAINT_SET m) (s.fld F.CCH_MAINT_WAY m) = some c →
        s.startMaint m = u.maintLines op m (fun x => x.line == c.line)) ∧
      (s.flag F.CCH_MAINT_MODE m = true → s.flag F.CCH_MAINT_ALL m = false → s.lineAt m (s.fld F.CCH_MAINT_SET m) (s.fld F.CCH_MAINT_WAY m) = none → s.startMaint m = u) ∧
      (s.flag F.CCH_MAINT_MODE m = false → (a < dramBase m ∨ dramBase m + s.populated m < a + 128 * max 1 (s.fld F.CCH_MAINT_LINES m)) → s.startMaint m = u.endMaint m 0x2F02) ∧
      (s.flag F.CCH_MAINT_MODE m = false → dramBase m ≤ a → a + 128 * max 1 (s.fld F.CCH_MAINT_LINES m) ≤ dramBase m + s.populated m → s.startMaint m = u.maintLines op m
        (fun c => decide ((a - dramBase m) / 128 ≤ c.line) && decide (c.line < (a - dramBase m) / 128 + max 1 (s.fld F.CCH_MAINT_LINES m))))) := by
  obtain ⟨hmode, hinj, hfld, haddr, hline, hpop⟩ := s.startMaint_reads m
  rw [← hu] at hmode hinj hfld haddr hline hpop
  have hfm : u.flag F.CCH_MAINT_MODE m = s.flag F.CCH_MAINT_MODE m := State.flag_congr (hfld _ (by simp))
  have hfa : u.flag F.CCH_MAINT_ALL m = s.flag F.CCH_MAINT_ALL m := State.flag_congr (hfld _ (by simp))
  have hset : u.fld F.CCH_MAINT_SET m = s.fld F.CCH_MAINT_SET m := hfld _ (by simp)
  have hway : u.fld F.CCH_MAINT_WAY m = s.fld F.CCH_MAINT_WAY m := hfld _ (by simp)
  have hln : u.fld F.CCH_MAINT_LINES m = s.fld F.CCH_MAINT_LINES m := hfld _ (by simp)
  unfold State.startMaint
  dsimp only
  rw [← hu, ← hop, hmode, hinj, hfm, hfa, hset, hway, hln, haddr, ← ha, hline, hpop]
  refine ⟨fun h0 => ⟨_, if_pos h0⟩, fun h2 hm hi => ?_, fun h0 hok => ?_⟩
  · rw [if_neg (by omega), if_pos ⟨h2, hm, by simp [hi]⟩]
  · have hno : ¬ (op = 2 ∧ s.mode ≠ 0 ∧ ¬ s.flag F.ECC_CTL_INJECT_EN m = true) := by tauto
    rw [if_neg h0, if_neg hno]
    refine ⟨fun hM hA => ?_, fun c hM hA hc => ?_, fun hM hA hc => ?_, fun hM hr => ?_, fun hM hlo hhi => ?_⟩
    · rw [if_pos hM, if_pos hA]
    · rw [if_pos hM, if_neg (by simp [hA]), hc]
    · rw [if_pos hM, if_neg (by simp [hA]), hc]
    · rw [if_neg (by simp [hM]), if_pos hr]
    · rw [if_neg (by simp [hM]), if_neg (by omega)]

/-- The end of an operation (R417). -/
theorem State.endMaint_shows (s : State) (m k : Nat) (hk : k < 2 ^ 15) :
    ∃ t, t = s.endMaint m k ∧ t.fld F.CCH_MAINT_STATUS m = k ∧ t.flag F.CCH_MAINT_BUSY m = false ∧ t.flag F.CCH_MAINT_GO m = false ∧ t.flag F.CCH_EVT_MAINT_DONE m = true ∧
      t.ms = s.ms ∧ t.mem = s.mem := by
  have hevt : ∀ (t : State) (g : Fld Reg), g.reg = .CCH_MAINT → (t.setEvt F.CCH_EVT_MAINT_DONE m).fld g m = t.fld g m := fun t g hg =>
    State.fld_setEvt_reg _ _ _ _ _ _ (by rw [hg]; exact Reg.addr_ne_of_windowOfs m m (by decide))
  refine ⟨_, rfl, ?_, ?_, ?_, State.flag_setEvt_same _ _ _ (by decide), ?_, ?_⟩
  · unfold State.endMaint
    rw [hevt _ _ rfl, State.fld_setFld_field _ _ _ _ _ _ (by decide), State.fld_setFld_field _ _ _ _ _ _ (by decide), State.fld_setFld_same _ _ _ _ _ (by decide)]
    exact Nat.mod_eq_of_lt (Nat.lt_trans hk (by decide))
  · unfold State.endMaint
    rw [State.flag_congr (hevt _ _ rfl), State.flag_congr (State.fld_setFld_field _ _ _ _ _ _ (by decide)), State.flag_setFld_zero _ _ _ _ (by decide)]
  · unfold State.endMaint
    rw [State.flag_congr (hevt _ _ rfl), State.flag_setFld_zero _ _ _ _ (by decide)]
  · unfold State.endMaint
    rw [State.setEvt_ms, State.setFld_ms, State.setFld_ms, State.setFld_ms]
  · unfold State.endMaint
    rw [State.setEvt_mem, State.setFld_mem, State.setFld_mem, State.setFld_mem]

/-- What an operation leaves of the lines that a test picks, and of memory (R417, R419). -/
theorem State.maintLines_shows (s : State) (op m : Nat) (p : CLine → Bool) (t : State) (all : List CLine) (ht : t = s.maintLines op m p)
    (hall : all = (s.ms.lines ++ s.ms.victims ++ s.ms.stalled).filter (fun c => c.motif == m && p c && c.dirty))
    (hp : ∀ (c : CLine) (y b : Bool), p { c with poison := b, dirty := y } = p c) :
    (op = 1 → ∀ c ∈ t.ms.lines ++ t.ms.victims ++ t.ms.stalled, c.motif = m → p c = true → c.dirty = false) ∧
    (op ≠ 1 → ∀ c ∈ t.ms.lines ++ t.ms.victims ++ t.ms.stalled, ¬ (c.motif = m ∧ p c = true)) ∧
    (op = 2 → t.mem = s.mem) ∧ (∀ y, (∀ c ∈ all, c.holds y = false) → Sparse.get memDefault t.mem y = Sparse.get memDefault s.mem y) ∧
    (op ≠ 2 → ∀ c ∈ all, ∀ y, c.holds y = true → (∀ e ∈ all, e.holds y = true → e.data = c.data) → Sparse.get memDefault t.mem y = Sparse.get 0 c.data (y % 128)) := by
  have hmem : t.mem = if op = 2 then s.mem else all.foldl putLine s.mem := by
    rw [ht, hall]
    exact State.mem_maintLines s op m p (fun c b => hp c c.dirty b)
  have hlines : t.ms.lines ++ t.ms.victims ++ t.ms.stalled = maintained op m p (s.maintFlushed op m p).allLines := by
    rw [ht]
    exact State.allLines_maintLines ..
  rw [hlines]
  refine ⟨fun h1 c hc hm hpc => ?_, fun h1 c hc => maintained_gone h1 hc, fun h2 => by rw [hmem, if_pos h2], fun y hy => ?_, fun h2 c hc y hy hd => ?_⟩
  · subst h1
    exact maintained_clean hc hm hpc
  · rw [hmem]
    split
    · rfl
    · exact get_putLines_out _ _ _ hy
  · rw [hmem, if_neg h2]
    exact get_putLines_in _ _ _ _ ⟨c, hc, hy⟩ hd

/-! ## Policy, enabling and draining -/

/-- A write of CCH_CTL: what is stored, a change of POLICY, then EN (R412, R420). -/
theorem State.writeCchCtl_cases (s : State) (m v : Nat) (u q : State) (hu : u = s.softWrite .CCH_CTL m 0 v)
    (hq : q = if u.fld F.CCH_CTL_POLICY m = s.fld F.CCH_CTL_POLICY m then u else u.policyChanged m) :
    (s.flag F.CCH_ST_DRAIN m = true → s.writeCchCtl m v = (q.setFld F.CCH_CTL_EN 0 m).setFld F.CCH_ST_EN_PEND (b2n (q.flag F.CCH_CTL_EN m)) m) ∧
    (s.flag F.CCH_ST_DRAIN m = false → s.flag F.CCH_CTL_EN m = true → q.flag F.CCH_CTL_EN m = false → s.writeCchCtl m v = q.beginDrain m) ∧
    (s.flag F.CCH_ST_DRAIN m = false → (s.flag F.CCH_CTL_EN m = false ∨ q.flag F.CCH_CTL_EN m = true) → s.writeCchCtl m v = q) := by
  unfold State.writeCchCtl
  dsimp only
  rw [← hu, ← hq]
  refine ⟨fun hd => if_pos hd, fun hd he hn => ?_, fun hd he => ?_⟩
  · rw [if_neg (by simp [hd]), if_pos (by simp [he, hn])]
  · rw [if_neg (by simp [hd]), if_neg]
    rcases he with he | he <;> simp [he]

/-- The beginning of a drain (R420). -/
theorem State.beginDrain_shows (s : State) (m : Nat) :
    ∃ t, t = s.beginDrain m ∧ t.flag F.CCH_ST_DRAIN m = true ∧ t.ms.lines = s.ms.lines.filter (fun c => c.motif != m || c.dirty) ∧
      t.ms.victims = s.ms.victims.filter (fun c => c.motif != m || c.dirty) ∧ t.mem = s.mem := by
  have hms : (s.beginDrain m).ms = { s.ms with lines := s.ms.lines.filter (fun c => c.motif != m || c.dirty), victims := s.ms.victims.filter (fun c => c.motif != m || c.dirty) } := by
    unfold State.beginDrain State.syncCch
    dsimp only
    rw [State.setFld_ms, State.setFld_ms, State.setFld_ms, State.modMs_ms]
  refine ⟨_, rfl, ?_, by rw [hms], by rw [hms], ?_⟩
  · unfold State.beginDrain
    dsimp only
    rw [State.flag_congr (State.fld_syncCch _ _ _ (by decide)), State.flag_setFld_one _ _ _ _ (by decide)]
  · unfold State.beginDrain State.syncCch
    dsimp only
    rw [State.setFld_mem, State.setFld_mem, State.setFld_mem, State.modMs_mem]

/-- A change of POLICY (R412). -/
theorem State.policyChanged_cases (s : State) (m : Nat) :
    (s.flag F.CCH_CTL_POLICY m = true → s.policyChanged m = s.modMs (fun d => { d with lines := mapWhere (fun c => c.motif == m) (fun c => { c with age := 1 }) d.lines })) ∧
    (s.flag F.CCH_CTL_POLICY m = false → ∀ n < 16384, Sparse.get 0 (s.policyChanged m).ms.trees (treeKey m n) = 0) := by
  refine ⟨fun h => if_pos h, fun h n hn => ?_⟩
  unfold State.policyChanged
  rw [if_neg (by simp [h]), State.modMs_ms]
  refine Sparse.get_of_notMem _ (fun e he hk => ?_)
  have hne := (List.mem_filter.1 he).2
  have hm : e.1 / 16384 = m := by rw [hk]; unfold treeKey; omega
  simp [hm] at hne

/-- Two registers of the map cache's block on one motif. -/
theorem addr_ne_of_motif (m : Nat) {r q : Reg} (h : (r.spec.pkg = false ∧ q.spec.pkg = false) ∧ r.windowOfs 0 < 0x1000000 ∧ q.windowOfs 0 < 0x1000000 ∧
    r.windowOfs 0 ≠ q.windowOfs 0) : r.addr m 0 ≠ q.addr m 0 := Reg.addr_ne_of_windowOfs m m h

/-- A cache whose last dirty lines are written: no line of the motif is left, and the end of the drain shows (R420). -/
def State.drainShown (s : State) (m : Nat) : State :=
  ((s.maintLines 3 m (fun _ => true)).setFld F.CCH_ST_DRAIN 0 m).setEvt F.CCH_EVT_DRAIN_DONE m

/-- A drained cache with an enable that was held applied (R420). -/
def State.drained (s : State) (m : Nat) : State :=
  if (s.drainShown m).flag F.CCH_ST_EN_PEND m then ((s.drainShown m).setFld F.CCH_CTL_EN 1 m).setFld F.CCH_ST_EN_PEND 0 m else s.drainShown m

theorem State.endDrain_eq (s : State) (m : Nat) :
    s.endDrain m = if (s.drained m).flag F.CCH_MAINT_BUSY m then (s.drained m).startMaint m else s.drained m := rfl

/-- The end of a drain leaves CCH_MAINT and CCH_CTL as they are. -/
theorem State.flag_drainShown (s : State) (m : Nat) (g : Fld Reg) (hg : g.reg = .CCH_MAINT ∨ g.reg = .CCH_CTL) :
    (s.drainShown m).flag g m = s.flag g m := by
  have hapart : Reg.CCH_EVT.addr m 0 ≠ g.reg.addr m 0 ∧ Reg.CCH_ST.addr m 0 ≠ g.reg.addr m 0 ∧ offErrors (g.reg.addr m 0) := by
    rcases hg with hg | hg <;> rw [hg] <;> exact ⟨addr_ne_of_motif m (by decide), addr_ne_of_motif m (by decide), offErrors_of_motif m (by decide)⟩
  obtain ⟨hevt, hst, hoff⟩ := hapart
  refine State.flag_congr ?_
  unfold State.drainShown
  rw [State.fld_setEvt_reg _ _ _ _ _ _ (by exact hevt), State.fld_setFld_reg _ _ _ _ _ _ _ _ (by exact hst)]
  unfold State.fld
  rw [State.reg_maintLines _ _ _ _ hoff hst]

/-- What the end of a drain shows in CCH_ST and CCH_EVT. -/
theorem State.flags_drainShown (s : State) (m : Nat) : (s.drainShown m).flag F.CCH_ST_DRAIN m = false ∧ (s.drainShown m).flag F.CCH_EVT_DRAIN_DONE m = true ∧
    (s.drainShown m).flag F.CCH_ST_EN_PEND m = s.flag F.CCH_ST_EN_PEND m := by
  refine ⟨?_, State.flag_setEvt_same _ _ _ (by decide), State.flag_congr ?_⟩
  · unfold State.drainShown
    rw [State.flag_congr (State.fld_setEvt_reg _ _ _ _ _ _ (addr_ne_of_motif m (by decide))), State.flag_setFld_zero _ _ _ _ (by decide)]
  · unfold State.drainShown
    rw [State.fld_setEvt_reg _ _ _ _ _ _ (addr_ne_of_motif m (by decide)), State.fld_setFld_field _ _ _ _ _ _ (by decide),
      State.fld_maintLines_cchSt _ _ _ _ _ (by decide)]

/-- The end of a drain leaves no line of the motif. -/
theorem State.lines_drained (s : State) (m : Nat) : ∀ c ∈ (s.drained m).ms.lines ++ (s.drained m).ms.victims ++ (s.drained m).ms.stalled, c.motif ≠ m := by
  have hms : (s.drained m).ms = (s.maintLines 3 m (fun _ => true)).ms := by
    unfold State.drained
    split
    · rw [State.setFld_ms, State.setFld_ms, State.drainShown, State.setEvt_ms, State.setFld_ms]
    · rw [State.drainShown, State.setEvt_ms, State.setFld_ms]
  obtain ⟨-, hgone, -⟩ := State.maintLines_shows s 3 m (fun _ => true) _ _ rfl rfl (fun _ _ _ => rfl)
  intro c hc hm
  rw [hms] at hc
  exact hgone (by decide) c hc ⟨hm, rfl⟩

/-- A field of another register than CCH_CTL and CCH_ST is as the end of the drain shows it. -/
theorem State.flag_drained_reg (s : State) (m : Nat) (g : Fld Reg) (hc : Reg.CCH_CTL.addr m 0 ≠ g.reg.addr m 0) (hs : Reg.CCH_ST.addr m 0 ≠ g.reg.addr m 0) :
    (s.drained m).flag g m = (s.drainShown m).flag g m := by
  unfold State.drained
  split
  · rw [State.flag_congr (State.fld_setFld_reg _ _ _ _ _ _ _ _ (by exact hs)), State.flag_congr (State.fld_setFld_reg _ _ _ _ _ _ _ _ (by exact hc))]
  · rfl

/-- An enable that was held through a drain is applied, and is held no more (R420). -/
theorem State.flags_drained (s : State) (m : Nat) : (s.drained m).flag F.CCH_ST_DRAIN m = false ∧
    (s.drained m).flag F.CCH_CTL_EN m = (s.flag F.CCH_CTL_EN m || s.flag F.CCH_ST_EN_PEND m) ∧ (s.drained m).flag F.CCH_ST_EN_PEND m = false := by
  obtain ⟨hdrain, -, hpend⟩ := s.flags_drainShown m
  unfold State.drained
  split
  · rename_i hp
    refine ⟨?_, ?_, State.flag_setFld_zero _ _ _ _ (by decide)⟩
    · rw [State.flag_congr (State.fld_setFld_field _ _ _ _ _ _ (by decide)), State.flag_congr (State.fld_setFld_reg _ _ _ _ _ _ _ _ (addr_ne_of_motif m (by decide))), hdrain]
    · rw [State.flag_congr (State.fld_setFld_reg _ _ _ _ _ _ _ _ (addr_ne_of_motif m (by decide))), State.flag_setFld_one _ _ _ _ (by decide), ← hpend, hp,
        Bool.or_true]
  · rename_i hp
    rw [Bool.not_eq_true] at hp
    exact ⟨hdrain, by rw [s.flag_drainShown m _ (.inr rfl), ← hpend, hp, Bool.or_false], hp⟩

/-- The end of a drain (R420). -/
theorem State.endDrain_shows (s : State) (m : Nat) :
    ∃ u : State, s.endDrain m = (if s.flag F.CCH_MAINT_BUSY m then u.startMaint m else u) ∧ u.flag F.CCH_ST_DRAIN m = false ∧ u.flag F.CCH_EVT_DRAIN_DONE m = true ∧
      (∀ c ∈ u.ms.lines ++ u.ms.victims ++ u.ms.stalled, c.motif ≠ m) ∧ u.flag F.CCH_CTL_EN m = (s.flag F.CCH_CTL_EN m || s.flag F.CCH_ST_EN_PEND m) ∧
      u.flag F.CCH_ST_EN_PEND m = false := by
  have hbusy : (s.drained m).flag F.CCH_MAINT_BUSY m = s.flag F.CCH_MAINT_BUSY m := by
    rw [s.flag_drained_reg m _ (addr_ne_of_motif m (by decide)) (addr_ne_of_motif m (by decide)), s.flag_drainShown m _ (.inl rfl)]
  have hdone : (s.drained m).flag F.CCH_EVT_DRAIN_DONE m = true := by
    rw [s.flag_drained_reg m _ (addr_ne_of_motif m (by decide)) (addr_ne_of_motif m (by decide)), (s.flags_drainShown m).2.1]
  obtain ⟨hdrain, hen, hpend⟩ := s.flags_drained m
  exact ⟨s.drained m, by rw [State.endDrain_eq, hbusy], hdrain, hdone, s.lines_drained m, hen, hpend⟩

end Sys2Proof.Machine
end

section
/-! SUPPORT. Injection, errors of the SRAMs, and voted words (R12, R421 to R426). -/

namespace Sys2Proof.Machine

/-- An injection armed (R426). -/
theorem State.softWrite_eccFlipTarget (s : State) (m v : Nat) :
    (s.softWrite .ECC_FLIP_TARGET m 0 v).ms = s.ms ∧
      (s.inLockSet .ECC_FLIP_TARGET m 0 = false → (s.softWrite .ECC_FLIP_TARGET m 0 v).flag F.ECC_FLIP_TARGET_ARMED m = bit v 63 ∧
        (s.softWrite .ECC_FLIP_TARGET m 0 v).fld F.ECC_FLIP_TARGET_MEM m = bits v 47 40 ∧
        (s.softWrite .ECC_FLIP_TARGET m 0 v).fld F.ECC_FLIP_TARGET_INST m = bits v 39 32) := by
  have hb : ∀ t : State, t.heldBits .ECC_FLIP_TARGET m 0 = [] := fun _ => rfl
  refine ⟨(State.onlyRegs_softWrite s .ECC_FLIP_TARGET m 0 v rfl hb).same State.ms (fun _ _ => rfl), fun hl => ?_⟩
  have hrw : ∀ {f : FieldSpec}, f ∈ Reg.ECC_FLIP_TARGET.spec.fields → f.acc = .rw ∧ f.extra = .none →
      (s.softWrite .ECC_FLIP_TARGET m 0 v).fld ⟨.ECC_FLIP_TARGET, f.hi, f.lo⟩ m 0 = bits v f.hi f.lo := fun hf ha => State.fld_softWrite_rw s _ m 0 v rfl hb hl hf ha
  refine ⟨?_, hrw (f := ⟨47, 40, .rw, .none, .fixed, 0, .pwm⟩) (by decide) (by decide), hrw (f := ⟨39, 32, .rw, .none, .fixed, 0, .pwm⟩) (by decide) (by decide)⟩
  unfold State.flag
  rw [hrw (f := ⟨63, 63, .rw, .none, .fixed, 0, .pwm⟩) (by decide) (by decide)]
  exact bits_one_ne_zero v 63

/-- ECC_ST after an event (R425). -/
theorem State.fld_eccEvent (s : State) (m code inst kind word : Nat) (hc : code < 256) (hk : kind < 16) :
    (s.eccEvent m code inst kind word).fld F.ECC_ST_STRUCT m = code ∧ (s.eccEvent m code inst kind word).fld F.ECC_ST_KIND m = kind ∧
      (s.eccEvent m code inst kind word).flag F.ECC_ST_VALID m = true := by
  unfold State.eccEvent
  dsimp only
  refine ⟨?_, ?_, State.flag_setFld_one _ _ _ _ (by decide)⟩
  · rw [State.fld_setFld_field _ _ _ _ _ _ (by decide), State.fld_setFld_field _ _ _ _ _ _ (by decide), State.fld_setFld_field _ _ _ _ _ _ (by decide),
      State.fld_setFld_field _ _ _ _ _ _ (by decide), State.fld_setFld_same _ _ _ _ _ (by decide)]
    exact Nat.mod_eq_of_lt hc
  · rw [State.fld_setFld_field _ _ _ _ _ _ (by decide), State.fld_setFld_field _ _ _ _ _ _ (by decide), State.fld_setFld_same _ _ _ _ _ (by decide)]
    exact Nat.mod_eq_of_lt hk

/-- An event of ECC_ST leaves the registers at other addresses alone. -/
theorem State.fld_eccEvent_other (s : State) (m code inst kind word : Nat) (g : Fld Reg) (n j : Nat) (h : Reg.ECC_ST.addr m 0 ≠ g.reg.addr n j) :
    (s.eccEvent m code inst kind word).fld g n j = s.fld g n j := by
  unfold State.eccEvent
  dsimp only
  simp (disch := exact h) only [State.fld_setFld_reg]

/-- An uncorrectable error is counted and shown (R425). -/
theorem State.sramUeSeen_shows (s : State) (m code inst w : Nat) (hc : code < 256) :
    ∃ t, t = s.sramUeSeen m code inst w ∧ t.fld F.ECC_CNT_UNCORRECTABLE m = satAdd (fldMax F.ECC_CNT_UNCORRECTABLE) (s.fld F.ECC_CNT_UNCORRECTABLE m) 1 ∧
      t.fld F.ECC_ST_STRUCT m = code ∧ t.fld F.ECC_ST_KIND m = 2 ∧ t.flag F.ECC_ST_VALID m = true ∧ t.ms = s.ms ∧ t.mode = s.mode := by
  have hsame : ∀ (t : State) (g : Fld Reg), g.reg = .ECC_CNT ∨ g.reg = .ECC_ST → (t.sampleUe 2 m code inst w).fld g m = t.fld g m := fun t g hg => by
    unfold State.fld State.sampleUe
    rcases hg with hg | hg <;> rw [hg, State.reg_sample (offSampler_of_motif m (by decide))]
  obtain ⟨hst, hk, hv⟩ := State.fld_eccEvent (s.bump F.ECC_CNT_UNCORRECTABLE 1 m) m code inst 2 w hc (by decide)
  refine ⟨_, rfl, ?_, ?_, ?_, ?_, (State.onlySamples_sramUeSeen ..).same State.ms (fun _ _ _ _ => rfl) |>.trans rfl, ?_⟩
  · unfold State.sramUeSeen
    rw [hsame _ _ (.inl rfl), State.fld_eccEvent_other _ _ _ _ _ _ _ _ _ (Reg.addr_ne_of_windowOfs m m (by decide)), State.fld_bump_same _ _ _ _ _ (by decide)]
  · exact (hsame _ _ (.inr rfl)).trans hst
  · exact (hsame _ _ (.inr rfl)).trans hk
  · exact (State.flag_congr (hsame _ _ (.inr rfl))).trans hv
  · unfold State.sramUeSeen State.sampleUe State.mode State.bump
    rw [State.fld_sample _ _ _ _ _ _ (by decide) (by decide) (by decide), State.fld_eccEvent_other _ _ _ _ _ _ _ _ _ (Ne.symm (Reg.addr_ne_of_pkg _ _ (by decide) rfl)),
      State.fld_setFld_motif _ _ _ _ _ _ _ _ rfl (by decide)]

/-- A corrected error is counted (R425). -/
theorem State.sramCorrected_shows (s : State) (m code inst w : Nat) :
    ∃ t, t = s.sramCorrected m code inst w ∧ t.fld F.ECC_CNT_CORRECTED m = satAdd (fldMax F.ECC_CNT_CORRECTED) (s.fld F.ECC_CNT_CORRECTED m) 1 ∧
      t.fld F.ECC_CNT_UNCORRECTABLE m = s.fld F.ECC_CNT_UNCORRECTABLE m ∧ t.mode = s.mode ∧ t.mem = s.mem := by
  refine ⟨_, rfl, ?_, ?_, ?_, (State.onlyPoisons_sramCorrected ..).1⟩
  · unfold State.sramCorrected
    dsimp only
    rw [State.fld_eccEvent_other _ _ _ _ _ _ _ _ _ (Reg.addr_ne_of_windowOfs m m (by decide)), State.fld_bump_same _ _ _ _ _ (by decide), State.modMs_fld]
  · unfold State.sramCorrected
    dsimp only
    rw [State.fld_eccEvent_other _ _ _ _ _ _ _ _ _ (Reg.addr_ne_of_windowOfs m m (by decide)), State.fld_bump_field _ _ _ _ _ _ (by decide), State.modMs_fld]
  · unfold State.sramCorrected State.mode State.bump
    dsimp only
    rw [State.fld_eccEvent_other _ _ _ _ _ _ _ _ _ (Ne.symm (Reg.addr_ne_of_pkg _ _ (by decide) rfl)), State.fld_setFld_motif _ _ _ _ _ _ _ _ rfl (by decide),
      State.modMs_fld]

/-- What an uncorrectable error does by its structure (R421). -/
theorem State.uncorrectableEffect_cases (s : State) (m inst x : Nat) (d : Bool) :
    (∀ c ∈ [0x11, 0x40, 0x41, 0x42, 0x43], s.uncorrectableEffect m c inst x d = s.failStop 0x7203) ∧ s.uncorrectableEffect m 0x20 inst x d = s.poisonLine x ∧
      s.uncorrectableEffect m 0x12 inst x d = s.poisonCached x ∧ s.uncorrectableEffect m 0x21 inst x d = (if d then s.poisonLine x else s) ∧
      s.uncorrectableEffect m 0x22 inst x d = (if d then s.failStop 0x7203 else s) ∧ s.uncorrectableEffect m 0x30 inst x d = (s.setEvt F.RDM_EVT_CTX_LOST m).connError x 3 0x7B0A ∧
      x / 128 ∈ (s.poisonLine x).ms.poison := by
  refine ⟨fun c hc => ?_, rfl, rfl, rfl, rfl, rfl, ?_⟩
  · simp only [List.mem_cons, List.not_mem_nil, or_false] at hc
    rcases hc with rfl | rfl | rfl | rfl | rfl <;> rfl
  · unfold State.poisonLine
    split
    · rename_i h
      simpa using h
    · rw [State.modMs_ms]
      simp

/-- What the walk makes of a wrong word (R421). -/
theorem State.walkFlip_cases (s : State) (f : Flip) (x : Nat) (d : Bool) :
    (f.count = 0 → s.walkFlip f x d = s) ∧ (f.count ≠ 0 → (f.code = 0x11 ∨ f.code = 0x22) → s.walkFlip f x d = s.sramUncorrectable f.motif f.code f.inst f.word x d) ∧
      (f.code ≠ 0x11 → f.code ≠ 0x22 → (f.count = 1 → s.walkFlip f x d = s.sramCorrected f.motif f.code f.inst f.word) ∧
        (f.count = 2 → s.walkFlip f x d = s.sramUncorrectable f.motif f.code f.inst f.word x d)) := by
  unfold State.walkFlip
  refine ⟨fun h => if_pos h, fun h hc => ?_, fun h1 h2 => ⟨fun h => ?_, fun h => ?_⟩⟩
  · rw [if_neg h, if_pos hc]
  · rw [if_neg (by omega), if_neg (by omega), if_pos h]
  · rw [if_neg (by omega), if_neg (by omega), if_neg (by omega), if_pos h]

/-- A majority is missing where three copies differ, and there alone. -/
theorem tvMajority_eq_none (c : Nat × Nat × Nat) : tvMajority c = none ↔ c.1 ≠ c.2.1 ∧ c.2.1 ≠ c.2.2 ∧ c.1 ≠ c.2.2 := by
  unfold tvMajority
  split
  · simp only [reduceCtorEq, false_iff]
    tauto
  · split
    · simp only [reduceCtorEq, false_iff]
      tauto
    · simp only [true_iff]
      tauto

/-- One copy of a word whose copies agree turned: the register keeps its value, and the copy shows its wrong bits (R423). -/
theorem State.tvTurn_one (s : State) (w i c : Nat) (h : Sparse.get (0, 0, 0) s.tv (tvKey w i) = (0, 0, 0)) :
    (s.tvTurn w i (0, 0, c)).regs = s.regs ∧ Sparse.get (0, 0, 0) (s.tvTurn w i (0, 0, c)).tv (tvKey w i) = (0, 0, c &&& (tvPlace w i).2.2.2) := by
  refine ⟨State.tvTurn_regs s w i 2 c h, ?_⟩
  have hmaj : tvMajority (0, 0, c &&& (tvPlace w i).2.2.2) = some 0 := if_pos (.inl rfl)
  unfold State.tvTurn
  dsimp only
  rw [h]
  simp only [Nat.zero_and, Nat.xor_zero, Nat.zero_xor, hmaj, Option.getD_some, if_true, Sparse.get_set_same]

/-- A vote between three copies (R12, R423). -/
theorem State.tvVote_cases (s : State) (w i : Nat) (c : Nat × Nat × Nat) (hc : Sparse.get (0, 0, 0) s.tv (tvKey w i) = c) (h0 : c ≠ (0, 0, 0)) :
    (c.1 ≠ c.2.1 → c.2.1 ≠ c.2.2 → c.1 ≠ c.2.2 → s.tvVote w i = s.failStop 0x7202) ∧
    ((c.1 = c.2.1 ∨ c.2.1 = c.2.2 ∨ c.1 = c.2.2) → w < 8 → ∃ t, t = s.tvVote w i ∧ Sparse.get (0, 0, 0) t.tv (tvKey w i) = (0, 0, 0) ∧
      t.fld F.ECC_TV_REWRITES = satAdd (fldMax F.ECC_TV_REWRITES) (s.fld F.ECC_TV_REWRITES) 1 ∧ t.fld F.ECC_TV_LAST_WORD = w ∧
      ∀ q n j, q.addr n j ≠ Reg.ECC_TV.addr 0 0 → t.reg q n j = s.reg q n j) := by
  unfold State.tvVote
  dsimp only
  rw [hc, if_neg h0]
  refine ⟨fun h1 h2 h3 => if_pos ((tvMajority_eq_none c).2 ⟨h1, h2, h3⟩), fun h hw => ⟨_, rfl, ?_⟩⟩
  rw [if_neg (fun hn => by obtain ⟨h1, h2, h3⟩ := (tvMajority_eq_none c).1 hn; tauto)]
  refine ⟨?_, ?_, ?_, fun q n j hq => ?_⟩
  · rw [State.setFld_tv, State.bump_tv, Sparse.get_set_same]
  · rw [State.fld_setFld_field _ _ _ _ _ _ (by decide), State.fld_bump_same _ _ _ _ _ (by decide)]
    rfl
  · rw [State.fld_setFld_same _ _ _ _ _ (by decide)]
    exact Nat.mod_eq_of_lt (Nat.lt_trans hw (by decide))
  · unfold State.bump
    rw [State.reg_setFld_other _ _ _ _ _ _ _ _ (by exact (Ne.symm hq)), State.reg_setFld_other _ _ _ _ _ _ _ _ (by exact (Ne.symm hq))]
    rfl

/-- What the walker makes of the wrong words of a motif (R421). -/
theorem exec_sramScrubWalk_on (s : State) (m : Nat) (found : List (Flip × Nat × Bool)) (mine : List Flip) (pl : Flip → Nat × Bool)
    (hmine : mine = s.ms.flips.filter (fun f => f.motif == m))
    (hpl : ∀ f, pl f = (match found.find? (fun x => x.1 == f) with | some x => x.2 | none => (f.place, true))) (hr : s.power.running = true) :
    exec (.sramScrubWalk m found) s = .next (((s.modMs (fun d => { d with flips := d.flips.filter (fun f => f.motif != m) })).each mine
      (fun s f => s.walkFlip f (pl f).1 (pl f).2)).each (found.filter (fun x => x.1.motif == m && !mine.contains x.1)) (fun s x => s.walkFlip x.1 x.2.1 x.2.2)) := by
  obtain rfl : pl = _ := funext hpl
  rw [exec_sramScrubWalk, hmine]
  unfold execSramScrubWalk
  exact live_on _ _ hr

/-- A sweep turns what the surroundings name and votes every word that holds a wrong copy (R423). -/
theorem exec_tvSweep_on (s : State) (ups : List (Nat × Nat × Nat × Nat × Nat)) (u : State) (hu : u = s.each ups (fun s u => s.tvTurn u.1 u.2.1 u.2.2))
    (hr : s.power.running = true) : exec (.tvSweep ups) s = .next (u.each (u.tv.map (fun e => e.1)) (fun s k => s.tvVote (k / 65536) (k % 65536))) := by
  rw [exec_tvSweep, hu]
  unfold execTvSweep
  exact live_on _ _ hr

theorem exec_sramUncorrectable_on (s : State) (m code inst w x : Nat) (d : Bool) (hr : s.power.running = true) :
    exec (.sramUncorrectable m code inst w x d) s = .next (s.sramUncorrectable m code inst w x d) :=
  live_on s (fun s => s.sramUncorrectable m code inst w x d) hr

/-- Settles O50: clause by clause, what each command of cache maintenance and each error does. -/
theorem maintenanceAndErrors : Obligations.MaintenanceAndErrors := by
  unfold Obligations.MaintenanceAndErrors
  intro s m v op k code inst w x i d p f hrun _ hk
  refine ⟨fun c hc => ?_, fun h => if_pos h, fun u hb hu => ?_, fun _ hl => s.softWrite_cchMaint m v hl, fun a u hop ha hu => s.startMaint_cases m op a u hop ha hu,
    s.endMaint_shows m k hk, fun t all ht hall hp => s.maintLines_shows op m p t all ht hall hp, fun h => ?_, fun hb hd => ?_, fun c hc => ?_, s.beginDrain_shows m,
    s.policyChanged_cases m, fun h => ?_, fun h => ?_, s.endDrain_shows m, fun h => ?_, fun hm he => ?_, fun h => ?_, fun hc hm => ?_, s.sramUeSeen_shows m code inst w,
    s.uncorrectableEffect_cases m inst x d, fun found mine pl hmine hpl => exec_sramScrubWalk_on s m found mine pl hmine hpl hrun, s.walkFlip_cases f x d, s.sramCorrected_shows m code inst w, fun ups u hu => exec_tvSweep_on s ups u hu hrun,
    fun c h => s.tvTurn_one w i c h, fun h => if_pos h, fun c hc h0 => s.tvVote_cases w i c hc h0⟩
  · rw [exec_maintCommand s m v hrun c hc]
    exact ⟨fun hm => by rw [if_neg (by simp [hm])], fun hm => by rw [if_pos hm]⟩
  · unfold State.writeMaint
    dsimp only
    rw [if_neg (by simp [hb]), ← hu]
    exact ⟨fun hg => if_neg (by simp [hg]), fun hg => if_pos hg⟩
  · rw [exec_maintComplete_on s m hrun, if_neg]
    rcases h with h | h <;> simp [h]
  · rw [exec_maintComplete_on s m hrun, if_pos ⟨hb, by simp [hd]⟩]
  · rw [exec_cchCtlCommand s m v hrun c hc]
    refine ⟨fun hm => by rw [if_neg (by simp [hm])], fun hm u q hu hq => ?_⟩
    obtain ⟨h1, h2, h3⟩ := s.writeCchCtl_cases m v u q hu hq
    rw [if_pos hm]
    exact ⟨fun hd => by rw [h1 hd], fun hd he hn => by rw [h2 hd he hn], fun hd he => by rw [h3 hd he]⟩
  · rw [exec_cacheDrainComplete_on s m hrun, if_neg (by simp [h])]
  · rw [exec_cacheDrainComplete_on s m hrun, if_pos h]
  · rw [exec_eccInjectArm_on s m v hrun]
    unfold State.writeFlipTarget
    rcases h with h | h <;> simp [h]
  · obtain ⟨hms, hfields⟩ := s.softWrite_eccFlipTarget m v
    refine ⟨_, ?_, rfl, hms, hfields⟩
    rw [exec_eccInjectArm_on s m v hrun, if_pos hm]
    unfold State.writeFlipTarget
    rw [if_pos he]
  · rw [exec_sramUncorrectable_on s _ _ _ _ _ _ hrun]
    unfold State.sramUncorrectable
    rw [if_neg]
    rcases h with h | h <;> simp [h]
  · rw [exec_sramUncorrectable_on s _ _ _ _ _ _ hrun]
    unfold State.sramUncorrectable
    rw [if_pos ⟨hc, hm⟩]

end Sys2Proof.Machine
end

section
/-! SUPPORT. The contexts of the engines and the entries of a job ring (R186, R187, R192). -/

namespace Sys2Proof.Machine

theorem State.fired_eng (s : State) (m : Nat) : (s.fired m).eng = s.eng := by
  unfold State.fired
  rw [State.setFld_eng, State.setFld_eng]

theorem State.sramWroteAt_eng (s : State) (m code inst : Nat) (a : Option Nat) (p : Nat) : (s.sramWroteAt m code inst a p).eng = s.eng := by
  unfold State.sramWroteAt
  split
  · rw [State.fired_eng, State.modMs_eng]
  · rfl

/-- The jobs after a job is bound to a context: its own has the unit. -/
theorem State.bindJob_jobs (s : State) (j : EngJob) (u : Nat) :
    ∃ c b, (s.bindJob j u).eng.jobs = mapWhere (fun x => x.seq == j.seq) (fun x => { x with unit := some u, ctl := c, busy := b }) s.eng.jobs := by
  unfold State.bindJob State.modJob
  dsimp only
  generalize hb : (decide (j.kind = .dig) && measures j.motif j.desc && s.flag F.MSR_ST_BUSY) = b
  generalize ht : s.sramWroteAt j.motif 0x31 j.kind.instOf none j.idx = t
  have he : t.eng = s.eng := ht ▸ State.sramWroteAt_eng ..
  refine ⟨t.reg .CMP_CTL j.motif 0, b, ?_⟩
  split
  · rw [State.setFld_eng, State.setFld_eng, State.setFld_eng, State.modEng_eng, he]
  · rw [State.modEng_eng, he]

/-- A job that no context holds yet is among the jobs once it has been tried, and has a unit exactly where one was free (R33, R187). -/
theorem State.tryBind_shows (s : State) (j : EngJob) (hj : j ∈ s.eng.jobs) (hu : j.unit = none) :
    ∃ x ∈ (s.tryBind j).1.eng.jobs, ∃ v c b, x = { j with unit := v, ctl := c, busy := b } ∧ (v.isSome = true ↔ s.freeUnits j.kind j.motif j.stages ≠ []) := by
  generalize hus : s.freeUnits j.kind j.motif j.stages = us
  unfold State.tryBind
  simp only [hus]
  cases hget : us[s.freeVal % us.length]? with
  | none =>
    have hnil : us = [] := by
      by_contra hne
      exact absurd (Nat.mod_lt s.freeVal (List.length_pos_iff.2 hne)) (Nat.not_lt.2 (List.getElem?_eq_none_iff.1 hget))
    exact ⟨j, hj, none, j.ctl, j.busy, by rw [← hu], by simp [hnil]⟩
  | some v =>
    have hne : us ≠ [] := by rintro rfl; simp at hget
    have heng : (if us.length = 2 then s.tookFree else s).eng = s.eng := by split <;> rfl
    obtain ⟨c, b, hjobs⟩ := (if us.length = 2 then s.tookFree else s).bindJob_jobs j v
    refine ⟨{ j with unit := some v, ctl := c, busy := b }, ?_, some v, c, b, rfl, by simp [hne]⟩
    dsimp only
    rw [hjobs, heng]
    exact List.mem_map.2 ⟨j, hj, by rw [if_pos (by simp)]⟩

/-- The state with a job more. -/
def State.addJob (s : State) (j : EngJob) : State := s.modEng (fun e => { e with jobs := e.jobs ++ [j], seq := e.seq + 1 })

/-- A job that no context holds takes none from another. -/
theorem State.freeUnits_addJob (s : State) (j : EngJob) (hu : j.unit = none) (k : EngKind) (m : Nat) (p : Route → Bool) :
    (s.addJob j).freeUnits k m p = s.freeUnits k m p := by
  have hb : ∀ v, (s.addJob j).boundOn k m v = s.boundOn k m v := fun v => by
    have hj : ([j].filter (fun j => j.kind == k && j.motif == m)).filter (fun j => j.unit == some v) = [] := by
      rw [List.filter_filter]
      simp [hu]
    unfold State.boundOn State.jobsOf State.addJob
    rw [State.modEng_eng]
    dsimp only
    rw [List.filter_append, List.filter_append, hj, List.append_nil]
  unfold State.freeUnits
  simp only [hb]
  rfl

/-- The job of a ring entry that has just been fetched: no context holds it (R192, R202). -/
def State.fetchedJob (s : State) (dig : Bool) (m i : Nat) (d : Bytes) : EngJob :=
  { kind := descKind dig d, motif := m, idx := i, addr := s.descAddr dig m i, desc := d, cls := descClass dig d, seq := s.eng.seq, unit := none, ctl := 0,
    done := false, busy := false }

/-- A ring entry that has been fetched is taken: its job is tried, and counted where it has to wait (R187). -/
def State.takeFetched (s : State) (dig : Bool) (m i : Nat) (d : Bytes) : State :=
  let j := s.fetchedJob dig m i d
  let r := (s.addJob j).tryBind j
  if r.2 then r.1 else if s.fuses.caps.optC ∧ j.kind = .cmp then r.1.bump F.CMP_CNT_STORED_CTX_WAIT 1 m else r.1

/-- The job of an entry taken is held with its descriptor, and has a unit exactly where one is free for it (R33, R187). -/
theorem State.takeFetched_shows (s : State) (dig : Bool) (m i : Nat) (d : Bytes) :
    ∃ x ∈ (s.takeFetched dig m i d).eng.jobs, x.motif = m ∧ x.idx = i ∧ x.desc = d ∧ x.kind = descKind dig d ∧ x.cls = descClass dig d ∧ x.done = false ∧
      (x.unit.isSome = true ↔ s.freeUnits x.kind m x.stages ≠ []) := by
  obtain ⟨x, hx, v, c, b, rfl, hv⟩ := State.tryBind_shows (s.addJob (s.fetchedJob dig m i d)) (s.fetchedJob dig m i d) (by unfold State.addJob; simp) rfl
  rw [State.freeUnits_addJob _ _ rfl] at hv
  refine ⟨{ s.fetchedJob dig m i d with unit := v, ctl := c, busy := b }, ?_, rfl, rfl, rfl, rfl, rfl, rfl, hv⟩
  unfold State.takeFetched
  dsimp only
  split
  · exact hx
  · split
    · unfold State.bump
      rw [State.setFld_eng]
      exact hx
    · exact hx

/-- What the service of a ring does at an entry: it ends at TAIL, passes over an entry that is taken already, takes one that is fetched, and ends one that cannot be
fetched (R27, R192, R202). -/
theorem State.takeEntries_cases (s : State) (dig : Bool) (m i f : Nat) :
    s.takeEntries dig m (s.ringTail dig m) (f + 1) = s ∧
    (i ≠ s.ringTail dig m → s.ringKnown dig m i = true → s.takeEntries dig m i (f + 1) = s.takeEntries dig m ((i + 1) % s.ringSize dig m) f) ∧
    (i ≠ s.ringTail dig m → s.ringKnown dig m i = false →
      (∀ u d, s.engineRead 0 (s.descAddr dig m i) (if dig then 64 else 32) = (u, .ok d) →
        s.takeEntries dig m i (f + 1) = (u.takeFetched dig m i d).takeEntries dig m ((i + 1) % s.ringSize dig m) f) ∧
      (∀ u e, s.engineRead 0 (s.descAddr dig m i) (if dig then 64 else 32) = (u, .error e) →
        s.takeEntries dig m i (f + 1) = (u.badEntry dig m i e).takeEntries dig m ((i + 1) % s.ringSize dig m) f)) := by
  simp only [State.takeEntries, if_true, true_and]
  refine ⟨fun ht hk => ?_, fun ht hk => ⟨fun u d hr => ?_, fun u e hr => ?_⟩⟩
  · rw [if_neg ht, if_pos hk]
  · rw [if_neg ht, if_neg (by simp [hk]), hr]
    rfl
  · rw [if_neg ht, if_neg (by simp [hk]), hr]

end Sys2Proof.Machine
end

section
/-! SUPPORT. How a compression job runs and ends (R192, R193). -/

namespace Sys2Proof.Machine

/-- HEAD advanced over completed entries touches its register and the list of those entries alone. -/
def State.onlyHead (s t : State) (dig : Bool) (m : Nat) : Prop :=
  t.eng.jobs = s.eng.jobs ∧ t.fuses = s.fuses ∧ t.eip = s.eip ∧
    ∀ (q : Reg) n j, (if dig then Reg.DIG_JQ_HEAD else .MTF_CJQ_HEAD).addr m 0 ≠ q.addr n j → t.reg q n j = s.reg q n j

/-- HEAD passes the entry it is at where that one has completed. -/
theorem State.advanceHead_succ (s : State) (dig : Bool) (m f : Nat) :
    s.advanceHead dig m (f + 1) = if s.eng.ended.any (fun e => isDigRing e.1 == dig && e.2.1 == m && e.2.2 == s.ringHead dig m) then
      (if dig then (s.modEng (fun e => { e with ended := e.ended.filter (fun x => !(isDigRing x.1 == dig && x.2.1 == m && x.2.2 == s.ringHead dig m)) })).setFld F.DIG_JQ_HEAD_HEAD
          ((s.ringHead dig m + 1) % s.ringSize dig m) m
        else (s.modEng (fun e => { e with ended := e.ended.filter (fun x => !(isDigRing x.1 == dig && x.2.1 == m && x.2.2 == s.ringHead dig m)) })).setFld F.MTF_CJQ_HEAD_HEAD
          ((s.ringHead dig m + 1) % s.ringSize dig m) m).advanceHead dig m f
      else s := rfl

theorem State.onlyHead_advanceHead (s : State) (dig : Bool) (m f : Nat) : s.onlyHead (s.advanceHead dig m f) dig m := by
  induction f generalizing s with
  | zero => exact ⟨rfl, rfl, rfl, fun _ _ _ _ => rfl⟩
  | succ f ih =>
    rw [State.advanceHead_succ]
    split
    · cases dig with
      | true =>
        obtain ⟨hj, hf, he, hr⟩ := ih ((s.modEng _).setFld F.DIG_JQ_HEAD_HEAD _ m)
        exact ⟨hj, hf, he, fun q n j h => (hr q n j h).trans (State.reg_setFld_other _ _ _ _ _ _ _ _ h)⟩
      | false =>
        obtain ⟨hj, hf, he, hr⟩ := ih ((s.modEng _).setFld F.MTF_CJQ_HEAD_HEAD _ m)
        exact ⟨hj, hf, he, fun q n j h => (hr q n j h).trans (State.reg_setFld_other _ _ _ _ _ _ _ _ h)⟩
    · exact ⟨rfl, rfl, rfl, fun _ _ _ _ => rfl⟩

/-- An interrupt asked for on a hart of a motif that the package has is pending (R471). -/
theorem State.mem_eip_raiseIrq (s : State) (m h level id : Nat) (hid : 1 ≤ id ∧ id ≤ 511) (hh : h ≤ 8) (hm : s.hasMotif m = true) :
    (m, h, level, id) ∈ (s.raiseIrq m h level id).eip := by
  unfold State.raiseIrq
  split
  · simp
  · rename_i hn
    by_contra hc
    exact hn ⟨hid.1, hid.2, hh, hm, by simpa using hc⟩

/-- A job that has completed, its interrupt apart: HEAD advances over completed entries. -/
def State.endedJob (s : State) (j : EngJob) : State :=
  let t := (s.modJob j.seq (fun x => { x with done := true })).modEng (fun e => { e with ended := e.ended ++ [(j.kind, j.motif, j.idx)] })
  t.advanceHead (isDigRing j.kind) j.motif t.eng.ended.length

/-- The end of a job touches the list of jobs, and HEAD and the completed entries of its ring (R192). -/
theorem State.endedJob_shows (s : State) (j : EngJob) :
    (s.endedJob j).eng.jobs = mapWhere (fun x => x.seq == j.seq) (fun x => { x with done := true }) s.eng.jobs ∧ (s.endedJob j).fuses = s.fuses ∧
      ∀ (q : Reg) n i, (if isDigRing j.kind then Reg.DIG_JQ_HEAD else .MTF_CJQ_HEAD).addr j.motif 0 ≠ q.addr n i → (s.endedJob j).reg q n i = s.reg q n i := by
  obtain ⟨hj, hf, -, hr⟩ := State.onlyHead_advanceHead
    ((s.modJob j.seq (fun x => { x with done := true })).modEng (fun e => { e with ended := e.ended ++ [(j.kind, j.motif, j.idx)] })) (isDigRing j.kind) j.motif
    ((s.modJob j.seq (fun x => { x with done := true })).modEng (fun e => { e with ended := e.ended ++ [(j.kind, j.motif, j.idx)] })).eng.ended.length
  exact ⟨hj, hf, hr⟩

/-- The interrupt of a job that ends touches the engines no more. -/
theorem State.endJob_eng (s : State) (j : EngJob) : (s.endJob j).eng = (s.endedJob j).eng := by
  unfold State.endJob State.endedJob
  dsimp only
  split <;> split <;> simp only [State.raiseIrq_eng]

/-- The end of a job of the compression ring (R192). -/
theorem State.endJob_cmp (s : State) (j : EngJob) (hk : j.kind ≠ .dig) :
    s.endJob j = if (s.endedJob j).flag F.MTF_CJQ_CTL_IRQ_EN j.motif then (s.endedJob j).raiseIrq j.motif ((s.endedJob j).fld F.MTF_CJQ_CTL_HART j.motif) 0 0x0C0
      else s.endedJob j := by
  have hd : isDigRing j.kind = false := decide_eq_false hk
  unfold State.endJob State.endedJob
  simp only [hd, Bool.false_eq_true, if_false]

/-- HEAD passes a job of the compression ring that is the oldest, where none behind it has completed. -/
theorem State.endedJob_oldest (s : State) (j : EngJob) (hk : j.kind ≠ .dig) (he : s.eng.ended = []) (hi : j.idx = s.ringHead false j.motif) :
    (s.endedJob j).ringHead false j.motif = (s.ringHead false j.motif + 1) % s.ringSize false j.motif % 4096 ∧ (s.endedJob j).eng.ended = [] := by
  have hd : isDigRing j.kind = false := decide_eq_false hk
  have hone : ∀ t : State, t.eng.ended = [(j.kind, j.motif, j.idx)] → t.ringHead false j.motif = j.idx → t.advanceHead false j.motif 1 =
      (t.modEng (fun e => { e with ended := [] })).setFld F.MTF_CJQ_HEAD_HEAD ((j.idx + 1) % t.ringSize false j.motif) j.motif := fun t ht hh => by
    rw [State.advanceHead_succ]
    simp only [hh, ht, hd, List.any_cons, List.any_nil, beq_self_eq_true, Bool.and_self, Bool.or_false, if_true, Bool.false_eq_true, if_false, State.modEng,
      List.filter_cons, List.filter_nil, Bool.not_true]
    rfl
  have hend : s.endedJob j = ((s.modJob j.seq (fun x => { x with done := true })).modEng (fun e => { e with ended := [] })).setFld F.MTF_CJQ_HEAD_HEAD
      ((j.idx + 1) % s.ringSize false j.motif) j.motif := by
    unfold State.endedJob
    dsimp only
    have ht : ((s.modJob j.seq (fun x => { x with done := true })).modEng (fun e => { e with ended := e.ended ++ [(j.kind, j.motif, j.idx)] })).eng.ended =
        [(j.kind, j.motif, j.idx)] := by
      show s.eng.ended ++ _ = _
      rw [he, List.nil_append]
    rw [ht, hd, List.length_singleton, hone _ ht hi.symm]
    rfl
  rw [hend, ← hi]
  refine ⟨State.fld_setFld_same _ F.MTF_CJQ_HEAD_HEAD _ _ _ (by decide), ?_⟩
  rw [State.setFld_eng, State.modEng_eng]

/-- What the end of a job leaves: its context waits to be freed, HEAD passes it where it is the oldest and none waits behind it, and the ring's interrupt is raised where
that is on (R192). -/
theorem State.endJob_shows (s : State) (j : EngJob) :
    (∀ x ∈ (s.endJob j).eng.jobs, x.seq = j.seq → x.done = true) ∧ (s.endJob j).eng.jobs.length = s.eng.jobs.length ∧
      (j.kind ≠ .dig → s.eng.ended = [] → j.idx = s.ringHead false j.motif →
        (s.endJob j).ringHead false j.motif = (s.ringHead false j.motif + 1) % s.ringSize false j.motif % 4096 ∧ (s.endJob j).eng.ended = []) ∧
      (j.kind ≠ .dig → s.flag F.MTF_CJQ_CTL_IRQ_EN j.motif = true → s.hasMotif j.motif = true → s.fld F.MTF_CJQ_CTL_HART j.motif ≤ 8 →
        (j.motif, s.fld F.MTF_CJQ_CTL_HART j.motif, 0, 0x0C0) ∈ (s.endJob j).eip) := by
  obtain ⟨hjobs, hfuses, hreg⟩ := s.endedJob_shows j
  rw [s.endJob_eng j, hjobs]
  refine ⟨fun x hx hs => ?_, List.length_map .., fun hk he hi => ?_, fun hk hirq hm hh => ?_⟩
  · obtain ⟨y, -, hy⟩ := List.mem_map.1 hx
    split at hy
    · rw [← hy]
    · rename_i hn
      rw [hy] at hn
      simp [hs] at hn
  · obtain ⟨hhead, hended⟩ := s.endedJob_oldest j hk he hi
    refine ⟨?_, hended⟩
    rw [← hhead, s.endJob_cmp j hk]
    split
    · exact State.raiseIrq_fld ..
    · rfl
  · have hne : Reg.MTF_CJQ_HEAD.addr j.motif 0 ≠ Reg.MTF_CJQ_CTL.addr j.motif 0 := addr_ne_of_motif _ (by decide)
    have hd : isDigRing j.kind = false := decide_eq_false hk
    have hctl : (s.endedJob j).reg .MTF_CJQ_CTL j.motif 0 = s.reg .MTF_CJQ_CTL j.motif 0 := hreg _ _ _ (by rw [hd]; exact hne)
    have hen : (s.endedJob j).flag F.MTF_CJQ_CTL_IRQ_EN j.motif = true := by rw [← hirq]; unfold State.flag State.fld; rw [hctl]
    have hhart : (s.endedJob j).fld F.MTF_CJQ_CTL_HART j.motif = s.fld F.MTF_CJQ_CTL_HART j.motif := by unfold State.fld; rw [hctl]
    have hmot : (s.endedJob j).hasMotif j.motif = true := by rw [← hm]; unfold State.hasMotif; rw [hfuses]
    rw [s.endJob_cmp j hk, if_pos hen, hhart]
    exact State.mem_eip_raiseIrq _ _ _ _ _ (by decide) hh hmot

end Sys2Proof.Machine
end

section
/-! SUPPORT. Compression jobs (R186, R187, R192, R193). -/

namespace Sys2Proof.Machine

/-- A write of a job ring's TAIL serves the ring (R192). -/
theorem exec_cmpJobPost_on (s : State) (m v : Nat) (hr : s.power.running = true) :
    exec (.cmpJobPost m v) s = .next (if s.hasMotif m then (s.softWrite .MTF_CJQ_TAIL m 0 v).serveRing false m else s) :=
  live_on s (fun s => if s.hasMotif m then s.postCmp m v else s) hr

/-- The job that runs for an entry is compressed where it is the compressors'. -/
theorem exec_cmpJobCompress_on (s : State) (m idx : Nat) (hr : s.power.running = true) :
    exec (.cmpJobCompress m idx) s = .next ((s.runningJob false m idx).elim s (fun j => if j.kind = .cmp then s.runCompress j else s)) := by
  rw [exec_cmpJobCompress]
  refine (live_on s _ hr).trans (congrArg _ ?_)
  cases s.runningJob false m idx <;> rfl

/-- The job that runs for an entry is decompressed where it is the decompressors'. -/
theorem exec_cmpJobDecompress_on (s : State) (m idx : Nat) (hr : s.power.running = true) :
    exec (.cmpJobDecompress m idx) s = .next ((s.runningJob false m idx).elim s (fun j => if j.kind = .dcmp then s.runDecompress j else s)) := by
  rw [exec_cmpJobDecompress]
  refine (live_on s _ hr).trans (congrArg _ ?_)
  cases s.runningJob false m idx <;> rfl

/-- A context freed leaves the jobs, and what waits takes it (R187); without one nothing happens. -/
theorem exec_engineContextFreed_cases (s : State) (k : EngKind) (m : Nat) (hr : s.power.running = true) :
    (∀ j, (s.jobsOf k m).find? (fun j => j.done && j.unit.isSome) = some j → ∀ u, u = s.modEng (fun e => { e with jobs := e.jobs.filter (fun x => x.seq != j.seq) }) →
      exec (.engineContextFreed k m) s = .next ((u.serveContexts k m (u.waitCount k m)).syncEng m).settleBands.settleWrites.shipAll) ∧
    ((s.jobsOf k m).find? (fun j => j.done && j.unit.isSome) = none → exec (.engineContextFreed k m) s = .next s) := by
  rw [exec_engineContextFreed]
  unfold execEngineContextFreed
  rw [live_on _ _ hr]
  refine ⟨fun j hj u hu => ?_, fun hj => ?_⟩
  · simp only [State.freeContext, hj, Option.map_some, hu]
  · simp only [State.freeContext, hj, Option.map_none]

/-- The outcomes of a COMPRESS job, in the order in which they are judged (R193; log 32). -/
theorem State.runCompress_cases (s : State) (j : EngJob) :
    (cmpDescOk j.desc = false → s.runCompress j = s.endCmp j 0x2506 0) ∧
    (cmpDescOk j.desc = true → s.fuses.caps.optC = false → s.runCompress j = s.endCmp j 0x2F00 0) ∧
    (cmpDescOk j.desc = true → s.fuses.caps.optC = true → s.reachesAll (.engine j.cls) true (leAt j.desc 0x10 8) (leAt j.desc 4 2 + 16) = false →
      s.runCompress j = s.endCmp j 0x2F01 0) ∧
    (∀ u x c, cmpDescOk j.desc = true → s.fuses.caps.optC = true → s.reachesAll (.engine j.cls) true (leAt j.desc 0x10 8) (leAt j.desc 4 2 + 16) = true →
      s.engineRead j.cls (leAt j.desc 8 8) (leAt j.desc 4 2) = (u, .ok x) →
      c = (if bit (byteAt j.desc 1) 2 then { cmpSettings j.ctl with fixStride := some (leAt j.desc 2 2), fixPred := bits (byteAt j.desc 1) 5 3 } else cmpSettings j.ctl) →
      s.runCompress j = ((u.countChunk j.motif (leAt j.desc 4 2) (compressChunk c x).1.length (compressChunk c x).2).store (leAt j.desc 0x10 8) (compressChunk c x).1).endCmp j 0
        (compressChunk c x).1.length) := by
  unfold State.runCompress
  dsimp only
  refine ⟨fun hd => ?_, fun hd hc => ?_, fun hd hc hr => ?_, fun u x c hd hc hr he hs => ?_⟩
  · rw [if_pos (by simp [hd])]
  · rw [if_neg (by simp [hd]), if_pos (by simp [hc])]
  · rw [if_neg (by simp [hd]), if_neg (by simp [hc]), if_pos (by simp [hr])]
  · rw [hs, if_neg (by simp [hd]), if_neg (by simp [hc]), if_neg (by simp [hr]), he]

/-- The outcomes of a DECOMPRESS job, in the order in which they are judged (R193; log 32). -/
theorem State.runDecompress_cases (s : State) (j : EngJob) :
    (cmpDescOk j.desc = false → s.runDecompress j = s.endCmp j 0x2506 0) ∧
    (cmpDescOk j.desc = true → s.reachesAll (.engine j.cls) true (leAt j.desc 0x10 8) (leAt j.desc 4 2 + 16) = false → s.runDecompress j = s.endCmp j 0x2F01 0) ∧
    (∀ u b, cmpDescOk j.desc = true → s.reachesAll (.engine j.cls) true (leAt j.desc 0x10 8) (leAt j.desc 4 2 + 16) = true →
      s.engineRead j.cls (leAt j.desc 8 8) (leAt j.desc 6 2) = (u, .ok b) →
      (∀ x, decompressBody b (leAt j.desc 4 2) = .ok x → s.runDecompress j = ((u.bump F.MTF_DCMP_CNT_CHUNKS 1 j.motif).store (leAt j.desc 0x10 8) x).endCmp j 0 x.length) ∧
      (∀ w, decompressBody b (leAt j.desc 4 2) = .error w → s.runDecompress j = (u.dcmpFail j.motif w).endCmp j w 0)) := by
  unfold State.runDecompress
  dsimp only
  refine ⟨fun hd => ?_, fun hd hr => ?_, fun u b hd hr he => ⟨fun x hb => ?_, fun w hb => ?_⟩⟩
  · rw [if_pos (by simp [hd])]
  · rw [if_neg (by simp [hd]), if_pos (by simp [hr])]
  · rw [if_neg (by simp [hd]), if_neg (by simp [hr]), he]
    simp only [hb]
  · rw [if_neg (by simp [hd]), if_neg (by simp [hr]), he]
    simp only [hb]

/-- Settles O41: clause by clause, from how a ring is served to how a job runs and ends and its context is freed. -/
theorem compressionJobs : Obligations.CompressionJobs := by
  unfold Obligations.CompressionJobs
  intro s m idx v f e out dig k j hrun
  obtain ⟨hcDesc, hcOpt, hcDst, hcRun⟩ := s.runCompress_cases j
  obtain ⟨hdDesc, hdDst, hdRun⟩ := s.runDecompress_cases j
  obtain ⟨htail, hknown, htaken⟩ := s.takeEntries_cases dig m idx f
  obtain ⟨hfreed, hnone⟩ := exec_engineContextFreed_cases s k m hrun
  refine ⟨fun hm => ?_, fun hm => ?_, fun he => ?_, htail, hknown, fun u d ht hk hr => ?_,
    fun u ht hk hr => (htaken ht hk).2 u _ hr, fun hj => ?_, fun hj => ⟨fun hk => ?_, fun hk => ?_⟩, fun hd => ⟨hcDesc hd, hdDesc hd⟩,
    fun hd => ⟨hcOpt hd, hcDst hd, fun u x c => hcRun u x c hd, hdDst hd, fun u b => hdRun u b hd⟩, rfl, s.endJob_shows j, hfreed j, hnone⟩
  · rw [exec_cmpJobPost_on s m v hrun, if_pos hm]
  · rw [exec_cmpJobPost_on s m v hrun, if_neg (by simp [hm])]
  · unfold State.serveRing
    rw [he]
    rfl
  · obtain ⟨x, hx, hmot, hidx, hdesc, hkind, hcls, hdone, hunit⟩ := u.takeFetched_shows dig m idx d
    exact ⟨_, x, (htaken ht hk).1 u d hr, hx, hmot, hidx, hdesc, hkind, hcls, hdone, hunit⟩
  · rw [exec_cmpJobCompress_on s m idx hrun, exec_cmpJobDecompress_on s m idx hrun, hj]
    exact ⟨rfl, rfl⟩
  · rw [exec_cmpJobCompress_on s m idx hrun, exec_cmpJobDecompress_on s m idx hrun, hj]
    simp [hk]
  · rw [exec_cmpJobCompress_on s m idx hrun, exec_cmpJobDecompress_on s m idx hrun, hj]
    simp [hk]

end Sys2Proof.Machine
end

section
/-! SUPPORT. The bytes of memory as the package sees them (R28): what a store makes of them, whether they lie in a cached line or in memory itself. -/

namespace Sys2Proof.Machine

/-- The byte at an address in the line of a list that holds it. -/
def byteIn (l : List CLine) (y : Nat) : Option Byte := (l.find? (fun c => c.holds y)).map (fun c => Sparse.get 0 c.data (y % 128))

theorem byteIn_cons (c : CLine) (l : List CLine) (y : Nat) :
    byteIn (c :: l) y = if c.holds y then some (Sparse.get 0 c.data (y % 128)) else byteIn l y := by
  unfold byteIn
  cases h : c.holds y with
  | true => rw [List.find?_cons_of_pos (p := fun x : CLine => x.holds y) h]; rfl
  | false => rw [List.find?_cons_of_neg (p := fun x : CLine => x.holds y) (by rw [h]; exact Bool.false_ne_true)]; rfl

theorem byteIn_append (l k : List CLine) (y : Nat) : byteIn (l ++ k) y = (byteIn l y).or (byteIn k y) := by
  unfold byteIn
  rw [List.find?_append]
  cases l.find? (fun c => c.holds y) <;> rfl

/-- A byte lies in a list of lines exactly where one of them holds its address. -/
theorem isSome_byteIn (l : List CLine) (y : Nat) : (byteIn l y).isSome = l.any (fun c => c.holds y) := by
  unfold byteIn
  rw [Option.isSome_map, List.isSome_find?]

/-- Poison has no part in the bytes of a line. -/
theorem byteIn_unpoisoned (l : List CLine) (y : Nat) : byteIn (l.map CLine.unpoisoned) y = byteIn l y := by
  unfold byteIn
  rw [List.find?_map, Option.map_map]
  rfl

theorem CLine.addr_mod (c : CLine) : c.addr % 128 = 0 := by unfold CLine.addr dramBase; omega

/-- Two addresses of one line differ in their place in it. -/
theorem CLine.holds_mod {c : CLine} {a y : Nat} (ha : c.holds a = true) (hy : c.holds y = true) (h : a ≠ y) : a % 128 ≠ y % 128 := by
  have hbase := c.addr_mod
  obtain ⟨ha1, ha2⟩ := (c.holds_iff a).1 ha
  obtain ⟨hy1, hy2⟩ := (c.holds_iff y).1 hy
  omega

theorem CLine.holds_setByte (c : CLine) (o y : Nat) (b : Byte) : (c.setByte o b).holds y = c.holds y := rfl

/-- The byte at an address of a line into which a byte has been put. -/
theorem CLine.get_setByte {c : CLine} {a y : Nat} (ha : c.holds a = true) (hy : c.holds y = true) (b : Byte) :
    Sparse.get 0 (c.setByte (a % 128) b).data (y % 128) = if y = a then b else Sparse.get 0 c.data (y % 128) := by
  unfold CLine.setByte
  split
  · rename_i h
    rw [h, Sparse.get_set_same]
  · rename_i h
    rw [Sparse.get_set_other _ _ _ _ _ _ (CLine.holds_mod ha hy (Ne.symm h))]

/-- A byte put into the lines that hold its address is the byte there, and no other one changes. -/
theorem byteIn_setByte (l : List CLine) (a y : Nat) (b : Byte) :
    byteIn (mapWhere (fun c => c.holds a) (fun c => c.setByte (a % 128) b) l) y = if y = a then (byteIn l y).map (fun _ => b) else byteIn l y := by
  induction l with
  | nil => exact (ite_self _).symm
  | cons c l ih =>
    unfold mapWhere at ih ⊢
    rw [List.map_cons, byteIn_cons, byteIn_cons]
    by_cases ha : c.holds a = true
    · rw [if_pos ha, CLine.holds_setByte]
      by_cases hy : c.holds y = true
      · rw [if_pos hy, if_pos hy, CLine.get_setByte ha hy]
        split <;> rfl
      · rw [if_neg hy, if_neg hy, ih]
    · rw [if_neg ha]
      by_cases hy : c.holds y = true
      · have hne : y ≠ a := fun h => ha (h ▸ hy)
        rw [if_pos hy, if_neg hne, if_pos hy]
      · rw [if_neg hy, if_neg hy, ih]

/-- A byte of memory is that of the cached line that holds it, else that of memory itself (R28). -/
theorem State.memByte_eq (s : State) (y : Nat) : s.memByte y = (byteIn s.allLines y).getD (Sparse.get memDefault s.mem y) := by
  unfold State.memByte State.cached State.allLines
  rw [byteIn_append, byteIn_append]
  unfold byteIn
  cases s.ms.lines.find? (fun c => c.holds y) with
  | some c => rfl
  | none =>
    cases s.ms.victims.find? (fun c => c.holds y) with
    | some c => rfl
    | none => cases s.ms.stalled.find? (fun c => c.holds y) <;> rfl

/-- Where only poison differs the bytes are the same. -/
theorem State.onlyPoisons.memByte {s t : State} (h : s.onlyPoisons t) (y : Nat) : t.memByte y = s.memByte y := by
  rw [State.memByte_eq, State.memByte_eq, h.1, ← byteIn_unpoisoned t.allLines, h.2, byteIn_unpoisoned]

theorem State.noLines_iff (s : State) : s.noLines = true ↔ s.allLines = [] := by
  unfold State.noLines State.allLines
  simp [and_assoc]

/-- The bytes of a range are those of its addresses. -/
theorem State.load_eq (s : State) (a n : Nat) : s.load a n = (List.range n).map (fun i => s.memByte (a + i)) := by
  unfold State.load
  split
  · rename_i h
    refine List.ext_getElem ?_ (fun k hk _ => ?_)
    · rw [Sparse.length_getRange, List.length_map, List.length_range]
    · rw [Sparse.getElem_getRange, List.getElem_map, List.getElem_range, State.memByte_eq, s.noLines_iff.1 h]
      rfl
  · rfl

theorem State.onlyPoisons.load {s t : State} (h : s.onlyPoisons t) (a n : Nat) : t.load a n = s.load a n := by
  rw [State.load_eq, State.load_eq]
  exact List.map_congr_left (fun i _ => h.memByte _)

/-- A byte stored is the byte there, and no other one changes. -/
theorem State.memByte_storeByte (s : State) (a y : Nat) (b : Byte) : (s.storeByte a b).memByte y = if y = a then b else s.memByte y := by
  have hput : ∀ l : List CLine, l.any (fun c => c.holds a) = false → byteIn l a = none := fun l h => by
    rw [← isSome_byteIn] at h
    simpa using h
  have hheld : ∀ l : List CLine, l.any (fun c => c.holds a) = true → ∃ x, byteIn l a = some x := fun l h => by
    rw [← isSome_byteIn] at h
    exact Option.isSome_iff_exists.1 h
  rw [State.memByte_eq, State.memByte_eq]
  unfold State.storeByte State.allLines
  by_cases hl : s.ms.lines.any (fun c => c.holds a) = true
  · obtain ⟨x, hx⟩ := hheld _ hl
    rw [if_pos hl]
    simp only [State.modMs_ms, State.modMs_mem, byteIn_append, byteIn_setByte]
    split
    · rename_i h
      rw [h, hx]
      rfl
    · rfl
  · rw [if_neg hl]
    have hnl := hput _ (by simpa using hl)
    by_cases hv : s.ms.victims.any (fun c => c.holds a) = true
    · obtain ⟨x, hx⟩ := hheld _ hv
      rw [if_pos hv]
      simp only [State.modMs_ms, State.modMs_mem, byteIn_append, byteIn_setByte]
      split
      · rename_i h
        rw [h, hx, hnl]
        rfl
      · rfl
    · rw [if_neg hv]
      have hnv := hput _ (by simpa using hv)
      by_cases hs : s.ms.stalled.any (fun c => c.holds a) = true
      · obtain ⟨x, hx⟩ := hheld _ hs
        rw [if_pos hs]
        simp only [State.modMs_ms, State.modMs_mem, byteIn_append, byteIn_setByte]
        split
        · rename_i h
          rw [h, hx, hnl, hnv]
          rfl
        · rfl
      · rw [if_neg hs]
        have hns := hput _ (by simpa using hs)
        split
        · rename_i h
          rw [h, byteIn_append, byteIn_append, hnl, hnv, hns]
          exact Sparse.get_set_same ..
        · rename_i h
          rw [Sparse.get_set_other _ _ _ _ _ _ (Ne.symm h)]

/-- Bytes stored one by one are the bytes there, and no other one changes. -/
theorem State.memByte_storeBytes (s : State) (a y : Nat) (b : Bytes) :
    (s.storeBytes a b).memByte y = if a ≤ y ∧ y < a + b.length then b.getD (y - a) 0 else s.memByte y := by
  induction b generalizing s a with
  | nil => rw [if_neg (by simp only [List.length_nil]; omega)]; rfl
  | cons v t ih =>
    rw [State.storeBytes, ih, State.memByte_storeByte, List.length_cons]
    by_cases h : y = a
    · rw [if_neg (by omega), if_pos h, if_pos (by omega), h, Nat.sub_self]
      rfl
    · by_cases hin : a + 1 ≤ y ∧ y < a + 1 + t.length
      · rw [if_pos hin, if_pos (by omega), show y - a = (y - (a + 1)) + 1 by omega]
        rfl
      · rw [if_neg hin, if_neg h, if_neg (by omega)]

/-- Bytes written before injections and poison are seen to: at once where nothing is cached. -/
def State.putBytes (s : State) (a : Nat) (b : Bytes) : State :=
  if s.noLines then { s with mem := Sparse.setRange memDefault s.mem a b } else s.storeBytes a b

theorem State.memByte_putBytes (s : State) (a y : Nat) (b : Bytes) :
    (s.putBytes a b).memByte y = if a ≤ y ∧ y < a + b.length then b.getD (y - a) 0 else s.memByte y := by
  unfold State.putBytes
  split
  · rename_i h
    have hl := s.noLines_iff.1 h
    have hl' : State.allLines { s with mem := Sparse.setRange memDefault s.mem a b } = [] := hl
    rw [State.memByte_eq, State.memByte_eq, hl, hl']
    show Sparse.get memDefault (Sparse.setRange memDefault s.mem a b) y = _
    split
    · rename_i hin
      have hk : y - a < b.length := by omega
      have hg := Sparse.get_setRange_in memDefault s.mem a (y - a) b hk
      rw [show a + (y - a) = y by omega] at hg
      rw [hg, List.getD_eq_getElem _ _ hk]
    · exact Sparse.get_setRange_out _ _ _ _ _ (by omega)
  · exact State.memByte_storeBytes ..

/-- What neither the errors of lines, nor the wrong words of SRAMs, nor an injection that fires changes, the writes of a range noted leave alone. -/
theorem State.noteWrites_keeps {α : Type} (p : State → α) (he : ∀ (t : State) (e : MemSt → Sparse (List (Nat × Nat))), p (t.modMs (fun d => { d with errs := e d })) = p t)
    (hf : ∀ (t : State) (e : MemSt → List Flip), p (t.modMs (fun d => { d with flips := e d })) = p t) (hi : ∀ (t : State) (m : Nat), p (t.fired m) = p t)
    (s : State) (a n : Nat) : p (s.noteWrites a n) = p s := by
  have hw : ∀ (t : State) (m code inst : Nat) (x : Option Nat), p (t.sramWrote m code inst x) = p t := fun t m code inst x => by
    unfold State.sramWrote State.sramWroteAt
    split
    · exact (hi _ m).trans (hf t _)
    · rfl
  have hd : p (s.dropFlips a n) = p s := by
    unfold State.dropFlips
    dsimp only
    split
    · exact hf s _
    · rfl
  unfold State.noteWrites
  refine (State.each_keeps p _ _ _ (fun t k _ => ?_)).trans hd
  dsimp only
  split
  · split
    · exact hw ..
    · exact State.dramWrote_keeps p he hi ..
  · exact hw ..
  · exact hw ..
  all_goals rfl

theorem State.onlyPoisons_fired (s : State) (m : Nat) : s.onlyPoisons (s.fired m) :=
  State.onlyPoisons_of_onlyRegs (State.onlyRegs_refl s).setFld.setFld

theorem State.onlyPoisons_sramWrote (s : State) (m code inst : Nat) (x : Option Nat) : s.onlyPoisons (s.sramWrote m code inst x) := by
  unfold State.sramWrote State.sramWroteAt
  split
  · exact State.onlyPoisons.trans (State.onlyPoisons_of_eq rfl rfl) (State.onlyPoisons_fired ..)
  · exact State.onlyPoisons_refl s

theorem State.onlyPoisons_dropFlips (s : State) (a n : Nat) : s.onlyPoisons (s.dropFlips a n) := by
  unfold State.dropFlips
  dsimp only
  split
  · exact State.onlyPoisons_of_eq rfl rfl
  · exact State.onlyPoisons_refl s

theorem State.onlyPoisons_noteWrites (s : State) (a n : Nat) : s.onlyPoisons (s.noteWrites a n) := by
  have hi : ∀ (t : State) (m : Nat), (t.fired m).allLines = t.allLines := fun t m => by
    unfold State.allLines State.fired
    rw [State.setFld_ms, State.setFld_ms]
  exact State.onlyPoisons_of_eq (noteWrites_mem s a n) (State.noteWrites_keeps State.allLines (fun _ _ => rfl) (fun _ _ => rfl) hi s a n)

theorem mapWhere_clearPoison_unpoisoned (p : CLine → Bool) (l : List CLine) :
    (mapWhere p (fun c => { c with poison := false }) l).map CLine.unpoisoned = l.map CLine.unpoisoned := by
  unfold mapWhere
  rw [List.map_map]
  refine List.map_congr_left (fun c _ => ?_)
  dsimp only [Function.comp]
  split <;> rfl

theorem State.onlyPoisons_clearPoison (s : State) (a n : Nat) : s.onlyPoisons (s.clearPoison a n) := by
  refine ⟨rfl, ?_⟩
  unfold State.allLines State.clearPoison
  simp only [State.modMs_ms, List.map_append, mapWhere_clearPoison_unpoisoned]

/-- A store of an engine or DMA mover: the bytes, and what goes with them. -/
theorem State.onlyPoisons_store (s : State) (a : Nat) (b : Bytes) : (s.putBytes a b).onlyPoisons (s.store a b) :=
  (State.onlyPoisons_noteWrites ..).trans (State.onlyPoisons_clearPoison ..)

theorem State.memByte_store (s : State) (a y : Nat) (b : Bytes) :
    (s.store a b).memByte y = if a ≤ y ∧ y < a + b.length then b.getD (y - a) 0 else s.memByte y := by
  rw [(State.onlyPoisons_store s a b).memByte, State.memByte_putBytes]

/-- A part of what was stored reads back. -/
theorem State.load_store_part (s : State) (a : Nat) (x y z : Bytes) : (s.store a (x ++ y ++ z)).load (a + x.length) y.length = y := by
  rw [State.load_eq]
  refine List.ext_getElem (by simp) (fun k hk hk' => ?_)
  rw [List.getElem_map, List.getElem_range, State.memByte_store, if_pos (by simp only [List.length_append]; omega)]
  rw [show a + x.length + k - a = x.length + k by omega, List.getD_eq_getElem _ _ (by simp only [List.length_append]; omega)]
  rw [List.getElem_append_left (by simp only [List.length_append]; omega), List.getElem_append_right (by omega)]
  simp

end Sys2Proof.Machine
end

section
/-! SUPPORT. Sub-ports, pauses and ingress levels (R299, R300, R305). -/

namespace Sys2Proof.Machine

theorem State.flag_setFld_b2n (s : State) (f : Fld Reg) (b : Bool) (m i : Nat) (h : f.lo ≤ f.hi ∧ f.hi < 64) : (s.setFld f (b2n b) m i).flag f m i = b := by
  cases b with
  | true => exact s.flag_setFld_one f m i h
  | false => exact s.flag_setFld_zero f m i h

/-- NET_SUB_ST.PAUSED shows whether a priority of the sub-port is paused (R305). -/
theorem State.flag_syncPaused (s : State) (m b : Nat) :
    (s.syncPaused m b).flag F.NET_SUB_ST_PAUSED m b = s.net.paused.any (fun k => k.1 == m && k.2.1 == b) :=
  s.flag_setFld_b2n F.NET_SUB_ST_PAUSED _ m b (by decide)

/-- A link that has come up or gone down, its pauses apart (R300). -/
def State.linkShown (s : State) (m b : Nat) (up : Bool) (sp co un : Nat) : State :=
  (((s.setFld F.NET_SUB_ST_UP (b2n up) m b).setFld F.NET_SUB_ST_SPEED (if up then sp else 0) m b).bump F.NET_SUB_ST_FEC_CORR co m b).bump F.NET_SUB_ST_FEC_UNCORR un m b

/-- A link change with all that goes with it: a link that goes down ends its pauses (R300). -/
def State.linkChanged (s : State) (m b : Nat) (up : Bool) (sp co un : Nat) : State :=
  if up then s.linkShown m b up sp co un
  else ((s.linkShown m b up sp co un).modNet (fun n => { n with paused := n.paused.filter (fun p => !(p.1 == m && p.2.1 == b)) })).syncPaused m b

/-- What a link change shows in NET_SUB_ST. -/
theorem State.linkShown_fields (s : State) (m b : Nat) (up : Bool) (sp co un : Nat) :
    (s.linkShown m b up sp co un).flag F.NET_SUB_ST_UP m b = up ∧
    (s.linkShown m b up sp co un).fld F.NET_SUB_ST_SPEED m b = (if up then sp % 8 else 0) ∧
    (s.linkShown m b up sp co un).fld F.NET_SUB_ST_FEC_CORR m b = satAdd (fldMax F.NET_SUB_ST_FEC_CORR) (s.fld F.NET_SUB_ST_FEC_CORR m b) co := by
  unfold State.linkShown
  refine ⟨?_, ?_, ?_⟩
  · rw [State.flag_congr (State.fld_bump_field _ _ F.NET_SUB_ST_UP _ m b (by decide)), State.flag_congr (State.fld_bump_field _ _ F.NET_SUB_ST_UP _ m b (by decide)),
      State.flag_congr (State.fld_setFld_field _ _ F.NET_SUB_ST_UP _ m b (by decide)), State.flag_setFld_b2n _ _ _ _ _ (by decide)]
  · rw [State.fld_bump_field _ _ F.NET_SUB_ST_SPEED _ m b (by decide), State.fld_bump_field _ _ F.NET_SUB_ST_SPEED _ m b (by decide),
      State.fld_setFld_same _ _ _ _ _ (by decide)]
    cases up <;> rfl
  · rw [State.fld_bump_field _ _ F.NET_SUB_ST_FEC_CORR _ m b (by decide), State.fld_bump_same _ _ _ _ _ (by decide),
      State.fld_setFld_field _ _ F.NET_SUB_ST_FEC_CORR _ m b (by decide), State.fld_setFld_field _ _ F.NET_SUB_ST_FEC_CORR _ m b (by decide)]

theorem State.reg_linkShown (s : State) (m b : Nat) (up : Bool) (sp co un : Nat) (q : Reg) (y j : Nat) (h : q.addr y j ≠ Reg.NET_SUB_ST.addr m b) :
    (s.linkShown m b up sp co un).reg q y j = s.reg q y j := by
  have hset : ∀ (t : State) (f : Fld Reg) (x : Nat), f.reg = .NET_SUB_ST → (t.setFld f x m b).reg q y j = t.reg q y j := fun t f x hf =>
    State.reg_setFld_other _ _ _ _ _ _ _ _ (by rw [hf]; exact h.symm)
  unfold State.linkShown State.bump
  rw [hset _ F.NET_SUB_ST_FEC_UNCORR _ rfl, hset _ F.NET_SUB_ST_FEC_CORR _ rfl, hset _ F.NET_SUB_ST_SPEED _ rfl, hset _ F.NET_SUB_ST_UP _ rfl]

/-- Only the registers and the network ports differ. -/
def State.onlyNet (s t : State) : Prop := t = { s with regs := t.regs, net := t.net }

theorem State.onlyNet_refl (s : State) : s.onlyNet s := rfl

section
variable {s t : State} (h : s.onlyNet t)
include h

theorem State.onlyNet.setFld {f : Fld Reg} {x m i : Nat} : s.onlyNet (t.setFld f x m i) := by
  unfold State.onlyNet at h
  rw [h]
  rfl

theorem State.onlyNet.modNet {f : NetSt → NetSt} : s.onlyNet (t.modNet f) := by
  unfold State.onlyNet at h
  rw [h]
  rfl

end

theorem State.onlyNet_linkShown (s : State) (m b : Nat) (up : Bool) (sp co un : Nat) : s.onlyNet (s.linkShown m b up sp co un) :=
  (State.onlyNet_refl s).setFld.setFld.setFld.setFld

/-- What a link change shows, and what it leaves alone. -/
theorem State.linkChanged_shows (s : State) (m b : Nat) (up : Bool) (sp co un : Nat) (t : State) (ht : t = s.linkChanged m b up sp co un) :
    t.flag F.NET_SUB_ST_UP m b = up ∧ t.fld F.NET_SUB_ST_SPEED m b = (if up then sp % 8 else 0) ∧
    t.fld F.NET_SUB_ST_FEC_CORR m b = satAdd (fldMax F.NET_SUB_ST_FEC_CORR) (s.fld F.NET_SUB_ST_FEC_CORR m b) co ∧
    (∀ q y j, q.addr y j ≠ Reg.NET_SUB_ST.addr m b → t.reg q y j = s.reg q y j) ∧ t = { s with regs := t.regs, net := t.net } ∧
    (up = true → t.net = s.net) ∧
    (up = false → t.net.paused = s.net.paused.filter (fun x => !(x.1 == m && x.2.1 == b)) ∧ t.flag F.NET_SUB_ST_PAUSED m b = false) := by
  have hreg := s.reg_linkShown m b up sp co un
  have honly := s.onlyNet_linkShown m b up sp co un
  obtain ⟨hup, hsp, hco⟩ := s.linkShown_fields m b up sp co un
  have hnet : (s.linkShown m b up sp co un).net = s.net := by
    unfold State.linkShown State.bump
    rw [State.setFld_net, State.setFld_net, State.setFld_net, State.setFld_net]
  unfold State.linkChanged at ht
  generalize s.linkShown m b up sp co un = w at ht hreg honly hup hsp hco hnet
  subst ht
  cases up with
  | true => exact ⟨hup, hsp, hco, hreg, honly, fun _ => hnet, fun h => absurd h (by decide)⟩
  | false =>
    rw [if_neg Bool.false_ne_true]
    refine ⟨?_, ?_, ?_, fun q y j h => ?_, honly.modNet.setFld, fun h => absurd h (by decide), fun _ => ⟨?_, ?_⟩⟩
    · unfold State.syncPaused
      rw [State.flag_congr (State.fld_setFld_field _ F.NET_SUB_ST_PAUSED F.NET_SUB_ST_UP _ m b (by decide)), State.flag_congr (State.modNet_fld ..)]
      exact hup
    · unfold State.syncPaused
      rw [State.fld_setFld_field _ F.NET_SUB_ST_PAUSED F.NET_SUB_ST_SPEED _ m b (by decide), State.modNet_fld]
      exact hsp
    · unfold State.syncPaused
      rw [State.fld_setFld_field _ F.NET_SUB_ST_PAUSED F.NET_SUB_ST_FEC_CORR _ m b (by decide), State.modNet_fld]
      exact hco
    · unfold State.syncPaused
      rw [State.reg_setFld_other _ _ _ _ _ _ _ _ h.symm, State.modNet_reg]
      exact hreg q y j h
    · unfold State.syncPaused
      rw [State.setFld_net, ← hnet]
      rfl
    · rw [State.flag_syncPaused, List.any_eq_false]
      intro k hk
      simpa [← not_and_or] using (List.mem_filter.1 hk).2

/-- A sub-port that the split does not have knows no link, no pauses and no frames (R299). -/
theorem exec_of_noSubPort (s : State) (m b p sp co un : Nat) (up x : Bool) (l : List (Nat × Nat)) (f : Bytes) (ts : Option (Nat × Nat × Nat)) (arp : Option Nat)
    (hr : s.power.running = true) (h : s.hasSubPort m b = false) :
    exec (.ethLinkChange m b up sp co un) s = .next s ∧ exec (.pfcFrameReceive m b p x l) s = .next s ∧ exec (.fwRxFrame m b f ts arp) s = .next s := by
  refine ⟨?_, ?_, ?_⟩
  · rw [exec_ethLinkChange]
    refine (live_on s _ hr).trans (congrArg _ ?_)
    rw [if_neg (by simp [h])]
  · rw [exec_pfcFrameReceive]
    refine (live_on s _ hr).trans (congrArg _ ?_)
    simp only [h, Bool.false_and, Bool.false_eq_true, if_false]
  · rw [exec_fwRxFrame]
    refine (live_on s _ hr).trans (congrArg _ ?_)
    rw [if_pos (Or.inr (by simp [h]))]

theorem exec_ethLinkChange_on (s : State) (m b sp co un : Nat) (up : Bool) (hr : s.power.running = true) (hb : s.hasSubPort m b = true) :
    exec (.ethLinkChange m b up sp co un) s = .next (s.linkChanged m b (up && !s.flag F.PKG_WIND_STOPPED) sp co un) := by
  rw [exec_ethLinkChange]
  refine (live_on s _ hr).trans (congrArg _ ?_)
  rw [if_pos hb]
  rfl

/-- A priority paused, or a pause ended (R305). -/
def State.setPause (s : State) (m b p : Nat) (pause : Bool) : State :=
  (s.modNet (fun n => { n with paused := n.paused.filter (fun x => x != (m, b, p)) ++ (if pause then [(m, b, p)] else []) })).syncPaused m b

theorem State.mem_paused_setPause (s : State) (m b p : Nat) (pause : Bool) (k : Nat × Nat × Nat) :
    k ∈ (s.setPause m b p pause).net.paused ↔ if k = (m, b, p) then pause = true else k ∈ s.net.paused := by
  show k ∈ s.net.paused.filter (fun x => x != (m, b, p)) ++ (if pause then [(m, b, p)] else []) ↔ _
  rw [List.mem_append, List.mem_filter]
  by_cases h : k = (m, b, p)
  · cases pause <;> simp [h]
  · cases pause <;> simp [h]

/-- A PFC frame for an enabled priority, or PAUSE while PFC is off (R300). -/
def State.honours (s : State) (m p : Nat) : Bool :=
  if p = 8 then decide (s.fld F.NET_CTL_PFC_EN m = 0) else decide (p < 8) && bit (s.fld F.NET_CTL_PFC_EN m) p

theorem netSubSt_ne_netCtl (m b : Nat) : Reg.NET_SUB_ST.addr m b ≠ Reg.NET_CTL.addr m 0 := by
  have hsub : Reg.NET_SUB_ST.windowOfs b = 0x200100 + 8 * b := by
    show 2 * 0x100000 + (0x100 + b / 1 * 8 + b % 1 * 0) = _
    omega
  rw [Reg.addr_eq_windowOfs rfl, Reg.addr_eq_windowOfs rfl, hsub, show Reg.NET_CTL.windowOfs 0 = 0x200000 from rfl]
  omega

theorem State.hasSubPort_setPause (s : State) (m b p : Nat) (x : Bool) : (s.setPause m b p x).hasSubPort m b = s.hasSubPort m b := by
  have hsplit : (s.setPause m b p x).fld F.NET_CTL_SPLIT m = s.fld F.NET_CTL_SPLIT m :=
    State.fld_setFld_reg _ _ _ _ _ _ _ _ (netSubSt_ne_netCtl m b)
  unfold State.hasSubPort
  rw [hsplit]
  rfl

theorem exec_pfcFrameReceive_on (s : State) (m b p : Nat) (x : Bool) (l : List (Nat × Nat)) (hr : s.power.running = true) (hb : s.hasSubPort m b = true) :
    exec (.pfcFrameReceive m b p x l) s = .next ((if s.honours m p then s.setPause m b p x else s).pfcLevels m b l) := by
  rw [exec_pfcFrameReceive]
  refine (live_on s _ hr).trans (congrArg _ ?_)
  show (fun u : State => if u.hasSubPort m b then u.pfcLevels m b l else u) (if s.hasSubPort m b && s.honours m p then s.setPause m b p x else s) = _
  rw [hb, Bool.true_and]
  by_cases h : s.honours m p = true
  · simp only [h, if_true, State.hasSubPort_setPause, hb]
  · simp only [h, if_false, hb, if_true, Bool.false_eq_true]

/-- A pause that runs out ends (R305); one that is not there does nothing. -/
theorem exec_pauseExpiry_on (s : State) (m b p : Nat) (l : List (Nat × Nat)) (hr : s.power.running = true) :
    exec (.pauseExpiry m b p l) s = .next (if s.net.paused.contains (m, b, p) then (s.setPause m b p false).pfcLevels m b l else s) := by
  rw [exec_pauseExpiry]
  refine (live_on s _ hr).trans (congrArg _ ?_)
  unfold State.setPause
  simp only [Bool.false_eq_true, if_false, List.append_nil]

theorem State.onlyNet_setPause (s : State) (m b p : Nat) (x : Bool) : s.onlyNet (s.setPause m b p x) := (State.onlyNet_refl s).modNet.setFld

theorem State.flag_setPause (s : State) (m b p : Nat) (x : Bool) :
    (s.setPause m b p x).flag F.NET_SUB_ST_PAUSED m b = (s.setPause m b p x).net.paused.any (fun k => k.1 == m && k.2.1 == b) :=
  State.flag_syncPaused _ m b

/-- XOFF goes out above 75 % and XON below 50 %, once each, and never for the priority of class 0 or one that is not enabled (R305). -/
theorem State.pfcLevel_cases (s : State) (m b c h : Nat) :
    ((c = 0 ∨ s.prioOf m c = s.prioOf m 0 ∨ bit (s.fld F.NET_CTL_PFC_EN m) (s.prioOf m c) = false) → s.pfcLevel m b c h = s) ∧
    (c ≠ 0 → s.prioOf m c ≠ s.prioOf m 0 → bit (s.fld F.NET_CTL_PFC_EN m) (s.prioOf m c) = true →
      (75 < h → (m, b, s.prioOf m c) ∉ s.net.xoff → s.pfcLevel m b c h =
        (s.modNet (fun n => { n with xoff := n.xoff ++ [(m, b, s.prioOf m c)] })).emit (.pfc m b (s.prioOf m c) true)) ∧
      (h < 50 → (m, b, s.prioOf m c) ∈ s.net.xoff → s.pfcLevel m b c h =
        (s.modNet (fun n => { n with xoff := n.xoff.filter (fun x => x != (m, b, s.prioOf m c)) })).emit (.pfc m b (s.prioOf m c) false)) ∧
      ((50 ≤ h ∧ h ≤ 75) ∨ (75 < h ∧ (m, b, s.prioOf m c) ∈ s.net.xoff) ∨ (h < 50 ∧ (m, b, s.prioOf m c) ∉ s.net.xoff) → s.pfcLevel m b c h = s)) := by
  unfold State.pfcLevel
  simp only [List.contains_iff_mem]
  refine ⟨fun hc => ?_, fun hc hp he => ?_⟩
  · rw [if_pos (by simpa using hc)]
  · rw [if_neg (by simp [hc, hp, he])]
    refine ⟨fun h1 hx => ?_, fun h1 hx => ?_, fun h1 => ?_⟩
    · rw [if_pos ⟨h1, hx⟩]
    · rw [if_neg (by omega), if_pos ⟨h1, hx⟩]
    · have hoff : ¬(75 < h ∧ (m, b, s.prioOf m c) ∉ s.net.xoff) := fun ⟨h2, h3⟩ => by
        rcases h1 with h1 | ⟨-, h1⟩ | ⟨h1, -⟩
        · omega
        · exact h3 h1
        · omega
      have hon : ¬(h < 50 ∧ (m, b, s.prioOf m c) ∈ s.net.xoff) := fun ⟨h2, h3⟩ => by
        rcases h1 with h1 | ⟨h1, -⟩ | ⟨-, h1⟩
        · omega
        · omega
        · exact h1 h3
      rw [if_neg hoff, if_neg hon]

end Sys2Proof.Machine
end

section
/-! SUPPORT. The rings of firmware (R304). -/

namespace Sys2Proof.Machine

/-- Little-endian bytes hold the number, cut to their count (R5). -/
theorem leNat_leBytes (n v : Nat) : leNat (leBytes n v) = v % 256 ^ n := by
  induction n generalizing v with
  | zero => exact (Nat.mod_one v).symm
  | succ n ih =>
    show (BitVec.ofNat 8 v).toNat + 256 * leNat (leBytes n (v / 256)) = _
    rw [ih, BitVec.toNat_ofNat, Nat.pow_succ' (m := 256), Nat.mod_mul]

theorem length_leBytes (n v : Nat) : (leBytes n v).length = n := by
  induction n generalizing v with
  | zero => rfl
  | succ n ih => exact congrArg (· + 1) (ih _)

/-- The header of a slot is 32 bytes and begins with the frame's length (R304). -/
theorem fwHeader_shows (n m b : Nat) (ts : Option (Nat × Nat × Nat)) (hn : n < 65536) : (fwHeader n m b ts).length = 32 ∧ leAt (fwHeader n m b ts) 0 2 = n := by
  refine ⟨?_, ?_⟩
  · unfold fwHeader zeros bytesOf
    simp only [List.length_append, length_leBytes, List.length_map, List.length_replicate, List.length_cons, List.length_nil]
  · have hw : n < 256 ^ 2 := hn
    have hhead : slice (fwHeader n m b ts) 0 2 = leBytes 2 n := by
      unfold fwHeader slice
      simp only [List.append_assoc, List.drop_zero]
      exact List.take_left' (length_leBytes 2 n)
    rw [leAt, hhead, leNat_leBytes, Nat.mod_eq_of_lt hw]

/-- What neither memory, the cache and its books, nor an injection that fires changes, a store leaves alone. -/
theorem State.store_keeps {α : Type} (p : State → α) (hm : ∀ (t : State) (x : Sparse Byte), p { t with mem := x } = p t) (hms : ∀ (t : State) (f : MemSt → MemSt), p (t.modMs f) = p t)
    (hi : ∀ (t : State) (m : Nat), p (t.fired m) = p t) (s : State) (a : Nat) (b : Bytes) : p (s.store a b) = p s := by
  have hbyte : ∀ (t : State) (k : Nat) (x : Byte), p (t.storeByte k x) = p t := fun t k x => by
    unfold State.storeByte
    split
    · exact hms ..
    · split
      · exact hms ..
      · split
        · exact hms ..
        · exact hm ..
  have hbytes : ∀ (l : Bytes) (t : State) (k : Nat), p (t.storeBytes k l) = p t := fun l => by
    induction l with
    | nil => exact fun _ _ => rfl
    | cons x l ih => exact fun t k => (ih _ _).trans (hbyte ..)
  have hput : p (s.putBytes a b) = p s := by
    unfold State.putBytes
    split
    · exact hm ..
    · exact hbytes ..
  show p (((s.putBytes a b).noteWrites a b.length).clearPoison a b.length) = p s
  unfold State.clearPoison
  exact (hms _ _).trans ((State.noteWrites_keeps p (fun t _ => hms t _) (fun t _ => hms t _) hi _ a b.length).trans hput)

/-- What a store puts into memory touches no register but those of an injection that fires. -/
theorem State.reg_store {r : Reg} {n j : Nat} (h : offErrors (r.addr n j)) (s : State) (a : Nat) (b : Bytes) : (s.store a b).reg r n j = s.reg r n j :=
  State.store_keeps (fun t => t.reg r n j) (fun _ _ => rfl) (fun _ _ => rfl) (State.reg_fired h) s a b

theorem State.fuses_store (s : State) (a : Nat) (b : Bytes) : (s.store a b).fuses = s.fuses :=
  State.store_keeps (fun t => t.fuses) (fun _ _ => rfl) State.modMs_fuses (fun t m => by unfold State.fired; rw [State.setFld_fuses, State.setFld_fuses]) s a b

theorem State.load_raiseIrq (s : State) (m h l id a n : Nat) : (s.raiseIrq m h l id).load a n = s.load a n := by
  unfold State.raiseIrq
  split <;> rfl

theorem State.memByte_raiseIrq (s : State) (m h l id a : Nat) : (s.raiseIrq m h l id).memByte a = s.memByte a := by
  unfold State.raiseIrq
  split <;> rfl

/-- A frame taken by the receive ring: its header and bytes in the slot, RX_TAIL, and the interrupt (R304). -/
theorem State.fwRx_shows (s : State) (m b : Nat) (f : Bytes) (ts : Option (Nat × Nat × Nat)) (hroom : s.fwRxRoom = true) (hlen : f.length ≤ 9212) (t : State)
    (ht : t = s.fwRx m b f ts) (a : Nat) (ha : a = s.fld F.NET_FWRX_BASE_BASE * 16384 + 16384 * s.fld F.NET_FWQ_PTR_RX_TAIL) :
    t.load (a + 32) f.length = f ∧ t.load a 32 = fwHeader f.length m b ts ∧ leAt (t.load a 32) 0 2 = f.length ∧
    t.fld F.NET_FWQ_PTR_RX_TAIL = (s.fld F.NET_FWQ_PTR_RX_TAIL + 1) % ringSlots (s.fld F.NET_FWRX_BASE_SIZE) % 4096 ∧ (s.hasMotif 0 = true → (0, 8, 0, 0x0C2) ∈ t.eip) ∧
    ∀ y, y < a ∨ a + 32 + f.length ≤ y → t.memByte y = s.memByte y := by
  obtain ⟨hhdr, hle⟩ := fwHeader_shows f.length m b ts (by omega)
  generalize hh : fwHeader f.length m b ts = hdr at hhdr hle
  have hsize : (s.store a (hdr ++ f)).fld F.NET_FWRX_BASE_SIZE = s.fld F.NET_FWRX_BASE_SIZE := by
    unfold State.fld
    rw [State.reg_store (offErrors_of_motif 0 (by decide))]
  have hout : t = ((s.store a (hdr ++ f)).setFld F.NET_FWQ_PTR_RX_TAIL ((s.fld F.NET_FWQ_PTR_RX_TAIL + 1) % ringSlots (s.fld F.NET_FWRX_BASE_SIZE))).raiseIrq 0 8 0 0x0C2 := by
    rw [ht, State.fwRx, if_pos hroom, hh]
    dsimp only
    rw [← ha, hsize]
  have hload : ∀ k n, t.load k n = (s.store a (hdr ++ f)).load k n := fun k n => by
    rw [hout, State.load_raiseIrq]
    rfl
  have hheader : t.load a 32 = hdr := by
    rw [hload, ← hhdr]
    exact State.load_store_part s a [] hdr f
  refine ⟨?_, hheader, by rw [hheader, hle], ?_, fun hm => ?_, fun y hy => ?_⟩
  · rw [hload, ← hhdr]
    simpa using State.load_store_part s a hdr f []
  · rw [hout, State.raiseIrq_fld]
    exact State.fld_setFld_same _ F.NET_FWQ_PTR_RX_TAIL _ _ _ (by decide)
  · rw [hout]
    refine State.mem_eip_raiseIrq _ _ _ _ _ (by decide) (by decide) ?_
    rw [← hm]
    unfold State.hasMotif
    rw [State.setFld_fuses, State.fuses_store]
  · rw [hout, State.memByte_raiseIrq]
    refine (State.memByte_store s a y (hdr ++ f)).trans (if_neg ?_)
    rw [List.length_append, hhdr]
    omega

/-- A write of NET_FWQ_PTR stores RX_HEAD and TX_TAIL alone (R304). -/
theorem State.softWrite_fwqPtr (s : State) (v : Nat) (hl : s.inLockSet .NET_FWQ_PTR 0 0 = false) (u : State) (hu : u = s.softWrite .NET_FWQ_PTR 0 0 v) :
    u.fld F.NET_FWQ_PTR_TX_TAIL = bits v 59 48 ∧ u.fld F.NET_FWQ_PTR_RX_HEAD = bits v 11 0 ∧
    u.fld F.NET_FWQ_PTR_TX_HEAD = s.fld F.NET_FWQ_PTR_TX_HEAD ∧ u.fld F.NET_FWQ_PTR_RX_TAIL = s.fld F.NET_FWQ_PTR_RX_TAIL ∧ u = { s with regs := u.regs } := by
  have hb : ∀ t : State, t.heldBits .NET_FWQ_PTR 0 0 = [] := fun _ => rfl
  have hro : ∀ f ∈ Reg.NET_FWQ_PTR.spec.fields, f.acc = .ro ∧ f.extra = .none →
      (s.softWrite .NET_FWQ_PTR 0 0 v).fld ⟨.NET_FWQ_PTR, f.hi, f.lo⟩ = s.fld ⟨.NET_FWQ_PTR, f.hi, f.lo⟩ := fun f hf ha => by
    unfold State.fld
    rw [State.bits_softWrite _ _ _ _ _ rfl hb hf]
    simp [FieldSpec.isPL, FieldSpec.write, hl, ha.1, ha.2]
  subst hu
  exact ⟨State.fld_softWrite_rw s .NET_FWQ_PTR 0 0 v rfl hb hl (f := ⟨59, 48, .rw, .none, .fixed, 0, .pw⟩) (by decide) ⟨rfl, rfl⟩,
    State.fld_softWrite_rw s .NET_FWQ_PTR 0 0 v rfl hb hl (f := ⟨11, 0, .rw, .none, .fixed, 0, .pw⟩) (by decide) ⟨rfl, rfl⟩,
    hro ⟨43, 32, .ro, .none, .fixed, 0, .pw⟩ (by decide) ⟨rfl, rfl⟩, hro ⟨27, 16, .ro, .none, .fixed, 0, .pw⟩ (by decide) ⟨rfl, rfl⟩,
    State.onlyRegs_softWrite _ _ _ _ _ rfl hb⟩

theorem State.emit_num (s : State) (o : Out) : (s.emit o).num = s.num := State.emit_fld ..

/-- The frames of the transmit ring, slot by slot: one that lies in memory is sent, with a timestamp where it asks for one (R27, R304). -/
theorem State.fwTx_cases (s : State) (n c k e a : Nat) (d : Bytes) (hk : k = ringSlots (s.fld F.NET_FWTX_BASE_SIZE)) (he : e = s.fld F.NET_FWQ_PTR_TX_HEAD)
    (ha : a = s.fld F.NET_FWTX_BASE_BASE * 16384 + 16384 * e) (hd : d = s.load a 32) :
    (e = s.fld F.NET_FWQ_PTR_TX_TAIL % k → s.fwTx n (c + 1) = s) ∧
    (e ≠ s.fld F.NET_FWQ_PTR_TX_TAIL % k →
      (s.reachesAll (.engine 2) true a 16384 = false → s.fwTx n (c + 1) = (s.setFld F.NET_FWQ_PTR_TX_HEAD ((e + 1) % k)).fwTx n c) ∧
      (∀ w, s.reachesAll (.engine 2) true a 16384 = true → w = s.emit (.frame (byteAt d 2 % 8) (byteAt d 3 % 8) (s.load (a + 32) (leAt d 0 2))) →
        (bit (byteAt d 4) 1 = false → s.fwTx n (c + 1) = (w.setFld F.NET_FWQ_PTR_TX_HEAD ((e + 1) % k)).fwTx n c) ∧
        (bit (byteAt d 4) 1 = true → s.fwTx n (c + 1) = ((w.store (a + 4) (bytesOf [byteAt d 4 / 2 * 2 + 1, 0, 0, 0] ++ leBytes 8 s.num ++ leBytes 2 s.stc.phase ++ bytesOf [n % 5])).setFld
          F.NET_FWQ_PTR_TX_HEAD ((e + 1) % k)).fwTx n c))) := by
  rw [State.fwTx]
  dsimp only
  rw [← hk, ← he, ← ha, ← hd]
  refine ⟨fun h => ?_, fun h => ⟨fun hr => ?_, fun w hr hw => ⟨fun hb => ?_, fun hb => ?_⟩⟩⟩
  · rw [if_pos h]
  · rw [if_neg h, if_pos (by simp [hr])]
  · rw [if_neg h, if_neg (by simp [hr]), ← hw, if_neg (by simp [hb])]
  · rw [if_neg h, if_neg (by simp [hr]), ← hw, if_pos hb, hw, State.emit_num, State.emit_stc]

theorem exec_fwTxPost_on (s : State) (v n : Nat) (hr : s.power.running = true) : exec (.fwTxPost v n) s = .next (s.writeFwqPtr v n) := by
  rw [exec_fwTxPost]
  exact live_on s _ hr

/-- A frame for firmware that is looked at: ARP is answered, and a frame of a size that fits a slot goes to the ring (R302, R304). -/
theorem exec_fwRxFrame_on (s u : State) (m b : Nat) (f : Bytes) (ts : Option (Nat × Nat × Nat)) (arp : Option Nat) (hr : s.power.running = true) (hb : s.hasSubPort m b = true)
    (ht : s.txOff = false) (hu : u = arp.elim s (fun g => if s.answersFor g (isArp f) then s.emit (.arpReply g) else s)) :
    exec (.fwRxFrame m b f ts arp) s = .next (if 60 ≤ f.length ∧ f.length ≤ 9212 then u.fwRx m b f ts else u) := by
  rw [exec_fwRxFrame]
  refine (live_on s _ hr).trans (congrArg _ ?_)
  rw [if_neg (by simp [hb, ht]), hu]
  cases arp <;> rfl

/-- Settles O53: sub-ports and pauses first, then the receive and the transmit ring of firmware. -/
theorem networkPorts : Obligations.NetworkPorts := by
  unfold Obligations.NetworkPorts
  intro s m b p n sp co un c h v up x l f ts arp hr
  obtain ⟨hnever, hlevels⟩ := s.pfcLevel_cases m b c h
  refine ⟨fun hb i hi => ?_, fun hb _ _ => ⟨_, exec_ethLinkChange_on s m b sp co un up hr hb, s.linkChanged_shows m b _ sp co un _ rfl⟩,
    fun hb => ⟨fun hp => ?_, fun hp => ?_⟩, fun hn => ?_, fun hy => ?_, rfl, hnever, hlevels, fun ht => ?_, fun u hb ht hu => ?_, fun hroom => ?_,
    fun hroom hlen => ⟨_, _, rfl, rfl, s.fwRx_shows m b f ts hroom hlen _ rfl _ rfl⟩, fun u hu => ?_, fun hl => ⟨_, rfl, s.softWrite_fwqPtr v hl _ rfl⟩, rfl,
    fun k e a d hk he ha hd => s.fwTx_cases n c k e a d hk he ha hd⟩
  · obtain ⟨h1, h2, h3⟩ := exec_of_noSubPort s m b p sp co un up x l f ts arp hr hb
    simp only [List.mem_cons, List.not_mem_nil, or_false] at hi
    rcases hi with rfl | rfl | rfl
    · exact h1
    · exact h2
    · exact h3
  · have hh : s.honours m p = true := by
      unfold State.honours
      rcases hp with ⟨h8, h0⟩ | ⟨h8, h1⟩
      · rw [if_pos h8, h0]
        rfl
      · rw [if_neg (by omega), h1]
        simp [h8]
    refine ⟨s.setPause m b p x, ?_, ?_, fun k hk => ?_, s.flag_setPause m b p x, s.onlyNet_setPause m b p x⟩
    · rw [exec_pfcFrameReceive_on s m b p x l hr hb, if_pos hh]
    · rw [State.mem_paused_setPause, if_pos rfl]
    · rw [State.mem_paused_setPause, if_neg hk]
  · have hh : s.honours m p = false := by
      unfold State.honours
      rcases hp with ⟨h8, h0⟩ | ⟨h8, h1⟩ | h8
      · rw [if_neg (by omega), h0, Bool.and_false]
      · rw [if_pos h8]
        exact decide_eq_false h1
      · rw [if_neg (by omega), decide_eq_false (by omega), Bool.false_and]
    rw [exec_pfcFrameReceive_on s m b p x l hr hb, if_neg (by simp [hh])]
  · rw [exec_pauseExpiry_on s m b p l hr, if_neg (by simpa using hn)]
  · refine ⟨s.setPause m b p false, ?_, ?_, fun k hk => ?_, s.onlyNet_setPause m b p false⟩
    · rw [exec_pauseExpiry_on s m b p l hr, if_pos (by simpa using hy)]
    · rw [State.mem_paused_setPause, if_pos rfl]
      exact Bool.false_ne_true
    · rw [State.mem_paused_setPause, if_neg hk]
  · rw [exec_fwRxFrame]
    refine (live_on s _ hr).trans (congrArg _ ?_)
    rw [if_pos (Or.inl ht)]
  · have hu' : u = arp.elim s (fun g => if s.answersFor g (isArp f) then s.emit (.arpReply g) else s) := by
      rw [hu]
      cases arp <;> rfl
    rw [exec_fwRxFrame_on s u m b f ts arp hr hb ht hu']
    exact ⟨fun h => by rw [if_neg (by omega)], fun h1 h2 => by rw [if_pos ⟨h1, h2⟩]⟩
  · rw [State.fwRx, if_neg (by simp [hroom])]
  · rw [exec_fwTxPost_on s v n hr, hu]
    rfl

end Sys2Proof.Machine
end

section
/-! SUPPORT. What a read of the memories leaves of the map cache (R405, R421). -/

namespace Sys2Proof.Machine

/-- What neither the wrong words of SRAMs, nor the count of their corrections, nor poison changes in the books of the memories, a read that meets wrong words leaves alone. -/
theorem State.meetFlips_keeps {α : Type} (q : MemSt → α) (hf : ∀ (d : MemSt) (x : List Flip), q { d with flips := x } = q d)
    (hh : ∀ (d : MemSt) (x : Sparse Nat), q { d with hard := x } = q d) (hp : ∀ (d : MemSt) (x : List Nat), q { d with poison := x } = q d)
    (hc : ∀ (t : State) (a : Nat), q (t.poisonCached a).ms = q t.ms) (s : State) (p : Flip → Bool) : q (s.meetFlips p).ms = q s.ms := by
  have hline : ∀ (t : State) (a : Nat), q (t.poisonLine a).ms = q t.ms := fun t a => by
    unfold State.poisonLine
    split
    · rfl
    · exact hp _ _
  have heffect : ∀ (t : State) (code a : Nat), q (t.dataEffect code a).ms = q t.ms := fun t code a => by
    unfold State.dataEffect State.dataError
    split
    · split
      · split
        · exact hc ..
        · rfl
      · split
        · exact hline ..
        · rfl
    · split
      · exact hc ..
      · exact hline ..
  have hue : ∀ (t : State) (f : Flip), q ((t.sramUeSeen f.motif f.code f.inst f.word).dataEffect f.code f.place).ms = q t.ms := fun t f =>
    (heffect ..).trans ((State.onlySamples_sramUeSeen ..).same (fun u => q u.ms) (fun _ _ _ _ => rfl))
  have hce : ∀ (t : State) (m code inst word : Nat), q (t.sramCorrected m code inst word).ms = q t.ms := fun t m code inst word => by
    unfold State.sramCorrected
    exact ((State.onlyRegs_eccEvent ..).same (fun u => q u.ms) (fun _ _ => rfl)).trans (hh _ _)
  unfold State.meetFlips
  dsimp only
  split
  · refine (State.each_keeps (fun t => q t.ms) _ _ _ (fun t f _ => ?_)).trans (hf _ _)
    unfold State.dataFlip
    dsimp only
    split
    · rfl
    · split
      · exact hce ..
      · split
        · exact hue ..
        · split
          · exact hce ..
          · exact hue ..
          · rfl
  · rfl

/-- A list of lines is the same but for poison, whatever wrong words a read meets. -/
theorem State.meetFlips_lines (s : State) (p : Flip → Bool) :
    (s.meetFlips p).ms.lines.map CLine.unpoisoned = s.ms.lines.map CLine.unpoisoned ∧ (s.meetFlips p).ms.victims.map CLine.unpoisoned = s.ms.victims.map CLine.unpoisoned ∧
      (s.meetFlips p).ms.stalled.map CLine.unpoisoned = s.ms.stalled.map CLine.unpoisoned :=
  ⟨State.meetFlips_keeps (fun d => d.lines.map CLine.unpoisoned) (fun _ _ => rfl) (fun _ _ => rfl) (fun _ _ => rfl) (fun _ _ => mapWhere_poison_unpoisoned ..) s p,
    State.meetFlips_keeps (fun d => d.victims.map CLine.unpoisoned) (fun _ _ => rfl) (fun _ _ => rfl) (fun _ _ => rfl) (fun _ _ => mapWhere_poison_unpoisoned ..) s p,
    State.meetFlips_keeps (fun d => d.stalled.map CLine.unpoisoned) (fun _ _ => rfl) (fun _ _ => rfl) (fun _ _ => rfl) (fun _ _ => mapWhere_poison_unpoisoned ..) s p⟩

theorem channelOf_lt (o : Nat) : channelOf o < 4 := by
  unfold channelOf
  omega

/-- What neither the registers of a DRAM block, nor the sampler, nor the books of its errors, nor memory itself changes, a read of a DRAM line leaves alone (R405). -/
theorem State.readDram_keeps {α : Type} (p : State → α)
    (hset : ∀ (t : State) (f : Fld Reg) (x m i : Nat), f.reg = .DRM_ERR ∨ f.reg = .DRM_CNT ∨ f.reg = .DRM_EVT → i < 4 → p (t.setFld f x m i) = p t)
    (hirq : ∀ (t : State) (m h l n : Nat), p (t.raiseIrq m h l n) = p t) (hsmp : ∀ (t : State) (ty : Nat) (b : Bytes), p (t.sample ty b) = p t)
    (herrs : ∀ (t : State) (e : MemSt → Sparse (List (Nat × Nat))), p (t.modMs (fun d => { d with errs := e d })) = p t)
    (hpoison : ∀ (t : State) (e : MemSt → List Nat), p (t.modMs (fun d => { d with poison := e d })) = p t)
    (hlog : ∀ (t : State) (e : MemSt → List (Nat × Nat)), p (t.modMs (fun d => { d with ceLog := e d })) = p t)
    (hfree : ∀ (t : State) (n : Nat), p { t with free := n } = p t) (hmem : ∀ (t : State) (x : Sparse Byte), p { t with mem := x } = p t)
    (s : State) (m line : Nat) (scrub : Bool) : p (s.readDram m line scrub) = p s := by
  have hevt : ∀ (t : State) (f : Fld Reg) (n : Nat), f.reg = .DRM_EVT → p (t.setEvt f n) = p t := fun t f n hf => by
    unfold State.setEvt
    split
    · rfl
    · rw [hirq, hset _ _ _ _ _ (Or.inr (Or.inr hf)) (by decide)]
  have herr : ∀ (t : State) (a b c d e : Nat) (x : Bool), p (t.dramErr a b c d e x) = p t := fun t a b c d e x => by
    unfold State.dramErr
    dsimp only
    rw [hset _ _ _ _ _ (Or.inl rfl) (by decide), hset _ _ _ _ _ (Or.inl rfl) (by decide), hset _ _ _ _ _ (Or.inl rfl) (by decide), hset _ _ _ _ _ (Or.inl rfl) (by decide), hset _ _ _ _ _ (Or.inl rfl) (by decide),
      hset _ _ _ _ _ (Or.inl rfl) (by decide), hset _ _ _ _ _ (Or.inl rfl) (by decide)]
  have hcnt : ∀ (t : State) (f : Fld Reg) (x n i : Nat), f.reg = .DRM_CNT → i < 4 → p (t.bump f x n i) = p t := fun t f x n i hf => hset _ _ _ _ _ (Or.inr (Or.inl hf))
  have hce : ∀ (t : State) (d : Nat), p (t.dramCe m line d scrub) = p t := fun t d => by
    unfold State.dramCe
    dsimp only
    split
    · rw [hevt _ _ _ rfl, hlog, hevt _ _ _ rfl, hcnt _ _ _ _ _ rfl (channelOf_lt _), herr]
    · rw [hlog, hevt _ _ _ rfl, hcnt _ _ _ _ _ rfl (channelOf_lt _), herr]
  have hue : ∀ t : State, p (t.dramUe m line scrub) = p t := fun t => by
    unfold State.dramUe State.dramUeSeen State.sampleUe
    dsimp only
    rw [hpoison, hsmp, hevt _ _ _ rfl, hcnt _ _ _ _ _ rfl (channelOf_lt _), herr]
  unfold State.readDram
  dsimp only
  split
  · rfl
  · split
    · exact herrs ..
    · exact (herrs ..).trans (hce ..)
    · exact (herrs ..).trans (hue _)
    · split
      · exact (herrs ..).trans ((hue _).trans (hfree ..))
      · refine (herrs ..).trans ?_
        unfold State.garble
        exact (hmem { s.tookFree with free := s.tookFree.free + 1 } _).trans ((hfree ..).trans (hfree ..))

/-- A register of a motif window that is none of a DRAM block's lies at another address. -/
theorem offDram_of_motif {r : Reg} (m : Nat) (h : (r.spec.pkg = false ∧ r.windowOfs 0 < 0x1000000) ∧
    ∀ i < 4, ∀ q ∈ [Reg.DRM_ERR, .DRM_CNT, .DRM_EVT], q.spec.pkg = false ∧ q.windowOfs i < 0x1000000 ∧ q.windowOfs i ≠ r.windowOfs 0)
    (q : Reg) (hq : q = .DRM_ERR ∨ q = .DRM_CNT ∨ q = .DRM_EVT) (k i : Nat) (hi : i < 4) : q.addr k i ≠ r.addr m 0 := by
  obtain ⟨hp, hw, hne⟩ := h.2 i hi q (by simpa using hq)
  exact Reg.addr_ne_of_windowOfs k m ⟨⟨hp, h.1.1⟩, hw, h.1.2, hne⟩

/-- A read of a DRAM line touches no register but those of a DRAM block and of the sampler. -/
theorem State.reg_readDram (s : State) (m line : Nat) (scrub : Bool) {r : Reg} {n j : Nat} (ho : offSampler (r.addr n j))
    (hd : ∀ q : Reg, q = .DRM_ERR ∨ q = .DRM_CNT ∨ q = .DRM_EVT → ∀ k, ∀ i < 4, q.addr k i ≠ r.addr n j) : (s.readDram m line scrub).reg r n j = s.reg r n j :=
  State.readDram_keeps (fun t => t.reg r n j) (fun _ _ _ _ _ hf hi => State.reg_setFld_other _ _ _ _ _ _ _ _ (hd _ hf _ _ hi)) (fun _ _ _ _ _ => State.raiseIrq_reg ..)
    (fun _ _ _ => State.reg_sample ho ..) (fun _ _ => rfl) (fun _ _ => rfl) (fun _ _ => rfl) (fun _ _ => rfl) (fun _ _ => rfl) s m line scrub

/-- A read of a DRAM line leaves the ways, their trees and the park's sections alone. -/
theorem State.readDram_cache (s : State) (m line : Nat) (scrub : Bool) :
    (s.readDram m line scrub).ms.lines = s.ms.lines ∧ (s.readDram m line scrub).ms.trees = s.ms.trees ∧ (s.readDram m line scrub).prk = s.prk := by
  have h := State.readDram_keeps (fun t => (t.ms.lines, t.ms.trees, t.prk)) (fun _ _ _ _ _ _ _ => rfl) (fun t m h l n => by rw [State.raiseIrq_ms, State.raiseIrq_prk])
    (fun t ty b => (t.onlySamples_sample ty b).same (fun t => (t.ms.lines, t.ms.trees, t.prk)) (fun _ _ _ _ => rfl)) (fun _ _ => rfl) (fun _ _ => rfl) (fun _ _ => rfl)
    (fun _ _ => rfl) (fun _ _ => rfl) s m line scrub
  exact ⟨congrArg Prod.fst h, congrArg (fun x => x.2.1) h, congrArg (fun x => x.2.2) h⟩

end Sys2Proof.Machine
end

section
/-! SUPPORT. The way that a fill takes (R410 to R412). -/

namespace Sys2Proof.Machine

/-- What the choice of a way looks at is the same in both states. -/
def State.sameWays (s t : State) (m : Nat) : Prop :=
  t.ms.lines = s.ms.lines ∧ t.ms.trees = s.ms.trees ∧ t.flag F.CCH_CTL_POLICY m = s.flag F.CCH_CTL_POLICY m ∧ ∀ c, t.eligibleWays m c = s.eligibleWays m c

theorem State.sameWays.victimWay {s t : State} {m : Nat} (h : s.sameWays t m) (st c : Nat) : (t.victimWay m st c).2 = (s.victimWay m st c).2 := by
  obtain ⟨hl, ht, hp, hw⟩ := h
  have hat : ∀ w, t.lineAt m st w = s.lineAt m st w := fun w => by
    unfold State.lineAt
    rw [hl]
  have hage : ∀ l w, (t.ageSet m st l).lineAt m st w = (s.ageSet m st l).lineAt m st w := fun l w => by
    unfold State.lineAt State.ageSet
    simp only [State.modMs_ms, hl]
  unfold State.victimWay
  simp only [hp, hw, ht, hat, hage]
  split
  · split
    · rfl
    · split <;> rfl
  · rfl

theorem State.sameWays_readDram (s : State) (m line : Nat) : s.sameWays (s.readDram m line false) m := by
  obtain ⟨hl, ht, hk⟩ := s.readDram_cache m line false
  have hreg : ∀ r : Reg, r = .CCH_CTL ∨ r = .CCH_ST → (s.readDram m line false).reg r m 0 = s.reg r m 0 := fun r hr => by
    rcases hr with rfl | rfl
    · exact s.reg_readDram m line false (offSampler_of_motif m (by decide)) (offDram_of_motif m (by decide))
    · exact s.reg_readDram m line false (offSampler_of_motif m (by decide)) (offDram_of_motif m (by decide))
  have hprk : (s.readDram m line false).reg .PRK_PAIR_ST 0 0 = s.reg .PRK_PAIR_ST 0 0 :=
    s.reg_readDram m line false ⟨by decide, by decide, fun k => (Reg.addr_ne_of_pkg _ _ (by decide) rfl).symm⟩ (fun q hq k i _ => by
      rcases hq with rfl | rfl | rfl <;> exact (Reg.addr_ne_of_pkg _ _ (by decide) rfl).symm)
  have hpart : (s.readDram m line false).activePart = s.activePart := by
    unfold State.activePart State.flag State.fld
    rw [hk, hprk]
  have hst : (s.readDram m line false).fld F.CCH_ST_SCR_WAYS m = s.fld F.CCH_ST_SCR_WAYS m := by
    unfold State.fld
    rw [hreg _ (Or.inr rfl)]
  refine ⟨hl, ht, ?_, fun c => ?_⟩
  · unfold State.flag State.fld
    rw [hreg _ (Or.inl rfl)]
  · unfold State.eligibleWays State.waysOf
    rw [hpart, hst]

/-- The way that a fill takes is one that its class may take (R410). -/
theorem State.victimWay_mem (s : State) (m st c w : Nat) (h : (s.victimWay m st c).2 = some w) : w ∈ s.eligibleWays m c := by
  unfold State.victimWay at h
  dsimp only at h
  split at h
  · split at h
    · rename_i hf
      rw [← Option.some.inj h]
      exact List.mem_of_find?_eq_some hf
    · split at h
      · rename_i hf
        rw [← Option.some.inj h]
        exact List.mem_of_find?_eq_some hf
      · exact List.mem_of_find?_eq_some h
  · simpa using List.find?_some h

/-- The tree points at some way that the class may take, where there is one (R412). -/
theorem State.victimWay_tree (s : State) (m st c : Nat) (hp : s.flag F.CCH_CTL_POLICY m = false) (hw : s.eligibleWays m c ≠ []) : (s.victimWay m st c).2 ≠ none := by
  obtain ⟨w, hw⟩ := List.exists_mem_of_ne_nil _ hw
  have h16 : w < 16 := by
    have := List.mem_range.1 (List.mem_of_mem_filter hw)
    omega
  unfold State.victimWay
  dsimp only
  rw [hp, if_neg Bool.false_ne_true]
  generalize treeVictim _ = v
  intro hn
  refine List.find?_eq_none.1 hn w (List.mem_map.2 ⟨(w + 16 - v % 16) % 16, List.mem_range.2 (by omega), by omega⟩) ?_
  simpa using hw

/-- Under NRU an empty way is taken first (R411). -/
theorem State.victimWay_empty (s : State) (m st c : Nat) (hp : s.flag F.CCH_CTL_POLICY m = true) (he : ∃ w ∈ s.eligibleWays m c, s.lineAt m st w = none) :
    ∃ w, (s.victimWay m st c).2 = some w ∧ s.lineAt m st w = none := by
  obtain ⟨w, hw, hl⟩ := he
  unfold State.victimWay
  dsimp only
  rw [hp, if_pos rfl]
  cases hf : (s.eligibleWays m c).find? (fun w => (s.lineAt m st w).isNone) with
  | some v => exact ⟨v, rfl, by simpa using List.find?_some hf⟩
  | none => exact absurd (List.find?_eq_none.1 hf w hw) (by simp [hl])

end Sys2Proof.Machine
end

section
/-! SUPPORT. A line filled, and a line written back (R406, R411, R413). -/

namespace Sys2Proof.Machine

/-- The lines of the ways and memory. -/
def State.ways (s : State) : List CLine × Sparse Byte := (s.ms.lines, s.mem)

theorem State.mem_of_ways {s t : State} (h : t.ways = s.ways) : t.mem = s.mem := congrArg Prod.snd h

theorem State.ways_fired (s : State) (m : Nat) : (s.fired m).ways = s.ways := by
  unfold State.ways State.fired
  rw [State.setFld_ms, State.setFld_ms, State.setFld_mem, State.setFld_mem]

theorem State.ways_sramWrote (s : State) (m code inst : Nat) (a : Option Nat) : (s.sramWrote m code inst a).ways = s.ways := by
  unfold State.sramWrote State.sramWroteAt
  split
  · exact State.ways_fired ..
  · rfl

theorem State.ways_setEvt (s : State) (f : Fld Reg) (m : Nat) : (s.setEvt f m).ways = s.ways := by
  unfold State.ways
  rw [State.setEvt_ms, State.setEvt_mem]

/-- A line that enters the victim cache touches neither the ways nor memory (R413). -/
theorem State.ways_enterVictim (s : State) (c : CLine) : (s.enterVictim c).ways = s.ways := by
  have hw := s.ways_sramWrote c.motif 0x12 0 (some c.addr)
  unfold State.enterVictim
  dsimp only
  generalize s.sramWrote c.motif 0x12 0 (some c.addr) = t at hw ⊢
  split
  · exact hw
  · split
    · exact hw
    · rw [State.ways_setEvt]
      exact hw

theorem State.ways_noteUse (s : State) (m st w : Nat) : (s.noteUse m st w).ways = s.ways := by
  unfold State.noteUse
  split <;> rfl

theorem State.ways_syncCch (s : State) (m : Nat) : (s.syncCch m).ways = s.ways := by
  unfold State.syncCch State.ways
  rw [State.setFld_ms, State.setFld_ms, State.setFld_mem, State.setFld_mem]

/-- A line installed stands in the way chosen for it, and memory stays (R411). -/
theorem State.install_shows (s : State) (c : CLine) (w : Nat) (h : (s.victimWay c.motif c.set c.cls).2 = some w) :
    { c with way := w } ∈ (s.install c).ms.lines ∧ (s.install c).mem = s.mem := by
  have hmem : (s.victimWay c.motif c.set c.cls).1.mem = s.mem := by
    unfold State.victimWay
    dsimp only
    split
    · split
      · rfl
      · split <;> rfl
    · rfl
  suffices hways : ∃ l, (s.install c).ways = (l ++ [{ c with way := w }], s.mem) by
    obtain ⟨l, hl⟩ := hways
    exact ⟨by rw [show (s.install c).ms.lines = l ++ [{ c with way := w }] from congrArg Prod.fst hl]; simp, congrArg Prod.snd hl⟩
  unfold State.install
  generalize hv : s.victimWay c.motif c.set c.cls = v at h hmem
  obtain ⟨t, x⟩ := v
  dsimp only at h hmem
  subst h
  dsimp only
  rw [State.ways_syncCch, State.ways_noteUse, State.ways_sramWrote]
  cases t.lineAt c.motif c.set w with
  | none =>
    dsimp only
    split
    · rw [State.ways_enterVictim]
      exact ⟨_, Prod.ext rfl hmem⟩
    · exact ⟨_, Prod.ext rfl hmem⟩
  | some o =>
    have hread : (t.readFlips o.addr 128).mem = s.mem := (State.onlyPoisons_meetFlips ..).1.trans hmem
    dsimp only
    split
    · rw [State.ways_enterVictim]
      exact ⟨_, Prod.ext rfl hread⟩
    · exact ⟨_, Prod.ext rfl hread⟩

/-- Where a list holds a value for each number, leaving the zeros out makes no difference to what is read. -/
theorem Sparse.get_zip_filter (l : List Byte) (n o j : Nat) (hl : l.length = n) (hj : j < n) :
    Sparse.get 0 (((List.range' o n).zip l).filter (fun p => p.2 ≠ (0 : Byte))) (o + j) = l.getD j 0 := by
  induction l generalizing n o j with
  | nil => exact absurd hj (by rw [← hl]; exact Nat.not_lt_zero j)
  | cons b l ih =>
    obtain ⟨n, rfl⟩ : ∃ k, n = k + 1 := ⟨l.length, hl.symm⟩
    rw [List.range'_succ, List.zip_cons_cons]
    have hlow : ∀ e ∈ ((List.range' (o + 1) n).zip l).filter (fun p => p.2 ≠ (0 : Byte)), e.1 ≠ o := fun e he => by
      have := List.mem_range'_1.1 (List.of_mem_zip (List.mem_of_mem_filter he)).1
      omega
    cases j with
    | zero =>
      by_cases hb : b = 0
      · rw [List.filter_cons_of_neg (by simpa using hb), hb]
        exact Sparse.get_of_notMem _ hlow
      · rw [List.filter_cons_of_pos (by simpa using hb)]
        exact if_pos rfl
    | succ j =>
      have hrest := ih n (o + 1) j (by simpa using hl) (by omega)
      rw [show o + 1 + j = o + (j + 1) by omega] at hrest
      by_cases hb : b = 0
      · rw [List.filter_cons_of_neg (by simpa using hb), hrest]
        rfl
      · rw [List.filter_cons_of_pos (by simpa using hb)]
        exact (if_neg (by omega)).trans hrest

/-- A line filled is clean, of the request's class, and holds the 128 bytes of memory (R411). -/
theorem State.fillLine_shows (s : State) (m ln cls age w : Nat) (h : (s.victimWay m (Sys2Proof.Machine.setOf (128 * ln)) cls).2 = some w) :
    ∃ t c, t = s.fillLine m ln cls age ∧ c ∈ t.ms.lines ∧ c.motif = m ∧ c.line = ln ∧ c.way = w ∧ c.set = Sys2Proof.Machine.setOf (128 * ln) ∧ c.dirty = false ∧ c.cls = cls ∧
      c.age = age ∧ t.mem = (s.readDram m ln false).mem ∧ ∀ j < 128, Sparse.get 0 c.data j = Sparse.get memDefault t.mem (dramBase m + 128 * ln + j) := by
  have hway := ((s.sameWays_readDram m ln).victimWay (Sys2Proof.Machine.setOf (128 * ln)) cls).trans h
  unfold State.fillLine
  generalize s.readDram m ln false = u at hway ⊢
  dsimp only
  generalize hd : ((List.range 128).zip (Sparse.getRange memDefault u.mem (dramBase m + 128 * ln) 128)).filter (fun p => p.2 ≠ (0 : Byte)) = data
  generalize u.ms.poison.contains ((dramBase m + 128 * ln) / 128) = bad
  obtain ⟨hmem, hm⟩ := State.install_shows u ⟨m, setOf (128 * ln), 0, ln, false, bad, cls, age, data⟩ w hway
  refine ⟨_, _, rfl, hmem, rfl, rfl, rfl, rfl, rfl, rfl, rfl, hm, fun j hj => ?_⟩
  have hlen : (Sparse.getRange memDefault u.mem (dramBase m + 128 * ln) 128).length = 128 := Sparse.length_getRange ..
  have hget := Sparse.get_zip_filter _ 128 0 j hlen hj
  rw [Nat.zero_add, ← List.range_eq_range', hd, List.getD_eq_getElem _ _ (by rw [hlen]; exact hj), Sparse.getElem_getRange] at hget
  rw [hm]
  exact hget

theorem State.onlyPoisons_accessStore (s : State) (who : Who) (a : Nat) (b : Bytes) : (s.putBytes a b).onlyPoisons (s.accessStore who a b) := by
  cases who with
  | core m h => exact (State.onlyPoisons_noteWrites ..).trans ((State.onlyPoisons_sramWrote ..).trans (State.onlyPoisons_sramWrote ..))
  | engine m => exact State.onlyPoisons_store s a b
  | host => exact State.onlyPoisons_store s a b

/-- A store changes exactly its bytes as a read sees them (R28, R406). -/
theorem State.memByte_perform (s : State) (who : Who) (kind a n y : Nat) {d : Bytes} (hd : d ≠ []) :
    (s.perform who kind a n d).memByte y = if a ≤ y ∧ y < a + d.length then d.getD (y - a) 0 else s.memByte y := by
  have hread : s.onlyPoisons ((s.dropFlips a d.length).readFlips a d.length) := (State.onlyPoisons_dropFlips ..).trans (State.onlyPoisons_meetFlips ..)
  unfold State.perform
  rw [if_neg (by simpa using hd), (State.onlyPoisons_accessStore ..).memByte, State.memByte_putBytes, hread.memByte]

/-- A read of poison is delivered as an error, one of sound bytes as data to a core (R424). -/
theorem State.deliverRead_cases (s : State) (who : Who) (kind a n h k : Nat) :
    (s.poisoned a n = true → s.deliverRead who kind a n = ((s.countPoison a n).deliverError who kind a 0x5405).hpmFault who) ∧
    (s.poisoned a n = false → s.deliverRead (.core h k) kind a n = s.out (.coreData h k a (s.load a n)) ∧ s.deliverRead (.engine h) kind a n = s ∧ s.deliverRead .host kind a n = s) := by
  unfold State.deliverRead
  refine ⟨fun hp => if_pos hp, fun hp => ?_⟩
  rw [hp]
  exact ⟨rfl, rfl, rfl⟩

theorem State.readFlips_lines (s : State) (a n : Nat) :
    (s.readFlips a n).ms.lines.map CLine.unpoisoned = s.ms.lines.map CLine.unpoisoned ∧ (s.readFlips a n).ms.victims.map CLine.unpoisoned = s.ms.victims.map CLine.unpoisoned ∧
      (s.readFlips a n).ms.stalled.map CLine.unpoisoned = s.ms.stalled.map CLine.unpoisoned := State.meetFlips_lines ..

theorem State.onlyPoisons_readFlips (s : State) (a n : Nat) : s.onlyPoisons (s.readFlips a n) := State.onlyPoisons_meetFlips ..

/-- A dirty line of a motif's cache with a number. -/
def dirtyAt (m ln : Nat) (c : CLine) : Bool := c.motif == m && c.line == ln && c.dirty

/-- Poison has no part in the search for a dirty line. -/
theorem find?_dirtyAt_unpoisoned {m ln : Nat} {l k : List CLine} (h : l.map CLine.unpoisoned = k.map CLine.unpoisoned) :
    (l.find? (dirtyAt m ln)).map CLine.unpoisoned = (k.find? (dirtyAt m ln)).map CLine.unpoisoned := by
  have hmap : ∀ x : List CLine, (x.find? (dirtyAt m ln)).map CLine.unpoisoned = (x.map CLine.unpoisoned).find? (dirtyAt m ln) := fun x => by
    rw [List.find?_map]
    rfl
  rw [hmap, hmap, h]

/-- A write-back touches the books of DRAM's errors and poison, and memory, alone. -/
theorem State.writeBack_lists (s : State) (c : CLine) : (s.writeBack c).ms.victims = s.ms.victims ∧ (s.writeBack c).ms.stalled = s.ms.stalled := by
  unfold State.writeBack
  dsimp only
  have h := fun u : State => State.dramWrote_keeps (fun t => (t.ms.victims, t.ms.stalled)) (fun _ _ => rfl)
    (fun t m => by unfold State.fired; rw [State.setFld_ms, State.setFld_ms]) u c.motif c.line true
  exact ⟨(congrArg Prod.fst (h _)).trans rfl, (congrArg Prod.snd (h _)).trans rfl⟩

/-- The victim entries after a dirty one has been written: it is clean, or gone while the cache drains (R413, R420). -/
def cleanedAt (drain : Bool) (m ln : Nat) (l : List CLine) : List CLine :=
  if drain then l.filter (fun x => !dirtyAt m ln x) else mapWhere (dirtyAt m ln) (fun x => { x with dirty := false }) l

theorem dirtyAt_cleanedAt {drain : Bool} {m ln : Nat} {l : List CLine} {v : CLine} (hv : v ∈ cleanedAt drain m ln l) : dirtyAt m ln v = false := by
  unfold cleanedAt mapWhere at hv
  split at hv
  · simpa using (List.mem_filter.1 hv).2
  · obtain ⟨x, -, hx⟩ := List.mem_map.1 hv
    split at hx
    · rw [← hx]
      exact Bool.and_false _
    · rename_i hn
      rw [← hx]
      simpa using hn

/-- A dirty victim entry in memory (R413, R420). -/
def State.victimWritten (s : State) (m ln : Nat) (c : CLine) : State :=
  (s.writeBack c).modMs (fun d => { d with victims := cleanedAt (s.flag F.CCH_ST_DRAIN m) m ln d.victims })

/-- An eviction that waits takes a victim entry that is free again (R413). -/
def State.victimFreed (s : State) (m : Nat) : State :=
  match s.ms.stalled.find? (fun x => x.motif == m) with
  | none => s.syncCch m
  | some x => ((s.modMs (fun d => { d with stalled := d.stalled.filter (fun y => !(y.motif == m && y.line == x.line)) })).enterVictim x).syncCch m

theorem State.writtenBack_victim (s : State) (m ln : Nat) (c : CLine) (h : (s.readFlips (dramBase m + 128 * ln) 128).ms.victims.find? (dirtyAt m ln) = some c) :
    s.writtenBack m ln = ((s.readFlips (dramBase m + 128 * ln) 128).victimWritten m ln c).victimFreed m := by
  have hf : (s.readFlips (dramBase m + 128 * ln) 128).ms.victims.find? (fun c => c.motif == m && c.line == ln && c.dirty) = some c := h
  unfold State.writtenBack
  dsimp only
  rw [hf]
  rfl

theorem State.mem_victimFreed (s : State) (m : Nat) : (s.victimFreed m).mem = s.mem := by
  unfold State.victimFreed
  split
  · exact State.mem_of_ways (State.ways_syncCch s m)
  · rename_i x _
    exact (State.mem_of_ways (State.ways_syncCch _ m)).trans (State.mem_of_ways (State.ways_enterVictim _ x))

theorem State.mem_victimWritten (s : State) (m ln : Nat) (c : CLine) : (s.victimWritten m ln c).mem = putLine s.mem c := by
  unfold State.victimWritten
  rw [State.modMs_mem, State.mem_writeBack]

/-- With none waiting no line that the write-back made clean is dirty. -/
theorem State.victims_victimWritten (s : State) (m ln : Nat) (c : CLine) (h : s.ms.stalled = []) :
    ∀ v ∈ ((s.victimWritten m ln c).victimFreed m).ms.victims, dirtyAt m ln v = false := by
  have hst : (s.victimWritten m ln c).ms.stalled = [] := by
    unfold State.victimWritten
    rw [State.modMs_ms]
    exact (s.writeBack_lists c).2.trans h
  have hvic : ∀ v ∈ (s.victimWritten m ln c).ms.victims, dirtyAt m ln v = false := fun v hv => by
    unfold State.victimWritten at hv
    rw [State.modMs_ms] at hv
    exact dirtyAt_cleanedAt hv
  generalize s.victimWritten m ln c = u at hst hvic
  have hfree : (u.victimFreed m).ms = u.ms := by
    unfold State.victimFreed
    rw [hst]
    dsimp only [List.find?_nil]
    unfold State.syncCch
    rw [State.setFld_ms, State.setFld_ms]
  rw [hfree]
  exact hvic

theorem putLine_of_unpoisoned {e c : CLine} (h : e.unpoisoned = c.unpoisoned) (mem : Sparse Byte) : putLine mem e = putLine mem c := by
  have hp : ∀ x : CLine, putLine mem x.unpoisoned = putLine mem x := fun _ => rfl
  rw [← hp, h, hp]

/-- What a write-back of a dirty victim entry shows (R413). -/
theorem State.writtenBack_shows (s : State) (m ln : Nat) (c : CLine) (h : s.ms.victims.find? (dirtyAt m ln) = some c) :
    Sparse.getRange memDefault (s.writtenBack m ln).mem c.addr 128 = c.bytes ∧
    (∀ y, y < c.addr ∨ c.addr + 128 ≤ y → Sparse.get memDefault (s.writtenBack m ln).mem y = Sparse.get memDefault s.mem y) ∧
    (s.ms.stalled = [] → ∀ v ∈ (s.writtenBack m ln).ms.victims, dirtyAt m ln v = false) := by
  obtain ⟨-, hvic, hstl⟩ := s.readFlips_lines (dramBase m + 128 * ln) 128
  have hfind := find?_dirtyAt_unpoisoned (m := m) (ln := ln) hvic
  rw [h] at hfind
  obtain ⟨e, he, hec⟩ := Option.map_eq_some_iff.1 hfind
  have hmem : (s.writtenBack m ln).mem = putLine s.mem c := by
    rw [s.writtenBack_victim m ln e he, State.mem_victimFreed, State.mem_victimWritten, putLine_of_unpoisoned hec, (State.onlyPoisons_readFlips ..).1]
  refine ⟨?_, fun y hy => ?_, fun hno => ?_⟩
  · rw [hmem]
    refine List.ext_getElem (by rw [Sparse.length_getRange, CLine.length_bytes]) (fun k hk hk' => ?_)
    rw [Sparse.getElem_getRange, putLine, Sparse.get_setRange_in _ _ _ _ _ hk']
  · rw [hmem, putLine, Sparse.get_setRange_out _ _ _ _ _ (by rw [CLine.length_bytes]; exact hy)]
  · rw [s.writtenBack_victim m ln e he]
    refine State.victims_victimWritten _ m ln e ?_
    rw [hno] at hstl
    exact List.map_eq_nil_iff.1 hstl

/-- Where no dirty line has the number nothing is written (R413). -/
theorem State.writtenBack_none (s : State) (m ln : Nat) (hv : s.ms.victims.find? (dirtyAt m ln) = none) (hl : s.ms.lines.find? (dirtyAt m ln) = none) :
    s.writtenBack m ln = s.readFlips (dramBase m + 128 * ln) 128 := by
  obtain ⟨hlin, hvic, -⟩ := s.readFlips_lines (dramBase m + 128 * ln) 128
  have hnone : ∀ {l k : List CLine}, l.map CLine.unpoisoned = k.map CLine.unpoisoned → k.find? (dirtyAt m ln) = none →
      l.find? (fun c => c.motif == m && c.line == ln && c.dirty) = none := fun hlk hk => by
    have := find?_dirtyAt_unpoisoned (m := m) (ln := ln) hlk
    rw [hk] at this
    exact Option.map_eq_none_iff.1 this
  unfold State.writtenBack
  have hv' : (s.readFlips (dramBase m + 128 * ln) 128).ms.victims.find? (fun c => c.motif == m && c.line == ln && c.dirty) = none := hnone hvic hv
  have hl' : (s.readFlips (dramBase m + 128 * ln) 128).ms.lines.find? (fun c => c.motif == m && c.line == ln && c.dirty) = none := hnone hlin hl
  simp only [hv', hl']

end Sys2Proof.Machine
end

section
/-! SUPPORT. Accesses through the map cache, at a core, an engine and the host (R26, R27, R389, R410 to R413). -/

namespace Sys2Proof.Machine

/-- The class of a request and its stage are the same after an access is counted. -/
theorem State.request_hpmAccess (s : State) (who : Who) (m k cls : Nat) (codes : List Nat) (st : Option (Nat × Nat)) :
    (s.hpmAccess who k codes).classFor who m cls = s.classFor who m cls ∧ (s.hpmAccess who k codes).streamFill m st = s.streamFill m st := by
  have hctl : (s.hpmAccess who k codes).fld F.CCH_CTL_CORE_CLASS m = s.fld F.CCH_CTL_CORE_CLASS m := by
    have hne : ∀ j, ∀ c < 261, Reg.CCH_CTL.addr m 0 ≠ Reg.CPU_HPM_CNT.addr j c := fun j c hc => by
      have hofs : Reg.CPU_HPM_CNT.windowOfs c = 0x100000 + (0x30018 + c / 29 * 0x100 + c % 29 * 8) := rfl
      exact Reg.addr_ne_of_windowOfs m j ⟨by decide, by decide, by omega, by rw [hofs, show Reg.CCH_CTL.windowOfs 0 = 0xD00000 from rfl]; omega⟩
    unfold State.fld
    rw [State.reg_hpmAccess _ _ _ _ _ _ _ hne]
  refine ⟨?_, (State.onlyRegs_hpmAccess ..).same (fun t => t.streamFill m st) (fun _ _ => rfl)⟩
  cases who with
  | core c h => exact hctl
  | engine c => rfl
  | host => rfl

/-- An access to memory by the region that its address lies in (R26, R27). -/
theorem exec_cacheFill_cases (s : State) (who : Who) (kind a n cls m o kd len : Nat) (st : Option (Nat × Nat)) (d : Bytes) (x : List (Nat × Nat)) (hr : s.power.running = true)
    (hkd : kd = if d = [] then kind else 1) (hlen : len = if d = [] then n else d.length) :
    (s.allowed who kd a len cls = false → exec (.cacheFill who kind a n cls st d x) s = .next (s.deliverError who kd a 0x2F01)) ∧
    (s.allowed who kd a len cls = true →
      (∀ w, regionOf a = .dram m o → o % 128 + len ≤ 128 → w = s.modMs (fun e => { e with errs := Sparse.set [] e.errs (a / 128) (Sparse.get [] e.errs (a / 128) ++ x) }) →
        exec (.cacheFill who kind a n cls st d x) s = .next ((((w.hpmAccess who m (w.cacheCodes m a)).lookupLine m (o / 128)
          ((w.hpmAccess who m (w.cacheCodes m a)).classFor who m cls) ((w.hpmAccess who m (w.cacheCodes m a)).streamFill m st)).perform who kind a n d).syncCch m)) ∧
      (regionOf a = .dram m o → 128 < o % 128 + len → exec (.cacheFill who kind a n cls st d x) s = .next s) ∧
      ((regionOf a = .sram m ∨ regionOf a = .scratch m o) → exec (.cacheFill who kind a n cls st d x) s = .next ((s.hpmAccess who m []).perform who kind a n d)) ∧
      (regionOf a = .rom → exec (.cacheFill who kind a n cls st d x) s = .next (s.perform who kind a n d)) ∧
      ((regionOf a = .regs ∨ regionOf a = .none) → exec (.cacheFill who kind a n cls st d x) s = .next s)) := by
  have hkd' : (if d.isEmpty then kind else 1) = kd := by rw [hkd]; cases d <;> rfl
  have hlen' : (if d.isEmpty then n else d.length) = len := by rw [hlen]; cases d <;> rfl
  rw [exec_cacheFill]
  unfold execCacheFill
  rw [live_on _ _ hr, hkd', hlen']
  refine ⟨fun hno => ?_, fun hok => ?_⟩
  · rw [if_pos (by simp [hno])]
  · rw [if_neg (by simp [hok])]
    refine ⟨fun w hreg hin hw => ?_, fun hreg hout => ?_, fun hreg => ?_, fun hreg => ?_, fun hreg => ?_⟩
    · rw [hreg]
      dsimp only
      rw [if_pos hin, ← hw, (w.request_hpmAccess who m m cls _ st).1, (w.request_hpmAccess who m m cls _ st).2]
    · rw [hreg]
      dsimp only
      rw [if_neg (by omega)]
    · rcases hreg with hreg | hreg <;> rw [hreg]
    · rw [hreg]
    · rcases hreg with hreg | hreg <;> rw [hreg]

theorem exec_coreUnmappedAccess_on (s : State) (who : Who) (kind a n cls : Nat) (hr : s.power.running = true) :
    exec (.coreUnmappedAccess who kind a n cls) s = .next (if s.allowed who kind a n cls then s else s.deliverError who kind a 0x2F01) := by
  rw [exec_coreUnmappedAccess]
  exact live_on s _ hr

/-- A line looked up: a hit ages it, a miss counts, and the line is read, recalled or filled (R410 to R413). -/
theorem State.lookupLine_cases (s u : State) (m ln cls : Nat) (strm : Bool) (hu : u = s.readFlips (dramBase m + 128 * ln) 128) :
    (∀ c, u.ms.lines.find? (fun c => c.holds (dramBase m + 128 * ln)) = some c → s.lookupLine m ln cls strm =
      (u.modMs (fun d => { d with lines := mapWhere (fun x => x.holds (dramBase m + 128 * ln)) (fun x => { x with age := 0 }) d.lines })).noteUse m c.set c.way) ∧
    (∀ w, u.ms.lines.find? (fun c => c.holds (dramBase m + 128 * ln)) = none → w = (if u.flag F.CCH_CTL_EN m || u.flag F.CCH_ST_DRAIN m then u.bump F.CCH_CNT_MISS 1 m else u) →
      (w.cacheOn m = false → w.cached (dramBase m + 128 * ln) = none → s.lookupLine m ln cls strm = w.readDram m ln false) ∧
      (w.cacheOn m = false → w.cached (dramBase m + 128 * ln) ≠ none → s.lookupLine m ln cls strm = w) ∧
      (∀ c, w.cacheOn m = true → w.cached (dramBase m + 128 * ln) = some c → s.lookupLine m ln cls strm = w.recallLine c) ∧
      (w.cacheOn m = true → w.cached (dramBase m + 128 * ln) = none →
        s.lookupLine m ln cls strm = w.fillLine m ln cls (if strm && w.flag F.CCH_CTL_POLICY m then 3 else 0))) := by
  unfold State.lookupLine
  dsimp only
  rw [← hu]
  refine ⟨fun c hc => by rw [hc], fun w hn hw => ?_⟩
  rw [hn]
  dsimp only
  rw [← hw]
  refine ⟨fun hoff hc => ?_, fun hoff hc => ?_, fun c hon hc => ?_, fun hon hc => ?_⟩
  · rw [if_pos (by simp [hoff]), if_neg (by simp [hc])]
  · rw [if_pos (by simp [hoff]), if_pos (Option.isSome_iff_ne_none.2 hc)]
  · rw [if_neg (by simp [hon]), hc]
  · rw [if_neg (by simp [hon]), hc]

theorem exec_writebackComplete_on (s : State) (m ln : Nat) (hr : s.power.running = true) : exec (.writebackComplete m ln) s =
    .next (if (s.writtenBack m ln).flag F.CCH_ST_DRAIN m ∧ s.fld F.CCH_ST_DIRTY m ≠ 0 ∧ (s.writtenBack m ln).fld F.CCH_ST_DIRTY m = 0 then (s.writtenBack m ln).endDrain m
      else s.writtenBack m ln) := by
  rw [exec_writebackComplete]
  exact live_on s _ hr

/-- A host access to PF1 BAR2: ones while BAR0 is closed, data where every byte may be reached and the length is 1 to 512, else zeros (R389, R400). -/
theorem exec_pf1Bar2Access_cases (s : State) (a n : Nat) (d : Bytes) (hr : s.power.running = true) :
    (s.flag F.EP_ST_UP = false → exec (.pf1Bar2Access a n d) s = .next s) ∧
    (s.flag F.EP_ST_UP = true → s.bar0Open = false → exec (.pf1Bar2Access a n d) s = .next (if d = [] then s.emit (.barData 1 (List.replicate n 0xFF)) else s)) ∧
    (s.bar0Open = true →
      (s.reachesAll .bar2 false (bar2Addr a) n = true → 1 ≤ n → n ≤ 512 → exec (.pf1Bar2Access a n []) s = .next ((s.readFlips (bar2Addr a) n).bar2Read a n)) ∧
      ((s.reachesAll .bar2 false (bar2Addr a) n = false ∨ n = 0 ∨ 512 < n) → exec (.pf1Bar2Access a n []) s = .next (s.emit (.barData 1 (zeros n)))) ∧
      (d ≠ [] → (s.reachesAll .bar2 true (bar2Addr a) d.length = false ∨ 512 < d.length) → exec (.pf1Bar2Access a n d) s = .next s) ∧
      (d ≠ [] → s.reachesAll .bar2 true (bar2Addr a) d.length = true → d.length ≤ 512 → exec (.pf1Bar2Access a n d) s = .next (s.perform .host 1 (bar2Addr a) d.length d))) := by
  have hup : s.bar0Open = true → s.flag F.EP_ST_UP = true := fun h => by
    unfold State.bar0Open at h
    simp only [Bool.and_eq_true] at h
    exact h.1.1.1
  simp only [exec_pf1Bar2Access]
  unfold execPf1Bar2Access
  simp only [live_on _ _ hr]
  refine ⟨fun h => ?_, fun h hb => ?_, fun hb => ⟨fun hreach h1 h2 => ?_, fun hno => ?_, fun hd hno => ?_, fun hd hreach h2 => ?_⟩⟩
  · rw [if_pos (by simp [h])]
  · rw [if_neg (by simp [h]), if_pos (by simp [hb])]
    cases d <;> rfl
  · rw [if_neg (by simp [hup hb]), if_neg (by simp [hb])]
    simp [hreach, h1, h2]
  · rw [if_neg (by simp [hup hb]), if_neg (by simp [hb])]
    have hok : (s.reachesAll .bar2 false (bar2Addr a) n && decide (1 ≤ n) && decide (n ≤ 512)) = false := by
      rcases hno with h | h | h
      · rw [h, Bool.false_and, Bool.false_and]
      · rw [decide_eq_false (show ¬1 ≤ n by omega), Bool.and_false, Bool.false_and]
      · rw [decide_eq_false (show ¬n ≤ 512 by omega), Bool.and_false]
    simp [hok]
  · have hok : (s.reachesAll .bar2 true (bar2Addr a) d.length && decide (1 ≤ d.length) && decide (d.length ≤ 512)) = false := by
      rcases hno with h | h
      · rw [h, Bool.false_and, Bool.false_and]
      · rw [decide_eq_false (show ¬d.length ≤ 512 by omega), Bool.and_false]
    have hne : d.isEmpty = false := by simpa using hd
    rw [if_neg (by simp [hup hb]), if_neg (by simp [hb])]
    simp only [hne, Bool.not_false, hok, Bool.false_eq_true, if_false]
  · have h1 : 1 ≤ d.length := List.length_pos_iff.2 hd
    have hne : d.isEmpty = false := by simpa using hd
    rw [if_neg (by simp [hup hb]), if_neg (by simp [hb])]
    simp only [hne, Bool.not_false, hreach, decide_eq_true h1, decide_eq_true h2, Bool.and_self, Bool.false_eq_true, if_true, if_false]

theorem State.bar2Read_cases (s : State) (a n : Nat) :
    (s.poisoned (bar2Addr a) n = false → s.bar2Read a n = s.emit (.barData 1 (s.load (bar2Addr a) n))) ∧
    (s.poisoned (bar2Addr a) n = true → s.bar2Read a n = ((s.emit (.barPoison 1 (s.load (bar2Addr a) n))).bump F.EP_CNT_POISON_OUT).setEvt F.EP_EVT_POISON_OUT) := by
  unfold State.bar2Read
  exact ⟨fun h => if_neg (by simp [h]), fun h => if_pos h⟩

/-- Settles O49: the access by region, the look-up, the fill, the bytes of a store, the write-back, and the host's window. -/
theorem mapCache : Obligations.MapCache := by
  unfold Obligations.MapCache
  intro s u who kind a n cls m o ln h k st d x strm hr
  obtain ⟨hdown, hclosed, hopen⟩ := exec_pf1Bar2Access_cases s a n d hr
  refine ⟨fun kd len hkd hlen => exec_cacheFill_cases s who kind a n cls m o kd len st d x hr hkd hlen, fun hok => ?_, fun hno => ?_, ⟨rfl, rfl⟩,
    fun hu => s.lookupLine_cases u m ln cls strm hu, fun w hw => ⟨s.victimWay_mem _ _ _ _ hw, s.fillLine_shows m ln cls n w hw⟩, fun hp hw => s.victimWay_tree m n cls hp hw,
    fun hp he => s.victimWay_empty m n cls hp he, fun hd => ⟨_, rfl, fun i hi => ?_, fun y hy => ?_⟩, fun hu => ?_, fun hu => ?_, fun c hc => ?_, fun hno => ?_,
    hdown, hclosed, hopen, s.bar2Read_cases a n⟩
  · rw [exec_coreUnmappedAccess_on s who kind a n cls hr, if_pos hok]
  · rw [exec_coreUnmappedAccess_on s who kind a n cls hr, if_neg (by simp [hno])]
  · rw [State.memByte_perform s who kind a n _ hd, if_pos (by omega), Nat.add_sub_cancel_left]
  · rw [State.memByte_perform s who kind a n _ hd, if_neg (by omega)]
  · obtain ⟨hbad, hgood⟩ := u.deliverRead_cases who kind a n h k
    subst hu
    exact ⟨hbad, hgood⟩
  · rw [hu, exec_writebackComplete_on s m ln hr]
  · obtain ⟨hline, hrest, hclean⟩ := s.writtenBack_shows m ln c hc
    refine ⟨_, rfl, hline, hrest, fun hno v hv hd => ?_⟩
    have := hclean hno v hv
    simp [dirtyAt, hd] at this
  · have hnone : ∀ l : List CLine, (∀ c ∈ l, c ∈ s.ms.victims ++ s.ms.lines) → l.find? (dirtyAt m ln) = none := fun l hl =>
      List.find?_eq_none.2 (fun c hc hd => hno c (hl c hc) (by simpa [dirtyAt, and_assoc] using hd))
    exact s.writtenBack_none m ln (hnone _ (fun c hc => List.mem_append_left _ hc)) (hnone _ (fun c hc => List.mem_append_right _ hc))

end Sys2Proof.Machine
end

section
/-! SUPPORT. What stopping the package touches (R30, R190, R437): ports, engines, a flash operation and the sampler, and of the package window only what shows them. -/

namespace Sys2Proof.Machine

/-- `t` is `s` but for the registers, the interrupts pending, and the parts that show ports, engines, a flash operation and the sampler. -/
def State.onlyStops (s t : State) : Prop :=
  t = { s with regs := t.regs, eip := t.eip, pair := t.pair, bob := t.bob, flash := t.flash, fop := t.fop, free := t.free, eng := t.eng,
               ep := t.ep, mram := t.mram, tv := t.tv }

theorem State.onlyStops_refl (s : State) : s.onlyStops s := rfl

theorem State.onlyStops.trans {s t u : State} (h : s.onlyStops t) (g : t.onlyStops u) : s.onlyStops u := by
  unfold State.onlyStops at *
  rw [g, h]

/-- What looks at none of them is the same in both states. -/
theorem State.onlyStops.same {s t : State} (h : s.onlyStops t) {α : Type} (p : State → α)
    (hp : ∀ u a b e f g i j k l m n, p { u with regs := a, eip := b, pair := e, bob := f, flash := g, fop := i, free := j, eng := k, ep := l, mram := m, tv := n } = p u) :
    p t = p s := by
  rw [h]
  exact hp s _ _ _ _ _ _ _ _ _ _ _

/-- Registers of the package window that show what a stop ends. -/
def stopRegs : List Nat :=
  [Reg.BRD_EVT.addr 0 0, Reg.FWU_CMD.addr 0 0, Reg.FWU_ST.addr 0 0, Reg.FWU_COMMIT.addr 0 0, Reg.MSR_ST.addr 0 0, Reg.SMP_ST.addr 0 0, Reg.SMP_CNT.addr 0 0] ++
    (List.range 8).map (fun g => Reg.BRD_GRP.addr 0 g)

/-- Fields of BRD_ST that show the bride link. -/
def brideFlds : List (Fld Reg) := [F.BRD_ST_GROUPS_UP, F.BRD_ST_LANES_UP, F.BRD_ST_LINK_UP, F.BRD_ST_STATE]

/-- A field of the package window that shows nothing of what a stop ends. -/
def offStop (g : Fld Reg) : Bool :=
  decide (g.reg.addr 0 0 < 0x1000000) && !stopRegs.contains (g.reg.addr 0 0) &&
    brideFlds.all (fun f => decide (f.reg.addr 0 0 ≠ g.reg.addr 0 0) ||
      decide (f.reg = g.reg ∧ f.lo ≤ f.hi ∧ f.hi < 64 ∧ g.hi < 64 ∧ g.lo ≤ g.hi ∧ (f.hi < g.lo ∨ g.hi < f.lo)))

theorem offStop_iff (g : Fld Reg) : offStop g = true ↔ g.reg.addr 0 0 < 0x1000000 ∧ g.reg.addr 0 0 ∉ stopRegs ∧ ∀ f ∈ brideFlds, f.reg.addr 0 0 ≠ g.reg.addr 0 0 ∨
    (f.reg = g.reg ∧ f.lo ≤ f.hi ∧ f.hi < 64 ∧ g.hi < 64 ∧ g.lo ≤ g.hi ∧ (f.hi < g.lo ∨ g.hi < f.lo)) := by
  unfold offStop
  simp only [Bool.and_eq_true, Bool.or_eq_true, decide_eq_true_eq, List.all_eq_true, Bool.not_eq_true', List.contains_eq_mem, decide_eq_false_iff_not, and_assoc]

/-- A stop of some part: its frame, and the fields of the package window that stay. -/
def State.stops (s t : State) : Prop := s.onlyStops t ∧ ∀ g, offStop g = true → t.fld g = s.fld g

theorem State.stops_refl (s : State) : s.stops s := ⟨rfl, fun _ _ => rfl⟩

/-- A part other than the registers. -/
theorem State.stops_of_regs {s t : State} (h : s.onlyStops t) (hr : t.regs = s.regs) : s.stops t :=
  ⟨h, fun g _ => by unfold State.fld; rw [State.reg_congr hr]⟩

section
variable {s t u : State} (h : s.stops t)
include h

theorem State.stops.trans (g : t.stops u) : s.stops u := ⟨h.1.trans g.1, fun f hf => (g.2 f hf).trans (h.2 f hf)⟩

theorem State.stops.setFld_motif {f : Fld Reg} {x m i : Nat} (hf : f.reg.spec.pkg = false) : s.stops (t.setFld f x m i) :=
  h.trans ⟨rfl, fun g hg => State.fld_setFld_motif _ _ _ _ _ _ _ _ hf ((offStop_iff g).1 hg).1⟩

theorem State.stops.setFld_stop {f : Fld Reg} {x m i : Nat} (hf : f.reg.addr m i ∈ stopRegs) : s.stops (t.setFld f x m i) :=
  h.trans ⟨rfl, fun g hg => State.fld_setFld_reg _ _ _ _ _ _ _ _ (fun he => ((offStop_iff g).1 hg).2.1 (he ▸ hf))⟩

theorem State.stops.setFld_bride {f : Fld Reg} {x : Nat} (hf : f ∈ brideFlds) : s.stops (t.setFld f x) :=
  h.trans ⟨rfl, fun g hg => (((offStop_iff g).1 hg).2.2 f hf).elim (State.fld_setFld_reg _ _ _ _ _ _ _ _) (State.fld_setFld_field _ _ _ _ _ _)⟩

theorem State.stops.raiseIrq {m k l n : Nat} : s.stops (t.raiseIrq m k l n) := by
  refine h.trans (State.stops_of_regs ?_ ?_) <;> unfold State.raiseIrq <;> split <;> rfl

theorem State.stops.setEvt_motif {f : Fld Reg} {m : Nat} (hf : f.reg.spec.pkg = false) : s.stops (t.setEvt f m) := by
  unfold State.setEvt
  split
  · exact h
  · exact (h.setFld_motif hf).raiseIrq

theorem State.stops.setEvt_stop {f : Fld Reg} {m : Nat} (hf : f.reg.addr m 0 ∈ stopRegs) : s.stops (t.setEvt f m) := by
  unfold State.setEvt
  split
  · exact h
  · exact (h.setFld_stop hf).raiseIrq

theorem State.stops.sample {ty : Nat} {p : Bytes} : s.stops (t.sample ty p) := by
  refine h.trans ⟨?_, fun g hg => ?_⟩
  · have ho := State.onlySamples_sample t ty p
    unfold State.onlySamples at ho
    unfold State.onlyStops
    rw [ho]
  · obtain ⟨hw, hn, -⟩ := (offStop_iff g).1 hg
    have hst : Reg.SMP_ST.addr 0 0 ∈ stopRegs := by decide
    have hcnt : Reg.SMP_CNT.addr 0 0 ∈ stopRegs := by decide
    exact State.fld_sample _ _ _ _ _ _ (fun he => hn (he ▸ hst)) (fun he => hn (he ▸ hcnt)) hw

end

theorem State.stops.each {α : Type} {s t : State} (h : s.stops t) {l : List α} {f : State → α → State} (hf : ∀ u : State, ∀ a ∈ l, u.stops (f u a)) : s.stops (t.each l f) :=
  State.each_holds (fun u => s.stops u) t l f h (fun u a ha hu => hu.trans (hf u a ha))

end Sys2Proof.Machine
end

section
/-! SUPPORT. The stops of R30 and R437, one by one. -/

namespace Sys2Proof.Machine

theorem State.stops_hostLinkDown (s : State) : s.stops s.hostLinkDown := by
  have h : s.stops ((((s.setFld F.EP_ST_SPEED 0).setFld F.EP_ST_WIDTH 0).setFld F.EP_ST_FLIT 0).setFld F.EP_ST_UP 0) :=
    (((s.stops_refl.setFld_motif rfl).setFld_motif rfl).setFld_motif rfl).setFld_motif rfl
  unfold State.hostLinkDown
  dsimp only
  split
  · exact h.setEvt_motif rfl
  · exact h

theorem State.stops_serdesOff (s : State) : s.stops s.serdesOff := by
  have hgrp : ∀ g ∈ List.range 8, Reg.BRD_GRP.addr 0 g ∈ stopRegs := by decide
  have hnet : ∀ (t : State) (l : List Nat),
      t.stops (t.each l (fun s m => s.each (List.range 8) (fun s i => (s.setFld F.NET_SUB_ST_UP 0 m i).setFld F.NET_SUB_ST_SPEED 0 m i))) := fun t l =>
    t.stops_refl.each (fun u m _ => u.stops_refl.each (fun v i _ => (v.stops_refl.setFld_motif (by rfl)).setFld_motif (by rfl)))
  have hbrd : ∀ t : State, t.stops (t.each (List.range 8) (fun s g => (s.setFld F.BRD_GRP_LANES 0 0 g).setFld F.BRD_GRP_UP 0 0 g)) := fun t =>
    t.stops_refl.each (fun u g hg => (u.stops_refl.setFld_stop (hgrp g hg)).setFld_stop (hgrp g hg))
  have hpair : ∀ (t : State) (f : PairSt → PairSt), t.stops (t.modPair f) := fun t f => State.stops_of_regs rfl rfl
  have hst : ∀ t : State, t.stops ((((t.setFld F.BRD_ST_GROUPS_UP 0).setFld F.BRD_ST_LANES_UP 0).setFld F.BRD_ST_LINK_UP 0).setFld F.BRD_ST_STATE 0) := fun t =>
    (((t.stops_refl.setFld_bride (by decide)).setFld_bride (by decide)).setFld_bride (by decide)).setFld_bride (by decide)
  unfold State.serdesOff
  dsimp only
  split
  · exact ((((s.stops_hostLinkDown.trans (hnet ..)).trans (hpair ..)).trans (hbrd _)).trans (hst _)).setEvt_stop (by decide)
  · exact (((s.stops_hostLinkDown.trans (hnet ..)).trans (hpair ..)).trans (hbrd _)).trans (hst _)

theorem State.stops_rootPortsOff (s : State) : s.stops s.rootPortsOff := by
  have hbob : ∀ (t : State) (f : BobSt → BobSt), t.stops (t.modBob f) := fun t f => State.stops_of_regs rfl rfl
  unfold State.rootPortsOff
  exact (s.stops_refl.each (fun u m _ => u.stops_refl.each (fun v i _ => v.stops_refl.setFld_motif (by rfl)))).trans (hbob ..)

theorem State.stops_abandonFlashOp (s : State) : s.stops s.abandonFlashOp := by
  unfold State.abandonFlashOp
  split
  · exact s.stops_refl
  · rename_i o _
    have hop : s.stops { s with flash := o.partial s.freeVal s.flash, free := s.free + 1, fop := none } := State.stops_of_regs rfl rfl
    exact ((((hop.setFld_stop (by decide)).setFld_stop (by decide)).setFld_stop (by decide)).setFld_stop (by decide)).setFld_stop (by decide)

/-- The engines idle: past their contexts only registers that show them change (R190). -/
theorem State.onlyRegs_idleEngines (s : State) : (s.modEng (fun e => { EngSt.reset with seq := e.seq })).onlyRegs s.idleEngines := by
  have hcip : ∀ (t : State) (m : Nat), t.onlyRegs (if t.fuses.caps.optE then t.setFld F.CIP_ST_WAITING 0 m else t) := fun t m => by
    split
    · exact t.onlyRegs_refl.setFld
    · exact t.onlyRegs_refl
  have hcmp : ∀ (t : State) (m : Nat),
      t.onlyRegs (if t.fuses.caps.optC then ((t.setFld F.CMP_ST_WAITING 0 m).setFld F.CMP_ST_BUSY0 0 m).setFld F.CMP_ST_BUSY1 0 m else t) := fun t m => by
    split
    · exact t.onlyRegs_refl.setFld.setFld.setFld
    · exact t.onlyRegs_refl
  have hdig : ∀ (t : State) (m : Nat), t.onlyRegs ((((((t.setFld F.MTF_DCMP_ST_WAITING 0 m).setFld F.MTF_DCMP_ST_BUSY0 0 m).setFld F.MTF_DCMP_ST_BUSY1 0 m).setFld
      F.DIG_CTX_ST_WAITING 0 m).setFld F.DIG_CTX_ST_TAP 0 m).setFld F.DIG_CTX_ST_BOUND 0 m) := fun t m => t.onlyRegs_refl.setFld.setFld.setFld.setFld.setFld.setFld
  unfold State.idleEngines
  dsimp only
  generalize s.modEng (fun e => { EngSt.reset with seq := e.seq }) = u
  have hall := State.each_holds (fun t => u.onlyRegs t) u u.motifs _ u.onlyRegs_refl (fun t m _ h => h.trans (((hcip t m).trans (hcmp _ m)).trans (hdig _ m)))
  exact hall.setFld.setFld.setFld

theorem State.stops_idleEngines (s : State) : s.stops s.idleEngines := by
  have heng : ∀ (t : State) (f : EngSt → EngSt), t.stops (t.modEng f) := fun t f => State.stops_of_regs rfl rfl
  have hcip : ∀ (t : State) (m : Nat), t.stops (if t.fuses.caps.optE then t.setFld F.CIP_ST_WAITING 0 m else t) := fun t m => by
    split
    · exact t.stops_refl.setFld_motif rfl
    · exact t.stops_refl
  have hcmp : ∀ (t : State) (m : Nat),
      t.stops (if t.fuses.caps.optC then ((t.setFld F.CMP_ST_WAITING 0 m).setFld F.CMP_ST_BUSY0 0 m).setFld F.CMP_ST_BUSY1 0 m else t) := fun t m => by
    split
    · exact ((t.stops_refl.setFld_motif rfl).setFld_motif rfl).setFld_motif rfl
    · exact t.stops_refl
  have hdig : ∀ (t : State) (m : Nat), t.stops ((((((t.setFld F.MTF_DCMP_ST_WAITING 0 m).setFld F.MTF_DCMP_ST_BUSY0 0 m).setFld F.MTF_DCMP_ST_BUSY1 0 m).setFld
      F.DIG_CTX_ST_WAITING 0 m).setFld F.DIG_CTX_ST_TAP 0 m).setFld F.DIG_CTX_ST_BOUND 0 m) := fun t m =>
    (((((t.stops_refl.setFld_motif rfl).setFld_motif rfl).setFld_motif rfl).setFld_motif rfl).setFld_motif rfl).setFld_motif rfl
  unfold State.idleEngines
  dsimp only
  exact ((((heng s _).each (fun t m _ => ((hcip t m).trans (hcmp _ m)).trans (hdig _ m))).setFld_stop (by decide)).setFld_stop (by decide)).setFld_stop (by decide)

/-- What memory, the media, the writes held and the power sequence are. -/
def State.lasting (s : State) : Sparse Byte × MediaSt × DataSt × PowerSt := (s.mem, s.med, s.dp, s.power)

theorem State.stops.lasting {s t : State} (h : s.stops t) : t.lasting = s.lasting := h.1.same State.lasting (fun _ _ _ _ _ _ _ _ _ _ _ _ => rfl)

theorem State.stops.txOff {s t : State} (h : s.stops t) : t.txOff = s.txOff := h.1.same (fun u => u.txOff) (fun _ _ _ _ _ _ _ _ _ _ _ _ => rfl)

theorem State.fld_aerLog (s : State) (pf kind bit : Nat) (a : Bool) (g : Fld Reg) (n j : Nat) : (s.aerLog pf kind bit a).fld g n j = s.fld g n j := by
  unfold State.aerLog
  rw [State.modEp_fld, State.emit_fld]

theorem State.lasting_aerLog (s : State) (pf kind bit : Nat) (a : Bool) : (s.aerLog pf kind bit a).lasting = s.lasting := by
  unfold State.aerLog State.emit
  split <;> rfl

/-- Head-alive low (R120). -/
theorem State.halive_driveHalive_false (s : State) : (s.driveHalive false).flag F.BRD_ST_HALIVE_OUT = false := by
  unfold State.driveHalive
  split
  · assumption
  · exact State.flag_setFld_zero s F.BRD_ST_HALIVE_OUT 0 0 (by decide)

theorem State.fld_driveHalive (s : State) (b : Bool) (g : Fld Reg) (n j : Nat) (h : Reg.BRD_ST.addr 0 0 ≠ g.reg.addr n j) : (s.driveHalive b).fld g n j = s.fld g n j := by
  unfold State.driveHalive
  split
  · rfl
  · rw [State.out_fld]
    exact State.fld_setFld_reg _ _ _ _ _ _ _ _ h

theorem State.lasting_driveHalive (s : State) (b : Bool) : (s.driveHalive b).lasting = s.lasting := by
  unfold State.driveHalive
  split <;> rfl

theorem State.txOff_driveHalive (s : State) (b : Bool) : (s.driveHalive b).txOff = s.txOff := by
  unfold State.driveHalive
  split <;> rfl

end Sys2Proof.Machine
end

section
/-! SUPPORT. The fail-stop (R30, R106). -/

namespace Sys2Proof.Machine

theorem State.fld_lt (s : State) (g : Fld Reg) (m i : Nat) : s.fld g m i < 2 ^ (g.hi + 1 - g.lo) := bits_lt ..

/-- A mode entered: PREV, MODE and MODE_AT (R99). -/
theorem State.enterMode_shows (s : State) (m : Nat) (hm : m < 8) :
    (s.enterMode m).mode = m ∧ (s.enterMode m).fld F.PKG_MODE_PREV = s.mode ∧ (s.enterMode m).fld F.PKG_MODE_AT_STITCH = s.num := by
  have hmode : s.mode < 2 ^ (6 + 1 - 4) := s.fld_lt F.PKG_MODE_MODE 0 0
  have hnum : s.num < 2 ^ (63 + 1 - 0) := s.fld_lt F.STC_NUM_NUM 0 0
  have h : ∀ t : State, ∀ g : Fld Reg, g.reg = .PKG_MODE ∨ g.reg = .PKG_MODE_AT →
      (if s.mode = 0 ∧ m ≠ 0 ∧ t.fld F.PRK_ST_STATE = 2 then t.setFld F.PRK_ST_STATE 3 else t).fld g = t.fld g := fun t g hg => by
    split
    · refine State.fld_setFld_reg _ _ _ _ _ _ _ _ ?_
      rcases hg with hg | hg <;> rw [hg] <;> decide
    · rfl
  unfold State.enterMode
  refine ⟨?_, ?_, ?_⟩
  · refine (h _ F.PKG_MODE_MODE (Or.inl rfl)).trans ?_
    rw [State.fld_tvWrote _ _ _ _ _ _ (by decide), State.fld_setFld_reg _ _ _ _ _ _ _ _ (by decide), State.fld_setFld_same _ _ _ _ _ (by decide)]
    exact Nat.mod_eq_of_lt hm
  · refine (h _ F.PKG_MODE_PREV (Or.inl rfl)).trans ?_
    rw [State.fld_tvWrote _ _ _ _ _ _ (by decide), State.fld_setFld_reg _ _ _ _ _ _ _ _ (by decide), State.fld_setFld_field _ _ F.PKG_MODE_PREV _ _ _ (by decide),
      State.fld_setFld_same _ _ _ _ _ (by decide)]
    exact Nat.mod_eq_of_lt hmode
  · refine (h _ F.PKG_MODE_AT_STITCH (Or.inr rfl)).trans ?_
    rw [State.fld_tvWrote _ _ _ _ _ _ (by decide), State.fld_setFld_same _ _ _ _ _ (by decide)]
    exact Nat.mod_eq_of_lt hnum

/-- A field of the package window that a mode entered leaves alone. -/
def offMode (g : Fld Reg) : Bool :=
  decide (g.reg.addr 0 0 < 0x1000000) && decide (Reg.PKG_MODE_AT.addr 0 0 ≠ g.reg.addr 0 0) && decide (Reg.PRK_ST.addr 0 0 ≠ g.reg.addr 0 0) &&
    [F.PKG_MODE_PREV, F.PKG_MODE_MODE].all (fun f => decide (f.reg.addr 0 0 ≠ g.reg.addr 0 0) ||
      decide (f.reg = g.reg ∧ f.lo ≤ f.hi ∧ f.hi < 64 ∧ g.hi < 64 ∧ g.lo ≤ g.hi ∧ (f.hi < g.lo ∨ g.hi < f.lo)))

theorem State.fld_enterMode (s : State) (m : Nat) (g : Fld Reg) (h : offMode g = true) : (s.enterMode m).fld g = s.fld g := by
  unfold offMode at h
  simp only [Bool.and_eq_true, Bool.or_eq_true, decide_eq_true_eq, List.all_eq_true, List.mem_cons, List.not_mem_nil, or_false, forall_eq_or_imp, forall_eq] at h
  obtain ⟨⟨⟨hw, hat⟩, hprk⟩, hprev, hmode⟩ := h
  have hset : ∀ (t : State) (f : Fld Reg) (x : Nat), (f.reg.addr 0 0 ≠ g.reg.addr 0 0 ∨
      (f.reg = g.reg ∧ f.lo ≤ f.hi ∧ f.hi < 64 ∧ g.hi < 64 ∧ g.lo ≤ g.hi ∧ (f.hi < g.lo ∨ g.hi < f.lo))) → (t.setFld f x).fld g = t.fld g := fun t f x hf =>
    hf.elim (State.fld_setFld_reg _ _ _ _ _ _ _ _) (State.fld_setFld_field _ _ _ _ _ _)
  unfold State.enterMode
  dsimp only
  split
  · rw [State.fld_setFld_reg _ _ _ _ _ _ _ _ hprk, State.fld_tvWrote _ _ _ _ _ _ hw, State.fld_setFld_reg _ _ _ _ _ _ _ _ hat, hset _ F.PKG_MODE_MODE _ hmode, hset _ F.PKG_MODE_PREV _ hprev]
  · rw [State.fld_tvWrote _ _ _ _ _ _ hw, State.fld_setFld_reg _ _ _ _ _ _ _ _ hat, hset _ F.PKG_MODE_MODE _ hmode, hset _ F.PKG_MODE_PREV _ hprev]

theorem State.onlySamples_enterMode (s : State) (m : Nat) : s.onlySamples (s.enterMode m) := by
  unfold State.enterMode
  dsimp only
  split
  · exact s.onlySamples_refl.setFld.setFld.setFld.tvWrote.setFld
  · exact s.onlySamples_refl.setFld.setFld.setFld.tvWrote

/-- A fail-stop up to the sampler's records (R30). -/
def State.halted (s : State) : State :=
  (if s.flag F.EP_ST_UP then s.aerLog 0 3 22 false else s).stopTransmission.serdesOff.rootPortsOff.abandonFlashOp.idleEngines

/-- The sampler's records of a fail-stop (R106, R462). -/
def State.reported (s : State) (codes : List Nat) : State :=
  (if s.mode = 4 ∧ ¬ s.hu.dumpDone then s.sampleVault 2 else s).sample 0x000F (bytesOf [codes.length, 0] ++ codes.flatMap (leBytes 2))

theorem State.failStop_eq (s : State) (code : Nat) (h : s.mode ≠ 5) :
    s.failStop code = ((((s.halted.reported [code]).setFld F.PKG_MODE_ADMIT 0).setFld F.PKG_RST_CAUSE_TIED_CAUSE code).enterMode 5) := by
  unfold State.failStop State.failStopWith
  rw [if_neg h]
  rfl

theorem State.fop_abandonFlashOp (s : State) : s.abandonFlashOp.fop = none := by
  unfold State.abandonFlashOp
  split
  · assumption
  · rw [State.setFld_fop, State.setFld_fop, State.setFld_fop, State.setFld_fop, State.setFld_fop]

theorem State.stops_reported (s : State) (codes : List Nat) : s.stops (s.reported codes) := by
  unfold State.reported State.sampleVault
  split
  · exact s.stops_refl.sample.sample
  · exact s.stops_refl.sample

/-- The state in which transmission has stopped, before anything else does. -/
def State.silenced (s : State) : State := (if s.flag F.EP_ST_UP then s.aerLog 0 3 22 false else s).stopTransmission

theorem State.silenced_shows (s : State) : s.silenced.flag F.BRD_ST_HALIVE_OUT = false ∧ s.silenced.txOff = true ∧ s.silenced.lasting = s.lasting ∧
    ∀ g : Fld Reg, Reg.BRD_ST.addr 0 0 ≠ g.reg.addr 0 0 → s.silenced.fld g = s.fld g := by
  have haer : ∀ (g : Fld Reg), (if s.flag F.EP_ST_UP then s.aerLog 0 3 22 false else s).fld g = s.fld g := fun g => by
    split
    · exact State.fld_aerLog ..
    · rfl
  have hlast : (if s.flag F.EP_ST_UP then s.aerLog 0 3 22 false else s).lasting = s.lasting := by
    split
    · exact State.lasting_aerLog ..
    · rfl
  unfold State.silenced State.stopTransmission
  generalize (if s.flag F.EP_ST_UP then s.aerLog 0 3 22 false else s) = u at haer hlast
  refine ⟨State.halive_driveHalive_false _, (State.txOff_driveHalive ..).trans rfl, (State.lasting_driveHalive ..).trans hlast, fun g hg => ?_⟩
  exact (State.fld_driveHalive _ _ _ _ _ hg).trans (haer g)

theorem State.halted_shows (s : State) : s.silenced.stops s.halted ∧ s.halted.fop = none := by
  refine ⟨?_, ?_⟩
  · exact (((State.stops_serdesOff _).trans (State.stops_rootPortsOff _)).trans (State.stops_abandonFlashOp _)).trans (State.stops_idleEngines _)
  · exact ((State.onlyRegs_idleEngines _).same (fun t => t.fop) (fun _ _ => rfl)).trans (State.fop_abandonFlashOp _)

/-- A fail-stop enters mode 5: transmission is off, head-alive low, admission closed, the cause kept; memory, media and data path stay (R30, R106). -/
theorem State.failStop_shows (s : State) (code : Nat) (h : s.mode ≠ 5) (hc : code < 2 ^ 16) (t : State) (ht : t = s.failStop code) :
    t.mode = 5 ∧ t.fld F.PKG_MODE_PREV = s.mode ∧ t.fld F.PKG_MODE_AT_STITCH = s.num ∧ t.fld F.PKG_MODE_ADMIT = 0 ∧ t.fld F.PKG_RST_CAUSE_TIED_CAUSE = code ∧
    t.flag F.BRD_ST_HALIVE_OUT = false ∧ t.txOff = true ∧ t.fop = none ∧ t.mem = s.mem ∧ t.med = s.med ∧ t.dp = s.dp ∧ t.power = s.power := by
  obtain ⟨hal, htx, hlast, hfld⟩ := s.silenced_shows
  obtain ⟨hstops, hfop⟩ := s.halted_shows
  have hrep : s.silenced.stops (s.halted.reported [code]) := hstops.trans (State.stops_reported ..)
  have hrepfop : (s.halted.reported [code]).fop = none := by
    rw [← hfop]
    unfold State.reported State.sampleVault
    split
    · exact ((State.onlySamples_sample ..).trans (State.onlySamples_sample ..)).same (fun t => t.fop) (fun _ _ _ _ => rfl)
    · exact (State.onlySamples_sample ..).same (fun t => t.fop) (fun _ _ _ _ => rfl)
  rw [s.failStop_eq code h] at ht
  generalize s.halted.reported [code] = u at hrep hrepfop ht
  have hkeep : ∀ g : Fld Reg, offStop g = true → Reg.BRD_ST.addr 0 0 ≠ g.reg.addr 0 0 → u.fld g = s.fld g := fun g hg hb => (hrep.2 g hg).trans (hfld g hb)
  generalize hv : (u.setFld F.PKG_MODE_ADMIT 0).setFld F.PKG_RST_CAUSE_TIED_CAUSE code = v at ht
  have hvu : u.onlyRegs v := by
    rw [← hv]
    exact u.onlyRegs_refl.setFld.setFld
  obtain ⟨hm, hprev, hat⟩ := v.enterMode_shows 5 (by decide)
  have hsame := v.onlySamples_enterMode 5
  rw [← ht] at hm hprev hat hsame
  have hlasting : t.lasting = s.lasting :=
    (hsame.same State.lasting (fun _ _ _ _ => rfl)).trans ((hvu.same State.lasting (fun _ _ => rfl)).trans (hrep.lasting.trans hlast))
  have htfld : ∀ g : Fld Reg, offMode g = true → t.fld g = v.fld g := fun g hg => by
    rw [ht]
    exact State.fld_enterMode _ _ _ hg
  refine ⟨hm, hprev.trans ?_, hat.trans ?_, (htfld F.PKG_MODE_ADMIT rfl).trans ?_, (htfld F.PKG_RST_CAUSE_TIED_CAUSE rfl).trans ?_, (State.flag_congr (htfld F.BRD_ST_HALIVE_OUT rfl)).trans ?_,
    ?_, ?_, congrArg Prod.fst hlasting, congrArg (fun x => x.2.1) hlasting, congrArg (fun x => x.2.2.1) hlasting, congrArg (fun x => x.2.2.2) hlasting⟩
  · rw [← hv]
    unfold State.mode
    rw [State.fld_setFld_reg _ _ _ _ _ _ _ _ (by decide), State.fld_setFld_field _ _ F.PKG_MODE_MODE _ _ _ (by decide)]
    exact hkeep F.PKG_MODE_MODE rfl (by decide)
  · rw [← hv]
    unfold State.num
    rw [State.fld_setFld_reg _ _ _ _ _ _ _ _ (by decide), State.fld_setFld_reg _ _ _ _ _ _ _ _ (by decide)]
    exact hkeep F.STC_NUM_NUM rfl (by decide)
  · rw [← hv, State.fld_setFld_reg _ _ _ _ _ _ _ _ (by decide), State.fld_setFld_same _ _ _ _ _ (by decide)]
    rfl
  · rw [← hv, State.fld_setFld_same _ _ _ _ _ (by decide)]
    exact Nat.mod_eq_of_lt hc
  · rw [← hv, State.flag_congr (State.fld_setFld_reg _ _ _ _ _ _ _ _ (by decide)), State.flag_congr (State.fld_setFld_reg _ _ _ _ _ _ _ _ (by decide)),
      State.flag_congr (hrep.2 F.BRD_ST_HALIVE_OUT rfl)]
    exact hal
  · exact (hsame.same (fun t => t.txOff) (fun _ _ _ _ => rfl)).trans ((hvu.same (fun t => t.txOff) (fun _ _ => rfl)).trans (hrep.txOff.trans htx))
  · exact (hsame.same (fun t => t.fop) (fun _ _ _ _ => rfl)).trans ((hvu.same (fun t => t.fop) (fun _ _ => rfl)).trans hrepfop)

end Sys2Proof.Machine
end

section
/-! SUPPORT. Faults that stop the package (R25, R29, R430). -/

namespace Sys2Proof.Machine

/-- A field of the package window that a fail-stop leaves alone. -/
def offFail (g : Fld Reg) : Bool :=
  offStop g && offMode g && decide (Reg.BRD_ST.addr 0 0 ≠ g.reg.addr 0 0) && decide (Reg.PKG_MODE.addr 0 0 ≠ g.reg.addr 0 0) && decide (Reg.PKG_RST_CAUSE.addr 0 0 ≠ g.reg.addr 0 0)

theorem State.fld_failStop (s : State) (code : Nat) (g : Fld Reg) (hg : offFail g = true) : (s.failStop code).fld g = s.fld g := by
  unfold offFail at hg
  simp only [Bool.and_eq_true, decide_eq_true_eq] at hg
  obtain ⟨⟨⟨⟨hstop, hmode⟩, hbrd⟩, hpm⟩, hrst⟩ := hg
  by_cases h : s.mode = 5
  · unfold State.failStop State.failStopWith
    rw [if_pos h]
  · rw [s.failStop_eq code h, State.fld_enterMode _ _ _ hmode, State.fld_setFld_reg _ _ _ _ _ _ _ _ hrst, State.fld_setFld_reg _ _ _ _ _ _ _ _ hpm,
      ((s.halted_shows.1.trans (State.stops_reported ..)).2 g hstop), s.silenced_shows.2.2.2 g hbrd]

theorem State.failStop_tied (s : State) (code : Nat) (h : s.mode = 5) : s.failStop code = s := by
  unfold State.failStop State.failStopWith
  rw [if_pos h]

/-- A fault of a regulator is a fail-stop with its number, a warning an event (R430). -/
theorem State.judgeRegulator_cases (s : State) (r : Nat) (fault warn : Bool) (hr : r < 32) :
    (fault = true → s.judgeRegulator r fault warn = (s.setFld F.PWR_ST_FAULT_REG r).failStop 0x7206 ∧ (s.judgeRegulator r fault warn).fld F.PWR_ST_FAULT_REG = r) ∧
    (fault = false → s.judgeRegulator r fault warn = (if warn then s.setEvt F.PWR_EVT_REG_WARN else s)) := by
  unfold State.judgeRegulator
  refine ⟨fun h => ?_, fun h => ?_⟩
  · rw [if_pos h]
    refine ⟨rfl, ?_⟩
    rw [State.fld_failStop _ _ _ (by decide), State.fld_setFld_same _ _ _ _ _ (by decide)]
    exact Nat.mod_eq_of_lt (Nat.lt_trans hr (by decide))
  · rw [if_neg (by simp [h])]

theorem State.mode_setFld_faultReg (s : State) (r : Nat) : (s.setFld F.PWR_ST_FAULT_REG r).mode = s.mode := State.fld_setFld_reg _ _ _ _ _ _ _ _ (by decide)

/-- A fault of a regulator leaves the head Tied-off; in Tied-off nothing that a regulator says changes the mode or the cause. -/
theorem State.judgeRegulator_fault (s : State) (r : Nat) (warn : Bool) (h : s.mode ≠ 5) :
    (s.judgeRegulator r true warn).mode = 5 ∧ (s.judgeRegulator r true warn).fld F.PKG_RST_CAUSE_TIED_CAUSE = 0x7206 := by
  obtain ⟨hm, -, -, -, hc, -⟩ := State.failStop_shows (s.setFld F.PWR_ST_FAULT_REG r) 0x7206 (by rw [State.mode_setFld_faultReg]; exact h) (by decide) _ rfl
  unfold State.judgeRegulator
  rw [if_pos rfl]
  exact ⟨hm, hc⟩

theorem State.fld_setEvt_regWarn (s : State) (g : Fld Reg) (h : Reg.PWR_EVT.addr 0 0 ≠ g.reg.addr 0 0) : (s.setEvt F.PWR_EVT_REG_WARN).fld g = s.fld g := by
  unfold State.setEvt
  split
  · rfl
  · rw [State.raiseIrq_fld]
    exact State.fld_setFld_reg _ _ _ _ _ _ _ _ h

/-- In Tied-off the mode and the cause stay, whatever a regulator says. -/
theorem State.judgeRegulator_tied (s : State) (r : Nat) (fault warn : Bool) (h : s.mode = 5) :
    (s.judgeRegulator r fault warn).mode = 5 ∧ (s.judgeRegulator r fault warn).fld F.PKG_RST_CAUSE_TIED_CAUSE = s.fld F.PKG_RST_CAUSE_TIED_CAUSE := by
  unfold State.judgeRegulator
  split
  · rw [State.failStop_tied _ _ ((State.mode_setFld_faultReg ..).trans h)]
    exact ⟨(State.mode_setFld_faultReg ..).trans h, State.fld_setFld_reg _ _ _ _ _ _ _ _ (by decide)⟩
  · split
    · exact ⟨(s.fld_setEvt_regWarn F.PKG_MODE_MODE (by decide)).trans h, s.fld_setEvt_regWarn _ (by decide)⟩
    · exact ⟨h, rfl⟩

/-- Without a fault the mode stays, and a warning shows and stays. -/
theorem State.judgeRegulator_sound (s : State) (r : Nat) (warn : Bool) :
    (s.judgeRegulator r false warn).mode = s.mode ∧
    ((warn = true ∨ s.flag F.PWR_EVT_REG_WARN = true) → (s.judgeRegulator r false warn).flag F.PWR_EVT_REG_WARN = true) := by
  have hj : s.judgeRegulator r false warn = if warn then s.setEvt F.PWR_EVT_REG_WARN else s := rfl
  rw [hj]
  split
  · exact ⟨s.fld_setEvt_regWarn F.PKG_MODE_MODE (by decide), fun _ => s.flag_setEvt_same F.PWR_EVT_REG_WARN 0 (by decide)⟩
  · rename_i hw
    exact ⟨rfl, fun h => h.resolve_left hw⟩

/-- The reports of a poll judged one after another. -/
def State.judged (s : State) (l : List (Nat × Bool × Bool)) : State := s.each l (fun s e => s.judgeRegulator e.1 e.2.1 e.2.2)

theorem State.judged_tied (s : State) (l : List (Nat × Bool × Bool)) (h : s.mode = 5) :
    (s.judged l).mode = 5 ∧ (s.judged l).fld F.PKG_RST_CAUSE_TIED_CAUSE = s.fld F.PKG_RST_CAUSE_TIED_CAUSE := by
  refine State.each_holds (fun t => t.mode = 5 ∧ t.fld F.PKG_RST_CAUSE_TIED_CAUSE = s.fld F.PKG_RST_CAUSE_TIED_CAUSE) s l _ ⟨h, rfl⟩ (fun t e _ ht => ?_)
  obtain ⟨hm, hc⟩ := t.judgeRegulator_tied e.1 e.2.1 e.2.2 ht.1
  exact ⟨hm, hc.trans ht.2⟩

/-- The first fault among the reports is the cause (R430). -/
theorem State.judged_fault (s : State) (l : List (Nat × Bool × Bool)) (h : s.mode ≠ 5) (hf : ∃ e ∈ l, e.2.1 = true) :
    (s.judged l).mode = 5 ∧ (s.judged l).fld F.PKG_RST_CAUSE_TIED_CAUSE = 0x7206 := by
  induction l generalizing s with
  | nil => simp at hf
  | cons e l ih =>
    obtain ⟨r, fault, warn⟩ := e
    show State.mode ((s.judgeRegulator r fault warn).judged l) = 5 ∧ State.fld ((s.judgeRegulator r fault warn).judged l) F.PKG_RST_CAUSE_TIED_CAUSE = 0x7206
    cases fault with
    | true =>
      obtain ⟨hm, hc⟩ := s.judgeRegulator_fault r warn h
      obtain ⟨hm', hc'⟩ := State.judged_tied _ l hm
      exact ⟨hm', hc'.trans hc⟩
    | false =>
      obtain ⟨x, hx, hxf⟩ := hf
      rcases List.mem_cons.1 hx with rfl | hx
      · exact absurd hxf Bool.false_ne_true
      · exact ih _ (by rw [(s.judgeRegulator_sound r warn).1]; exact h) ⟨x, hx, hxf⟩

/-- Without a fault among them the mode stays, and a warning shows (R430). -/
theorem State.judged_sound (s : State) (l : List (Nat × Bool × Bool)) (h : ∀ e ∈ l, e.2.1 = false) :
    (s.judged l).mode = s.mode ∧ ((s.flag F.PWR_EVT_REG_WARN = true ∨ ∃ e ∈ l, e.2.2 = true) → (s.judged l).flag F.PWR_EVT_REG_WARN = true) := by
  induction l generalizing s with
  | nil => exact ⟨rfl, fun hw => hw.elim id (fun ⟨_, hx, _⟩ => absurd hx List.not_mem_nil)⟩
  | cons e l ih =>
    obtain ⟨r, fault, warn⟩ := e
    obtain rfl : fault = false := h _ List.mem_cons_self
    obtain ⟨hm, hw⟩ := s.judgeRegulator_sound r warn
    obtain ⟨ihm, ihw⟩ := ih (s.judgeRegulator r false warn) (fun x hx => h x (List.mem_cons_of_mem _ hx))
    refine ⟨ihm.trans hm, fun hy => ihw ?_⟩
    rcases hy with hy | ⟨x, hx, hy⟩
    · exact Or.inl (hw (Or.inr hy))
    · rcases List.mem_cons.1 hx with rfl | hx
      · exact Or.inl (hw (Or.inl hy))
      · exact Or.inr ⟨x, hx, hy⟩

/-- What leaves the block entry by entry leaves it in one go. -/
theorem State.each_out {α : Type} (f : State → α → Out) (hf : ∀ (t : State) (o : Out) (a : α), f (t.out o) a = f t a) (s : State) (l : List α) :
    s.each l (fun s a => s.out (f s a)) = { s with outbox := s.outbox ++ l.map (f s) } := by
  induction l generalizing s with
  | nil =>
    rw [List.map_nil, List.append_nil]
    rfl
  | cons a l ih =>
    refine (ih (s.out (f s a))).trans ?_
    rw [List.map_cons, show f (s.out (f s a)) = f s from funext (hf s _), List.append_cons]
    rfl

/-- A poll asks every enabled entry, and judges what those among them report (R430). -/
theorem State.pollRegulators_eq (s : State) (l : List (Nat × Bool × Bool)) :
    s.pollRegulators l = State.judged { s with outbox := s.outbox ++ s.regulators.map (fun r => .pmbusRead (s.fld F.PWR_REG_ADDR 0 r) (s.fld F.PWR_REG_PAGE 0 r) pmbusStatusWord) }
      (l.filter (fun e => s.regulators.contains e.1)) := by
  unfold State.pollRegulators
  rw [State.each_out (fun s r => .pmbusRead (s.fld F.PWR_REG_ADDR 0 r) (s.fld F.PWR_REG_PAGE 0 r) pmbusStatusWord) (fun _ _ _ => rfl)]
  rfl

/-- What a poll shows: a fault of an enabled entry is a fail-stop, a warning alone sets REG_WARN (R430). -/
theorem State.pollRegulators_shows (s : State) (l : List (Nat × Bool × Bool)) :
    (s.mode ≠ 5 → (∃ e ∈ l, e.1 ∈ s.regulators ∧ e.2.1 = true) → (s.pollRegulators l).mode = 5 ∧ (s.pollRegulators l).fld F.PKG_RST_CAUSE_TIED_CAUSE = 0x7206) ∧
    ((∀ e ∈ l, e.1 ∈ s.regulators → e.2.1 = false) → (s.pollRegulators l).mode = s.mode ∧
      ((∃ e ∈ l, e.1 ∈ s.regulators ∧ e.2.2 = true) → (s.pollRegulators l).flag F.PWR_EVT_REG_WARN = true)) := by
  have hmem : ∀ e : Nat × Bool × Bool, e ∈ l.filter (fun e => s.regulators.contains e.1) ↔ e ∈ l ∧ e.1 ∈ s.regulators := fun e => by
    rw [List.mem_filter, List.contains_iff_mem]
  rw [s.pollRegulators_eq l]
  refine ⟨fun hm ⟨e, he, hr, hf⟩ => State.judged_fault _ _ hm ⟨e, (hmem e).2 ⟨he, hr⟩, hf⟩, fun hno => ?_⟩
  obtain ⟨hm, hw⟩ := State.judged_sound { s with outbox := s.outbox ++ s.regulators.map (fun r => .pmbusRead (s.fld F.PWR_REG_ADDR 0 r) (s.fld F.PWR_REG_PAGE 0 r) pmbusStatusWord) }
    (l.filter (fun e => s.regulators.contains e.1)) (fun e he => hno e ((hmem e).1 he).1 ((hmem e).1 he).2)
  exact ⟨hm, fun ⟨e, he, hr, hy⟩ => hw (Or.inr ⟨e, (hmem e).2 ⟨he, hr⟩, hy⟩)⟩

end Sys2Proof.Machine
end

section
/-! SUPPORT. Power-down and hold-up telemetry (R222, R434, R435, R437). -/

namespace Sys2Proof.Machine

/-- Every key zeroised: none is left, and the media and the package window stay (R222). -/
theorem State.zeroiseAll_shows (s : State) : s.zeroiseAll.cip.keys = [] ∧ s.zeroiseAll.med = s.med ∧ ∀ g : Fld Reg, g.reg.addr 0 0 < 0x1000000 → s.zeroiseAll.fld g = s.fld g := by
  have hkeys : ∀ (l : List Nat) (t : State), (t.each l State.zeroiseSlot).cip.keys = t.cip.keys.filter (fun e => !l.contains e.1) := fun l => by
    induction l with
    | nil => exact fun t => by simp [State.each]
    | cons a l ih =>
      intro t
      refine (ih (t.zeroiseSlot a)).trans ?_
      have ha : (t.zeroiseSlot a).cip.keys = Sparse.erase t.cip.keys a := by
        unfold State.zeroiseSlot
        rw [State.setFld_cip, State.setFld_cip, State.setFld_cip]
        rfl
      rw [ha, Sparse.erase, List.filter_filter]
      refine List.filter_congr (fun e _ => ?_)
      simp only [List.contains_cons]
      by_cases h : e.1 = a <;> simp [h]
  refine ⟨?_, ?_, fun g hg => ?_⟩
  · unfold State.zeroiseAll
    rw [hkeys, List.filter_eq_nil_iff]
    intro e he
    have : e.1 ∈ s.cip.keys.map (fun k => k.1) := List.mem_map.2 ⟨e, he, rfl⟩
    simpa using ⟨e.2, he⟩
  · unfold State.zeroiseAll
    refine State.each_keeps (fun t => t.med) _ _ _ (fun t a _ => ?_)
    unfold State.zeroiseSlot
    rw [State.setFld_med, State.setFld_med, State.setFld_med, State.modCip_med]
  · unfold State.zeroiseAll
    refine State.each_keeps (fun t => t.fld g) _ _ _ (fun t a _ => ?_)
    unfold State.zeroiseSlot
    rw [State.fld_setFld_motif _ _ _ _ _ _ _ _ rfl hg, State.fld_setFld_motif _ _ _ _ _ _ _ _ rfl hg, State.fld_setFld_motif _ _ _ _ _ _ _ _ rfl hg, State.modCip_fld]

/-- The rails down: power off, head-alive low, transmission off, the media as they were; after Vault no key is left (R222, R437). -/
theorem State.powerDown_shows (s t : State) (ht : t = s.powerDown) : t.power.running = false ∧ t.power.pen = 0 ∧ t.txOff = true ∧ t.flag F.BRD_ST_HALIVE_OUT = false ∧ t.med = s.med ∧
    (∀ g : Fld Reg, g.reg.addr 0 0 < 0x1000000 → Reg.BRD_ST.addr 0 0 ≠ g.reg.addr 0 0 → t.fld g = s.fld g) ∧ (s.mode = 4 → ∀ k, t.slotKey k = []) := by
  have hz : (if s.mode = 4 then s.zeroiseAll else s).med = s.med ∧ (∀ g : Fld Reg, g.reg.addr 0 0 < 0x1000000 → (if s.mode = 4 then s.zeroiseAll else s).fld g = s.fld g) ∧
      (s.mode = 4 → (if s.mode = 4 then s.zeroiseAll else s).cip.keys = []) := by
    obtain ⟨hk, hm, hf⟩ := s.zeroiseAll_shows
    split
    · exact ⟨hm, hf, fun _ => hk⟩
    · rename_i h
      exact ⟨rfl, fun _ _ => rfl, fun h' => absurd h' h⟩
  unfold State.powerDown at ht
  dsimp only at ht
  generalize (if s.mode = 4 then s.zeroiseAll else s) = z at hz ht
  obtain ⟨hmed, hfld, hkeys⟩ := hz
  have hout := State.each_out (fun _ n => Out.pen n) (fun _ _ _ => rfl) { z.driveHalive false with txOff := true } (List.range z.power.pen).reverse
  have hpen : ({ z.driveHalive false with txOff := true } : State).power.pen = z.power.pen := by
    unfold State.driveHalive
    split <;> rfl
  have hcip : (z.driveHalive false).cip = z.cip := by
    unfold State.driveHalive
    split <;> rfl
  unfold State.each at hout
  rw [hpen, hout] at ht
  subst ht
  refine ⟨rfl, rfl, rfl, z.halive_driveHalive_false, (congrArg (fun x => x.2.1) (z.lasting_driveHalive false)).trans hmed, fun g hg hb => ?_, fun h k => ?_⟩
  · exact (z.fld_driveHalive false g 0 0 hb).trans (hfld g hg)
  · have hnone : (z.driveHalive false).cip.keys = [] := by rw [hcip, hkeys h]
    unfold State.slotKey
    show Sparse.get [] (z.driveHalive false).cip.keys k = []
    rw [hnone]
    rfl

theorem exec_huEnergyReadStart_cases (s : State) (hr : s.power.running = true) :
    (((s.num % 200 ≠ 0 ∧ s.hu.due s.num = false) ∨ 550 < s.stc.phase) → exec .huEnergyReadStart s = .next s) ∧
    ((s.num % 200 = 0 ∨ s.hu.due s.num = true) → s.stc.phase ≤ 550 → ∃ t, exec .huEnergyReadStart s = .next t ∧ t.stc.phase = 550 ∧
      t.hu = { s.hu with owed := if s.hu.due s.num then none else s.hu.owed, reading := true } ∧
      t.outbox = s.outbox ++ [.pmbusRead (s.fld F.PWR_HU_CFG_ADDR) 0 (s.fld F.PWR_HU_CFG_CMD)] ∧ t.regs = s.regs) := by
  have hon : exec .huEnergyReadStart s = .next s.startEnergyRead := by
    rw [exec_huEnergyReadStart]
    exact live_on s _ hr
  rw [hon]
  unfold State.startEnergyRead
  refine ⟨fun h => ?_, fun h hp => ?_⟩
  · have hno : ¬((s.num % 200 = 0 ∨ s.hu.due s.num = true) ∧ s.stc.phase ≤ 550) := fun ⟨h1, h2⟩ => by
      rcases h with ⟨h3, h4⟩ | h3
      · simp [h3, h4] at h1
      · omega
    rw [if_neg hno]
  · rw [if_pos ⟨h, hp⟩]
    refine ⟨_, rfl, ?_⟩
    unfold State.atPhase
    split
    · exact ⟨rfl, rfl, rfl, rfl⟩
    · exact ⟨show s.stc.phase = 550 by omega, rfl, rfl, rfl⟩

/-- An energy read ends with its value (R435). -/
theorem State.endEnergyRead_some (s : State) (n : Nat) (t : State) (ht : t = s.endEnergyRead (some n)) :
    t.hu = { s.hu with reading := false, energy := linear11 n } ∧ t.fld F.PWR_HU_ST_FAILS = 0 ∧ t.fld F.PWR_HU_ST_AGE = 0 ∧ t.flag F.PWR_ST_HU_TELEM_OK = true ∧
      t = { s with regs := t.regs, hu := t.hu } := by
  unfold State.endEnergyRead at ht
  dsimp only at ht
  generalize hw : (s.modHu (fun h => { h with reading := false })).modHu (fun h => { h with energy := linear11 n }) = w at ht
  have hhu : w.hu = { s.hu with reading := false, energy := linear11 n } := by rw [← hw]; rfl
  have hws : w = { s with hu := w.hu } := by rw [← hw]; rfl
  subst ht
  refine ⟨?_, ?_, ?_, State.flag_setFld_one _ F.PWR_ST_HU_TELEM_OK _ _ (by decide), ?_⟩
  · rw [State.setFld_hu, State.setFld_hu, State.setFld_hu, hhu]
  · rw [State.fld_setFld_reg _ _ _ _ _ _ _ _ (by decide), State.fld_setFld_field _ _ F.PWR_HU_ST_FAILS _ _ _ (by decide), State.fld_setFld_same _ _ _ _ _ (by decide)]
    rfl
  · rw [State.fld_setFld_reg _ _ _ _ _ _ _ _ (by decide), State.fld_setFld_same _ _ _ _ _ (by decide)]
    rfl
  · rw [hws]
    rfl

/-- An energy read that fails is counted, and from the third on telemetry is not OK (R435). -/
theorem State.endEnergyRead_none (s : State) (t : State) (ht : t = s.endEnergyRead none) :
    t.hu = { s.hu with reading := false } ∧ t.fld F.PWR_HU_ST_FAILS = satAdd (fldMax F.PWR_HU_ST_FAILS) (s.fld F.PWR_HU_ST_FAILS) 1 ∧
      t.flag F.PWR_ST_HU_TELEM_OK = decide (t.fld F.PWR_HU_ST_FAILS < 3) ∧ (3 ≤ t.fld F.PWR_HU_ST_FAILS → t.flag F.PWR_EVT_HU_TELEM_FAIL = true) := by
  unfold State.endEnergyRead at ht
  dsimp only at ht
  have hfails : ((s.modHu (fun h => { h with reading := false })).bump F.PWR_HU_ST_FAILS).fld F.PWR_HU_ST_FAILS = satAdd (fldMax F.PWR_HU_ST_FAILS) (s.fld F.PWR_HU_ST_FAILS) 1 := by
    rw [State.fld_bump_same _ _ _ _ _ (by decide), State.modHu_fld]
  have hhu : ((s.modHu (fun h => { h with reading := false })).bump F.PWR_HU_ST_FAILS).hu = { s.hu with reading := false } := by
    rw [State.bump_hu]
    rfl
  generalize (s.modHu (fun h => { h with reading := false })).bump F.PWR_HU_ST_FAILS = w at ht hfails hhu
  split at ht
  · rename_i h3
    have hkeep : t.fld F.PWR_HU_ST_FAILS = w.fld F.PWR_HU_ST_FAILS := by
      rw [ht, State.fld_setEvt_reg _ _ _ _ _ _ (by decide)]
      exact State.fld_setFld_reg _ _ _ _ _ _ _ _ (by decide)
    refine ⟨?_, hkeep.trans hfails, ?_, fun _ => ?_⟩
    · rw [ht, State.setEvt_hu, State.setFld_hu, hhu]
    · rw [hkeep, decide_eq_false (by omega), ht, State.flag_congr (State.fld_setEvt_reg _ _ F.PWR_ST_HU_TELEM_OK _ _ _ (by decide))]
      exact State.flag_setFld_zero _ F.PWR_ST_HU_TELEM_OK _ _ (by decide)
    · rw [ht]
      exact State.flag_setEvt_same _ F.PWR_EVT_HU_TELEM_FAIL 0 (by decide)
  · rename_i h3
    have hkeep : t.fld F.PWR_HU_ST_FAILS = w.fld F.PWR_HU_ST_FAILS := by
      rw [ht]
      exact State.fld_setFld_reg _ _ _ _ _ _ _ _ (by decide)
    refine ⟨?_, hkeep.trans hfails, ?_, fun h => absurd (hkeep ▸ h) h3⟩
    · rw [ht, State.setFld_hu, hhu]
    · rw [hkeep, decide_eq_true (by omega), ht]
      exact State.flag_setFld_one _ F.PWR_ST_HU_TELEM_OK _ _ (by decide)

end Sys2Proof.Machine
end

section
/-! SUPPORT. The warm reset that follows a dump (R99, R107). -/

namespace Sys2Proof.Machine

/-- Only the registers and the stitch logic differ. -/
def State.onlyStc (s t : State) : Prop := t = { s with regs := t.regs, stc := t.stc }

theorem State.onlyStc_refl (s : State) : s.onlyStc s := rfl

section
variable {s t u : State} (h : s.onlyStc t)
include h

theorem State.onlyStc.trans (g : t.onlyStc u) : s.onlyStc u := by
  unfold State.onlyStc at *
  rw [g, h]

theorem State.onlyStc.setFld {f : Fld Reg} {x m i : Nat} : s.onlyStc (t.setFld f x m i) := h.trans rfl

theorem State.onlyStc.modStc {f : StitchSt → StitchSt} : s.onlyStc (t.modStc f) := h.trans rfl

/-- What looks at neither is the same in both states. -/
theorem State.onlyStc.same {α : Type} (p : State → α) (hp : ∀ (u : State) (l : Sparse Word64) (c : StitchSt), p { u with regs := l, stc := c } = p u) : p t = p s := by
  rw [h]
  exact hp s _ _

end

/-- A source lost outside LOCKED shows in STC_ST alone (R56). -/
theorem State.sourceLost_unlocked (s : State) (h : s.fld F.STC_ST_STATE ≠ 1) :
    s.sourceLost = (s.setFld F.STC_ST_SRC_VALID 0).modStc (fun c => { c with lastGood := none, badRun := 0, disagreeRun := 0, outRun := 0, ptpRun := 0 }) := by
  unfold State.sourceLost
  dsimp only
  rw [if_neg]
  rw [State.modStc_fld, State.fld_setFld_field _ _ F.STC_ST_STATE _ _ _ (by decide)]
  exact h

/-- The end of a package warm reset: a PTP source is lost, the fixed slots stand in their registers, lanes fenced three times stay fenced. -/
def State.resetTail (s : State) : State :=
  let s := (if s.fld F.STC_CTL_SRC = 1 then s.sourceLost else s).syncPicot.fixSlots
  s.each s.motifs State.keepFences

/-- Addresses of the package window that the end of a package warm reset writes. -/
def tailRegs : List Nat := Reg.STC_ST.addr 0 0 :: (List.range 6).map (Reg.STC_SLOT_C.addr 0) ++ (List.range 6).map (Reg.STC_SLOT_T.addr 0)

theorem State.resetTail_shows (s : State) (h : s.fld F.STC_ST_STATE ≠ 1) :
    s.onlyStc s.resetTail ∧ ∀ (g : Fld Reg) (n j : Nat), g.reg.addr n j < 0x1000000 → g.reg.addr n j ∉ tailRegs → s.resetTail.fld g n j = s.fld g n j := by
  have hfix : ∀ t : State, t.onlyStc t.fixSlots := fun t => by
    unfold State.fixSlots
    exact State.each_holds (fun u => t.onlyStc u) _ _ _ t.onlyStc_refl (fun u i _ hu => hu.setFld.setFld.setFld.setFld.setFld)
  have hkeep : ∀ (t : State) (l : List Nat), t.onlyStc (t.each l State.keepFences) := fun t l =>
    State.each_holds (fun u => t.onlyStc u) _ _ _ t.onlyStc_refl (fun u i _ hu => by
      unfold State.keepFences State.setFenced
      dsimp only
      split
      · exact hu
      · exact hu.setFld.setFld.setFld)
  have hsrc : s.onlyStc (if s.fld F.STC_CTL_SRC = 1 then s.sourceLost else s) := by
    rw [s.sourceLost_unlocked h]
    split
    · exact s.onlyStc_refl.setFld.modStc
    · exact s.onlyStc_refl
  refine ⟨hsrc.trans (State.onlyStc.trans (State.onlyStc.trans (State.onlyStc_refl _).setFld (hfix _)) (hkeep _ _)), fun g n j hg hn => ?_⟩
  unfold tailRegs at hn
  simp only [List.cons_append, List.mem_cons, List.mem_append, List.mem_map, List.mem_range, not_or, not_exists, not_and] at hn
  obtain ⟨hst, hc, ht⟩ := hn
  have hfence : ∀ (t : State) (l : List Nat), (t.each l State.keepFences).fld g n j = t.fld g n j := fun t l =>
    State.each_keeps (fun t => t.fld g n j) _ _ _ (fun t m _ => by
      unfold State.keepFences State.setFenced
      dsimp only
      split
      · rfl
      · rw [State.fld_setFld_motif _ _ _ _ _ _ _ _ rfl hg, State.fld_setFld_motif _ _ _ _ _ _ _ _ rfl hg, State.fld_setFld_motif _ _ _ _ _ _ _ _ rfl hg])
  unfold State.resetTail State.syncPicot
  dsimp only
  rw [hfence, State.fld_fixSlots _ _ _ _ hc ht, State.fld_setFld_reg _ _ _ _ _ _ _ _ (Ne.symm hst)]
  split
  · rw [s.sourceLost_unlocked h, State.modStc_fld]
    exact State.fld_setFld_reg _ _ _ _ _ _ _ _ (Ne.symm hst)
  · rfl

theorem State.sorted_setFld (s : State) (f : Fld Reg) (x m i : Nat) (h : Sparse.sorted s.regs = true) : Sparse.sorted (s.setFld f x m i).regs = true := by
  show Sparse.sorted (Sparse.set _ s.regs _ _) = true
  unfold Sparse.set
  split
  · exact Sparse.sorted_filter _ _ h
  · exact Sparse.sorted_put _ _ _ h

/-- A key reads the default, or the value of an entry. -/
theorem Sparse.get_eq_or {β : Type} (d : β) (m : Sparse β) (a : Nat) : Sparse.get d m a = d ∨ ∃ e ∈ m, e.1 = a ∧ e.2 = Sparse.get d m a := by
  induction m with
  | nil => exact Or.inl rfl
  | cons e t ih =>
    rw [Sparse.get]
    split
    · rename_i h
      exact Or.inr ⟨e, List.mem_cons_self, h, rfl⟩
    · exact ih.imp id (fun ⟨x, hx, hx'⟩ => ⟨x, List.mem_cons_of_mem _ hx, hx'⟩)

/-- A field that a reset of a kind sets to its reset value, in whatever order the registers are listed. -/
theorem State.bits_resetRegs_reset (s : State) (k : ResetKind) (p : Reg → Nat → Bool) {r : Reg} {m i : Nat} (ha : regOfAddr (r.addr m i) = some (r, m, i)) (hp : p r m = true)
    {f : FieldSpec} (hf : f ∈ r.spec.fields) (hk : (f.letters.has k && !(f.src == .hw && f.acc == .ro && !(k == .powerOn))) = true) :
    bits ((s.resetRegs k p).reg r m i) f.hi f.lo = f.reset % 2 ^ (f.hi + 1 - f.lo) := by
  rw [State.resetRegs_eq]
  unfold State.reg
  dsimp only
  rcases Sparse.get_eq_or r.resetVal (s.regs.filterMap (resetEntry k p)) (r.addr m i) with h | ⟨e, he, hea, hev⟩
  · rw [h, bits_resetVal hf]
  · obtain ⟨⟨y, w⟩, -, hy⟩ := List.mem_filterMap.1 he
    have hkey := resetEntry_key k p _ _ hy
    dsimp only at hkey
    have hval := resetEntry_value k p ha w
    rw [← hea, hkey, hy, if_pos (by rw [hp])] at hval
    rw [← hev, show e.2 = _ from hval, BitVec.toNat_ofNat, bits_mod _ _ _ _ (FieldSpec.fits hf).2.2, bits_resetBy _ _ _ hf, if_pos hk]

end Sys2Proof.Machine
end

section
/-! SUPPORT. What the warm reset that follows a dump leaves (R99, R107, R437). -/

namespace Sys2Proof.Machine

/-- A package warm reset with transmission stopped and the flash operation abandoned. -/
def State.resetStart (s : State) : State := s.stopTransmission.abandonFlashOp

/-- The registers reset, and what the package held gone. -/
def State.resetBase (s : State) : State :=
  (((s.resetStart.resetRegs .warm (fun r _ => !(false && rethreadKeeps r))).setFld F.EP_CTL_PF0_AVAIL 0).nominalVolts).wipePackage false

/-- What PKG_RST_CAUSE and PKG_MODE say of a warm reset. -/
def State.resetNoted (s : State) (kind last prev : Nat) : State :=
  (((((((s.bump F.PKG_RST_CAUSE_WARM_COUNT).setFld F.PKG_RST_CAUSE_LAST last).setFld F.PKG_MODE_MODE 0).setFld F.PKG_MODE_PREV prev).setFld F.PKG_MODE_WIND_KIND kind).setFld
    F.FWU_ST_FALLBACK 0).setFld F.FWU_ST_SETTINGS_RESET 0)

theorem State.warmReset_eq (s : State) (last us : Nat) :
    s.warmReset 3 last us = (((s.resetBase.resetNoted 3 last (if s.mode = 0 then s.fld F.PKG_MODE_PREV else s.mode)).resetTail.setFld F.PKG_WIND_STEP 2).setFld
      F.PKG_WIND_TIME_TIME_US (min us 0xFFFFFFFF)) := rfl

theorem State.regs_wipePackage (s : State) (keep : Bool) : (s.wipePackage keep).regs = s.regs := by
  unfold State.wipePackage
  simp only [State.modMs_regs, State.modCip_regs, State.modNet_regs, State.modEp_regs, State.modHq_regs, State.modBob_regs, State.modMed_regs, State.modDp_regs, State.modHu_regs,
    State.modTherm_regs, State.modStc_regs]

theorem State.outbox_wipePackage (s : State) (keep : Bool) : (s.wipePackage keep).outbox = s.outbox := by
  unfold State.wipePackage
  simp only [State.modMs_outbox, State.modCip_outbox, State.modNet_outbox, State.modEp_outbox, State.modHq_outbox, State.modBob_outbox, State.modMed_outbox, State.modDp_outbox,
    State.modHu_outbox, State.modTherm_outbox, State.modStc_outbox]

/-- The registers after a power-on or warm reset, but for those of the rails and of the registers of motif windows. -/
theorem State.fld_resetBase (s : State) (g : Fld Reg) (h : (∀ i < 4, Reg.PWR_IMON_CFG.addr 0 i ≠ g.reg.addr 0 0) ∧ g.reg.addr 0 0 < 0x1000000) :
    s.resetBase.fld g = (s.resetStart.resetRegs .warm (fun r _ => !(false && rethreadKeeps r))).fld g := by
  have hw : ∀ t : State, (t.wipePackage false).fld g = t.fld g := fun t => by
    unfold State.fld
    rw [State.reg_congr (t.regs_wipePackage false)]
  unfold State.resetBase
  rw [hw, State.fld_nominalVolts _ _ _ _ h.1 h.2, State.fld_setFld_motif _ F.EP_CTL_PF0_AVAIL _ _ _ _ _ _ rfl h.2]

/-- The stitch logic is not LOCKED after a warm reset (R107). -/
theorem State.stcState_resetBase (s : State) : s.resetBase.fld F.STC_ST_STATE = 0 := by
  rw [s.fld_resetBase _ ⟨by decide, by decide⟩]
  exact State.bits_resetRegs_reset _ .warm _ (r := .STC_ST) (m := 0) (i := 0) (by decide +kernel) rfl (f := ⟨2, 0, .ro, .none, .fixed, 0, .pw⟩) (by decide) rfl

/-- A warm reset does not set the count of warm resets back (R107). -/
theorem State.warmCount_resetBase (s : State) (h : s.memWf = true) : s.resetBase.fld F.PKG_RST_CAUSE_WARM_COUNT = s.fld F.PKG_RST_CAUSE_WARM_COUNT := by
  have hs : Sparse.sorted s.regs = true := by
    unfold State.memWf at h
    simp only [Bool.and_eq_true] at h
    exact h.1.1.1.1
  have hstop : Sparse.sorted s.stopTransmission.regs = true := by
    unfold State.stopTransmission State.driveHalive
    split
    · exact hs
    · rw [State.out_regs]
      exact State.sorted_setFld { s with txOff := true } _ _ _ _ hs
  have hstart : Sparse.sorted s.resetStart.regs = true := by
    unfold State.resetStart State.abandonFlashOp
    split
    · exact hstop
    · exact State.sorted_setFld _ _ _ _ _ (State.sorted_setFld _ _ _ _ _ (State.sorted_setFld _ _ _ _ _ (State.sorted_setFld _ _ _ _ _ (State.sorted_setFld _ _ _ _ _ hstop))))
  have hkeep : s.resetStart.fld F.PKG_RST_CAUSE_WARM_COUNT = s.fld F.PKG_RST_CAUSE_WARM_COUNT :=
    (s.stopTransmission.stops_abandonFlashOp.2 F.PKG_RST_CAUSE_WARM_COUNT rfl).trans (State.fld_driveHalive _ _ _ _ _ (by decide))
  rw [s.fld_resetBase _ ⟨by decide, by decide⟩, ← hkeep]
  have hb := State.bits_resetRegs s.resetStart .warm (fun r _ => !(false && rethreadKeeps r)) (r := .PKG_RST_CAUSE) (m := 0) (i := 0) hstart (by decide +kernel)
    (f := ⟨31, 16, .ro, .none, .fixed, 0, .p⟩) (by decide)
  exact hb.trans (if_pos rfl |>.trans ((bits_resetBy _ _ _ (by decide)).trans (if_neg (by decide))))

/-- Head-alive that was high has fallen (R120). -/
theorem State.outbox_resetBase (s : State) (h : s.flag F.BRD_ST_HALIVE_OUT = true) : Out.halive false ∈ s.resetBase.outbox := by
  have hw : s.resetBase.outbox = s.resetStart.outbox := by
    unfold State.resetBase
    rw [State.outbox_wipePackage]
    unfold State.nominalVolts
    refine (State.each_keeps State.outbox _ _ _ (fun t m _ => ?_)).trans ((State.each_keeps State.outbox _ _ _ (fun t x _ => State.setFld_outbox ..)).trans ?_)
    · rw [State.setFld_outbox, State.setFld_outbox]
    · exact State.setFld_outbox ..
  rw [hw, State.resetStart, State.abandonFlashOp_outbox, State.stopTransmission, State.driveHalive]
  have hon : State.flag { s with txOff := true } F.BRD_ST_HALIVE_OUT = true := by
    rw [← h]
    unfold State.flag State.fld State.reg
    rfl
  rw [if_neg (by simp [hon])]
  exact List.mem_append_right _ (List.mem_singleton.2 rfl)

/-- What a package warm reset carries over beside the registers. -/
def State.carried (s : State) := (s.mram, s.therm.nodes, s.med.vaultA, s.med.vaultB, s.cip.fences, s.fuses, s.pending)

theorem State.carried_wipePackage (s : State) : (s.wipePackage false).carried = s.carried := by
  unfold State.carried State.wipePackage
  simp [ThermSt.afterReset, MediaSt.afterReset]

/-- What a package warm reset does away with, beside the registers. -/
theorem State.wipePackage_gone (s : State) : (s.wipePackage false).eip = [] ∧ (s.wipePackage false).prk = none ∧ (s.wipePackage false).cip.keys = [] ∧
    (s.wipePackage false).ms.lines = [] ∧ (s.wipePackage false).txOff = false := by
  unfold State.wipePackage
  exact ⟨rfl, rfl, rfl, rfl, rfl⟩

theorem State.onlyRegs_nominalVolts (s : State) : s.onlyRegs s.nominalVolts := by
  unfold State.nominalVolts
  refine State.each_holds (fun t => s.onlyRegs t) _ _ _ (State.each_holds (fun t => s.onlyRegs t) _ _ _ s.onlyRegs_refl (fun t p _ h => h.setFld)) (fun t m _ h => h.setFld.setFld)

theorem State.carried_resetBase (s : State) : s.resetBase.carried = s.carried := by
  have hstart : s.resetStart.carried = s.carried := by
    have hstop : s.stopTransmission.carried = s.carried := by
      unfold State.stopTransmission State.driveHalive
      split <;> rfl
    rw [← hstop]
    unfold State.resetStart State.abandonFlashOp
    split
    · rfl
    · exact ((State.onlyRegs_refl _).setFld.setFld.setFld.setFld.setFld).same State.carried (fun _ _ => rfl)
  have hregs : s.resetStart.onlyRegs (s.resetStart.resetRegs .warm (fun r _ => !(false && rethreadKeeps r))) := rfl
  unfold State.resetBase
  rw [State.carried_wipePackage]
  exact ((hregs.setFld.trans (State.onlyRegs_nominalVolts _)).same State.carried (fun _ _ => rfl)).trans hstart

theorem State.onlyRegs_resetNoted (s : State) (kind last prev : Nat) : s.onlyRegs (s.resetNoted kind last prev) := by
  unfold State.resetNoted
  exact s.onlyRegs_refl.bump.setFld.setFld.setFld.setFld.setFld.setFld

/-- What PKG_RST_CAUSE and PKG_MODE then say. -/
theorem State.resetNoted_fields (s : State) (kind last prev : Nat) (hk : kind < 4) (hl : last < 16) (hp : prev < 8) (t : State) (ht : t = s.resetNoted kind last prev) :
    t.fld F.PKG_MODE_MODE = 0 ∧ t.fld F.PKG_MODE_PREV = prev ∧ t.fld F.PKG_MODE_WIND_KIND = kind ∧ t.fld F.PKG_RST_CAUSE_LAST = last ∧
    t.fld F.PKG_RST_CAUSE_WARM_COUNT = satAdd (fldMax F.PKG_RST_CAUSE_WARM_COUNT) (s.fld F.PKG_RST_CAUSE_WARM_COUNT) 1 ∧ t.fld F.STC_ST_STATE = s.fld F.STC_ST_STATE := by
  subst ht
  unfold State.resetNoted
  have hfw : ∀ (u : State) (g : Fld Reg), Reg.FWU_ST.addr 0 0 ≠ g.reg.addr 0 0 → ((u.setFld F.FWU_ST_FALLBACK 0).setFld F.FWU_ST_SETTINGS_RESET 0).fld g = u.fld g := fun u g hg => by
    rw [State.fld_setFld_reg _ F.FWU_ST_SETTINGS_RESET _ _ _ _ _ _ hg, State.fld_setFld_reg _ F.FWU_ST_FALLBACK _ _ _ _ _ _ hg]
  have hmode : ∀ (u : State) (g : Fld Reg), Reg.PKG_MODE.addr 0 0 ≠ g.reg.addr 0 0 →
      (((u.setFld F.PKG_MODE_MODE 0).setFld F.PKG_MODE_PREV prev).setFld F.PKG_MODE_WIND_KIND kind).fld g = u.fld g := fun u g hg => by
    rw [State.fld_setFld_reg _ F.PKG_MODE_WIND_KIND _ _ _ _ _ _ hg, State.fld_setFld_reg _ F.PKG_MODE_PREV _ _ _ _ _ _ hg, State.fld_setFld_reg _ F.PKG_MODE_MODE _ _ _ _ _ _ hg]
  refine ⟨?_, ?_, ?_, ?_, ?_, ?_⟩
  · rw [hfw _ _ (by decide), State.fld_setFld_field _ _ F.PKG_MODE_MODE _ _ _ (by decide), State.fld_setFld_field _ _ F.PKG_MODE_MODE _ _ _ (by decide),
      State.fld_setFld_same _ _ _ _ _ (by decide)]
    rfl
  · rw [hfw _ _ (by decide), State.fld_setFld_field _ _ F.PKG_MODE_PREV _ _ _ (by decide), State.fld_setFld_same _ _ _ _ _ (by decide)]
    exact Nat.mod_eq_of_lt hp
  · rw [hfw _ _ (by decide), State.fld_setFld_same _ _ _ _ _ (by decide)]
    exact Nat.mod_eq_of_lt hk
  · rw [hfw _ _ (by decide), hmode _ _ (by decide), State.fld_setFld_same _ _ _ _ _ (by decide)]
    exact Nat.mod_eq_of_lt hl
  · rw [hfw _ _ (by decide), hmode _ _ (by decide), State.fld_setFld_field _ _ F.PKG_RST_CAUSE_WARM_COUNT _ _ _ (by decide), State.fld_bump_same _ _ _ _ _ (by decide)]
  · rw [hfw _ _ (by decide), hmode _ _ (by decide), State.fld_setFld_reg _ _ _ _ _ _ _ _ (by decide)]
    exact State.fld_bump_reg _ _ _ _ _ _ _ _ (by decide)

/-- The warm reset of kind 3 that follows a dump begins a Winding (R99, R107). -/
theorem State.warmReset_rewound (s : State) (last us : Nat) (hl : last < 16) : s.rewound (s.warmReset 3 last us) 3 last us := by
  have hmode : s.mode < 8 := s.fld_lt F.PKG_MODE_MODE 0 0
  have hprev : s.fld F.PKG_MODE_PREV < 8 := s.fld_lt F.PKG_MODE_PREV 0 0
  have hp : (if s.mode = 0 then s.fld F.PKG_MODE_PREV else s.mode) < 8 := by split <;> assumption
  have hout := s.outbox_resetBase
  have hwarm := s.warmCount_resetBase
  have hcar := s.carried_resetBase
  have hstc := s.stcState_resetBase
  obtain ⟨heip, hprk, hkeys, hlines, htx⟩ : s.resetBase.eip = [] ∧ s.resetBase.prk = none ∧ s.resetBase.cip.keys = [] ∧ s.resetBase.ms.lines = [] ∧ s.resetBase.txOff = false :=
    State.wipePackage_gone _
  rw [s.warmReset_eq last us]
  generalize s.resetBase = b at hout hwarm hcar hstc heip hprk hkeys hlines htx
  obtain ⟨hm, hpv, hkd, hls, hct, hst⟩ := b.resetNoted_fields 3 last _ (by decide) hl hp _ rfl
  have hbw := b.onlyRegs_resetNoted 3 last (if s.mode = 0 then s.fld F.PKG_MODE_PREV else s.mode)
  generalize b.resetNoted 3 last (if s.mode = 0 then s.fld F.PKG_MODE_PREV else s.mode) = w at hm hpv hkd hls hct hst hbw
  obtain ⟨hwt, hfld⟩ := w.resetTail_shows (by rw [hst, hstc]; decide)
  generalize w.resetTail = v at hwt hfld
  generalize ht : (v.setFld F.PKG_WIND_STEP 2).setFld F.PKG_WIND_TIME_TIME_US (min us 0xFFFFFFFF) = t
  have honly : b.onlyStc t := by
    have hbw' : b.onlyStc w := by
      unfold State.onlyStc
      rw [hbw]
    rw [← ht]
    exact (hbw'.trans hwt).setFld.setFld
  have hkeep : ∀ g : Fld Reg, g.reg.addr 0 0 < 0x1000000 → g.reg.addr 0 0 ∉ tailRegs → Reg.PKG_WIND.addr 0 0 ≠ g.reg.addr 0 0 → Reg.PKG_WIND_TIME.addr 0 0 ≠ g.reg.addr 0 0 →
      t.fld g = w.fld g := fun g hg hn hw ht' => by
    rw [← ht, State.fld_setFld_reg _ F.PKG_WIND_TIME_TIME_US _ _ _ _ _ _ ht', State.fld_setFld_reg _ F.PKG_WIND_STEP _ _ _ _ _ _ hw, hfld g 0 0 hg hn]
  have hcarried : t.carried = s.carried := (honly.same State.carried (fun _ _ _ => rfl)).trans hcar
  unfold State.carried at hcarried
  simp only [Prod.mk.injEq] at hcarried
  obtain ⟨hmram, hnodes, hva, hvb, hfen, hfus, hpend⟩ := hcarried
  refine ⟨(hkeep F.PKG_MODE_MODE (by decide) (by decide) (by decide) (by decide)).trans hm, ?_, ?_, (hkeep _ (by decide) (by decide) (by decide) (by decide)).trans hls,
    (hkeep _ (by decide) (by decide) (by decide) (by decide)).trans hkd, (hkeep _ (by decide) (by decide) (by decide) (by decide)).trans hpv, fun hwf => ?_,
    (honly.same (fun u => u.eip) (fun _ _ _ => rfl)).trans heip, (honly.same (fun u => u.prk) (fun _ _ _ => rfl)).trans hprk,
    (honly.same (fun u => u.cip.keys) (fun _ _ _ => rfl)).trans hkeys, (honly.same (fun u => u.ms.lines) (fun _ _ _ => rfl)).trans hlines, hmram, hnodes, hva, hvb, hfen, hfus, hpend,
    (honly.same (fun u => u.txOff) (fun _ _ _ => rfl)).trans htx, fun hal => ?_⟩
  · rw [← ht, State.fld_setFld_reg _ _ _ _ _ _ _ _ (by decide), State.fld_setFld_same _ _ _ _ _ (by decide)]
    rfl
  · rw [← ht, State.fld_setFld_same _ _ _ _ _ (by decide)]
    exact Nat.mod_eq_of_lt (Nat.lt_of_le_of_lt (Nat.min_le_right ..) (by decide))
  · rw [hkeep _ (by decide) (by decide) (by decide) (by decide), hct, hwarm hwf]
  · rw [honly.same (fun u => u.outbox) (fun _ _ _ => rfl)]
    exact hout hal

end Sys2Proof.Machine
end

section
/-! SUPPORT. The commands by which the package stops, polls its regulators and loses input power (R25, R29, R430, R434, R435). -/

namespace Sys2Proof.Machine

/-- A UCIe link that is up and fails is a fail-stop; of another link nothing is heard (R25). -/
theorem exec_ucie_cases (s : State) (m i : Nat) (hr : s.power.running = true) :
    (s.ucieUp m i = true → exec (.ucieReplayLimit m i) s = .next ((s.bump F.MTF_LINK_ST_REPLAYS 16 m i).failStop 0x7201) ∧
      exec (.ucieNoProgressTimeout m i) s = .next (s.failStop 0x7201) ∧ exec (.ucieLaneFail m i) s = .next (s.failStop 0x7201)) ∧
    (s.ucieUp m i = false → exec (.ucieReplayLimit m i) s = .next s ∧ exec (.ucieNoProgressTimeout m i) s = .next s ∧ exec (.ucieLaneFail m i) s = .next s) := by
  rw [exec_ucieReplayLimit, exec_ucieNoProgressTimeout, exec_ucieLaneFail]
  unfold execUcieReplayLimit execUcieNoProgressTimeout execUcieLaneFail
  simp only [live_on s _ hr]
  exact ⟨fun h => by simp [h], fun h => by simp [h]⟩

/-- Two polls that a running service core has missed are a fail-stop (R29, R439). -/
theorem exec_servicePollMiss_cases (s : State) (m n : Nat) (hr : s.power.running = true) :
    (s.serviceRuns m = true → 2 ≤ n → exec (.servicePollMiss m n) s = .next (s.failStop 0x7204)) ∧
    ((s.serviceRuns m = false ∨ n < 2) → exec (.servicePollMiss m n) s = .next s) := by
  rw [exec_servicePollMiss]
  unfold execServicePollMiss
  rw [live_on s _ hr]
  refine ⟨fun h hn => by rw [if_pos ⟨h, hn⟩], fun h => ?_⟩
  rw [if_neg]
  rintro ⟨hm, hn⟩
  rcases h with h | h
  · rw [h] at hm
    exact Bool.false_ne_true hm
  · omega

/-- A poll that is due, or that an alert asks for, is made (R430). -/
theorem exec_regulatorPoll_cases (s : State) (l : List (Nat × Bool × Bool)) (hr : s.power.running = true) :
    (s.pollDue = false → exec (.regulatorPoll l) s = .next s) ∧
    (s.pollDue = true → exec (.regulatorPoll l) s = .next ((s.modHu (fun h => { h with polledAt := s.num })).pollRegulators l)) ∧
    (s.flag F.PWR_CTL_ALERT_EN = false → exec (.smbalertFall l) s = .next s) ∧
    (s.flag F.PWR_CTL_ALERT_EN = true → exec (.smbalertFall l) s = .next (s.pollRegulators l)) := by
  rw [exec_regulatorPoll, exec_smbalertFall]
  unfold execRegulatorPoll execSmbalertFall
  simp only [live_on s _ hr]
  exact ⟨fun h => by rw [h]; rfl, fun h => by rw [h]; rfl, fun h => by rw [h]; rfl, fun h => by rw [h]; rfl⟩

/-- A loss of HU_GOOD counts from 1 µs on (R434). -/
theorem exec_huGoodLoss_cases (s : State) (n : Nat) (bad : BadPages) (hr : s.power.running = true) :
    (n < 1000 → exec (.huGoodLoss n bad) s = .next s) ∧ (1000 ≤ n → exec (.huGoodLoss n bad) s = .next (s.under bad (fun s => s.inputLost))) := by
  rw [exec_huGoodLoss]
  unfold execHuGoodLoss
  rw [live_on s _ hr]
  exact ⟨fun h => by rw [if_neg (Nat.not_le.2 h)], fun h => by rw [if_pos h]⟩

/-- A dump in Vault is over when nothing of it waits (R99, R214, R251). -/
theorem exec_vaultDumpComplete_cases (s : State) (b : Bool) (n : Nat) (hr : s.power.running = true) :
    ((s.mode ≠ 4 ∨ s.hu.dumpDone = true) → exec (.vaultDumpComplete b n) s = .next s) ∧
    (∀ u, s.mode = 4 → s.hu.dumpDone = false → u = s.dumpRest.settleDump →
      (u.med.vaultA.left = [] → u.med.vaultB.left = [] → u.dumping = false → exec (.vaultDumpComplete b n) s = .next (u.dumpComplete b n)) ∧
      ((u.med.vaultA.left ≠ [] ∨ u.med.vaultB.left ≠ [] ∨ u.dumping = true) → exec (.vaultDumpComplete b n) s = .next u)) := by
  rw [exec_vaultDumpComplete]
  unfold execVaultDumpComplete
  rw [live_on s _ hr]
  refine ⟨fun h => ?_, fun u hm hd hu => ?_⟩
  · rw [if_neg]
    rintro ⟨hm, hd⟩
    exact h.elim (fun h => h hm) hd
  · rw [if_pos ⟨hm, by rw [hd]; exact Bool.false_ne_true⟩, ← hu]
    dsimp only
    refine ⟨fun ha hb hw => ?_, fun h => ?_⟩
    · rw [if_pos (by rw [ha, hb, hw]; rfl)]
    · rw [if_neg]
      simp only [Bool.and_eq_true, List.isEmpty_iff, Bool.not_eq_true', not_and]
      intro hab hw
      rcases h with h | h | h
      · exact h hab.1
      · exact h hab.2
      · rw [h] at hw
        exact Bool.false_ne_true hw.symm

/-- A read of the hold-up energy ends with its value, or is counted as failed (R435). -/
theorem exec_huEnergyReadDone_cases (s : State) (n : Nat) (hr : s.power.running = true) :
    (∀ v, s.hu.reading = false → exec (.huEnergyReadDone v) s = .next s) ∧
    (s.hu.reading = true → (∃ t, exec (.huEnergyReadDone (some n)) s = .next t ∧ t.hu = { s.hu with reading := false, energy := linear11 n } ∧ t.fld F.PWR_HU_ST_FAILS = 0 ∧
        t.fld F.PWR_HU_ST_AGE = 0 ∧ t.flag F.PWR_ST_HU_TELEM_OK = true ∧ t = { s with regs := t.regs, hu := t.hu }) ∧
      (∃ t, exec (.huEnergyReadDone none) s = .next t ∧ t.hu = { s.hu with reading := false } ∧ t.fld F.PWR_HU_ST_FAILS = satAdd (fldMax F.PWR_HU_ST_FAILS) (s.fld F.PWR_HU_ST_FAILS) 1 ∧
        t.flag F.PWR_ST_HU_TELEM_OK = decide (t.fld F.PWR_HU_ST_FAILS < 3) ∧ (3 ≤ t.fld F.PWR_HU_ST_FAILS → t.flag F.PWR_EVT_HU_TELEM_FAIL = true))) := by
  have hon : ∀ v, exec (.huEnergyReadDone v) s = .next (if s.hu.reading then s.endEnergyRead v else s) := fun v => by
    rw [exec_huEnergyReadDone]
    exact live_on s _ hr
  refine ⟨fun v h => ?_, fun h => ⟨⟨_, ?_, s.endEnergyRead_some n _ rfl⟩, ⟨_, ?_, s.endEnergyRead_none _ rfl⟩⟩⟩ <;> rw [hon, h] <;> rfl

/-- A poll that draws no answer only asks (R430). -/
theorem State.pollRegulators_nil (s : State) :
    s.pollRegulators [] = { s with outbox := s.outbox ++ s.regulators.map (fun r => .pmbusRead (s.fld F.PWR_REG_ADDR 0 r) (s.fld F.PWR_REG_PAGE 0 r) pmbusStatusWord) } :=
  s.pollRegulators_eq []

end Sys2Proof.Machine
end

section
/-! SUPPORT. The end of a dump, and the loss of input power where no dump is made (R99, R434, R437). -/

namespace Sys2Proof.Machine

/-- The dump's areas closed, and whether input power is back. -/
def State.dumpClosed (s : State) (b : Bool) : State :=
  ((s.sampleVault 1).modMed (fun d => { d with
    vaultA := if d.vaultA.epoch = s.dumpEpoch then s.closeArea d.vaultA else d.vaultA
    vaultB := if d.vaultB.epoch = s.dumpEpoch then s.closeArea d.vaultB else d.vaultB })).modHu (fun h => { h with dumpDone := true, inputGood := b })

theorem State.med_sampleVault (s : State) (n : Nat) : (s.sampleVault n).med = s.med := (State.onlySamples_sample ..).same (fun t => t.med) (fun _ _ _ _ => rfl)

theorem State.dumpComplete_eq (s : State) (b : Bool) (us : Nat) :
    s.dumpComplete b us = if b then ((s.dumpClosed b).setFld F.PWR_ST_HU_GOOD 1).warmReset 3 4 us else (s.dumpClosed b).powerDown := by
  have hn : (s.sampleVault 1).dumpEpoch = s.dumpEpoch := by
    unfold State.dumpEpoch
    rw [s.med_sampleVault]
  have hc : ∀ v, (s.sampleVault 1).closeArea v = s.closeArea v := fun v => by
    unfold State.closeArea State.dumpSealed State.epochPages
    rw [s.med_sampleVault]
  unfold State.dumpComplete State.dumpClosed
  simp only [hn, hc]

theorem State.mode_dumpClosed (s : State) (b : Bool) : (s.dumpClosed b).mode = s.mode := by
  unfold State.dumpClosed State.mode
  rw [State.modHu_fld, State.modMed_fld]
  exact State.fld_sample _ _ _ F.PKG_MODE_MODE _ _ (by decide) (by decide) (by decide)

theorem State.dumpComplete_shows (s : State) (b : Bool) (n : Nat) :
    ∃ u : State, s.dumpComplete b n = (if b then u.warmReset 3 4 n else u.powerDown) ∧ u.mode = s.mode ∧ u.hu.dumpDone = true ∧ u.hu.inputGood = b ∧ (b = true → u.fld F.PWR_ST_HU_GOOD = 1) ∧
      u.med.vaultA = (if s.med.vaultA.epoch = s.dumpEpoch then s.closeArea s.med.vaultA else s.med.vaultA) ∧
      u.med.vaultB = (if s.med.vaultB.epoch = s.dumpEpoch then s.closeArea s.med.vaultB else s.med.vaultB) := by
  have hmed : ∀ v : State, v.med = (s.dumpClosed b).med → v.med.vaultA = (if s.med.vaultA.epoch = s.dumpEpoch then s.closeArea s.med.vaultA else s.med.vaultA) ∧
      v.med.vaultB = (if s.med.vaultB.epoch = s.dumpEpoch then s.closeArea s.med.vaultB else s.med.vaultB) := fun v hv => by
    rw [hv]
    unfold State.dumpClosed
    rw [State.modHu_med, State.modMed_med, s.med_sampleVault]
    exact ⟨rfl, rfl⟩
  have hmode := s.mode_dumpClosed b
  have hhu : (s.dumpClosed b).hu.dumpDone = true ∧ (s.dumpClosed b).hu.inputGood = b := by
    unfold State.dumpClosed
    rw [State.modHu_hu]
    exact ⟨rfl, rfl⟩
  have heq := s.dumpComplete_eq b n
  generalize s.dumpClosed b = u at hmed hmode hhu heq
  rw [heq]
  cases b with
  | false => exact ⟨u, if_neg Bool.false_ne_true, hmode, hhu.1, hhu.2, fun h => absurd h Bool.false_ne_true, hmed u rfl⟩
  | true =>
    refine ⟨u.setFld F.PWR_ST_HU_GOOD 1, if_pos rfl, ?_, ?_, ?_, fun _ => State.fld_setFld_same _ _ _ _ _ (by decide), hmed _ (State.setFld_med ..)⟩
    · rw [← hmode]
      exact State.fld_setFld_reg _ _ _ _ _ _ _ _ (by decide)
    · rw [State.setFld_hu]
      exact hhu.1
    · rw [State.setFld_hu]
      exact hhu.2

/-- The loss of input power noted: HU_GOOD and its event (R434). -/
def State.lossNoted (s : State) : State := ((s.setFld F.PWR_ST_HU_GOOD 0).setEvt F.PWR_EVT_HU_LOSS).modHu (fun h => { h with inputGood := false })

theorem State.inputLost_eq (s : State) : s.inputLost = if s.lossNoted.mode = 0 then s.lossNoted.powerDown else if s.lossNoted.inService then s.lossNoted.enterVault else s.lossNoted := rfl

theorem State.fld_lossNoted (s : State) (g : Fld Reg) (hst : Reg.PWR_ST.addr 0 0 ≠ g.reg.addr 0 0) (hev : Reg.PWR_EVT.addr 0 0 ≠ g.reg.addr 0 0) : s.lossNoted.fld g = s.fld g := by
  unfold State.lossNoted
  rw [State.modHu_fld, State.fld_setEvt_reg _ F.PWR_EVT_HU_LOSS _ _ _ _ hev]
  exact State.fld_setFld_reg _ _ _ _ _ _ _ _ hst

theorem State.mode_lossNoted (s : State) : s.lossNoted.mode = s.mode := s.fld_lossNoted F.PKG_MODE_MODE (by decide) (by decide)

theorem State.lossNoted_shows (s : State) :
    s.lossNoted.flag F.PWR_EVT_HU_LOSS = true ∧ s.lossNoted.fld F.PWR_ST_HU_GOOD = 0 ∧ s.lossNoted.power = s.power ∧ s.lossNoted.med = s.med ∧ s.lossNoted.hu.inputGood = false := by
  unfold State.lossNoted
  refine ⟨?_, ?_, ?_, ?_, rfl⟩
  · rw [State.flag_congr (State.modHu_fld ..)]
    exact State.flag_setEvt_same _ F.PWR_EVT_HU_LOSS 0 (by decide)
  · rw [State.modHu_fld, State.fld_setEvt_reg _ _ _ _ _ _ (by decide), State.fld_setFld_same _ _ _ _ _ (by decide)]
    rfl
  · rw [State.modHu_power, State.setEvt_power, State.setFld_power]
  · rw [State.modHu_med, State.setEvt_med, State.setFld_med]

/-- In Winding power goes down without a dump (R434). -/
theorem State.inputLost_winding (s : State) (hm : s.mode = 0) (t : State) (ht : t = s.inputLost) : t.power.running = false ∧ t.power.pen = 0 ∧ t.txOff = true ∧
    t.flag F.BRD_ST_HALIVE_OUT = false ∧ t.flag F.PWR_EVT_HU_LOSS = true ∧ t.fld F.PWR_ST_HU_GOOD = 0 ∧ t.med = s.med := by
  obtain ⟨hev, hgood, -, hmed, -⟩ := s.lossNoted_shows
  rw [s.inputLost_eq, if_pos (s.mode_lossNoted.trans hm)] at ht
  obtain ⟨hrun, hpen, htx, hal, hmed', hfld, -⟩ := s.lossNoted.powerDown_shows t ht
  exact ⟨hrun, hpen, htx, hal, (State.flag_congr (hfld F.PWR_EVT_HU_LOSS (by decide) (by decide))).trans hev, (hfld _ (by decide) (by decide)).trans hgood, hmed'.trans hmed⟩

/-- In Vault and Tied-off it is only reported (R434). -/
theorem State.inputLost_reported (s : State) (hm : s.mode = 4 ∨ s.mode = 5) (t : State) (ht : t = s.inputLost) :
    t.mode = s.mode ∧ t.flag F.PWR_EVT_HU_LOSS = true ∧ t.fld F.PWR_ST_HU_GOOD = 0 ∧ t.power = s.power ∧ t.med = s.med := by
  obtain ⟨hev, hgood, hpow, hmed, -⟩ := s.lossNoted_shows
  have h0 : ¬ s.lossNoted.mode = 0 := by rw [s.mode_lossNoted]; omega
  have hsvc : ¬ s.lossNoted.inService = true := by
    unfold State.inService
    rw [s.mode_lossNoted]
    rcases hm with hm | hm <;> rw [hm] <;> decide
  rw [s.inputLost_eq, if_neg h0, if_neg hsvc] at ht
  subst ht
  exact ⟨s.mode_lossNoted, hev, hgood, hpow, hmed⟩

/-- After the rails are down: the mode stays, but where Vault's keys go, none of those that a slot has is left. -/
theorem State.powerDown_holds (s : State) : ∃ t, t = s.powerDown ∧ t.power.running = false ∧ t.power.pen = 0 ∧ t.txOff = true ∧ t.flag F.BRD_ST_HALIVE_OUT = false ∧ t.med = s.med ∧
    ((s.mode ≠ 4 ∨ ∀ k ∈ s.cip.keys, k.1 < 4096) → t.mode = s.mode) ∧ (s.mode = 4 → ∀ k, t.slotKey k = []) := by
  obtain ⟨hrun, hpen, htx, hal, hmed, hfld, hkey⟩ := s.powerDown_shows _ rfl
  exact ⟨_, rfl, hrun, hpen, htx, hal, hmed, fun _ => hfld F.PKG_MODE_MODE (by decide) (by decide), hkey⟩

end Sys2Proof.Machine
end

section
/-! SUPPORT. What leaves power, hold-up and the package window alone: what a dump and the last stitch record do (R114, R213, R216, R239, R251, R282). -/

namespace Sys2Proof.Machine

/-- Power, the hold-up state and the registers of the package window are in `t` as in `s`. -/
def State.keepsPkg (s t : State) : Prop := t.power = s.power ∧ t.hu = s.hu ∧ ∀ g : Fld Reg, g.reg.addr 0 0 < 0x1000000 → t.fld g = s.fld g

theorem State.keepsPkg_refl (s : State) : s.keepsPkg s := ⟨rfl, rfl, fun _ _ => rfl⟩

/-- A part other than these. -/
theorem State.keepsPkg_of_regs {s t : State} (hp : t.power = s.power) (hh : t.hu = s.hu) (hr : t.regs = s.regs) : s.keepsPkg t :=
  ⟨hp, hh, fun g _ => by unfold State.fld; rw [State.reg_congr hr]⟩

section
variable {s t u : State} (h : s.keepsPkg t)
include h

theorem State.keepsPkg.trans (g : t.keepsPkg u) : s.keepsPkg u := ⟨g.1.trans h.1, g.2.1.trans h.2.1, fun f hf => (g.2.2 f hf).trans (h.2.2 f hf)⟩

theorem State.keepsPkg.setFld {f : Fld Reg} {x m i : Nat} (hf : f.reg.spec.pkg = false) : s.keepsPkg (t.setFld f x m i) :=
  h.trans ⟨rfl, rfl, fun _ hg => State.fld_setFld_motif _ _ _ _ _ _ _ _ hf hg⟩

theorem State.keepsPkg.setEvt {f : Fld Reg} {m : Nat} (hf : f.reg.spec.pkg = false) : s.keepsPkg (t.setEvt f m) := by
  refine h.trans ⟨State.setEvt_power .., State.setEvt_hu .., fun g hg => ?_⟩
  unfold State.setEvt
  split
  · rfl
  · rw [State.raiseIrq_fld]
    exact State.fld_setFld_motif _ _ _ _ _ _ _ _ hf hg

theorem State.keepsPkg.emit {o : Out} : s.keepsPkg (t.emit o) := h.trans ⟨State.emit_power .., State.emit_hu .., fun _ _ => State.emit_fld ..⟩

theorem State.keepsPkg.out {o : Out} : s.keepsPkg (t.out o) := h.trans ⟨rfl, rfl, fun _ _ => State.out_fld ..⟩

theorem State.keepsPkg.modMed {f : MediaSt → MediaSt} : s.keepsPkg (t.modMed f) := h.trans (State.keepsPkg_of_regs rfl rfl rfl)

theorem State.keepsPkg.modBob {f : BobSt → BobSt} : s.keepsPkg (t.modBob f) := h.trans (State.keepsPkg_of_regs rfl rfl rfl)

theorem State.keepsPkg.modPair {f : PairSt → PairSt} : s.keepsPkg (t.modPair f) := h.trans (State.keepsPkg_of_regs rfl rfl rfl)

theorem State.keepsPkg.modCip {f : CipSt → CipSt} : s.keepsPkg (t.modCip f) := h.trans (State.keepsPkg_of_regs rfl rfl rfl)

end

theorem State.keepsPkg.each {α : Type} {s t : State} (h : s.keepsPkg t) {l : List α} {f : State → α → State} (hf : ∀ (u : State) (a : α), u.keepsPkg (f u a)) : s.keepsPkg (t.each l f) :=
  State.each_holds (fun u => s.keepsPkg u) t l f h (fun u a _ hu => hu.trans (hf u a))

/-! ## Frames to the partner head, and the journal -/

theorem State.keepsPkg_sendOn (s : State) (g : Nat) (p : BridePay) : s.keepsPkg (s.sendOn g p) := by
  unfold State.sendOn State.transmit
  split
  · exact s.keepsPkg_refl.modPair.emit
  · exact s.keepsPkg_refl.modPair

theorem State.keepsPkg_sendMirror (s : State) (f : MirrorFrame) : s.keepsPkg (s.sendMirror f).1 := s.keepsPkg_refl.modPair.trans (State.keepsPkg_sendOn ..)

theorem State.keepsPkg_sendTxn (s : State) (id : Nat) : s.keepsPkg (s.sendTxn id) := by
  have htxn : ∀ (u : State) (n : Nat) (f : Txn → Txn), u.keepsPkg (u.modTxn n f) := fun u n f => u.keepsPkg_refl.modMed
  unfold State.sendTxn
  split
  · exact s.keepsPkg_refl
  · rename_i t _
    have hlog : s.keepsPkg (s.appendLog t.ground t.motif (txnBytes (s.mapsAhead id) id t.recs).flatten) := s.keepsPkg_refl.modMed
    dsimp only
    split
    · exact ((hlog.trans (htxn ..)).each (fun u f => u.keepsPkg_sendMirror f)).trans (htxn ..)
    · exact hlog.trans (htxn ..)

theorem State.keepsPkg_journal (s : State) (g m : Nat) (l : List JRec) : s.keepsPkg (s.journal g m l) := s.keepsPkg_refl.modMed.modMed.trans (State.keepsPkg_sendTxn ..)

theorem State.keepsPkg_sendRecord (s : State) (r : Record) : s.keepsPkg (s.sendRecord r) := by
  unfold State.sendRecord
  dsimp only
  split
  · exact s.keepsPkg_refl
  · refine State.keepsPkg.modPair (s.keepsPkg_refl.each (fun u i => ?_))
    split
    · exact u.keepsPkg_sendOn ..
    · exact (u.keepsPkg_sendOn ..).trans (State.keepsPkg_sendOn ..)

/-! ## Commands to the modules -/

theorem State.keepsPkg_syncMod (s : State) (i : Nat) : s.keepsPkg (s.syncMod i) := by
  unfold State.syncMod
  exact (((s.keepsPkg_refl.setFld rfl).setFld rfl).setFld rfl).setFld rfl

theorem State.keepsPkg_bar (s : State) (i ofs : Nat) (b : Bytes) : s.keepsPkg (s.bar i ofs b) := by
  unfold State.bar
  split
  · exact s.keepsPkg_refl.out
  · exact s.keepsPkg_refl.emit

theorem State.keepsPkg_postCmd (s : State) (c : BobCmd) : s.keepsPkg (s.postCmd c) := by
  unfold State.postCmd
  exact ((s.keepsPkg_refl.modBob.modBob.trans (State.keepsPkg_bar ..)).trans (State.keepsPkg_bar ..)).trans (State.keepsPkg_syncMod ..)

theorem State.keepsPkg_releaseHeld (s : State) (n : Nat) : s.keepsPkg (s.releaseHeld n) := by
  induction n generalizing s with
  | zero => exact s.keepsPkg_refl
  | succ n ih =>
    unfold State.releaseHeld
    split
    · exact s.keepsPkg_refl
    · exact (s.keepsPkg_refl.modBob.trans (State.keepsPkg_postCmd ..)).trans (ih _)

theorem State.keepsPkg_notIssued (s : State) (c : BobCmd) : s.keepsPkg (s.notIssued c) := by
  unfold State.notIssued
  split
  · exact s.keepsPkg_refl.modMed
  · split
    · exact s.keepsPkg_refl.modMed
    · exact s.keepsPkg_refl.modBob
  · exact s.keepsPkg_refl.modBob
  · exact s.keepsPkg_refl.modMed
  · exact s.keepsPkg_refl.modMed
  · exact s.keepsPkg_refl.modMed
  · exact s.keepsPkg_refl

theorem State.keepsPkg_sendCmd (s : State) (c : BobCmd) : s.keepsPkg (s.sendCmd c) := by
  unfold State.sendCmd
  dsimp only
  split
  · exact s.keepsPkg_notIssued c
  · split
    · exact s.keepsPkg_notIssued c
    · exact s.keepsPkg_refl.modBob.trans (State.keepsPkg_releaseHeld ..)

/-! ## System pages -/

theorem State.keepsPkg_sysPlace (s : State) (use g motif : Nat) (m : Module) : s.keepsPkg (s.sysPlace use g motif m).1 := by
  unfold State.sysPlace
  split
  · exact s.keepsPkg_refl.modMed
  · split
    · exact s.keepsPkg_refl
    · dsimp only
      split
      · exact s.keepsPkg_refl.modMed.modMed.modMed
      · exact (s.keepsPkg_journal ..).modMed.modMed

theorem State.keepsPkg_placeCopy (s : State) (p : SysPage) (copy : Nat) : s.keepsPkg (s.placeCopy p copy) := by
  unfold State.placeCopy
  dsimp only
  split
  · exact s.keepsPkg_refl
  · rename_i m _
    have h := s.keepsPkg_sysPlace (blockUse p.kind) p.ground p.motif m
    split <;> rename_i heq <;> rw [heq] at h
    · exact h
    · exact h.modMed.trans (State.keepsPkg_sendCmd ..)

theorem State.keepsPkg_placePage (s : State) (id : Nat) : s.keepsPkg (s.placePage id) := by
  unfold State.placePage
  refine s.keepsPkg_refl.each (fun u copy => ?_)
  split
  · split
    · exact u.keepsPkg_placeCopy ..
    · exact u.keepsPkg_refl
  · exact u.keepsPkg_refl

theorem State.keepsPkg_vaultPage (s : State) (epoch kind copies g m count : Nat) (data : Bytes) : s.keepsPkg (s.vaultPage epoch kind copies g m count data) := by
  unfold State.vaultPage State.addPage
  exact s.keepsPkg_refl.modMed.trans (State.keepsPkg_placePage ..)

theorem State.keepsPkg_dumpPages (s : State) (v : VaultArea) (js : List (Nat × Nat × Bytes)) : s.keepsPkg (s.dumpPages v js) := by
  have hatoms : s.keepsPkg (s.atomPages v.epoch v.ents) := by
    unfold State.atomPages
    exact s.keepsPkg_refl.each (fun u g => u.keepsPkg_refl.each (fun w x => w.keepsPkg_vaultPage ..))
  have hjs : s.keepsPkg ((s.atomPages v.epoch v.ents).each js (fun s x => s.each (cutPages x.2.2) (fun s b => s.vaultPage v.epoch 3 2 x.1 x.2.1 0 b))) :=
    hatoms.each (fun u x => u.keepsPkg_refl.each (fun w b => w.keepsPkg_vaultPage ..))
  unfold State.dumpPages
  dsimp only
  split
  · exact hjs.each (fun u b => u.keepsPkg_vaultPage ..)
  · exact hjs

/-! ## Sealing -/

theorem State.keepsPkg_fenceLane (s : State) (m lane : Nat) : s.keepsPkg (s.fenceLane m lane) := by
  have h : s.keepsPkg ((s.bump F.CIP_CNT_CHECK_FAIL 1 m).setEvt F.CIP_EVT_CHECK_FAIL m) := (s.keepsPkg_refl.setFld rfl).setEvt rfl
  unfold State.fenceLane State.setFenced
  dsimp only
  split
  · exact (((h.modCip.setFld rfl).setFld rfl).setFld rfl).setEvt rfl
  · exact ((h.modCip.setFld rfl).setFld rfl).setFld rfl

theorem State.keepsPkg_disagreeOn (s : State) (m lane : Nat) : s.keepsPkg (s.disagreeOn m lane) := s.keepsPkg_refl.modCip.trans (State.keepsPkg_fenceLane ..)

theorem State.keepsPkg_takeNonce (s : State) (m g : Nat) : s.keepsPkg (s.takeNonce m g).1 := by
  unfold State.takeNonce
  dsimp only
  split
  · exact s.keepsPkg_refl.setFld rfl
  · exact s.keepsPkg_refl.modCip

theorem State.keepsPkg_sealOnce (s : State) (m slot : Nat) (skip : Option Nat) (aad : Bytes → Bytes) (pt : Bytes) : s.keepsPkg (s.sealOnce m slot skip aad pt).1 := by
  unfold State.sealOnce
  dsimp only
  split
  · exact s.keepsPkg_refl
  · exact (State.keepsPkg_of_regs rfl rfl rfl : s.keepsPkg s.tookFree).trans (State.keepsPkg_takeNonce ..)

theorem State.keepsPkg_sealUp (s : State) (m slot : Nat) (aad : Bytes → Bytes) (pt : Bytes) : s.keepsPkg (s.sealUp m slot aad pt).1 := by
  have hfirst := s.keepsPkg_sealOnce m slot none aad pt
  unfold State.sealUp
  split
  · exact s.keepsPkg_refl.setEvt rfl
  · generalize s.sealOnce m slot none aad pt = r at hfirst
    obtain ⟨t, c⟩ := r
    cases c with
    | none => exact hfirst
    | some c =>
      dsimp only
      cases t.nextDisagree m none with
      | none => exact hfirst
      | some lane =>
        dsimp only
        have hsecond := (hfirst.trans (State.keepsPkg_disagreeOn _ m lane)).trans (State.keepsPkg_sealOnce _ m slot (some (lane % 96 / 12)) aad pt)
        generalize (t.disagreeOn m lane).sealOnce m slot (some (lane % 96 / 12)) aad pt = r at hsecond
        obtain ⟨u, d⟩ := r
        cases d with
        | none => exact hsecond
        | some d =>
          dsimp only
          cases u.nextDisagree m (some (lane % 96 / 12)) with
          | none => exact hsecond
          | some lane' => exact hsecond.trans (State.keepsPkg_disagreeOn ..)

theorem State.keepsPkg_sealEntry (s : State) (m : Nat) (e : StageEnt) : s.keepsPkg (s.sealEntry m e).1 := by
  unfold State.sealEntry
  dsimp only
  split
  · exact s.keepsPkg_refl
  · rename_i d _
    split
    · exact s.keepsPkg_refl
    · have h := s.keepsPkg_sealUp m d.slot (fun _ => ({ e with enc := true, keySlot := d.slot } : StageEnt).header.take 0x30) e.data
      split <;> rename_i heq <;> rw [heq] at h <;> exact h

theorem State.keepsPkg_sealEntries (s : State) (n : Nat) (l : List (Nat × StageEnt)) : s.keepsPkg (s.sealEntries n l).1 := by
  induction l generalizing s n with
  | nil => exact s.keepsPkg_refl
  | cons x l ih =>
    have h := (s.keepsPkg_sealEntry x.1 { x.2 with seq := n }).trans (ih (s.sealEntry x.1 { x.2 with seq := n }).1 (n + 1))
    unfold State.sealEntries
    dsimp only
    split <;> exact h

theorem State.keepsPkg_dump (s : State) : s.keepsPkg s.dump := by
  have h : s.keepsPkg s.dumpArea.1 := s.keepsPkg_sealEntries 0 (s.ownEntries ++ s.copyEntries)
  unfold State.dump
  dsimp only
  split
  · exact h
  · split
    · exact h.modMed.trans (State.keepsPkg_dumpPages ..)
    · split
      · exact h.modMed.trans (State.keepsPkg_dumpPages ..)
      · exact h

end Sys2Proof.Machine
end

section
/-! SUPPORT. The entry to Vault (R104, R190, R437). -/

namespace Sys2Proof.Machine

theorem State.keepsPkg_haltApps (s : State) : s.keepsPkg s.haltApps := by
  unfold State.haltApps
  refine s.keepsPkg_refl.each (fun u m => u.keepsPkg_refl.each (fun v h => ?_))
  unfold State.setHart
  exact ((v.keepsPkg_refl.setFld rfl).setFld rfl).setFld rfl

/-- Mode 4 entered once the dump is made. -/
def State.vaultMode (s : State) : State := ((s.setFld F.PKG_MODE_ADMIT 0).dump.enterMode 4).setEvt F.PKG_MODE_EV_VAULT

/-- The last stitch record sent, the outside links off and the application cores halted. -/
def State.vaultHalted (s : State) : State := (s.vaultMode.sendRecord (s.vaultMode.stitchRecord [])).serdesOff.haltApps

/-- The engines idle and transmission off. -/
def State.vaultIdle (s : State) : State := { s.vaultHalted.idleEngines with txOff := true }

theorem State.enterVault_eq (s : State) :
    s.enterVault = (s.vaultIdle.each s.vaultIdle.motifs (fun t m => t.setFld F.MED_VAULT_ST_NEXT (s.fld F.MED_VAULT_ST_NEXT) m)).modHu (fun h => { h with dumpDone := false }) := rfl

theorem State.vaultMode_shows (s t : State) (ht : t = s.vaultMode) : t.mode = 4 ∧ t.fld F.PKG_MODE_PREV = s.mode ∧ t.flag F.PKG_MODE_EV_VAULT = true ∧ t.fld F.PKG_MODE_ADMIT = 0 ∧
    t.power = s.power ∧ t.hu = s.hu := by
  obtain ⟨hpow, hhu, hfld⟩ := (s.setFld F.PKG_MODE_ADMIT 0).keepsPkg_dump
  unfold State.vaultMode at ht
  generalize (s.setFld F.PKG_MODE_ADMIT 0).dump = a at hpow hhu hfld ht
  obtain ⟨hm, hprev, -⟩ := a.enterMode_shows 4 (by decide)
  have hadmit := a.fld_enterMode 4 F.PKG_MODE_ADMIT rfl
  have honly := a.onlySamples_enterMode 4
  generalize a.enterMode 4 = b at hm hprev hadmit honly ht
  have hevt : ∀ g : Fld Reg, Reg.PKG_MODE_EV.addr 0 0 ≠ g.reg.addr 0 0 → t.fld g = b.fld g := fun g hg => by
    rw [ht]
    exact State.fld_setEvt_reg _ F.PKG_MODE_EV_VAULT _ _ _ _ hg
  refine ⟨(hevt F.PKG_MODE_MODE (by decide)).trans hm, ?_, ?_, ?_, ?_, ?_⟩
  · rw [hevt _ (by decide), hprev]
    unfold State.mode
    rw [hfld _ (by decide)]
    exact State.fld_setFld_field _ _ F.PKG_MODE_MODE _ _ _ (by decide)
  · rw [ht]
    exact State.flag_setEvt_same _ F.PKG_MODE_EV_VAULT 0 (by decide)
  · rw [hevt _ (by decide), hadmit, hfld _ (by decide), State.fld_setFld_same _ _ _ _ _ (by decide)]
    rfl
  · rw [ht, State.setEvt_power, honly.same (fun u => u.power) (fun _ _ _ _ => rfl), hpow, State.setFld_power]
  · rw [ht, State.setEvt_hu, honly.same (fun u => u.hu) (fun _ _ _ _ => rfl), hhu, State.setFld_hu]

theorem State.vaultIdle_shows (s : State) : s.vaultIdle.eng.jobs = [] ∧ s.vaultIdle.txOff = true ∧ s.vaultIdle.power = s.vaultMode.power ∧ s.vaultIdle.hu = s.vaultMode.hu ∧
    ∀ g : Fld Reg, offStop g = true → s.vaultIdle.fld g = s.vaultMode.fld g := by
  have hrec := s.vaultMode.keepsPkg_sendRecord (s.vaultMode.stitchRecord [])
  have hoff := (s.vaultMode.sendRecord (s.vaultMode.stitchRecord [])).stops_serdesOff
  have hhalt := (s.vaultMode.sendRecord (s.vaultMode.stitchRecord [])).serdesOff.keepsPkg_haltApps
  have hidle := s.vaultHalted.stops_idleEngines
  have hjobs : s.vaultHalted.idleEngines.eng.jobs = [] := (s.vaultHalted.onlyRegs_idleEngines.same (fun t => t.eng.jobs) (fun _ _ => rfl)).trans rfl
  have hpart : ∀ {α : Type} (p : State → α), (∀ u a b e f g i j k l m n, p { u with regs := a, eip := b, pair := e, bob := f, flash := g, fop := i, free := j, eng := k, ep := l, mram := m, tv := n } = p u) →
      (∀ u v : State, u.keepsPkg v → p v = p u) → p s.vaultHalted.idleEngines = p s.vaultMode := fun p hp hk =>
    (hidle.1.same p hp).trans ((hk _ _ hhalt).trans ((hoff.1.same p hp).trans (hk _ _ hrec)))
  have hpow := hpart (fun t => t.power) (fun _ _ _ _ _ _ _ _ _ _ _ _ => rfl) (fun _ _ h => h.1)
  have hhu := hpart (fun t => t.hu) (fun _ _ _ _ _ _ _ _ _ _ _ _ => rfl) (fun _ _ h => h.2.1)
  have hfld : ∀ g : Fld Reg, offStop g = true → s.vaultHalted.idleEngines.fld g = s.vaultMode.fld g := fun g hg => by
    have hw := ((offStop_iff g).1 hg).1
    rw [hidle.2 g hg]
    exact (hhalt.2.2 g hw).trans ((hoff.2 g hg).trans (hrec.2.2 g hw))
  unfold State.vaultIdle
  generalize s.vaultHalted.idleEngines = w at hjobs hpow hhu hfld
  refine ⟨hjobs, rfl, hpow, hhu, fun g hg => ?_⟩
  rw [← hfld g hg]
  unfold State.fld State.reg
  rfl

/-- The loss of input power in service enters Vault (R104, R434, R437). -/
theorem State.inputLost_service (s : State) (h : s.inService = true) (t : State) (ht : t = s.inputLost) : t.mode = 4 ∧ t.fld F.PKG_MODE_PREV = s.mode ∧ t.flag F.PKG_MODE_EV_VAULT = true ∧
    t.txOff = true ∧ t.fld F.PKG_MODE_ADMIT = 0 ∧ t.hu.dumpDone = false ∧ t.hu.inputGood = false ∧ t.eng.jobs = [] ∧ t.power = s.power := by
  obtain ⟨-, -, hpow, -, hgood⟩ := s.lossNoted_shows
  have hmode := s.mode_lossNoted
  have hsvc : s.lossNoted.inService = true := by
    unfold State.inService
    rw [hmode]
    exact h
  have h0 : ¬ s.lossNoted.mode = 0 := fun h0 => by
    unfold State.inService at hsvc
    rw [h0] at hsvc
    exact absurd hsvc (by decide)
  rw [s.inputLost_eq, if_neg h0, if_pos hsvc] at ht
  generalize s.lossNoted = v at hpow hgood hmode ht
  obtain ⟨hm, hprev, hev, hadmit, hmpow, hmhu⟩ := v.vaultMode_shows _ rfl
  obtain ⟨hjobs, htx, hipow, hihu, hfld⟩ := v.vaultIdle_shows
  rw [v.enterVault_eq] at ht
  generalize v.vaultMode = b at hm hprev hev hadmit hmpow hmhu hipow hihu hfld
  generalize v.vaultIdle = d at hjobs htx hipow hihu hfld ht
  have honly : d.onlyRegs (d.each d.motifs (fun t m => t.setFld F.MED_VAULT_ST_NEXT (v.fld F.MED_VAULT_ST_NEXT) m)) :=
    State.each_holds (fun u => d.onlyRegs u) _ _ _ d.onlyRegs_refl (fun u m _ hu => hu.setFld)
  have hkeep : ∀ g : Fld Reg, offStop g = true → t.fld g = b.fld g := fun g hg => by
    rw [ht, State.modHu_fld, ← hfld g hg]
    exact State.each_keeps (fun u => u.fld g) _ _ _ (fun u m _ => State.fld_setFld_motif _ _ _ _ _ _ _ _ rfl ((offStop_iff g).1 hg).1)
  generalize d.each d.motifs (fun t m => t.setFld F.MED_VAULT_ST_NEXT (v.fld F.MED_VAULT_ST_NEXT) m) = e at honly ht
  have hehu : e.hu = v.hu := (honly.same (fun u => u.hu) (fun _ _ => rfl)).trans (hihu.trans hmhu)
  refine ⟨(hkeep F.PKG_MODE_MODE rfl).trans hm, ((hkeep F.PKG_MODE_PREV rfl).trans hprev).trans hmode, (State.flag_congr (hkeep F.PKG_MODE_EV_VAULT rfl)).trans hev, ?_,
    (hkeep F.PKG_MODE_ADMIT rfl).trans hadmit, ?_, ?_, ?_, ?_⟩ <;> rw [ht]
  · rw [State.modHu_txOff, honly.same (fun u => u.txOff) (fun _ _ => rfl), htx]
  · rw [State.modHu_hu]
  · rw [State.modHu_hu]
    show e.hu.inputGood = false
    rw [hehu, hgood]
  · rw [State.modHu_eng, honly.same (fun u => u.eng) (fun _ _ => rfl), hjobs]
  · rw [State.modHu_power, honly.same (fun u => u.power) (fun _ _ => rfl), hipow, hmpow, hpow]

end Sys2Proof.Machine
end

section
/-! SUPPORT. Fail-stops, loss of input power and hold-up telemetry, settled. -/

namespace Sys2Proof.Machine

theorem exec_pllLossOfLock_on (s : State) (hr : s.power.running = true) : exec .pllLossOfLock s = .next (s.failStop 0x7205) := by
  rw [exec_pllLossOfLock]
  exact live_on s _ hr

/-- Settles O48: every stop goes through one frame of what a stop of ports, engines and a flash operation may touch (`State.stops`), a dump through one that keeps the package
window (`State.keepsPkg`). -/
theorem failStopsAndHoldUp : Obligations.FailStopsAndHoldUp := by
  unfold Obligations.FailStopsAndHoldUp
  intro s m i n code r b fault warn bad l hr hc hr32
  obtain ⟨hup, hdown⟩ := exec_ucie_cases s m i hr
  obtain ⟨hmiss, hheard⟩ := exec_servicePollMiss_cases s m n hr
  obtain ⟨hnodue, hdue, hnoalert, halert⟩ := exec_regulatorPoll_cases s l hr
  obtain ⟨hfault, hwarn⟩ := s.pollRegulators_shows l
  obtain ⟨hshort, hlong⟩ := exec_huGoodLoss_cases s n bad hr
  obtain ⟨hover, hdump⟩ := exec_vaultDumpComplete_cases s b n hr
  obtain ⟨hnostart, hstart⟩ := exec_huEnergyReadStart_cases s hr
  obtain ⟨hnoread, hread⟩ := exec_huEnergyReadDone_cases s n hr
  exact ⟨s.failStop_tied code, fun h => ⟨_, rfl, s.failStop_shows code h hc _ rfl⟩, hup, hdown, hmiss, hheard, exec_pllLossOfLock_on s hr, hnodue, hdue, hnoalert, halert,
    s.pollRegulators_nil, hfault, hwarn, s.judgeRegulator_cases r fault warn hr32, hshort, hlong, fun h => ⟨_, rfl, s.inputLost_winding h _ rfl⟩,
    fun h => ⟨_, rfl, s.inputLost_service h _ rfl⟩, fun h => ⟨_, rfl, s.inputLost_reported h _ rfl⟩, hover, hdump, s.dumpComplete_shows b n, s.warmReset_rewound 4 n (by decide),
    s.powerDown_holds, hnostart, hstart, hnoread, hread⟩

end Sys2Proof.Machine
end

section
/-! SUPPORT. Operations that touch the registers and the interrupts pending alone (R475). -/

namespace Sys2Proof.Machine

/-- An event raised changes no other register. -/
theorem State.reg_setEvt_other (s : State) (f : Fld Reg) (q : Reg) (m n j : Nat) (h : f.reg.addr m 0 ≠ q.addr n j) : (s.setEvt f m).reg q n j = s.reg q n j := by
  unfold State.setEvt
  split
  · rfl
  · rw [State.raiseIrq_reg, State.reg_setFld_other _ _ _ _ _ _ _ _ h]

/-- `t` is `s` but for its registers and the interrupts pending. -/
def State.onlyEvents (s t : State) : Prop := t = { s with regs := t.regs, eip := t.eip }

theorem State.onlyEvents_refl (s : State) : s.onlyEvents s := rfl

theorem State.onlyEvents_of_onlyRegs {s t : State} (h : s.onlyRegs t) : s.onlyEvents t := by
  unfold State.onlyEvents
  rw [h]

section
variable {s t u : State} (h : s.onlyEvents t)
include h

theorem State.onlyEvents.trans (g : t.onlyEvents u) : s.onlyEvents u := by
  unfold State.onlyEvents at *
  rw [g, h]

theorem State.onlyEvents.setReg {r : Reg} {m i v : Nat} : s.onlyEvents (t.setReg r m i v) := h.trans rfl

theorem State.onlyEvents.setFld {f : Fld Reg} {x m i : Nat} : s.onlyEvents (t.setFld f x m i) := h.trans rfl

theorem State.onlyEvents.setSfld {f : Fld Reg} {x : Int} {m i : Nat} : s.onlyEvents (t.setSfld f x m i) := h.trans rfl

theorem State.onlyEvents.bump {f : Fld Reg} {x m i : Nat} : s.onlyEvents (t.bump f x m i) := h.trans rfl

theorem State.onlyEvents.raiseIrq {m k l n : Nat} : s.onlyEvents (t.raiseIrq m k l n) := by
  refine h.trans ?_
  unfold State.raiseIrq
  split <;> rfl

theorem State.onlyEvents.setEvt {f : Fld Reg} {m : Nat} : s.onlyEvents (t.setEvt f m) := by
  unfold State.setEvt
  split
  · exact h
  · exact h.setFld.raiseIrq

/-- What looks at neither is the same in both states. -/
theorem State.onlyEvents.same {α : Type} (p : State → α) (hp : ∀ (u : State) (l : Sparse Word64) (e : List (Nat × Nat × Nat × Nat)), p { u with regs := l, eip := e } = p u) :
    p t = p s := by
  rw [h]
  exact hp s _ _

/-- What follows a change of the stitch logic. -/
theorem State.onlyEvents.onto {v : State} (hs : s = { v with stc := s.stc }) : t = { v with regs := t.regs, stc := s.stc, eip := t.eip } :=
  Eq.trans h (congrArg (fun w => { w with regs := t.regs, eip := t.eip }) hs)

end

end Sys2Proof.Machine
end

section
/-! SUPPORT. When a slot of the schedule is due, and what its firing does (R58, R61, R62). -/

namespace Sys2Proof.Machine

@[simp] theorem State.atPhase_reg (s : State) (p : Nat) (r : Reg) (m i : Nat) : (s.atPhase p).reg r m i = s.reg r m i := by
  unfold State.atPhase
  split <;> rfl

@[simp] theorem State.atPhase_fld (s : State) (p : Nat) (g : Fld Reg) (m i : Nat) : (s.atPhase p).fld g m i = s.fld g m i := by
  unfold State.fld
  rw [State.atPhase_reg]

/-- A phase reached in this stitch changes the phase alone. -/
theorem State.atPhase_eq (s : State) {p : Nat} (h : s.stc.phase ≤ p) : s.atPhase p = s.modStc (fun c => { c with phase := p }) := by
  unfold State.atPhase
  split
  · rfl
  · rw [show p = s.stc.phase by omega]
    rfl

theorem State.slotRun_eq (s : State) (i : Nat) : s.slotRun i = { s with stc := (s.slotRun i).stc } := by
  unfold State.slotRun State.atPhase
  split <;> rfl

@[simp] theorem State.slotRun_regs (s : State) (i : Nat) : (s.slotRun i).regs = s.regs := by rw [s.slotRun_eq i]

@[simp] theorem State.slotRun_reg (s : State) (i : Nat) (r : Reg) (m k : Nat) : (s.slotRun i).reg r m k = s.reg r m k := by
  unfold State.slotRun
  rw [State.modStc_reg, State.atPhase_reg]

@[simp] theorem State.slotRun_fld (s : State) (i : Nat) (g : Fld Reg) (m k : Nat) : (s.slotRun i).fld g m k = s.fld g m k := by
  unfold State.fld
  rw [State.slotRun_reg]

/-- When a slot is due (R58): on the stitch and at the phase of its plan, once, and after the slots of a lower index at that phase. -/
theorem State.slotDue_iff (s : State) (i a : Nat) : s.slotDue i a = true ↔ i < 64 ∧ (s.slotPlan i).2.2.2 = a ∧ s.slotOpen i = true ∧ s.stc.phase ≤ (s.slotPlan i).1 ∧
    (s.slotPlan i).1 < 1000 ∧ ∀ j < i, s.slotOpen j = true → (s.slotPlan j).1 ≠ (s.slotPlan i).1 := by
  unfold State.slotDue
  dsimp only
  simp only [Bool.and_eq_true, decide_eq_true_eq, List.all_eq_true, List.mem_range, Bool.or_eq_true, Bool.not_eq_true', and_assoc]
  simp only [← Bool.not_eq_true, Decidable.imp_iff_not_or]

/-- When a slot may fire in a stitch (R58, R62). -/
theorem State.slotOpen_iff (s : State) (i : Nat) : s.slotOpen i = true ↔ (s.slotPlan i).2.2.2 ≠ 0 ∧ 0 < (s.slotPlan i).2.1 ∧
    s.num % (s.slotPlan i).2.1 = (s.slotPlan i).2.2.1 ∧ s.slotAllowed i = true ∧ i ∉ s.stc.slots := by
  unfold State.slotOpen
  dsimp only
  simp only [Bool.and_eq_true, decide_eq_true_eq, Bool.not_eq_true', List.contains_eq_mem, decide_eq_false_iff_not, and_assoc]

/-- A due slot's phase has not passed. -/
theorem State.slotDue_phase {s : State} {i a : Nat} (h : s.slotDue i a = true) : s.stc.phase ≤ (s.slotPlan i).1 := ((s.slotDue_iff i a).1 h).2.2.2.1

/-- No slot is due in a mode in which it does not fire (R62). -/
theorem State.slotDue_of_not_allowed {s : State} {i : Nat} (h : s.slotAllowed i = false) (a : Nat) : s.slotDue i a = false := by
  rw [Bool.eq_false_iff, Ne, s.slotDue_iff]
  rintro ⟨-, -, ho, -⟩
  rw [((s.slotOpen_iff i).1 ho).2.2.2.1] at h
  cases h

/-- A slot that does not fire at the moment. -/
theorem State.slotFire_idle {s : State} {i a : Nat} (h : s.slotDue i a = false) (b : Bool) (f : State → Nat → State) : s.slotFire i a b f = s := by
  unfold State.slotFire
  rw [h, if_neg Bool.false_ne_true]

/-- A due slot runs its action with ARG (R58). -/
theorem State.slotFire_due {s : State} {i a : Nat} (h : s.slotDue i a = true) (f : State → Nat → State) :
    s.slotFire i a false f = f (s.slotRun i) (s.fld F.STC_SLOT_C_ARG 0 i) := by
  unfold State.slotFire
  rw [if_pos h, if_neg Bool.false_ne_true]
  exact congrArg (f (s.slotRun i)) (s.slotRun_fld i F.STC_SLOT_C_ARG 0 i)

/-- A firing whose previous action still runs is skipped and counted (R61). -/
theorem State.slotFire_skipped {s : State} {i a : Nat} (h : s.slotDue i a = true) (f : State → Nat → State) :
    s.slotFire i a true f = ((s.slotRun i).bump F.STC_CNT_SLOT_OVR).setEvt F.STC_EVT_SLOT_OVR := by
  unfold State.slotFire
  rw [if_pos h, if_pos rfl]
  rfl

theorem live_slotFire {s : State} (hr : s.power.running = true) (i a : Nat) (b : Bool) (f : State → Nat → State) :
    ∃ g, live s (fun s => s.slotFire i a b f) = .next (s.slotFire i a b g) := ⟨f, live_on s _ hr⟩

/-- A row by which a slot fires fires that slot with that action. -/
theorem exec_slot {c : Instr} {s : State} {i a : Nat} (h : slotOf c = some (i, a)) (hr : s.power.running = true) :
    a ≠ 0 ∧ ∃ f, exec c s = .next (s.slotFire i a (overruns c) f) := by
  unfold slotOf at h
  split at h <;> simp only [Option.some.injEq, Prod.mk.injEq, reduceCtorEq] at h
  all_goals
    obtain ⟨rfl, rfl⟩ := h
    exact ⟨by decide, live_slotFire hr _ _ _ _⟩

/-- A due slot, where the mode lets it fire, by its plan (R58, R62). -/
theorem State.slotDue_of_allowed {s : State} {i a : Nat} (ha : a ≠ 0) (h : s.slotAllowed i = true) : s.slotDue i a = true ↔ i < 64 ∧ (s.slotPlan i).2.2.2 = a ∧
    1 ≤ (s.slotPlan i).2.1 ∧ s.num % (s.slotPlan i).2.1 = (s.slotPlan i).2.2.1 ∧ i ∉ s.stc.slots ∧ s.stc.phase ≤ (s.slotPlan i).1 ∧ (s.slotPlan i).1 < 1000 ∧
    ∀ j < i, s.slotOpen j = true → (s.slotPlan j).1 ≠ (s.slotPlan i).1 := by
  rw [s.slotDue_iff, s.slotOpen_iff]
  constructor
  · rintro ⟨hi, hp, ⟨-, hper, hnum, -, hnot⟩, hrest⟩
    exact ⟨hi, hp, hper, hnum, hnot, hrest⟩
  · rintro ⟨hi, hp, hper, hnum, hnot, hrest⟩
    exact ⟨hi, hp, ⟨hp ▸ ha, hper, hnum, h, hnot⟩, hrest⟩

/-- A skipped firing counts in STC_CNT, raises its event, and changes nothing else but that the slot has fired (R61). -/
theorem State.slotSkipped_shows (s : State) (i : Nat) (t : State) (ht : t = ((s.slotRun i).bump F.STC_CNT_SLOT_OVR).setEvt F.STC_EVT_SLOT_OVR) :
    t.fld F.STC_CNT_SLOT_OVR = satAdd (fldMax F.STC_CNT_SLOT_OVR) (s.fld F.STC_CNT_SLOT_OVR) 1 ∧ t.flag F.STC_EVT_SLOT_OVR = true ∧
    (∀ q n j, q.addr n j ≠ Reg.STC_CNT.addr 0 0 → q.addr n j ≠ Reg.STC_EVT.addr 0 0 → t.reg q n j = s.reg q n j) ∧
    t = { s with regs := t.regs, stc := (s.slotRun i).stc, eip := t.eip } := by
  subst ht
  refine ⟨?_, State.flag_setEvt_same _ F.STC_EVT_SLOT_OVR 0 (by decide), fun q n j hc he => ?_, ?_⟩
  · rw [State.fld_setEvt_reg _ F.STC_EVT_SLOT_OVR _ _ _ _ (by decide), State.fld_bump_same _ _ _ _ _ (by decide), State.slotRun_fld]
  · rw [State.reg_setEvt_other _ F.STC_EVT_SLOT_OVR _ _ _ _ (Ne.symm he)]
    unfold State.bump
    rw [State.reg_setFld_other _ F.STC_CNT_SLOT_OVR _ _ _ _ _ _ (Ne.symm hc), State.slotRun_reg]
  · exact ((s.slotRun i).onlyEvents_refl.bump.setEvt).onto (s.slotRun_eq i)

/-- Settles O16: every row by which a slot fires goes through `State.slotFire`, and when a slot is due is read off its plan. -/
theorem slotModes : Obligations.SlotModes := by
  unfold Obligations.SlotModes
  intro s c i a hr hc
  obtain ⟨ha, f, hf⟩ := exec_slot hc hr
  have hidle : s.slotDue i a = false → exec c s = .next s := fun h => by rw [hf, State.slotFire_idle h]
  refine ⟨fun h5 => hidle (State.slotDue_of_not_allowed ?_ a), fun h4 h2 h3 h4' => hidle (State.slotDue_of_not_allowed ?_ a),
    fun h5 hi => State.slotDue_of_allowed ha ?_, fun hi he => ?_, hidle, fun hd ho => ⟨_, hf, ?_⟩⟩
  · simp [State.slotAllowed, h5]
  · simp only [State.slotAllowed, if_pos h4, Bool.and_eq_false_iff, decide_eq_false_iff_not]
    omega
  · unfold State.slotAllowed
    split
    · simp only [Bool.and_eq_true, decide_eq_true_eq]
      omega
    · exact decide_eq_true h5
  · simp only [State.slotPlan, if_neg (Nat.not_lt.2 hi), he, Bool.false_eq_true, if_false]
  · rw [ho, State.slotFire_skipped hd]
    exact s.slotSkipped_shows i _ rfl

end Sys2Proof.Machine
end

section
/-! SUPPORT. Fields of the package window that lie apart: a write of one leaves the other alone. -/

namespace Sys2Proof.Machine

/-- Two fields stand in different registers, or share no bit. -/
def Fld.apart (f g : Fld Reg) : Bool :=
  decide (f.reg.addr 0 0 ≠ g.reg.addr 0 0) || decide (f.reg = g.reg ∧ f.lo ≤ f.hi ∧ f.hi < 64 ∧ g.hi < 64 ∧ g.lo ≤ g.hi ∧ (f.hi < g.lo ∨ g.hi < f.lo))

/-- A field lies apart from every field of a list. -/
def apartFrom (l : List (Fld Reg)) (g : Fld Reg) : Bool := l.all (fun f => f.apart g)

theorem apartFrom_mem {l : List (Fld Reg)} {g : Fld Reg} (h : apartFrom l g = true) {f : Fld Reg} (hf : f ∈ l) : f.apart g = true := List.all_eq_true.1 h f hf

section
variable {f g : Fld Reg} (h : f.apart g = true)
include h

theorem State.fld_setFld_apart (s : State) (x : Nat) : (s.setFld f x).fld g = s.fld g := by
  simp only [Fld.apart, Bool.or_eq_true, decide_eq_true_eq] at h
  exact h.elim (State.fld_setFld_reg _ _ _ _ _ _ _ _) (State.fld_setFld_field _ _ _ _ _ _)

theorem State.fld_setSfld_apart (s : State) (x : Int) : (s.setSfld f x).fld g = s.fld g := State.fld_setFld_apart h ..

theorem State.fld_bump_apart (s : State) (n : Nat) : (s.bump f n).fld g = s.fld g := State.fld_setFld_apart h ..

theorem State.fld_setEvt_apart (s : State) : (s.setEvt f).fld g = s.fld g := by
  simp only [Fld.apart, Bool.or_eq_true, decide_eq_true_eq] at h
  exact h.elim (State.fld_setEvt_reg _ _ _ _ _ _) (State.fld_setEvt_field _ _ _ _)

end

end Sys2Proof.Machine
end

section
/-! SUPPORT. Signed fields, and registers written with their own value. -/

namespace Sys2Proof.Machine

/-- The pattern of an integer that `w` bits hold reads back as that integer. -/
theorem signed_ofSigned {w : Nat} {x : Int} (hlo : -(2 ^ (w - 1) : Nat) ≤ x) (hhi : x < (2 ^ (w - 1) : Nat)) (hw : 1 ≤ w) : signed w (ofSigned w x) = x := by
  have hp : 2 ^ w = 2 * 2 ^ (w - 1) := by
    rw [← Nat.pow_succ']
    congr 1
    omega
  unfold signed ofSigned
  dsimp only
  rw [hp]
  generalize 2 ^ (w - 1) = h at *
  by_cases hx : 0 ≤ x
  · rw [Int.emod_eq_of_lt hx (by omega), Nat.mod_eq_of_lt (by omega), if_pos (by omega)]
    omega
  · have he : x % ((2 * h : Nat) : Int) = x + (2 * h : Nat) := by
      rw [← Int.add_emod_right, Int.emod_eq_of_lt (by omega) (by omega)]
    rw [he, Nat.mod_eq_of_lt (by omega), if_neg (by omega)]
    omega

theorem satSigned_bounds (w : Nat) (x : Int) : -(2 ^ (w - 1) : Nat) ≤ satSigned w x ∧ satSigned w x < (2 ^ (w - 1) : Nat) := by
  have := Nat.two_pow_pos (w - 1)
  unfold satSigned
  dsimp only
  split
  · omega
  · split <;> omega

/-- An integer that `w` bits hold is not cut. -/
theorem satSigned_of_fits {w : Nat} {x : Int} (hlo : -(2 ^ (w - 1) : Nat) ≤ x) (hhi : x < (2 ^ (w - 1) : Nat)) : satSigned w x = x := by
  unfold satSigned
  dsimp only
  rw [if_neg (by omega), if_neg (by omega)]

theorem signed_mod (w v : Nat) : signed w (v % 2 ^ w) = signed w v := by
  unfold signed
  rw [Nat.mod_mod]

theorem signed_bounds {w : Nat} (hw : 1 ≤ w) (v : Nat) : -(2 ^ (w - 1) : Nat) ≤ signed w v ∧ signed w v < (2 ^ (w - 1) : Nat) := by
  have hp : 2 ^ w = 2 * 2 ^ (w - 1) := by
    rw [← Nat.pow_succ']
    congr 1
    omega
  have := Nat.mod_lt v (Nat.two_pow_pos w)
  unfold signed
  dsimp only
  rw [hp] at *
  generalize 2 ^ (w - 1) = h at *
  split <;> omega

/-- A signed field just written reads what was written, within its limits. -/
theorem State.sfld_setSfld_same (s : State) (f : Fld Reg) (x : Int) (m i : Nat) (h : f.lo ≤ f.hi ∧ f.hi < 64) :
    (s.setSfld f x m i).sfld f m i = satSigned (f.hi + 1 - f.lo) x := by
  obtain ⟨hlo, hhi⟩ := satSigned_bounds (f.hi + 1 - f.lo) x
  unfold State.sfld State.setSfld
  rw [State.fld_setFld_same _ _ _ _ _ h, signed_mod, signed_ofSigned hlo hhi (by omega)]

/-- A register written with the value that it holds changes nothing that is read, where every register at its address has its reset value. -/
theorem State.reg_setReg_own (s : State) (r : Reg) (m i : Nat) (h : ∀ (q : Reg) (n j : Nat), q.addr n j = r.addr m i → q.resetVal = r.resetVal) (q : Reg) (n j : Nat) :
    (s.setReg r m i (s.reg r m i)).reg q n j = s.reg q n j := by
  by_cases ha : r.addr m i = q.addr n j
  · unfold State.setReg State.reg
    rw [h q n j ha.symm, ← ha, BitVec.ofNat_toNat, BitVec.setWidth_eq, Sparse.get_set_same]
  · exact State.reg_setReg_other _ _ _ _ _ _ _ _ ha

end Sys2Proof.Machine
end

section
/-! SUPPORT. STC_NUM read at a phase of the present stitch (R65), and the pulses of the STITCH input (R48). -/

namespace Sys2Proof.Machine

/-- A register of the package window that does not reset to 0 stands above STC_NUM, or at one place other than STC_NUM's. -/
def RegSpec.missesStcNum (t : RegSpec) : Bool :=
  !t.pkg || decide (0x10018 < t.block * 0x10000 + t.off) || (decide (t.stride = 0) && decide (t.stride2 = 0) && decide (t.block * 0x10000 + t.off ≠ 0x10018))

theorem Reg.resetVal_or_missesStcNum (r : Reg) : (decide (r.resetVal = 0) || r.spec.missesStcNum) = true := by
  cases r <;> decide +kernel

/-- Whatever element of whatever register stands at the address of STC_NUM, it resets to 0. -/
theorem Reg.resetVal_at_stcNum (q : Reg) (n j : Nat) (h : q.addr n j = Reg.STC_NUM.addr 0 0) : q.resetVal = 0 := by
  have hat : q.addr n j = 0x10018 := by
    rw [h]
    decide
  have hm := q.resetVal_or_missesStcNum
  simp only [RegSpec.missesStcNum, Bool.or_eq_true, decide_eq_true_eq, Bool.and_eq_true, Bool.not_eq_true'] at hm
  cases hp : q.spec.pkg with
  | false =>
    have := Reg.addr_motif q n j hp
    omega
  | true =>
    unfold Reg.addr windowBase blockSize RegSpec.elemOfs at hat
    rw [hp, if_pos rfl, if_pos rfl] at hat
    rcases hm with h0 | (hm | habove) | ⟨⟨h1, h2⟩, hne⟩
    · exact h0
    · rw [hp] at hm
      cases hm
    · omega
    · rw [h1, h2] at hat
      omega

/-- A read of a register of the package window counts in no performance counter (R474). -/
theorem State.hpmAccess_pkg (s : State) (who : Who) (a : Nat) (h : a < 0x1000000) : s.hpmAccess who (windowMotif who a) [] = s := by
  have hw : ¬ 0x1000000 ≤ a := Nat.not_le.2 h
  unfold windowMotif
  rw [if_neg hw]
  cases who with
  | core c h =>
    unfold State.hpmAccess
    simp only [if_true, List.append_nil]
    rfl
  | engine _ => rfl
  | host => rfl

/-- STC_NUM is read whole: its one field fills it. -/
theorem visible_stcNum {v : Nat} (h : v < 2 ^ 64) : Reg.STC_NUM.spec.visible v = v := by
  show setBits 0 63 0 (bits v 63 0) = v
  rw [setBits_eq _ _ _ _ (by decide)]
  unfold bits
  omega

theorem State.num_eq_reg (s : State) : s.num = s.reg .STC_NUM 0 0 := by
  have := s.reg_lt .STC_NUM 0 0
  unfold State.num State.fld bits
  show s.reg .STC_NUM 0 0 / 2 ^ 0 % 2 ^ 64 = _
  omega

/-- An access of eight bytes at its address performs on STC_NUM (R7). -/
theorem State.regFor_stcNum (s : State) : s.regFor (Reg.STC_NUM.addr 0 0) 8 = some (.STC_NUM, 0, 0) := by
  unfold State.regFor
  rw [show regOfAddr (Reg.STC_NUM.addr 0 0) = some (.STC_NUM, 0, 0) by decide +kernel]
  rfl

/-- Settles O9: such a read is `State.registerRead` of STC_NUM, whose copies agree and which keeps its value. -/
theorem numReadLatches : Obligations.NumReadLatches := by
  unfold Obligations.NumReadLatches
  intro s who p hr ho hlo hhi hag
  generalize hv : s.modStc (fun c => { c with phase := p }) = v
  have hreg : ∀ q n j, v.reg q n j = s.reg q n j := fun q n j => by rw [← hv, State.modStc_reg]
  have hnum : v.num = s.num := by rw [State.num_eq_reg, State.num_eq_reg, hreg]
  have hexec : exec (.stcNumRead who p) s = .next (v.registerRead who (Reg.STC_NUM.addr 0 0) 8) := by
    rw [← hv, ← s.atPhase_eq hlo]
    exact live_on s (fun s => (s.atPhase p).registerRead who (Reg.STC_NUM.addr 0 0) 8) hr
  have hopen : v.regsOpen who = true := by rw [← ho, ← hv]; cases who <;> rfl
  have hans : v.regAnswer who (Reg.STC_NUM.addr 0 0) 8 (Reg.STC_NUM.spec.visible (v.reg .STC_NUM 0 0)) = s.regAnswer who (Reg.STC_NUM.addr 0 0) 8 s.num := by
    rw [visible_stcNum (v.reg_lt ..), ← State.num_eq_reg, hnum, ← hv]
    cases who <;> rfl
  rw [State.registerRead_some _ _ _ _ hopen v.regFor_stcNum, State.answerReg_eq, hans] at hexec
  generalize hb : ({ v with outbox := v.outbox ++ s.regAnswer who (Reg.STC_NUM.addr 0 0) 8 s.num } : State) = b at hexec
  have hvs : v = { s with stc := { s.stc with phase := p } } := hv.symm
  have hbreg : ∀ q n j, b.reg q n j = s.reg q n j := fun q n j => by rw [← hreg, ← hb]; rfl
  have htv : (b.latchedRead .STC_NUM 0 0).tv = s.tv := by
    rw [(b.onlyRegs_latchedRead ..).same State.tv (fun _ _ => rfl), ← hb, hvs]
  rw [State.tvRead_agree s _ htv hag, State.hpmAccess_pkg _ _ _ (by decide)] at hexec
  have honly := b.onlyRegs_latchedRead .STC_NUM 0 0
  obtain ⟨hlatch, hn⟩ := b.fld_latchedRead_stcNum
  have hbs : b = { s with stc := { s.stc with phase := p }, outbox := s.outbox ++ s.regAnswer who (Reg.STC_NUM.addr 0 0) 8 s.num } := by
    rw [← hb, hvs]
  refine ⟨_, hexec, ?_, ?_, ?_, ?_, fun q n j hq => ?_, ?_⟩
  · rw [honly.same State.outbox (fun _ _ => rfl), hbs]
  · rw [hlatch, hbs]
    exact Nat.mod_eq_of_lt (by dsimp only; omega)
  · rw [hn, State.num_eq_reg, State.num_eq_reg, hbreg]
  · rw [honly.same State.stc (fun _ _ => rfl), hbs]
  · rw [State.latchedRead_stcNum, ← State.reg_setFld_other b F.STC_PH_LATCH_PHASE .STC_NUM b.stc.phase 0 0 0 0 (by decide),
      State.reg_setReg_own _ _ _ _ (fun q n j h => q.resetVal_at_stcNum n j h), State.reg_setFld_other _ _ _ _ _ _ _ _ (Ne.symm hq), hbreg]
  · rw [honly.same State.stc (fun _ _ => rfl), honly.same State.outbox (fun _ _ => rfl)]
    refine Eq.trans honly ?_
    rw [hbs]

/-- Settles O11: pulses below 200 ns are dropped, and `decodePulse` is the table of R48. -/
theorem pulseDecoding : Obligations.PulseDecoding := by
  unfold Obligations.PulseDecoding
  refine ⟨fun s err ns hr hns => ?_, fun ns => ?_⟩
  · rw [exec_stitchEdge, execStitchEdge, live_on _ _ hr]
    unfold stitchEdge
    rw [if_pos (Or.inl hns)]
  · unfold decodePulse
    split_ifs <;> simp only [true_iff, false_iff] <;> omega

end Sys2Proof.Machine
end

section
/-! SUPPORT. Lost sources and stitch-number frames (R50 to R52, R56). -/

namespace Sys2Proof.Machine

/-- The fields that a lost source changes (R56). -/
def lostFlds : List (Fld Reg) := [F.STC_ST_SRC_VALID, F.STC_EVT_LOST, F.STC_ST_STATE, F.STC_ST_PICOT_OK]

/-- A lost source is not valid; the frames that wait and the other fields stay (R56). -/
theorem State.sourceLost_shows (s : State) : s.sourceLost.fld F.STC_ST_SRC_VALID = 0 ∧ s.sourceLost.stc.ended = s.stc.ended ∧
    ∀ g, apartFrom lostFlds g = true → s.sourceLost.fld g = s.fld g := by
  have hvalid := State.fld_setFld_same s F.STC_ST_SRC_VALID 0 0 0 (by decide)
  have hkeep : ∀ {f g : Fld Reg}, apartFrom lostFlds g = true → f ∈ lostFlds → f.apart g = true := fun h hf => apartFrom_mem h hf
  unfold State.sourceLost
  dsimp only
  split
  · refine ⟨?_, ?_, fun g hg => ?_⟩
    · rw [State.modStc_fld, State.fld_setFld_apart (by decide), State.fld_setFld_apart (by decide), State.fld_setEvt_apart (by decide)]
      exact hvalid
    · simp only [State.modStc_stc, State.setFld_stc, State.setEvt_stc]
    · rw [State.modStc_fld, State.fld_setFld_apart (hkeep hg (by decide)), State.fld_setFld_apart (hkeep hg (by decide)), State.fld_setEvt_apart (hkeep hg (by decide)), State.modStc_fld,
        State.fld_setFld_apart (hkeep hg (by decide))]
  · exact ⟨(State.modStc_fld ..).trans hvalid, rfl, fun g hg => (State.modStc_fld ..).trans (State.fld_setFld_apart (hkeep hg (by decide)) ..)⟩

/-- A source lost in LOCKED leaves HOLDOVER, from this stitch on (R56). -/
theorem State.sourceLost_locked (s : State) (h : s.fld F.STC_ST_STATE = 1) : s.sourceLost.fld F.STC_ST_STATE = 2 ∧ s.sourceLost.flag F.STC_EVT_LOST = true ∧
    s.sourceLost.fld F.STC_ST_PICOT_OK = 0 ∧ s.sourceLost.stc.holdoverAt = s.num := by
  have hst : (s.setFld F.STC_ST_SRC_VALID 0).fld F.STC_ST_STATE = 1 := by rw [State.fld_setFld_apart (by decide), h]
  unfold State.sourceLost
  dsimp only
  rw [State.modStc_fld, if_pos hst]
  refine ⟨?_, ?_, ?_, ?_⟩
  · rw [State.modStc_fld, State.fld_setFld_apart (by decide), State.fld_setFld_same _ _ _ _ _ (by decide)]
    rfl
  · rw [State.flag_congr (State.modStc_fld ..), State.flag_congr (State.fld_setFld_apart (by decide) ..), State.flag_congr (State.fld_setFld_apart (by decide) ..)]
    exact State.flag_setEvt_same _ F.STC_EVT_LOST 0 (by decide)
  · rw [State.modStc_fld, State.fld_setFld_same _ _ _ _ _ (by decide)]
    rfl
  · rw [State.modStc_stc]
    unfold State.num
    rw [State.fld_setFld_apart (by decide), State.fld_setFld_apart (by decide), State.fld_setEvt_apart (by decide), State.modStc_fld, State.fld_setFld_apart (by decide)]

/-- A frame that breaks off is counted; the third in a row loses a valid source (R51). -/
theorem State.badFrame_shows (s t : State) (ht : t = s.badFrame) (hv : s.flag F.STC_ST_SRC_VALID = true) : t.fld F.STC_CNT_FRAME_ERR = satAdd 65535 (s.fld F.STC_CNT_FRAME_ERR) 1 ∧
    t.flag F.STC_EVT_FRAME_ERR = true ∧ t.stc.ended = s.stc.ended ∧ (s.stc.badRun < 2 → t.flag F.STC_ST_SRC_VALID = true ∧ t.fld F.STC_ST_STATE = s.fld F.STC_ST_STATE) ∧
    (2 ≤ s.stc.badRun → t.flag F.STC_ST_SRC_VALID = false) := by
  unfold State.badFrame at ht
  dsimp only at ht
  generalize hu : ((s.bump F.STC_CNT_FRAME_ERR).setEvt F.STC_EVT_FRAME_ERR).modStc (fun c => { c with badRun := c.badRun + 1, lastGood := none }) = u at ht
  have hcnt : u.fld F.STC_CNT_FRAME_ERR = satAdd 65535 (s.fld F.STC_CNT_FRAME_ERR) 1 := by
    rw [← hu, State.modStc_fld, State.fld_setEvt_apart (by decide), State.fld_bump_same _ _ _ _ _ (by decide)]
    rfl
  have hevt : u.flag F.STC_EVT_FRAME_ERR = true := by
    rw [← hu, State.flag_congr (State.modStc_fld ..)]
    exact State.flag_setEvt_same _ F.STC_EVT_FRAME_ERR 0 (by decide)
  have hvalid : u.flag F.STC_ST_SRC_VALID = true := by
    rw [← hv, ← hu, State.flag_congr (State.modStc_fld ..), State.flag_congr (State.fld_setEvt_apart (by decide) _), State.flag_congr (State.fld_bump_apart (by decide) ..)]
  have hstate : u.fld F.STC_ST_STATE = s.fld F.STC_ST_STATE := by
    rw [← hu, State.modStc_fld, State.fld_setEvt_apart (by decide), State.fld_bump_apart (by decide)]
  have hstc : u.stc = { s.stc with badRun := s.stc.badRun + 1, lastGood := none } := by rw [← hu, State.modStc_stc, State.setEvt_stc, State.bump_stc]
  obtain ⟨hlost, hended, hkeep⟩ := u.sourceLost_shows
  rw [hstc] at ht
  dsimp only at ht
  by_cases h2 : 2 ≤ s.stc.badRun
  · rw [if_pos ⟨by omega, hvalid⟩] at ht
    subst ht
    refine ⟨(hkeep _ (by decide)).trans hcnt, (State.flag_congr (hkeep _ (by decide))).trans hevt, by rw [hended, hstc], fun h => by omega, fun _ => ?_⟩
    unfold State.flag
    rw [hlost]
    rfl
  · rw [if_neg (fun h => h2 (by have := h.1; omega))] at ht
    subst ht
    exact ⟨hcnt, hevt, by rw [hstc], fun _ => ⟨hvalid, hstate⟩, fun h => absurd h h2⟩

/-- A valid frame that agrees with the count ends the runs and is the source's number (R51). -/
theorem State.goodFrame_agrees (s : State) (n at_ : Nat) (hv : s.flag F.STC_ST_SRC_VALID = true) (ha : (n : Int) = (at_ : Int) - signed 64 (s.fld F.STC_NUM_OFS_OFS)) :
    s.goodFrame n at_ = s.modStc (fun c => { c with badRun := 0, disagreeRun := 0, lastGood := some n, srcNum := n, srcAt := at_ }) := by
  unfold State.goodFrame
  rw [decide_eq_true ha]
  dsimp only
  rw [if_pos rfl, if_pos hv, if_pos rfl]

/-- Settles O13: frames by `State.goodFrame` and `State.badFrame`, timeouts by `State.sourceLost`. -/
theorem framesAndLostSources : Obligations.FramesAndLostSources := by
  unfold Obligations.FramesAndLostSources
  intro s hr
  have hlost : s.fld F.STC_ST_STATE = 1 → s.sourceLost.fld F.STC_ST_SRC_VALID = 0 ∧ s.sourceLost.fld F.STC_ST_STATE = 2 ∧ s.sourceLost.flag F.STC_EVT_LOST = true ∧
      s.sourceLost.fld F.STC_ST_PICOT_OK = 0 ∧ s.sourceLost.stc.holdoverAt = s.num := fun h => ⟨s.sourceLost_shows.1, s.sourceLost_locked h⟩
  refine ⟨fun l at_ n rest he hf hv ha => ?_, fun rest he hv => ?_, fun hc hv h => ?_, fun hc hv h => ?_⟩
  · refine ⟨_, live_on s stitchFrame hr, ?_⟩
    unfold stitchFrame
    rw [he]
    dsimp only
    rw [hf]
    exact State.goodFrame_agrees (s.modStc (fun c => { c with ended := rest })) n at_ hv ha
  · refine ⟨_, live_on s stitchFrame hr, ?_⟩
    unfold stitchFrame
    rw [he]
    exact State.badFrame_shows (s.modStc (fun c => { c with ended := rest })) _ rfl hv
  · refine ⟨_, live_on s _ hr, ?_⟩
    rw [if_pos ⟨hc, hv⟩]
    exact hlost h
  · refine ⟨_, live_on s _ hr, ?_⟩
    rw [if_pos ⟨hc, hv⟩]
    exact hlost h

end Sys2Proof.Machine
end

section
/-! SUPPORT. Locks, changes of mode and the start of a stitch (R46, R53 to R56, R99, R101). -/

namespace Sys2Proof.Machine

/-- `t` is `s` but for the registers, the stitch logic, the thermal model, the copies of triple-voted words and the interrupts pending. -/
def State.onlyClock (s t : State) : Prop := t = { s with regs := t.regs, stc := t.stc, therm := t.therm, tv := t.tv, eip := t.eip }

theorem State.onlyClock_refl (s : State) : s.onlyClock s := rfl

theorem State.onlyClock.trans {s t u : State} (h : s.onlyClock t) (g : t.onlyClock u) : s.onlyClock u := by
  unfold State.onlyClock at *
  rw [g, h]

theorem State.onlyClock_of_onlyEvents {s t : State} (h : s.onlyEvents t) : s.onlyClock t := by
  unfold State.onlyClock
  rw [h]

theorem State.onlyClock_of_onlySamples {s t : State} (h : s.onlySamples t) (hm : t.mram = s.mram) : s.onlyClock t := by
  unfold State.onlySamples at h
  unfold State.onlyClock
  rw [hm] at h
  rw [h]

theorem State.tvTurn_mram (s : State) (w i : Nat) (x : Nat × Nat × Nat) : (s.tvTurn w i x).mram = s.mram := by
  unfold State.tvTurn
  dsimp only
  split <;> rfl

theorem State.tvWrote_mram (s : State) (w i : Nat) : (s.tvWrote w i).mram = s.mram := by
  unfold State.tvWrote State.fired
  dsimp only
  split
  · rfl
  · rw [State.setFld_mram, State.setFld_mram, State.tvTurn_mram]

/-- A triple-voted word written touches its copies, and registers where an armed injection fires (R12, R426). -/
theorem State.onlyClock_tvWrote (s : State) (w i : Nat) : s.onlyClock (s.tvWrote w i) :=
  State.onlyClock_of_onlySamples s.onlySamples_refl.tvWrote (s.tvWrote_mram w i)

theorem State.tvWrote_stc (s : State) (w i : Nat) : (s.tvWrote w i).stc = s.stc := s.onlySamples_refl.tvWrote.same State.stc (fun _ _ _ _ => rfl)

theorem State.onlyClock_enterMode (s : State) (m : Nat) : s.onlyClock (s.enterMode m) := by
  refine State.onlyClock_of_onlySamples (s.onlySamples_enterMode m) ?_
  unfold State.enterMode
  dsimp only
  split <;> simp only [State.setFld_mram, State.tvWrote_mram]

/-- STC_ST.PICOT_OK brought in step changes that field alone (R57). -/
theorem State.fld_syncPicot (s : State) {g : Fld Reg} (h : F.STC_ST_PICOT_OK.apart g = true) : s.syncPicot.fld g = s.fld g := by
  unfold State.syncPicot
  exact State.fld_setFld_apart h ..

theorem State.onlyRegs_syncPicot (s : State) : s.onlyRegs s.syncPicot := s.onlyRegs_refl.setFld

/-- The fields that a lock changes (R53, R54). -/
def lockFlds : List (Fld Reg) := [F.STC_NUM_OFS_OFS, F.STC_ST_PH_ERR, F.STC_ST_STATE, F.STC_ST_PICOT_OK]

/-- A lock with the count kept: LOCKED, and phase and slots stay (R54). -/
theorem State.lockKeeping_shows (s : State) : s.lockKeeping = { s with regs := s.lockKeeping.regs, stc := s.lockKeeping.stc } ∧
    s.lockKeeping.stc = { s.stc with relocking := true, badRun := 0, disagreeRun := 0, outRun := 0 } ∧ s.lockKeeping.fld F.STC_ST_STATE = 1 ∧
    ∀ g, apartFrom lockFlds g = true → s.lockKeeping.fld g = s.fld g := by
  have hkeep : ∀ {f g : Fld Reg}, apartFrom lockFlds g = true → f ∈ lockFlds → f.apart g = true := fun h hf => apartFrom_mem h hf
  unfold State.lockKeeping
  dsimp only
  refine ⟨rfl, rfl, ?_, fun g hg => ?_⟩
  · rw [State.fld_syncPicot _ (by decide), State.modStc_fld, State.fld_setFld_same _ _ _ _ _ (by decide)]
    rfl
  · rw [State.fld_syncPicot _ (hkeep hg (by decide)), State.modStc_fld, State.fld_setFld_apart (hkeep hg (by decide)), State.fld_setSfld_apart (hkeep hg (by decide)),
      State.fld_setFld_apart (hkeep hg (by decide))]

/-- Without a valid source, in ACQUIRE and in LOCKED nothing is locked to (R56). -/
theorem State.relockIfValid_idle (s : State) (h : s.flag F.STC_ST_SRC_VALID = false ∨ s.fld F.STC_ST_STATE ≤ 1) : s.relockIfValid = s := by
  unfold State.relockIfValid
  refine if_neg (fun hn => ?_)
  obtain ⟨hv, hs⟩ := hn
  rcases h with h | h
  · rw [h] at hv
    cases hv
  · omega

/-- A lock to a source that is valid, or nothing (R56). -/
theorem State.relockIfValid_shows (s : State) : s.relockIfValid = { s with regs := s.relockIfValid.regs, stc := s.relockIfValid.stc } ∧
    s.relockIfValid.stc.phase = s.stc.phase ∧ s.relockIfValid.stc.slots = s.stc.slots ∧ ∀ g, apartFrom lockFlds g = true → s.relockIfValid.fld g = s.fld g := by
  obtain ⟨honly, hstc, -, hkeep⟩ := s.lockKeeping_shows
  unfold State.relockIfValid
  dsimp only
  split
  · exact ⟨honly, by rw [hstc], by rw [hstc], hkeep⟩
  · exact ⟨rfl, rfl, rfl, fun _ _ => rfl⟩

/-- The fields of the package window that entering Solo leaves alone. -/
def offSolo (g : Fld Reg) : Bool := offMode g && apartFrom [F.PKG_MODE_STAGING, F.PKG_MODE_SOLO_CAUSE, F.PKG_MODE_EV_SOLO] g

/-- Solo entered with a cause: writes complete through the staging journal (R99). -/
theorem State.goSolo_shows (s : State) (c : Nat) (hc : c < 8) : (s.goSolo c).mode = 2 ∧ (s.goSolo c).fld F.PKG_MODE_STAGING = 1 ∧ (s.goSolo c).fld F.PKG_MODE_SOLO_CAUSE = c ∧
    (s.goSolo c).flag F.PKG_MODE_EV_SOLO = true ∧ (∀ g, offSolo g = true → (s.goSolo c).fld g = s.fld g) := by
  obtain ⟨hm, -, -⟩ := s.enterMode_shows 2 (by decide)
  have hmode := s.fld_enterMode 2
  unfold State.goSolo
  generalize s.enterMode 2 = u at hm hmode
  refine ⟨?_, ?_, ?_, State.flag_setEvt_same _ F.PKG_MODE_EV_SOLO 0 (by decide), fun g hg => ?_⟩
  · unfold State.mode
    rw [State.fld_setEvt_apart (by decide), State.fld_setFld_apart (by decide), State.fld_setFld_apart (by decide)]
    exact hm
  · rw [State.fld_setEvt_apart (by decide), State.fld_setFld_apart (by decide), State.fld_setFld_same _ _ _ _ _ (by decide)]
    rfl
  · rw [State.fld_setEvt_apart (by decide), State.fld_setFld_same _ _ _ _ _ (by decide)]
    exact Nat.mod_eq_of_lt hc
  · unfold offSolo at hg
    simp only [Bool.and_eq_true] at hg
    obtain ⟨hoff, hap⟩ := hg
    rw [State.fld_setEvt_apart (apartFrom_mem hap (by decide)), State.fld_setFld_apart (apartFrom_mem hap (by decide)), State.fld_setFld_apart (apartFrom_mem hap (by decide)), hmode g hoff]

theorem State.onlyClock_goSolo (s : State) (c : Nat) : s.onlyClock (s.goSolo c) :=
  (s.onlyClock_enterMode 2).trans (State.onlyClock_of_onlyEvents (s.enterMode 2).onlyEvents_refl.setFld.setFld.setEvt)

theorem State.goSolo_stc (s : State) (c : Nat) : (s.goSolo c).stc = s.stc := by
  unfold State.goSolo
  rw [State.setEvt_stc, State.setFld_stc, State.setFld_stc, (s.onlySamples_enterMode 2).same State.stc (fun _ _ _ _ => rfl)]

/-- A Rethread that the partner head announced makes a Paired head Solo (R99, R101; log 65). -/
theorem State.seeRethread_shows (s : State) : s.onlyClock s.seeRethread ∧ s.seeRethread.stc = s.stc ∧
    s.seeRethread.mode = (if s.pair.last.any (fun r => r.rethread) = true ∧ s.mode = 1 then 2 else s.mode) ∧ ∀ g, offSolo g = true → s.seeRethread.fld g = s.fld g := by
  unfold State.seeRethread
  split
  · rename_i r hl
    rw [hl, Option.any_some]
    split
    · obtain ⟨hm, -, -, -, hkeep⟩ := s.goSolo_shows 3 (by decide)
      exact ⟨s.onlyClock_goSolo 3, s.goSolo_stc 3, hm, hkeep⟩
    · exact ⟨s.onlyClock_refl, rfl, rfl, fun _ _ => rfl⟩
  · rename_i hl
    rw [hl]
    exact ⟨s.onlyClock_refl, rfl, rfl, fun _ _ => rfl⟩

end Sys2Proof.Machine
end

section
/-! SUPPORT. The start of a stitch (R46, R56). -/

namespace Sys2Proof.Machine

/-- The number advanced at phase 0 and the residual error slewed, before a source is locked to (R46). -/
def State.ticked (s : State) : State :=
  (((s.setFld F.STC_NUM_NUM (s.num + 1)).tvWrote 0 0).setSfld F.STC_ST_PH_ERR (slewOne (s.sfld F.STC_ST_PH_ERR))).modStc (fun c => { c with phase := 0, slots := [] })

/-- The caps of R444 renewed, and the hold-up reading a stitch older (R435). -/
def State.aged (s : State) : State :=
  let cap := max 1 (s.fld F.THM_ENF_ADMIT_ATOMS)
  ((s.modTherm (fun c => { c with enfUsed := c.enfDebt.map (fun d => min d cap) })).modTherm (fun c => { c with enfDebt := c.enfDebt.map (fun d => d - cap) })).bump F.PWR_HU_ST_AGE

theorem stitchStart_eq (s : State) : stitchStart s = s.ticked.relockIfValid.aged.seeRethread := rfl

theorem State.ticked_shows (s : State) : s.onlyClock s.ticked ∧ s.ticked.stc = { s.stc with phase := 0, slots := [] } ∧ s.ticked.num = (s.num + 1) % 2 ^ 64 ∧
    s.ticked.sfld F.STC_ST_PH_ERR = slewOne (s.sfld F.STC_ST_PH_ERR) ∧ s.ticked.pair = s.pair ∧
    ∀ g : Fld Reg, g.reg.addr 0 0 < 0x1000000 → apartFrom [F.STC_NUM_NUM, F.STC_ST_PH_ERR] g = true → s.ticked.fld g = s.fld g := by
  have hkeep : ∀ {f g : Fld Reg}, apartFrom [F.STC_NUM_NUM, F.STC_ST_PH_ERR] g = true → f ∈ [F.STC_NUM_NUM, F.STC_ST_PH_ERR] → f.apart g = true := fun h hf => apartFrom_mem h hf
  have hslew : -(2 ^ 15 : Nat) ≤ slewOne (s.sfld F.STC_ST_PH_ERR) ∧ slewOne (s.sfld F.STC_ST_PH_ERR) < (2 ^ 15 : Nat) := by
    obtain ⟨hlo, hhi⟩ := signed_bounds (w := 16) (by decide) (s.fld F.STC_ST_PH_ERR)
    change -(2 ^ 15 : Nat) ≤ s.sfld F.STC_ST_PH_ERR at hlo
    change s.sfld F.STC_ST_PH_ERR < (2 ^ 15 : Nat) at hhi
    unfold slewOne
    split
    · omega
    · split <;> omega
  have hclock : s.onlyClock (((s.setFld F.STC_NUM_NUM (s.num + 1)).tvWrote 0 0).setSfld F.STC_ST_PH_ERR (slewOne (s.sfld F.STC_ST_PH_ERR))) :=
    (State.onlyClock_tvWrote (s.setFld F.STC_NUM_NUM (s.num + 1)) 0 0 |> (State.onlyClock_of_onlyEvents s.onlyEvents_refl.setFld).trans).trans
      (State.onlyClock_of_onlyEvents (State.onlyEvents_refl _).setSfld)
  unfold State.ticked
  refine ⟨hclock.trans rfl, ?_, ?_, ?_, ?_, fun g hw hg => ?_⟩
  · rw [State.modStc_stc, State.setSfld_stc, State.tvWrote_stc, State.setFld_stc]
  · unfold State.num
    rw [State.modStc_fld, State.fld_setSfld_apart (by decide), State.fld_tvWrote _ _ _ _ _ _ (by decide), State.fld_setFld_same _ _ _ _ _ (by decide)]
    rfl
  · refine (State.sfld_setSfld_same _ F.STC_ST_PH_ERR _ 0 0 (by decide)).trans ?_
    exact satSigned_of_fits hslew.1 hslew.2
  · rw [State.modStc_pair, hclock]
  · rw [State.modStc_fld, State.fld_setSfld_apart (hkeep hg (by decide)), State.fld_tvWrote _ _ _ _ _ _ hw, State.fld_setFld_apart (hkeep hg (by decide))]

theorem State.aged_shows (s : State) : s.onlyClock s.aged ∧ s.aged.stc = s.stc ∧ s.aged.pair = s.pair ∧ ∀ g, F.PWR_HU_ST_AGE.apart g = true → s.aged.fld g = s.fld g :=
  ⟨rfl, rfl, rfl, fun _ hg => State.fld_bump_apart hg ..⟩

/-- No command of a twin connection waits for this stitch, and no request for earlier writes. -/
theorem State.takeLate_idle (s : State) (hl : s.net.late = []) (hc : ∀ c ∈ s.net.conns, c.early = []) : s.takeLate = s := by
  have hf : s.net.conns.filter (fun c => c.state == ConnState.rts && !c.early.isEmpty) = [] := by
    refine List.filter_eq_nil_iff.2 (fun c h => ?_)
    rw [hc c h]
    simp
  have hnet : s.modNet (fun n => { n with late := [] }) = s := by
    unfold State.modNet
    rw [← hl]
  unfold State.takeLate
  dsimp only
  rw [hl, hnet]
  unfold State.runWaiting
  show s.each ((s.net.conns.filter (fun c => c.state == ConnState.rts && !c.early.isEmpty)).map (fun c => c.id)) _ = s
  rw [hf]
  rfl

/-- A new stitch: the number counted on, phase 0, no slot fired yet, and a Rethread that was announced taken up (R46, R51, R53, R101). -/
theorem stitchStart_shows (s t : State) (ht : t = stitchStart s) : t.num = (s.num + 1) % 2 ^ 64 ∧ t.stc.phase = 0 ∧ t.stc.slots = [] ∧
    ((s.flag F.STC_ST_SRC_VALID = false ∨ s.fld F.STC_ST_STATE ≤ 1) → t.stc = { s.stc with phase := 0, slots := [] } ∧ t.sfld F.STC_ST_PH_ERR = slewOne (s.sfld F.STC_ST_PH_ERR)) ∧
    t.mode = (if s.pair.last.any (fun r => r.rethread) = true ∧ s.mode = 1 then 2 else s.mode) ∧ s.onlyClock t := by
  obtain ⟨honly, hstc, hnum, herr, hpair, hfld⟩ := s.ticked_shows
  rw [stitchStart_eq] at ht
  generalize s.ticked = u at *
  obtain ⟨vonly, vphase, vslots, vfld⟩ := u.relockIfValid_shows
  have hidle := u.relockIfValid_idle
  have hvpair : u.relockIfValid.pair = u.pair := by rw [vonly]
  have hvclock : u.onlyClock u.relockIfValid := by
    unfold State.onlyClock
    rw [vonly]
  generalize u.relockIfValid = v at *
  obtain ⟨wonly, wstc, wpair, wfld⟩ := v.aged_shows
  generalize v.aged = w at *
  obtain ⟨tonly, tstc, tmode, tfld⟩ := w.seeRethread_shows
  rw [← ht] at tonly tstc tmode tfld
  have hmode : w.mode = s.mode := (wfld F.PKG_MODE_MODE (by decide)).trans ((vfld F.PKG_MODE_MODE (by decide)).trans (hfld F.PKG_MODE_MODE (by decide) (by decide)))
  have hlast : w.pair.last = s.pair.last := by rw [wpair, hvpair, hpair]
  have hsame : (s.flag F.STC_ST_SRC_VALID = false ∨ s.fld F.STC_ST_STATE ≤ 1) → v = u := fun h =>
    hidle (h.imp (fun h => (State.flag_congr (hfld F.STC_ST_SRC_VALID (by decide) (by decide))).trans h) (fun h => (hfld F.STC_ST_STATE (by decide) (by decide)).symm ▸ h))
  refine ⟨?_, ?_, ?_, fun h => ⟨?_, ?_⟩, ?_, ((honly.trans hvclock).trans wonly).trans tonly⟩
  · rw [← hnum]
    exact (tfld F.STC_NUM_NUM (by decide)).trans ((wfld F.STC_NUM_NUM (by decide)).trans (vfld F.STC_NUM_NUM (by decide)))
  · rw [tstc, wstc, vphase, hstc]
  · rw [tstc, wstc, vslots, hstc]
  · rw [tstc, wstc, hsame h, hstc]
  · rw [← herr, ← hsame h]
    unfold State.sfld
    rw [tfld F.STC_ST_PH_ERR (by decide), wfld F.STC_ST_PH_ERR (by decide)]
  · rw [tmode, hmode, hlast]

/-- A PTP update in LOCKED takes its offset as the phase error (R52). -/
theorem ptpUpdate_locked (s : State) (v : Nat) (hsrc : s.fld F.STC_CTL_SRC = 1) (hp : s.flag F.STC_CTL_PTP_VALID = true) (hst : s.fld F.STC_ST_STATE = 1) (t : State)
    (ht : t = ptpUpdate v s) : t.sfld F.STC_ST_PH_ERR = satSigned 16 (Int.tdiv (signed 32 (bits v 31 0)) 5) ∧ t.stc.ptpAt = s.num ∧ t = { s with regs := t.regs, stc := t.stc } := by
  have hkeep : ∀ g : Fld Reg, Reg.STC_PTP_ADJ.addr 0 0 ≠ g.reg.addr 0 0 → (s.setReg .STC_PTP_ADJ 0 0 v).fld g = s.fld g := fun g hg => by
    unfold State.fld
    rw [State.reg_setReg_other _ _ _ _ _ _ _ _ hg]
  have hofs : (s.setReg .STC_PTP_ADJ 0 0 v).sfld F.STC_PTP_ADJ_PH_OFS = signed 32 (bits v 31 0) :=
    congrArg (signed 32) (s.bits_reg_setReg (r := .STC_PTP_ADJ) 0 0 v (f := ⟨31, 0, .wo, .none, .fixed, 0, .pw⟩) (by decide))
  unfold ptpUpdate at ht
  dsimp only at ht
  rw [if_neg (by rw [hkeep F.STC_CTL_SRC (by decide), State.flag_congr (hkeep F.STC_CTL_PTP_VALID (by decide)), hsrc, hp]; simp), State.modStc_fld,
    if_pos ((hkeep F.STC_ST_STATE (by decide)).trans hst)] at ht
  subst ht
  refine ⟨?_, hkeep F.STC_NUM_NUM (by decide), rfl⟩
  rw [← hofs]
  exact State.sfld_setSfld_same _ F.STC_ST_PH_ERR _ 0 0 (by decide)

/-- Relocked (R54): the event, and LOCKED as before. -/
theorem State.relocked_shows (s : State) (t : State) (ht : t = ((s.modStc (fun c => { c with relocking := false })).setEvt F.STC_EVT_RELOCK).syncPicot) :
    t.stc = { s.stc with relocking := false } ∧ t.flag F.STC_EVT_RELOCK = true ∧ t.fld F.STC_ST_STATE = s.fld F.STC_ST_STATE ∧ t = { s with regs := t.regs, eip := t.eip, stc := t.stc } := by
  generalize hu : (s.modStc (fun c => { c with relocking := false })).setEvt F.STC_EVT_RELOCK = u at ht
  have hevt : u.flag F.STC_EVT_RELOCK = true := hu ▸ State.flag_setEvt_same _ F.STC_EVT_RELOCK 0 (by decide)
  have hst : u.fld F.STC_ST_STATE = s.fld F.STC_ST_STATE := by rw [← hu, State.fld_setEvt_apart (by decide), State.modStc_fld]
  have hstc : u.stc = { s.stc with relocking := false } := by rw [← hu, State.setEvt_stc, State.modStc_stc]
  have honly : (s.modStc (fun c => { c with relocking := false })).onlyEvents u := hu ▸ (State.onlyEvents_refl _).setEvt
  have htu := u.onlyRegs_syncPicot
  rw [← ht] at htu
  have htstc : t.stc = u.stc := htu.same State.stc (fun _ _ => rfl)
  refine ⟨htstc.trans hstc, ?_, ?_, ?_⟩
  · rw [← hevt, ht]
    exact State.flag_congr (u.fld_syncPicot (by decide))
  · rw [← hst, ht]
    exact u.fld_syncPicot (by decide)
  · rw [htstc, hstc]
    exact honly.trans (State.onlyEvents_of_onlyRegs htu)

/-- The fields that the end of a step of the Winding leaves alone. -/
def offStep (g : Fld Reg) : Bool :=
  apartFrom [F.PKG_WIND_STEP, F.PKG_WIND_ELAPSED] g && (List.range 14).all (fun k => decide (Reg.PKG_WIND_TIME.addr 0 k ≠ g.reg.addr 0 0))

/-- A step of the Winding ends: its time is noted and the next one begins (R93). -/
theorem State.stepDone_shows (s : State) (n us : Nat) (hn : 1 ≤ n ∧ n ≤ 14) : (s.stepDone n us).fld F.PKG_WIND_STEP = n + 1 ∧
    (s.stepDone n us).fld F.PKG_WIND_TIME_TIME_US 0 (n - 1) = min us 0xFFFFFFFF ∧ s.onlyRegs (s.stepDone n us) ∧ ∀ g, offStep g = true → (s.stepDone n us).fld g = s.fld g := by
  have haddr : ∀ k < 14, Reg.PKG_WIND_TIME.addr 0 k ≠ Reg.PKG_WIND.addr 0 0 := by decide
  have hw : Reg.PKG_WIND.addr 0 0 ≠ Reg.PKG_WIND_TIME.addr 0 (n - 1) := Ne.symm (haddr (n - 1) (by omega))
  unfold State.stepDone
  dsimp only
  refine ⟨?_, ?_, s.onlyRegs_refl.setFld.setFld.setFld, fun g hg => ?_⟩
  · rw [State.fld_setFld_apart (by decide), State.fld_setFld_same _ _ _ _ _ (by decide)]
    exact Nat.mod_eq_of_lt (by simp only [Nat.reduceAdd, Nat.reduceSub, Nat.reducePow]; omega)
  · rw [State.fld_setFld_reg _ F.PKG_WIND_ELAPSED _ _ _ _ _ _ hw, State.fld_setFld_reg _ F.PKG_WIND_STEP _ _ _ _ _ _ hw, State.fld_setFld_same _ _ _ _ _ (by decide)]
    exact Nat.mod_eq_of_lt (by simp only [Nat.reduceAdd, Nat.reduceSub, Nat.reducePow]; omega)
  · simp only [offStep, Bool.and_eq_true, List.all_eq_true, List.mem_range, decide_eq_true_eq] at hg
    obtain ⟨hap, htime⟩ := hg
    rw [State.fld_setFld_apart (apartFrom_mem hap (by decide)), State.fld_setFld_apart (apartFrom_mem hap (by decide)),
      State.fld_setFld_reg _ F.PKG_WIND_TIME_TIME_US _ _ _ _ _ _ (htime (n - 1) (by omega))]

/-- Where neither a partner head in service nor an own valid source is there, the lock of step 10 waits in ACQUIRE (R56). -/
theorem State.lockStep_none (s : State) (hst : s.fld F.STC_ST_STATE = 0) (hv : s.flag F.STC_ST_SRC_VALID = false) (hp : s.partnerInService = false) : s.lockStep = none := by
  unfold State.lockStep
  rw [hp]
  dsimp only
  rw [if_neg (not_not_intro hst), hv, if_neg Bool.false_ne_true]

/-- A head without a source enters FREE (R56). -/
theorem State.free_shows (s : State) (t : State) (ht : t = (s.setFld F.STC_ST_STATE 5).syncPicot) : t.fld F.STC_ST_STATE = 5 ∧ s.onlyRegs t := by
  subst ht
  refine ⟨?_, s.onlyRegs_refl.setFld.trans (s.setFld F.STC_ST_STATE 5).onlyRegs_syncPicot⟩
  rw [State.fld_syncPicot _ (by decide), State.fld_setFld_same _ _ _ _ _ (by decide)]
  rfl

/-- One second in HOLDOVER: FREE without the bride link, BRIDE_FOLLOW with a partner head that is LOCKED (R56). -/
theorem holdoverExpiry_shows (s t : State) (ht : t = holdoverExpiry s) (hst : s.fld F.STC_ST_STATE = 2) : t.flag F.STC_EVT_HOLD_EXPIRED = true ∧
    (s.flag F.BRD_ST_LINK_UP = false → t.fld F.STC_ST_STATE = 5) ∧
    (∀ r, s.flag F.BRD_ST_LINK_UP = true → s.pair.last = some r → r.stcState = 1 → t.fld F.STC_ST_STATE = 4 ∧ t.flag F.STC_EVT_BRIDE = true) := by
  unfold holdoverExpiry at ht
  dsimp only at ht
  rw [if_neg (not_not_intro hst)] at ht
  have hevt := State.flag_setEvt_same s F.STC_EVT_HOLD_EXPIRED 0 (by decide)
  have hst' : (s.setEvt F.STC_EVT_HOLD_EXPIRED).fld F.STC_ST_STATE = 2 := (State.fld_setEvt_apart (by decide) s).trans hst
  have hup : (s.setEvt F.STC_EVT_HOLD_EXPIRED).flag F.BRD_ST_LINK_UP = s.flag F.BRD_ST_LINK_UP := State.flag_congr (State.fld_setEvt_apart (by decide) s)
  have hlast : (s.setEvt F.STC_EVT_HOLD_EXPIRED).pair = s.pair := State.setEvt_pair ..
  rw [hup, hlast] at ht
  generalize s.setEvt F.STC_EVT_HOLD_EXPIRED = u at *
  have hfree : (u.setFld F.STC_ST_STATE 5).flag F.STC_EVT_HOLD_EXPIRED = true := (State.flag_congr (State.fld_setFld_apart (by decide) ..)).trans hevt
  have hbride : ∀ st, st < 8 → st ≠ 2 → (u.enterBride st).fld F.STC_ST_STATE = st ∧ (u.enterBride st).flag F.STC_EVT_BRIDE = true ∧ (u.enterBride st).flag F.STC_EVT_HOLD_EXPIRED = true := by
    intro st h8 h2
    unfold State.enterBride
    rw [if_neg (by rw [hst']; exact Ne.symm h2)]
    refine ⟨?_, State.flag_setEvt_same _ F.STC_EVT_BRIDE 0 (by decide), ?_⟩
    · rw [State.fld_setEvt_apart (by decide), State.fld_setFld_same _ _ _ _ _ (by decide)]
      exact Nat.mod_eq_of_lt h8
    · rw [State.flag_congr (State.fld_setEvt_apart (by decide) _), State.flag_congr (State.fld_setFld_apart (by decide) ..), hevt]
  refine ⟨?_, fun h => ?_, fun r h hr hs => ?_⟩
  · rw [ht]
    split
    · exact (hbride _ (by split <;> omega) (by split <;> omega)).2.2
    · exact hfree
  · rw [ht, h]
    exact (State.fld_setFld_same _ _ _ _ _ (by decide)).trans rfl
  · rw [ht, h, hr]
    dsimp only
    rw [hs, if_pos (by simp)]
    exact ⟨(hbride 4 (by decide) (by decide)).1, (hbride 4 (by decide) (by decide)).2.1⟩

/-- RETRY written with the pricking closed and the STITCH input selected (R55): MISMATCH_HOLD and RETRY are 0. -/
theorem writeStcCtl_retry (s : State) (v : Nat) (hb : bit v 4 = true) (hsrc : s.fld F.STC_CTL_SRC = 0) (hcl : s.plClosed = true) (hv : s.flag F.STC_ST_SRC_VALID = false) :
    (writeStcCtl v s).fld F.STC_ST_MISMATCH_HOLD = 0 ∧ (writeStcCtl v s).fld F.STC_CTL_RETRY = 0 ∧ (writeStcCtl v s).flag F.STC_ST_SRC_VALID = false := by
  have hh : ∀ t : State, t.heldBits .STC_CTL 0 0 = [] := fun _ => rfl
  have hsrc' : (s.softWrite .STC_CTL 0 0 v).fld F.STC_CTL_SRC = 0 := by
    unfold State.fld
    rw [State.bits_softWrite _ _ _ _ _ rfl hh (f := ⟨0, 0, .rw, .pl, .hw, 0, .p⟩) (by decide), hcl]
    exact hsrc
  have hretry : (s.softWrite .STC_CTL 0 0 v).flag F.STC_CTL_RETRY = true := by
    unfold State.flag State.fld
    rw [State.bits_softWrite _ _ _ _ _ rfl hh (f := ⟨4, 4, .w1s, .none, .fixed, 0, .pw⟩) (by decide), show ∀ b, FieldSpec.isPL ⟨4, 4, .w1s, .none, .fixed, 0, .pw⟩ b = false from fun _ => rfl, Bool.and_false]
    refine (or_ne_zero _ (bits v 4 4)).trans ?_
    rw [bits_one_ne_zero v 4, hb, Bool.true_or]
  have hvalid : (s.softWrite .STC_CTL 0 0 v).flag F.STC_ST_SRC_VALID = false := by
    rw [← hv]
    unfold State.flag State.fld
    rw [State.reg_softWrite_other _ _ _ _ _ rfl hh _ _ _ (by decide) (by decide)]
  have hsame : (s.softWrite .STC_CTL 0 0 v).sourceChanged (s.fld F.STC_CTL_SRC) = s.softWrite .STC_CTL 0 0 v := if_pos (hsrc'.trans hsrc.symm)
  have hlost : ¬((s.softWrite .STC_CTL 0 0 v).fld F.STC_CTL_SRC = 1 ∧ ¬(s.softWrite .STC_CTL 0 0 v).flag F.STC_CTL_PTP_VALID = true ∧
      (s.softWrite .STC_CTL 0 0 v).flag F.STC_ST_SRC_VALID = true) := by simp [hvalid]
  unfold writeStcCtl
  dsimp only
  rw [hsame, if_neg hlost, hretry, if_pos rfl]
  generalize s.softWrite .STC_CTL 0 0 v = u at *
  have hvalid' : ((u.setFld F.STC_ST_MISMATCH_HOLD 0).setFld F.STC_CTL_RETRY 0).flag F.STC_ST_SRC_VALID = false := by
    rw [State.flag_congr (State.fld_setFld_apart (by decide) ..), State.flag_congr (State.fld_setFld_apart (by decide) ..), hvalid]
  rw [State.relockIfValid_idle _ (.inl hvalid')]
  refine ⟨?_, State.fld_setFld_same _ _ _ _ _ (by decide), hvalid'⟩
  rw [State.fld_setFld_apart (by decide), State.fld_setFld_same _ _ _ _ _ (by decide)]
  rfl

/-- Settles O14: each command of the stitch clock by its lemma. -/
theorem stitchClock : Obligations.StitchClock := by
  unfold Obligations.StitchClock
  intro s hr
  refine ⟨fun hl hc => ?_, fun v hsrc hp hst => ⟨_, live_on s (ptpUpdate v) hr, ptpUpdate_locked s v hsrc hp hst _ rfl⟩, fun hk hst hlo hhi => ⟨_, live_on s _ hr, ?_⟩,
    fun hin hst hv hp => ⟨_, live_on s _ hr, ?_⟩, fun hst => ⟨_, live_on s holdoverExpiry hr, holdoverExpiry_shows s _ rfl hst⟩,
    fun v hb hsrc hcl hv => ⟨_, live_on s (writeStcCtl v) hr, writeStcCtl_retry s v hb hsrc hcl hv⟩⟩
  · obtain ⟨hnum, hphase, hslots, hkept, hmode, honly⟩ := stitchStart_shows s _ rfl
    have hnet : (stitchStart s).net = s.net := by rw [honly]
    have hlate : (stitchStart s).takeLate = stitchStart s := State.takeLate_idle _ (hnet ▸ hl) (hnet ▸ hc)
    refine ⟨_, live_on s (fun s => (stitchStart s).takeLate) hr, ?_⟩
    rw [hlate]
    exact ⟨hnum, hphase, hslots, hkept, hmode, honly⟩
  · rw [if_pos ⟨hk, hst, hlo, hhi⟩]
    obtain ⟨hstc, hevt, hstate, honly⟩ := s.relocked_shows _ rfl
    exact ⟨hstc, hevt, hstate.trans hst, honly⟩
  · rw [if_pos hin, s.lockStep_none hst hv hp]
    dsimp only
    rw [if_neg (not_not_intro hst), hv, if_neg Bool.false_ne_true]
    obtain ⟨hfree, hregs⟩ := s.free_shows _ rfl
    obtain ⟨hstep, htime, hdone, hkeep⟩ := State.stepDone_shows ((s.setFld F.STC_ST_STATE 5).syncPicot) 10 100000 (by decide)
    exact ⟨(hkeep F.STC_ST_STATE (by decide)).trans hfree, hstep, htime, hregs.trans hdone⟩

end Sys2Proof.Machine
end

section
/-! SUPPORT. Phase comparators (R63, R64). -/

namespace Sys2Proof.Machine

/-- An identity that a hart of the package can take is left pending (R475). -/
theorem State.raiseIrq_mem_eip (s : State) {m h l n : Nat} (hm : s.hasMotif m = true) (hh : h ≤ 8) (hn : 1 ≤ n ∧ n ≤ 511) : (m, h, l, n) ∈ (s.raiseIrq m h l n).eip := by
  unfold State.raiseIrq
  by_cases hc : s.eip.contains (m, h, l, n) = true
  · rw [if_neg (fun h => h.2.2.2.2 hc)]
    exact List.contains_iff_mem.1 hc
  · rw [if_pos ⟨hn.1, hn.2, hh, hm, hc⟩]
    exact List.mem_append_right _ (List.mem_singleton_self _)

/-- What is pending stays pending. -/
theorem State.raiseIrq_keeps (s : State) (m h l n : Nat) {x : Nat × Nat × Nat × Nat} (hx : x ∈ s.eip) : x ∈ (s.raiseIrq m h l n).eip := by
  unfold State.raiseIrq
  split
  · exact List.mem_append_left _ hx
  · exact hx

theorem State.setEvt_keeps (s : State) (f : Fld Reg) (m : Nat) {x : Nat × Nat × Nat × Nat} (hx : x ∈ s.eip) : x ∈ (s.setEvt f m).eip := by
  unfold State.setEvt
  split
  · exact hx
  · exact State.raiseIrq_keeps _ _ _ _ _ hx

/-- A comparator's control and its target stand apart. -/
theorem addr_stcCmpC_ne_stcCmpT (j : Nat) : Reg.STC_CMP_C.addr 0 j ≠ Reg.STC_CMP_T.addr 0 j := by
  simp [Reg.addr, Reg.spec, RegSpec.elemOfs, spec_STC_CMP_C, spec_STC_CMP_T]

theorem State.onlyEvents_cmpAdvance {s t : State} (h : s.onlyEvents t) (j k : Nat) : s.onlyEvents (t.cmpAdvance j k) := by
  unfold State.cmpAdvance
  dsimp only
  split
  · exact h.setFld
  · exact h.setFld

theorem State.cmpAdvance_eip (s : State) (j k : Nat) : (s.cmpAdvance j k).eip = s.eip := by
  unfold State.cmpAdvance
  dsimp only
  split <;> exact State.setFld_eip ..

/-- A one-shot is disarmed (R63). -/
theorem State.cmpAdvance_oneShot (s : State) (j k : Nat) (h : s.fld F.STC_CMP_C_PERIOD 0 j = 0) : (s.cmpAdvance j k).flag F.STC_CMP_C_EN 0 j = false := by
  unfold State.cmpAdvance
  dsimp only
  rw [if_pos h]
  exact State.flag_setFld_zero _ F.STC_CMP_C_EN 0 j (by decide)

/-- A periodic comparator stays armed, with its target moved on (R63). -/
theorem State.cmpAdvance_periodic (s : State) (j k : Nat) (h : s.fld F.STC_CMP_C_PERIOD 0 j ≠ 0) : (s.cmpAdvance j k).flag F.STC_CMP_C_EN 0 j = s.flag F.STC_CMP_C_EN 0 j ∧
    (s.cmpAdvance j k).fld F.STC_CMP_T_TARGET 0 j = (s.fld F.STC_CMP_T_TARGET 0 j + k * s.fld F.STC_CMP_C_PERIOD 0 j) % 2 ^ 64 := by
  unfold State.cmpAdvance
  dsimp only
  rw [if_neg h]
  exact ⟨State.flag_congr (State.fld_setFld_reg _ _ _ _ _ _ _ _ (Ne.symm (addr_stcCmpC_ne_stcCmpT j))), State.fld_setFld_same _ F.STC_CMP_T_TARGET _ 0 j (by decide)⟩

/-- A comparator that has reached its target and phase fires (R63). -/
theorem comparatorFire_shows (s : State) (j : Nat) (hj : j < 64) (hm : s.hasMotif (s.fld F.STC_CMP_C_MOTIF 0 j) = true) (hh : s.fld F.STC_CMP_C_HART 0 j ≤ 8)
    (hen : s.flag F.STC_CMP_C_EN 0 j = true) (hn : s.num = s.fld F.STC_CMP_T_TARGET 0 j) (hp : s.stc.phase ≤ s.fld F.STC_CMP_C_PHASE 0 j)
    (h1000 : s.fld F.STC_CMP_C_PHASE 0 j < 1000) (t : State) (ht : t = comparatorFire j s) :
    (s.fld F.STC_CMP_C_MOTIF 0 j, s.fld F.STC_CMP_C_HART 0 j, 0, 0x100 + j) ∈ t.eip ∧ t.stc.phase = s.fld F.STC_CMP_C_PHASE 0 j ∧
    (s.fld F.STC_CMP_C_PERIOD 0 j = 0 → t.flag F.STC_CMP_C_EN 0 j = false) ∧
    (s.fld F.STC_CMP_C_PERIOD 0 j ≠ 0 → t.flag F.STC_CMP_C_EN 0 j = true ∧
      t.fld F.STC_CMP_T_TARGET 0 j = (s.fld F.STC_CMP_T_TARGET 0 j + s.fld F.STC_CMP_C_PERIOD 0 j) % 2 ^ 64) ∧
    t = { s with regs := t.regs, eip := t.eip, stc := t.stc } := by
  unfold comparatorFire at ht
  rw [if_pos ⟨hj, hen, hn, hp, h1000⟩, s.atPhase_eq hp] at ht
  generalize hu : (s.modStc (fun c => { c with phase := s.fld F.STC_CMP_C_PHASE 0 j })).cmpInterrupt j = u at ht
  have honly : (s.modStc (fun c => { c with phase := s.fld F.STC_CMP_C_PHASE 0 j })).onlyEvents u := hu ▸ (State.onlyEvents_refl _).raiseIrq
  have hfld : ∀ (g : Fld Reg) (i : Nat), u.fld g 0 i = s.fld g 0 i := fun g i => by
    rw [← hu]
    exact State.raiseIrq_fld ..
  have heip : (s.fld F.STC_CMP_C_MOTIF 0 j, s.fld F.STC_CMP_C_HART 0 j, 0, 0x100 + j) ∈ u.eip := hu ▸ State.raiseIrq_mem_eip _ hm hh ⟨by omega, by omega⟩
  have htu := State.onlyEvents_cmpAdvance honly j 1
  rw [← ht] at htu
  have hstc : t.stc = { s.stc with phase := s.fld F.STC_CMP_C_PHASE 0 j } := htu.same State.stc (fun _ _ _ => rfl)
  refine ⟨?_, by rw [hstc], fun h0 => ?_, fun h0 => ?_, ?_⟩
  · rw [ht, State.cmpAdvance_eip]
    exact heip
  · rw [ht]
    exact State.cmpAdvance_oneShot _ _ _ ((hfld F.STC_CMP_C_PERIOD j).trans h0)
  · obtain ⟨harmed, htarget⟩ := u.cmpAdvance_periodic j 1 (by rw [hfld]; exact h0)
    rw [ht]
    refine ⟨harmed.trans ((State.flag_congr (hfld F.STC_CMP_C_EN j)).trans hen), htarget.trans ?_⟩
    rw [hfld, hfld, Nat.one_mul]
  · rw [hstc]
    exact htu

theorem State.atPhase_only (s : State) (p : Nat) : s.atPhase p = { s with stc := (s.atPhase p).stc } := by
  unfold State.atPhase
  split <;> rfl

/-- A one-shot comparator armed after its target's stitch fires at once (R64). -/
theorem writeCmpC_late (s : State) (j v : Nat) (hj : j < 64) (hl : s.inLockSet .STC_CMP_C 0 j = false) (hoff : s.flag F.STC_CMP_C_EN 0 j = false) (hb : bit v 31 = true)
    (ht : s.fld F.STC_CMP_T_TARGET 0 j < s.num) (hone : bits v 63 32 = 0) (hh : bits v 23 20 ≤ 8) (hm : s.hasMotif (bits v 18 16) = true) :
    (bits v 18 16, bits v 23 20, 0, 0x100 + j) ∈ (writeCmpC j v s).eip ∧ (writeCmpC j v s).flag F.STC_EVT_CMP_LATE = true ∧ (writeCmpC j v s).flag F.STC_CMP_C_EN 0 j = false := by
  have hheld : ∀ t : State, t.heldBits .STC_CMP_C 0 j = [] := fun _ => rfl
  have hro : roSlot .STC_CMP_C j = false := rfl
  have hrw : ∀ {f : FieldSpec}, f ∈ Reg.STC_CMP_C.spec.fields → f.acc = .rw ∧ f.extra = .none → (s.softWrite .STC_CMP_C 0 j v).fld ⟨.STC_CMP_C, f.hi, f.lo⟩ 0 j = bits v f.hi f.lo :=
    fun hf ha => State.fld_softWrite_rw s _ 0 j v hro hheld hl hf ha
  have hother : ∀ (q : Reg) (i : Nat), Reg.STC_CMP_C.addr 0 j ≠ q.addr 0 i → Reg.PRK_LOCK_CNT.addr 0 0 ≠ q.addr 0 i → (s.softWrite .STC_CMP_C 0 j v).reg q 0 i = s.reg q 0 i :=
    fun q i h h' => State.reg_softWrite_other _ _ _ _ _ hro hheld _ _ _ h h'
  have haddr : ∀ i < 64, Reg.STC_CMP_C.addr 0 i ≠ Reg.STC_NUM.addr 0 0 ∧ Reg.STC_CMP_C.addr 0 i ≠ Reg.STC_EVT.addr 0 0 ∧ Reg.PRK_LOCK_CNT.addr 0 0 ≠ Reg.STC_CMP_T.addr 0 i := by decide
  obtain ⟨hnumAddr, hevtAddr, hcntAddr⟩ := haddr j hj
  have hmotif := hrw (f := ⟨18, 16, .rw, .none, .fixed, 0, .pw⟩) (by decide) (by decide)
  have hhart := hrw (f := ⟨23, 20, .rw, .none, .fixed, 0, .pw⟩) (by decide) (by decide)
  have hperiod := hrw (f := ⟨63, 32, .rw, .none, .fixed, 0, .pw⟩) (by decide) (by decide)
  have hen : (s.softWrite .STC_CMP_C 0 j v).flag F.STC_CMP_C_EN 0 j = true := by
    unfold State.flag
    rw [hrw (f := ⟨31, 31, .rw, .none, .fixed, 0, .pw⟩) (by decide) (by decide)]
    exact (bits_one_ne_zero v 31).trans hb
  have hpassed : (s.softWrite .STC_CMP_C 0 j v).cmpPassed j = true := by
    have hlate : (s.softWrite .STC_CMP_C 0 j v).fld F.STC_CMP_T_TARGET 0 j < (s.softWrite .STC_CMP_C 0 j v).num := by
      unfold State.num State.fld at *
      rw [hother .STC_CMP_T j (addr_stcCmpC_ne_stcCmpT j) hcntAddr, hother .STC_NUM 0 hnumAddr (by decide)]
      exact ht
    unfold State.cmpPassed
    dsimp only
    rw [decide_eq_true hlate, Bool.true_or]
  have hmot' : (s.softWrite .STC_CMP_C 0 j v).hasMotif (bits v 18 16) = true := by
    rw [← hm]
    exact (State.onlyRegs_softWrite _ _ _ _ _ hro hheld).same (fun t => t.hasMotif (bits v 18 16)) (fun _ _ => rfl)
  unfold writeCmpC
  dsimp only
  rw [if_pos ⟨by rw [hoff]; exact Bool.false_ne_true, hen, hpassed⟩]
  generalize s.softWrite .STC_CMP_C 0 j v = u at *
  have heip : (bits v 18 16, bits v 23 20, 0, 0x100 + j) ∈ (u.cmpInterrupt j).eip := by
    unfold State.cmpInterrupt
    rw [hmotif, hhart]
    exact State.raiseIrq_mem_eip _ hmot' hh ⟨by omega, by omega⟩
  have hper : ((u.cmpInterrupt j).setEvt F.STC_EVT_CMP_LATE).fld F.STC_CMP_C_PERIOD 0 j = 0 := by
    rw [State.fld_setEvt_reg _ F.STC_EVT_CMP_LATE _ _ _ _ (Ne.symm hevtAddr)]
    exact (State.raiseIrq_fld ..).trans (hperiod.trans hone)
  refine ⟨?_, ?_, State.cmpAdvance_oneShot _ _ _ hper⟩
  · rw [State.cmpAdvance_eip]
    exact State.setEvt_keeps _ _ _ heip
  · generalize u.cmpPeriods j = k
    unfold State.cmpAdvance
    dsimp only
    rw [if_pos hper, State.flag_congr (State.fld_setFld_reg _ F.STC_CMP_C_EN _ _ _ _ _ _ hevtAddr)]
    exact State.flag_setEvt_same _ F.STC_EVT_CMP_LATE 0 (by decide)

/-- Settles O15: a firing by `comparatorFire_shows`, a late arming by `writeCmpC_late`. -/
theorem comparators : Obligations.Comparators := by
  unfold Obligations.Comparators
  intro s j hr hj
  refine ⟨fun hm hh hen hn hp h1000 => ⟨_, live_on s (comparatorFire j) hr, comparatorFire_shows s j hj hm hh hen hn hp h1000 _ rfl⟩, fun v p hl hoff hb ht hone hh hm => ?_⟩
  rw [exec_comparatorEnable, execComparatorEnable, live_on _ _ hr, if_pos hj]
  refine ⟨_, rfl, ?_⟩
  generalize p % 1000 = ph
  have hat := s.atPhase_only ph
  refine writeCmpC_late (s.atPhase ph) j v hj ?_ ((State.flag_congr (State.atPhase_fld ..)).trans hoff) hb ?_ hone hh ?_
  · rw [hat]
    exact hl
  · unfold State.num
    rw [State.atPhase_fld, State.atPhase_fld]
    exact ht
  · rw [hat]
    exact hm

end Sys2Proof.Machine
end

section
/-! SUPPORT. Frames sent on the bride groups (R112, R113), and the stitch record (R59, R61, R114, R115). -/

namespace Sys2Proof.Machine

/-- What every element's step keeps, and what the step of each element reaches for good. -/
theorem State.each_reaches {α : Type} (p : State → Prop) (q : α → State → Prop) (f : State → α → State) (h : ∀ t a, p t → p (f t a) ∧ q a (f t a))
    (hk : ∀ t a b, p t → q a t → q a (f t b)) (s : State) (l : List α) (hs : p s) : p (s.each l f) ∧ ∀ a ∈ l, q a (s.each l f) := by
  induction l generalizing s with
  | nil => exact ⟨hs, fun _ ha => absurd ha List.not_mem_nil⟩
  | cons b l ih =>
    obtain ⟨hp, hq⟩ := ih (f s b) (h s b hs).1
    refine ⟨hp, fun a ha => (List.mem_cons.1 ha).elim (fun hab => ?_) (hq a)⟩
    subst hab
    have hboth := State.each_holds (fun t => p t ∧ q a t) (f s a) l f (h s a hs) (fun t c _ ht => ⟨(h t c ht.1).1, hk t a c ht.1 ht.2⟩)
    exact hboth.2

theorem setAt_eq_set {α : Type} (l : List α) (i : Nat) (v : α) : setAt l i v = l.set i v := by
  induction l generalizing i with
  | nil => rfl
  | cons a l ih => cases i with
    | zero => rfl
    | succ i => exact congrArg (a :: ·) (ih i)

/-- A bride group changed, and the others as they are. -/
theorem State.group_modGroup (s : State) (g a : Nat) (f : BrideGroup → BrideGroup) (h : g < s.pair.groups.length) :
    (s.modGroup g f).group a = if a = g then f (s.group g) else s.group a := by
  show (setAt s.pair.groups g (f (s.group g))).getD a default = _
  rw [setAt_eq_set, List.getD_eq_getElem?_getD, List.getElem?_set]
  by_cases ha : a = g
  · rw [if_pos ha.symm, if_pos ha, if_pos h]
    rfl
  · rw [if_neg (Ne.symm ha), if_neg ha, ← List.getD_eq_getElem?_getD]
    rfl

/-- A group that is up is one of the pair's. -/
theorem State.groupUp_lt {s : State} {g : Nat} (h : s.groupUp g = true) : g < s.pair.groups.length := by
  simp only [State.groupUp, Bool.and_eq_true, decide_eq_true_eq] at h
  refine Nat.lt_of_not_le (fun hl => absurd h.2 ?_)
  unfold State.group
  rw [List.getD_eq_default _ _ hl]
  exact Nat.lt_irrefl 0

/-- A record goes at once on a group that is up: channel 0 never waits (R113). -/
theorem State.sendOn_record (s : State) (g : Nat) (r : Record) (h : s.groupUp g = true) : s.sendOn g (.record r) = s.transmit g (.record r) := by
  unfold State.sendOn
  rw [h]
  rfl

/-- A group that is up after a frame has gone out on one (R112). -/
theorem State.group_transmit (s : State) (g a : Nat) (p : BridePay) (h : s.groupUp g = true) : (s.transmit g p).group a =
    if a = g then { s.group g with txSeq := nextSeq (s.group g).txSeq, unacked := (s.group g).unacked ++ [(nextSeq (s.group g).txSeq, p)] } else s.group a := by
  refine Eq.trans ?_ (State.group_modGroup s g a (fun b => { b with txSeq := nextSeq (s.group g).txSeq, unacked := b.unacked ++ [(nextSeq (s.group g).txSeq, p)] }) (State.groupUp_lt h))
  unfold State.transmit State.group
  rw [State.emit_pair]

theorem State.transmit_outbox (s : State) (g : Nat) (p : BridePay) :
    (s.transmit g p).outbox = if s.txOff then s.outbox else s.outbox ++ [.bride g (s.wire g (nextSeq (s.group g).txSeq) p)] :=
  State.emit_outbox _ _

/-- Only frames have gone out: the groups keep their lanes and the SEQ they have heard, and what has left the block stays. -/
def State.sends (s t : State) : Prop :=
  t = { s with pair := { s.pair with groups := t.pair.groups }, outbox := t.outbox } ∧ (∀ a, (t.group a).lanes = (s.group a).lanes ∧ (t.group a).rxSeq = (s.group a).rxSeq) ∧ s.outGrows t

theorem State.sends_refl (s : State) : s.sends s := ⟨rfl, fun _ => ⟨rfl, rfl⟩, s.outGrows_refl⟩

theorem State.sends.trans {s t u : State} (h : s.sends t) (g : t.sends u) : s.sends u := by
  obtain ⟨ht, htg, hto⟩ := h
  obtain ⟨hu, hug, huo⟩ := g
  refine ⟨?_, fun a => ⟨(hug a).1.trans (htg a).1, (hug a).2.trans (htg a).2⟩, hto.trans huo⟩
  rw [hu, ht]

section
variable {s t : State} (h : s.sends t)
include h

theorem State.sends.groupUp (a : Nat) : t.groupUp a = s.groupUp a := by
  obtain ⟨ht, hg, -⟩ := h
  unfold State.groupUp
  rw [(hg a).1, show t.hasMotif a = s.hasMotif a by rw [ht]; rfl]

/-- The bytes of a frame are those that it had before. -/
theorem State.sends.wire (a seq : Nat) (p : BridePay) : t.wire a seq p = s.wire a seq p := by
  obtain ⟨ht, hg, -⟩ := h
  unfold State.wire
  rw [(hg a).2, show t.headId = s.headId by rw [ht]; rfl]

theorem State.sends.txOff : t.txOff = s.txOff := by rw [h.1]

end

theorem State.sends_transmit (s : State) (g : Nat) (p : BridePay) (h : s.groupUp g = true) : s.sends (s.transmit g p) := by
  refine ⟨?_, fun a => ?_, ?_⟩
  · unfold State.transmit State.emit
    dsimp only
    split <;> rfl
  · rw [State.group_transmit s g a p h]
    split
    · rename_i ha
      rw [ha]
      exact ⟨rfl, rfl⟩
    · exact ⟨rfl, rfl⟩
  · exact State.outGrows.trans (t := s.modGroup g _) (State.outGrows_of_eq rfl) (State.outGrows_emit _ _)

/-- A record sent on a group that is up (R113). -/
theorem State.sendOn_record_shows (s : State) (g : Nat) (r : Record) (h : s.groupUp g = true) : s.sends (s.sendOn g (.record r)) ∧
    (s.txOff = false → ∃ seq, .bride g (s.wire g seq (.record r)) ∈ (s.sendOn g (.record r)).outbox) := by
  rw [s.sendOn_record g r h]
  refine ⟨s.sends_transmit g _ h, fun hx => ⟨nextSeq (s.group g).txSeq, ?_⟩⟩
  rw [State.transmit_outbox, hx, if_neg Bool.false_ne_true]
  exact List.mem_append_right _ (List.mem_singleton_self _)

/-- Part `i` of a record goes on the `i`th group of a list and on the next one (R114). -/
def State.sendPart (s : State) (up : List Nat) (r : Record) (parts i : Nat) : State :=
  let s' := s.sendOn (up.getD (i % up.length) 0) (.record (r.partOf parts i))
  if up.getD (i % up.length) 0 = up.getD ((i + 1) % up.length) 0 then s' else s'.sendOn (up.getD ((i + 1) % up.length) 0) (.record (r.partOf parts i))

/-- A record as the parts that are sent. -/
theorem State.sendRecord_eq (s : State) (r : Record) (hup : s.upGroups ≠ []) (hp : s.paired = true) : s.sendRecord r =
    (s.each (List.range (max 1 (ceilDiv r.entries.length 4091))) (fun u i => u.sendPart s.upGroups { r with txPhase := s.stc.phase } (max 1 (ceilDiv r.entries.length 4091)) i)).modPair
      (fun p => { p with sent := putEntries p.sent (r.entries.filter (fun e => decide (e.key.1 ≠ 1))), drops := p.drops.filter (fun d => !r.entries.contains (.drop d.1 d.2.1 d.2.2)) }) := by
  unfold State.sendRecord
  dsimp only
  rw [if_neg (fun h => h.elim (fun h => hup (List.isEmpty_iff.1 h)) (fun h => h hp))]
  rfl

/-- Without a group up or without a pair no record goes out. -/
theorem State.sendRecord_none (s : State) (r : Record) (h : s.paired = false ∨ s.upGroups = []) : s.sendRecord r = s := by
  unfold State.sendRecord
  dsimp only
  refine if_pos (h.symm.imp (fun h => h ▸ rfl) (fun h => ?_))
  rw [h]
  exact Bool.false_ne_true

/-- Each group of a list of groups that are up. -/
theorem State.groupUp_getD {s : State} {up : List Nat} (hup : ∀ a ∈ up, s.groupUp a = true) (hne : up ≠ []) (i : Nat) : s.groupUp (up.getD (i % up.length) 0) = true := by
  have hi : i % up.length < up.length := Nat.mod_lt _ (List.length_pos_iff.2 hne)
  rw [List.getD_eq_getElem _ _ hi]
  exact hup _ (List.getElem_mem hi)

/-- A frame with part `i` of a record, as `s` would write it, has left on either of its groups. -/
def State.partSent (s : State) (up : List Nat) (r : Record) (parts i : Nat) (t : State) : Prop :=
  s.txOff = false → ∀ k ≤ 1, ∃ seq, .bride (up.getD ((i + k) % up.length) 0) (s.wire (up.getD ((i + k) % up.length) 0) seq (.record (r.partOf parts i))) ∈ t.outbox

/-- One part sent (R114): a frame with it goes on either group. -/
theorem State.sendPart_shows (s : State) (up : List Nat) (r : Record) (parts i : Nat) (hup : ∀ a ∈ up, s.groupUp a = true) (hne : up ≠ []) :
    s.sends (s.sendPart up r parts i) ∧ s.partSent up r parts i (s.sendPart up r parts i) := by
  have ha := State.groupUp_getD hup hne i
  have hb := State.groupUp_getD hup hne (i + 1)
  have hk : ∀ {q : Nat → Prop}, q 0 → q 1 → ∀ k ≤ 1, q k := fun h0 h1 k hk => by
    obtain rfl | rfl : k = 0 ∨ k = 1 := by omega
    · exact h0
    · exact h1
  obtain ⟨hsent, hfirst⟩ := s.sendOn_record_shows _ (r.partOf parts i) ha
  unfold State.sendPart
  dsimp only
  split
  · rename_i hab
    refine ⟨hsent, fun hx => hk (hfirst hx) ?_⟩
    rw [← hab]
    exact hfirst hx
  · obtain ⟨hsent', hsecond⟩ := State.sendOn_record_shows _ _ (r.partOf parts i) ((hsent.groupUp _).trans hb)
    refine ⟨hsent.trans hsent', fun hx => hk ?_ ?_⟩
    · obtain ⟨seq, hm⟩ := hfirst hx
      exact ⟨seq, hsent'.2.2.subset hm⟩
    · obtain ⟨seq, hm⟩ := hsecond (hsent.txOff.trans hx)
      rw [hsent.wire] at hm
      exact ⟨seq, hm⟩

/-- A record sent (R114, R115): each part on its two groups, the entries noted as sent, and only the groups and what the record notes changed. -/
theorem State.sendRecord_shows (s : State) (r : Record) (hup : s.upGroups ≠ []) (hp : s.paired = true) :
    (s.txOff = false → ∀ i < max 1 (ceilDiv r.entries.length 4091), ∀ k ≤ 1, ∀ a, a = s.upGroups.getD ((i + k) % s.upGroups.length) 0 →
      ∃ seq, .bride a (s.wire a seq (.record ({ r with txPhase := s.stc.phase }.partOf (max 1 (ceilDiv r.entries.length 4091)) i))) ∈ (s.sendRecord r).outbox) ∧
    (s.sendRecord r).pair.sent = putEntries s.pair.sent (r.entries.filter (fun x => decide (x.key.1 ≠ 1))) ∧
    s.sendRecord r = { s with pair := (s.sendRecord r).pair, outbox := (s.sendRecord r).outbox } := by
  have hall : ∀ a ∈ s.upGroups, s.groupUp a = true := fun a ha => (List.mem_filter.1 ha).2
  rw [s.sendRecord_eq r hup hp]
  generalize s.upGroups = up at *
  generalize max 1 (ceilDiv r.entries.length 4091) = parts
  generalize { r with txPhase := s.stc.phase } = r'
  have hpart : ∀ (t : State) (i : Nat), s.sends t → s.sends (t.sendPart up r' parts i) ∧ s.partSent up r' parts i (t.sendPart up r' parts i) := by
    intro t i ht
    obtain ⟨hs, hm⟩ := t.sendPart_shows up r' parts i (fun a ha => (ht.groupUp a).trans (hall a ha)) hup
    refine ⟨ht.trans hs, fun hx k hk => ?_⟩
    obtain ⟨seq, h⟩ := hm (ht.txOff.trans hx) k hk
    rw [ht.wire] at h
    exact ⟨seq, h⟩
  have hkeep : ∀ (t : State) (i j : Nat), s.sends t → s.partSent up r' parts i t → s.partSent up r' parts i (t.sendPart up r' parts j) := fun t i j ht hq hx k hk => by
    obtain ⟨seq, hm⟩ := hq hx k hk
    exact ⟨seq, (t.sendPart_shows up r' parts j (fun a ha => (ht.groupUp a).trans (hall a ha)) hup).1.2.2.subset hm⟩
  obtain ⟨⟨heq, -, -⟩, hmem⟩ := State.each_reaches s.sends (s.partSent up r' parts) (fun u i => u.sendPart up r' parts i) hpart hkeep s (List.range parts) s.sends_refl
  generalize s.each (List.range parts) (fun u i => u.sendPart up r' parts i) = t at *
  refine ⟨fun hx i hi k hk a ha => ?_, ?_, ?_⟩
  · rw [ha]
    exact hmem i (List.mem_range.2 hi) hx k hk
  · rw [heq]
    rfl
  · rw [heq]
    rfl

/-- A record of one part with one group up is one frame (R114). -/
theorem State.sendRecord_one (s : State) (g : Nat) (r : Record) (hup : s.upGroups = [g]) (hp : s.paired = true) (hlen : r.entries.length ≤ 4091) (p : BridePay)
    (hpay : p = .record ({ r with txPhase := s.stc.phase }.partOf 1 0)) (hx : s.txOff = false) :
    (s.sendRecord r).outbox = s.outbox ++ [.bride g (s.wire g (nextSeq (s.group g).txSeq) p)] ∧ ((s.sendRecord r).group g).txSeq = nextSeq (s.group g).txSeq ∧
      ((s.sendRecord r).group g).unacked = (s.group g).unacked ++ [(nextSeq (s.group g).txSeq, p)] := by
  have hg : s.groupUp g = true := (List.mem_filter.1 (hup ▸ List.mem_singleton_self g : g ∈ s.upGroups)).2
  have hone : max 1 (ceilDiv r.entries.length 4091) = 1 := by
    unfold ceilDiv
    omega
  have hsend : s.sendPart [g] { r with txPhase := s.stc.phase } 1 0 = s.transmit g p := by
    rw [hpay, ← s.sendOn_record g _ hg]
    unfold State.sendPart
    exact if_pos (by simp)
  have heach : ∀ f : State → Nat → State, s.each (List.range 1) f = f s 0 := fun _ => rfl
  have hgroup : ∀ (u : State) (l : List RecEntry) (d : List RecEntry → Nat × Nat × Nat → Bool),
      (u.modPair (fun q => { q with sent := putEntries q.sent l, drops := q.drops.filter (d r.entries) })).group g = u.group g := fun _ _ _ => rfl
  rw [s.sendRecord_eq r (by rw [hup]; exact List.cons_ne_nil _ _) hp, hone, hup, heach, hsend]
  refine ⟨?_, ?_, ?_⟩
  · rw [State.modPair_outbox, State.transmit_outbox, hx, if_neg Bool.false_ne_true]
  · rw [hgroup _ _ (fun l d => !l.contains (.drop d.1 d.2.1 d.2.2)), s.group_transmit g g p hg, if_pos rfl]
  · rw [hgroup _ _ (fun l d => !l.contains (.drop d.1 d.2.1 d.2.2)), s.group_transmit g g p hg, if_pos rfl]

/-- The state in which slot 1 sends: at phase 20, and a record late or not. -/
def State.sending (s : State) (e : Nat) : State := if 200 < e then (s.slotRun 1).bump F.STC_CNT_LATE_REC else s.slotRun 1

theorem State.sending_shows (s : State) (e : Nat) (hd : s.slotDue 1 2 = true) : (s.sending e).stc.phase = 20 ∧
    (s.sending e).fld F.STC_CNT_LATE_REC = (if 200 < e then satAdd (fldMax F.STC_CNT_LATE_REC) (s.fld F.STC_CNT_LATE_REC) 1 else s.fld F.STC_CNT_LATE_REC) ∧
    (∀ q n j, q.addr n j ≠ Reg.STC_CNT.addr 0 0 → (s.sending e).reg q n j = s.reg q n j) ∧ s.sending e = { s with regs := (s.sending e).regs, stc := (s.slotRun 1).stc } := by
  have hphase : (s.slotRun 1).stc.phase = 20 := by
    unfold State.slotRun
    rw [s.atPhase_eq (State.slotDue_phase hd)]
    rfl
  unfold State.sending
  split
  · refine ⟨hphase, ?_, fun q n j hq => ?_, ?_⟩
    · rw [State.fld_bump_same _ _ _ _ _ (by decide), State.slotRun_fld]
    · unfold State.bump
      rw [State.reg_setFld_other _ F.STC_CNT_LATE_REC _ _ _ _ _ _ (Ne.symm hq), State.slotRun_reg]
    · exact Eq.trans (s.slotRun 1).onlyRegs_refl.bump (congrArg (fun w : State => { w with regs := ((s.slotRun 1).bump F.STC_CNT_LATE_REC).regs }) (s.slotRun_eq 1))
  · refine ⟨hphase, s.slotRun_fld .., fun q n j _ => s.slotRun_reg .., ?_⟩
    rw [s.slotRun_regs]
    exact s.slotRun_eq 1

section
variable (s : State) (e : Nat) (hd : s.slotDue 1 2 = true)
include hd

theorem State.sending_same : (s.sending e).upGroups = s.upGroups ∧ (s.sending e).txOff = s.txOff ∧ (s.sending e).pair = s.pair ∧ (s.sending e).outbox = s.outbox := by
  obtain ⟨-, -, -, honly⟩ := s.sending_shows e hd
  rw [honly]
  exact ⟨rfl, rfl, rfl, rfl⟩

theorem State.sending_paired : (s.sending e).paired = s.paired := by
  obtain ⟨-, -, hreg, -⟩ := s.sending_shows e hd
  unfold State.paired State.fld
  rw [hreg .BRD_ST 0 0 (by decide)]

theorem State.sending_wire (a seq : Nat) (p : BridePay) : (s.sending e).wire a seq p = s.wire a seq p := by
  obtain ⟨-, -, hreg, -⟩ := s.sending_shows e hd
  obtain ⟨-, -, hpair, -⟩ := s.sending_same e hd
  unfold State.wire State.headId State.group State.fld
  rw [hpair, hreg .PKG_ID 0 0 (by decide)]

end

theorem exec_recSend_due {s : State} (hr : s.power.running = true) (e : Nat) (hd : s.slotDue 1 2 = true) {r : Record} (hs : s.pair.snap = some r) :
    exec (.recSend e) s = .next ((s.sending e).sendRecord r) := by
  have hsnap : (s.slotRun 1).pair.snap = some r := by
    rw [s.slotRun_eq 1]
    exact hs
  rw [exec_recSend, execRecSend, live_on _ _ hr, State.slotFire_due hd, hsnap]
  rfl

/-- The record that slot 0, at phase 0, snaps is that of the moment before it fires (R59, R114). -/
theorem State.snapRecord_slot0 (s : State) : (s.slotRun 0).stitchRecord (s.slotRun 0).changedEntries = s.stitchRecord s.changedEntries := by
  have hrun : s.slotRun 0 = s.modStc (fun c => { c with slots := c.slots ++ [0] }) := by
    unfold State.slotRun
    rw [show s.atPhase (s.slotPlan 0).1 = s from if_neg (Nat.not_lt_zero _)]
  rw [hrun]
  rfl

/-- Settles O17: what is snapped by `State.snapRecord`, what is sent by `State.sendRecord_shows` and `State.sendRecord_one`. -/
theorem recordSnapSend : Obligations.RecordSnapSend := by
  unfold Obligations.RecordSnapSend
  intro s e g r hr
  refine ⟨fun hd => ?_, fun hd hs hp hup => ?_, fun hd hs hp hup hlen hx seq p hseq hpay => ?_, fun hd h => ?_⟩
  · refine ⟨(s.slotRun 0).snapRecord, ?_, congrArg some s.snapRecord_slot0, ?_⟩
    · rw [exec_recSnap, execRecSnap, live_on _ _ hr, State.slotFire_due hd]
    · conv_lhs => rw [s.slotRun_eq 0]
      rfl
  · obtain ⟨hphase, hcnt, hreg, honly⟩ := s.sending_shows e hd
    obtain ⟨hgroups, htx, hpair, -⟩ := s.sending_same e hd
    obtain ⟨hparts, hsent, heq⟩ := (s.sending e).sendRecord_shows r (hgroups ▸ hup) ((s.sending_paired e hd).trans hp)
    have hregs : ∀ q n j, ((s.sending e).sendRecord r).reg q n j = (s.sending e).reg q n j := fun q n j => by
      rw [heq]
      rfl
    rw [hgroups, htx, hphase] at hparts
    rw [exec_recSend_due hr e hd hs]
    refine ⟨_, rfl, fun hx i hi k hk a ha => ?_, ?_, ?_, fun q n j hq => (hregs q n j).trans (hreg q n j hq), ?_⟩
    · obtain ⟨seq, hm⟩ := hparts hx i hi k hk a ha
      rw [s.sending_wire e hd] at hm
      exact ⟨seq, hm⟩
    · rw [← hcnt]
      exact congrArg (fun v => bits v 63 48) (hregs .STC_CNT 0 0)
    · rw [hsent, hpair]
    · rw [show ((s.sending e).sendRecord r).regs = (s.sending e).regs by rw [heq]]
      refine heq.trans ?_
      rw [honly]
  · obtain ⟨hphase, -, -, -⟩ := s.sending_shows e hd
    obtain ⟨hgroups, htx, hpair, hout⟩ := s.sending_same e hd
    have hgroup : (s.sending e).group g = s.group g := congrArg (fun q => q.groups.getD g default) hpair
    obtain ⟨ho, hseq', hun⟩ := (s.sending e).sendRecord_one g r (hgroups.trans hup) ((s.sending_paired e hd).trans hp) hlen p (by rw [hphase, hpay]) (htx.trans hx)
    rw [hgroup, ← hseq] at hseq' hun ho
    rw [hout, s.sending_wire e hd] at ho
    exact ⟨_, exec_recSend_due hr e hd hs, ho, hseq', hun⟩
  · cases hs : s.pair.snap with
    | none =>
      refine ⟨s.slotRun 1, ?_, ?_, ?_⟩
      · have hsnap : (s.slotRun 1).pair.snap = none := by
          rw [s.slotRun_eq 1]
          exact hs
        rw [exec_recSend, execRecSend, live_on _ _ hr, State.slotFire_due hd, hsnap]
      · rw [s.slotRun_eq 1]
      · rw [s.slotRun_eq 1]
    | some r =>
      obtain ⟨hgroups, -, hpair, hout⟩ := s.sending_same e hd
      refine ⟨_, exec_recSend_due hr e hd hs, ?_⟩
      rw [State.sendRecord_none, hpair, hout]
      · exact ⟨rfl, rfl⟩
      · rw [hgroups, s.sending_paired e hd]
        exact h.resolve_left (by rw [hs]; exact Option.some_ne_none r)

end Sys2Proof.Machine
end

section
/-! SUPPORT. Two modules whose registers share a word (R258, R277): the status of module 0 and the role of a module of index 261,696 stand at one address. -/

namespace Sys2Proof.Machine

/-- A module that serves its queues, with queue 0 free. -/
def servingModule (i : Nat) : Module :=
  { (default : Module) with idx := i, en := true, ready := true, linkUp := true, qen := true, sizeLog2 := 8, posted := [0], freed := [0] }

/-- Slot 5 is due, the head owns ground 0, and of its two usable modules the second one's role stands in the word that holds the first one's status. -/
def sharedWord : State :=
  ({ ((((State.reset.setFld F.STC_NUM_NUM 1000).setFld F.CLM_GROUND_STATE 1).setFld F.ECU_MOD_ROLE 1).setFld F.ECU_MOD_ROLE 1 0 261696) with txOff := false }).modBob
    (fun b => { b with modules := [servingModule 0, servingModule 261696] })

/-- The word that the two modules share. -/
theorem addr_ecuMod_eq_bobModSt : Reg.ECU_MOD.addr 0 261696 = Reg.BOB_MOD_ST.addr 0 0 := by decide

theorem sharedWord_due : sharedWord.power.running = true ∧ sharedWord.slotDue 5 6 = true ∧ sharedWord.txOff = false := by decide +kernel

theorem sharedWord_usable : sharedWord.owns 0 = true ∧ servingModule 261696 ∈ sharedWord.bob.modules ∧ sharedWord.modUsable 261696 = true := by decide +kernel

/-- No command of an outcome's next state is for module `i`. -/
def sparesModule (o : Host.Outcome State Fault Refusal) (i : Nat) : Bool :=
  match o with
  | .next t => (t.bob.cmds ++ t.bob.heldCmds).all (fun c => c.mod != i)
  | _ => false

/-- READY of module 0 turns the second module's role into FAILED, so its command is not issued (R268). -/
theorem sharedWord_spared : sparesModule (exec (.claimKeepalive false) sharedWord) 261696 = true := by decide +kernel

/-- Refutes O18: the clause of CLAIM_KEEPALIVE takes modules of any index. Modules 0 and 261,696 of `sharedWord` are usable, but the command to module 0 brings its
BOB_MOD_ST in step, which stands at the address of ECU_MOD[261696], and so module 261,696 is FAILED when its turn comes and is sent no command. -/
theorem not_hourAndCoreEvent : ¬ Obligations.HourAndCoreEvent := by
  unfold Obligations.HourAndCoreEvent
  intro h
  obtain ⟨hr, hd, hx⟩ := sharedWord_due
  obtain ⟨howns, hmod, husable⟩ := sharedWord_usable
  obtain ⟨-, -, -, hkeep⟩ := h sharedWord 0 hr
  obtain ⟨t, ht, -, hsent, -⟩ := hkeep hd hx
  obtain ⟨-, c, hc, hcm, -⟩ := hsent 0 howns (servingModule 261696) hmod husable
  have hspared := sharedWord_spared
  rw [ht] at hspared
  have hne := List.all_eq_true.1 hspared c hc
  rw [hcm] at hne
  exact absurd hne (by decide)

end Sys2Proof.Machine
end

section
/-! SUPPORT. What leaves the pricking and the first three blocks of the package window alone: completions to hosts, the states of grounds, training of the bride link
(R110, R364, R376, R379). -/

namespace Sys2Proof.Machine

/-- A register of a motif's window, or of a block of the package window behind PRK. -/
def RegSpec.behindPrk (t : RegSpec) : Bool := !t.pkg || decide (3 ≤ t.block)

theorem Reg.addr_behindPrk {r : Reg} (h : r.spec.behindPrk = true) (m i : Nat) : 0x30000 ≤ r.addr m i := by
  unfold RegSpec.behindPrk at h
  rw [Bool.or_eq_true, Bool.not_eq_true', decide_eq_true_eq] at h
  rcases hp : r.spec.pkg with _ | _
  · have := Reg.addr_motif r m i hp
    omega
  · have hb := h.resolve_left (by rw [hp]; exact Bool.noConfusion)
    unfold Reg.addr
    rw [hp]
    simp only [windowBase, blockSize, if_true]
    omega

/-- The pricking and the registers of the blocks PKG, STC and PRK are in `t` as in `s`. -/
def State.keepsFront (s t : State) : Prop := t.prk = s.prk ∧ ∀ (q : Reg) (n j : Nat), q.addr n j < 0x30000 → t.reg q n j = s.reg q n j

theorem State.keepsFront_refl (s : State) : s.keepsFront s := ⟨rfl, fun _ _ _ _ => rfl⟩

theorem State.keepsFront_of_regs {s t : State} (hp : t.prk = s.prk) (hr : t.regs = s.regs) : s.keepsFront t := ⟨hp, fun _ _ _ _ => State.reg_congr hr ..⟩

section
variable {s t u : State} (h : s.keepsFront t)
include h

theorem State.keepsFront.trans (g : t.keepsFront u) : s.keepsFront u := ⟨g.1.trans h.1, fun q n j hq => (g.2 q n j hq).trans (h.2 q n j hq)⟩

theorem State.keepsFront.fld {g : Fld Reg} (hg : g.reg.addr 0 0 < 0x30000) : t.fld g = s.fld g := by
  unfold State.fld
  rw [h.2 _ _ _ hg]

theorem State.keepsFront.setFld {f : Fld Reg} {x m i : Nat} (hf : f.reg.spec.behindPrk = true) : s.keepsFront (t.setFld f x m i) :=
  h.trans ⟨State.setFld_prk .., fun q n j hq => State.reg_setFld_other _ _ _ _ _ _ _ _ (fun ha => by have := Reg.addr_behindPrk hf m i; omega)⟩

theorem State.keepsFront.bump {f : Fld Reg} {x m i : Nat} (hf : f.reg.spec.behindPrk = true) : s.keepsFront (t.bump f x m i) := h.setFld hf

theorem State.keepsFront.setEvt {f : Fld Reg} {m : Nat} (hf : f.reg.spec.behindPrk = true) : s.keepsFront (t.setEvt f m) := by
  unfold State.setEvt
  split
  · exact h
  · exact (h.setFld hf).trans (State.keepsFront_of_regs (State.raiseIrq_prk ..) (State.raiseIrq_regs ..))

theorem State.keepsFront.emit {o : Out} : s.keepsFront (t.emit o) := h.trans (State.keepsFront_of_regs (State.emit_prk ..) (State.emit_regs ..))

theorem State.keepsFront.modHq {f : HqSt → HqSt} : s.keepsFront (t.modHq f) := h.trans (State.keepsFront_of_regs rfl rfl)

theorem State.keepsFront.modEp {f : EpSt → EpSt} : s.keepsFront (t.modEp f) := h.trans (State.keepsFront_of_regs rfl rfl)

theorem State.keepsFront.modNet {f : NetSt → NetSt} : s.keepsFront (t.modNet f) := h.trans (State.keepsFront_of_regs rfl rfl)

theorem State.keepsFront.modDp {f : DataSt → DataSt} : s.keepsFront (t.modDp f) := h.trans (State.keepsFront_of_regs rfl rfl)

theorem State.keepsFront.modMed {f : MediaSt → MediaSt} : s.keepsFront (t.modMed f) := h.trans (State.keepsFront_of_regs rfl rfl)

theorem State.keepsFront.modPair {f : PairSt → PairSt} : s.keepsFront (t.modPair f) := h.trans (State.keepsFront_of_regs rfl rfl)

end

theorem State.keepsFront.each {α : Type} {s t : State} (h : s.keepsFront t) {l : List α} {f : State → α → State} (hf : ∀ (u : State) (a : α), u.keepsFront (f u a)) :
    s.keepsFront (t.each l f) :=
  State.each_holds (fun u => s.keepsFront u) t l f h (fun u a _ hu => hu.trans (hf u a))

/-! ## Frames to the partner head, and the journal -/

theorem State.keepsFront_sendOn (s : State) (g : Nat) (p : BridePay) : s.keepsFront (s.sendOn g p) := by
  unfold State.sendOn State.transmit
  split
  · exact s.keepsFront_refl.modPair.emit
  · exact s.keepsFront_refl.modPair

theorem State.keepsFront_sendTxn (s : State) (id : Nat) : s.keepsFront (s.sendTxn id) := by
  have htxn : ∀ (u : State) (n : Nat) (f : Txn → Txn), u.keepsFront (u.modTxn n f) := fun u n f => u.keepsFront_refl.modMed
  have hmirror : ∀ (u : State) (f : MirrorFrame), u.keepsFront (u.sendMirror f).1 := fun u f => u.keepsFront_refl.modPair.trans (State.keepsFront_sendOn ..)
  unfold State.sendTxn
  split
  · exact s.keepsFront_refl
  · rename_i t _
    have hlog : s.keepsFront (s.appendLog t.ground t.motif (txnBytes (s.mapsAhead id) id t.recs).flatten) := s.keepsFront_refl.modMed
    dsimp only
    split
    · exact ((hlog.trans (htxn ..)).each (fun u f => hmirror u f)).trans (htxn ..)
    · exact hlog.trans (htxn ..)

theorem State.keepsFront_journal (s : State) (g m : Nat) (l : List JRec) : s.keepsFront (s.journal g m l) :=
  (s.keepsFront_refl.modMed.modMed : s.keepsFront (s.addTxn g m l true .plain).1).trans (State.keepsFront_sendTxn ..)

/-! ## Namespaces that are gone -/

theorem State.keepsFront_syncViews (s : State) : s.keepsFront s.syncViews := by
  unfold State.syncViews
  exact (((((s.keepsFront_refl.setFld rfl).setFld rfl).setFld rfl).setFld rfl).setFld rfl).setFld rfl

theorem State.keepsFront_deleteView (s : State) (v : View) : s.keepsFront (s.deleteView v) := by
  have h := s.keepsFront_journal v.ground 0 [.view { v with state := 3 }]
  unfold State.deleteView
  dsimp only
  split
  · exact ((h.trans (State.keepsFront_journal ..)).setEvt rfl).trans (State.keepsFront_syncViews _)
  · exact h.trans (State.keepsFront_syncViews _)

theorem State.keepsFront_recount (s : State) : s.keepsFront s.recount := by
  unfold State.recount State.syncUnflushed
  exact s.keepsFront_refl.modDp.each (fun u g => u.keepsFront_refl.setFld (f := F.CLM_GROUND_UNFLUSHED_MIB) rfl)

theorem State.keepsFront_queueDrop (s : State) (g m : Nat) : s.keepsFront (s.queueDrop g m) := by
  have hdrop : ∀ (n : Nat) (f : Nat → PairSt → PairSt), s.keepsFront (if n = 0 then s else s.modPair (f n)) := fun n f => by
    split
    · exact s.keepsFront_refl
    · exact s.keepsFront_refl.modPair
  exact hdrop _ (fun n p => { p with drops := p.drops.filter (fun d => !(d.1 == m && d.2.1 == g)) ++ [(m, g, n)] })

theorem State.keepsFront_freeAtoms (s : State) (l : List (Nat × Nat)) : s.keepsFront (s.freeAtoms l) := by
  unfold State.freeAtoms
  exact ((s.keepsFront_refl.modDp.trans (State.keepsFront_recount _)).modDp.modMed).each (fun u p => u.keepsFront_queueDrop p.1 p.2)

theorem State.keepsFront_deleteNs (s : State) (n : Namespace) : s.keepsFront (s.deleteNs n) := by
  have h := (s.keepsFront_freeAtoms ((s.dp.atoms.filter (fun a => a.ns == n.id)).map (fun a => (a.writeId, a.atom)))).modHq (f := fun h => { h with deleting := h.deleting.filter (fun x => x != n.id) })
  unfold State.deleteNs
  dsimp only
  split
  · exact (h.trans (State.keepsFront_journal ..)).trans (State.keepsFront_deleteView ..)
  · exact h.trans (State.keepsFront_journal ..)

theorem State.keepsFront_endCmd (s : State) (c : HostCpl) : s.keepsFront (s.endCmd c) := by
  have h : s.keepsFront (s.modHq (fun h => { h with cmds := h.cmds.filter (fun k => k.id != c.cmd), cpls := h.cpls ++ [c] })) := s.keepsFront_refl.modHq
  unfold State.endCmd
  dsimp only
  generalize s.modHq (fun h => { h with cmds := h.cmds.filter (fun k => k.id != c.cmd), cpls := h.cpls ++ [c] }) = u at *
  have herr : s.keepsFront (if c.field = 0 then u else (((u.setFld F.HQ_ERR_STATUS c.word).setFld F.HQ_ERR_QID c.cmd.sq).setFld F.HQ_ERR_CID c.cmd.cid).setFld F.HQ_ERR_VALID 1) := by
    split
    · exact h
    · exact (((h.setFld rfl).setFld rfl).setFld rfl).setFld rfl
  split
  · exact herr.modHq
  · exact herr

theorem State.keepsFront_settleDeletes (s : State) (n : Nat) : s.keepsFront (s.settleDeletes n) := by
  induction n generalizing s with
  | zero => exact s.keepsFront_refl
  | succ n ih =>
    unfold State.settleDeletes
    split
    · exact s.keepsFront_refl
    · rename_i k x _
      refine State.keepsFront.trans ?_ (ih _)
      refine State.keepsFront.trans ?_ (State.keepsFront_endCmd _ _)
      split
      · exact State.keepsFront_deleteNs ..
      · exact s.keepsFront_refl

/-! ## Completions -/

theorem State.keepsFront_sendMsg (s : State) (id : Nat) (b : Bytes) : s.keepsFront (s.sendMsg id b) := by
  have hp : ∀ (u : State) (d : Bytes), u.keepsFront (u.sendPacket id d) := fun u d => by
    unfold State.sendPacket
    split
    · exact u.keepsFront_refl
    · dsimp only
      split
      · exact u.keepsFront_refl.modNet
      · exact u.keepsFront_refl.modNet.emit
  unfold State.sendMsg
  split
  · exact s.keepsFront_refl
  · split
    · exact s.keepsFront_refl.each (f := fun u d => u.sendPacket id d) hp
    · exact s.keepsFront_refl

theorem State.keepsFront_raiseVec (s : State) (pf v : Nat) : s.keepsFront (s.raiseVec pf v) := by
  unfold State.raiseVec
  split
  · exact s.keepsFront_refl.emit
  · split
    · exact s.keepsFront_refl
    · exact s.keepsFront_refl.modEp

theorem State.keepsFront_sendData (s : State) (c : HostCpl) (b : Bool) : s.keepsFront (s.sendData c b) := by
  unfold State.sendData
  split
  · exact s.keepsFront_refl
  · dsimp only
    split
    · exact (s.keepsFront_refl.emit.bump rfl).setEvt rfl
    · exact s.keepsFront_refl.emit

theorem State.keepsFront_sendCqe (s : State) (k : Ctrl) (c : HostCpl) : s.keepsFront (s.sendCqe k c) := by
  unfold State.sendCqe
  dsimp only
  split
  · exact s.keepsFront_refl.emit.trans (State.keepsFront_sendMsg ..)
  · exact s.keepsFront_refl.emit

theorem State.keepsFront_post (s : State) (c : HostCpl) : s.keepsFront (s.post c) := by
  unfold State.post
  split
  · exact s.keepsFront_refl
  · rename_i k _
    have h := s.keepsFront_sendData c (!k.fabrics && !c.data.isEmpty && decide (c.word ≠ 0))
    dsimp only
    split
    · exact h.trans (State.keepsFront_sendCqe ..)
    · split
      · exact h
      · split
        · split
          · exact (h.emit.modHq).trans (State.keepsFront_raiseVec ..)
          · exact h.emit.modHq
        · exact h.emit.modHq

theorem State.keepsFront_postAll (s : State) : s.keepsFront s.postAll := by
  unfold State.postAll
  dsimp only
  refine State.keepsFront.modHq (List.foldlRecOn (motive := fun (a : State × List (Nat × Nat) × List HostCpl) => s.keepsFront a.1) s.hq.cpls _ s.keepsFront_refl (fun a ha c _ => ?_))
  split
  · exact ha
  · split
    · exact ha.trans (State.keepsFront_post ..)
    · exact ha

theorem State.keepsFront_succeed (s : State) (cmd : CmdId) (d : Nat) (b : Bytes) : s.keepsFront (s.succeed cmd d b) :=
  ((s.keepsFront_endCmd ⟨cmd, 0, 0, d, 0, b⟩).trans (State.keepsFront_settleDeletes ..)).trans (State.keepsFront_postAll _)

theorem State.keepsFront_raiseEvent (s : State) (id c d : Nat) : s.keepsFront (s.raiseEvent id c d) := by
  have hrep : ∀ u : State, u.keepsFront (u.reportEvents id) := fun u => by
    unfold State.reportEvents
    split
    · exact u.keepsFront_refl
    · split
      · exact u.keepsFront_refl.modHq.trans (State.keepsFront_succeed ..)
      · exact u.keepsFront_refl
  unfold State.raiseEvent
  split
  · exact s.keepsFront_refl
  · split
    · exact s.keepsFront_refl.modHq.trans (hrep _)
    · exact s.keepsFront_refl

/-- A ground's state changed leaves them alone too (R364). -/
theorem State.keepsFront_setGroundState (s : State) (g st : Nat) : s.keepsFront (s.setGroundState g st) := by
  unfold State.setGroundState
  split
  · exact s.keepsFront_refl
  · exact (s.keepsFront_refl.setFld (f := F.CLM_GROUND_STATE) rfl).each (fun u id => u.keepsFront_raiseEvent id 11 0x0C0302)

/-! ## Training -/

theorem State.keepsFront_syncBride (s : State) : s.keepsFront s.syncBride := by
  have h : s.keepsFront (s.each (List.range 8) (fun s g =>
      ((s.setFld F.BRD_GRP_LANES (if s.hasMotif g then (s.group g).lanes else 0) 0 g).setFld F.BRD_GRP_UP (b2n (s.groupUp g)) 0 g).setFld F.BRD_GRP_PRESENT (b2n (s.hasMotif g)) 0 g)) :=
    s.keepsFront_refl.each (fun u g => ((u.keepsFront_refl.setFld (f := F.BRD_GRP_LANES) rfl).setFld (f := F.BRD_GRP_UP) rfl).setFld (f := F.BRD_GRP_PRESENT) rfl)
  unfold State.syncBride
  exact (h.setFld (f := F.BRD_ST_GROUPS_UP) rfl).setFld (f := F.BRD_ST_LANES_UP) rfl

theorem State.keepsFront_moveFrames (s : State) (g : Nat) : s.keepsFront (s.moveFrames g) := by
  unfold State.moveFrames
  dsimp only
  split
  · exact s.keepsFront_refl
  · exact s.keepsFront_refl.modPair.each (fun u p => u.keepsFront_sendOn _ p)

/-- Training of the bride link leaves mode, Winding and pricking alone (R110). -/
theorem State.keepsFront_trainBride (s : State) (pass : List Nat) (clock : Nat) : s.keepsFront (s.trainBride pass clock) := by
  unfold State.trainBride
  split
  · exact s.keepsFront_refl.setFld rfl
  · dsimp only
    generalize hv : ((s.setFld F.BRD_PARTNER_VALID 0).setFld F.BRD_CTL_RETRAIN 0).each (s.trainable pass)
      (fun s m => s.modGroup m (fun _ => { (default : BrideGroup) with lanes := trainLanes (pass.getD m 0) })) = v
    have h0 : s.keepsFront v := hv ▸ ((s.keepsFront_refl.setFld (f := F.BRD_PARTNER_VALID) rfl).setFld (f := F.BRD_CTL_RETRAIN) rfl).each (fun u m => u.keepsFront_refl.modPair)
    have h1 : s.keepsFront (v.each (s.trainable pass) (fun s m => s.transmit m (.train (s.ownTrain m clock)))) := h0.each (fun u m => u.keepsFront_refl.modPair.emit)
    have h2 := h1.trans (State.keepsFront_syncBride _)
    have h3 := h2.each (l := (s.trainable pass).map (fun m => (m, (s.group m).heldFrames))) (f := fun s h => s.each h.2 (fun s p => s.sendOn h.1 p))
      (fun u h => u.keepsFront_refl.each (fun w p => w.keepsFront_sendOn h.1 p))
    generalize ((v.each (s.trainable pass) (fun s m => s.transmit m (.train (s.ownTrain m clock)))).syncBride).each ((s.trainable pass).map (fun m => (m, (s.group m).heldFrames)))
      (fun s h => s.each h.2 (fun s p => s.sendOn h.1 p)) = w at h3 ⊢
    have h4 := h3.each (l := w.motifs.filter (fun m => !(w.groupUp m))) State.keepsFront_moveFrames
    split
    · exact h4
    · split
      · exact h4.setFld rfl
      · exact (((h4.setFld rfl).setEvt rfl).setFld rfl).modPair

end Sys2Proof.Machine
end

section
/-! SUPPORT. Winding steps 9 to 14 (R88, R91, R93 to R96). -/

namespace Sys2Proof.Machine

/-- Step `n` is in progress: the head is in Winding, at that step, and not stopped. -/
theorem State.inStep_iff (s : State) (n : Nat) : s.inStep n = true ↔ s.mode = 0 ∧ s.fld F.PKG_WIND_STEP = n ∧ s.flag F.PKG_WIND_STOPPED = false := by
  unfold State.inStep
  simp only [Bool.and_eq_true, decide_eq_true_eq, Bool.not_eq_true', and_assoc]

/-- Winding stopped with a code (R98). -/
theorem State.windStop_stoppedWith (s : State) {code : Nat} (hm : s.mode = 0) (hc : code < 2 ^ 16) : (s.windStop code).stoppedWith code := by
  have hlow := s.halive_driveHalive_false
  have hmode : (s.driveHalive false).mode = 0 := (s.fld_driveHalive false F.PKG_MODE_MODE 0 0 (by decide)).trans hm
  unfold State.windStop State.stoppedWith
  generalize s.driveHalive false = u at *
  refine ⟨?_, ?_, ?_, ?_, ?_, State.flag_setEvt_same _ F.PKG_MODE_EV_WIND_STOP 0 (by decide)⟩
  · unfold State.mode
    rw [State.fld_setEvt_apart (by decide), State.fld_setFld_apart (by decide), State.fld_setFld_apart (by decide), State.fld_setFld_apart (by decide)]
    exact hmode
  · unfold State.flag
    rw [State.fld_setEvt_apart (by decide), State.fld_setFld_apart (by decide), State.fld_setFld_apart (by decide), State.fld_setFld_same _ _ _ _ _ (by decide)]
    rfl
  · rw [State.fld_setEvt_apart (by decide), State.fld_setFld_apart (by decide), State.fld_setFld_same _ _ _ _ _ (by decide)]
    exact Nat.mod_eq_of_lt hc
  · rw [State.fld_setEvt_apart (by decide), State.fld_setFld_same _ _ _ _ _ (by decide)]
    rfl
  · rw [State.flag_congr (State.fld_setEvt_apart (by decide) _), State.flag_congr (State.fld_setFld_apart (by decide) ..), State.flag_congr (State.fld_setFld_apart (by decide) ..),
      State.flag_congr (State.fld_setFld_apart (by decide) ..), hlow]

theorem State.halive_driveHalive_true (s : State) : (s.driveHalive true).flag F.BRD_ST_HALIVE_OUT = true := by
  unfold State.driveHalive
  split
  · assumption
  · unfold State.flag
    rw [State.out_fld, State.fld_setFld_same _ _ _ _ _ (by decide)]
    rfl

/-! ## Steps 9 and 10 -/

/-- Step 9 without a TRAIN_ID of the partner head ends (R93, R95). -/
theorem State.windBride_alone (s : State) (h : s.inStep 9 = true) (pass : List Nat) (clock now us : Nat) :
    (s.windBride pass clock now none us).fld F.PKG_WIND_STEP = 10 ∧ (s.windBride pass clock now none us).mode = 0 := by
  obtain ⟨hmode, -, hstop⟩ := (s.inStep_iff 9).1 h
  have hfront := s.keepsFront_trainBride pass clock
  have hstop' : (s.trainBride pass clock).flag F.PKG_WIND_STOPPED = false := (State.flag_congr (hfront.fld (by decide))).trans hstop
  obtain ⟨hstep, -, -, hkeep⟩ := (s.trainBride pass clock).stepDone_shows 9 us (by decide)
  unfold State.windBride
  dsimp only
  rw [hstop', if_neg Bool.false_ne_true]
  exact ⟨hstep, (hkeep F.PKG_MODE_MODE (by decide)).trans ((hfront.fld (by decide)).trans hmode)⟩

/-- Step 9 with a TRAIN_ID ends unless pairing stopped the Winding (R95, R111). -/
theorem State.windBride_ends (s : State) (pass : List Nat) (clock now us : Nat) (o : Option TrainId) :
    (s.windBride pass clock now o us).flag F.PKG_WIND_STOPPED = false → (s.windBride pass clock now o us).fld F.PKG_WIND_STEP = 10 := by
  have hend : ∀ w : State, (if w.flag F.PKG_WIND_STOPPED then w else w.stepDone 9 us).flag F.PKG_WIND_STOPPED = false →
      (if w.flag F.PKG_WIND_STOPPED then w else w.stepDone 9 us).fld F.PKG_WIND_STEP = 10 := fun w h => by
    by_cases hs : w.flag F.PKG_WIND_STOPPED = true
    · rw [if_pos hs, hs] at h
      cases h
    · rw [if_neg hs]
      exact (w.stepDone_shows 9 us (by decide)).1
  exact hend _

/-- The lock of step 10 to a partner head in service (R55, R56). -/
theorem State.lockStep_follow (s : State) (r : Record) (hp : s.partnerInService = true) (hl : s.pair.last = some r) :
    ∃ t, s.lockStep = some t ∧ t.fld F.STC_ST_STATE = 4 ∧ t.fld F.STC_NUM_OFS_OFS = r.numOfs % 2 ^ 64 := by
  have hbride : ∀ u : State, (u.enterBride 4).fld F.STC_ST_STATE = 4 ∧ (u.enterBride 4).fld F.STC_NUM_OFS_OFS = u.fld F.STC_NUM_OFS_OFS := fun u => by
    unfold State.enterBride
    split
    · exact ⟨‹_›, rfl⟩
    · refine ⟨?_, ?_⟩
      · rw [State.fld_setEvt_apart (by decide), State.fld_setFld_same _ _ _ _ _ (by decide)]
        rfl
      · rw [State.fld_setEvt_apart (by decide), State.fld_setFld_apart (by decide)]
  have hofs : (s.adoptTime s.stc.skew (some r.numOfs)).fld F.STC_NUM_OFS_OFS = r.numOfs % 2 ^ 64 := State.fld_setFld_same _ F.STC_NUM_OFS_OFS _ 0 0 (by decide)
  obtain ⟨hst, hkeep⟩ := hbride (s.adoptTime s.stc.skew (some r.numOfs))
  refine ⟨((s.adoptTime s.stc.skew (some r.numOfs)).enterBride 4).syncPicot, ?_, ?_, ?_⟩
  · unfold State.lockStep
    rw [hp, hl]
  · rw [State.fld_syncPicot _ (by decide), hst]
  · rw [State.fld_syncPicot _ (by decide), hkeep, hofs]

/-- A lock to the own source (R53). -/
theorem State.lockOwn_locked (s : State) : s.lockOwn.fld F.STC_ST_STATE = 1 := by
  unfold State.lockOwn
  split
  · unfold State.lockCold
    rw [State.fld_syncPicot _ (by decide), State.fld_setEvt_apart (by decide), State.modStc_fld, State.fld_setFld_same _ _ _ _ _ (by decide)]
    rfl
  · exact s.lockKeeping_shows.2.2.1

theorem State.lockStep_own (s : State) (hp : s.partnerInService = false) (hv : s.flag F.STC_ST_SRC_VALID = true) (hst : s.fld F.STC_ST_STATE = 0) : s.lockStep = some s.lockOwn := by
  unfold State.lockStep
  rw [hp]
  dsimp only
  rw [if_neg (not_not_intro hst), if_pos hv]

theorem State.lockStep_already (s : State) (hp : s.partnerInService = false) (hst : s.fld F.STC_ST_STATE ≠ 0) : s.lockStep = some s := by
  unfold State.lockStep
  rw [hp]
  exact if_pos hst

/-- Step 10 ends with what the lock makes (R93). -/
theorem State.windLock_some (s : State) {t : State} (us : Nat) (h : s.lockStep = some t) : s.windLock us = t.stepDone 10 us := by
  unfold State.windLock
  rw [h]

theorem State.windLock_none (s : State) (us : Nat) (h : s.lockStep = none) : s.windLock us = s := by
  unfold State.windLock
  rw [h]

/-! ## Steps 12 and 13 -/

/-- The stored pages and buffered atoms that mishaps strike. -/
def State.struck (s : State) (bad : BadPages) : State :=
  let atoms := bad.filterMap (fun x => match x with | .atom w a => some (w, a) | _ => none)
  let pages := bad.filterMap (fun x => match x with | .body p => if (s.med.maps.media p).state = 1 then some p else none | _ => none)
  let s := if pages.isEmpty then s else s.modMed (fun d => { d with spoiled := (d.spoiled ++ pages).eraseDups })
  if atoms.isEmpty then s else s.modDp (fun d => { d with atoms := mapWhere (fun a => atoms.contains (a.writeId, a.atom)) (fun a => { a with poison := true }) d.atoms })

/-- The lanes that will disagree. -/
def laneMishaps (bad : BadPages) : List Nat := bad.filterMap (fun x => match x with | .lane l => some l | _ => none)

theorem State.under_eq (s : State) (bad : BadPages) (f : State → State) : s.under bad f =
    if (laneMishaps bad).isEmpty then f (s.struck bad) else (f ((s.struck bad).modCip (fun c => { c with disagree := laneMishaps bad }))).modCip (fun c => { c with disagree := [] }) := rfl

/-- What looks neither at the list of spoiled pages nor at the buffered atoms is as before. -/
theorem State.struck_keeps {α : Type} (p : State → α) (hm : ∀ (t : State) (f : MediaSt → List Nat), p (t.modMed (fun d => { d with spoiled := f d })) = p t)
    (ha : ∀ (t : State) (f : DataSt → List BufAtom), p (t.modDp (fun d => { d with atoms := f d })) = p t) (s : State) (bad : BadPages) : p (s.struck bad) = p s := by
  unfold State.struck
  dsimp only
  split <;> split
  · rfl
  · exact hm ..
  · exact ha ..
  · exact (ha ..).trans (hm ..)

/-- What a command does under mishaps holds where it holds from every state that they may leave, and does not depend on which lanes disagree. -/
theorem State.under_holds (s : State) (bad : BadPages) (f : State → State) (p : State → Prop) (hp : ∀ (t : State) (g : CipSt → CipSt), p t → p (t.modCip g))
    (h : ∀ u : State, u.regs = s.regs → u.rootLost = s.rootLost → p (f u)) : p (s.under bad f) := by
  have hr := State.struck_keeps State.regs (fun _ _ => rfl) (fun _ _ => rfl) s bad
  have hl := State.struck_keeps State.rootLost (fun _ _ => rfl) (fun _ _ => rfl) s bad
  rw [s.under_eq]
  split
  · exact h _ hr hl
  · exact hp _ _ (h _ hr hl)

/-- Metadata that no copy gives stops the Winding (R240). -/
theorem State.recover_stops (s : State) (foreign : List (Nat × List JRec)) (log : List StageEnt) (vaults : List VaultArea) (x : Bool) (us : Nat) (hm : s.mode = 0)
    (h : x = true ∨ s.rootLost = true) : (s.recover foreign log vaults x us).stoppedWith 0x3207 := by
  unfold State.recover
  rw [if_pos (Bool.or_eq_true _ _ ▸ h)]
  exact s.windStop_stoppedWith hm (by decide)

/-- Step 12 ends with head-alive asserted, and skips step 13 without a partner head (R94, R96). -/
theorem State.recover_ends (s : State) (foreign : List (Nat × List JRec)) (log : List StageEnt) (vaults : List VaultArea) (us : Nat) (h : s.rootLost = false) (t : State)
    (ht : t = s.recover foreign log vaults false us) : t.flag F.BRD_ST_HALIVE_OUT = true ∧ t.fld F.PKG_WIND_STEP = (if t.hasPartner then 13 else 14) := by
  have hend : ∀ w v : State, v = (w.stepDone 12 us).driveHalive true → t = (if v.hasPartner then v else v.setFld F.PKG_WIND_STEP 14) →
      t.flag F.BRD_ST_HALIVE_OUT = true ∧ t.fld F.PKG_WIND_STEP = (if t.hasPartner then 13 else 14) := fun w v hv ht => by
    have hal : v.flag F.BRD_ST_HALIVE_OUT = true := hv ▸ State.halive_driveHalive_true _
    have hstep : v.fld F.PKG_WIND_STEP = 13 := by
      rw [hv, State.fld_driveHalive _ _ _ _ _ (by decide)]
      exact (w.stepDone_shows 12 us (by decide)).1
    by_cases hpart : v.hasPartner = true
    · rw [if_pos hpart] at ht
      rw [ht, if_pos hpart]
      exact ⟨hal, hstep⟩
    · rw [if_neg hpart] at ht
      have hsame : t.hasPartner = v.hasPartner := by
        rw [ht]
        unfold State.hasPartner State.paired
        rw [State.fld_setFld_apart (by decide), State.setFld_pair]
      rw [hsame, if_neg hpart, ht]
      exact ⟨(State.flag_congr (State.fld_setFld_apart (by decide) ..)).trans hal, State.fld_setFld_same _ _ _ _ _ (by decide)⟩
  unfold State.recover at ht
  rw [h, if_neg (by decide)] at ht
  exact hend _ _ rfl ht

/-- Step 12 under mishaps, whichever command ends it (R224, R240). -/
theorem State.recoverUnder_cases (s : State) (bad : BadPages) (foreign : List (Nat × List JRec)) (log : List StageEnt) (vaults : List VaultArea) (x : Bool) (us : Nat) (hm : s.mode = 0) (t : State)
    (ht : t = s.under bad (fun s => s.recover foreign log vaults x us)) : ((x = true ∨ s.rootLost = true) → t.stoppedWith 0x3207) ∧
    (x = false → s.rootLost = false → t.flag F.BRD_ST_HALIVE_OUT = true ∧ t.fld F.PKG_WIND_STEP = (if t.hasPartner then 13 else 14)) := by
  subst ht
  refine ⟨fun h => ?_, fun hx hl => ?_⟩
  · refine s.under_holds bad _ (fun t => t.stoppedWith 0x3207) (fun _ _ ht => ht) (fun u hr hl => u.recover_stops foreign log vaults x us ?_ (h.imp_right (fun h => hl.trans h)))
    rw [← hm]
    unfold State.mode State.fld
    rw [State.reg_congr hr]
  · refine s.under_holds bad _ (fun t => t.flag F.BRD_ST_HALIVE_OUT = true ∧ t.fld F.PKG_WIND_STEP = (if t.hasPartner then 13 else 14)) (fun _ _ ht => ht) (fun u hr hl' => ?_)
    rw [hx]
    exact u.recover_ends foreign log vaults us (hl'.trans hl) _ rfl

/-- Step 13 without a partner head is skipped (R94). -/
theorem State.resyncStep_alone (s : State) (us : Nat) (h : s.hasPartner = false) (t : State) (ht : t = s.resyncStep us) : t.fld F.PKG_WIND_STEP = 14 ∧
    (∀ q n j, q.addr n j ≠ Reg.PKG_WIND.addr 0 0 → t.reg q n j = s.reg q n j) ∧ t = { s with regs := t.regs } := by
  unfold State.resyncStep at ht
  rw [h, if_pos Bool.false_ne_true] at ht
  subst ht
  exact ⟨State.fld_setFld_same _ _ _ _ _ (by decide), fun q n j hq => State.reg_setFld_other _ F.PKG_WIND_STEP _ _ _ _ _ _ (Ne.symm hq), rfl⟩

/-- Step 13 with a partner head: head-alive, RESYNC, and its end once the partner head in Winding asserts head-alive too (R96, R135). -/
theorem State.resyncStep_partner (s : State) (us : Nat) (hin : s.inStep 13 = true) (h : s.hasPartner = true) (t : State) (ht : t = s.resyncStep us) :
    t.flag F.BRD_ST_HALIVE_OUT = true ∧ t.fld F.BRD_ST_STATE = 4 ∧ t.fld F.PKG_WIND_STEP = if s.pair.last.any (fun r => decide (r.mode = 0) && r.halive) then 14 else 13 := by
  obtain ⟨-, hstep, -⟩ := (s.inStep_iff 13).1 hin
  have hpair : ((s.driveHalive true).setFld F.BRD_ST_STATE 4).pair = s.pair := by
    unfold State.driveHalive
    split
    · rw [State.setFld_pair]
    · rw [State.setFld_pair, State.out_pair, State.setFld_pair]
  have hal : ((s.driveHalive true).setFld F.BRD_ST_STATE 4).flag F.BRD_ST_HALIVE_OUT = true := (State.flag_congr (State.fld_setFld_apart (by decide) ..)).trans s.halive_driveHalive_true
  have hst : ((s.driveHalive true).setFld F.BRD_ST_STATE 4).fld F.BRD_ST_STATE = 4 := State.fld_setFld_same _ _ _ _ _ (by decide)
  have hstep' : ((s.driveHalive true).setFld F.BRD_ST_STATE 4).fld F.PKG_WIND_STEP = 13 := by
    rw [State.fld_setFld_apart (by decide), State.fld_driveHalive _ _ _ _ _ (by decide), hstep]
  unfold State.resyncStep at ht
  rw [if_neg (not_not_intro h)] at ht
  dsimp only at ht
  rw [hpair] at ht
  generalize (s.driveHalive true).setFld F.BRD_ST_STATE 4 = u at *
  cases hl : s.pair.last with
  | none =>
    rw [hl] at ht
    subst ht
    exact ⟨hal, hst, hstep'⟩
  | some r =>
    rw [hl] at ht
    dsimp only at ht
    rw [Option.any_some]
    by_cases hr : r.mode = 0 ∧ r.halive = true
    · obtain ⟨hdone, -, -, hkeep⟩ := u.stepDone_shows 13 us (by decide)
      rw [if_pos hr] at ht
      subst ht
      rw [hr.1, hr.2]
      exact ⟨(State.flag_congr (hkeep F.BRD_ST_HALIVE_OUT (by decide))).trans hal, (hkeep F.BRD_ST_STATE (by decide)).trans hst, hdone⟩
    · rw [if_neg hr] at ht
      subst ht
      rw [if_neg (by simpa using hr)]
      exact ⟨hal, hst, hstep'⟩

end Sys2Proof.Machine
end

section
/-! SUPPORT. The end of a Winding (R95, R96, R99), and the switch to a head's own sections (R88). -/

namespace Sys2Proof.Machine

/-- Admission opens at the end of step 14 (R96). -/
theorem State.finishWinding_admits (s : State) (us : Nat) : (s.finishWinding us).flag F.PKG_MODE_ADMIT = true := by
  have hend : ∀ w : State, ((((w.setFld F.PKG_MODE_ADMIT 1).setFld F.HQ_ST_FETCH_PAUSED 0).setFld F.EP_ST_HOLD 0).ringLatched).flag F.PKG_MODE_ADMIT = true := fun w => by
    have hring : ∀ u : State, u.ringLatched.fld F.PKG_MODE_ADMIT = u.fld F.PKG_MODE_ADMIT := fun _ => rfl
    unfold State.flag
    rw [hring, State.fld_setFld_motif _ F.EP_ST_HOLD _ _ _ _ _ _ rfl (by decide), State.fld_setFld_motif _ F.HQ_ST_FETCH_PAUSED _ _ _ _ _ _ rfl (by decide),
      State.fld_setFld_same _ _ _ _ _ (by decide)]
    rfl
  unfold State.finishWinding
  dsimp only
  rw [State.flag_congr (State.modPair_fld ..)]
  exact hend _

/-- Paired entered (R99). -/
theorem State.goPaired_shows (s : State) : s.goPaired.mode = 1 ∧ s.goPaired.fld F.PKG_MODE_STAGING = 0 ∧ s.goPaired.fld F.PKG_MODE_ADMIT = s.fld F.PKG_MODE_ADMIT := by
  obtain ⟨hm, -, -⟩ := s.enterMode_shows 1 (by decide)
  have hadmit := s.fld_enterMode 1 F.PKG_MODE_ADMIT (by decide)
  unfold State.goPaired
  generalize s.enterMode 1 = u at hm hadmit
  refine ⟨?_, ?_, ?_⟩
  · unfold State.mode
    rw [State.fld_setEvt_apart (by decide), State.fld_setFld_apart (by decide), State.fld_setFld_apart (by decide)]
    exact hm
  · rw [State.fld_setEvt_apart (by decide), State.fld_setFld_apart (by decide), State.fld_setFld_same _ _ _ _ _ (by decide)]
    rfl
  · rw [State.fld_setEvt_apart (by decide), State.fld_setFld_apart (by decide), State.fld_setFld_apart (by decide), hadmit]

theorem State.soloCause_mem (s : State) : s.soloCause ∈ [1, 2, 4, 5] := by
  unfold State.soloCause
  split
  · decide
  · split
    · decide
    · split <;> decide

/-- Step 14 without a partner head: the Winding ended, then Solo with its cause (R91, R95; log 69). -/
theorem State.assignGrounds_alone (s p : State) (us : Nat) (hp : p = (s.driveHalive true).placeGrounds) (h : p.hasPartner = false) : ∃ (u : State) (c : Nat),
    s.assignGrounds us = u.afterWinding ∧ u.mode = 2 ∧ u.fld F.PKG_MODE_STAGING = 1 ∧ u.flag F.PKG_MODE_ADMIT = true ∧ c ∈ [1, 2, 4, 5] ∧ u.fld F.PKG_MODE_SOLO_CAUSE = c ∧
    u.flag F.PKG_MODE_EV_SOLO = true := by
  have hadmit := (p.raiseTaken p.grounds14).finishWinding_admits us
  have heq : s.assignGrounds us = (((p.raiseTaken p.grounds14).finishWinding us).goSolo ((p.raiseTaken p.grounds14).finishWinding us).soloCause).afterWinding := by
    unfold State.assignGrounds
    dsimp only
    rw [← hp, if_pos (by rw [h]; exact Bool.false_ne_true)]
  generalize (p.raiseTaken p.grounds14).finishWinding us = w at hadmit heq
  have hc := w.soloCause_mem
  have h8 : w.soloCause < 8 := (by decide : ∀ c ∈ [1, 2, 4, 5], c < 8) _ hc
  obtain ⟨hm, hstage, hcause, hev, hkeep⟩ := w.goSolo_shows w.soloCause h8
  exact ⟨_, w.soloCause, heq, hm, hstage, (State.flag_congr (hkeep F.PKG_MODE_ADMIT (by decide))).trans hadmit, hc, hcause, hev⟩

/-- Step 14 with a partner head in service, once every ground of the home that can be served is here (R95). -/
theorem State.assignGrounds_paired (s p : State) (us : Nat) (hp : p = (s.driveHalive true).placeGrounds) (h : p.hasPartner = true) (hs : p.partnerInService = true) (hn : p.pair.named = none)
    (hg : ∀ g ∈ p.groundList, p.homeOf g = p.headId → p.groundState g ≠ 6 → p.groundState g = 1) :
    ∃ u : State, s.assignGrounds us = u.afterWinding ∧ u.mode = 1 ∧ u.fld F.PKG_MODE_STAGING = 0 ∧ u.flag F.PKG_MODE_ADMIT = true := by
  have hall : (p.groundList.filter (fun g => p.homeOf g == p.headId && decide (p.groundState g ≠ 6))).all (fun g => decide (p.groundState g = 1)) = true := by
    simp only [List.all_eq_true, List.mem_filter, Bool.and_eq_true, beq_iff_eq, decide_eq_true_eq]
    exact fun g hmem => hg g hmem.1 hmem.2.1 hmem.2.2
  obtain ⟨hm, hstage, hadmit⟩ := (p.finishWinding us).goPaired_shows
  refine ⟨(p.finishWinding us).goPaired, ?_, hm, hstage, (State.flag_congr hadmit).trans (p.finishWinding_admits us)⟩
  unfold State.assignGrounds
  dsimp only
  rw [← hp, if_neg (not_not_intro h), if_pos hs, hn, hall, Option.isNone_none, Bool.true_and, if_pos rfl]

/-! ## The switch -/

/-- The pricking and PRK_PAIR_ST are in `t` as in `s`. -/
def State.keepsPart (s t : State) : Prop := t.prk = s.prk ∧ t.reg .PRK_PAIR_ST 0 0 = s.reg .PRK_PAIR_ST 0 0

theorem State.keepsPart_refl (s : State) : s.keepsPart s := ⟨rfl, rfl⟩

section
variable {s t u : State} (h : s.keepsPart t)
include h

theorem State.keepsPart.trans (g : t.keepsPart u) : s.keepsPart u := ⟨g.1.trans h.1, g.2.trans h.2⟩

theorem State.keepsPart.front (g : t.keepsFront u) : s.keepsPart u := h.trans ⟨g.1, g.2 _ _ _ (by decide)⟩

theorem State.keepsPart.setReg {r : Reg} {i x : Nat} (hr : r.addr 0 i ≠ Reg.PRK_PAIR_ST.addr 0 0) : s.keepsPart (t.setReg r 0 i x) :=
  h.trans ⟨rfl, State.reg_setReg_other _ _ _ _ _ _ _ _ hr⟩

theorem State.keepsPart.setFld {f : Fld Reg} {x i : Nat} (hf : f.reg.addr 0 i ≠ Reg.PRK_PAIR_ST.addr 0 0) : s.keepsPart (t.setFld f x 0 i) := h.setReg hf

theorem State.keepsPart.setEvt {f : Fld Reg} (hf : f.reg.addr 0 0 ≠ Reg.PRK_PAIR_ST.addr 0 0) : s.keepsPart (t.setEvt f) :=
  h.trans ⟨State.setEvt_prk .., State.reg_setEvt_other _ _ _ _ _ _ hf⟩

theorem State.keepsPart.setHold {f ev : Fld Reg} {b : Bool} (hf : f.reg.addr 0 0 ≠ Reg.PRK_PAIR_ST.addr 0 0) (he : ev.reg.addr 0 0 ≠ Reg.PRK_PAIR_ST.addr 0 0) :
    s.keepsPart (t.setHold f ev b) := by
  unfold State.setHold
  split
  · split
    · exact h
    · exact (h.setFld hf).setEvt he
  · exact h.setFld hf

theorem State.keepsPart.each {α : Type} {l : List α} {f : State → α → State} (hf : ∀ (u : State), ∀ a ∈ l, u.keepsPart (f u a)) : s.keepsPart (t.each l f) :=
  State.each_holds (fun u => s.keepsPart u) t l f h (fun u a ha hu => hu.trans (hf u a ha))

end

theorem State.keepsPart_syncAdmit (s : State) : s.keepsPart s.syncAdmit := by
  have hcls : ∀ i < 4, Reg.PKG_ADMIT_CLS.addr 0 i ≠ Reg.PRK_PAIR_ST.addr 0 0 := by decide
  have hfld : ∀ {t : State} {f : Fld Reg} {x : Nat}, s.keepsPart t → f.reg ∈ [Reg.PKG_ADMIT_USE, .PKG_ADMIT_MIR, .PKG_ADMIT_LIM, .PKG_ADMIT_ST] → s.keepsPart (t.setFld f x) := fun h hf =>
    h.setFld ((by decide : ∀ r ∈ [Reg.PKG_ADMIT_USE, .PKG_ADMIT_MIR, .PKG_ADMIT_LIM, .PKG_ADMIT_ST], r.addr 0 0 ≠ Reg.PRK_PAIR_ST.addr 0 0) _ hf)
  unfold State.syncAdmit
  dsimp only
  refine State.keepsPart.setHold (State.keepsPart.setHold ?_ (by decide) (by decide)) (by decide) (by decide)
  rw [if_neg Bool.false_ne_true]
  have hcore : ∀ a b c d e : Nat, s.keepsPart ((((((s.setFld F.PKG_ADMIT_USE_DIRTY_MIB a).setFld F.PKG_ADMIT_USE_UNACK_MIB b).setFld F.PKG_ADMIT_MIR_HELD_MIB c).setFld
      F.PKG_ADMIT_MIR_PARTNER_LIMIT_MIB d).setFld F.PKG_ADMIT_LIM_OWN_LIMIT_MIB e).each (List.range 4) (fun u k => u.setFld F.PKG_ADMIT_CLS_USED_MIB (mibUp (u.dp.unackC.getD k 0)) 0 k)) := fun a b c d e =>
    (hfld (hfld (hfld (hfld (hfld s.keepsPart_refl (by decide)) (by decide)) (by decide)) (by decide)) (by decide)).each (fun u k hk => u.keepsPart_refl.setFld (hcls k (List.mem_range.1 hk)))
  split
  · exact hcore _ _ _ _ _
  · exact hfld (hcore _ _ _ _ _) (by decide)

theorem State.keepsPart_fixSlots (s : State) : s.keepsPart s.fixSlots := by
  have haddr : ∀ i < 6, Reg.STC_SLOT_C.addr 0 i ≠ Reg.PRK_PAIR_ST.addr 0 0 ∧ Reg.STC_SLOT_T.addr 0 i ≠ Reg.PRK_PAIR_ST.addr 0 0 := by decide
  unfold State.fixSlots
  refine s.keepsPart_refl.each (fun u i hi => ?_)
  obtain ⟨hc, ht⟩ := haddr i (List.mem_range.1 hi)
  exact ((((u.keepsPart_refl.setFld hc).setFld hc).setFld hc).setFld ht).setFld ht

theorem State.keepsPart_installPart (s : State) : s.keepsPart s.installPart := by
  have hcls : ∀ i < 4, Reg.PKG_ADMIT_CLS.addr 0 i ≠ Reg.PRK_PAIR_ST.addr 0 0 := by decide
  have hslot : ∀ i < 64, Reg.STC_SLOT_C.addr 0 i ≠ Reg.PRK_PAIR_ST.addr 0 0 ∧ Reg.STC_SLOT_T.addr 0 i ≠ Reg.PRK_PAIR_ST.addr 0 0 := by decide
  have hgrounds : ∀ u : State, u.keepsFront u.syncGrounds := fun u => by
    unfold State.syncGrounds
    exact u.keepsFront_refl.each (fun w g => (((w.keepsFront_refl.setFld (f := F.CLM_GROUND_EXISTS) rfl).setFld (f := F.CLM_GROUND_TWIN) rfl).setFld (f := F.CLM_GROUND_HOME) rfl).setFld
      (f := F.CLM_GROUND_MIRRORED) rfl)
  unfold State.installPart
  dsimp only
  have h0 : s.keepsPart (s.each (List.range 4) (fun u c => u.setFld F.PKG_ADMIT_CLS_RESV_MIB (s.activePart.resv.getD c default).admitMib 0 c)) :=
    s.keepsPart_refl.each (fun u c hc => u.keepsPart_refl.setFld (hcls c (List.mem_range.1 hc)))
  refine ((h0.trans (State.keepsPart_fixSlots _)).each (fun u i hi => ?_)).front (hgrounds _) |>.trans (State.keepsPart_syncAdmit _)
  obtain ⟨k, hk, rfl⟩ := List.mem_map.1 hi
  have hk := List.mem_range.1 hk
  obtain ⟨hc, ht⟩ := hslot (k + 6) (by omega)
  split
  · exact (u.keepsPart_refl.setReg hc).setReg ht
  · exact (((((u.keepsPart_refl.setFld hc).setFld hc).setFld hc).setFld hc).setFld ht).setFld ht

/-- At the stitch named a head of prior sections installs its own where the partner head's PAIR_HASH is its own (R88). -/
theorem State.switchSections_shows (s t : State) (ht : t = s.switchSections) (ha : s.flag F.PRK_PAIR_ST_PRIOR_ACTIVE = true)
    (hx : ∃ x, s.pair.partnerId = some x ∧ x.pairHash = s.pairHashes.1) (hn : s.num = s.fld F.BRD_NAMED_STITCH) :
    t.fld F.PRK_PAIR_ST_PRIOR_ACTIVE = 0 ∧ t.fld F.PRK_PAIR_ST_REL = 1 ∧ t.activePart = (match s.prk with | some p => p.own | none => s.activePart) := by
  obtain ⟨x, hid, hash⟩ := hx
  have hown : ((s.setFld F.PRK_PAIR_ST_PRIOR_ACTIVE 0).setFld F.PRK_PAIR_ST_REL 1).fld F.PRK_PAIR_ST_PRIOR_ACTIVE = 0 ∧
      ((s.setFld F.PRK_PAIR_ST_PRIOR_ACTIVE 0).setFld F.PRK_PAIR_ST_REL 1).fld F.PRK_PAIR_ST_REL = 1 := by
    refine ⟨?_, State.fld_setFld_same _ F.PRK_PAIR_ST_REL _ 0 0 (by decide)⟩
    rw [State.fld_setFld_apart (by decide), State.fld_setFld_same _ _ _ _ _ (by decide)]
    rfl
  have hoffs : offSampler (Reg.PRK_PAIR_ST.addr 0 0) := ⟨by decide, by decide, fun m => Ne.symm (Reg.addr_ne_of_pkg m 0 (by decide) rfl)⟩
  have hsample : ∀ (u : State) (b : Bytes), u.keepsPart (u.sample 0x0006 b) := fun u b =>
    ⟨(State.onlySamples_sample ..).same State.prk (fun _ _ _ _ => rfl), State.reg_sample hoffs ..⟩
  have hkeep : ((s.setFld F.PRK_PAIR_ST_PRIOR_ACTIVE 0).setFld F.PRK_PAIR_ST_REL 1).keepsPart t := by
    unfold State.switchSections at ht
    rw [hid] at ht
    dsimp only at ht
    rw [ha, decide_eq_true hash, decide_eq_true hn, Bool.and_self, Bool.and_self, if_pos rfl] at ht
    generalize (s.setFld F.PRK_PAIR_ST_PRIOR_ACTIVE 0).setFld F.PRK_PAIR_ST_REL 1 = u at *
    have hgone : ∀ l : List Nat, u.keepsPart (u.installPart.each l (fun s g => s.setGroundState g 6)) := fun l =>
      (State.keepsPart_installPart u).each (fun w g _ => w.keepsPart_refl.front (w.keepsFront_setGroundState g 6))
    rw [ht]
    split
    · exact (hgone _).trans (hsample ..)
    · exact hgone _
  have hprk : t.prk = s.prk := hkeep.1.trans (by rw [State.setFld_prk, State.setFld_prk])
  have hfld : ∀ hi lo, t.fld ⟨.PRK_PAIR_ST, hi, lo⟩ = ((s.setFld F.PRK_PAIR_ST_PRIOR_ACTIVE 0).setFld F.PRK_PAIR_ST_REL 1).fld ⟨.PRK_PAIR_ST, hi, lo⟩ := fun hi lo =>
    congrArg (fun v => bits v hi lo) hkeep.2
  have hprior : t.fld F.PRK_PAIR_ST_PRIOR_ACTIVE = 0 := (hfld _ _).trans hown.1
  have hoff : t.flag F.PRK_PAIR_ST_PRIOR_ACTIVE = false := by
    unfold State.flag
    rw [hprior]
    rfl
  refine ⟨hprior, (hfld _ _).trans hown.2, ?_⟩
  unfold State.activePart
  rw [hprk, hoff]
  cases s.prk <;> rfl

/-- Settles O28: each step by its lemma. -/
theorem windingSteps9To14 : Obligations.WindingSteps9To14 := by
  unfold Obligations.WindingSteps9To14
  intro s us bad hr
  refine ⟨fun h9 pass clock now => ?_, fun h10 => ?_, fun h11 found => ?_, fun foreign log vaults x h12 hscan => ?_, fun foreign log vaults x h => ?_, fun h13 hp => ?_, fun h13 hp => ?_,
    fun p hin hp => ?_, fun ha hx hn => ⟨_, live_on s State.switchSections hr, s.switchSections_shows _ rfl ha hx hn⟩⟩
  · have hexec : ∀ o, exec (.brideTraining pass clock now o us) s = .next (s.windBride pass clock now o us) := fun o => by
      rw [exec_brideTraining, execBrideTraining, live_on _ _ hr, if_pos h9]
    exact ⟨⟨_, hexec none, s.windBride_alone h9 pass clock now us⟩, fun x => ⟨_, hexec (some x), s.windBride_ends pass clock now us (some x)⟩⟩
  · have hexec : exec (.stitchLock us) s = .next (s.windLock us) := by
      rw [exec_stitchLock, execStitchLock, live_on _ _ hr, if_pos h10]
    have hdone : ∀ t, s.lockStep = some t → exec (.stitchLock us) s = .next (t.stepDone 10 us) := fun t ht => by rw [hexec, s.windLock_some us ht]
    refine ⟨fun r hp hl => ?_, fun hp hv hst => ?_, fun hp hst => ?_, fun hp hv hst => by rw [hexec, s.windLock_none us (s.lockStep_none hst hv hp)]⟩
    · obtain ⟨t, ht, hstate, hofs⟩ := s.lockStep_follow r hp hl
      obtain ⟨hstep, -, -, hkeep⟩ := t.stepDone_shows 10 us (by decide)
      exact ⟨_, hdone t ht, hstep, (hkeep F.STC_ST_STATE (by decide)).trans hstate, (hkeep F.STC_NUM_OFS_OFS (by decide)).trans hofs⟩
    · obtain ⟨hstep, -, -, hkeep⟩ := s.lockOwn.stepDone_shows 10 us (by decide)
      exact ⟨_, hdone _ (s.lockStep_own hp hv hst), hstep, (hkeep F.STC_ST_STATE (by decide)).trans s.lockOwn_locked⟩
    · obtain ⟨hstep, -, honly, -⟩ := s.stepDone_shows 10 us (by decide)
      exact ⟨_, hdone _ (s.lockStep_already hp hst), hstep, honly⟩
  · have hend : ∀ w : State, (w.stepDone 11 us).fld F.PKG_WIND_STEP = 12 ∧ (w.stepDone 11 us).fld F.PKG_WIND_TIME_TIME_US 0 10 = min us 0xFFFFFFFF := fun w => by
      obtain ⟨hstep, htime, -, -⟩ := w.stepDone_shows 11 us (by decide)
      exact ⟨hstep, htime⟩
    rw [exec_moduleDiscovery, execModuleDiscovery, live_on _ _ hr, if_pos h11]
    exact ⟨_, rfl, hend _⟩
  · obtain ⟨hmode, -, -⟩ := (s.inStep_iff 12).1 h12
    obtain ⟨hstops, hends⟩ := s.recoverUnder_cases bad foreign log vaults x us hmode _ rfl
    refine ⟨fun hk => ?_, fun ho hk => ?_⟩
    · have hexec : exec (.metadataRecovery foreign log vaults x bad us) s = .next (s.under bad (fun s => s.recover foreign log vaults x us)) := by
        rw [exec_metadataRecovery, execMetadataRecovery, live_on _ _ hr, h12, hscan, if_pos (by simpa using hk)]
      exact ⟨fun h => ⟨_, hexec, hstops h⟩, fun hx hl => ⟨_, hexec, hends hx hl⟩⟩
    · have hexec : exec (.keysDoneTimeout foreign log vaults x bad us) s = .next (s.under bad (fun s => s.recover foreign log vaults x us)) := by
        rw [exec_keysDoneTimeout, execKeysDoneTimeout, live_on _ _ hr, h12, hscan, ho, hk, if_pos (by decide)]
      exact ⟨fun h => ⟨_, hexec, hstops h⟩, fun hx hl => ⟨_, hexec, hends hx hl⟩⟩
  · rw [exec_metadataRecovery, execMetadataRecovery, live_on _ _ hr, if_neg]
    rcases h with h | h | ⟨ho, hk⟩
    · simp [h]
    · simp [h]
    · simp [ho, hk]
  · rw [exec_mirrorResync, execMirrorResync, live_on _ _ hr, if_pos h13]
    exact ⟨_, rfl, s.resyncStep_alone us hp _ rfl⟩
  · rw [exec_mirrorResync, execMirrorResync, live_on _ _ hr, if_pos h13]
    exact ⟨_, rfl, s.resyncStep_partner us h13 hp _ rfl⟩
  · have hexec : exec (.groundAssignment us) s = .next (s.assignGrounds us) := by
      rw [exec_groundAssignment, execGroundAssignment, live_on _ _ hr, if_pos (by simpa using hin)]
    rw [hexec]
    refine ⟨fun h => ?_, fun h hs hn hg => ?_⟩
    · obtain ⟨u, c, heq, hu⟩ := s.assignGrounds_alone p us hp h
      exact ⟨u, c, congrArg _ heq, hu⟩
    · obtain ⟨u, heq, hu⟩ := s.assignGrounds_paired p us hp h hs hn hg
      exact ⟨u, congrArg _ heq, hu⟩

end Sys2Proof.Machine
end

section
/-! SUPPORT. The scrub of DRAM (R407). -/

namespace Sys2Proof.Machine

/-! ## Registers that errors of DRAM leave alone -/

section
variable {r : Reg} {n j : Nat} (ho : offSampler (r.addr n j)) (hd : ∀ q : Reg, q = .DRM_ERR ∨ q = .DRM_CNT ∨ q = .DRM_EVT → ∀ k, ∀ i < 4, q.addr k i ≠ r.addr n j)
include hd

theorem State.reg_dramErr (s : State) (m line kind dev sub : Nat) (scrub : Bool) : (s.dramErr m line kind dev sub scrub).reg r n j = s.reg r n j := by
  have h : Reg.DRM_ERR.addr m 0 ≠ r.addr n j := hd _ (.inl rfl) m 0 (by decide)
  unfold State.dramErr
  simp (disch := exact h) only [State.reg_setFld_other]

theorem State.reg_dramEvt (s : State) (f : Fld Reg) (m : Nat) (hf : f.reg = .DRM_EVT) : (s.setEvt f m).reg r n j = s.reg r n j :=
  State.reg_setEvt_other _ _ _ _ _ _ (hd _ (.inr (.inr hf)) m 0 (by decide))

theorem State.reg_dramCnt (s : State) (f : Fld Reg) (x m line : Nat) (hf : f.reg = .DRM_CNT) : (s.bump f x m (channelOf line)).reg r n j = s.reg r n j :=
  State.reg_setFld_other _ _ _ _ _ _ _ _ (hd _ (.inr (.inl hf)) m _ (channelOf_lt _))

theorem State.reg_dramCe (s : State) (m line dev : Nat) (scrub : Bool) : (s.dramCe m line dev scrub).reg r n j = s.reg r n j := by
  unfold State.dramCe
  dsimp only
  split
  · rw [State.reg_dramEvt hd _ _ _ rfl, State.modMs_reg, State.reg_dramEvt hd _ _ _ rfl, State.reg_dramCnt hd _ _ _ _ _ rfl, State.reg_dramErr hd]
  · rw [State.modMs_reg, State.reg_dramEvt hd _ _ _ rfl, State.reg_dramCnt hd _ _ _ _ _ rfl, State.reg_dramErr hd]

include ho

theorem State.reg_dramUeSeen (s : State) (m line : Nat) (scrub : Bool) : (s.dramUeSeen m line scrub).reg r n j = s.reg r n j := by
  unfold State.dramUeSeen State.sampleUe
  dsimp only
  rw [State.reg_sample ho, State.reg_dramEvt hd _ _ _ rfl, State.reg_dramCnt hd _ _ _ _ _ rfl, State.reg_dramErr hd]

/-- A line read by the scrub and not written back touches no register but those of a DRAM block and of the sampler. -/
theorem State.reg_peekDram (s : State) (m line : Nat) : (s.peekDram m line).reg r n j = s.reg r n j := by
  unfold State.peekDram
  split
  · rfl
  · exact State.reg_dramCe hd ..
  · exact State.reg_dramUeSeen ho hd ..
  · split
    · exact State.reg_dramUeSeen ho hd ..
    · rfl

/-- So does a line scrubbed (R407). -/
theorem State.reg_scrubLine (s : State) (m line : Nat) : (s.scrubLine m line).reg r n j = s.reg r n j := by
  unfold State.scrubLine
  dsimp only
  split
  · rfl
  · split
    · split
      · exact State.reg_peekDram ho hd ..
      · exact State.reg_readDram _ _ _ _ ho hd
    · exact State.reg_readDram _ _ _ _ ho hd

end

/-! ## Where the next scrub goes on -/

/-- A line scrubbed moves nothing on. -/
theorem State.fld_scrubLine (s : State) (k line m : Nat) : (s.scrubLine k line).fld F.DRM_SCRUB_ST_NEXT m = s.fld F.DRM_SCRUB_ST_NEXT m ∧ (s.scrubLine k line).populated m = s.populated m := by
  have hscrub : (s.scrubLine k line).reg .DRM_SCRUB_ST m 0 = s.reg .DRM_SCRUB_ST m 0 := State.reg_scrubLine (offSampler_of_motif m (by decide)) (offDram_of_motif m (by decide)) ..
  have hst : (s.scrubLine k line).reg .DRM_ST m 0 = s.reg .DRM_ST m 0 := State.reg_scrubLine (offSampler_of_motif m (by decide)) (offDram_of_motif m (by decide)) ..
  unfold State.populated State.fld
  rw [hscrub, hst]
  exact ⟨rfl, rfl⟩

/-- The place of the next line scrubbed after line `l` of `total` (R407). -/
def State.scrubbedOn (s : State) (m l total : Nat) : State :=
  if l + 1 = total then (s.setFld F.DRM_SCRUB_ST_NEXT 0 m).bump F.DRM_SCRUB_ST_PASSES 1 m else s.setFld F.DRM_SCRUB_ST_NEXT (l + 1) m

theorem State.scrubMotif_succ (s : State) (m n : Nat) (h : s.populated m / 128 ≠ 0) : s.scrubMotif m (n + 1) =
    ((s.scrubLine m (s.fld F.DRM_SCRUB_ST_NEXT m)).scrubbedOn m (s.fld F.DRM_SCRUB_ST_NEXT m) (s.populated m / 128)).scrubMotif m n := by
  conv_lhs => unfold State.scrubMotif
  dsimp only
  rw [if_neg h]
  rfl

theorem State.scrubbedOn_shows (s : State) (m l total : Nat) (hl : l < total) (ht : total ≤ 2 ^ 32) : (s.scrubbedOn m l total).fld F.DRM_SCRUB_ST_NEXT m = (l + 1) % total := by
  unfold State.scrubbedOn
  split
  · rename_i he
    rw [he, Nat.mod_self]
    unfold State.bump
    rw [State.fld_setFld_field _ F.DRM_SCRUB_ST_PASSES F.DRM_SCRUB_ST_NEXT _ _ _ (by decide), State.fld_setFld_same _ _ _ _ _ (by decide)]
    rfl
  · rw [State.fld_setFld_same _ _ _ _ _ (by decide), Nat.mod_eq_of_lt (a := l + 1) (b := total) (by omega)]
    exact Nat.mod_eq_of_lt (by simp only [Nat.reduceAdd, Nat.reduceSub, Nat.reducePow]; omega)

theorem State.scrubbedOn_other (s : State) (k l total : Nat) {q : Reg} {n j : Nat} (h : Reg.DRM_SCRUB_ST.addr k 0 ≠ q.addr n j) : (s.scrubbedOn k l total).reg q n j = s.reg q n j := by
  unfold State.scrubbedOn State.bump
  split
  · rw [State.reg_setFld_other _ F.DRM_SCRUB_ST_PASSES _ _ _ _ _ _ h, State.reg_setFld_other _ F.DRM_SCRUB_ST_NEXT _ _ _ _ _ _ h]
  · exact State.reg_setFld_other _ F.DRM_SCRUB_ST_NEXT _ _ _ _ _ _ h

theorem State.scrubbedOn_populated (s : State) (k l total m : Nat) : (s.scrubbedOn k l total).populated m = s.populated m := by
  unfold State.populated State.fld
  rw [State.scrubbedOn_other _ _ _ _ (Reg.addr_ne_of_windowOfs k m (by decide))]

/-- The scrub of another motif moves nothing on. -/
theorem State.scrubMotif_other (s : State) (k m n : Nat) (h : k ≠ m) : (s.scrubMotif k n).fld F.DRM_SCRUB_ST_NEXT m = s.fld F.DRM_SCRUB_ST_NEXT m ∧ (s.scrubMotif k n).populated m = s.populated m := by
  have haddr : Reg.DRM_SCRUB_ST.addr k 0 ≠ Reg.DRM_SCRUB_ST.addr m 0 := by
    rw [Reg.addr_eq_windowOfs rfl, Reg.addr_eq_windowOfs rfl]
    omega
  induction n generalizing s with
  | zero => exact ⟨rfl, rfl⟩
  | succ n ih =>
    by_cases h0 : s.populated k / 128 = 0
    · unfold State.scrubMotif
      dsimp only
      rw [if_pos h0]
      exact ⟨rfl, rfl⟩
    · rw [s.scrubMotif_succ k n h0]
      obtain ⟨hn, hp⟩ := ih ((s.scrubLine k (s.fld F.DRM_SCRUB_ST_NEXT k)).scrubbedOn k (s.fld F.DRM_SCRUB_ST_NEXT k) (s.populated k / 128))
      obtain ⟨hn', hp'⟩ := s.fld_scrubLine k (s.fld F.DRM_SCRUB_ST_NEXT k) m
      refine ⟨hn.trans (Eq.trans ?_ hn'), hp.trans ((State.scrubbedOn_populated ..).trans hp')⟩
      unfold State.fld
      rw [State.scrubbedOn_other _ _ _ _ haddr]

/-- `n` lines scrubbed move the place on by as many, within the populated DRAM (R407). -/
theorem State.scrubMotif_next (s : State) (m n : Nat) (ht : s.populated m / 128 ≤ 2 ^ 32) (hl : s.fld F.DRM_SCRUB_ST_NEXT m < s.populated m / 128) :
    (s.scrubMotif m n).fld F.DRM_SCRUB_ST_NEXT m = (s.fld F.DRM_SCRUB_ST_NEXT m + n) % (s.populated m / 128) := by
  induction n generalizing s with
  | zero => exact (Nat.mod_eq_of_lt hl).symm
  | succ n ih =>
    rw [s.scrubMotif_succ m n (by omega)]
    have hpop : ((s.scrubLine m (s.fld F.DRM_SCRUB_ST_NEXT m)).scrubbedOn m (s.fld F.DRM_SCRUB_ST_NEXT m) (s.populated m / 128)).populated m = s.populated m :=
      (State.scrubbedOn_populated ..).trans (s.fld_scrubLine m _ m).2
    have hnext := (s.scrubLine m (s.fld F.DRM_SCRUB_ST_NEXT m)).scrubbedOn_shows m _ _ hl ht
    have hlt : (s.fld F.DRM_SCRUB_ST_NEXT m + 1) % (s.populated m / 128) < s.populated m / 128 := Nat.mod_lt _ (by omega)
    rw [ih _ (by rw [hpop]; exact ht) (by rw [hpop, hnext]; exact hlt), hpop, hnext, Nat.mod_add_mod]
    congr 1
    omega

/-- Each motif scrubbed in turn: motif `m` moves on once. -/
theorem State.eachScrub_next (s : State) (m n : Nat) (l : List Nat) (hnd : l.Nodup) (hm : m ∈ l) (ht : s.populated m / 128 ≤ 2 ^ 32)
    (hl : s.fld F.DRM_SCRUB_ST_NEXT m < s.populated m / 128) :
    (s.each l (fun s k => s.scrubMotif k n)).fld F.DRM_SCRUB_ST_NEXT m = (s.fld F.DRM_SCRUB_ST_NEXT m + n) % (s.populated m / 128) := by
  induction l generalizing s with
  | nil => exact absurd hm List.not_mem_nil
  | cons k l ih =>
    obtain ⟨hk, hnd'⟩ := List.nodup_cons.1 hnd
    show ((s.scrubMotif k n).each l (fun s k => s.scrubMotif k n)).fld F.DRM_SCRUB_ST_NEXT m = _
    by_cases hkm : k = m
    · subst hkm
      refine Eq.trans (State.each_keeps (fun t => t.fld F.DRM_SCRUB_ST_NEXT k) _ _ _ (fun t a ha => (t.scrubMotif_other a k n ?_).1)) (s.scrubMotif_next k n ht hl)
      rintro rfl
      exact hk ha
    · obtain ⟨hn, hp⟩ := s.scrubMotif_other k m n hkm
      rw [ih _ hnd' ((List.mem_cons.1 hm).resolve_left (Ne.symm hkm)) (by rw [hp]; exact ht) (by rw [hp, hn]; exact hl), hn, hp]

/-- Nothing is cached where no line is held. -/
theorem State.cached_none (s : State) (h : s.noLines = true) (a : Nat) : s.cached a = none := by
  unfold State.noLines at h
  rw [Bool.and_eq_true, Bool.and_eq_true, List.isEmpty_iff, List.isEmpty_iff, List.isEmpty_iff] at h
  obtain ⟨⟨hl, hv⟩, hs⟩ := h
  unfold State.cached
  rw [hl, hv, hs]
  rfl

/-- A line without an error that is not cached is read, and nothing happens. -/
theorem State.scrubLine_clean (s : State) (m line : Nat) (he : s.ms.errs = []) (hl : s.noLines = true) : s.scrubLine m line = s := by
  have hread : s.readDram m line true = s := by
    unfold State.readDram
    dsimp only
    rw [he]
    exact if_pos (.inl rfl)
  unfold State.scrubLine
  dsimp only
  rw [s.cached_none hl, hread]
  exact ite_self s

/-- With no error in DRAM and nothing cached the scrub writes its own registers alone. -/
theorem State.onlyRegs_scrubMotif (s : State) (m n : Nat) (he : s.ms.errs = []) (hl : s.noLines = true) : s.onlyRegs (s.scrubMotif m n) := by
  induction n generalizing s with
  | zero => exact s.onlyRegs_refl
  | succ n ih =>
    by_cases h0 : s.populated m / 128 = 0
    · unfold State.scrubMotif
      dsimp only
      rw [if_pos h0]
      exact s.onlyRegs_refl
    · rw [s.scrubMotif_succ m n h0, s.scrubLine_clean m _ he hl]
      have hon : s.onlyRegs (s.scrubbedOn m (s.fld F.DRM_SCRUB_ST_NEXT m) (s.populated m / 128)) := by
        unfold State.scrubbedOn
        split
        · exact s.onlyRegs_refl.setFld.bump
        · exact s.onlyRegs_refl.setFld
      have hms := hon.same State.ms (fun _ _ => rfl)
      refine hon.trans (ih _ (by rw [hms]; exact he) ?_)
      unfold State.noLines
      rw [hms]
      exact hl

/-- DRAM_SCRUB (R60, R407): NEXT of each motif moves on by ARG lines. -/
theorem exec_dramScrub_shows (s : State) (i m arg : Nat) (hr : s.power.running = true) (ha : arg = s.fld F.STC_SLOT_C_ARG 0 i) (hd : s.slotDue i 0x10 = true) (upsets : List (Nat × Nat × Nat)) :
    ∃ t, exec (.dramScrub i false upsets) s = .next t ∧
      (s.hasMotif m = true → s.populated m / 128 ≤ 2 ^ 32 → s.fld F.DRM_SCRUB_ST_NEXT m < s.populated m / 128 →
        t.fld F.DRM_SCRUB_ST_NEXT m = (s.fld F.DRM_SCRUB_ST_NEXT m + arg) % (s.populated m / 128)) ∧
      (s.ms.errs = [] → upsets = [] → s.noLines = true → t = { s with regs := t.regs, stc := (s.slotRun i).stc }) := by
  rw [exec_dramScrub, execDramScrub, live_on _ _ hr, State.slotFire_due hd, ← ha]
  refine ⟨_, rfl, fun hm ht hl => ?_, fun he hu hnl => ?_⟩
  · have hups : ∀ (p : State → Nat), (∀ (u : State) (f : MemSt → MemSt), p (u.modMs f) = p u) →
        p ((s.slotRun i).each upsets (fun s u => s.modMs (fun d => { d with errs := Sparse.set [] d.errs u.1 (Sparse.get [] d.errs u.1 ++ [u.2]) }))) = p (s.slotRun i) := fun p hp =>
      State.each_keeps p _ _ _ (fun t a _ => hp _ _)
    have hnext := (hups (fun t => t.fld F.DRM_SCRUB_ST_NEXT m) (fun _ _ => State.modMs_fld ..)).trans (s.slotRun_fld i _ m 0)
    have hrun : (s.slotRun i).populated m = s.populated m := by
      unfold State.populated
      rw [s.slotRun_fld]
    have hpop := (hups (fun t => t.populated m) (fun _ _ => rfl)).trans hrun
    have hmot : _ = s.fuses.caps.motifs := (hups (fun t => t.fuses.caps.motifs) (fun _ _ => rfl)).trans (by rw [s.slotRun_eq i])
    dsimp only
    generalize (s.slotRun i).each upsets (fun s u => s.modMs (fun d => { d with errs := Sparse.set [] d.errs u.1 (Sparse.get [] d.errs u.1 ++ [u.2]) })) = v at *
    have hmem : m ∈ v.motifs := by
      unfold State.motifs
      rw [hmot]
      exact List.mem_range.2 (of_decide_eq_true hm)
    refine (State.eachScrub_next v m arg v.motifs List.nodup_range hmem (by rw [hpop]; exact ht) (by rw [hpop, hnext]; exact hl)).trans ?_
    rw [hnext, hpop]
  · subst hu
    have hms : (s.slotRun i).ms = s.ms := by rw [s.slotRun_eq i]
    have hon : (s.slotRun i).onlyRegs ((s.slotRun i).each (s.slotRun i).motifs (fun s m => s.scrubMotif m arg)) :=
      State.each_holds (fun t => (s.slotRun i).onlyRegs t) _ _ _ (State.onlyRegs_refl _) (fun t k _ ht => by
        have htms : t.ms = s.ms := (ht.same State.ms (fun _ _ => rfl)).trans hms
        refine ht.trans (t.onlyRegs_scrubMotif k arg (by rw [htms]; exact he) ?_)
        unfold State.noLines
        rw [htms]
        exact hnl)
    exact Eq.trans hon (congrArg (fun w : State => { w with regs := ((s.slotRun i).each (s.slotRun i).motifs (fun s m => s.scrubMotif m arg)).regs }) (s.slotRun_eq i))

end Sys2Proof.Machine
end

section
/-! SUPPORT. Patrol, media scrub, replication and collection by slot (R241, R243, R263, R274, R350). -/

namespace Sys2Proof.Machine

/-! ## What a patrol looks at -/

/-- What a context held for a motif writes: the engines, the injection that fires, and the status registers of its engines (R187, R426). -/
theorem State.holdContext_keeps {α : Type} (p : State → α) (k : EngKind) (m cls : Nat) (q : Route → Bool)
    (hset : ∀ (t : State) (f : Fld Reg) (x : Nat), f.reg ∈ [Reg.ECU_ST, .CIP_ST, .CMP_ST, .MTF_DCMP_ST, .DIG_CTX_ST, .ECC_FLIP_TARGET] → p (t.setFld f x m) = p t)
    (hfree : ∀ (t : State) (n : Nat), p { t with free := n } = p t) (hms : ∀ (t : State) (f : MemSt → MemSt), p (t.modMs f) = p t)
    (heng : ∀ (t : State) (f : EngSt → EngSt), p (t.modEng f) = p t) (s : State) : p (s.holdContext k m cls q).1 = p s := by
  have hwrote : ∀ (t : State) (inst : Nat), p (t.sramWrote m 0x31 inst none) = p t := fun t inst => by
    unfold State.sramWrote State.sramWroteAt State.fired
    split
    · rw [hset _ _ _ (by decide), hset _ _ _ (by decide), hms]
    · rfl
  have hsync : ∀ t : State, p (t.syncEng m) = p t := fun t => by
    have hcip : ∀ u : State, p (if u.fuses.caps.optE then u.setFld F.CIP_ST_WAITING (u.waitsOn .cip m).length m else u) = p u := fun u => by
      split
      · exact hset _ _ _ (by decide)
      · rfl
    have hcmp : ∀ u : State, p (if u.fuses.caps.optC then
        ((u.setFld F.CMP_ST_WAITING (u.waitCount .cmp m) m).setFld F.CMP_ST_BUSY0 (u.boundOn .cmp m 0) m).setFld F.CMP_ST_BUSY1 (u.boundOn .cmp m 1) m else u) = p u := fun u => by
      split
      · rw [hset _ _ _ (by decide), hset _ _ _ (by decide), hset _ _ _ (by decide)]
      · rfl
    unfold State.syncEng
    dsimp only
    rw [hset _ _ _ (by decide), hset _ _ _ (by decide), hset _ _ _ (by decide), hset _ _ _ (by decide), hset _ _ _ (by decide), hset _ _ _ (by decide), hcmp, hcip,
      hset _ _ _ (by decide), hset _ _ _ (by decide), hset _ _ _ (by decide)]
  unfold State.holdContext
  dsimp only
  split
  · rfl
  · rw [hsync, heng, hwrote]
    split
    · exact hfree ..
    · rfl

/-- Bands, namespaces, pricking and the registers of the package window are in `t` as in `s`. -/
def State.sameBands (s t : State) : Prop := t.med = s.med ∧ t.prk = s.prk ∧ ∀ (q : Reg) (n j : Nat), q.addr n j < 0x1000000 → t.reg q n j = s.reg q n j

theorem State.sameBands_setFld {s t : State} (h : s.sameBands t) (f : Fld Reg) (x m : Nat) (hf : f.reg.spec.pkg = false) : s.sameBands (t.setFld f x m) := by
  obtain ⟨hm, hp, hr⟩ := h
  refine ⟨(State.setFld_med ..).trans hm, (State.setFld_prk ..).trans hp, fun q n j hq => (State.reg_setFld_other _ _ _ _ _ _ _ _ ?_).trans (hr q n j hq)⟩
  have := Reg.addr_motif f.reg m 0 hf
  omega

/-- The stripes that a motif patrols hang on these alone. -/
theorem State.sameBands.patrolStripes {s t : State} (h : s.sameBands t) (m : Nat) : t.patrolStripes m = s.patrolStripes m := by
  obtain ⟨hm, hp, hr⟩ := h
  have hpart : t.activePart = s.activePart := by
    unfold State.activePart State.flag State.fld
    rw [hp, hr .PRK_PAIR_ST 0 0 (by decide)]
  have hnamed : ∀ g, t.groundNamed 2 g = s.groundNamed 2 g := fun g => by
    unfold State.groundNamed
    rw [hpart, hm]
  have howns : ∀ g, t.owns g = s.owns g := fun g => by
    unfold State.owns State.groundState State.fld
    by_cases hg : g < 256
    · rw [hr .CLM_GROUND 0 g ((by decide +kernel : ∀ g < 256, Reg.CLM_GROUND.addr 0 g < 0x1000000) g hg)]
    · rw [decide_eq_false hg, Bool.false_and, Bool.false_and]
  unfold State.patrolStripes
  simp only [hm, hnamed, howns]

theorem State.holdContext_sameBands (s : State) (k : EngKind) (m cls : Nat) (q : Route → Bool) : s.sameBands (s.holdContext k m cls q).1 ∧
    (s.holdContext k m cls q).1.reg .ECU_PAT_ST m 0 = s.reg .ECU_PAT_ST m 0 := by
  have hpkg : ∀ r ∈ [Reg.ECU_ST, .CIP_ST, .CMP_ST, .MTF_DCMP_ST, .DIG_CTX_ST, .ECC_FLIP_TARGET], r.spec.pkg = false ∧ r.windowOfs 0 < 0x1000000 ∧ r.windowOfs 0 ≠ Reg.ECU_PAT_ST.windowOfs 0 := by decide
  refine ⟨⟨?_, ?_, fun r n j hr => ?_⟩, ?_⟩
  · exact State.holdContext_keeps State.med k m cls q (fun _ _ _ _ => rfl) (fun _ _ => rfl) (fun _ _ => rfl) (fun _ _ => rfl) s
  · exact State.holdContext_keeps State.prk k m cls q (fun _ _ _ _ => rfl) (fun _ _ => rfl) (fun _ _ => rfl) (fun _ _ => rfl) s
  · refine State.holdContext_keeps (fun t => t.reg r n j) k m cls q (fun t f x hf => State.reg_setFld_other _ _ _ _ _ _ _ _ ?_) (fun _ _ => rfl) (fun _ _ => rfl) (fun _ _ => rfl) s
    have := Reg.addr_motif f.reg m 0 (hpkg _ hf).1
    omega
  · refine State.holdContext_keeps (fun t => t.reg .ECU_PAT_ST m 0) k m cls q (fun t f x hf => State.reg_setFld_other _ _ _ _ _ _ _ _ ?_) (fun _ _ => rfl) (fun _ _ => rfl) (fun _ _ => rfl) s
    obtain ⟨hp, hw, hne⟩ := hpkg _ hf
    exact Reg.addr_ne_of_windowOfs m m ⟨⟨hp, rfl⟩, hw, by decide, hne⟩

/-- A new pass begins at the first stripe (R274). -/
theorem State.newPass_shows (s : State) (m : Nat) : s.sameBands (s.newPass m) ∧ (s.newPass m).fld F.ECU_PAT_ST_CHECKED m = 0 := by
  unfold State.newPass
  refine ⟨State.sameBands_setFld (State.sameBands_setFld (State.sameBands_setFld ⟨rfl, rfl, fun _ _ _ _ => rfl⟩ F.ECU_PAT_ST_CHECKED _ m rfl) F.ECU_PAT_ST_TOTAL _ m rfl) F.ECU_PAT_START_STITCH _ m rfl, ?_⟩
  rw [State.fld_setFld_reg _ F.ECU_PAT_START_STITCH _ _ _ _ _ _ (Reg.addr_ne_of_windowOfs m m (by decide)), State.fld_setFld_field _ F.ECU_PAT_ST_TOTAL F.ECU_PAT_ST_CHECKED _ _ _ (by decide),
    State.fld_setFld_same _ _ _ _ _ (by decide)]
  rfl

/-! ## Patrol -/

/-- A motif without patrol or without a free context does nothing (R274; log 80). -/
theorem State.patrolMotif_idle (s : State) (m arg : Nat) (bad : BadPages) (h : s.flag F.ECU_CTL_PATROL_EN m = false ∨ s.freeUnits .ecu m (fun _ => true) = []) : s.patrolMotif m arg bad = s := by
  unfold State.patrolMotif
  refine if_pos ?_
  rcases h with h | h
  · rw [h]
    rfl
  · rw [h, List.isEmpty_nil, Bool.or_true]

/-- The state from which a motif's patrol goes on: a context held, and a new pass where the last one has ended. -/
def State.passing (s : State) (m : Nat) : State :=
  let u := (s.holdContext .ecu m 3 (fun _ => true)).1
  if u.fld F.ECU_PAT_ST_TOTAL m ≤ u.fld F.ECU_PAT_ST_CHECKED m then u.newPass m else u

theorem State.passing_shows (s : State) (m : Nat) : (s.passing m).patrolStripes m = s.patrolStripes m ∧
    (s.passing m).fld F.ECU_PAT_ST_CHECKED m = (if s.fld F.ECU_PAT_ST_TOTAL m ≤ s.fld F.ECU_PAT_ST_CHECKED m then 0 else s.fld F.ECU_PAT_ST_CHECKED m) := by
  obtain ⟨hbands, hreg⟩ := s.holdContext_sameBands .ecu m 3 (fun _ => true)
  unfold State.passing
  dsimp only
  generalize (s.holdContext .ecu m 3 (fun _ => true)).1 = u at *
  have hfld : ∀ hi lo, u.fld ⟨.ECU_PAT_ST, hi, lo⟩ m = s.fld ⟨.ECU_PAT_ST, hi, lo⟩ m := fun hi lo => congrArg (fun v => bits v hi lo) hreg
  rw [hfld, hfld]
  split
  · obtain ⟨hpass, hzero⟩ := u.newPass_shows m
    exact ⟨(hpass.patrolStripes m).trans (hbands.patrolStripes m), hzero⟩
  · exact ⟨hbands.patrolStripes m, hfld ..⟩

/-- A motif's patrol moves CHECKED on by the stripes checked (R263, R274). -/
theorem State.patrolMotif_shows (s : State) (m arg : Nat) (bad : BadPages) (he : s.flag F.ECU_CTL_PATROL_EN m = true) (hf : s.freeUnits .ecu m (fun _ => true) ≠ []) :
    ∃ (u : State) (from_ : Nat), from_ = (if s.fld F.ECU_PAT_ST_TOTAL m ≤ s.fld F.ECU_PAT_ST_CHECKED m then 0 else s.fld F.ECU_PAT_ST_CHECKED m) ∧
      s.patrolMotif m arg bad = u.setFld F.ECU_PAT_ST_CHECKED (u.fld F.ECU_PAT_ST_CHECKED m + min arg ((s.patrolStripes m).length - from_)) m := by
  obtain ⟨hstripes, hchecked⟩ := s.passing_shows m
  have hempty : (s.freeUnits .ecu m (fun _ => true)).isEmpty = false := by
    rw [Bool.eq_false_iff, Ne, List.isEmpty_iff]
    exact hf
  have heq : ∃ u : State, s.patrolMotif m arg bad = u.setFld F.ECU_PAT_ST_CHECKED (u.fld F.ECU_PAT_ST_CHECKED m +
      ((((s.passing m).patrolStripes m).drop ((s.passing m).fld F.ECU_PAT_ST_CHECKED m)).take arg).length) m := by
    unfold State.patrolMotif
    rw [he, hempty, if_neg (by decide)]
    exact ⟨_, rfl⟩
  obtain ⟨u, hu⟩ := heq
  refine ⟨u, _, rfl, ?_⟩
  rw [hu, hstripes, hchecked, List.length_take, List.length_drop]

/-! ## The other slots -/

/-- Two commands that do the same from every state that mishaps may leave do the same under them. -/
theorem State.under_congr (s : State) (bad : BadPages) (f g : State → State) (h : ∀ u : State, u.scrubPages = s.scrubPages → u.med.scrub = s.med.scrub → f u = g u) : s.under bad f = s.under bad g := by
  have hp := State.struck_keeps State.scrubPages (fun _ _ => rfl) (fun _ _ => rfl) s bad
  have hs := State.struck_keeps (fun t => t.med.scrub) (fun _ _ => rfl) (fun _ _ => rfl) s bad
  rw [s.under_eq, s.under_eq, h _ hp hs, h ((s.struck bad).modCip (fun c => { c with disagree := laneMishaps bad })) hp hs]

/-- A target that sends counts a firing of its slot, and cuts an epoch with the last one (R350). -/
theorem State.countFiring_cases (s : State) (m : Nat) (n : Namespace) (hn : s.targetNs m = some n) (ho : s.owns n.ground = true) (c : Nat)
    (hc : c = (if (s.target m).count = 0 then s.every m else (s.target m).count)) : (c ≠ 1 → s.countFiring m = s.modTarget m (fun x => { x with count := c - 1 })) ∧
    (c = 1 → s.countFiring m = (s.modTarget m (fun x => { x with count := s.every m })).startEpoch m n.id) := by
  have hpos : 1 ≤ c := by
    have : 1 ≤ s.every m := Nat.le_max_left ..
    split at hc <;> omega
  have heq : s.countFiring m = if c - 1 = 0 then (s.modTarget m (fun x => { x with count := s.every m })).startEpoch m n.id else s.modTarget m (fun x => { x with count := c - 1 }) := by
    unfold State.countFiring
    rw [hn, hc]
    dsimp only
    rw [ho]
    rfl
  rw [heq]
  exact ⟨fun h => if_neg (by omega), fun h => if_pos (by omega)⟩

/-- A motif that collects as many bands as it may starts none (R241). -/
theorem State.collect_full (s : State) (m arg : Nat) (bad : BadPages) (h : max 1 (s.fld F.MED_GC_CTL_MAX_ACTIVE m) ≤ s.gcActive m) : s.collect m arg bad = s.settleBands := by
  unfold State.collect
  dsimp only
  rw [Nat.sub_eq_zero_of_le h, Nat.min_zero, List.take_zero]
  rfl

/-- A pass that has not ended in time sets its event alone (R274). -/
theorem exec_patrolBehind_late (s : State) (m : Nat) (hr : s.power.running = true) (hm : s.hasMotif m = true)
    (hg : ∃ g ∈ s.activePart.grounds, s.owns g.ground = true ∧ s.groundNamed 2 g.ground = true ∧
      s.fld F.ECU_PAT_START_STITCH m + (if g.patrolDays = 0 then 14 else g.patrolDays) * 17280000000 ≤ s.num)
    (hc : s.fld F.ECU_PAT_ST_CHECKED m < s.fld F.ECU_PAT_ST_TOTAL m) : ∃ t, exec (.patrolBehind m) s = .next t ∧ t.flag F.ECU_EVT_PATROL_BEHIND m = true ∧
      (∀ q n j, q.addr n j ≠ Reg.ECU_EVT.addr m 0 → t.reg q n j = s.reg q n j) ∧ t = { s with regs := t.regs, eip := t.eip } := by
  obtain ⟨g, hmem, howns, hnamed, hlate⟩ := hg
  have hany : ((s.activePart.grounds.filter (fun g => s.owns g.ground && s.groundNamed 2 g.ground)).map (fun g => g.patrolDays)).any
      (fun d => decide (s.fld F.ECU_PAT_START_STITCH m + (if d = 0 then 14 else d) * 17280000000 ≤ s.num)) = true := by
    refine List.any_eq_true.2 ⟨g.patrolDays, List.mem_map_of_mem (List.mem_filter.2 ⟨hmem, ?_⟩), ?_⟩
    · rw [howns, hnamed]
      rfl
    · rw [decide_eq_true_eq]
      exact hlate
  rw [exec_patrolBehind, execPatrolBehind, live_on _ _ hr]
  dsimp only
  rw [if_pos ⟨hm, hany, hc⟩]
  exact ⟨_, rfl, State.flag_setEvt_same _ F.ECU_EVT_PATROL_BEHIND m (by decide), fun q n j hq => State.reg_setEvt_other _ F.ECU_EVT_PATROL_BEHIND _ _ _ _ (Ne.symm hq), s.onlyEvents_refl.setEvt⟩

/-- Settles O19: each slot's work by its lemma. -/
theorem quotaSlots : Obligations.QuotaSlots := by
  unfold Obligations.QuotaSlots
  intro s i m arg bad hr ha
  refine ⟨fun hd upsets => ?_, fun hd => ?_, s.patrolMotif_idle m arg bad, s.patrolMotif_shows m arg bad, fun hd l now hl hnow => ?_, fun hd => ?_, s.countFiring_cases m, fun hd => ?_,
    s.collect_full m arg bad, exec_patrolBehind_late s m hr⟩
  · obtain ⟨t, ht, hnext, hclean⟩ := exec_dramScrub_shows s i m arg hr ha hd upsets
    exact ⟨t, ht, hnext, fun he hu hnl _ => hclean he hu hnl⟩
  · rw [exec_patrol, execPatrol, live_on _ _ hr, State.slotFire_due hd, ← ha]
  · have hrun : (s.slotRun i).scrubPages = s.scrubPages ∧ (s.slotRun i).med.scrub = s.med.scrub := by
      rw [s.slotRun_eq i]
      exact ⟨rfl, rfl⟩
    rw [exec_mediaScrub, execMediaScrub, live_on _ _ hr, State.slotFire_due hd, ← ha]
    refine congrArg _ (State.under_congr _ _ _ _ (fun u hp hs => ?_))
    dsimp only
    rw [hp, hs, hrun.1, hrun.2, ← hl, ← hnow]
  · rw [exec_replEpoch, execReplEpoch, live_on _ _ hr, State.slotFire_due hd]
  · rw [exec_gcQuota, execGcQuota, live_on _ _ hr, State.slotFire_due hd, ← ha]

end Sys2Proof.Machine
end

section
/-! SUPPORT. A TRAIN_ID heard, and the pairing that it decides (R87, R95, R111). -/

namespace Sys2Proof.Machine

/-! ## Frames heard -/

/-- `t` is `s` but for the bride groups and what has left the block. -/
def State.onlyGroups (s t : State) : Prop := t = { s with pair := { s.pair with groups := t.pair.groups }, outbox := t.outbox }

theorem State.onlyGroups_refl (s : State) : s.onlyGroups s := rfl

section
variable {s t u : State} (h : s.onlyGroups t)
include h

theorem State.onlyGroups.trans (g : t.onlyGroups u) : s.onlyGroups u := by
  unfold State.onlyGroups at *
  rw [g, h]

theorem State.onlyGroups.modGroup {g : Nat} {f : BrideGroup → BrideGroup} : s.onlyGroups (t.modGroup g f) := h.trans rfl

theorem State.onlyGroups.transmit {g : Nat} {p : BridePay} : s.onlyGroups (t.transmit g p) := by
  refine h.trans ?_
  unfold State.transmit State.emit
  dsimp only
  split <;> rfl

/-- What looks at neither the groups nor the outbox is the same in both states. -/
theorem State.onlyGroups.same {α : Type} (p : State → α)
    (hp : ∀ (v : State) (l : List BrideGroup) (o : List Out), p { v with pair := { v.pair with groups := l }, outbox := o } = p v) : p t = p s := by
  rw [h]
  exact hp s _ _

end

/-- Frames that waited on a group go out on it (R113). -/
theorem State.onlyGroups_drainGroup (s : State) (g n : Nat) : s.onlyGroups (s.drainGroup g n) := by
  induction n generalizing s with
  | zero => exact s.onlyGroups_refl
  | succ n ih =>
    unfold State.drainGroup
    dsimp only
    split
    · exact s.onlyGroups_refl
    · split
      · exact s.onlyGroups_refl
      · split
        · exact s.onlyGroups_refl.modGroup.transmit.trans (ih _)
        · exact s.onlyGroups_refl

/-- A frame in order touches the groups alone (R112). -/
theorem State.onlyGroups_heard (s : State) (h : BrideHdr) : s.onlyGroups (s.heard h) :=
  s.onlyGroups_refl.modGroup.modGroup.trans (State.onlyGroups_drainGroup ..)

/-- A frame in order is heard, then taken up (R112). -/
theorem State.onFrame_inOrder {s : State} {h : BrideHdr} (ho : s.inOrder h = true) (f : State → State) : s.onFrame h f = f (s.heard h) := by
  unfold State.inOrder at ho
  rw [Bool.and_eq_true, Bool.and_eq_true, Bool.not_eq_true', decide_eq_true_eq] at ho
  obtain ⟨⟨hup, htx⟩, hseq⟩ := ho
  unfold State.onFrame
  rw [hup, htx, if_neg (by decide), if_neg (not_not_intro hseq)]
  rfl

/-- A frame that is not next in order is discarded, with a NAK where its group is up (R113). -/
theorem State.onFrame_unheard {s : State} {h : BrideHdr} (ho : s.inOrder h = false) (f : State → State) : s.onFrame h f = s.unheard h := by
  unfold State.onFrame State.unheard State.sendNak
  rcases hup : s.groupUp h.group with _ | _
  · rfl
  · rcases htx : s.txOff with _ | _
    · have hseq : h.seq ≠ nextSeq (s.group h.group).rxSeq := fun he => by
        rw [State.inOrder, hup, htx, decide_eq_true he] at ho
        cases ho
      rw [if_neg (by decide), if_pos hseq]
      rfl
    · rfl

/-! ## A TRAIN_ID noted -/

/-- The fields that a TRAIN_ID shows in (R111, R113). -/
def trainFlds : List (Fld Reg) :=
  [F.BRD_PARTNER_HW_TYPE, F.BRD_PARTNER_MOTIFS, F.BRD_PARTNER_OPTS, F.BRD_PARTNER_HEAD_ID, F.BRD_PARTNER_VALID, F.BRD_LAT_LAT_NS]

/-- What BRD_PARTNER shows of a partner head, with its TRAIN_ID and its probe kept. -/
def State.partnerNoted (s : State) (g : Nat) (x : TrainId) : State :=
  ((((((s.setFld F.BRD_PARTNER_HW_TYPE x.hwType).setFld F.BRD_PARTNER_MOTIFS x.motifs).setFld F.BRD_PARTNER_OPTS x.opts).setFld F.BRD_PARTNER_HEAD_ID x.headId).setFld F.BRD_PARTNER_VALID 1).modPair
    (fun p => { p with partnerId := some x })).modGroup g (fun b => { b with probe := x.probeTx })

theorem State.noteTrain_eq (s : State) (g now : Nat) (x : TrainId) : s.noteTrain g now x =
    if x.probeEcho = 0 then (s.partnerNoted g x).transmit g (.train ((s.partnerNoted g x).ownTrain g now))
    else if g = 0 then (s.partnerNoted g x).setFld F.BRD_LAT_LAT_NS (min (probeNs now x.probeEcho) 0xFFFF) else s.partnerNoted g x := rfl

theorem State.partnerNoted_shows (s : State) (g : Nat) (x : TrainId) : (s.partnerNoted g x).fld F.BRD_PARTNER_VALID = 1 ∧ (s.partnerNoted g x).pair.partnerId = some x ∧
    (s.partnerNoted g x).prk = s.prk ∧ (s.partnerNoted g x).dp = s.dp ∧ ∀ f, apartFrom trainFlds f = true → (s.partnerNoted g x).fld f = s.fld f := by
  have hkeep : ∀ {f : Fld Reg}, apartFrom trainFlds f = true → ∀ q ∈ trainFlds, q.apart f = true := fun h q hq => apartFrom_mem h hq
  have hregs : ∀ a b c d e : Nat, s.onlyRegs (((((s.setFld F.BRD_PARTNER_HW_TYPE a).setFld F.BRD_PARTNER_MOTIFS b).setFld F.BRD_PARTNER_OPTS c).setFld F.BRD_PARTNER_HEAD_ID d).setFld F.BRD_PARTNER_VALID e) :=
    fun _ _ _ _ _ => s.onlyRegs_refl.setFld.setFld.setFld.setFld.setFld
  unfold State.partnerNoted State.modGroup
  refine ⟨?_, ?_, ?_, ?_, fun f hf => ?_⟩
  · rw [State.modPair_fld, State.modPair_fld, State.fld_setFld_same _ _ _ _ _ (by decide)]
    rfl
  · rw [State.modPair_pair, State.modPair_pair]
  · rw [State.modPair_prk, State.modPair_prk]
    exact (hregs ..).same State.prk (fun _ _ => rfl)
  · rw [State.modPair_dp, State.modPair_dp]
    exact (hregs ..).same State.dp (fun _ _ => rfl)
  · rw [State.modPair_fld, State.modPair_fld, State.fld_setFld_apart (hkeep hf _ (by decide)), State.fld_setFld_apart (hkeep hf _ (by decide)), State.fld_setFld_apart (hkeep hf _ (by decide)),
      State.fld_setFld_apart (hkeep hf _ (by decide)), State.fld_setFld_apart (hkeep hf _ (by decide))]

/-- A TRAIN_ID noted: the partner head is valid and kept; one that echoes a probe of group 0 gives the latency (R111, R113). -/
theorem State.noteTrain_shows (s t : State) (g now : Nat) (x : TrainId) (ht : t = s.noteTrain g now x) : t.fld F.BRD_PARTNER_VALID = 1 ∧ t.pair.partnerId = some x ∧
    t.prk = s.prk ∧ t.dp = s.dp ∧ (∀ f, apartFrom trainFlds f = true → t.fld f = s.fld f) ∧
    (g = 0 → x.probeEcho ≠ 0 → t.fld F.BRD_LAT_LAT_NS = min (probeNs now x.probeEcho) 0xFFFF) := by
  obtain ⟨hvalid, hid, hprk, hdp, hkeep⟩ := s.partnerNoted_shows g x
  rw [s.noteTrain_eq] at ht
  generalize s.partnerNoted g x = u at *
  by_cases he : x.probeEcho = 0
  · have hu : u.onlyGroups t := by
      rw [ht, if_pos he]
      exact u.onlyGroups_refl.transmit
    have hfld : ∀ f, t.fld f = u.fld f := fun f => hu.same (fun v => v.fld f) (fun _ _ _ => rfl)
    exact ⟨(hfld _).trans hvalid, (hu.same (fun v => v.pair.partnerId) (fun _ _ _ => rfl)).trans hid, (hu.same State.prk (fun _ _ _ => rfl)).trans hprk,
      (hu.same State.dp (fun _ _ _ => rfl)).trans hdp, fun f hf => (hfld f).trans (hkeep f hf), fun _ h => absurd he h⟩
  · rw [if_neg he] at ht
    by_cases hg : g = 0
    · rw [if_pos hg] at ht
      subst ht
      refine ⟨(State.fld_setFld_apart (by decide) ..).trans hvalid, (congrArg PairSt.partnerId (State.setFld_pair ..)).trans hid, (State.setFld_prk ..).trans hprk, (State.setFld_dp ..).trans hdp, fun f hf => (State.fld_setFld_apart (apartFrom_mem hf (by decide)) ..).trans (hkeep f hf), fun _ _ => ?_⟩
      rw [State.fld_setFld_same _ _ _ _ _ (by decide)]
      exact Nat.mod_eq_of_lt (by simp only [Nat.reduceAdd, Nat.reduceSub, Nat.reducePow]; omega)
    · rw [if_neg hg] at ht
      subst ht
      exact ⟨hvalid, hid, hprk, hdp, hkeep, fun h => absurd h hg⟩

/-- A head in EXCHANGE that knows its partner head decides the pairing at step 9 and in service (R95). -/
theorem State.pairNow_eq {u : State} {x : TrainId} (hv : u.fld F.BRD_PARTNER_VALID = 1) (hid : u.pair.partnerId = some x) :
    u.pairNow = if u.fld F.BRD_ST_STATE = 2 ∧ (u.inStep 9 = true ∨ u.inService = true) then u.decidePairing x else u := by
  unfold State.pairNow State.flag
  rw [hv, hid]
  simp only [Nat.one_ne_zero, bne_iff_ne, ne_eq, not_false_eq_true, and_true, Bool.and_eq_true, decide_eq_true_eq, Bool.or_eq_true]

/-! ## What a TRAIN_ID decides -/

theorem State.relationTo_lt (s : State) (x : TrainId) : s.relationTo x < 8 := by
  unfold State.relationTo
  dsimp only
  split_ifs <;> decide

/-- The relation is EQUAL where the PAIR_HASHes are equal, and only there (R87). -/
theorem State.relationTo_equal (s : State) (x : TrainId) : s.pairHashes.1 = x.pairHash ↔ s.relationTo x = 1 := by
  unfold State.relationTo
  dsimp only
  refine ⟨fun h => if_pos h, fun h => ?_⟩
  by_contra hne
  rw [if_neg hne] at h
  split_ifs at h <;> cases h

/-- Pairing refused shows its status word, and touches no register but BRD_ST and BRD_EVT (R111). -/
theorem State.refusePairing_shows (s : State) (code : Nat) : (s.refusePairing code).fld F.BRD_ST_STATE = 5 ∧ (s.refusePairing code).flag F.BRD_EVT_REFUSED = true ∧
    (s.refusePairing code).pair.refusal = code ∧ (s.refusePairing code).fld F.PRK_PAIR_ST_REL = s.fld F.PRK_PAIR_ST_REL := by
  unfold State.refusePairing
  refine ⟨?_, ?_, rfl, ?_⟩
  · rw [State.modPair_fld, State.fld_setEvt_apart (by decide), State.fld_setFld_same _ _ _ _ _ (by decide)]
    rfl
  · exact (State.flag_congr (State.modPair_fld ..)).trans (State.flag_setEvt_same _ F.BRD_EVT_REFUSED 0 (by decide))
  · rw [State.modPair_fld, State.fld_setEvt_apart (by decide), State.fld_setFld_apart (by decide)]

/-- A head of this head's own ID stops a Winding, and changes nothing in service (R111). -/
theorem State.decidePairing_own (s : State) (x : TrainId) (h : x.headId = s.headId) : s.decidePairing x = if s.mode = 0 then s.windStop 0x2302 else s := by
  unfold State.decidePairing
  rw [if_pos h]

/-- The hardware type, the motifs and the options of a head are this head's (R111). -/
def State.sameHead (s : State) (x : TrainId) : Prop := x.hwType = s.fld F.PKG_ID_HW_TYPE ∧ x.motifs = s.fuses.caps.motifs ∧ x.opts = s.fuses.caps.optBits

/-- The relation of another head shown, and prior sections taken up where this head's are newer (R87). -/
def State.related (s : State) (x : TrainId) : State :=
  if s.relationTo x = 2 ∧ s.mode = 0 then ((s.setFld F.PRK_PAIR_ST_REL (s.relationTo x)).setFld F.PRK_PAIR_ST_PRIOR_ACTIVE 1).installPart
  else s.setFld F.PRK_PAIR_ST_REL (s.relationTo x)

theorem State.keepsPart.fld {s t : State} (h : s.keepsPart t) {hi lo : Nat} : t.fld ⟨.PRK_PAIR_ST, hi, lo⟩ = s.fld ⟨.PRK_PAIR_ST, hi, lo⟩ := congrArg (fun v => bits v hi lo) h.2

theorem State.related_rel (s : State) (x : TrainId) : (s.related x).fld F.PRK_PAIR_ST_REL = s.relationTo x := by
  have hrel : (s.setFld F.PRK_PAIR_ST_REL (s.relationTo x)).fld F.PRK_PAIR_ST_REL = s.relationTo x :=
    (State.fld_setFld_same _ _ _ _ _ (by decide)).trans (Nat.mod_eq_of_lt (s.relationTo_lt x))
  unfold State.related
  split
  · rw [(State.keepsPart_installPart _).fld, State.fld_setFld_apart (by decide), hrel]
  · exact hrel

/-- What another head's TRAIN_ID decides, case by case (R87, R111). -/
theorem State.decidePairing_other (s : State) (x : TrainId) (h : x.headId ≠ s.headId) :
    (¬ s.sameHead x → s.decidePairing x = (s.setFld F.PRK_PAIR_ST_REL (s.relationTo x)).refusePairing 0x2301) ∧
    (s.sameHead x → s.relationTo x = 4 → s.decidePairing x = (s.setFld F.PRK_PAIR_ST_REL (s.relationTo x)).refusePairing 0x2303) ∧
    (s.sameHead x → s.relationTo x ≠ 4 → s.decidePairing x = (s.related x).setFld F.BRD_ST_STATE 3) := by
  have hhw : (s.setFld F.PRK_PAIR_ST_REL (s.relationTo x)).fld F.PKG_ID_HW_TYPE = s.fld F.PKG_ID_HW_TYPE := State.fld_setFld_apart (by decide) ..
  have hmode : (s.setFld F.PRK_PAIR_ST_REL (s.relationTo x)).mode = s.mode := State.fld_setFld_apart (by decide) ..
  have hother : (x.hwType ≠ s.fld F.PKG_ID_HW_TYPE ∨ x.motifs ≠ s.fuses.caps.motifs ∨ x.opts ≠ s.fuses.caps.optBits) ↔ ¬ s.sameHead x := by
    unfold State.sameHead
    tauto
  unfold State.decidePairing State.related
  rw [if_neg h]
  dsimp only
  rw [hhw, hmode, State.setFld_fuses]
  refine ⟨fun hx => if_pos (hother.2 hx), fun hx hrel => ?_, fun hx hrel => ?_⟩
  · rw [if_neg (fun hd => hother.1 hd hx), if_pos hrel]
  · rw [if_neg (fun hd => hother.1 hd hx), if_neg hrel]

/-- REL shows the relation of another head, whatever is decided (R87). -/
theorem State.decidePairing_rel (s : State) (x : TrainId) (h : x.headId ≠ s.headId) : (s.decidePairing x).fld F.PRK_PAIR_ST_REL = s.relationTo x := by
  obtain ⟨hdiffers, hrefused, hpaired⟩ := s.decidePairing_other x h
  have hrel : (s.setFld F.PRK_PAIR_ST_REL (s.relationTo x)).fld F.PRK_PAIR_ST_REL = s.relationTo x :=
    (State.fld_setFld_same _ _ _ _ _ (by decide)).trans (Nat.mod_eq_of_lt (s.relationTo_lt x))
  by_cases hx : s.sameHead x
  · by_cases h4 : s.relationTo x = 4
    · rw [hrefused hx h4, (State.refusePairing_shows _ _).2.2.2, hrel]
    · rw [hpaired hx h4, State.fld_setFld_apart (by decide), s.related_rel]
  · rw [hdiffers hx, (State.refusePairing_shows _ _).2.2.2, hrel]

/-- Settles O30: a TRAIN_ID by its frame, then by what it decides. -/
theorem pairing : Obligations.Pairing := by
  unfold Obligations.Pairing
  intro s h now x hr
  have hexec : (s.inStep 9 = true ∨ s.lateWinding = true ∨ s.inService = true) →
      exec (.trainIdReceive h now x) s = .next (s.onFrame h (fun s => (s.noteTrain h.group now x).pairNow)).afterFrame := fun hin => by
    rw [exec_trainIdReceive, execTrainIdReceive, live_on _ _ hr, if_pos (by simpa [or_assoc] using hin)]
    rfl
  refine ⟨fun h9 hl hi => ?_, fun hin ho => ?_, fun hin ho => ?_, fun hx hm => ?_, fun hx hm => ?_, fun hx => ⟨s.decidePairing_rel x hx, fun hd => ?_, fun hhw hmo hop => ?_⟩, s.relationTo_equal x⟩
  · rw [exec_trainIdReceive, execTrainIdReceive, live_on _ _ hr, h9, hl, hi]
    rfl
  · rw [hexec hin, State.onFrame_unheard ho]
  · have hheard := s.onlyGroups_heard h
    obtain ⟨hvalid, hid, hprk, hdp, hkeep, hlat⟩ := (s.heard h).noteTrain_shows _ h.group now x rfl
    have hfld : ∀ f, apartFrom trainFlds f = true → ((s.heard h).noteTrain h.group now x).fld f = s.fld f := fun f hf =>
      (hkeep f hf).trans (hheard.same (fun v => v.fld f) (fun _ _ _ => rfl))
    have hmode : ((s.heard h).noteTrain h.group now x).mode = s.mode := hfld F.PKG_MODE_MODE (by decide)
    have h9 : ((s.heard h).noteTrain h.group now x).inStep 9 = s.inStep 9 := by
      unfold State.inStep State.flag
      rw [hmode, hfld F.PKG_WIND_STEP (by decide), hfld F.PKG_WIND_STOPPED (by decide)]
    have hserve : ((s.heard h).noteTrain h.group now x).inService = s.inService := by
      unfold State.inService
      rw [hmode]
    refine ⟨(s.heard h).noteTrain h.group now x, ?_, hvalid, hid, hfld F.BRD_ST_STATE (by decide), hmode, hprk.trans (hheard.same State.prk (fun _ _ _ => rfl)),
      hdp.trans (hheard.same State.dp (fun _ _ _ => rfl)), hlat⟩
    rw [hexec hin, State.onFrame_inOrder ho, State.pairNow_eq hvalid hid, h9, hserve]
  · rw [s.decidePairing_own x hx, if_pos hm]
    exact s.windStop_stoppedWith hm (by decide)
  · rw [s.decidePairing_own x hx, if_neg hm]
  · have hdiffers : ¬ s.sameHead x := by
      unfold State.sameHead
      tauto
    obtain ⟨hstate, hevt, hcode, -⟩ := (s.setFld F.PRK_PAIR_ST_REL (s.relationTo x)).refusePairing_shows 0x2301
    rw [(s.decidePairing_other x hx).1 hdiffers]
    exact ⟨hstate, hevt, hcode⟩
  · obtain ⟨-, hrefused, hpaired⟩ := s.decidePairing_other x hx
    refine ⟨fun h4 => ?_, fun h4 => ?_⟩
    · obtain ⟨hstate, hevt, hcode, -⟩ := (s.setFld F.PRK_PAIR_ST_REL (s.relationTo x)).refusePairing_shows 0x2303
      rw [hrefused ⟨hhw, hmo, hop⟩ h4]
      exact ⟨hstate, hevt, hcode⟩
    · rw [hpaired ⟨hhw, hmo, hop⟩ h4]
      exact State.fld_setFld_same _ _ _ _ _ (by decide)

end Sys2Proof.Machine
end

section
/-! SUPPORT. Winding steps 2 and 3: the fuses and the boot ROM (R84, R93, R207, R438). -/

namespace Sys2Proof.Machine

/-- A range cleared reads the default, and every other key as before. -/
theorem Sparse.get_clearRange {β : Type} (d : β) (m : Sparse β) (a n k : Nat) :
    Sparse.get d (Sparse.clearRange m a n) k = if a ≤ k ∧ k < a + n then d else Sparse.get d m k := by
  unfold Sparse.clearRange
  induction m with
  | nil => exact (ite_self _).symm
  | cons e t ih =>
    obtain ⟨x, v⟩ := e
    rw [List.filter_cons]
    by_cases hx : a ≤ x ∧ x < a + n
    · rw [if_neg (by simpa using hx), ih]
      split
      · rfl
      · rename_i hk
        rw [Sparse.get, if_neg (by rintro rfl; exact hk hx)]
    · rw [if_pos (by simpa [imp_iff_not_or] using hx), Sparse.get, Sparse.get, ih]
      by_cases hk : x = k
      · rw [if_pos hk, if_pos hk, if_neg (hk ▸ hx)]
      · rw [if_neg hk, if_neg hk]

theorem State.fld_setReg_other (s : State) (r : Reg) (v m i : Nat) (g : Fld Reg) (n j : Nat) (h : r.addr m i ≠ g.reg.addr n j) : (s.setReg r m i v).fld g n j = s.fld g n j := by
  unfold State.fld
  rw [State.reg_setReg_other _ _ _ _ _ _ _ _ h]

theorem State.keepsPkg.setReg {s t : State} (h : s.keepsPkg t) {r : Reg} {x m i : Nat} (hr : r.spec.pkg = false) : s.keepsPkg (t.setReg r m i x) :=
  h.trans ⟨rfl, rfl, fun _ hg => State.fld_setReg_other _ _ _ _ _ _ _ _ (Ne.symm (Reg.addr_ne_of_pkg m i hg hr))⟩

/-! ## Step 2 -/

/-- The fields of the identity that the fuses give (R34, R70). -/
def idFlds : List (Fld Reg) :=
  [F.PKG_ID_STEP_MAJ, F.PKG_ID_STEP_MIN, F.PKG_CAP_MOTIF_MASK, F.PKG_CAP_MOTIFS, F.PKG_CAP_MAX_M, F.EP_ID_SUBSYS_ID, F.EP_ID_SUBSYS_VID]

/-- The registers of the identity that the fuses give whole or in part. -/
def idRegs : List Reg := [.PKG_CAP, .PKG_UNIT_ID_LO, .PKG_UNIT_ID_HI, .PKG_MOTIF_ST]

/-- The identity of the package in PKG_CAP and the fields that it leaves alone (R93). -/
theorem State.loadIdentity_shows (s : State) : s.loadIdentity.fld F.PKG_CAP_MOTIFS = s.fuses.caps.motifs % 16 ∧ s.loadIdentity.fld F.PKG_CAP_MAX_M = s.fuses.caps.maxM % 16 ∧
    s.onlyRegs s.loadIdentity ∧ ∀ g : Fld Reg, apartFrom idFlds g = true → (∀ r ∈ idRegs, r.addr 0 0 ≠ g.reg.addr 0 0) → s.loadIdentity.fld g = s.fld g := by
  have hpresent : ∀ (u : State) (g : Fld Reg), Reg.PKG_MOTIF_ST.addr 0 0 ≠ g.reg.addr 0 0 →
      (u.each u.motifs (fun t m => t.setReg .PKG_MOTIF_ST 0 0 (putBit (t.reg .PKG_MOTIF_ST 0 0) (8 * m) true))).fld g = u.fld g := fun u g hg =>
    State.each_keeps (fun t => t.fld g) u _ _ (fun t m _ => State.fld_setReg_other _ _ _ _ _ _ _ _ hg)
  unfold State.loadIdentity
  dsimp only
  refine ⟨?_, ?_, ?_, fun g hg hr => ?_⟩
  · rw [hpresent _ _ (by decide), State.fld_setFld_apart (by decide), State.fld_setFld_apart (by decide), State.fld_setReg_other _ _ _ _ _ _ _ _ (by decide),
      State.fld_setReg_other _ _ _ _ _ _ _ _ (by decide), State.fld_setFld_apart (by decide), State.fld_setFld_same _ _ _ _ _ (by decide)]
    rfl
  · rw [hpresent _ _ (by decide), State.fld_setFld_apart (by decide), State.fld_setFld_apart (by decide), State.fld_setReg_other _ _ _ _ _ _ _ _ (by decide),
      State.fld_setReg_other _ _ _ _ _ _ _ _ (by decide), State.fld_setFld_same _ _ _ _ _ (by decide)]
    rfl
  · exact (s.onlyRegs_refl.setFld.setFld.setFld.setFld.setFld.setReg.setFld.setFld.setFld.setReg.setReg.setFld.setFld).trans (State.onlyRegs_each _ _ _ (fun t m => t.onlyRegs_refl.setReg))
  · have hkeep : ∀ q ∈ idFlds, q.apart g = true := fun q hq => apartFrom_mem hg hq
    rw [hpresent _ _ (hr _ (by decide)), State.fld_setFld_apart (hkeep _ (by decide)), State.fld_setFld_apart (hkeep _ (by decide)), State.fld_setReg_other _ _ _ _ _ _ _ _ (hr _ (by decide)),
      State.fld_setReg_other _ _ _ _ _ _ _ _ (hr _ (by decide)), State.fld_setFld_apart (hkeep _ (by decide)), State.fld_setFld_apart (hkeep _ (by decide)), State.fld_setFld_apart (hkeep _ (by decide)),
      State.fld_setReg_other _ _ _ _ _ _ _ _ (hr _ (by decide)), State.fld_setFld_apart (hkeep _ (by decide)), State.fld_setFld_apart (hkeep _ (by decide)),
      State.fld_setFld_apart (hkeep _ (by decide)), State.fld_setFld_apart (hkeep _ (by decide)), State.fld_setFld_apart (hkeep _ (by decide))]

/-- What the fuses give a motif stands in the motif's own window (R93). -/
theorem State.keepsPkg_loadMotifFuses (s : State) (m : Nat) : s.keepsPkg (s.loadMotifFuses m) := by
  unfold State.loadMotifFuses
  dsimp only
  have hlinks : ∀ u : State, u.keepsPkg (u.each (List.range 3) (fun t i => match t.linkPeer m i with
      | some p => (t.setFld F.MTF_LINK_ST_PRESENT 1 m i).setFld F.MTF_LINK_ST_PEER p m i
      | none => t)) := fun u => u.keepsPkg_refl.each (fun t i => by
    split
    · exact (t.keepsPkg_refl.setFld rfl).setFld rfl
    · exact t.keepsPkg_refl)
  exact (((((((s.keepsPkg_refl.setFld rfl).setFld rfl).setFld rfl).setFld rfl).trans (hlinks _)).setReg rfl).setReg rfl).setFld rfl |>.setFld rfl |>.setFld rfl |>.setFld rfl

/-- The state with every fuse taken up, before step 2 ends. -/
def State.fused (s : State) : State :=
  ((s.loadIdentity.each s.motifs State.loadMotifFuses).setFld F.THM_PKG_C_PKG s.fuses.cPkg).each (List.range 4) (fun t k => t.setFld F.PWR_IMON_CFG_IMAX_DA (s.fuses.imaxPkg.getD k 0) 0 k)

/-- The fields that are neither the identity's nor the package's thermal and current-sense factors. -/
def offFuses (g : Fld Reg) : Bool :=
  decide (g.reg.addr 0 0 < 0x1000000) && decide (Reg.THM_PKG.addr 0 0 ≠ g.reg.addr 0 0) && (List.range 4).all (fun k => decide (Reg.PWR_IMON_CFG.addr 0 k ≠ g.reg.addr 0 0))

theorem State.fused_keeps (s : State) (g : Fld Reg) (h : offFuses g = true) : s.fused.fld g = s.loadIdentity.fld g := by
  unfold offFuses at h
  rw [Bool.and_eq_true, Bool.and_eq_true, decide_eq_true_eq, decide_eq_true_eq, List.all_eq_true] at h
  obtain ⟨⟨hpkg, hthm⟩, himon⟩ := h
  have hmotifs := s.loadIdentity.keepsPkg_refl.each (l := s.motifs) (fun u m => u.keepsPkg_loadMotifFuses m)
  unfold State.fused
  rw [State.each_keeps (fun t => t.fld g) _ _ _ (fun t k hk => State.fld_setFld_reg _ F.PWR_IMON_CFG_IMAX_DA _ _ _ _ _ _ (of_decide_eq_true (himon k hk))),
    State.fld_setFld_reg _ F.THM_PKG_C_PKG _ _ _ _ _ _ hthm, hmotifs.2.2 g hpkg]

/-- Fuses that pass end step 2 with a hold-up energy read owed (R93, R435). -/
theorem State.fuseLoad_good (s : State) (us : Nat) (hc : s.fuses.crcOk = true) (hf : s.fuses.factorsOk = true) :
    s.fuseLoad us = (s.fused.modHu (fun h => { h with owed := some s.fused.num })).stepDone 2 us := by
  unfold State.fuseLoad
  rw [if_neg (by rw [hc, hf]; decide)]
  rfl

theorem State.fuseLoad_shows (s t : State) (us : Nat) (hin : s.inStep 2 = true) (hc : s.fuses.crcOk = true) (hf : s.fuses.factorsOk = true) (hm : s.fuses.caps.motifs ≤ 8)
    (ht : t = s.fuseLoad us) : t.fld F.PKG_WIND_STEP = 3 ∧ t.mode = 0 ∧ t.fld F.PKG_CAP_MOTIFS = s.fuses.caps.motifs ∧ t.fld F.PKG_CAP_MAX_M = s.fuses.caps.maxM % 16 ∧
    t.hu.owed = some s.num ∧ t.fld F.PKG_WIND_TIME_TIME_US 0 1 = min us 0xFFFFFFFF := by
  obtain ⟨hmode, -, -⟩ := (s.inStep_iff 2).1 hin
  obtain ⟨hmotifs, hmax, -, hkeep⟩ := s.loadIdentity_shows
  obtain ⟨hstep, htime, honly, hrest⟩ := (s.fused.modHu (fun h => { h with owed := some s.fused.num })).stepDone_shows 2 us (by decide)
  rw [← s.fuseLoad_good us hc hf, ← ht] at hstep htime honly hrest
  have hfused : ∀ g, offStep g = true → offFuses g = true → t.fld g = s.loadIdentity.fld g := fun g hg ho => (hrest g hg).trans ((State.modHu_fld ..).trans (s.fused_keeps g ho))
  refine ⟨hstep, ?_, ?_, ?_, ?_, htime⟩
  · exact (hfused F.PKG_MODE_MODE (by decide) (by decide)).trans ((hkeep F.PKG_MODE_MODE (by decide) (by decide)).trans hmode)
  · rw [hfused _ (by decide) (by decide), hmotifs]
    exact Nat.mod_eq_of_lt (by omega)
  · rw [hfused _ (by decide) (by decide), hmax]
  · rw [honly.same (fun u => u.hu.owed) (fun _ _ => rfl)]
    exact congrArg some ((s.fused_keeps F.STC_NUM_NUM (by decide)).trans (hkeep F.STC_NUM_NUM (by decide) (by decide)))

/-- Fuses that fail their check, or that leave a thermal factor at 0, are a fail-stop (R93, R438; log 69). -/
theorem State.fuseLoad_bad (s : State) (us : Nat) (hin : s.inStep 2 = true) (h : s.fuses.crcOk = false ∨ s.fuses.factorsOk = false) : (s.fuseLoad us).tiedOff 0x720B := by
  obtain ⟨hmode, -, -⟩ := (s.inStep_iff 2).1 hin
  have hbad : s.fuseLoad us = s.failStop 0x720B := by
    unfold State.fuseLoad
    rw [if_pos (h.imp (fun h => by rw [h]; decide) (fun h => by rw [h]; decide))]
  obtain ⟨htied, -, -, hadmit, hcause, -, htx, -⟩ := s.failStop_shows 0x720B (by rw [hmode]; decide) (by decide) _ hbad
  exact ⟨htied, htx, hcause, hadmit⟩

/-! ## Measurement registers -/

/-- A field set at one element after the other: each element reads what was set there, cut to the field's width. -/
theorem State.fld_eachIndex (s : State) (f : Fld Reg) (hf : f.lo ≤ f.hi ∧ f.hi < 64) (b : Nat) (x : Nat → Nat) (n : Nat)
    (hne : ∀ i < n, ∀ j < n, i ≠ j → f.reg.addr 0 (b + i) ≠ f.reg.addr 0 (b + j)) (k : Nat) (hk : k < n) :
    (s.each (List.range n) (fun t i => t.setFld f (x i) 0 (b + i))).fld f 0 (b + k) = x k % 2 ^ (f.hi + 1 - f.lo) := by
  unfold State.each
  induction n with
  | zero => cases hk
  | succ n ih =>
    rw [List.range_succ, List.foldl_append, List.foldl_cons, List.foldl_nil]
    by_cases he : k = n
    · rw [he, State.fld_setFld_same _ _ _ _ _ hf]
    · rw [State.fld_setFld_reg _ _ _ _ _ _ _ _ (hne n (by omega) k hk (Ne.symm he)), ih (fun i hi j hj => hne i (by omega) j (by omega)) (by omega)]

theorem addr_msrMr (i : Nat) : Reg.MSR_MR.addr 0 i = 0 + 9 * 0x10000 + (0x1000 + i / 6 * 0x40 + i % 6 * 8) := rfl

theorem addr_msrCnt (r : Nat) : Reg.MSR_CNT.addr 0 r = 0 + 9 * 0x10000 + (0x100 + r / 1 * 8 + r % 1 * 0) := rfl

theorem addr_msrMr_ne : ∀ i < 24, ∀ j < 24, i ≠ j → Reg.MSR_MR.addr 0 i ≠ Reg.MSR_MR.addr 0 j := fun i _ j _ h => by
  rw [addr_msrMr, addr_msrMr]
  omega

theorem addr_msrCnt_ne (r : Nat) (hr : r < 4) : (∀ q < 4, r ≠ q → Reg.MSR_CNT.addr 0 r ≠ Reg.MSR_CNT.addr 0 q) ∧ ∀ i < 24, Reg.MSR_CNT.addr 0 r ≠ Reg.MSR_MR.addr 0 i := by
  refine ⟨fun q hq h => ?_, fun i hi => ?_⟩
  · rw [addr_msrCnt, addr_msrCnt]
    omega
  · rw [addr_msrCnt, addr_msrMr]
    omega

theorem State.onlyRegs_extendMr (s : State) (r : Nat) (v : Bytes) : s.onlyRegs (s.extendMr r v) :=
  (State.onlyRegs_each s (List.range 6) _ (fun t _ => t.onlyRegs_refl.setFld)).bump

/-- The extension of a measurement register changes its own words and count alone (R206). -/
theorem State.reg_extendMr (s : State) (r : Nat) (v : Bytes) {q : Reg} {n j : Nat} (hm : ∀ i < 6, Reg.MSR_MR.addr 0 (6 * r + i) ≠ q.addr n j) (hc : Reg.MSR_CNT.addr 0 r ≠ q.addr n j) :
    (s.extendMr r v).reg q n j = s.reg q n j :=
  (State.reg_setFld_other _ F.MSR_CNT_EXTENDS _ _ _ _ _ _ hc).trans
    (State.each_keeps (fun t => t.reg q n j) _ _ _ (fun _ i hi => State.reg_setFld_other _ F.MSR_MR_VALUE _ _ _ _ _ _ (hm i (List.mem_range.1 hi))))

/-- An extension: the digest of the old value and what it is extended with, and the count one up (R206). -/
theorem State.extendMr_shows (s : State) {r : Nat} (v : Bytes) (hr : r < 4) :
    (∀ i < 6, (s.extendMr r v).fld F.MSR_MR_VALUE 0 (6 * r + i) = leAt (sha384 (s.mrValue r ++ v)) (8 * i) 8 % 2 ^ 64) ∧
    (s.extendMr r v).fld F.MSR_CNT_EXTENDS 0 r = satAdd (fldMax F.MSR_CNT_EXTENDS) (s.fld F.MSR_CNT_EXTENDS 0 r) 1 := by
  obtain ⟨-, hcnt⟩ := addr_msrCnt_ne r hr
  unfold State.extendMr
  dsimp only
  refine ⟨fun i hi => ?_, ?_⟩
  · rw [State.fld_bump_reg _ F.MSR_CNT_EXTENDS _ _ _ _ _ _ (hcnt (6 * r + i) (by omega)),
      State.fld_eachIndex s F.MSR_MR_VALUE (by decide) (6 * r) (fun i => leAt (sha384 (s.mrValue r ++ v)) (8 * i) 8) 6 (fun a ha b hb h => addr_msrMr_ne _ (by omega) _ (by omega) (by omega)) i hi]
    rfl
  · rw [State.fld_bump_same _ _ _ _ _ (by decide)]
    exact congrArg (fun x => satAdd (fldMax F.MSR_CNT_EXTENDS) x 1)
      (State.each_keeps (fun t => t.fld F.MSR_CNT_EXTENDS 0 r) s _ _ (fun t i hi => State.fld_setFld_reg _ F.MSR_MR_VALUE _ _ _ _ _ _ (Ne.symm (hcnt _ (by have := List.mem_range.1 hi; omega)))))

/-- The other measurement registers and their counts stay (R206). -/
theorem State.extendMr_others (s : State) {r q : Nat} (v : Bytes) (hr : r < 4) (hq : q < 4) (h : r ≠ q) :
    (∀ i < 6, (s.extendMr r v).fld F.MSR_MR_VALUE 0 (6 * q + i) = s.fld F.MSR_MR_VALUE 0 (6 * q + i)) ∧ (s.extendMr r v).fld F.MSR_CNT_EXTENDS 0 q = s.fld F.MSR_CNT_EXTENDS 0 q := by
  obtain ⟨hne, hcnt⟩ := addr_msrCnt_ne r hr
  obtain ⟨-, hcnt'⟩ := addr_msrCnt_ne q hq
  refine ⟨fun i hi => ?_, ?_⟩
  · exact congrArg (fun x => bits x 63 0) (s.reg_extendMr r v (fun k hk => addr_msrMr_ne _ (by omega) _ (by omega) (by omega)) (hcnt _ (by omega)))
  · exact congrArg (fun x => bits x 31 0) (s.reg_extendMr r v (fun k hk => Ne.symm (hcnt' _ (by omega))) (hne q hq h))

theorem State.mrValue_congr {s t : State} {r : Nat} (h : ∀ i < 6, t.fld F.MSR_MR_VALUE 0 (6 * r + i) = s.fld F.MSR_MR_VALUE 0 (6 * r + i)) : t.mrValue r = s.mrValue r := by
  unfold State.mrValue
  exact List.flatMap_congr (fun i hi => by rw [h i (List.mem_range.1 hi)])

/-- The end of a step of the Winding changes PKG_WIND and PKG_WIND_TIME alone (R93). -/
theorem State.reg_stepDone (s : State) (k us : Nat) {q : Reg} {n j : Nat} (hw : Reg.PKG_WIND.addr 0 0 ≠ q.addr n j) (ht : Reg.PKG_WIND_TIME.addr 0 (k - 1) ≠ q.addr n j) :
    (s.stepDone k us).reg q n j = s.reg q n j := by
  unfold State.stepDone
  dsimp only
  rw [State.reg_setFld_other _ F.PKG_WIND_ELAPSED _ _ _ _ _ _ hw, State.reg_setFld_other _ F.PKG_WIND_STEP _ _ _ _ _ _ hw, State.reg_setFld_other _ F.PKG_WIND_TIME_TIME_US _ _ _ _ _ _ ht]

/-! ## Step 3 -/

/-- The service core of motif 0 runs once it is started (R93). -/
theorem State.setHart_service (s : State) : bit ((s.setHart 0 8 true).fld F.CPU_ST_RUNNING 0) 8 = true := by
  unfold State.setHart
  dsimp only
  rw [State.fld_setFld_reg _ F.CPU_HST_STATE _ _ _ _ _ _ (by decide), State.fld_setFld_apart (by decide), State.fld_setFld_same _ _ _ _ _ (by decide), ← bits_one_ne_zero, bits_mod _ _ _ _ (by decide),
    putBit, bits_setBits_same _ _ _ _ (Nat.le_refl 8)]
  rfl

/-- The voltages set for the rails change no register but LPM_IMON_CFG (R429). -/
theorem State.reg_setVoltages (s : State) {q : Reg} {n j : Nat} (h : ∀ m, Reg.LPM_IMON_CFG.addr m 0 ≠ q.addr n j) : s.setVoltages.reg q n j = s.reg q n j := by
  unfold State.setVoltages
  split
  · rfl
  · dsimp only
    rw [State.each_keeps (fun t => t.reg q n j) _ _ _ (fun t m _ => State.reg_setFld_other _ F.LPM_IMON_CFG_VOLT_MV _ _ _ _ _ _ (h m))]
    refine State.each_keeps (fun t => t.reg q n j) _ _ _ (fun t i _ => ?_)
    split
    · rfl
    · rfl

theorem State.setVoltages_ep (s : State) : s.setVoltages.ep = s.ep := by
  unfold State.setVoltages
  split
  · rfl
  · dsimp only
    rw [State.each_keeps State.ep _ _ _ (fun t m _ => State.setFld_ep ..)]
    refine State.each_keeps State.ep _ _ _ (fun t i _ => ?_)
    split
    · rfl
    · rfl

/-- Measurement register 0 of the boot ROM touches the registers of the measurement block alone (R207). -/
theorem State.measureRom_shows (s : State) : s.onlyRegs s.measureRom ∧ ∀ (q : Reg) (n j : Nat), q.spec.pkg = false → s.measureRom.reg q n j = s.reg q n j := by
  have hext : ∀ (u : State) (v : Bytes) (q : Reg) (n j : Nat), q.spec.pkg = false → (u.extendMr 0 v).reg q n j = u.reg q n j := fun u v q n j hq =>
    u.reg_extendMr 0 v (fun i hi => Reg.addr_ne_of_pkg n j ((by decide : ∀ i < 6, Reg.MSR_MR.addr 0 (6 * 0 + i) < 0x1000000) i hi) hq) (Reg.addr_ne_of_pkg n j (by decide) hq)
  unfold State.measureRom
  split
  · exact ⟨s.onlyRegs_refl, fun _ _ _ _ => rfl⟩
  · refine ⟨((s.onlyRegs_extendMr 0 _).trans (State.onlyRegs_extendMr ..)).trans (State.onlyRegs_extendMr ..), fun q n j hq => ?_⟩
    rw [hext _ _ q n j hq, hext _ _ q n j hq, hext _ _ q n j hq]

/-- The host endpoint served, its link trained where it may be, and the service core started (R93, R382). -/
def State.romStarted (s : State) (l : Option HostLink) : State :=
  let s := s.modEp (fun e => { e with served := true })
  (l.elim s (fun l => if s.mayTrain ∧ ¬ s.flag F.EP_ST_UP then s.hostLinkUp l else s)).setHart 0 8 true

/-- The boot store answers, with the voltages set (R93, R429; log 68). -/
def State.romCleared (s : State) (l : Option HostLink) : State :=
  { (s.romStarted l).setVoltages with mem := Sparse.clearRange (s.romStarted l).mem (dramBase 0) bootStoreSize }

/-- Step 3 up to what the host held. -/
def State.romDone (s : State) (l : Option HostLink) (us : Nat) : State := (s.romCleared l).measureRom.stepDone 3 us

theorem State.bootRom_eq (s : State) (l : Option HostLink) (us : Nat) : s.bootRom l us = (s.romDone l us).resumeHost := by
  cases l <;> rfl

theorem State.romStarted_running (s : State) (l : Option HostLink) : bit ((s.romStarted l).fld F.CPU_ST_RUNNING 0) 8 = true := by
  unfold State.romStarted
  exact State.setHart_service _

theorem State.romStarted_none (s : State) : (s.romStarted none).mem = s.mem ∧ (s.romStarted none).ep.served = true := by
  unfold State.romStarted State.setHart
  dsimp only [Option.elim]
  rw [State.setFld_mem, State.setFld_mem, State.setFld_mem, State.modEp_mem, State.setFld_ep, State.setFld_ep, State.setFld_ep, State.modEp_ep]
  exact ⟨rfl, rfl⟩

/-- The parts of a state whose memory is replaced, of which the kernel is not to compare the memories. -/
theorem State.withMem_shows (s : State) (m : Sparse Byte) : ({ s with mem := m } : State).mem = m ∧ ({ s with mem := m } : State).ep = s.ep ∧ ({ s with mem := m } : State).regs = s.regs :=
  ⟨rfl, rfl, rfl⟩

theorem State.romCleared_shows (s : State) (l : Option HostLink) : (s.romCleared l).mem = Sparse.clearRange (s.romStarted l).mem (dramBase 0) bootStoreSize ∧
    (s.romCleared l).ep = (s.romStarted l).ep ∧ (s.romCleared l).reg .CPU_ST 0 0 = (s.romStarted l).reg .CPU_ST 0 0 := by
  have hparts : (s.romCleared l).mem = Sparse.clearRange (s.romStarted l).mem (dramBase 0) bootStoreSize ∧ (s.romCleared l).ep = (s.romStarted l).setVoltages.ep ∧
      (s.romCleared l).regs = (s.romStarted l).setVoltages.regs := State.withMem_shows _ _
  obtain ⟨hmem, hep, hregs⟩ := hparts
  refine ⟨hmem, hep.trans (State.setVoltages_ep _), ?_⟩
  rw [State.reg_congr hregs, State.reg_setVoltages _ (fun m => Reg.addr_ne_of_windowOfs m 0 (by decide))]

theorem State.onlyRegs_romDone (s : State) (l : Option HostLink) (us : Nat) : (s.romCleared l).onlyRegs (s.romDone l us) :=
  (State.measureRom_shows _).1.trans (State.stepDone_shows _ 3 us (by decide)).2.2.1

/-- The service core of motif 0 runs at the end of step 3 (R93). -/
theorem State.romDone_running (s : State) (l : Option HostLink) (us : Nat) : bit ((s.romDone l us).fld F.CPU_ST_RUNNING 0) 8 = true := by
  have hpkg : ∀ {q : Reg} (k : Nat), q.addr 0 k < 0x1000000 → q.addr 0 k ≠ Reg.CPU_ST.addr 0 0 := fun _ h => Reg.addr_ne_of_pkg 0 0 h rfl
  obtain ⟨-, -, hcleared⟩ := s.romCleared_shows l
  have hreg : (s.romDone l us).reg .CPU_ST 0 0 = (s.romStarted l).reg .CPU_ST 0 0 := by
    unfold State.romDone
    rw [State.reg_stepDone _ _ _ (hpkg 0 (by decide)) (hpkg 2 (by decide)), (State.measureRom_shows _).2 _ _ _ rfl, hcleared]
  have hrun := s.romStarted_running l
  unfold State.fld at hrun ⊢
  rw [hreg]
  exact hrun

/-- The boot store reads 0, and without a host link nothing else of memory changes (R93; log 68). -/
theorem State.romDone_mem (s : State) (l : Option HostLink) (us : Nat) : (∀ o < bootStoreSize, Sparse.get memDefault (s.romDone l us).mem (dramBase 0 + o) = 0) ∧
    ∀ a, (a < dramBase 0 ∨ dramBase 0 + bootStoreSize ≤ a) → l = none → Sparse.get memDefault (s.romDone l us).mem a = Sparse.get memDefault s.mem a := by
  have hmem : (s.romDone l us).mem = Sparse.clearRange (s.romStarted l).mem (dramBase 0) bootStoreSize :=
    ((s.onlyRegs_romDone l us).same State.mem (fun _ _ => rfl)).trans (s.romCleared_shows l).1
  rw [hmem]
  generalize dramBase 0 = b
  refine ⟨fun o ho => ?_, fun a ha hl => ?_⟩
  · rw [Sparse.get_clearRange, if_pos ⟨Nat.le_add_right _ _, Nat.add_lt_add_left ho _⟩]
    rfl
  · rw [Sparse.get_clearRange, if_neg (by omega), hl, s.romStarted_none.1]

theorem State.romDone_served (s : State) (us : Nat) : (s.romDone none us).ep.served = true := by
  rw [(s.onlyRegs_romDone none us).same State.ep (fun _ _ => rfl), (s.romCleared_shows none).2.1, s.romStarted_none.2]

end Sys2Proof.Machine
end

section
/-! SUPPORT. Winding steps 4 and 5: the boot control block, the images, and the measurement of the one that boots (R207, R451 to R454, R459). -/

namespace Sys2Proof.Machine

/-! ## The boot flash -/

theorem Sparse.getRange_congr {β : Type} (d : β) {m q : Sparse β} {a : Nat} (n : Nat) (h : ∀ k, a ≤ k → k < a + n → Sparse.get d q k = Sparse.get d m k) : Sparse.getRange d q a n = Sparse.getRange d m a n := by
  induction n generalizing a with
  | zero => rfl
  | succ n ih => rw [Sparse.getRange, Sparse.getRange, h a (Nat.le_refl a) (by omega), ih (fun k hk hn => h k (by omega) (by omega))]

/-- Bytes programmed where the flash is erased read back (R457). -/
theorem State.flashRead_flashProgram (s : State) (o n : Nat) (b : Bytes) (hn : n ≤ b.length) (he : ∀ k < b.length, Sparse.get flashErased s.flash (o + k) = flashErased) :
    (s.flashProgram o b).flashRead o n = b.take n := by
  have hlen : (List.zipWith (fun (x y : Byte) => x &&& y) (s.flashRead o b.length) b).length = b.length := by
    rw [List.length_zipWith, flashRead_length, Nat.min_self]
  refine List.ext_getElem ((flashRead_length ..).trans (by rw [List.length_take, Nat.min_eq_left hn])) (fun k hk hk' => ?_)
  have hkb : k < b.length := Nat.lt_of_lt_of_le (by rwa [flashRead_length] at hk) hn
  have hold : (s.flashRead o b.length)[k]'(by rwa [flashRead_length]) = flashErased := (Sparse.getElem_getRange ..).trans (he k hkb)
  refine (Sparse.getElem_getRange ..).trans ((Sparse.get_setRange_in _ _ _ _ _ (hlen.symm ▸ hkb)).trans ?_)
  rw [List.getElem_zipWith, hold, List.getElem_take]
  exact BitVec.allOnes_and

theorem BootBlock.length_head (b : BootBlock) : b.head.length = 24 := by
  unfold BootBlock.head zeros bytesOf
  simp only [List.length_append, length_leBytes, List.length_replicate, List.length_map, List.length_cons, List.length_nil]

theorem BootBlock.length_bytes (b : BootBlock) : b.bytes.length = 28 := by
  unfold BootBlock.bytes
  rw [List.length_append, b.length_head, length_leBytes]

theorem BootBlock.length_copy (b : BootBlock) : (b.bytes ++ zeros 4068).length = 0x1000 := by
  rw [List.length_append, b.length_bytes]
  unfold zeros
  rw [List.length_replicate]

/-- A copy written reads back (R453). -/
theorem State.putBlock_same (s : State) (c : Nat) (b : BootBlock) : (s.putBlock c b).flashRead (0x1000 * c) 28 = b.bytes := by
  have hlen := b.length_copy
  unfold State.putBlock
  rw [State.flashRead_flashProgram _ _ _ _ (by omega) (fun k hk => ?_), List.take_left' b.length_bytes]
  exact (Sparse.get_clearRange ..).trans (if_pos ⟨Nat.le_add_right _ _, by omega⟩)

/-- A copy written leaves the rest of the flash alone (R453). -/
theorem State.putBlock_out (s : State) (c : Nat) (b : BootBlock) {k : Nat} (h : k < 0x1000 * c ∨ 0x1000 * c + 0x1000 ≤ k) :
    Sparse.get flashErased (s.putBlock c b).flash k = Sparse.get flashErased s.flash k := by
  have hlen := b.length_copy
  unfold State.putBlock
  rw [flashProgram_out _ _ _ _ (hlen.symm ▸ h)]
  exact (Sparse.get_clearRange ..).trans (if_neg (by omega))

/-! ## The block in force -/

/-- `t` is `s` but for its registers and the boot flash. -/
def State.onlyFlash (s t : State) : Prop := t = { s with regs := t.regs, flash := t.flash }

section
variable {s t u : State} (h : s.onlyFlash t)
include h

theorem State.onlyFlash.onlyRegs (g : t.onlyRegs u) : s.onlyFlash u := by
  unfold State.onlyFlash State.onlyRegs at *
  rw [g, h]

/-- What looks at neither is the same in both states. -/
theorem State.onlyFlash.same {α : Type} (p : State → α) (hp : ∀ (v : State) (l : Sparse Word64) (b : Sparse Byte), p { v with regs := l, flash := b } = p v) : p t = p s := by
  rw [h]
  exact hp s _ _

end

/-- A state whose flash is replaced, of which the kernel is not to compare the flash. -/
theorem State.withFlash_shows (s : State) (m : Sparse Byte) : s.onlyFlash { s with flash := m } ∧ ({ s with flash := m } : State).regs = s.regs := ⟨rfl, rfl⟩

/-- A range of the flash erased and programmed (R457). -/
theorem State.flashErase_flashProgram (s : State) (o n p : Nat) (b : Bytes) : s.onlyFlash ((s.flashErase o n).flashProgram p b) ∧ ((s.flashErase o n).flashProgram p b).regs = s.regs := by
  obtain ⟨he, hr⟩ := s.withFlash_shows (s.flashErase o n).flash
  have hp : ((s.flashErase o n).onlyFlash ((s.flashErase o n).flashProgram p b)) ∧ ((s.flashErase o n).flashProgram p b).regs = (s.flashErase o n).regs := State.withFlash_shows _ _
  refine ⟨?_, hp.2.trans hr⟩
  have hprog := hp.1
  unfold State.onlyFlash at hprog ⊢
  rw [hprog]
  exact congrArg (fun w : State => { w with regs := ((s.flashErase o n).flashProgram p b).regs, flash := ((s.flashErase o n).flashProgram p b).flash }) he

theorem State.onlyRegs_syncBlock (s : State) : s.onlyRegs s.syncBlock := s.onlyRegs_refl.setFld.setFld

theorem State.fld_syncBlock (s : State) {g : Fld Reg} (h : apartFrom [F.FWU_ST_TRIAL, F.FWU_ST_NEXT_SLOT] g = true) : s.syncBlock.fld g = s.fld g := by
  unfold State.syncBlock
  rw [State.fld_setFld_apart (apartFrom_mem h (by decide)), State.fld_setFld_apart (apartFrom_mem h (by decide))]

theorem State.fld_congr {s t : State} (h : t.regs = s.regs) (g : Fld Reg) : t.fld g = s.fld g := by
  unfold State.fld
  rw [State.reg_congr h]

/-- A control block written touches the flash, TRIAL and NEXT_SLOT (R453). -/
theorem State.writeBlock_shows (s : State) (b : BootBlock) : s.onlyFlash (s.writeBlock b) ∧ ∀ g, apartFrom [F.FWU_ST_TRIAL, F.FWU_ST_NEXT_SLOT] g = true → (s.writeBlock b).fld g = s.fld g := by
  have hput : ∀ (c : Nat) (q : BootBlock), s.onlyFlash (s.putBlock c q).syncBlock ∧ ∀ g, apartFrom [F.FWU_ST_TRIAL, F.FWU_ST_NEXT_SLOT] g = true → (s.putBlock c q).syncBlock.fld g = s.fld g := fun c q => by
    obtain ⟨honly, hregs⟩ := s.flashErase_flashProgram (0x1000 * c) 0x1000 (0x1000 * c) (q.bytes ++ zeros 4068)
    exact ⟨honly.onlyRegs (State.onlyRegs_syncBlock _), fun g hg => (State.fld_syncBlock _ hg).trans (State.fld_congr hregs g)⟩
  unfold State.writeBlock
  split
  · exact hput _ _
  · exact hput _ _

/-- A valid copy names the slot of its byte 0x10 (R453). -/
theorem readBlock_next {b : Bytes} {x : BootBlock} (h : readBlock b = some x) : x.next = byteAt b 0x10 % 2 := by
  unfold readBlock at h
  rw [Option.ite_none_right_eq_some] at h
  rw [← Option.some.inj h.2]

/-- NEXT names a slot (R453). -/
theorem State.bootBlock_next_lt (s : State) : s.bootBlock.next < 2 := by
  have hread : ∀ {b : Bytes} {x : BootBlock}, readBlock b = some x → x.next < 2 := fun h => readBlock_next h ▸ Nat.mod_lt _ (by decide)
  unfold State.bootBlock State.currentBlock
  split
  · rename_i c hc
    split at hc
    · rename_i a b ha hb
      split at hc
      · exact Option.some.inj hc ▸ hread hb
      · exact Option.some.inj hc ▸ hread ha
    · exact Option.some.inj hc ▸ hread ‹_›
    · exact Option.some.inj hc ▸ hread ‹_›
    · cases hc
  · decide

/-- With no block in force neither copy is valid (R453). -/
theorem State.currentBlock_none {s : State} (h : s.currentBlock = none) : readBlock (s.flashRead 0x1000 28) = none := by
  unfold State.currentBlock at h
  split at h
  · split at h <;> cases h
  · assumption
  · cases h
  · assumption

/-- The first block, written to a flash without a valid copy, names slot A (R453). -/
theorem State.putFirst_next {s : State} (h : s.currentBlock = none) : (s.putBlock 0 .first).bootBlock.next = 0 := by
  have hread : (s.putBlock 0 .first).flashRead 0 28 = BootBlock.first.bytes := s.putBlock_same 0 .first
  have hother : (s.putBlock 0 .first).flashRead 0x1000 28 = s.flashRead 0x1000 28 := Sparse.getRange_congr _ _ (fun k hk _ => s.putBlock_out 0 .first (.inr hk))
  unfold State.bootBlock State.currentBlock
  rw [hread, hother, State.currentBlock_none h]
  rcases hb : readBlock BootBlock.first.bytes with _ | x
  · rfl
  · exact readBlock_next hb

/-! ## The images -/

/-- The images of both slots, and the fuses that they are checked against, are in `t` as in `s`. -/
def State.sameImages (s t : State) : Prop := t.fuses = s.fuses ∧ ∀ k, 0x2000 ≤ k → Sparse.get flashErased t.flash k = Sparse.get flashErased s.flash k

theorem State.sameImages_refl (s : State) : s.sameImages s := ⟨rfl, fun _ _ => rfl⟩

section
variable {s t u : State} (h : s.sameImages t)
include h

theorem State.sameImages.onlyRegs (g : t.onlyRegs u) : s.sameImages u := by
  unfold State.sameImages
  rw [g.same State.fuses (fun _ _ => rfl), g.same State.flash (fun _ _ => rfl)]
  exact h

theorem State.sameImages.read (slot n : Nat) : t.flashRead (slotBase slot) n = s.flashRead (slotBase slot) n := by
  have hbase : 0x2000 ≤ slotBase slot := by
    unfold slotBase
    split <;> decide
  exact Sparse.getRange_congr _ n (fun k hk _ => h.2 k (Nat.le_trans hbase hk))

theorem State.sameImages.imageCheck (slot : Nat) (e : Bool) : t.imageCheck slot e = s.imageCheck slot e := by
  unfold State.imageCheck State.imageHeader
  simp only [h.read, h.1]

theorem State.sameImages.imageSpan (slot : Nat) : t.imageSpan slot = s.imageSpan slot := by
  unfold State.imageSpan State.imageHeader
  rw [h.read, h.read]

end

/-- The status of a check has 16 bits (R452). -/
theorem State.imageCheck_lt (s : State) (slot : Nat) (e : Bool) : s.imageCheck slot e < 2 ^ 16 := by
  unfold State.imageCheck
  dsimp only
  split_ifs <;> decide

/-! ## What the start of a slot leaves alone -/

/-- A field of the package window that neither the boot control block, nor the settings, nor the sampler shows in. -/
def offBoot (g : Fld Reg) : Bool :=
  apartFrom [F.FWU_ST_TRIAL, F.FWU_ST_NEXT_SLOT, F.FWU_ST_SETTINGS_RESET, F.FWU_EVT_SETTINGS_RESET] g && decide (g.reg.addr 0 0 < 0x1000000) &&
    decide (Reg.SMP_ST.addr 0 0 ≠ g.reg.addr 0 0) && decide (Reg.SMP_CNT.addr 0 0 ≠ g.reg.addr 0 0)

/-- The digest of the image, and the fields that the start of a slot leaves alone, are in `t` as in `s`. -/
def State.keepsBoot (s t : State) : Prop := t.imageDigest = s.imageDigest ∧ ∀ g, offBoot g = true → t.fld g = s.fld g

theorem State.keepsBoot_refl (s : State) : s.keepsBoot s := ⟨rfl, fun _ _ => rfl⟩

theorem State.keepsBoot.trans {s t u : State} (h : s.keepsBoot t) (g : t.keepsBoot u) : s.keepsBoot u := ⟨g.1.trans h.1, fun f hf => (g.2 f hf).trans (h.2 f hf)⟩

theorem State.keepsBoot_writeBlock (s : State) (b : BootBlock) : s.keepsBoot (s.writeBlock b) := by
  obtain ⟨honly, hfld⟩ := s.writeBlock_shows b
  refine ⟨honly.same State.imageDigest (fun _ _ _ => rfl), fun g hg => hfld g ?_⟩
  simp only [offBoot, Bool.and_eq_true] at hg
  exact List.all_eq_true.2 (fun f hf => apartFrom_mem hg.1.1.1 (List.mem_append_left [F.FWU_ST_SETTINGS_RESET, F.FWU_EVT_SETTINGS_RESET] hf))

theorem State.keepsBoot_sample (s : State) (ty : Nat) (p : Bytes) : s.keepsBoot (s.sample ty p) := by
  refine ⟨(State.onlySamples_sample ..).same State.imageDigest (fun _ _ _ _ => rfl), fun g hg => ?_⟩
  simp only [offBoot, Bool.and_eq_true, decide_eq_true_eq] at hg
  obtain ⟨⟨⟨-, hpkg⟩, hst⟩, hcnt⟩ := hg
  exact State.fld_sample _ _ _ _ _ _ hst hcnt hpkg

/-- The settings store erased shows in FWU_ST, FWU_EVT and the sampler (R459). -/
theorem State.keepsBoot_resetSettings (s : State) (fmt : Nat) : s.keepsBoot (s.resetSettings fmt) := by
  unfold State.resetSettings
  dsimp only
  refine State.keepsBoot.trans ?_ (State.keepsBoot_sample ..)
  obtain ⟨honly, hregs⟩ := s.flashErase_flashProgram (halfBase 0) 0x10000 (halfBase 0) _
  refine ⟨?_, fun g hg => ?_⟩
  · rw [State.setEvt_imageDigest, State.setFld_imageDigest]
    exact honly.same State.imageDigest (fun _ _ _ => rfl)
  · simp only [offBoot, Bool.and_eq_true] at hg
    rw [State.fld_setEvt_apart (apartFrom_mem hg.1.1.1 (by decide)), State.fld_setFld_apart (apartFrom_mem hg.1.1.1 (by decide)), State.fld_congr hregs]

theorem State.keepsBoot_checkSettings (s : State) (fmt : Nat) : s.keepsBoot (s.checkSettings fmt) := by
  unfold State.checkSettings
  split
  · split
    · exact s.keepsBoot_refl
    · exact s.keepsBoot_resetSettings fmt
  · exact s.keepsBoot_resetSettings fmt

/-! ## A slot started -/

/-- A slot's image in the boot store, with its digest and its version shown (R207, R451). -/
def State.bootImage (s : State) (slot : Nat) : State :=
  ((({ s.streamImage slot with imageDigest := sha384 (s.imageSpan slot) } : State).setFld F.FWU_ST_RUN_SLOT slot).setFld F.FWU_ST_RUNNING 1).setFld F.FWU_RUN_VER_VERSION (s.imageVersion slot)

/-- The slot that last booted noted in the control block, with the record of a change (R454). -/
def State.noteSlot (s : State) (slot ver : Nat) : State :=
  if s.bootBlock.lastValid ∧ s.bootBlock.lastSlot = slot then s
  else (s.sample 0x0004 (bytesOf [if s.bootBlock.lastValid then s.bootBlock.lastSlot else 0xFF, slot, 0, 0] ++ leBytes 8 ver)).writeBlock { s.bootBlock with lastSlot := slot, lastValid := true }

theorem State.bootSlot_eq (s : State) (slot us : Nat) :
    s.bootSlot slot us = (((s.bootImage slot).noteSlot slot (s.imageVersion slot)).checkSettings (leAt (s.imageHeader slot) 0x34 2)).stepDone 4 us := rfl

theorem State.keepsBoot_noteSlot (s : State) (slot ver : Nat) : s.keepsBoot (s.noteSlot slot ver) := by
  unfold State.noteSlot
  split
  · exact s.keepsBoot_refl
  · exact (s.keepsBoot_sample _ _).trans (State.keepsBoot_writeBlock _ _)

/-- The parts of a state whose memory and image digest are replaced, of which the kernel is not to compare the memories. -/
theorem State.withImage_shows (s : State) (m : Sparse Byte) (d : Bytes) : ({ ({ s with mem := m } : State) with imageDigest := d } : State).imageDigest = d ∧
    ({ ({ s with mem := m } : State) with imageDigest := d } : State).regs = s.regs := ⟨rfl, rfl⟩

theorem State.bootImage_shows (s : State) {slot : Nat} (hs : slot < 2) : (s.bootImage slot).fld F.FWU_ST_RUN_SLOT = slot ∧ (s.bootImage slot).fld F.FWU_ST_RUNNING = 1 ∧
    (s.bootImage slot).imageDigest = sha384 (s.imageSpan slot) ∧
    ∀ g, apartFrom [F.FWU_ST_RUN_SLOT, F.FWU_ST_RUNNING, F.FWU_RUN_VER_VERSION] g = true → (s.bootImage slot).fld g = s.fld g := by
  have himage : ({ s.streamImage slot with imageDigest := sha384 (s.imageSpan slot) } : State).imageDigest = sha384 (s.imageSpan slot) ∧
      ({ s.streamImage slot with imageDigest := sha384 (s.imageSpan slot) } : State).regs = s.regs := State.withImage_shows s _ _
  unfold State.bootImage
  generalize ({ s.streamImage slot with imageDigest := sha384 (s.imageSpan slot) } : State) = u at himage
  obtain ⟨hdigest, hregs⟩ := himage
  refine ⟨?_, ?_, ?_, fun g hg => ?_⟩
  · rw [State.fld_setFld_apart (by decide), State.fld_setFld_apart (by decide), State.fld_setFld_same _ _ _ _ _ (by decide)]
    exact Nat.mod_eq_of_lt hs
  · rw [State.fld_setFld_apart (by decide), State.fld_setFld_same _ _ _ _ _ (by decide)]
    rfl
  · rw [State.setFld_imageDigest, State.setFld_imageDigest, State.setFld_imageDigest, hdigest]
  · rw [State.fld_setFld_apart (apartFrom_mem hg (by decide)), State.fld_setFld_apart (apartFrom_mem hg (by decide)), State.fld_setFld_apart (apartFrom_mem hg (by decide)), State.fld_congr hregs]

/-- A slot started ends step 4: it runs, and the digest of its image is taken (R207, R454). -/
theorem State.bootSlot_shows (s t : State) {slot us : Nat} (hs : slot < 2) (ht : t = s.bootSlot slot us) : t.fld F.PKG_WIND_STEP = 5 ∧ t.fld F.FWU_ST_RUN_SLOT = slot ∧
    t.fld F.FWU_ST_RUNNING = 1 ∧ t.imageDigest = sha384 (s.imageSpan slot) ∧ t.fld F.FWU_ST_FALLBACK = s.fld F.FWU_ST_FALLBACK ∧ t.flag F.FWU_EVT_FALLBACK = s.flag F.FWU_EVT_FALLBACK := by
  obtain ⟨hslot, hrun, hdigest, hkeep⟩ := s.bootImage_shows hs
  obtain ⟨hnote, hfld⟩ := ((s.bootImage slot).keepsBoot_noteSlot slot (s.imageVersion slot)).trans (State.keepsBoot_checkSettings _ (leAt (s.imageHeader slot) 0x34 2))
  rw [s.bootSlot_eq] at ht
  generalize ((s.bootImage slot).noteSlot slot (s.imageVersion slot)).checkSettings (leAt (s.imageHeader slot) 0x34 2) = u at hnote hfld ht
  obtain ⟨hstep, -, honly, hrest⟩ := u.stepDone_shows 4 us (by decide)
  rw [← ht] at hstep honly hrest
  have hboot : ∀ g, offStep g = true → offBoot g = true → t.fld g = (s.bootImage slot).fld g := fun g hg hb => (hrest g hg).trans (hfld g hb)
  refine ⟨hstep, (hboot _ (by decide) (by decide)).trans hslot, (hboot _ (by decide) (by decide)).trans hrun, ?_, ?_, State.flag_congr ?_⟩
  · exact (honly.same State.imageDigest (fun _ _ => rfl)).trans (hnote.trans hdigest)
  · exact (hboot F.FWU_ST_FALLBACK (by decide) (by decide)).trans (hkeep F.FWU_ST_FALLBACK (by decide))
  · exact (hboot F.FWU_EVT_FALLBACK (by decide) (by decide)).trans (hkeep F.FWU_EVT_FALLBACK (by decide))

/-- The fields that a fallback leaves alone. -/
def offFallBack (g : Fld Reg) : Bool := offBoot g && apartFrom [F.FWU_ST_FALLBACK, F.FWU_EVT_FALLBACK, F.FWU_COMMIT_STATUS] g

/-- A fallback noted (R454, R455). -/
theorem State.fallBack_shows (s t : State) (a b st : Nat) (ht : t = s.fallBack a b st) : t.fld F.FWU_ST_FALLBACK = 1 ∧ t.flag F.FWU_EVT_FALLBACK = true ∧
    ∀ g, offFallBack g = true → t.fld g = s.fld g := by
  unfold State.fallBack at ht
  dsimp only at ht
  obtain ⟨-, hfld⟩ := (s.keepsBoot_writeBlock { s.bootBlock with next := b, trial := false }).trans (State.keepsBoot_sample _ 0x0005 (bytesOf [a, b] ++ leBytes 2 st))
  generalize (s.writeBlock { s.bootBlock with next := b, trial := false }).sample 0x0005 (bytesOf [a, b] ++ leBytes 2 st) = u at hfld ht
  have hlast : ∀ g, F.FWU_COMMIT_STATUS.apart g = true → t.fld g = ((u.setFld F.FWU_ST_FALLBACK 1).setEvt F.FWU_EVT_FALLBACK).fld g := fun g hg => by
    rw [ht]
    split
    · exact State.fld_setFld_apart hg ..
    · rfl
  refine ⟨?_, ?_, fun g hg => ?_⟩
  · rw [hlast _ (by decide), State.fld_setEvt_apart (by decide), State.fld_setFld_same _ _ _ _ _ (by decide)]
    rfl
  · exact (State.flag_congr (hlast _ (by decide))).trans (State.flag_setEvt_same _ F.FWU_EVT_FALLBACK 0 (by decide))
  · unfold offFallBack at hg
    rw [Bool.and_eq_true] at hg
    obtain ⟨hboot, hap⟩ := hg
    rw [hlast _ (apartFrom_mem hap (by decide)), State.fld_setEvt_apart (apartFrom_mem hap (by decide)), State.fld_setFld_apart (apartFrom_mem hap (by decide)), hfld g hboot]

/-! ## Slots -/

/-- The state in which step 4 checks the images: a block in force, FWU_ST in step with it, FWU_VERIFY blank (R452 to R454). -/
def State.blockReady (s : State) : State := ((if s.currentBlock.isSome then s else s.putBlock 0 .first).syncBlock).setReg .FWU_VERIFY 0 0 0

theorem State.blockReady_shows (s : State) : s.blockReady.bootBlock.next = s.bootBlock.next ∧ s.sameImages s.blockReady ∧ s.blockReady.mode = s.mode := by
  have hready : ∀ u : State, u.sameImages (u.syncBlock.setReg .FWU_VERIFY 0 0 0) ∧ (u.syncBlock.setReg .FWU_VERIFY 0 0 0).bootBlock.next = u.bootBlock.next ∧
      (u.syncBlock.setReg .FWU_VERIFY 0 0 0).mode = u.mode := fun u =>
    ⟨u.sameImages_refl.onlyRegs u.onlyRegs_syncBlock.setReg, u.onlyRegs_syncBlock.setReg.same (fun v => v.bootBlock.next) (fun _ _ => rfl),
      (State.fld_setReg_other _ _ _ _ _ F.PKG_MODE_MODE _ _ (by decide)).trans (u.fld_syncBlock (by decide))⟩
  unfold State.blockReady
  rcases hc : s.currentBlock with _ | c
  · obtain ⟨himages, hnext, hmode⟩ := hready (s.putBlock 0 .first)
    obtain ⟨honly, hregs⟩ := s.flashErase_flashProgram (0x1000 * 0) 0x1000 (0x1000 * 0) (BootBlock.first.bytes ++ zeros 4068)
    rw [Option.isSome_none, if_neg Bool.false_ne_true]
    refine ⟨?_, ⟨himages.1.trans (honly.same State.fuses (fun _ _ _ => rfl)), fun k hk => (himages.2 k hk).trans (s.putBlock_out 0 .first (.inr (by omega)))⟩,
      hmode.trans (State.fld_congr hregs F.PKG_MODE_MODE)⟩
    rw [hnext, State.putFirst_next hc]
    unfold State.bootBlock
    rw [hc]
    rfl
  · obtain ⟨himages, hnext, hmode⟩ := hready s
    rw [Option.isSome_some, if_pos rfl]
    exact ⟨hnext, himages, hmode⟩

/-- The result of a check noted in FWU_VERIFY (R452). -/
theorem State.noteCheck_shows (s : State) (slot : Nat) {st : Nat} (hst : st < 2 ^ 16) : s.onlyRegs (s.noteCheck slot st) ∧
    (s.noteCheck slot st).fld F.FWU_VERIFY_STATUS_A = (if slot = 0 then st else s.fld F.FWU_VERIFY_STATUS_A) ∧
    (s.noteCheck slot st).fld F.FWU_VERIFY_STATUS_B = (if slot = 0 then s.fld F.FWU_VERIFY_STATUS_B else st) ∧ (s.noteCheck slot st).mode = s.mode := by
  unfold State.noteCheck State.mode
  by_cases h : slot = 0
  · rw [if_pos h, if_pos h, if_pos h]
    refine ⟨s.onlyRegs_refl.setFld.setFld, ?_, ?_, ?_⟩
    · rw [State.fld_setFld_apart (by decide), State.fld_setFld_same _ _ _ _ _ (by decide)]
      exact Nat.mod_eq_of_lt hst
    · rw [State.fld_setFld_apart (by decide), State.fld_setFld_apart (by decide)]
    · rw [State.fld_setFld_apart (by decide), State.fld_setFld_apart (by decide)]
  · rw [if_neg h, if_neg h, if_neg h]
    refine ⟨s.onlyRegs_refl.setFld.setFld, ?_, ?_, ?_⟩
    · rw [State.fld_setFld_apart (by decide), State.fld_setFld_apart (by decide)]
    · rw [State.fld_setFld_apart (by decide), State.fld_setFld_same _ _ _ _ _ (by decide)]
      exact Nat.mod_eq_of_lt hst
    · rw [State.fld_setFld_apart (by decide), State.fld_setFld_apart (by decide)]

/-- What a failed check has streamed changes no register (R451). -/
theorem State.streamed_regs (s : State) (slot st : Nat) : (s.streamed slot st).regs = s.regs := by
  unfold State.streamed
  split
  · exact (State.withMem_shows s _).2.2
  · rfl

/-- Both checks noted, with what they have streamed. -/
def State.bothTried (s : State) (a st other : Nat) : State := (((s.noteCheck a st).noteCheck (1 - a) other).streamed a st).streamed (1 - a) other

/-- Step 4 once its blocks are ready, by the slot that NEXT names and the results of both checks (R454). -/
def State.selectReady (s : State) (us a st other : Nat) : State :=
  if st = 0 then (s.noteCheck a st).bootSlot a us
  else if other ≠ 0 then (s.bothTried a st other).windStop 0x2201 else ((s.bothTried a st other).fallBack a (1 - a) st).bootSlot (1 - a) us

/-- The slot that NEXT names, checked. -/
def State.nextCheck (s : State) (errA errB : Bool) : Nat := s.imageCheck s.bootBlock.next (if s.bootBlock.next = 0 then errA else errB)

theorem State.selectSlot_ready (s : State) (errA errB : Bool) (us : Nat) : s.selectSlot errA errB us =
    s.blockReady.selectReady us s.blockReady.bootBlock.next (s.blockReady.nextCheck errA errB)
      ((s.blockReady.noteCheck s.blockReady.bootBlock.next (s.blockReady.nextCheck errA errB)).imageCheck (1 - s.blockReady.bootBlock.next) (if 1 - s.blockReady.bootBlock.next = 0 then errA else errB)) := by
  unfold State.selectSlot State.blockReady
  cases s.currentBlock <;> rfl

/-- The checks of step 4 are those of the images as they stand before it (R452, R454). -/
theorem State.selectSlot_eq (s : State) (errA errB : Bool) (us : Nat) {a st other : Nat} (ha : a = s.bootBlock.next) (hst : st = s.imageCheck a (if a = 0 then errA else errB))
    (hother : other = s.imageCheck (1 - a) (if 1 - a = 0 then errA else errB)) : s.selectSlot errA errB us = s.blockReady.selectReady us a st other := by
  obtain ⟨hnext, himages, -⟩ := s.blockReady_shows
  have htried : s.sameImages (s.blockReady.noteCheck a st) := himages.onlyRegs (s.blockReady.noteCheck_shows a (hst ▸ s.imageCheck_lt ..)).1
  have hcheck : s.blockReady.nextCheck errA errB = st := by
    unfold State.nextCheck
    rw [hnext, ← ha, himages.imageCheck, ← hst]
  rw [s.selectSlot_ready, hcheck, hnext, ← ha, htried.imageCheck, ← hother]

/-- Both checks shown in FWU_VERIFY, and the mode as it was (R452). -/
theorem State.bothTried_shows (s : State) {a st other : Nat} (ha : a < 2) (hst : st < 2 ^ 16) (hother : other < 2 ^ 16) :
    (s.bothTried a st other).fld F.FWU_VERIFY_STATUS_A = (if a = 0 then st else other) ∧ (s.bothTried a st other).fld F.FWU_VERIFY_STATUS_B = (if a = 0 then other else st) ∧
    (s.bothTried a st other).mode = s.mode := by
  obtain ⟨-, hA, hB, hm⟩ := s.noteCheck_shows a hst
  obtain ⟨-, hA', hB', hm'⟩ := (s.noteCheck a st).noteCheck_shows (1 - a) hother
  have hfld : ∀ g, (s.bothTried a st other).fld g = ((s.noteCheck a st).noteCheck (1 - a) other).fld g := State.fld_congr ((State.streamed_regs ..).trans (State.streamed_regs ..))
  rw [hfld, hfld, hA', hB', hA, hB, show (s.bothTried a st other).mode = s.mode from (hfld F.PKG_MODE_MODE).trans (hm'.trans hm)]
  by_cases h : a = 0
  · subst h
    exact ⟨rfl, rfl, rfl⟩
  · obtain rfl : a = 1 := by omega
    exact ⟨rfl, rfl, rfl⟩

/-- The fields that a Winding that stops leaves alone (R98). -/
theorem State.fld_windStop (s : State) (code : Nat) {g : Fld Reg} (h : apartFrom [F.PKG_WIND_STOPPED, F.PKG_WIND_CODE, F.FWU_ST_RUNNING, F.PKG_MODE_EV_WIND_STOP] g = true)
    (hb : Reg.BRD_ST.addr 0 0 ≠ g.reg.addr 0 0) : (s.windStop code).fld g = s.fld g := by
  unfold State.windStop
  rw [State.fld_setEvt_apart (apartFrom_mem h (by decide)), State.fld_setFld_apart (apartFrom_mem h (by decide)), State.fld_setFld_apart (apartFrom_mem h (by decide)),
    State.fld_setFld_apart (apartFrom_mem h (by decide)), State.fld_driveHalive _ _ _ _ _ hb]

/-- Step 4 with an image that passes in the slot that NEXT names (R454). -/
theorem State.selectSlot_next (s t : State) (errA errB : Bool) (us : Nat) {a : Nat} (ha : a = s.bootBlock.next) (hst : s.imageCheck a (if a = 0 then errA else errB) = 0)
    (ht : t = s.selectSlot errA errB us) : t.fld F.PKG_WIND_STEP = 5 ∧ t.fld F.FWU_ST_RUN_SLOT = a ∧ t.fld F.FWU_ST_RUNNING = 1 ∧ t.imageDigest = sha384 (s.imageSpan a) := by
  have himages : s.sameImages (s.blockReady.noteCheck a 0) := s.blockReady_shows.2.1.onlyRegs (s.blockReady.noteCheck_shows a (by decide)).1
  obtain ⟨hstep, hslot, hrun, hdigest, -, -⟩ := (s.blockReady.noteCheck a 0).bootSlot_shows _ (slot := a) (us := us) (ha ▸ s.bootBlock_next_lt) rfl
  rw [s.selectSlot_eq errA errB us ha hst.symm rfl, State.selectReady, if_pos rfl] at ht
  rw [ht]
  exact ⟨hstep, hslot, hrun, hdigest.trans (congrArg sha384 (himages.imageSpan a))⟩

/-- Step 4 that falls back to the other slot (R454). -/
theorem State.selectSlot_other (s t : State) (errA errB : Bool) (us : Nat) {a st : Nat} (ha : a = s.bootBlock.next) (hst : st = s.imageCheck a (if a = 0 then errA else errB)) (h : st ≠ 0)
    (hother : s.imageCheck (1 - a) (if 1 - a = 0 then errA else errB) = 0) (ht : t = s.selectSlot errA errB us) : t.fld F.PKG_WIND_STEP = 5 ∧ t.fld F.FWU_ST_RUN_SLOT = 1 - a ∧
    t.fld F.FWU_ST_RUNNING = 1 ∧ t.fld F.FWU_ST_FALLBACK = 1 ∧ t.flag F.FWU_EVT_FALLBACK = true := by
  obtain ⟨hfall, hevt, -⟩ := (s.blockReady.bothTried a st 0).fallBack_shows _ a (1 - a) st rfl
  obtain ⟨hstep, hslot, hrun, -, hfall', hevt'⟩ := ((s.blockReady.bothTried a st 0).fallBack a (1 - a) st).bootSlot_shows _ (slot := 1 - a) (us := us) (by omega) rfl
  rw [s.selectSlot_eq errA errB us ha hst hother.symm, State.selectReady, if_neg h, if_neg (not_not_intro rfl)] at ht
  rw [ht]
  exact ⟨hstep, hslot, hrun, hfall'.trans hfall, hevt'.trans hevt⟩

/-- Step 4 without an image that passes stops the Winding (R454). -/
theorem State.selectSlot_neither (s t : State) (errA errB : Bool) (us : Nat) (hin : s.inStep 4 = true) (hA : s.imageCheck 0 errA ≠ 0) (hB : s.imageCheck 1 errB ≠ 0)
    (ht : t = s.selectSlot errA errB us) : t.stoppedWith 0x2201 ∧ t.fld F.FWU_VERIFY_STATUS_A = s.imageCheck 0 errA ∧ t.fld F.FWU_VERIFY_STATUS_B = s.imageCheck 1 errB := by
  obtain ⟨hmode, -, -⟩ := (s.inStep_iff 4).1 hin
  obtain ⟨-, -, hready⟩ := s.blockReady_shows
  have hlt := s.bootBlock_next_lt
  have hstop : ∀ a st other : Nat, a = s.bootBlock.next → st = s.imageCheck a (if a = 0 then errA else errB) → other = s.imageCheck (1 - a) (if 1 - a = 0 then errA else errB) → st ≠ 0 → other ≠ 0 →
      t.stoppedWith 0x2201 ∧ t.fld F.FWU_VERIFY_STATUS_A = (if a = 0 then st else other) ∧ t.fld F.FWU_VERIFY_STATUS_B = if a = 0 then other else st := fun a st other ha hst hother h h' => by
    obtain ⟨hvA, hvB, hm⟩ := s.blockReady.bothTried_shows (a := a) (ha ▸ hlt) (hst ▸ s.imageCheck_lt ..) (hother ▸ s.imageCheck_lt ..)
    rw [s.selectSlot_eq errA errB us ha hst hother, State.selectReady, if_neg h, if_pos h'] at ht
    rw [ht, State.fld_windStop _ _ (by decide) (by decide), State.fld_windStop _ _ (by decide) (by decide)]
    exact ⟨State.windStop_stoppedWith _ (hm.trans (hready.trans hmode)) (by decide), hvA, hvB⟩
  rcases (by omega : s.bootBlock.next = 0 ∨ s.bootBlock.next = 1) with h0 | h1
  · exact hstop 0 _ _ h0.symm rfl rfl hA hB
  · exact hstop 1 _ _ h1.symm rfl rfl hB hA

/-! ## Step 5 -/

/-- The image measured: registers 1 and 3 are extended once each (R207). -/
theorem State.measureImage_shows (s t : State) (us : Nat) (ht : t = s.measureImage.stepDone 5 us) : t.fld F.PKG_WIND_STEP = 6 ∧
    (∀ i < 6, t.fld F.MSR_MR_VALUE 0 (6 + i) = leAt (sha384 (s.mrValue 1 ++ s.imageDigest)) (8 * i) 8 % 2 ^ 64) ∧ t.mrValue 0 = s.mrValue 0 ∧ t.mrValue 2 = s.mrValue 2 ∧
    t.fld F.MSR_CNT_EXTENDS 0 1 = satAdd (fldMax F.MSR_CNT_EXTENDS) (s.fld F.MSR_CNT_EXTENDS 0 1) 1 ∧
    t.fld F.MSR_CNT_EXTENDS 0 3 = satAdd (fldMax F.MSR_CNT_EXTENDS) (s.fld F.MSR_CNT_EXTENDS 0 3) 1 := by
  obtain ⟨v, hv⟩ : ∃ v, s.measureImage = (s.extendMr 1 s.imageDigest).extendMr 3 v := ⟨_, rfl⟩
  have hstep : t.fld F.PKG_WIND_STEP = 6 := ht ▸ (State.stepDone_shows _ 5 us (by decide)).1
  have hwind : ∀ i < 24, Reg.PKG_WIND.addr 0 0 ≠ Reg.MSR_MR.addr 0 i ∧ Reg.PKG_WIND_TIME.addr 0 4 ≠ Reg.MSR_MR.addr 0 i := by decide
  have hmr : ∀ i < 24, t.fld F.MSR_MR_VALUE 0 i = s.measureImage.fld F.MSR_MR_VALUE 0 i := fun i hi =>
    ht ▸ congrArg (fun x => bits x 63 0) (State.reg_stepDone _ 5 us (hwind i hi).1 (hwind i hi).2)
  have hcnt : ∀ r < 4, t.fld F.MSR_CNT_EXTENDS 0 r = s.measureImage.fld F.MSR_CNT_EXTENDS 0 r := fun r hr =>
    ht ▸ congrArg (fun x => bits x 31 0) (State.reg_stepDone _ 5 us ((by decide : ∀ r < 4, Reg.PKG_WIND.addr 0 0 ≠ Reg.MSR_CNT.addr 0 r) r hr)
      ((by decide : ∀ r < 4, Reg.PKG_WIND_TIME.addr 0 4 ≠ Reg.MSR_CNT.addr 0 r) r hr))
  obtain ⟨hvalue, hone⟩ := s.extendMr_shows (r := 1) s.imageDigest (by decide)
  obtain ⟨-, hthree⟩ := (s.extendMr 1 s.imageDigest).extendMr_shows (r := 3) v (by decide)
  have hfirst : ∀ q < 4, 1 ≠ q → _ := fun q hq h => s.extendMr_others (r := 1) (q := q) s.imageDigest (by decide) hq h
  have hsecond : ∀ q < 4, 3 ≠ q → _ := fun q hq h => (s.extendMr 1 s.imageDigest).extendMr_others (r := 3) (q := q) v (by decide) hq h
  have hkept : ∀ q < 4, 1 ≠ q → 3 ≠ q → t.mrValue q = s.mrValue q := fun q hq h1 h3 =>
    State.mrValue_congr (fun i hi => by rw [hmr _ (by omega), hv, (hsecond q hq h3).1 i hi, (hfirst q hq h1).1 i hi])
  refine ⟨hstep, fun i hi => ?_, hkept 0 (by decide) (by decide) (by decide), hkept 2 (by decide) (by decide) (by decide), ?_, ?_⟩
  · rw [hmr _ (by omega), hv]
    exact ((hsecond 1 (by decide) (by decide)).1 i hi).trans (hvalue i hi)
  · rw [hcnt 1 (by decide), hv, (hsecond 1 (by decide) (by decide)).2, hone]
  · rw [hcnt 3 (by decide), hv, hthree, (hfirst 3 (by decide) (by decide)).2]

end Sys2Proof.Machine
end

section
/-! SUPPORT. Winding step 6: the pricking (R84 to R87, R98). -/

namespace Sys2Proof.Machine

/-! ## A pricking that fails -/

/-- The code and the place of a failed validation, shown (R84; log 12). -/
def State.failShown (s : State) (code : Nat) (at_ : Option Nat) : State :=
  ((at_.elim s.tookFree (fun _ => s)).setFld F.PRK_ST_CODE code).setFld F.PRK_ST_FAIL_OFS (at_.getD (s.freeVal % 2 ^ 32))

/-- The other slot is noted as a fallback and the Winding goes back to step 3 (R85, R455). -/
def State.retried (v : State) (code : Nat) : State :=
  let w := (v.fallBack v.bootBlock.next v.bootBlock.prev code).setFld F.PRK_ST_FALLBACK 1
  ((w.setFld F.FWU_ST_RUNNING 0).modHu (fun h => { h with owed := some w.num })).setFld F.PKG_WIND_STEP 3

theorem State.failPricking_eq (s : State) (code : Nat) (at_ : Option Nat) : s.failPricking code at_ =
    if (s.failShown code at_).bootBlock.trial then (s.failShown code at_).retried code
    else ((s.failShown code at_).setFld F.PRK_ST_STATE 4).windStop 0x2202 := by
  cases at_ <;> rfl

theorem State.retried_shows (v t : State) (code : Nat) (ht : t = v.retried code) :
    t.fld F.PKG_WIND_STEP = 3 ∧ t.mode = v.mode ∧ t.fld F.FWU_ST_RUNNING = 0 ∧ t.fld F.PRK_ST_FALLBACK = 1 ∧ t.flag F.FWU_EVT_FALLBACK = true := by
  obtain ⟨-, hevt, hkeep⟩ := v.fallBack_shows _ v.bootBlock.next v.bootBlock.prev code rfl
  unfold State.retried at ht
  dsimp only at ht
  generalize v.fallBack v.bootBlock.next v.bootBlock.prev code = u at hevt hkeep ht
  subst ht
  refine ⟨State.fld_setFld_same _ _ _ _ _ (by decide), ?_, ?_, ?_, (State.flag_congr ?_).trans hevt⟩
  · unfold State.mode
    rw [State.fld_setFld_apart (by decide), State.modHu_fld, State.fld_setFld_apart (by decide), State.fld_setFld_apart (by decide), hkeep _ (by decide)]
  · rw [State.fld_setFld_apart (by decide), State.modHu_fld, State.fld_setFld_same _ _ _ _ _ (by decide)]
    rfl
  · rw [State.fld_setFld_apart (by decide), State.modHu_fld, State.fld_setFld_apart (by decide), State.fld_setFld_same _ _ _ _ _ (by decide)]
    rfl
  · rw [State.fld_setFld_apart (by decide), State.modHu_fld, State.fld_setFld_apart (by decide), State.fld_setFld_apart (by decide)]

theorem State.failShown_shows (s : State) (code : Nat) (at_ : Option Nat) : (s.failShown code at_).bootBlock = s.bootBlock ∧ (s.failShown code at_).mode = s.mode ∧
    (s.failShown code at_).fld F.PRK_ST_CODE = code % 65536 := by
  have hshown : ∀ (u : State) (x : Nat), ((u.setFld F.PRK_ST_CODE code).setFld F.PRK_ST_FAIL_OFS x).bootBlock = u.bootBlock ∧
      ((u.setFld F.PRK_ST_CODE code).setFld F.PRK_ST_FAIL_OFS x).mode = u.mode ∧ ((u.setFld F.PRK_ST_CODE code).setFld F.PRK_ST_FAIL_OFS x).fld F.PRK_ST_CODE = code % 65536 := fun u x => by
    refine ⟨u.onlyRegs_refl.setFld.setFld.same State.bootBlock (fun _ _ => rfl), ?_, ?_⟩
    · unfold State.mode
      rw [State.fld_setFld_apart (by decide), State.fld_setFld_apart (by decide)]
    · rw [State.fld_setFld_apart (by decide), State.fld_setFld_same _ _ _ _ _ (by decide)]
      rfl
  cases at_ with
  | none => exact hshown s.tookFree _
  | some _ => exact hshown s _

/-- Outside a trial a pricking that fails stops the Winding (R85). -/
theorem State.failPricking_stops (s t : State) (code : Nat) (at_ : Option Nat) (hm : s.mode = 0) (h : s.bootBlock.trial = false) (ht : t = s.failPricking code at_) :
    t.stoppedWith 0x2202 ∧ t.fld F.PRK_ST_STATE = 4 ∧ t.fld F.PRK_ST_CODE = code % 65536 := by
  obtain ⟨hblock, hmode, hcode⟩ := s.failShown_shows code at_
  rw [s.failPricking_eq, hblock, h, if_neg Bool.false_ne_true] at ht
  subst ht
  refine ⟨State.windStop_stoppedWith _ ?_ (by decide), ?_, ?_⟩
  · unfold State.mode at *
    rw [State.fld_setFld_apart (by decide), hmode, hm]
  · rw [State.fld_windStop _ _ (by decide) (by decide), State.fld_setFld_same _ _ _ _ _ (by decide)]
    rfl
  · rw [State.fld_windStop _ _ (by decide) (by decide), State.fld_setFld_apart (by decide), hcode]

/-- In a trial it falls back to the other slot, and the Winding goes on from step 3 (R85, R455). -/
theorem State.failPricking_trial (s t : State) (code : Nat) (at_ : Option Nat) (hm : s.mode = 0) (h : s.bootBlock.trial = true) (ht : t = s.failPricking code at_) :
    t.fld F.PKG_WIND_STEP = 3 ∧ t.mode = 0 ∧ t.fld F.FWU_ST_RUNNING = 0 ∧ t.fld F.PRK_ST_FALLBACK = 1 ∧ t.flag F.FWU_EVT_FALLBACK = true := by
  obtain ⟨hblock, hmode, -⟩ := s.failShown_shows code at_
  rw [s.failPricking_eq, hblock, h, if_pos rfl] at ht
  obtain ⟨hstep, hkept, hrest⟩ := State.retried_shows _ t code ht
  exact ⟨hstep, hkept.trans (hmode.trans hm), hrest⟩

/-! ## A pricking that is accepted -/

theorem State.sourceChanged_prk (s : State) (old : Nat) : (s.sourceChanged old).prk = s.prk := by
  unfold State.sourceChanged State.sourceLost
  split
  · rfl
  · dsimp only
    split
    · rw [State.modStc_prk, State.setFld_prk, State.setFld_prk, State.setEvt_prk, State.modStc_prk, State.setFld_prk]
    · rw [State.modStc_prk, State.setFld_prk]

theorem State.onlyRegs_applyDefaultOn (s : State) (p : Nat → Bool) (e : DefaultEntry) : s.onlyRegs (s.applyDefaultOn p e) := by
  unfold State.applyDefaultOn
  dsimp only
  split
  · exact s.onlyRegs_refl
  · exact State.onlyRegs_each _ _ _ (fun t m => t.onlyRegs_refl.setReg)

/-- An accepted pricking is the one in force (R82 to R86). -/
theorem State.installPricking_prk (s : State) (p : Pricking) (slot : Nat) : (s.installPricking p slot).prk = some p := by
  have hhash : ∀ (u : State) (r : Reg) (b : Bytes), (u.setHash r b).prk = u.prk := fun u r b => State.each_keeps State.prk u _ _ (fun t i _ => State.setReg_prk ..)
  have hroot : ∀ u : State, (u.each (List.range 6) (fun t i => t.tvWrote 3 i)).prk = u.prk := fun u =>
    State.each_keeps State.prk u _ _ (fun t i _ => t.onlySamples_refl.tvWrote.same State.prk (fun _ _ _ _ => rfl))
  have hways : ∀ (u : State) (l : List Nat), (u.each l State.loadCapacity).prk = u.prk := fun u l => State.each_keeps State.prk u _ _ (fun t m _ => State.setFld_prk ..)
  have hdefaults : ∀ u : State, (u.each p.defaults (fun t e => t.applyDefaultOn (fun _ => true) e)).prk = u.prk := fun u =>
    State.each_keeps State.prk u _ _ (fun t e _ => (t.onlyRegs_applyDefaultOn _ e).same State.prk (fun _ _ => rfl))
  have hend : ∀ w : State, w.prk = some p →
      ((if w.mramRead 0x40 48 = p.rootHash then w else (w.sample 0x0006 (bytesOf [1] ++ zeros 7 ++ leBytes 8 p.serial ++ p.rootHash)).mramWrite 0x40 p.rootHash).extendMr 2 p.rootHash).prk = some p := fun w hw => by
    rw [(State.onlyRegs_extendMr ..).same State.prk (fun _ _ => rfl)]
    split
    · exact hw
    · exact ((State.onlySamples_sample ..).mramWrite.same State.prk (fun _ _ _ _ => rfl)).trans hw
  unfold State.installPricking
  refine hend _ ?_
  rw [State.sourceChanged_prk, hdefaults, hways, (State.keepsPart_installPart _).1, hhash, hhash, hroot, hhash]
  simp only [State.setFld_prk]

/-! ## Step 6 -/

theorem State.loadPricking_error (s : State) (us : Nat) : s.loadPricking true us = (s.setFld F.PRK_ST_SLOT (s.fld F.FWU_ST_RUN_SLOT)).failPricking 0x3008 (some 0) := by
  unfold State.loadPricking
  exact if_pos rfl

/-- The pricking of the running slot is validated as it stands in the flash (R84). -/
theorem State.loadPricking_read (s : State) (us : Nat) {b : Bytes} (hb : b = s.flashRead (s.prickingOfs (s.fld F.FWU_ST_RUN_SLOT))
      (max 0x80 (min (leAt (s.flashRead (s.prickingOfs (s.fld F.FWU_ST_RUN_SLOT)) 0x18) 0x14 4) 0x100000))) :
    (∀ code at_, validatePricking s.fuses.caps s.fuses.relienKey s.fuses.customerKey b = .error (code, at_) →
      s.loadPricking false us = (s.setFld F.PRK_ST_SLOT (s.fld F.FWU_ST_RUN_SLOT)).failPricking code at_) ∧
    ∀ p, validatePricking s.fuses.caps s.fuses.relienKey s.fuses.customerKey b = .ok p →
      s.loadPricking false us = ((s.setFld F.PRK_ST_SLOT (s.fld F.FWU_ST_RUN_SLOT)).installPricking p (s.fld F.FWU_ST_RUN_SLOT)).stepDone 6 us := by
  have honly : s.onlyRegs (s.setFld F.PRK_ST_SLOT (s.fld F.FWU_ST_RUN_SLOT)) := s.onlyRegs_refl.setFld
  have hread : ∀ o n, (s.setFld F.PRK_ST_SLOT (s.fld F.FWU_ST_RUN_SLOT)).flashRead o n = s.flashRead o n := fun o n => honly.same (fun t => t.flashRead o n) (fun _ _ => rfl)
  have hofs : ∀ slot, (s.setFld F.PRK_ST_SLOT (s.fld F.FWU_ST_RUN_SLOT)).prickingOfs slot = s.prickingOfs slot := fun slot => honly.same (fun t => t.prickingOfs slot) (fun _ _ => rfl)
  unfold State.loadPricking
  dsimp only
  rw [if_neg Bool.false_ne_true, State.setFld_fuses, hofs, hread, hread, ← hb]
  exact ⟨fun code at_ h => by rw [h], fun p h => by rw [h]⟩

/-- Settles O27: each step by its lemmas. -/
theorem windingSteps2To6 : Obligations.WindingSteps2To6 := by
  unfold Obligations.WindingSteps2To6
  intro s us l errA errB hr
  have hfuse : exec (.fuseLoad us) s = .next (if s.inStep 2 then s.fuseLoad us else s) := live_on _ _ hr
  have hrom : exec (.bootRomStart l us) s = .next (if s.inStep 3 then s.bootRom l us else s) := live_on _ _ hr
  have hselect : exec (.imageSlotSelect errA errB us) s = .next (if s.inStep 4 then s.selectSlot errA errB us else s) := live_on _ _ hr
  have hmeasure : exec (.measurementExtend us) s = .next (if s.inStep 5 then s.measureImage.stepDone 5 us else s) := live_on _ _ hr
  have hload : ∀ e, exec (.prickingLoad e us) s = .next (if s.inStep 6 then s.loadPricking e us else s) := fun e => live_on _ _ hr
  rw [hfuse, hrom, hselect, hmeasure]
  refine ⟨fun hin hc hf hm => ?_, fun hin hbad => ?_, fun hin => ?_, fun hin a stA stB ha hA hB => ?_, fun hin => ?_, fun hin slot o b hslot ho hb => ?_, fun h => by rw [h]; rfl, fun h => by rw [h]; rfl,
    fun h => by rw [h]; rfl, fun h => by rw [h]; rfl, fun h e => by rw [hload, h]; rfl⟩
  · rw [hin]
    exact ⟨_, rfl, s.fuseLoad_shows _ us hin hc hf hm rfl⟩
  · rw [hin]
    exact ⟨_, rfl, s.fuseLoad_bad us hin hbad⟩
  · obtain ⟨hcleared, hkept⟩ := s.romDone_mem l us
    rw [hin, if_pos rfl, s.bootRom_eq]
    exact ⟨s.romDone l us, rfl, (State.stepDone_shows _ 3 us (by decide)).1, s.romDone_running l us, hcleared, hkept, fun h => h ▸ s.romDone_served us⟩
  · have h2 : a < 2 := ha ▸ s.bootBlock_next_lt
    have hown : s.imageCheck a (if a = 0 then errA else errB) = if a = 0 then stA else stB := by
      rw [hA, hB]
      rcases (by omega : a = 0 ∨ a = 1) with h | h <;> rw [h] <;> rfl
    have hother : s.imageCheck (1 - a) (if 1 - a = 0 then errA else errB) = if a = 0 then stB else stA := by
      rw [hA, hB]
      rcases (by omega : a = 0 ∨ a = 1) with h | h <;> rw [h] <;> rfl
    rw [hin, if_pos rfl]
    refine ⟨fun h => ⟨_, rfl, s.selectSlot_next _ errA errB us ha (hown.trans h) rfl⟩, fun h h' => ⟨_, rfl, ?_⟩, fun h h' => ⟨_, rfl, ?_⟩⟩
    · exact s.selectSlot_other _ errA errB us ha rfl (fun h0 => h (hown.symm.trans h0)) (hother.trans h') rfl
    · rw [hA, hB]
      exact s.selectSlot_neither _ errA errB us hin (hA ▸ h) (hB ▸ h') rfl
  · rw [hin]
    exact ⟨_, rfl, s.measureImage_shows _ us rfl⟩
  · obtain ⟨hmode, -, -⟩ := (s.inStep_iff 6).1 hin
    have honly : s.onlyRegs (s.setFld F.PRK_ST_SLOT slot) := s.onlyRegs_refl.setFld
    have hm : (s.setFld F.PRK_ST_SLOT slot).mode = 0 := (State.fld_setFld_apart (g := F.PKG_MODE_MODE) (by decide) ..).trans hmode
    have htrial : (s.setFld F.PRK_ST_SLOT slot).bootBlock.trial = s.bootBlock.trial := honly.same (fun t => t.bootBlock.trial) (fun _ _ => rfl)
    subst hslot ho
    obtain ⟨hinvalid, hvalid⟩ := s.loadPricking_read us hb
    have hgo : ∀ e, exec (.prickingLoad e us) s = .next (s.loadPricking e us) := fun e => by rw [hload, hin, if_pos rfl]
    refine ⟨fun ht => ⟨_, hgo true, ?_⟩, fun code at_ h => ⟨fun ht => ⟨_, hgo false, ?_⟩, fun ht => ⟨_, hgo false, ?_⟩⟩, fun p h => ⟨_, hgo false, ?_⟩⟩
    · exact State.failPricking_stops _ _ 0x3008 (some 0) hm (htrial.trans ht) (s.loadPricking_error us)
    · exact State.failPricking_stops _ _ code at_ hm (htrial.trans ht) (hinvalid code at_ h)
    · exact State.failPricking_trial _ _ code at_ hm (htrial.trans ht) (hinvalid code at_ h)
    · obtain ⟨hstep, -, hdone, -⟩ := ((s.setFld F.PRK_ST_SLOT (s.fld F.FWU_ST_RUN_SLOT)).installPricking p (s.fld F.FWU_ST_RUN_SLOT)).stepDone_shows 6 us (by decide)
      rw [hvalid p h]
      exact ⟨hstep, (hdone.same State.prk (fun _ _ => rfl)).trans (State.installPricking_prk ..)⟩

end Sys2Proof.Machine
end
